-- ==== Sys2Proof/Word.lean ====
section
/-! DEFINITION. The bytes and the 32-bit words of the LMA-1024 (R5, R6). -/

namespace Sys2Proof

/-- A byte of a store, a frame or a container (R5). -/
abbrev Byte := BitVec 8

/-- A 32-bit register word, as a register access carries it (R6, R576). -/
abbrev Word := BitVec 32

end Sys2Proof
end

