-- ==== Sys2Proof/Syntax.lean ====
section
/-! DEFINITION. The commands of the block: one constructor of `Instr` for each row of spec/opcode_table.json, with the
operands a sender gives it, and the messages those operands carry. -/

namespace Sys2Proof

/-- Who asks for a register or bulk access: a node of the fabric, the Owl, or warren core 0 or 1 (R73, R108, R575). -/
inductive Requester where
  | node (n : Nat)
  | owl
  | warren (k : Nat)
deriving DecidableEq, Repr

/-- One access: its requester and the TAG the requester chose (R576, R579; the cores' accesses carry no TAG). -/
structure Access where
  who : Requester
  tag : Nat
deriving DecidableEq, Repr

/-- The payload of a class 3 frame (R218); `msg`: 1 SYNC, 2 DELAY_REQ, 3 DELAY_RESP. -/
structure TimeMsg where
  msg : Nat
  domain : Nat
  quality : Nat
  hops : Nat
  epoch : Nat
  wrap : Nat
  timeNs : Nat
  timeFrac : Nat
  incFrac : Nat
  incInt : Nat
  bound : Nat
  hash : Nat
deriving DecidableEq, Repr

/-- LACK of class 4 (R454): acknowledgement, credit limits, or a NAK. -/
structure LackMsg where
  nak : Bool
  lseq : Nat
  limits : List Nat
deriving DecidableEq, Repr

/-- CAP of class 4 (R454): a port's capability exchange. -/
structure CapMsg where
  port : Nat
  x2 : Bool
  host : Bool
  nodeValid : Bool
  node : Nat
  serhash : Nat
  cfgGen : Nat
  boot : Nat
  roles : Nat
  bufs : List Nat
  step : Nat
deriving DecidableEq, Repr

/-- One entry of an ADVERT (R454). -/
structure AdvertEntry where
  dest : Nat
  hops : Nat
  rgen : Nat
deriving DecidableEq, Repr

/-- CLAIM of class 4 (R454); KIND 0 FIXED, 1 CLAIM, 2 PINNED. -/
structure ClaimMsg where
  kind : Nat
  held : Bool
  node : Nat
  serial : Nat
  boot : Nat
  floodId : Nat
deriving DecidableEq, Repr

/-- PIN of class 4 (R454). -/
structure PinMsg where
  node : Nat
  serial : Nat
  floodId : Nat
  origin : Nat
deriving DecidableEq, Repr

/-- TREE of class 4 (R454). -/
structure TreeMsg where
  tree : Nat
  hops : Nat
  parentIsYou : Bool
  hash : Nat
deriving DecidableEq, Repr

/-- What the analogue chain of a fast channel presents at a sample instant (R121 to R129): the shaped signal in sampler codes at the
calibrated gain, whether the chain still recovers from an overload, the restorer's estimate of the quiet level. -/
structure FastCode where
  chan : Nat
  signal : Int
  recovering : Bool
  baseline : Int
deriving DecidableEq, Repr

/-- What a precision channel presents as a decimation block completes (R149 to R151, R187, R190): the raw code after the factory trim,
the reference in use in µV, the output current in µA, the regulated voltage in mV, whether a current limit is active. -/
structure PrecInput where
  raw : Int
  refUv : Nat
  iMeas : Nat
  vMeas : Int
  limit : Bool
deriving DecidableEq, Repr

/-- PRIMITIVE (R288): 24 bytes. -/
structure PrimitiveMsg where
  cls : Nat
  group : Nat
  cause : Nat
  ident : Nat
  truncated : Bool
  stream : Bool
  wrap : Nat
  ns : Nat
  w2 : Nat
  unit : Nat
  inputs : Nat
deriving DecidableEq, Repr

/-- DECISION (R289): 32 bytes. KIND 1 ACCEPT, 2 REJECT, 3 SUPERSEDE. -/
structure DecisionMsg where
  kind : Nat
  term : Nat
  ident : Nat
  noBuilder : Bool
  builder : Nat
  eventNo : Nat
  rule : Nat
  newPre : Nat
  newPost : Nat
deriving DecidableEq, Repr

/-- ACK of a decision (R290): 16 bytes. -/
structure DecisionAckMsg where
  kind : Nat
  term : Nat
  ident : Nat
deriving DecidableEq, Repr

/-- HEARTBEAT (R292): 16 bytes. -/
structure HeartbeatMsg where
  term : Nat
  master : Nat
  sealedWrap : Nat
  sealedEpoch : Nat
  eventNo : Nat
deriving DecidableEq, Repr

/-- ANNOUNCE (R290): 528 bytes. Bit i of the map names node i as a contributor. -/
structure AnnounceMsg where
  term : Nat
  eventNo : Nat
  map : Nat
deriving DecidableEq, Repr

/-- RETRO (R291): 32 bytes. -/
structure RetroMsg where
  group : Nat
  term : Nat
  ident : Nat
  wrap : Nat
  ns : Nat
  w2 : Nat
  eventNo : Nat
deriving DecidableEq, Repr

/-- A DATA frame of a fragment (R345): the transfer header and the record words it carries. -/
structure DataMsg where
  last : Bool
  reassigned : Bool
  index : Nat
  ident : Nat
  eventNo : Nat
  origBuilder : Nat
  term : Nat
  total : Nat
  words : List Nat
  poison : Bool
deriving DecidableEq, Repr

/-- A builder's ACK (R345): the transfer header alone. -/
structure FragAckMsg where
  ident : Nat
  eventNo : Nat
  origBuilder : Nat
  term : Nat
deriving DecidableEq, Repr

/-- The size of each in bytes (R288 to R292, R345). -/
def PrimitiveMsg.len (_ : PrimitiveMsg) : Nat := 24

/-- DECISION. -/
def DecisionMsg.len (_ : DecisionMsg) : Nat := 32

/-- ACK. -/
def DecisionAckMsg.len (_ : DecisionAckMsg) : Nat := 16

/-- HEARTBEAT. -/
def HeartbeatMsg.len (_ : HeartbeatMsg) : Nat := 16

/-- ANNOUNCE. -/
def AnnounceMsg.len (_ : AnnounceMsg) : Nat := 528

/-- RETRO. -/
def RetroMsg.len (_ : RetroMsg) : Nat := 32

/-- DATA: header and words. -/
def DataMsg.len (m : DataMsg) : Nat := 24 + 4 * m.words.length

/-- A builder's ACK. -/
def FragAckMsg.len (_ : FragAckMsg) : Nat := 24

/-- What Fill and the start-up self-test find (R554, R555), and the straps sampled at its end (R84): whether each concentrator's fill
completed and its self-test passed, whether the PT die passed, the tiles that passed. -/
structure FillResult where
  fillA : Bool
  fillB : Bool
  testA : Bool
  testB : Bool
  pt : Bool
  tiles : Nat
  strap : Nat
deriving DecidableEq, Repr

/-- The commands of the block: one constructor for each row of spec/opcode_table.json. -/
inductive Instr where
  /-- VIN_VALID (R80): VIN comes within range with RST_N high and rails good, and the module leaves Off and begins Fill. -/
  | vinValid
  /-- VIN_CUTOFF (R497): VIN stays below 4.2 V for 1 ms, and the PM die turns every domain off, including D_AON, and holds the module in Off. -/
  | vinCutoff
  /-- RST_N_RESET (R604): An RST_N low pulse of at least 10 µs resets the module to Off, or wakes it from Hibernate. -/
  | rstNReset (lowNs : Nat)
  /-- FILL_DONE (R80): Fill and self-test complete, and the module enters Verify, Fault FILL_FAIL or Fault SELFTEST. -/
  | fillDone (r : FillResult)
  /-- VERIFY_DONE (R80): Slot choice and container verification end, and the module enters Configure, Safe-Config or Fault. -/
  | verifyDone (nvm : Nat)
  /-- RECOVERY_LOAD (R95): With BOOT_SEL 0b11, a length and container received on SVC_RX are verified and lead to Safe-Config. -/
  | recoveryLoad (bytes : List Byte)
  /-- CONFIGURE_DONE (R106): Configure checks the image for conflicts, applies the sections in order, and the module enters Join or Safe-Config. -/
  | configureDone (cal : List (Nat × List Nat))
  /-- RESEAT_COMPLETE (R57): Reseat completes, the queues are emptied, and the module enters Live or resumes opening fragments. -/
  | reseatComplete
  /-- FAULT_REPORT (R83): In Fault, the line LMA FAULT cc is sent on SVC_TX every 1 s. -/
  | faultReport
  /-- SYS_RESTART (R86): A write of the restart key is answered OK, and a commanded restart begins within 10 µs. -/
  | sysRestart (a : Access) (key : Word)
  /-- NEW_NONCE (R113): The SEC_CMD NEW_NONCE command draws a fresh nonce. -/
  | newNonce (a : Access)
  /-- QUOTE (R118): The SEC_CMD QUOTE command builds a signed attestation quote in SEC_QUOTE. -/
  | quote (a : Access)
  /-- CONFIRM (R94): The SEC_CMD CONFIRM command ends a trial: CONFIRMED and REJECTED entries are written and the anti-rollback counters advance. -/
  | confirm (a : Access)
  /-- OPEN_NVM (R114): The signed SEC_CMD OPEN_NVM command opens the pass-through for the slot that is not running. -/
  | openNvm (a : Access)
  /-- CLOSE_NVM (R113): The SEC_CMD CLOSE_NVM command closes the NVM pass-through. -/
  | closeNvm (a : Access)
  /-- VERIFY_SLOT (R117): The SEC_CMD VERIFY_SLOT command verifies the writable slot and writes TRIAL into its record only on success. -/
  | verifySlot (a : Access)
  /-- ADD_KEY (R111): The SEC_CMD ADD_KEY command activates an owner key slot, unsigned only for the first key. -/
  | addKey (a : Access)
  /-- REVOKE_KEY (R111): The signed SEC_CMD REVOKE_KEY command revokes an owner key slot, refused for the last ACTIVE one. -/
  | revokeKey (a : Access)
  /-- DEBUG_OPEN (R112): The SEC_CMD DEBUG_OPEN command verifies a debug token and opens its scope until reset. -/
  | debugOpen (a : Access)
  /-- SEC_CMD_DONE (R113): A running SEC command completes, BUSY falls and RESULT is set. -/
  | secCmdDone
  /-- NVM_ERASE64K (R116): An OP ERASE64K write starts a 64 KiB sector erase at SEC_NVM_ADDR, subject to the range check. -/
  | nvmErase64k (a : Access)
  /-- NVM_PROGRAM (R116): An OP PROGRAM write programs 256 bytes from the buffer, subject to the range check. -/
  | nvmProgram (a : Access)
  /-- NVM_READ (R116): An OP READ write reads 256 bytes into SEC_NVM_BUF. -/
  | nvmRead (a : Access)
  /-- NVM_OP_DONE (R116): A pass-through operation completes at the flash, NVM_BUSY falls and NVM_RESULT is set. -/
  | nvmOpDone (ok : Bool)
  /-- NVM_POLL_TIMEOUT (R116): The status poll of an erase or program exceeds 3 s or 5 ms, and NVM_RESULT reads TIMEOUT. -/
  | nvmPollTimeout
  /-- REGISTER_WRITE (R580): A write to a register that has no row of its own is checked for authorisation, tier and domain, and applied. -/
  | registerWrite (a : Access) (addr count : Nat) (data : List Word) (zeroOk : Bool)
  /-- RC_COUNTER_READ (R6): An RC field is read, and it clears when the read is answered OK. -/
  | rcCounterRead (a : Access) (addr count : Nat)
  /-- WIDE_LO_READ (R72): A _LO read with status OK latches the whole wide value in the requester's shadow. -/
  | wideLoRead (a : Access) (addr count : Nat)
  /-- WIDE_HI_READ (R72): A _HI read returns the shadow's high half and empties it, or returns the live half with UNLATCHED. -/
  | wideHiRead (a : Access) (addr : Nat)
  /-- WIDE_LO_WRITE (R74): A _LO write is held without changing any register. -/
  | wideLoWrite (a : Access) (addr : Nat) (w : Word)
  /-- WIDE_HI_WRITE (R74): A _HI write applies the held wide value at one tick and carries the status of the whole write. -/
  | wideHiWrite (a : Access) (addr : Nat) (w : Word)
  /-- SNAP_ARM (R78): A write of SYS_SNAP ARM arms a snapshot, replacing any earlier arming. -/
  | snapArm (a : Access) (w : Word)
  /-- EPOCH_BOUNDARY (R29): The stamping time enters a new epoch, and every block acts on the boundary at that tick. -/
  | epochBoundary
  /-- SQUIRREL_EVAL_TIMER (R513): While the stamping time is not established, Squirrel evaluates every 262 144 ticks. -/
  | squirrelEvalTimer
  /-- POWER_SAMPLE (R512): The PM die samples input power and adds the sample's energy to BDG_E_TOTAL. -/
  | powerSample (mw : Nat) (tj : Int)
  /-- EPOCH_COMMIT (R44): Once its conditions hold and queue space exists, an epoch's records and COMMIT record are appended and published at one tick. -/
  | epochCommit
  /-- GRID_INSTANT_EVAL (R268): TRG_LAG ticks after a grid instant, Lynx evaluates it: units fire, groups are met, and a local trigger may form. -/
  | gridInstantEval
  /-- PIN_UNIT_ENABLE (R275): A write enabling a pin unit whose pin is not TRIGGER is refused with BUSY_RESOURCE. -/
  | pinUnitEnable (a : Access) (u : Nat) (w : Word)
  /-- DECISION_ACCEPT (R41): An ACCEPT decision attaches an event number and builder, and is acknowledged after mirroring. -/
  | decisionAccept (viaTree : Bool) (m : DecisionMsg)
  /-- DECISION_REJECT (R41): A REJECT decision stops building and discards the fragment's staging. -/
  | decisionReject (viaTree : Bool) (m : DecisionMsg)
  /-- DECISION_SUPERSEDE (R336): A SUPERSEDE decision frees the built content and restarts extraction under a clipped new window. -/
  | decisionSupersede (viaTree : Bool) (m : DecisionMsg)
  /-- DECISION_DEADLINE (R41): The decision deadline passes for a speculative fragment, and it becomes ORPHANED or DISCARDED. -/
  | decisionDeadline (ident : Nat)
  /-- EMPTY_EPOCH_DEADLINE (R616): An epoch without fragments and without a SEAL becomes RESOLVED when the stamping time passes its end plus D. -/
  | emptyEpochDeadline
  /-- FRAGMENT_BUILT (R335): A fragment's records are built and packed, unused chunks are freed, and the epoch may become BUILT. -/
  | fragmentBuilt (ident : Nat)
  /-- PRIMITIVE_RX (R288): A PRIMITIVE is received and forwarded to the parent, or queued at the acting master. -/
  | primitiveRx (p : Nat) (m : PrimitiveMsg)
  /-- PRIMITIVE_DUE (R294): A held primitive becomes due at the master, which decides it by rule and sends ANNOUNCE, ACCEPT, SUPERSEDE or RETRO. -/
  | primitiveDue
  /-- DECISION_REPEAT (R40): The master repeats an unacknowledged decision until it is acknowledged or the deadline passes. -/
  | decisionRepeat (ident kind : Nat)
  /-- DECISION_ACK_RX (R290): An ACK reaches the master and ends the repetition of its decision. -/
  | decisionAckRx (m : DecisionAckMsg)
  /-- HEARTBEAT_RX (R293): A HEARTBEAT is received; its SEAL resolves speculative fragments, and a higher TERM makes an acting master step down. -/
  | heartbeatRx (viaTree : Bool) (m : HeartbeatMsg)
  /-- TRIGGER_STANDBY_TAKEOVER (R296): The trigger standby hears no HEARTBEAT for DEC_DEADLINE, raises TERM and becomes acting master. -/
  | triggerStandbyTakeover
  /-- RETRO_RX (R298): A RETRO message opens and accepts a retro fragment in the current epoch. -/
  | retroRx (m : RetroMsg)
  /-- ANNOUNCE_RX (R347): A builder receives an ANNOUNCE and opens a merge slot. -/
  | announceRx (m : AnnounceMsg)
  /-- FRAGMENT_DATA_RX (R349): A builder receives a DATA frame, reserving chunks at the first frame and completing the merge when every fragment is in. -/
  | fragmentDataRx (m : DataMsg)
  /-- MERGE_TIMEOUT (R347): FRAG_TIMEOUT expires on a merge slot, and the merge completes as PARTIAL. -/
  | mergeTimeout (n : Nat)
  /-- FRAGMENT_ACK_RX (R346): A contributor receives a builder ACK and retires the fragment. -/
  | fragmentAckRx (m : FragAckMsg)
  /-- FRAGMENT_RESEND (R346): An unacknowledged fragment is sent again after RESEND_US. -/
  | fragmentResend (ident : Nat)
  /-- FRAGMENT_ABANDON (R346): A fragment still unacknowledged 2 s after its epoch ends is retired and counted. -/
  | fragmentAbandon (ident : Nat)
  /-- MERGE_IDENTITY_EXPIRE (R350): A builder drops a merged fragment identity 2 s after the end of its epoch. -/
  | mergeIdentityExpire (ident : Nat)
  /-- RING_ITEM_STORE (R311): An item received over a tile link is stored in the raw ring, with block allocation, close and directory updates. -/
  | ringItemStore
  /-- PACK_JOB_START (R386): A packing job starts once its pool buffers are free, in build order. -/
  | packJobStart
  /-- PACK_JOB_DONE (R385): A packing job ends, stopping early at ULEN, and its chain is copied to staging. -/
  | packJobDone (engine : Nat)
  /-- LPS_DJ_GO (R379): A decompressor GO starts a job on two ranges of the decompressor area, or is refused. -/
  | lpsDjGo (a : Access)
  /-- LPS_DJ_DONE (R376): A decompression job ends with OK, LIMIT, SHORT, FORMAT, CRC, POISON or BAD_ARG. -/
  | lpsDjDone
  /-- CRC_CLAIM (R391): A CLAIM write to a free CRC unit makes the writer its owner and resets VAL. -/
  | crcClaim (a : Access) (u : Nat)
  /-- CRC_RELEASE (R391): The owner's RELEASE write frees a CRC unit. -/
  | crcRelease (a : Access) (u : Nat)
  /-- CRC_CLAIM_TIMEOUT (R391): A CRC claim lapses 10 s after the owner's last access. -/
  | crcClaimTimeout (u : Nat)
  /-- CRC_FEED (R392): A write to CRC_U_FEED feeds NBYTES bytes into VAL. -/
  | crcFeed (a : Access) (u : Nat) (w : Word)
  /-- CRC_VAL_WRITE (R392): A write to CRC_U_VAL replaces the running value. -/
  | crcValWrite (a : Access) (u : Nat) (w : Word)
  /-- CRC_RANGE_GO (R393): A range job starts over LEN bytes of DRAM, or ends at once with BAD_ARG. -/
  | crcRangeGo (a : Access) (u : Nat)
  /-- CRC_RANGE_ABORT (R393): ABORT ends a range job with ABORTED. -/
  | crcRangeAbort (a : Access) (u : Nat)
  /-- CRC_RANGE_DONE (R393): A range job completes and leaves its running value in VAL. -/
  | crcRangeDone (u : Nat)
  /-- EGQ_CFG_WRITE (R397): A write of queue base, size or enable is checked and refused or accepted; EN takes effect at the next boundary. -/
  | egqCfgWrite (a : Access) (q : Nat) (w : Word)
  /-- EGQ_APERTURE_READ (R405): A class 5 read of an aperture forms up to 28 tagged entries from the front slot and from RD. -/
  | egqApertureRead (a : Access) (q n : Nat)
  /-- BULK_WINDOW_READ (R21): A class 5 read of the DRAM bulk window returns tagged entries, stopping at excluded ranges. -/
  | bulkWindowRead (a : Access) (addr n : Nat)
  /-- EGQ_MARK (R408): The MARK command sets MARK to RD. -/
  | egqMark (a : Access) (q : Nat)
  /-- EGQ_REWIND (R408): The REWIND command sets RD back to MARK. -/
  | egqRewind (a : Access) (q : Nat)
  /-- EGQ_RELEASE (R409): The RELEASE command moves REL to the last whole record at or before MARK and answers after mirroring. -/
  | egqRelease (a : Access) (q : Nat)
  /-- EGQ_MARK_RELEASE (R409): The MARK_RELEASE command sets MARK to RD, then releases as RELEASE. -/
  | egqMarkRelease (a : Access) (q : Nat)
  /-- LOOP_EXECUTION (R418): A pacing sample starts one execution of a slot's active program, which may be held, overrun or trip SAFE. -/
  | loopExecution (t slot : Nat) (overrun : Bool)
  /-- LOOP_STALL (R429): A loop channel delivers no sample for 16 output periods, and the slot goes SAFE with cause STALL. -/
  | loopStall (t slot m : Nat)
  /-- BVR_START (R431): A START command starts a valid bank and takes drive ownership, or is refused. -/
  | bvrStart (a : Access) (t slot k : Nat)
  /-- BVR_SWITCH (R431): A SWITCH command hands over to the idle bank with the same OUT channel. -/
  | bvrSwitch (a : Access) (t slot : Nat)
  /-- BVR_STOP (R431): A STOP command stops the slot, releases ownership and drives 0 V. -/
  | bvrStop (a : Access) (t slot : Nat)
  /-- BVR_FORCE_SAFE (R431): A FORCE_SAFE command sends a running slot to SAFE with cause FORCED. -/
  | bvrForceSafe (a : Access) (t slot : Nat)
  /-- BVR_INJ_GO (R434): An INJ_GO command starts the test generator and, with WITH_CAP, arms a capture. -/
  | bvrInjGo (a : Access) (t slot : Nat)
  /-- BVR_INJ_STOP (R434): An INJ_STOP command stops the test generator. -/
  | bvrInjStop (a : Access) (t slot : Nat)
  /-- BVR_CAP_ARM (R435): A CAP_ARM command starts a capture and raises CAPTURE_ID. -/
  | bvrCapArm (a : Access) (t slot : Nat)
  /-- BVR_CAP_STOP (R435): A CAP_STOP command ends a capture with a closing LAST point. -/
  | bvrCapStop (a : Access) (t slot : Nat)
  /-- BVR_BANK_WRITE (R440): A write to active-bank operations, coefficients, bank register or PACE_CH while the slot is not STOPPED is refused. -/
  | bvrBankWrite (a : Access) (t slot k n : Nat) (w : Word)
  /-- TDC_EDGE (R249): A discriminator or pin edge is converted into a hit word, subject to dead time, hold-off and buffer space. -/
  | tdcEdge (src ev code : Nat)
  /-- DISC_HOLDOFF_END (R132): HOLDOFF ticks after a hit, the discriminator accepts hits again. -/
  | discHoldoffEnd (c : Nat)
  /-- HIT_RELEASE (R253): 64 ticks after its edge, a hit word is released to both concentrators after the arming check. -/
  | hitRelease
  /-- TDC_CAL_GO (R262): A calibration GO clears the counts of the sources in scope and starts INTERNAL or LIVE collection. -/
  | tdcCalGo (a : Access) (w : Word)
  /-- TDC_CAL_ABORT (R262): An ABORT write ends a running calibration with RESULT ABORTED. -/
  | tdcCalAbort (a : Access) (w : Word)
  /-- TDC_CAL_SOURCE_DONE (R258): A source reaches 2^LOG2_HITS edges, and its table is computed and installed or failed. -/
  | tdcCalSourceDone (src : Nat) (counts : List Nat)
  /-- TDC_CAL_TIMEOUT (R259): A LIVE source reaches TIMEOUT_S and fails. -/
  | tdcCalTimeout (src : Nat)
  /-- TDC_TABLE_LOAD (R260): A LOAD write installs the staging table at one tick and sets VALID. -/
  | tdcTableLoad (a : Access) (w : Word)
  /-- SETTLE_COUNT_END (R124): A fast channel's settle count runs out and SETTLING clears. -/
  | settleCountEnd (c : Nat)
  /-- PRECISION_SAMPLE_DONE (R180): A decimation block completes an output sample, stamped and corrected, with auto-ranging applied. -/
  | precisionSampleDone (n : Nat) (x : PrecInput)
  /-- PREC_BUFFER_STORE (R194): A precision sample and its page tag are stored in DRAM, and CNV_WR_CNT advances. -/
  | precBufferStore
  /-- PREC_SETTLE_END (R165): A precision settling count runs out and SETTLING clears. -/
  | precSettleEnd (n : Nat)
  /-- REF_SETTLED (R187): The reference settle time ends and REF_UNSETTLED clears. -/
  | refSettled (n : Nat) (internal : Bool)
  /-- PCV_CFG_IN_FORCE (R184): A new ODR or FILTER comes into force at the first grid instant 10 µs after the write. -/
  | pcvCfgInForce (n : Nat)
  /-- PCH_CFG_WRITE (R171): A write to PCH_IN, PCH_EXC or PCH_DRV is checked against mode combinations, ownership and the power limit. -/
  | pchCfgWrite (a : Access) (n r : Nat) (w : Word)
  /-- EXC_REVERSAL (R152): At each half-period end, reversing excitation exchanges the polarity. -/
  | excReversal (n : Nat)
  /-- EXC_DUTY_ON (R154): A duty period begins and excitation turns on. -/
  | excDutyOn (n : Nat)
  /-- EXC_DUTY_OFF (R154): The on-window of a duty period ends and excitation turns off. -/
  | excDutyOff (n : Nat)
  /-- EXC_LIMIT_ASSERT (R151): The excitation current limit is active for 8 cycles, and EXC_LIMIT asserts a fault. -/
  | excLimitAssert (n : Nat)
  /-- DRV_LIMIT_ASSERT (R158): The drive current limit is active for 8 cycles, and DRV_LIMIT is set with an event record. -/
  | drvLimitAssert (n : Nat)
  /-- FAULT_ASSERT (R169): A monitored pin is out of window for 8 cycles, and the channel enters fault. -/
  | faultAssert (n c : Nat)
  /-- FAULT_AUTO_CLEAR (R170): Under AUTO, a cause absent for 4 096 cycles clears its bit. -/
  | faultAutoClear (n c : Nat)
  /-- FAULT_CLEAR_WRITE (R170): A W1C write clears PCH_FAULT cause bits under LATCH. -/
  | faultClearWrite (a : Access) (n : Nat) (w : Word)
  /-- OD_REQUEST (R197): A CNV_OD_REQ write takes a result slot, or is refused when all slots are taken. -/
  | odRequest (a : Access) (w : Word)
  /-- OD_DROP_TIMEOUT (R198): A request not served in time is dropped with DONE and DROPPED. -/
  | odDropTimeout (slot : Nat)
  /-- OD_SLOT_FREE (R197): Writing 1 to DONE frees a result slot. -/
  | odSlotFree (a : Access) (slot : Nat) (w : Word)
  /-- CAL_GO (R200): A calibration GO holds the channel's range and starts collecting. -/
  | calGo (a : Access) (w : Word)
  /-- CAL_ABORT (R201): An ABORT write ends collection with RESULT ABORTED. -/
  | calAbort (a : Access) (w : Word)
  /-- CAL_COMPUTE_DONE (R201): Collection ends, and the offset or gain is written or refused. -/
  | calComputeDone
  /-- CAL_OFS_WRITE (R202): A write to PCV_CAL_OFS_r is held until the matching gain write. -/
  | calOfsWrite (a : Access) (n r : Nat) (w : Word)
  /-- CAL_GAIN_WRITE (R202): A write to PCV_CAL_GAIN_r applies the held offset and the gain together and sets CAL_VALID. -/
  | calGainWrite (a : Access) (n r : Nat) (w : Word)
  /-- REFIN_PRESENT_SET (R210): REFIN stays within ±10 ppm for 100 ms, and REFIN_PRESENT rises. -/
  | refinPresentSet
  /-- REFIN_LOST (R210): REFIN leaves tolerance, and REFIN_PRESENT falls within 10 µs. -/
  | refinLost
  /-- PLL_LOCK (R244): The time PLL locks to a valid reference. -/
  | pllLock
  /-- OVN_READY (R212): The crystal stays within ±0.05 K for 10 s, and OVN_READY rises. -/
  | ovnReady
  /-- OVN_LEAVE_BAND (R212): The crystal leaves ±0.2 K, and OVN_READY falls. -/
  | ovnLeaveBand
  /-- DOMAIN_EPOCH_BOUNDARY (R223): A domain's own time passes a multiple of 2^20 ns; it corrects, updates MISSED and quality, and may change sync state. -/
  | domainEpochBoundary (x : Nat)
  /-- SYNC_SEND (R220): A parent's domain time passes e × 2^20 + 262 144 ns, and it sends SYNC on its child ports. -/
  | syncSend (x : Nat)
  /-- SYNC_RX (R220): A child receives SYNC and takes t2. -/
  | syncRx (p : Nat) (m : TimeMsg)
  /-- DELAY_REQ_SEND (R220): 131 072 ns after t2, the child sends DELAY_REQ and takes t3. -/
  | delayReqSend (x : Nat)
  /-- DELAY_REQ_RX (R220): A parent receives DELAY_REQ and answers with DELAY_RESP carrying t4. -/
  | delayReqRx (p : Nat) (m : TimeMsg)
  /-- DELAY_RESP_RX (R222): DELAY_RESP completes the exchange; a valid sync gives offset and delay. -/
  | delayRespRx (p : Nat) (m : TimeMsg)
  /-- MASTER_SET_GO (R242): A master's GO write steps its domain to the set value at the next domain boundary, or is refused. -/
  | masterSetGo (a : Access) (x : Nat) (w : Word)
  /-- SLEW_END (R231): The slew residual reaches 0 and SLEWING clears. -/
  | slewEnd
  /-- TOUT_ARM (R236): A write with ARM 1 reads the program fields and arms a TOUT program. -/
  | toutArm (a : Access) (o : Nat) (w : Word)
  /-- TOUT_DISARM (R236): A write of ARM 0 disarms a TOUT program at once. -/
  | toutDisarm (a : Access) (o : Nat) (w : Word)
  /-- TOUT_INSTANCE (R237): An armed program reaches an instance time and drives the pin active. -/
  | toutInstance (o : Nat)
  /-- TOUT_PULSE_END (R237): WIDTH ns after its start, a TOUT pulse ends. -/
  | toutPulseEnd (o : Nat)
  /-- CLAIM_RX (R454): A CLAIM message is received, flooded on, and may refuse a pending claim or prompt a HELD reply. -/
  | claimRx (p : Nat) (m : ClaimMsg)
  /-- CLAIM_HELD (R445): After 16 epochs without refusal, the module holds its ID and sets NODE_VALID. -/
  | claimHeld
  /-- ID_RETRY (R445): A refused FIXED module retries its claim every 1 024 epochs. -/
  | idRetry
  /-- PIN_GO (R446): A FAB_PIN GO write starts flooding a PIN message. -/
  | pinGo (a : Access) (w : Word)
  /-- PIN_RX (R446): The target of a PIN message claims NODE with kind PINNED. -/
  | pinRx (p : Nat) (m : PinMsg)
  /-- PIN_NO_TARGET (R446): No claim from the target arrives within 64 epochs, and RESULT reads NO_TARGET. -/
  | pinNoTarget
  /-- FRAME_RX (R451): A frame is received, checked, sequenced and delivered, forwarded or dropped. -/
  | frameRx (p : Nat) (bytes : List Byte)
  /-- LACK_RX (R452): A LACK acknowledges frames and updates credit limits, and a NAK triggers replay. -/
  | lackRx (p : Nat) (m : LackMsg)
  /-- LACK_SEND (R452): A receiver sends a LACK at least every 256 ticks. -/
  | lackSend (p : Nat)
  /-- REPLAY_TIMEOUT (R452): 4 096 ticks pass without acknowledgement progress, and outstanding frames are replayed. -/
  | replayTimeout (p : Nat)
  /-- CAP_RX (R455): A CAP is recorded; a new partner restarts the port, and quarantine is re-evaluated. -/
  | capRx (p : Nat) (m : CapMsg)
  /-- ADVERT_RX (R458): ADVERT entries update routing entries and alternates. -/
  | advertRx (p : Nat) (entries : List AdvertEntry)
  /-- ROUTE_EXPIRE (R459): An entry's primary leaves ACTIVE or goes unrefreshed for 72 epochs, and it fails over or becomes unreachable. -/
  | routeExpire (d : Nat)
  /-- NODE_DEPART (R459): A node unreachable for DEPART_EPOCHS epochs is declared departed. -/
  | nodeDepart (d : Nat)
  /-- ROUTE_PIN_WRITE (R460): A FAB_RT write with PINNED pins or unpins a destination's route. -/
  | routePinWrite (a : Access) (d : Nat) (w : Word)
  /-- REORDER_TIMEOUT (R462): A held frame waits REORDER_TMO_US, and the flow skips to the lowest held SEQ. -/
  | reorderTimeout (src dst : Nat) (mcast : Bool) (cls : Nat)
  /-- TREE_RX (R465): A TREE message updates parent eligibility and child ports. -/
  | treeRx (p : Nat) (m : TreeMsg)
  /-- HOST_CAP_BEACON (R468): A host-mode port without a valid CAP sends CAP every 256 ticks. -/
  | hostCapBeacon (p : Nat)
  /-- LOG_LINE_SEND (R450): A warren log line is sent as a class 6 frame to LOG_DST while LOG_EN is 1. -/
  | logLineSend (text : List Byte)
  /-- BEACON_TIMER (R484): A DETECT retry instant sends a beacon or counts a failed attempt. -/
  | beaconTimer (p : Nat)
  /-- SILENT_BEACON (R485): A SILENT back-off instant sends a beacon unless PARKED. -/
  | silentBeacon (p : Nat)
  /-- SIGNAL_DETECT (R484): SIGNAL holds 10 µs on a lane, and the port enters TRAIN. -/
  | signalDetect (l : Nat)
  /-- CDR_LOCK (R484): CDR lock holds 100 µs, and the port enters LOCK. -/
  | cdrLock (l : Nat) (inverted : Bool)
  /-- BLOCK_LOCK (R484): Block lock on every signalled lane moves the port to EXCHANGE. -/
  | blockLock (l : Nat) (fec swapped : Bool)
  /-- TRAIN_TIMEOUT (R484): TRAIN lasts 50 ms without exit, a failed attempt. -/
  | trainTimeout (p : Nat)
  /-- LOCK_TIMEOUT (R484): After 10 ms in LOCK, the port continues with locked lanes or counts a failed attempt. -/
  | lockTimeout (p : Nat)
  /-- EXCHANGE_TIMEOUT (R484): EXCHANGE lasts 5 ms without TKO_HOLD, a failed attempt. -/
  | exchangeTimeout (p : Nat)
  /-- READY_RX (R484): A valid CAP and READY complete EXCHANGE, and the port becomes ACTIVE. -/
  | readyRx (p arg : Nat)
  /-- LOSS_OF_SIGNAL (R486): A lane loses SIGNAL; with no lane left, the port leaves ACTIVE and idles 500 µs. -/
  | lossOfSignal (l : Nat)
  /-- LOS_IDLE_END (R486): The 500 µs idle after loss ends, and the port enters DETECT with a beacon. -/
  | losIdleEnd (p : Nat)
  /-- LANE_LOCK_LOST (R487): A joined lane of an x2 port loses lock, and the port re-enters EXCHANGE on its other lane. -/
  | laneLockLost (l : Nat)
  /-- LANE_REJOIN (R487): After 64 epochs of block lock, or REJOIN, the port passes EXCHANGE again with both lanes. -/
  | laneRejoin (p : Nat)
  /-- DOWN_RX (R484): A DOWN ordered set sends the port to SILENT PARKED or to DETECT. -/
  | downRx (p arg : Nat)
  /-- TAKEOVER_OS_RX (R488): A TAKEOVER ordered set puts the port into EXCHANGE with TKO_HOLD. -/
  | takeoverOsRx (p arg : Nat)
  /-- TKO_HOLD_EXPIRE (R488): TKO_HOLD expires after 1.5 s. -/
  | tkoHoldExpire (p : Nat)
  /-- LNK_RETRY (R484): A RETRY write returns the port to DETECT with ATTEMPTS 0. -/
  | lnkRetry (a : Access) (p : Nat)
  /-- LNK_KNOCK (R493): A KNOCK write sends a knock, or is refused. -/
  | lnkKnock (a : Access) (p : Nat)
  /-- KNOCK_DONE (R493): The knock's last burst ends, and the port enters DETECT. -/
  | knockDone (p : Nat)
  /-- LNK_REJOIN (R487): A REJOIN write brings the lost lane back through EXCHANGE. -/
  | lnkRejoin (a : Access) (p : Nat)
  /-- LNK_ADMIN_DOWN (R484): ADMIN_DOWN 1 sends DOWN and takes the port DOWN. -/
  | lnkAdminDown (a : Access) (p : Nat)
  /-- LNK_TEST_PRBS31 (R491): TEST PRBS31 puts the port into TEST sending PRBS31. -/
  | lnkTestPrbs31 (a : Access) (p : Nat)
  /-- LNK_TEST_OFF (R484): TEST OFF returns the port to DETECT. -/
  | lnkTestOff (a : Access) (p : Nat)
  /-- KNOCK_DETECT (R492): A lane detector in D_AON recognises a knock or energy. -/
  | knockDetect (l : Nat) (knock : Bool)
  /-- VOTE_CAST (R507): A CAST write adds the requester's vote to a domain. -/
  | voteCast (a : Access) (d : Nat) (w : Word)
  /-- VOTE_WITHDRAW (R507): A WITHDRAW write removes a vote and may turn the domain's target OFF. -/
  | voteWithdraw (a : Access) (d : Nat) (w : Word)
  /-- VOTE_LEASE_EXPIRE (R508): A HOST or REMOTE vote lapses LEASE_S after its last cast. -/
  | voteLeaseExpire (d node : Nat)
  /-- ACCESS_VOTE_EXPIRE (R509): An ACCESS vote lapses 1 s after the domain's last access. -/
  | accessVoteExpire (d : Nat)
  /-- OFF_DOMAIN_ACCESS (R509): An access to an off domain is answered DOMAIN_OFF, or casts an ACCESS vote and answers DOMAIN_WAKING. -/
  | offDomainAccess (a : Access) (addr : Nat)
  /-- FORCE_NONE (R510): A FORCE NONE write returns a domain to its votes. -/
  | forceNone (a : Access) (d : Nat)
  /-- FORCE_ON (R510): A FORCE ON write holds a domain on. -/
  | forceOn (a : Access) (d : Nat)
  /-- FORCE_OFF (R510): A FORCE OFF write turns a domain off, or is refused. -/
  | forceOff (a : Access) (d : Nat)
  /-- LEVEL_FORCE_WRITE (R510): A PWR_LEVEL_FORCE write forces a level, refused below the ingest level. -/
  | levelForceWrite (a : Access) (w : Word)
  /-- DOMAIN_TRANSITION_DONE (R511): A domain or MOD transition completes and the pending request is acted on. -/
  | domainTransitionDone (d : Nat)
  /-- LEVEL_TRANSITION_DONE (R499): A level change completes, with the window limit taken after or before the rail as ordered. -/
  | levelTransitionDone
  /-- WAKE_TIMER_EXPIRE (R504): The Hibernate wake timer expires and the module wakes. -/
  | wakeTimerExpire
  /-- THERMAL_TRIP (R506): Tj stays at or above 112 °C for 10 ms, and the PM die forces Hibernate. -/
  | thermalTrip
  /-- IRQ_CLAIM (R528): The controller claims the highest-priority eligible source and writes its record to a target queue. -/
  | irqClaim
  /-- IRQ_ACK (R532): An IRQ_ACK write takes a source out of IN_SERVICE. -/
  | irqAck (a : Access) (w : Word)
  /-- IRQ_RAISE (R541): An IRQ_RAISE write latches a SOFT source. -/
  | irqRaise (a : Access) (w : Word)
  /-- IRQ_POP (R537): A POP write removes a target's oldest record and may acknowledge with AUTO_ACK. -/
  | irqPop (a : Access) (t : Nat) (w : Word)
  /-- IRQ_SRC_WRITE (R531): A write of MASK, TARGETS or PRIORITY takes effect after that tick's claim. -/
  | irqSrcWrite (a : Access) (src : Nat) (w : Word)
  /-- NOTIFY_REPEAT (R535): A HOST notify frame is repeated every NOTIFY_MS while the queue stays non-empty without a POP. -/
  | notifyRepeat
  /-- SCRUB_STEP (R556): Hedgehog reads the next word at its paced rate. -/
  | scrubStep (die addr : Nat) (upset double : Bool) (pos : Nat)
  /-- ECC_WINDOW_END (R559): A region's correction window of WINDOW_H hours ends and a new one starts. -/
  | eccWindowEnd (r : Nat)
  /-- ECC_THR_WRITE (R559): A write of ECC_r_THR starts a new correction window. -/
  | eccThrWrite (a : Access) (r : Nat) (w : Word)
  /-- MIRROR_ACK (R564): The standby acknowledges a mirror item, and waiting writes, releases and decisions are answered. -/
  | mirrorAck
  /-- MIRROR_LOST (R564): A mirror item goes unacknowledged for 1 024 ticks, or the link drops, and mirroring stops. -/
  | mirrorLost (drop : Bool)
  /-- PERIODIC_SELFTEST (R565): Every SELFTEST_H hours, a concentrator runs its periodic self-test on reserved rows. -/
  | periodicSelftest (cc : Nat) (pass : Bool)
  /-- WATCHDOG_KICK (R566): An Owl write to PAIR_WDOG restarts the watchdog. -/
  | watchdogKick (a : Access)
  /-- WATCHDOG_EXPIRE (R566): No watchdog kick for WDOG_MS leads to YIELD or a module reset. -/
  | watchdogExpire (standby : Bool)
  /-- LOCKSTEP_MISMATCH (R566): The two Owl cores disagree, leading to YIELD or a module reset. -/
  | lockstepMismatch (standby : Bool)
  /-- CORE_STALL (R566): A core stage holds a flit for 25 000 ticks, leading to YIELD or a module reset. -/
  | coreStall (standby : Bool)
  /-- RAIL_FAULT (R566): The active's rails leave regulation or its heartbeat is absent, and the PT die yields. -/
  | railFault (standby : Bool)
  /-- PAIR_SWITCH (R566): PAIR_CMD SWITCH is answered OK and YIELD follows, or it is refused. -/
  | pairSwitch (a : Access)
  /-- PAIR_REINSTATE (R562): PAIR_CMD REINSTATE returns a FAILED standby to OFF. -/
  | pairReinstate (a : Access)
  /-- PAIR_RETIRE (R562): PAIR_CMD RETIRE sends the standby to FAILED. -/
  | pairRetire (a : Access)
  /-- TAKEOVER (R568): At YIELD, the selector switches and the new active adopts the mirrored state, fills front slots and restarts its controller. -/
  | takeover
  /-- TAKEOVER_GAP_END (R568): The switch-over gap ends and the new active serves registers, admits flits and commits. -/
  | takeoverGapEnd
  /-- WARM_REBUILD_DONE (R571): The warm rebuild reaches the last committed epoch. -/
  | warmRebuildDone
  /-- STANDBY_FILL_DONE (R562): A standby's fill and self-test end, and it enters SYNC or FAILED. -/
  | standbyFillDone (pass : Bool)
  /-- STANDBY_CAUGHT_UP (R562): A standby changing from WARM to HOT has built every epoch and runs as HOT. -/
  | standbyCaughtUp
  /-- STANDBY_REG_READ (R573): A read of PAIR_SB_REG_DATA reads the selected standby register with its RC and RL behaviour. -/
  | standbyRegRead (a : Access)
  /-- STANDBY_WINDOW_READ (R573): A read of the PAIR DRAM window returns standby DRAM, subject to exclusions. -/
  | standbyWindowRead (a : Access) (k : Nat)
  /-- TST_ARM_STRETCH (R586): Arming STRETCH slows the selected units' handshakes by FACTOR. -/
  | tstArmStretch (a : Access)
  /-- TST_ARM_BACKPRESS (R586): Arming BACKPRESS withholds credit on selected ports and classes in on/off cycles. -/
  | tstArmBackpress (a : Access)
  /-- TST_ARM_LANE (R587): Arming LANE injects bit errors, CRC errors or LOS on a lane, refused on host ports. -/
  | tstArmLane (a : Access)
  /-- TST_ARM_TIME (R587): Arming TIME skews or drops received class 3 frames, refused on a master or tree parent. -/
  | tstArmTime (a : Access)
  /-- TST_ARM_MEMERR (R586): Arming MEMERR inverts stored bits at the next write of MEM_ADDR. -/
  | tstArmMemerr (a : Access)
  /-- TST_ARM_RESIDUE (R586): Arming RESIDUE causes one residue mismatch in each selected unit. -/
  | tstArmResidue (a : Access)
  /-- TST_DISARM_ALL (R585): DISARM_ALL disarms every perturbation. -/
  | tstDisarmAll (a : Access)
  /-- TST_DURATION_END (R585): A perturbation's DURATION in epochs runs out and it disarms. -/
  | tstDurationEnd
  /-- TST_BP_TOGGLE (R586): BACKPRESS switches between ON_TICKS and OFF_TICKS. -/
  | tstBpToggle
  /-- JTAG_BYPASS (R591): The BYPASS instruction selects the bypass register. -/
  | jtagBypass (tdi : List Bool)
  /-- JTAG_SAMPLE_PRELOAD (R591): The SAMPLE/PRELOAD instruction captures or preloads the boundary register. -/
  | jtagSamplePreload (pins tdi : List Bool)
  /-- JTAG_EXTEST (R591): The EXTEST instruction drives the pins from the boundary register. -/
  | jtagExtest (pins tdi : List Bool)
  /-- JTAG_IDCODE (R591): The IDCODE instruction shifts out each die's IDCODE. -/
  | jtagIdcode (tdi : List Bool)
  /-- FAST_SAMPLE_INSTANT (R121): Every 25 ticks the samplers of all enabled fast channels take a sample, forming the sample word with OVERRANGE and SETTLING, counting FCH_OVR_CNT and sending it on both tile links. -/
  | fastSampleInstant (codes : List FastCode)
  /-- HOST_ETHERNET_FRAME_RX (R467): A host-mode port receives an Ethernet frame carrying ARP, neighbour solicitation or an ICMP echo, and answers it or discards it. -/
  | hostEthernetFrameRx (p : Nat) (bytes : List Byte)
  /-- DETECTOR_ARM (R504): 10 ms after Hibernate entry, the lane detectors in D_AON arm and can wake the module. -/
  | detectorArm
  /-- PRBS_LOCK_GAINED (R491): After 1 024 consecutive error-free bits, a lane's PRBS31 checker sets PRBS_LOCK and begins counting bits and errors. -/
  | prbsLockGained (l : Nat)
  /-- PRBS_LOCK_LOST (R491): After more than 512 errors among 4 096 bits, the checker clears PRBS_LOCK and reseeds. -/
  | prbsLockLost (l bits errs : Nat)
  /-- MIRROR_LINK_RESTORED (R572): The mirror link acknowledges again, and the active restarts sync by sending the container, the RW fields and release pointers and then the live mirror stream. -/
  | mirrorLinkRestored
  /-- TAP_RESET (R591): TRST_N asserted resets the IEEE 1149.1 TAP controllers of the chain asynchronously. -/
  | tapReset
  /-- EM_BUDGET_ACCUMULATE (R611): Every minute, the module adds 1.82 ppm/h × AF / 60 to each die's used electromigration budget. -/
  | emBudgetAccumulate (tj : List Int)
  /-- WEAR_STORE_UPDATE (R611): At every 24 h of powered time, the PM die writes the accumulated wear values into its nonvolatile wear store. -/
  | wearStoreUpdate
deriving DecidableEq, Repr

end Sys2Proof
end

