-- ==== Sys2Proof/Decode.lean ====
section
/-! DEFINITION. The command that a word spells by the opcode table's bits. The module takes commands from its pins, its buses and its
own time; no row of spec/opcode_table.json gives a word, so there is nothing to decode. -/

namespace Sys2Proof

/-- The command that a word of the opcode table spells: none, since no row has bits. (DESIGN CHOICE, log entry 5.) -/
def decodeTableWord (_nbits _w : Nat) : Option Instr := none

end Sys2Proof
end

