-- ==== Sys2Proof/Machine/Crc.lean ====
section
/-! DEFINITION. The two check codes of frames and containers: CRC-32C (R389) and the header CRC-8 (R449), bit by bit. -/

namespace Sys2Proof.Machine

/-- One byte into a reflected 32-bit CRC register with the Castagnoli polynomial (R389). -/
def crc32Step (r : BitVec 32) : Nat → BitVec 32
  | 0 => r
  | n + 1 => crc32Step ((r >>> 1) ^^^ (if r.getLsbD 0 then 0x82F63B78#32 else 0#32)) n

/-- The running value of a CRC-32C after one more byte (R389, R392). -/
def crc32Byte (r : BitVec 32) (v : Nat) : BitVec 32 := crc32Step (r ^^^ BitVec.ofNat 32 (v % 256)) 8

/-- The running value of a CRC-32C over bytes (R392). -/
def crc32Run (r : BitVec 32) (l : List Nat) : BitVec 32 := l.foldl crc32Byte r

/-- CRC-32C of bytes (R389). -/
def crc32c (l : List Nat) : Nat := (~~~ (crc32Run 0xFFFFFFFF#32 l)).toNat

/-- One byte into the header CRC-8: polynomial 0x07, most significant bit first (R449). -/
def crc8Step (r : BitVec 8) : Nat → BitVec 8
  | 0 => r
  | n + 1 => crc8Step ((r <<< 1) ^^^ (if r.getLsbD 7 then 7#8 else 0#8)) n

/-- HCRC over header bytes 0x00 to 0x0E (R449). -/
def hcrc (l : List Nat) : Nat := (l.foldl (fun r v => crc8Step (r ^^^ BitVec.ofNat 8 (v % 256)) 8) (0#8)).toNat

end Sys2Proof.Machine
end

