-- ==== Sys2Proof/Config.lean ====
section
/-! DEFINITION. What the spec leaves open: free values, each a constant without a body, applied to the number of draws so
far or to the operands it depends on. Nothing can be proved about which value they take. -/

namespace Sys2Proof.Config

/-- The integral frequency term of the domain servo, in 2^-32 ns per tick, which R223 names and does not give. -/
opaque servoIntegral : Nat → Int

/-- What the recovered lane clock adds to the parent's increment, in 2^-32 ns per tick (R223): a measured rate. -/
opaque laneRate : Nat → Int

/-- The data bits, of the 64 of a word, that an upset at a position inverts (R546, R586): which bit or symbol stands at a position
is not given, for DRAM and for SRAM. -/
opaque upsetBits : Bool → Nat → Nat

/-- Which way a quotient is rounded where the spec gives no way, or gives "to nearest" without saying what a tie does: true upward; by
dividend and divisor. -/
opaque roundUp : Int → Nat → Bool

/-- The factory delay of a Woodpecker source at the die's present temperature, ps (R248): a measured value, by source and by the
number of epochs since reset. -/
opaque factoryDelay : Nat → Nat → Nat

/-- The largest change of a die's temperature since its last calibration, K (R262 DT_CAL): a measured value. -/
opaque calDrift : Nat → Nat

/-- What a SAT gives whose LO lies above its HI (R424), with 31 fraction bits, by LO, HI and input. -/
opaque satCrossed : Int → Int → Int → Int

/-- The operands of the closing point of a capture that ends in a bank without CAPTURE (R435), by CAPTURE_ID and operand. -/
opaque noOperand : Nat → Nat → Int

/-- By how many units of Q1.23 the sine generator differs from its formula (R434): within 2, by amplitude and phase. -/
opaque sineError : Nat → Nat → Int

/-- The oven's frequency change since manufacture, ppb, as the servo's integral term shows it (R611): a measured value. -/
opaque ovenAge : Nat → Int

/-- The bytes that a range job has processed when ABORT ends it (R393): below its LEN. -/
opaque rangeDone : Nat → Nat

/-- An RST_N low pulse of 1 µs to 10 µs, in ns, resets the module (R604): the filter ignores shorter ones, 10 µs is accepted. -/
opaque resetTaken : Nat → Bool

/-- The vendor's public key in mask ROM (R103), 97 bytes: its value is not given. -/
opaque vendorKey : List Nat

/-- A byte of a nonce, by draw and place (R113): how nonces are drawn is not given. -/
opaque nonceByte : Nat → Nat → Nat

/-- A byte of the identity certificate, by place (R109). -/
opaque certByte : Nat → Nat

/-- The device identity key's signature over a quote (R109, R118), a 768-bit number: the key is never readable. -/
opaque quoteSig : List Nat → Nat

/-- SYS_STATE.SLOT of a module started in recovery (R86, R95), which the spec leaves undefined. -/
opaque recoverySlot : Nat → Nat

/-- A byte of the flash that a failed or cut-off erase or program may have changed (R91, R116), by draw and offset. -/
opaque flashLeft : Nat → Nat → Nat

/-- The incarnation that the Owl draws at Fill (R448), by draw: a nonzero 16-bit value is made of it. -/
opaque bootDraw : Nat → Nat

end Sys2Proof.Config
end

