-- ==== Sys2Proof/Machine/Bits.lean ====
section
/-! DEFINITION. Bit fields, signed readings, saturation and rounding of numbers (R5, R6), used by every block. -/

namespace Sys2Proof.Machine

/-- The field `[hi:lo]` of a number (bit 0 least significant, R5). -/
def bitsOf (v hi lo : Nat) : Nat := v / 2 ^ lo % 2 ^ (hi + 1 - lo)

/-- Bit `i` of a number as a Bool. -/
def bitAt (v i : Nat) : Bool := v / 2 ^ i % 2 == 1

/-- A Bool as one bit. -/
def b2n (b : Bool) : Nat := if b then 1 else 0

/-- The number with bit `i` set to `x`. -/
def setBit (v i : Nat) (x : Bool) : Nat :=
  v - v / 2 ^ i % 2 * 2 ^ i + b2n x * 2 ^ i

/-- The two's complement reading of the low `w` bits of a number. -/
def signed (w v : Nat) : Int :=
  if v % 2 ^ w < 2 ^ (w - 1) then (v % 2 ^ w : Nat) else ((v % 2 ^ w : Nat) : Int) - (2 ^ w : Nat)

/-- The low `w` bits of an integer in two's complement. -/
def unsigned (w : Nat) (i : Int) : Nat := (i % (2 ^ w : Nat)).toNat

/-- An integer held inside `[lo, hi]` (the nearest limit outside it). -/
def clampI (lo hi i : Int) : Int := if i < lo then lo else if hi < i then hi else i

/-- A natural number held inside `[lo, hi]` (the nearest limit outside it). -/
def clampN (lo hi n : Nat) : Nat := if n < lo then lo else if hi < n then hi else n

/-- Saturation to `w` bits, unsigned. -/
def satU (w n : Nat) : Nat := if n < 2 ^ w then n else 2 ^ w - 1

/-- Saturation of an integer to `w` bits of two's complement. -/
def satS (w : Nat) (i : Int) : Int := clampI (-(2 ^ (w - 1) : Nat)) ((2 ^ (w - 1) : Nat) - 1) i

/-- Division rounded to nearest, ties away from zero. -/
def divNearestAway (n : Int) (d : Nat) : Int :=
  if d = 0 then 0
  else if 0 ≤ n then (2 * n + d) / (2 * d : Nat) else -((-2 * n + d) / (2 * d : Nat))

/-- Division rounded to nearest, ties upward. -/
def divNearestUp (n : Int) (d : Nat) : Int := if d = 0 then 0 else (2 * n + d) / (2 * d : Nat)

/-- Division rounded to nearest, a tie as Config leaves it open. (DESIGN CHOICE, log entry 13.) -/
def divTie (n : Int) (d : Nat) : Int :=
  if 2 * (n % (d : Int)) < d then n / d else if (d : Int) < 2 * (n % (d : Int)) then n / d + 1 else n / d + b2n (Config.roundUp n d)

/-- Division whose rounding Config leaves open; exact where there is no remainder. (DESIGN CHOICE, log entry 13.) -/
def divOpen (n : Int) (d : Nat) : Int := if n % (d : Int) = 0 then n / d else n / d + b2n (Config.roundUp n d)

/-- Least significant byte first: the `n` bytes of a number (R5). -/
def leBytes : Nat → Nat → List Nat
  | 0, _ => []
  | n + 1, v => v % 256 :: leBytes n (v / 256)

/-- The number that bytes spell, least significant byte first (R5). -/
def leVal : List Nat → Nat
  | [] => 0
  | b :: l => b % 256 + 256 * leVal l

/-- The 32-bit words that bytes spell, least significant byte first (R5). -/
def leWords : List Nat → List Nat
  | a :: b :: c :: d :: l => leVal [a, b, c, d] :: leWords l
  | [] => []
  | l => [leVal l]

/-- The bytes of 32-bit words, in order. -/
def wordBytes (l : List Nat) : List Nat := l.flatMap (leBytes 4)

/-- Rounding up of a division (0 for a zero divisor). -/
def ceilDiv (n d : Nat) : Nat := (n + d - 1) / d

/-- Serial comparison modulo `2 ^ w`: `a` is newer than `b`. -/
def serialNewer (w a b : Nat) : Bool :=
  let x := (a + 2 ^ w - b % 2 ^ w) % 2 ^ w
  decide (0 < x) && decide (x < 2 ^ (w - 1))

end Sys2Proof.Machine
end

