-- ==== Sys2Proof/Machine/Map.lean ====
section
/-! DEFINITION. Finite tables with natural-number keys, kept as lists in rising key order: the shape of the register
file, of memory and of every table whose rows come and go. -/

namespace Sys2Proof.Machine

/-- A table from natural numbers to values: (key, value) pairs, keys strictly rising. -/
abbrev Table (α : Type) := List (Nat × α)

/-- The value at a key, if the table lists it. -/
def lookup {α : Type} : Table α → Nat → Option α
  | [], _ => none
  | (k', v) :: m, k => if k' = k then some v else lookup m k

/-- The value at a key, or a default where the table lists none. -/
def lookupD {α : Type} (m : Table α) (k : Nat) (d : α) : α := (lookup m k).getD d

/-- The table with a key's value set, keys in rising order. -/
def insertKey {α : Type} : Table α → Nat → α → Table α
  | [], k, v => [(k, v)]
  | (k', v') :: m, k, v =>
    if k < k' then (k, v) :: (k', v') :: m
    else if k' = k then (k, v) :: m
    else (k', v') :: insertKey m k v

/-- The table without a key. -/
def eraseKey {α : Type} : Table α → Nat → Table α
  | [], _ => []
  | (k', v') :: m, k => if k' = k then eraseKey m k else (k', v') :: eraseKey m k

/-- The table with the value at a key changed by `f` (from the default where none is listed). -/
def modifyKey {α : Type} (m : Table α) (k : Nat) (d : α) (f : α → α) : Table α :=
  insertKey m k (f (lookupD m k d))

/-- Keys strictly rising. -/
def keysRise {α : Type} : Table α → Bool
  | [] => true
  | [_] => true
  | (a, _) :: (b, v) :: m => decide (a < b) && keysRise ((b, v) :: m)

/-- A list with the element at an index replaced (unchanged where the list is shorter). -/
def setNth {α : Type} : List α → Nat → α → List α
  | [], _, _ => []
  | _ :: l, 0, x => x :: l
  | y :: l, n + 1, x => y :: setNth l n x

/-- A list with the element at an index changed. -/
def modNth {α : Type} : List α → Nat → (α → α) → List α
  | [], _, _ => []
  | y :: l, 0, f => f y :: l
  | y :: l, n + 1, f => y :: modNth l n f

end Sys2Proof.Machine
end

