-- ==== Sys2Proof/Machine/State.lean ====
section
/-! DEFINITION. The state of the LMA-1024: every piece of state that spec/ names, as plain data. A register field lives in
the register file `Block.regs`; what a chapter describes beside its registers lives in that chapter's structure below. -/

namespace Sys2Proof.Machine

/-- A register field: its register's address, its lowest bit, its width and its reset value (R6, R8, R22). -/
structure Field where
  addr : Nat
  lo : Nat
  width : Nat
  reset : Nat
deriving DecidableEq, Repr

/-- The key of a field in the register file. -/
def Field.key (f : Field) : Nat := f.addr * 32 + f.lo

/-- The statuses that answer a register or bulk access (R581). -/
inductive Status where
  | ok | domainOff | domainWaking | unlatched | noReg | accessDenied | busyResource | poisoned | tierLocked | badRequest
deriving DecidableEq, Repr

/-- The code of a status (R581). -/
def Status.code : Status → Nat
  | .ok => 0 | .domainOff => 1 | .domainWaking => 2 | .unlatched => 3 | .noReg => 4 | .accessDenied => 5
  | .busyResource => 6 | .poisoned => 7 | .tierLocked => 8 | .badRequest => 9

/-- The answer of one request: its OP, its ADDR, the words processed, the status, the data words (R576, R577). -/
structure Answer where
  op : Nat
  addr : Nat
  done : Nat
  status : Status
  data : List Nat
deriving DecidableEq, Repr

/-- The part of a class 5 answer that one entry makes up: 72 bytes as eighteen 32-bit words (R404, R584). -/
structure BulkAnswer where
  addr : Nat
  done : Nat
  status : Status
  entries : List (List Nat)
deriving DecidableEq, Repr

/-- Two 32-bit timestamp words, sub-ID zero (R234). -/
structure Stamp where
  ns : Nat
  w1 : Nat
deriving DecidableEq, Repr

/-- A time exchange under way on the parent port (R220): times in units of 2^-32 ns of the domains they were taken in. -/
structure Exchange where
  /-- The SYNC as received (R218) -/
  sync : TimeMsg
  /-- Arrival of SYNC on this module's domain time -/
  t2 : Nat
  /-- Departure of DELAY_REQ, once sent -/
  t3 : Option Nat
deriving DecidableEq, Repr

/-- One time domain, P or S (R213-R227). -/
structure Domain where
  /-- The counter: wrap × 2^64 + ns × 2^32 + fraction, 80 bits (R213); reset 0, running from 0 before establishment (R215) -/
  time : Nat
  /-- The increment in force, 8.32 bits (R213); reset 4.0 ns, the nominal increment -/
  inc : Nat
  /-- The base increment last derived (R223, R226), 8.32 bits; reset 4.0 ns -/
  baseInc : Nat
  /-- The counter is established (R215); reset false -/
  established : Bool
  /-- The quality last derived (R216), 3 bits; reset 7, invalid -/
  quality : Nat
  /-- The exchange under way (R220); reset none -/
  exch : Option Exchange
  /-- A valid sync waits for its correction: theta in 2^-32 ns and the parent's increment (R223); reset none -/
  pending : Option (Int × Nat)
  /-- A valid sync arrived in the current epoch of the domain (R226); reset false -/
  synced : Bool
  /-- The correction of the stamping domain awaits the stamping boundary: theta in 2^-32 ns (R223); reset none -/
  selfStep : Option Int
  /-- MASTER_HASH the domain follows (R221); reset none -/
  followed : Option Nat
  /-- A different MASTER_HASH offered, and for how many epochs it has been the only one (R221); reset none -/
  offered : Option (Nat × Nat)
  /-- The offered hash was seen in this epoch, and the followed one was not (R221); reset false, false -/
  sawOffered : Bool
  sawFollowed : Bool
  /-- The quality that the parent announced (R216, R222); reset 7 -/
  parentQuality : Nat
  /-- The bound at the last valid sync, ps (R217); reset all ones -/
  boundSync : Nat
  /-- The tick of the last valid sync (R217); reset 0 -/
  syncTick : Nat
  /-- The epoch of the domain's own time last acted on: time / 2^20 ns (R223); reset 0 -/
  epochSeen : Nat
  /-- The module is this domain's master, by role in the image (R226); reset false -/
  master : Bool
  /-- The epoch of the domain's own time in which SYNC was last sent, plus 1 (R220); reset 0 -/
  syncSent : Nat
  /-- The port of the last valid sync (R226); reset none -/
  syncPort : Option Nat
deriving DecidableEq, Repr

/-- A switch of the stamping time applied at a boundary (R67, R68, R232): what its record states. -/
structure SwitchNote where
  /-- d in 1/1024 ns, new minus old (R68) -/
  d : Int
  /-- A forward jump: a GAP record; otherwise a DOMAIN_SWITCH record -/
  forward : Bool
  /-- The stamping time before and after, 2^-32 ns -/
  oldRaw : Nat
  newRaw : Nat
  /-- The stamping domain before and after -/
  oldDom : Nat
  newDom : Nat
  /-- The residual that starts, 2^-32 ns -/
  resid : Nat
deriving DecidableEq, Repr

/-- An armed TOUT program: the fields read at the arming write (R236-R239). -/
structure Tout where
  /-- 0 P, 1 S, 2 STAMP (R243) -/
  dom : Nat
  /-- START in 1/16 ns of full time wrap × 2^32 ns (R237) -/
  start : Nat
  /-- WIDTH in ns, clamped (R238) -/
  width : Nat
  /-- PERIOD in ns; 0 single pulse (R237) -/
  period : Nat
  /-- COUNT; 0 unlimited (R237) -/
  count : Nat
  /-- The next instance k to emit (R237, R238) -/
  next : Nat
  /-- Armed by the image and waiting for quality 1: PHASE_NS (R239) -/
  waiting : Option Nat
deriving DecidableEq, Repr

/-- The time island beside its registers (R210-R244). -/
structure TimeSt where
  /-- Domain P (R213) -/
  p : Domain
  /-- Domain S (R213) -/
  s : Domain
  /-- The stamping domain: false P, true S (R228); reset P -/
  dom : Bool
  /-- The stamping time is established (R228); reset false -/
  established : Bool
  /-- The residual of a slew, 2^-32 ns (R68, R231); reset 0 -/
  resid : Nat
  /-- The held offset H of a blocked self-switch, 2^-32 ns (R230); reset none -/
  held : Option Int
  /-- Consecutive boundaries at which P was no worse than S (R228); reset 0 -/
  retCount : Nat
  /-- The second part of a forward jump split at a wrap (R232), 2^-32 ns; reset none -/
  secondPart : Option Nat
  /-- The (wrap, epoch) last acted on: wrap × 4096 + epoch (R29); reset none, no epoch yet -/
  epochSeen : Option Nat
  /-- The reference of the PLL is valid (R210); reset false -/
  refValid : Bool
  /-- Ticks since the PLL locked (R241 TIM_TICK), 64 bits; reset 0 -/
  pllTicks : Nat
  /-- Residual ticks of oven on-time towards the next second (R212); reset 0 -/
  warmTicks : Nat
  /-- Seconds since D_OVN turned on, unsaturated (R212); kept, 0 at power-on -/
  warmSec : Nat
  /-- TOUT programs armed (R236), by pin -/
  tout : Table Tout
  /-- TOUT pulses in progress: the domain and its full time in 2^-32 ns at which the pin returns (R237), by pin -/
  pulse : Table (Nat × Nat)
  /-- Anchors written to the time map in the current epoch (R314); reset 0 -/
  anchors : Nat
deriving DecidableEq, Repr

/-- A crossing of THR_LO that waits for THR_HI (R130): its tick and raw fine code, the stamping time of that tick, the stamping
domain, quality and increment. -/
structure Crossing where
  tick : Nat
  code : Nat
  raw : Nat
  dom : Nat
  quality : Nat
  inc : Nat
deriving DecidableEq, Repr

/-- The discriminator of a fast channel (R130-R132). -/
structure Disc where
  /-- Its output, before validation, is active: the signal is beyond THR_LO; reset false -/
  active : Bool
  /-- A crossing not yet validated (R130); reset none -/
  pend : Option Crossing
  /-- A hit was passed since it became active, so that its return gives a trailing edge (R249); reset false -/
  hit : Bool
deriving DecidableEq, Repr

/-- The fast channels beside their registers (R121-R138). -/
structure FastSt where
  /-- Samples left of the settle count by channel (R124); a channel not listed is not settling; reset empty -/
  settle : Table Nat
  /-- The tick of the last sample instant (R121); reset none -/
  last : Option Nat
  /-- Discriminators by channel (R130); reset empty, inactive -/
  disc : Table Disc
  /-- The tick at which a channel's hold-off ends (R132); a channel not listed is not in hold-off; reset empty -/
  hold : Table Nat
deriving DecidableEq, Repr

/-- What travels over the tile links in order (R13, R307): an item of a stream with its ordering time (2^-32 ns), the stamping
domain and quality, its bytes; the epoch boundary; the stop of streams (R308). -/
inductive LinkItem where
  | item (stream raw dom quality : Nat) (bytes : List Nat)
  | boundary (epoch : Nat)
  | stop (streams : List Nat)
deriving DecidableEq, Repr

/-- A hit word in its converter's buffer (R246, R252): the source, the tick of its edge, leading or trailing, its time T in
1/1024 ns, the stamping time of that tick with domain and quality, its two words. -/
structure Hit where
  source : Nat
  tick : Nat
  trail : Bool
  time : Nat
  raw : Nat
  dom : Nat
  quality : Nat
  ns : Nat
  w1 : Nat
deriving DecidableEq, Repr

/-- A calibration that runs (R261): INTERNAL or LIVE, its start tick, the sources not finished, LIVE counts by source and raw
code (key source × 256 + code). -/
structure CalRun where
  live : Bool
  start : Nat
  todo : List Nat
  counts : Table Nat
deriving DecidableEq, Repr

/-- A source's installed calibration table (R258, R260): 256 entries, the widest and the narrowest bin. -/
structure CalTable where
  entries : List Nat
  wmax : Nat
  wmin : Nat
deriving DecidableEq, Repr

/-- An arming window of a GATE pin (R254): the calibrated times of its leading edge and, once converted, its trailing edge with the
tick of the conversion. -/
structure GateWindow where
  lead : Nat
  trail : Option (Nat × Nat)
deriving DecidableEq, Repr

/-- Woodpecker beside its registers (R245-R261). -/
structure TdcSt where
  /-- Installed tables by source (R260); a source not listed has the ideal table and VALID 0; reset empty -/
  tables : Table CalTable
  /-- The staging copy of TDC_CAL_TBL by entry (R262); an entry not listed is ideal; reset empty -/
  staging : Table Nat
  /-- USER_DLY by source, ps, 16 bits (R248); reset empty, zero -/
  userDly : Table Nat
  /-- Words converted and not yet released (R252, R253); reset empty -/
  hits : List Hit
  /-- The last recorded edge of a source: tick × 256 + raw code (R250); reset empty -/
  lastEdge : Table Nat
  /-- PILEUP and LOST due on the next word of a source (R246); reset empty, false -/
  marks : Table (Bool × Bool)
  /-- The tick at which a pin's hold-off ends (R251); reset empty -/
  pinHold : Table Nat
  /-- Windows of a GATE pin, newest first (R254); reset empty -/
  gates : Table (List GateWindow)
  /-- The calibration that runs (R261); reset none -/
  cal : Option CalRun
deriving DecidableEq, Repr

/-- An open block of a stream (R308): its SEQ count, its epoch, the first ordering time with domain and quality, the items stored,
whether it carries GAP_BEFORE. -/
structure OpenBlock where
  n : Nat
  epoch : Nat
  raw : Nat
  dom : Nat
  quality : Nat
  count : Nat
  gap : Bool
deriving DecidableEq, Repr

/-- The ring manager of one concentrator (R307-R318). -/
structure RingSt where
  /-- Blocks allocated since the DRAM powered up (R308): the next SEQ count; reset 0 -/
  alloc : Nat
  /-- Open blocks by stream (R308); reset empty -/
  open_ : Table OpenBlock
  /-- The stream's block closed last, not stopped since, whose NEXT is still to be written (R310); reset empty -/
  last : Table OpenBlock
  /-- The epoch for which a stream's epoch index entry names a first block (R313); reset empty -/
  indexed : Table Nat
  /-- Blocks allocated in the current epoch (R318); reset 0 -/
  count : Nat
  /-- Blocks allocated in the previous complete epoch (R318 NPREV); reset 0 -/
  prev : Nat
  /-- The epoch of the blocks counted, wrap × 4096 + epoch (R318); reset none -/
  cur : Option Nat
  /-- Blocks allocated by past epoch (R318, R363); reset empty -/
  past : Table Nat
deriving DecidableEq, Repr

/-- A precision channel beside its registers (R147-R206). -/
structure PrecCh where
  /-- RANGE_NOW (R163), 0-5; reset 0 -/
  range : Nat
  /-- Consecutive samples below the narrowing threshold (R163); reset 0 -/
  dwell : Nat
  /-- Output samples left of a settling count (R165, R166); reset none -/
  settle : Option Nat
  /-- ODR and FILTER in force (R184); reset 9, 0 -/
  odr : Nat
  filter : Nat
  /-- The tick of a write of ODR or FILTER not yet in force (R184); reset none -/
  cfgTick : Option Nat
  /-- The internal reference has not settled since D_FTt powered up (R187); reset true -/
  refUp : Bool
  /-- REF_UNSETTLED of a REF_SEL change runs to this tick (R187); reset none -/
  refWait : Option Nat
  /-- The number of the last decimation block completed (R180); reset 0 -/
  block : Nat
  /-- The next slot index (R192); reset 0 -/
  slot : Nat
  /-- The next sample begins a page (R192); reset true -/
  newPage : Bool
  /-- Samples delivered; reset 0 -/
  done : Nat
  /-- The last sample word with its stamping time (2^-32 ns), domain, quality and tick; reset none -/
  last : Option (Nat × Nat × Nat × Nat × Nat)
  /-- A fault was asserted while the present sample converts (R169); reset false -/
  faultSeen : Bool
  /-- Samples since the last exchange of polarity (R152); reset 0 -/
  rev : Nat
  /-- The start of the duty period and whether its on-window runs (R154); reset 0, true -/
  dutyStart : Nat
  dutyOn : Bool
  /-- The excitation was on at the last look (R160, R165); reset false -/
  excWas : Bool
  /-- The channel converted at the last look (R192); reset false -/
  convWas : Bool
deriving DecidableEq, Repr

/-- What leaves a tile for the sample buffers (R191 to R194): a sample with its slot, or the early close of a page. -/
inductive PrecStore where
  | sample (n slot word raw dom quality odr filter : Nat) (slew : Bool)
  | close (n : Nat)
deriving DecidableEq, Repr

/-- An open page of a sample buffer (R193). -/
structure Page where
  first : Nat
  raw : Nat
  dom : Nat
  quality : Nat
  odr : Nat
  filter : Nat
  slew : Bool
  count : Nat
deriving DecidableEq, Repr

/-- The calibration engine of CNV (R200, R201): channel, STEP, samples wanted, samples collected, sum of raw codes; whether it computes. -/
structure CalStep where
  chan : Nat
  step : Nat
  want : Nat
  count : Nat
  sum : Int
  compute : Bool
deriving DecidableEq, Repr

/-- Precision channels (R147-R206). -/
structure PrecSt where
  /-- Channels by number -/
  ch : Table PrecCh
  /-- The tick at the end of Fill (R180); reset 0 -/
  fillTick : Nat
  /-- Samples on their way to the buffers, oldest first (R194); reset empty -/
  store : List PrecStore
  /-- Open pages by channel (R193); reset empty -/
  pages : Table Page
  /-- Ticks of the requests by result slot (R197, R198); reset empty -/
  od : Table Nat
  /-- The calibration step that runs (R201); reset none -/
  cal : Option CalStep
  /-- Held PCV_CAL_OFS words by channel × 8 + range (R202); reset empty -/
  ofsHeld : Table Nat
deriving DecidableEq, Repr

/-- The state of one operation of a bank (R422, R424, R425): BIQUAD s1 s2; PID e_prev D I; SLEW y_prev, all with 31 fraction bits; whether
a PID's output saturated. -/
structure OpSt where
  x : Int
  y : Int
  z : Int
  sat : Bool
deriving DecidableEq, Repr

/-- A capture that runs (R435): points taken, executions since the last point, the last operands. -/
structure Capture where
  points : Nat
  skip : Nat
deriving DecidableEq, Repr

/-- A test generator that runs (R434): executions done, phase, its step, the PRBS register. -/
structure Generator where
  n : Nat
  phi : Nat
  delta : Nat
  prbs : Nat
deriving DecidableEq, Repr

/-- A loop slot beside its registers (R417-R436). -/
structure LoopSt where
  /-- States of operations by bank × 64 + i -/
  ops : Table OpSt
  /-- A hand-over waits for the next execution that is not held: its bank (R432); reset none -/
  next : Option Nat
  /-- The value applied last, Q1.23 (R433); reset 0 -/
  applied : Int
  /-- Samples of the pacing channel taken (R418); reset 0 -/
  paced : Nat
  /-- The sample words of the last execution by position (R428); reset empty -/
  loaded : Table Nat
  /-- Executions over FE_LIMIT in a row (R429); reset 0 -/
  fe : Nat
  /-- The generator (R434); reset none -/
  gen : Option Generator
  /-- The capture (R435); reset none -/
  cap : Option Capture
  /-- The tick of the last START (R429 STALL); reset 0 -/
  start : Nat
deriving DecidableEq, Repr

/-- A message between modules, as its sender lays it down. -/
inductive Msg where
  | time (m : TimeMsg)
  | lack (m : LackMsg)
  | cap (m : CapMsg)
  | advert (triggered : Bool) (entries : List AdvertEntry)
  | claim (m : ClaimMsg)
  | pin (m : PinMsg)
  | tree (m : TreeMsg)
  | logLine (text : List Nat)
  | notify (body : List Nat)
  | answer (tag : Nat) (a : Answer)
  | bulk (tag : Nat) (a : BulkAnswer)
  | primitive (m : PrimitiveMsg)
  | decision (m : DecisionMsg)
  | decisionAck (m : DecisionAckMsg)
  | heartbeat (m : HeartbeatMsg)
  | announce (m : AnnounceMsg)
  | retro (m : RetroMsg)
  | data (m : DataMsg)
  | fragAck (m : FragAckMsg)
deriving DecidableEq, Repr

/-- A frame's payload: bytes as received, or a message this module formed. -/
inductive Body where
  | raw (bytes : List Nat)
  | msg (m : Msg)
deriving DecidableEq, Repr

/-- A fabric frame (R448), LSEQ and HCRC aside (the port that sends it supplies them). -/
structure Frame where
  cls : Nat
  mcast : Bool
  link : Bool
  poison : Bool
  alt : Bool
  dst : Nat
  src : Nat
  len : Nat
  seq : Nat
  boot : Nat
  ttl : Nat
  body : Body
deriving DecidableEq, Repr

/-- A frame held for its turn in a flow (R462): its SEQ, the tick it came, the frame. -/
structure HeldFrame where
  seq : Nat
  tick : Nat
  frame : Frame
deriving DecidableEq, Repr

/-- A flow into this module (R462, R463). -/
structure Flow where
  expected : Nat
  boot : Nat
  prevBoot : Option Nat
  held : List HeldFrame
  used : Nat
deriving DecidableEq, Repr

/-- The key of a flow (R462). -/
structure FlowKey where
  src : Nat
  dst : Nat
  mcast : Bool
  cls : Nat
deriving DecidableEq, Repr

/-- The module's own pending claim (R445). -/
structure OwnClaim where
  kind : Nat
  node : Nat
  sent : Nat
  floodId : Nat
deriving DecidableEq, Repr

/-- A pinning job under way (R446). -/
structure PinJob where
  serial : Nat
  node : Nat
  floodId : Nat
  epochs : Nat
  /-- A claim of the target has arrived (R446) -/
  heard : Bool
deriving DecidableEq, Repr

/-- What Fox keeps of a destination beside its FAB_RT registers (R457-R460). -/
structure Route where
  /-- Offers per port: (HOPS, RGEN) last advertised there (R458) -/
  offers : Table (Nat × Nat)
  /-- The port, hops and RGEN that Fox learned, kept under a pin (R460) -/
  primary : Option Nat
  hops : Nat
  rgen : Nat
  alt : Option Nat
  /-- Epochs since a newer RGEN refreshed the entry (R459) -/
  age : Nat
  /-- Epochs at HOPS 255 (R459) -/
  lostFor : Nat
  /-- Declared departed (R459) -/
  departed : Bool
  /-- Changed since the last triggered ADVERT (R457) -/
  changed : Bool
deriving DecidableEq, Repr

/-- What a module keeps of one cascade tree beside its registers (R465, R466). -/
structure TreeSt where
  /-- The last TREE message of each port with the epoch count at its arrival (R465) -/
  nbr : Table (TreeMsg × Nat)
  /-- Epochs for which a port has been eligible in a row (R465) -/
  eligible : Table Nat
  /-- MASTER_HASH the module follows in the tree (R465) -/
  followed : Option Nat
deriving DecidableEq, Repr

/-- The Bamien switch and Fox beside their registers (R443-R474). -/
structure FabSt where
  /-- NODE_MODE of the image: 0 FIXED, 1 CLAIM (R443); reset 1 -/
  nodeMode : Nat
  /-- NODE_ID of the image (R443); reset 0xFFFF -/
  imageNode : Nat
  /-- ROLES of the image as in CAP (R454, R469); reset 0 -/
  roles : Nat
  /-- The module's own pending claim (R445); reset none -/
  claim : Option OwnClaim
  /-- Pending claims of others that the module knows (R444, R445); reset empty -/
  claims : List ClaimMsg
  /-- Keys of flooded messages seen: (SERIAL, NODE, FLOOD_ID, tick) (R454); reset empty -/
  seen : List (Nat × Nat × Nat × Nat)
  /-- The next FLOOD_ID (R454), 16 bits; reset 0 -/
  floodId : Nat
  /-- A pinning job of this module as originator (R446); reset none -/
  pin : Option PinJob
  /-- A PENDING claim seen for this module's own held ID, to be answered with HELD within 1 epoch (R445); reset false -/
  owesHeld : Bool
  /-- Epoch count of the last refusal of a FIXED module (R445); reset 0 -/
  refusedAt : Nat
  /-- Last CAP of each port (R455) -/
  caps : Table CapMsg
  /-- Routes by destination (R457-R460) -/
  routes : Table Route
  /-- The module's own RGEN, even (R457); reset 0 -/
  ownGen : Nat
  /-- The next DEST of the periodic ADVERT (R457); reset 0 -/
  advertPos : Nat
  /-- Flows into this module (R462, R463) -/
  flows : List (FlowKey × Flow)
  /-- The next SEQ of each flow out of this module (R462) -/
  outSeq : List (FlowKey × Nat)
  /-- The three trees P, S, TRIG (R465) -/
  trees : Table TreeSt
  /-- The TRIG child port on which a node's PRIMITIVE last arrived (R466) -/
  primPort : Table Nat
  /-- Address and UDP port of the last valid datagram of a host-mode port (R468): (address bytes, port) -/
  peers : Table (List Nat × Nat)
  /-- Frames delivered to this module and not yet taken, oldest first, a LINK frame with its port (R450, R462) -/
  delivered : List (Option Nat × Frame)
deriving DecidableEq, Repr

/-- One port: its link layer (R452, R453) and its bring-up (R484-R493) beside its registers. -/
structure PortSt where
  /-- The next LSEQ to send (R452), 12 bits; reset 0 -/
  lseqOut : Nat
  /-- Frames sent and unacknowledged, oldest first: (LSEQ, frame) (R452); reset empty -/
  replay : List (Nat × Frame)
  /-- Frames waiting for credit, oldest first, each with the port whose receive buffer it still holds (R453, R461); reset
  empty -/
  waiting : List (Option Nat × Frame)
  /-- SENT_k per class, 16 bits (R453); reset 0 -/
  sentFlits : Table Nat
  /-- LIMIT_k the neighbour last gave, per class, 16 bits (R453); reset 0 -/
  limit : Table Nat
  /-- Flits of received frames freed per class, 16 bits (R453); reset 0 -/
  freed : Table Nat
  /-- LIMIT_k last advertised, per class (R453, R586); reset 0 -/
  limitOut : Table Nat
  /-- The next LSEQ expected (R452); reset 0 -/
  lseqIn : Nat
  /-- Awaiting a replay (R452); reset false -/
  awaiting : Bool
  /-- Tick of the last acknowledgement progress (R452); reset 0 -/
  progressTick : Nat
  /-- Tick of the last LACK sent (R452); reset 0 -/
  lackTick : Nat
  /-- A frame was accepted since the last LACK, at this tick (R452); reset none -/
  acceptTick : Option Nat
  /-- Tick at which the stage was entered (R484); reset 0 -/
  stageTick : Nat
  /-- Tick of the next retry or back-off instant (R484, R485); reset 0 -/
  beaconTick : Nat
  /-- Tick of the last beacon (R485); reset 0 -/
  lastBeacon : Nat
  /-- Tick at which TKO_HOLD was set (R488); reset 0 -/
  tkoTick : Nat
  /-- SIGNAL seen since the previous beacon (R484); reset false -/
  sigSeen : Bool
  /-- The number j of the next SILENT beacon (R485); reset 0 -/
  silentJ : Nat
  /-- Electrical idle after loss of signal: from this tick (R486); reset none -/
  losTick : Option Nat
  /-- A valid CAP was received in this EXCHANGE (R484); reset false -/
  capOk : Bool
  /-- The tick the current or last knock began (R492); reset 0 -/
  knockTick : Nat
  /-- The lane lost from an x2 port, and the epochs it has held block lock since (R487); reset none -/
  lostLane : Option (Nat × Nat)
  /-- Equalisation in use, taken at the last entry into TRAIN: (CTLE, AMP, POST, PRE) (R494); reset the reset values -/
  eqInUse : Nat × Nat × Nat × Nat
deriving DecidableEq, Repr

/-- A grid instant that waits for its evaluation (R268): TIM_TICK and the tick of the samples, the stamping time with domain and
quality, and the sixteen words of each group that sampled. -/
structure Instant where
  ptick : Nat
  tick : Nat
  raw : Nat
  dom : Nat
  quality : Nat
  words : Table (List Nat)
deriving DecidableEq, Repr

/-- A precision sample or a pin word on its way to Lynx (R268): the unit's input (960 + n, or 1 024 + i), its time (1/1024 ns),
X or 0, marks that keep it from a unit (R269), OVERRANGE, its sample period in 1/1024 ns, its domain and quality. -/
structure SlowInput where
  input : Nat
  time : Nat
  x : Int
  gap : Bool
  isOver : Bool
  period : Nat
  dom : Nat
  quality : Nat
deriving DecidableEq, Repr

/-- A leading word of a fast channel that Lynx may match (R257): its source, T, its two words. -/
structure LeadHit where
  source : Nat
  time : Nat
  ns : Nat
  w1 : Nat
deriving DecidableEq, Repr

/-- A sample as a unit keeps it: its time (1/1024 ns), its value, OVERRANGE, domain and quality. -/
structure UnitSample where
  time : Nat
  x : Int
  isOver : Bool
  dom : Nat
  quality : Nat
deriving DecidableEq, Repr

/-- A crossing of a unit (R271): its time (1/1024 ns), CUBIC_FALLBACK, an OVERRANGE among the samples, its position in 1/256 sample
counted by the unit's own sample number, domain and quality. -/
structure UnitCross where
  time : Nat
  fallback : Bool
  isOver : Bool
  pos : Nat
  dom : Nat
  quality : Nat
deriving DecidableEq, Repr

/-- One direction of a unit (R270): whether it is armed, its leading crossing, whether LEV_B was reached. -/
structure HalfUnit where
  armed : Bool
  lead : Option UnitCross
  reached : Bool
deriving DecidableEq, Repr

/-- A trigger unit (R267-R274). -/
structure UnitSt where
  /-- The settings it runs under, so that a change starts it anew -/
  cfg : List Nat
  /-- Samples taken without a gap, newest first, at most four -/
  past : List UnitSample
  /-- Number of samples taken since it was enabled or re-armed -/
  taken : Nat
  /-- The rising and the falling form -/
  rise : HalfUnit
  fall : HalfUnit
  /-- Sample number of the last event that restarts TIMEOUT -/
  timer : Nat
  /-- STA and LTA of a RATIO unit, exact: a numerator and the exponent of its power-of-two denominator (R274) -/
  sta : Nat × Nat
  lta : Nat × Nat
  /-- A RATIO unit has fired and not re-armed -/
  fired : Bool
deriving DecidableEq, Repr

/-- A firing that a group may count (R276): unit, its instant's tick, event time and marks. -/
structure Firing where
  unit : Nat
  tick : Nat
  cause : Nat
  time : Nat
  dom : Nat
  quality : Nat
  refined : Bool
  pileup : Bool
  lost : Bool
  fallback : Bool
  isOver : Bool
  ofs : Int
deriving DecidableEq, Repr

/-- The LEVEL firing of a fast channel that a measurement may take as arrival (R285): channel, the raw time of its instant, event
time with domain and quality, refined. -/
structure Arrival where
  chan : Nat
  at_ : Nat
  time : Nat
  dom : Nat
  quality : Nat
  refined : Bool
deriving DecidableEq, Repr

/-- Lynx beside its registers (R267-R299). -/
structure LynxSt where
  /-- Grid instants not yet evaluated, oldest first (R268); reset empty -/
  instants : List Instant
  /-- The raw time of the last instant evaluated (R268); reset none -/
  done : Option Nat
  /-- Precision samples and pin words not yet taken (R268); reset empty -/
  slow : List SlowInput
  /-- Leading words of fast channels for R257; reset empty -/
  leads : List LeadHit
  /-- Units that have taken a sample (R269); reset empty -/
  units : Table UnitSt
  /-- Firings not consumed by group (R276); reset empty -/
  groups : Table (List Firing)
  /-- The tick from which a group may be met again (R276); reset empty -/
  ghold : Table Nat
  /-- LEVEL firings of fast channels (R285); reset empty -/
  arrivals : List Arrival
deriving DecidableEq, Repr

/-- The trigger descriptor (R284): identity, CAUSE, primary group, groups met, trigger timestamp, event time, CROSS_OFS, FLAGS,
SEG_INDEX, window, readout mask, event number and term, PARENT. -/
structure Desc where
  ident : Nat
  cause : Nat
  group : Nat
  ngroups : Nat
  trigNs : Nat
  trigW2 : Nat
  evtNs : Nat
  evtW2 : Nat
  ofs : Int
  flags : Nat
  seg : Nat
  winStart : Nat
  winLen : Nat
  readout : Nat
  eventNo : Nat
  term : Nat
  parent : Nat
deriving DecidableEq, Repr

/-- The states of a fragment (R41); a RETIRED one is not kept. -/
inductive FragState where
  | speculative | accepted | orphaned | discarded | committed
deriving DecidableEq, Repr

/-- What packs a WAVEFORM payload (R385 to R387): it waits, counted as having waited or not; an engine packs it; or its stored
form stands, packed or plain. -/
inductive PackState where
  | waiting (counted : Bool)
  | running (engine : Nat)
  | stored (packed : Bool) (bytes : List Nat)
deriving DecidableEq, Repr

/-- The WAVEFORM payload of a channel (R328, R329, R357): its runs, its plain bytes, a poisoned word among them. -/
structure Payload where
  chan : Nat
  gaps : Bool
  runs : List (Nat × Nat)
  plain : List Nat
  poison : Bool
  job : PackState
deriving DecidableEq, Repr

/-- What the builder has taken from the ring for a fragment (R327): its place in build order, the records before the WAVEFORM records, the
payloads. -/
structure Content where
  order : Nat
  front : List (List Nat)
  payloads : List Payload
deriving DecidableEq, Repr

/-- A fragment of this module (R32, R41, R327 to R337, R346). -/
structure Frag where
  desc : Desc
  /-- Its epoch, wrap × 4096 + epoch (R32) -/
  key : Nat
  /-- The stamping time of its trigger, 2^-32 ns, and the tick of that instant (R278) -/
  trig : Nat
  tick : Nat
  /-- The tick of the window's first sample (R280) -/
  start : Nat
  /-- CLASS of the primary group -/
  cls : Nat
  st : FragState
  /-- The builder it goes to (R289, R352); none: NO_BUILDER -/
  builder : Option Nat
  /-- The builder named in the ACCEPT (R345) -/
  orig : Nat
  /-- It is sent to another builder than that (R352) -/
  reassigned : Bool
  /-- Decisions taken: KIND, TERM, EVENT_NO (R41) -/
  taken : List (Nat × Nat × Nat)
  /-- Chunks of staging that it holds (R333, R335) -/
  chunks : Nat
  /-- What was extracted for it (R327) -/
  content : Option Content
  /-- Its records but the first, once built (R335), as 32-bit words -/
  records : Option (List (List Nat))
  hitsClip : Bool
  stageClip : Bool
  /-- With STREAM: the tick at which the whole window ends, while segments are still to be opened (R282) -/
  tail : Option Nat
  /-- Segments opened or due beside segment 0, and the tick of the first sample that none covers (R282) -/
  segs : Nat
  nextTick : Nat
  /-- The tick of the last send to the builder (R346) -/
  sent : Nat
deriving DecidableEq, Repr

/-- A contributor's fragment at a builder (R349): identity, words received, the next FRAME_INDEX, FRAG_WORDS, chunks, a poisoned word. -/
structure MergePart where
  ident : Nat
  words : List Nat
  next : Nat
  total : Nat
  chunks : Nat
  poison : Bool
  whole : Bool
deriving DecidableEq, Repr

/-- An open merge slot (R347). -/
structure MergeSlot where
  eventNo : Nat
  term : Nat
  /-- The contributor map of its ANNOUNCE; none yet (R348) -/
  map : Option Nat
  opened : Nat
  parts : List MergePart
  reassigned : Bool
  orig : Nat
  /-- It gathers a late fragment alone (R54) -/
  late : Bool
deriving DecidableEq, Repr

/-- A completed merge, or a late fragment, that waits for its epoch's commit (R347, R54). -/
structure MergeDone where
  slot : MergeSlot
  /-- Contributors by node, present or not -/
  contribs : List Nat
  partial_ : Bool
  noAnnounce : Bool
  /-- The stamping time of completion -/
  raw : Nat
  /-- A late fragment alone (R54) -/
  late : Bool
deriving DecidableEq, Repr

/-- A fragment identity that a builder has merged or committed late (R350): its event number, the stamping epoch after which it is
dropped, whether the record that holds it has committed, what the ACK carries. -/
structure SeenFrag where
  ident : Nat
  key : Nat
  done : Bool
  ack : FragAckMsg
deriving DecidableEq, Repr

/-- The settings and choices logged for an epoch (R31, R48): fields of TRG, EVB and LPS as they stood at its start, the groups enabled (a bit each), the
packing effort. -/
structure EpochCfg where
  regs : Table Nat
  groups : Nat
  effort : Nat
deriving DecidableEq, Repr

/-- An epoch from its start to its commit (R43 to R48, R616). -/
structure EpochSt where
  /-- wrap × 4096 + epoch -/
  key : Nat
  cfg : EpochCfg
  /-- The stamping time of its first tick, with domain and quality; the residual of a slew there -/
  raw : Nat
  dom : Nat
  quality : Nat
  resid : Nat
  /-- It began with a switch or a jump (R49, R67) -/
  note : Option SwitchNote
  /-- The tick at which it ended; none while OPEN -/
  ended : Option Nat
  /-- It commits: it began at or after Live entry or the last reseat (R46) -/
  counts : Bool
  /-- Fragments opened (R33), and triggers beyond the sequence (R34) -/
  seq : Nat
  exhausted : Nat
  /-- Its term, once RESOLVED (R47) -/
  term : Option Nat
  /-- Its commit-log entry is mirrored (R44) -/
  mirrored : Bool
  /-- The queues for whose space it has waited, a bit each (R339) -/
  waited : Nat
  /-- Test perturbations active in it (R588) -/
  perturbed : Nat
  /-- N of R318 at its start -/
  load : Nat
  /-- Queues enabled in force, and those with ALIGN, a bit each (R398, R402) -/
  queues : Nat
  aligns : Nat
  /-- Merges completed in it, and late fragments (R347, R54) -/
  merges : List MergeDone
deriving DecidableEq, Repr

/-- What the commit log keeps of a committed epoch: the queues that received it, the earliest epoch whose raw data a rebuild of it
needs (R62, R63, R572), and what HEALTH records take from it (R341, R363). -/
structure EpochSum where
  key : Nat
  queues : Nat
  first : Nat
  opened : Nat
  committed : Nat
  discarded : Nat
  orphaned : Nat
  truncated : Nat
  exhausted : Nat
deriving DecidableEq, Repr

/-- A point of a loop capture (R362, R435): slot 4 t + s, its stamping time, CAPTURE_ID, its index within the capture. -/
structure CapLog where
  slot : Nat
  raw : Nat
  id : Nat
  index : Nat
deriving DecidableEq, Repr

/-- The event builder and the commit log (R48, R327 to R353). -/
structure EvbSt where
  /-- Fragments of this module that are not RETIRED, in the order of opening -/
  frags : List Frag
  /-- Epochs not committed, oldest first -/
  epochs : List EpochSt
  /-- Past epochs that HEALTH may cover, newest first (R341) -/
  history : List EpochSum
  /-- Open merge slots (R347) -/
  slots : List MergeSlot
  /-- Identities merged or committed late (R350) -/
  seen : List SeenFrag
  /-- Event numbers whose merge has completed, with the tick of completion (R348, R54) -/
  merged : List (Nat × Nat)
  /-- Late fragments for the next epoch (R54) -/
  lateNext : List MergeDone
  /-- Capture points not committed, oldest first (R343) -/
  caps : List CapLog
  /-- The highest epoch sealed, wrap × 4096 + epoch (R38, R292) -/
  sealed : Option Nat
  /-- Fragments extracted so far, for build order (R386) -/
  built : Nat
deriving DecidableEq, Repr

/-- The trigger master's work (R294 to R297), beside its registers. -/
structure MasterSt where
  /-- Primitives held and undecided (R294) -/
  prims : List PrimitiveMsg
  /-- Decisions sent and not acknowledged, with their trigger's time, 1/1024 ns (R40) -/
  out : List (DecisionMsg × Nat)
  /-- ANNOUNCEs sent, with the builder and the epoch, for a builder's departure (R55) -/
  announced : List (AnnounceMsg × Nat × Nat)
  /-- Tick of the last HEARTBEAT received, or of Live entry (R296) -/
  beat : Nat
  /-- The highest epoch it has sealed, wrap × 4096 + epoch (R295); reset none -/
  sealed : Option Nat
  /-- COLLECT_US of the image (R294, R300); reset 0 -/
  collect : Nat
deriving DecidableEq, Repr

/-- An egress queue beside its registers (R400, R411). -/
structure QueueSt where
  /-- Ends of its unreleased records as queue offsets, in order, with whether the record is a COMMIT -/
  ends : List (Nat × Bool)
  /-- The records of the front slot (R411), as words; reset empty -/
  front : List (List Nat)
  /-- RD and MARK as byte positions in the front slot, while they lie there (R400); reset none -/
  rdFront : Option Nat
  markFront : Option Nat
deriving DecidableEq, Repr

/-- One event-record source beside its settings (R526-R534). -/
structure SrcSt where
  /-- Level: its condition holds. Edge: latched and not yet claimed (R526); reset false -/
  active : Bool
  /-- The claim it is IN_SERVICE for: (target, SEQ of its record) (R528, R532); reset none -/
  inService : Option (Nat × Nat)
  /-- COUNT, 8 bits, saturating (R526); reset 0 -/
  count : Nat
  /-- Timestamp of the assertion that the next record reports (R534) -/
  stamp : Stamp
  /-- PAYLOAD of that assertion (R534) -/
  payload : Nat
  /-- The payload came from a poisoned word (R534, R551) -/
  poison : Bool
  /-- Held by full queues since its last claim: its next record carries OVERFLOW (R530); reset false -/
  full : Bool
  /-- Held by full queues now, already counted (R530); reset false -/
  held : Bool
  /-- The target of its previous record (R529); reset none -/
  last : Option Nat
deriving DecidableEq, Repr

/-- An event record in a target's queue (R534), with its source for AUTO_ACK (R532). -/
structure EventRecord where
  source : Nat
  seq : Nat
  words : List Nat
deriving DecidableEq, Repr

/-- The event-record queue controller beside its registers (R525-R540). -/
structure IrqSt where
  /-- Sources by number (R525) -/
  src : Table SrcSt
  /-- Queues by target, oldest record first, at most 4 096 records (R525); reset: target 0 holds the IRQ_RESTART record (R540) -/
  queues : Table (List EventRecord)
  /-- SEQ of the next record by target, 16 bits (R534); reset 1 for target 0, else 0 -/
  seqs : Table Nat
  /-- Tick of the last notify frame with no POP since (R535); reset none -/
  notified : Option Nat
deriving DecidableEq, Repr

/-- A claimed check-value unit (R391, R393): the tick of its owner's last access; the range job that runs, its ADDR and LEN. -/
structure CrcUnit where
  last : Nat
  job : Option (Nat × Nat)
deriving DecidableEq, Repr

/-- A decompression job as its GO found the registers (R379). -/
structure DjJob where
  src : Nat
  len : Nat
  dst : Nat
  ulen : Nat
  cap : Nat
deriving DecidableEq, Repr

/-- Check-value units and the decompressor beside their registers (R379, R391). -/
structure CheckSt where
  /-- Claimed units by number (R391); reset empty -/
  units : Table CrcUnit
  /-- The decompression that runs (R379); reset none -/
  dj : Option DjJob
deriving DecidableEq, Repr

/-- A shadow of a latched wide read (R72): the _LO register's address and the high half. -/
structure Shadow where
  addr : Nat
  high : Nat
deriving DecidableEq, Repr

/-- A held _LO write (R74): the _LO register's address and the word. -/
structure HeldLo where
  addr : Nat
  word : Nat
deriving DecidableEq, Repr

/-- A class 0 or class 5 request (R576, R584). -/
inductive Request where
  /-- READ of COUNT words from ADDR -/
  | read (addr count : Nat)
  /-- WRITE of words from ADDR -/
  | write (addr : Nat) (words : List Nat)
  /-- A request that R578 or R584 answers BAD_REQUEST: its OP and ADDR -/
  | bad (op addr : Nat)
  /-- A class 5 read of N entries from ADDR -/
  | bulk (addr n : Nat)
deriving DecidableEq, Repr

/-- Register access beside the registers: shadows, held writes, the TAG store (R72-R74, R579). -/
structure AccessSt where
  /-- Shadows by requester code (R72, R73); reset empty -/
  shadows : Table Shadow
  /-- Held _LO writes by requester code (R74); reset empty -/
  held : Table HeldLo
  /-- The last 16 answers per requester node with their TAGs, newest first (R579); reset empty -/
  tags : Table (List (Nat × Answer))
  /-- Requests that wait: for the end of a gap, or behind a request of the same requester that the mirror holds (R56, R564,
  R583), oldest first; reset empty -/
  waiting : List (Access × Request)
deriving DecidableEq, Repr

/-- Where a message goes: a node, the neighbour on a port (LINK), a tree hop on a port, a multicast group, or a core of
this module (R448, R450, R464, R466). -/
inductive Dest where
  | node (n : Nat)
  | link (port : Nat)
  | hop (port : Nat)
  | group (g : Nat)
  | core (who : Requester)
deriving DecidableEq, Repr

/-- A message handed to Bamien and not yet taken by it. -/
structure Posted where
  dest : Dest
  cls : Nat
  msg : Msg
  poison : Bool
deriving DecidableEq, Repr

/-- What has left the module at its pins. -/
inductive Wire where
  /-- A frame with its LSEQ on a port (R448, R452); `bad`: its trailer was inverted by TST (R586) -/
  | frame (port lseq : Nat) (f : Frame) (bad : Bool)
  /-- An ordered set of a KIND with an ARG on a port (R481) -/
  | ordered (port kind arg : Nat)
  /-- A beacon of 1 ms of the TRAIN stream (R484, R485) -/
  | beacon (port : Nat)
  /-- A knock (R492) -/
  | knock (port : Nat)
  /-- An Ethernet frame of a host-mode port (R467) -/
  | ether (port : Nat) (bytes : List Nat)
  /-- A line on SVC_TX (R83) -/
  | svc (bytes : List Nat)
  /-- Bits shifted out on TDO, first bit first (R591) -/
  | tdo (bits : List Bool)
  /-- The pins as EXTEST drives them from the boundary register (R591) -/
  | scan (bits : List Bool)
  /-- Electrical idle on a lane for some µs, by TST (R586) -/
  | idle (lane us : Nat)
deriving DecidableEq, Repr

/-- The states of the module from Off to Live (R80), and Hibernate (R503). -/
inductive Phase where
  | off | fill | verify | configure | join | live | safeConfig | fault | hibernate
deriving DecidableEq, Repr

/-- The fuses (R110, R111). -/
structure Fuses where
  /-- Owner key slots written: by slot, REVOKED or ACTIVE, and the key; a slot not listed is EMPTY (R111); reset none listed -/
  keys : Table (Bool × List Nat)
  /-- The anti-rollback counters of the Owl, the warren and CFG_SVN (R110), 0-64; reset 0 -/
  owl : Nat
  warren : Nat
  cfg : Nat
deriving DecidableEq, Repr

/-- A SEC command that runs (R113): its OPCODE and what it will answer as RESULT. -/
structure SecRun where
  opcode : Nat
  result : Nat
deriving DecidableEq, Repr

/-- A pass-through operation that runs (R116): OP, the flash offset, the 256 bytes to program, the tick of the OP write. -/
structure NvmRun where
  op : Nat
  addr : Nat
  data : List Nat
  tick : Nat
deriving DecidableEq, Repr

/-- What the module keeps of start-up and trust beside its registers (R80-R120). -/
structure BootSt where
  /-- The NOR flash (R88, R89): bytes by offset; a byte not listed reads 0xFF, as erased -/
  flash : Table Byte
  /-- The fuses (R110, R111) -/
  fuses : Fuses
  /-- The current nonce (R113), if one was drawn and not consumed; reset none -/
  nonce : Option (List Nat)
  /-- The SEC command that runs (R113); reset none -/
  run : Option SecRun
  /-- The pass-through operation that runs (R116); reset none -/
  nvm : Option NvmRun
  /-- The running container from offset 0 to its TOTAL_LEN (R96); reset none -/
  image : Option (List Nat)
  /-- The last fault report's tick (R83); reset none -/
  reportTick : Option Nat
deriving DecidableEq, Repr

/-- A HOST or REMOTE vote on a domain (R507, R508). -/
structure Voter where
  dom : Nat
  node : Nat
  host : Bool
  /-- Tick of the last cast -/
  tick : Nat
  /-- LEASE_S of that cast; 0: no lapse -/
  lease : Nat
deriving DecidableEq, Repr

/-- A step that Squirrel shed (R514): its rung, and what to give back: (channel, duty), or a scrub time, a port, a group. -/
structure ShedStep where
  rung : Nat
  detail : List (Nat × Nat)
deriving DecidableEq, Repr

/-- What the den keeps while the active concentrator is gated (R502). -/
structure Den where
  regs : Table Nat
  irq : IrqSt
deriving DecidableEq, Repr

/-- Power and Squirrel beside their registers (R497-R517). -/
structure PwrSt where
  /-- HOST and REMOTE votes (R508); reset empty -/
  voters : List Voter
  /-- Tick of the last access to a domain that holds an ACCESS vote (R509); reset empty -/
  accessTick : Table Nat
  /-- Input power samples since Fill, mW, newest first (R512); reset empty -/
  samples : List Nat
  /-- Input energy not yet a whole millijoule, µJ (R512); reset 0 -/
  microJ : Nat
  /-- Sum and number of the samples since the previous step (R513); reset 0, 0 -/
  since : Nat × Nat
  /-- Highest sample since the last evaluation, mW (R513); reset 0 -/
  peak : Nat
  /-- Evaluations since the last step (R513); reset 0 -/
  evals : Nat
  /-- Consecutive evaluations that allow a restore (R513); reset 0 -/
  calm : Nat
  /-- Steps shed, newest first (R514); reset empty -/
  steps : List ShedStep
  /-- Duty granted by channel, where it is below 256, before it comes into force (R154, R514); reset empty -/
  duty : Table Nat
  /-- The level that a restore of groups waits for (R515); reset 0 -/
  raise : Nat
  /-- The pending level request (R511); reset none -/
  levelPending : Option Nat
  /-- The level whose window limit the admission gate holds (R499); reset 3 -/
  gate : Nat
  /-- Tick of the last evaluation (R513); reset 0 -/
  evalTick : Nat
  /-- What the den keeps while the active concentrator is gated (R502); reset none -/
  den : Option Den
  /-- A fault or SAFE during that interval casts a BLOCK vote (R502); reset false -/
  denWake : Bool
  /-- Hibernate waits for a pass-through operation (R503); reset false -/
  hibWait : Bool
  /-- Tick of Hibernate entry (R504); reset 0 -/
  hibTick : Nat
  /-- The wake timer in force, s; 0 none (R504, R506); reset 0 -/
  wakeS : Nat
  /-- Hibernate was forced by Tj (R506); reset false -/
  thermal : Bool
  /-- The lane detectors are armed (R504); reset false -/
  armed : Bool
deriving DecidableEq, Repr

/-- A correction window of a region (R559). -/
structure EccWindow where
  /-- Tick at which it began -/
  start : Nat
  /-- Corrections counted in it -/
  count : Nat
  /-- The threshold was crossed in it -/
  hit : Bool
deriving DecidableEq, Repr

/-- An upset in the stored bits of a word that nothing has read since (R546, R586): its position, and whether the next
position is upset too. -/
structure Upset where
  pos : Nat
  double : Bool
deriving DecidableEq, Repr

/-- Memory protection beside its registers (R546-R560). -/
structure EccSt where
  /-- Upset words not read since, by address div 8; reset empty -/
  upsets : Table Upset
  /-- Inverted data bits of poisoned words in control space, by address div 8 (R548); reset empty -/
  flips : Table Nat
  /-- Correction windows by region (R559); reset empty, they start at Live entry -/
  windows : Table EccWindow
deriving DecidableEq, Repr

/-- The test perturbations beside their registers (R585-R588). -/
structure TstSt where
  /-- Frames sent on the port of LANE since it was armed (R586); reset 0 -/
  frames : Nat
  /-- Class 3 frames received on the ports of TIME since it was armed (R586); reset 0 -/
  timeFrames : Nat
  /-- BACKPRESS is in its ON_TICKS (R586); reset false -/
  bpOn : Bool
  /-- Tick of the last switch of BACKPRESS (R586); reset 0 -/
  bpTick : Nat
  /-- LOS of LANE has been injected (R586); reset false -/
  losDone : Bool
  /-- MEMERR has acted (R586); reset false -/
  memDone : Bool
  /-- RESIDUE injections not yet made, a bit per unit of RES_UNITS (R586); reset 0 -/
  residue : Nat
  /-- Perturbations active in the current epoch (R588); reset 0 -/
  epochMask : Nat
deriving DecidableEq, Repr

/-- What an item on the mirror link carries, and what waits for its acknowledgement (R564). -/
inductive MirrorKind where
  /-- A request that writes an RW field or releases a queue, acted on and answered once mirrored (R60, R409) -/
  | request (a : Access) (r : Request)
  /-- The commit-log entry of an applied decision, whose acknowledgement waits (R40), with the fragments as they stood before it: a
  decision that is not mirrored has had no effect outside the active (R564) -/
  | decision (m : DecisionMsg) (before : List Frag)
  /-- The commit-log entry of an epoch, wrap × 4096 + epoch (R44) -/
  | entry (epoch : Nat)
  /-- Part of a sync: fields by key with their values (R572) -/
  | sync (fields : List (Nat × Nat))
deriving DecidableEq, Repr

/-- An item on the mirror link: the tick it was sent, what it carries (R564). -/
structure MirrorItem where
  tick : Nat
  kind : MirrorKind
deriving DecidableEq, Repr

/-- The concentrator pair beside its registers (R562-R574). -/
structure PairSt where
  /-- Fields of the concentrator-resident blocks on the standby (R562, R573); reset empty, the Reset column -/
  sbRegs : Table Nat
  /-- DRAM of the standby (R562, R573); reset empty -/
  sbDram : Table Byte
  /-- Poison marks of the standby's DRAM; reset empty -/
  sbPoison : Table Unit
  /-- The ring manager of the standby (R13, R322); reset as after its DRAM's power-up -/
  sbRing : RingSt
  /-- Items sent over the mirror link and not acknowledged, oldest first (R564); reset empty -/
  queue : List MirrorItem
  /-- YIELD is asserted: its cause (R566, R567); reset none -/
  yielded : Option Nat
  /-- A switch-over is under way since T0, its tick (R568); reset none -/
  gap : Option Nat
  /-- The switch-over under way is warm (R568); reset false -/
  warm : Bool
  /-- The stamping time of T0 (R363, R568); reset 0 -/
  stamp : Stamp
  /-- A commanded switch was answered and YIELD follows (R566); reset false -/
  switchDue : Bool
  /-- Decisions for epochs not committed that a HOT standby received directly and holds, oldest first (R563, R568); reset empty -/
  held : List DecisionMsg
  /-- Ticks of the residue mismatches of the last second, newest first (R566); reset empty -/
  residue : List Nat
  /-- Tick of the last watchdog kick (R566); reset 0 -/
  wdogTick : Nat
  /-- Tick of the last periodic self-test, by concentrator (R565); reset empty -/
  selfTick : Table Nat
  /-- The first epoch, wrap × 4096 + epoch, of which the standby's ring received every item (R572); reset none -/
  sbFirst : Option Nat
  /-- A WARM standby changing to HOT has still to build (R562); reset false -/
  catching : Bool
  /-- Shadows of reads through PAIR_SB_REG_DATA by requester code (R573); reset empty -/
  sbShadows : Table Shadow
deriving DecidableEq, Repr

/-- Wear values by die and stack (R611, R612). -/
structure Wear where
  /-- Electromigration budget used, in 1 / (6 × 10^9) ppm, by die: 0 PM, 1 PT, 2-5 FT0-FT3, 6 CC-A, 7 CC-B; 0 in a new module -/
  em : Table Nat
  /-- Powered minutes since manufacture -/
  minutes : Nat
  /-- Minutes by bin of the highest Tj -/
  bins : Table Nat
  /-- Minutes of D_OVN on -/
  ovnMinutes : Nat
  /-- Oven frequency change since manufacture, ppb -/
  age : Int
  /-- The same at each of the last 30 updates of the store, newest first -/
  ages : List Int
  /-- DRAM corrections of the present day, by stack: 0 A, 1 B -/
  corr : Table Nat
  /-- DRAM corrections of each of the last 60 days, newest first, by stack -/
  corrDays : Table (List Nat)
deriving DecidableEq, Repr

/-- Service life beside its registers (R611): what has accumulated, and what the nonvolatile store holds. -/
structure WearSt where
  /-- Accumulated since the last update of the store, and before -/
  now : Wear
  /-- The nonvolatile wear store; no reset clears it -/
  store : Wear
deriving DecidableEq, Repr

/-- An instruction of a die's TAP controller (R591). -/
inductive JtagIr where
  | bypass | idcode | sample | extest
deriving DecidableEq, Repr

/-- The IEEE 1149.1 chain (R591): the instruction that its TAP controllers hold, the boundary register's update stage. -/
structure JtagSt where
  /-- Reset IDCODE, as Test-Logic-Reset selects it -/
  ir : JtagIr
  /-- Bits preloaded, first shifted in first; reset empty -/
  boundary : List Bool
deriving DecidableEq, Repr

/-- Everything of the module but the queue of waiting commands. -/
structure Block where
  /-- The registers of the active concentrator, the tiles, the PT and the PM die, by field; a field not listed holds its
  reset value (R8, R22) -/
  regs : Table Nat
  /-- DRAM of the active concentrator (R20): bytes by local address; a byte not listed reads zero (R554) -/
  dram : Table Byte
  /-- 8-byte words stored with a poison mark, active concentrator (R549): word address div 8 -/
  poison : Table Unit
  /-- The start-up state (R80); reset Off -/
  phase : Phase
  /-- Reseat is under way: no fragment opens until it completes (R57); reset true -/
  reseat : Bool
  /-- Ticks of the time island (R18, R19); reset 0 -/
  tick : Nat
  /-- Epoch boundaries of the stamping time since reset, the measure of every count of epochs; reset 0 -/
  epochs : Nat
  /-- The time island (R210-R244) -/
  time : TimeSt
  /-- The fabric switch (R443-R474) -/
  fab : FabSt
  /-- Ports by number (R452, R484) -/
  ports : Table PortSt
  /-- The fast channels (R121-R138) -/
  fast : FastSt
  /-- Woodpecker (R245-R261) -/
  tdc : TdcSt
  /-- Items on the tile links and not yet stored, oldest first (R13, R311); reset empty -/
  links : List LinkItem
  /-- The ring manager of the active concentrator (R307-R318) -/
  ring : RingSt
  /-- Precision channels (R147-R206) -/
  prec : PrecSt
  /-- Loop slots by 4 t + s (R417-R436); reset empty -/
  loops : Table LoopSt
  /-- Lynx (R267-R299) -/
  lynx : LynxSt
  /-- The event builder and the commit log (R48, R327-R353) -/
  evb : EvbSt
  /-- Egress queues by number (R397-R413); reset empty -/
  egq : Table QueueSt
  /-- The trigger master (R294-R297) -/
  master : MasterSt
  /-- The event-record controller (R525) -/
  irq : IrqSt
  /-- Shadows, held writes, TAGs (R72-R74, R579) -/
  access : AccessSt
  /-- Power and Squirrel (R497-R517) -/
  pwr : PwrSt
  /-- Start-up and trust (R80-R120) -/
  boot : BootSt
  /-- Memory protection (R546-R560) -/
  ecc : EccSt
  /-- Check-value units and the decompressor (R379, R391) -/
  chk : CheckSt
  /-- The IEEE 1149.1 chain (R591) -/
  jtag : JtagSt
  /-- Service life (R611, R612) -/
  wear : WearSt
  /-- The test perturbations (R585-R588) -/
  tst : TstSt
  /-- The concentrator pair (R562-R574) -/
  pair : PairSt
  /-- Messages handed to Bamien, oldest first -/
  posted : List Posted
  /-- What has left the module at its pins, newest first -/
  wire : List Wire
  /-- The model's own field: the number of free values drawn so far (an index for Config, never read by a rule) -/
  free : Nat
deriving DecidableEq, Repr

/-- The module: its hardware, and the commands that wait, first in, first out. -/
structure State where
  /-- The model's own field: commands waiting, oldest first; reset empty -/
  pending : List Instr
  /-- The hardware -/
  hw : Block
deriving DecidableEq, Repr

/-! ### Reset (R8, R80) -/

/-- A domain before establishment (R215): the nominal increment of 4 ns a tick. -/
def Domain.reset : Domain where
  time := 0
  inc := 17179869184
  baseInc := 17179869184
  established := false
  quality := 7
  exch := none
  pending := none
  synced := false
  selfStep := none
  followed := none
  offered := none
  sawOffered := false
  sawFollowed := false
  parentQuality := 7
  boundSync := 4294967295
  syncTick := 0
  epochSeen := 0
  master := false
  syncSent := 0
  syncPort := none

/-- The time island after reset (R213, R215, R228). -/
def TimeSt.reset : TimeSt where
  p := Domain.reset
  s := Domain.reset
  dom := false
  established := false
  resid := 0
  held := none
  retCount := 0
  secondPart := none
  epochSeen := none
  refValid := false
  pllTicks := 0
  warmTicks := 0
  warmSec := 0
  tout := []
  pulse := []
  anchors := 0

/-- The switch after reset (R443, R454). -/
def FabSt.reset : FabSt where
  nodeMode := 1
  imageNode := 65535
  roles := 0
  claim := none
  claims := []
  seen := []
  floodId := 0
  pin := none
  owesHeld := false
  refusedAt := 0
  caps := []
  routes := []
  ownGen := 0
  advertPos := 0
  flows := []
  outSeq := []
  trees := []
  primPort := []
  peers := []
  delivered := []

/-- The controller after reset: the Owl's queue holds the IRQ_RESTART record, quality 7, COUNT 1 (R540, R542, R543). (DEDUCED, log entry 11.) -/
def IrqSt.reset : IrqSt where
  src := [(224, ⟨false, some (0, 0), 0, ⟨0, 1835008⟩, 0, false, false, false, some 0⟩)]
  queues := [(0, [⟨224, 0, [32992, 0, 1836032, 0]⟩])]
  seqs := [(0, 1)]
  notified := none

/-- The fast channels after reset: nothing sampled (R121). -/
def FastSt.reset : FastSt := ⟨[], none, [], []⟩

/-- Woodpecker after reset: ideal tables (R247). -/
def TdcSt.reset : TdcSt where
  tables := []
  staging := []
  userDly := []
  hits := []
  lastEdge := []
  marks := []
  pinHold := []
  gates := []
  cal := none

/-- A ring manager whose DRAM has just powered up (R308). -/
def RingSt.reset : RingSt := ⟨0, [], [], [], 0, 0, none, []⟩

/-- Lynx after reset: nothing taken (R299). -/
def LynxSt.reset : LynxSt := ⟨[], none, [], [], [], [], [], []⟩

/-- A precision channel after reset (R174, R204). -/
def PrecCh.reset : PrecCh where
  range := 0
  dwell := 0
  settle := none
  odr := 9
  filter := 0
  cfgTick := none
  refUp := true
  refWait := none
  block := 0
  slot := 0
  newPage := true
  done := 0
  last := none
  faultSeen := false
  rev := 0
  dutyStart := 0
  dutyOn := true
  excWas := false
  convWas := false

/-- Precision channels after reset: nothing converts (R147). -/
def PrecSt.reset : PrecSt := ⟨[], 0, [], [], [], none, []⟩

/-- A loop slot after reset (R420). -/
def LoopSt.reset : LoopSt := ⟨[], none, 0, 0, [], 0, none, none, 0⟩

/-- Power after reset: no vote, no sample (R498, R512). -/
def PwrSt.reset : PwrSt where
  voters := []
  accessTick := []
  samples := []
  microJ := 0
  since := (0, 0)
  peak := 0
  evals := 0
  calm := 0
  steps := []
  duty := []
  raise := 0
  levelPending := none
  gate := 3
  evalTick := 0
  den := none
  denWake := false
  hibWait := false
  hibTick := 0
  wakeS := 0
  thermal := false
  armed := false

/-- The test perturbations after reset (R585). -/
def TstSt.reset : TstSt where
  frames := 0
  timeFrames := 0
  bpOn := false
  bpTick := 0
  losDone := false
  memDone := false
  residue := 0
  epochMask := 0

/-- The pair after reset (R562). -/
def PairSt.reset : PairSt where
  sbRegs := []
  sbDram := []
  sbPoison := []
  sbRing := RingSt.reset
  queue := []
  yielded := none
  gap := none
  warm := false
  stamp := ⟨0, 0⟩
  switchDue := false
  held := []
  residue := []
  wdogTick := 0
  selfTick := []
  sbFirst := none
  catching := false
  sbShadows := []

/-- Start-up and trust of a module with an erased flash and blank fuses. (DESIGN CHOICE, log entry 2.) -/
def BootSt.reset : BootSt where
  flash := []
  fuses := ⟨[], 0, 0, 0⟩
  nonce := none
  run := none
  nvm := none
  image := none
  reportTick := none

/-- The wear store of a new module (R611). (DESIGN CHOICE, log entry 2.) -/
def Wear.reset : Wear := ⟨[], 0, [], 0, 0, [], [], []⟩

/-- The hardware right after a power-on reset: Off, every register at its Reset value (R8, R80). (DEDUCED, log entry 11.) -/
def Block.reset : Block where
  regs := []
  dram := []
  poison := []
  phase := .off
  reseat := true
  tick := 0
  epochs := 0
  time := TimeSt.reset
  fab := FabSt.reset
  ports := []
  fast := FastSt.reset
  tdc := TdcSt.reset
  links := []
  ring := RingSt.reset
  prec := PrecSt.reset
  loops := []
  lynx := LynxSt.reset
  evb := ⟨[], [], [], [], [], [], [], [], none, 0⟩
  egq := []
  master := ⟨[], [], [], 0, none, 0⟩
  irq := IrqSt.reset
  access := ⟨[], [], [], []⟩
  pwr := PwrSt.reset
  boot := BootSt.reset
  ecc := ⟨[], [], []⟩
  chk := ⟨[], none⟩
  jtag := ⟨.idcode, []⟩
  wear := ⟨Wear.reset, Wear.reset⟩
  tst := TstSt.reset
  pair := PairSt.reset
  posted := []
  wire := []
  free := 0

/-- The machine right after reset: no command waits. (DESIGN CHOICE, log entry 5, DEDUCED, log entry 11.) -/
def State.reset : State := ⟨[], Block.reset⟩

/-- Why the block stops: it does not run on. -/
inductive Fault where
  /-- Raised by every meaning for a command whose operands name a unit, channel, port, queue or message field that the
  module has not (`Instr.wf` fails); no hardware event has that form, so stopping is safe -/
  | noSuchUnit
deriving DecidableEq, Repr

/-- Why a command has no meaning. -/
inductive Refusal where
  /-- Raised by the dispatch alone, for a command whose meaning is not written yet; safe -/
  | notModelled (mnemonic : String)
deriving DecidableEq, Repr

end Sys2Proof.Machine
end

