-- ==== Sys2Proof/Machine/Fields.lean ====
section
/-! DEFINITION. The register fields by name: the address of the register (R22 and the chapter's table), the field's lowest
bit, its width and its reset value, for every field of every register table of spec/. Index letters are the spec's: c a fast
channel 0-959, n a precision channel 0-63, t a tile, s a slot or source, p a port, l a lane, q a queue, d a domain or a
destination, x a time domain or tree, u a unit, g a group, r a rule, range or region. -/

namespace Sys2Proof.Machine

/-- The sources of the catalogue that are level sources (R541). -/
def irqIsLevel (s : Nat) : Bool :=
  decide (s < 64) || (decide (128 ≤ s) && decide (s ≤ 154)) || [161, 168, 170, 192, 193, 209, 232].contains s
    || (decide (176 ≤ s) && decide (s ≤ 183))

namespace F

/-! ### 01_module_anatomy.md, R26 -/
abbrev IDN_PART_FAMILY : Field := ⟨0x0, 16, 16, 19533⟩
abbrev IDN_PART_PART : Field := ⟨0x0, 0, 16, 4132⟩
abbrev IDN_STEP_MODULE_STEP : Field := ⟨0x4, 8, 8, 32⟩
abbrev IDN_STEP_GRADE : Field := ⟨0x4, 4, 4, 1⟩
abbrev IDN_DIESTEP_PM_STEP : Field := ⟨0x8, 24, 8, 32⟩
abbrev IDN_DIESTEP_PT_STEP : Field := ⟨0x8, 16, 8, 32⟩
abbrev IDN_DIESTEP_CC_STEP : Field := ⟨0x8, 8, 8, 32⟩
abbrev IDN_DIESTEP_FT_STEP : Field := ⟨0x8, 0, 8, 32⟩
abbrev IDN_SERIAL_LO : Field := ⟨0x10, 0, 32, 0⟩
abbrev IDN_SERIAL_HI : Field := ⟨0x14, 0, 32, 0⟩
abbrev IDN_SERHASH : Field := ⟨0x18, 0, 32, 0⟩
abbrev IDN_NODE_NODE_SRC : Field := ⟨0x20, 14, 2, 0⟩
abbrev IDN_NODE_NODE_VALID : Field := ⟨0x20, 12, 1, 0⟩
abbrev IDN_NODE_NODE_ID : Field := ⟨0x20, 0, 12, 0⟩
abbrev IDN_ACTIVE : Field := ⟨0x24, 0, 1, 0⟩
abbrev IDN_CFGGEN : Field := ⟨0x28, 0, 32, 0⟩
abbrev IDN_CAP_DRAM_GIB : Field := ⟨0x30, 16, 16, 24⟩
abbrev IDN_CAP_PORTS : Field := ⟨0x30, 8, 8, 8⟩
abbrev IDN_CAP_CC_PRESENT : Field := ⟨0x30, 4, 2, 0⟩
abbrev IDN_CAP_TILE_PRESENT : Field := ⟨0x30, 0, 4, 0⟩

/-! ### 02_coherence_model.md, R76 -/
abbrev SYS_SNAP_ARM : Field := ⟨0x10100, 31, 1, 0⟩
abbrev SYS_SNAP_TILE_MASK : Field := ⟨0x10100, 20, 4, 0⟩
abbrev SYS_SNAP_BLOCK_MASK : Field := ⟨0x10100, 0, 20, 0⟩
abbrev SYS_SNAP_STAT_DONE : Field := ⟨0x10104, 31, 1, 0⟩
abbrev SYS_SNAP_STAT_PENDING : Field := ⟨0x10104, 30, 1, 0⟩
abbrev SYS_SNAP_STAT_OFF : Field := ⟨0x10104, 29, 1, 0⟩
abbrev SYS_SNAP_STAT_CANCELLED : Field := ⟨0x10104, 28, 1, 0⟩
abbrev SYS_SNAP_STAT_EPOCH : Field := ⟨0x10104, 16, 12, 0⟩
abbrev SYS_SNAP_STAT_WRAP : Field := ⟨0x10104, 0, 16, 0⟩

/-! ### 03_startup_image_trust.md, R86 -/
abbrev SYS_STATE_RESET_CAUSE : Field := ⟨0x10000, 12, 4, 0⟩
abbrev SYS_STATE_BOOT_SEL : Field := ⟨0x10000, 10, 2, 0⟩
abbrev SYS_STATE_TRIAL : Field := ⟨0x10000, 9, 1, 0⟩
abbrev SYS_STATE_SLOT : Field := ⟨0x10000, 8, 1, 0⟩
abbrev SYS_STATE_STATE : Field := ⟨0x10000, 0, 4, 0⟩
abbrev SYS_BOOT_ERR_DETAIL_IDX : Field := ⟨0x10004, 16, 16, 0⟩
abbrev SYS_BOOT_ERR_DETAIL_SEC : Field := ⟨0x10004, 8, 8, 0⟩
abbrev SYS_BOOT_ERR_CODE : Field := ⟨0x10004, 0, 8, 0⟩
abbrev SYS_BOOT_ERR_B_DETAIL_IDX : Field := ⟨0x10008, 16, 16, 0⟩
abbrev SYS_BOOT_ERR_B_DETAIL_SEC : Field := ⟨0x10008, 8, 8, 0⟩
abbrev SYS_BOOT_ERR_B_CODE : Field := ⟨0x10008, 0, 8, 0⟩
abbrev SYS_RESTART : Field := ⟨0x10010, 0, 32, 0⟩

/-! ### 03_startup_image_trust.md, R113 -/
abbrev SEC_STATUS_OWNER_STATE : Field := ⟨0x110000, 24, 8, 0⟩
abbrev SEC_STATUS_ARB_CFG : Field := ⟨0x110000, 16, 8, 0⟩
abbrev SEC_STATUS_ARB_WARREN : Field := ⟨0x110000, 8, 8, 0⟩
abbrev SEC_STATUS_ARB_OWL : Field := ⟨0x110000, 0, 8, 0⟩
abbrev SEC_EXPERT : Field := ⟨0x110004, 0, 32, 0⟩
abbrev SEC_DEBUG : Field := ⟨0x110008, 0, 32, 0⟩
abbrev SEC_CMD_STAT_RESULT : Field := ⟨0x11000c, 8, 8, 0⟩
abbrev SEC_CMD_STAT_BUSY : Field := ⟨0x11000c, 0, 1, 0⟩
abbrev SEC_CMD : Field := ⟨0x110010, 0, 32, 0⟩
abbrev SEC_FENCE_CNT : Field := ⟨0x110014, 0, 32, 0⟩
abbrev SEC_NVM_ADDR : Field := ⟨0x110020, 0, 32, 0⟩
abbrev SEC_NVM_CTRL_OPEN : Field := ⟨0x110024, 31, 1, 0⟩
abbrev SEC_NVM_CTRL_SLOT : Field := ⟨0x110024, 30, 1, 0⟩
abbrev SEC_NVM_CTRL_NVM_BUSY : Field := ⟨0x110024, 29, 1, 0⟩
abbrev SEC_NVM_CTRL_NVM_RESULT : Field := ⟨0x110024, 26, 3, 0⟩
abbrev SEC_NVM_CTRL_OP : Field := ⟨0x110024, 0, 2, 0⟩

/-! ### 04_fast_channels.md, R139 -/
abbrev FT_GROUP_REQ (t : Nat) : Field := ⟨0x200100 + t * 0x40000, 0, 15, 0⟩
abbrev FT_GROUP_ACT (t : Nat) : Field := ⟨0x200104 + t * 0x40000, 0, 15, 0⟩
abbrev FT_GROUP_STAT (t : Nat) : Field := ⟨0x200108 + t * 0x40000, 0, 15, 0⟩

/-! ### 04_fast_channels.md, R140 -/
abbrev FCH_CFG_PROFILE (c : Nat) : Field := ⟨0x210000 + c / 240 * 0x40000 + c % 240 * 64, 16, 16, 0⟩
abbrev FCH_CFG_POLARITY (c : Nat) : Field := ⟨0x210000 + c / 240 * 0x40000 + c % 240 * 64, 8, 2, 3⟩
abbrev FCH_CFG_DISC_DUAL (c : Nat) : Field := ⟨0x210000 + c / 240 * 0x40000 + c % 240 * 64, 7, 1, 0⟩
abbrev FCH_CFG_QRANGE (c : Nat) : Field := ⟨0x210000 + c / 240 * 0x40000 + c % 240 * 64, 4, 3, 4⟩
abbrev FCH_CFG_VGAIN (c : Nat) : Field := ⟨0x210000 + c / 240 * 0x40000 + c % 240 * 64, 2, 2, 0⟩
abbrev FCH_CFG_MODE (c : Nat) : Field := ⟨0x210000 + c / 240 * 0x40000 + c % 240 * 64, 0, 2, 0⟩
abbrev FCH_SHAPE_BLR_TARGET (c : Nat) : Field := ⟨0x210004 + c / 240 * 0x40000 + c % 240 * 64, 16, 14, 0⟩
abbrev FCH_SHAPE_BLR_TAU (c : Nat) : Field := ⟨0x210004 + c / 240 * 0x40000 + c % 240 * 64, 12, 2, 1⟩
abbrev FCH_SHAPE_BLR_MODE (c : Nat) : Field := ⟨0x210004 + c / 240 * 0x40000 + c % 240 * 64, 8, 2, 0⟩
abbrev FCH_SHAPE_LP (c : Nat) : Field := ⟨0x210004 + c / 240 * 0x40000 + c % 240 * 64, 4, 3, 7⟩
abbrev FCH_SHAPE_HP (c : Nat) : Field := ⟨0x210004 + c / 240 * 0x40000 + c % 240 * 64, 0, 3, 0⟩
abbrev FCH_THR_THR_HI (c : Nat) : Field := ⟨0x210008 + c / 240 * 0x40000 + c % 240 * 64, 16, 11, 2047⟩
abbrev FCH_THR_THR_LO (c : Nat) : Field := ⟨0x210008 + c / 240 * 0x40000 + c % 240 * 64, 0, 11, 2047⟩
abbrev FCH_DISC_HOLDOFF (c : Nat) : Field := ⟨0x21000c + c / 240 * 0x40000 + c % 240 * 64, 16, 12, 0⟩
abbrev FCH_DISC_HYST (c : Nat) : Field := ⟨0x21000c + c / 240 * 0x40000 + c % 240 * 64, 0, 6, 2⟩
abbrev FCH_GTRIM (c : Nat) : Field := ⟨0x210010 + c / 240 * 0x40000 + c % 240 * 64, 0, 16, 0⟩
abbrev FCH_OTRIM (c : Nat) : Field := ⟨0x210014 + c / 240 * 0x40000 + c % 240 * 64, 0, 14, 0⟩
abbrev FCH_STAT_DISC_ACTIVE (c : Nat) : Field := ⟨0x210018 + c / 240 * 0x40000 + c % 240 * 64, 20, 1, 0⟩
abbrev FCH_STAT_THR_CLAMP (c : Nat) : Field := ⟨0x210018 + c / 240 * 0x40000 + c % 240 * 64, 19, 1, 0⟩
abbrev FCH_STAT_BAND_CLAMP (c : Nat) : Field := ⟨0x210018 + c / 240 * 0x40000 + c % 240 * 64, 18, 1, 0⟩
abbrev FCH_STAT_OVR (c : Nat) : Field := ⟨0x210018 + c / 240 * 0x40000 + c % 240 * 64, 17, 1, 0⟩
abbrev FCH_STAT_SETTLING (c : Nat) : Field := ⟨0x210018 + c / 240 * 0x40000 + c % 240 * 64, 16, 1, 0⟩
abbrev FCH_STAT_BASELINE (c : Nat) : Field := ⟨0x210018 + c / 240 * 0x40000 + c % 240 * 64, 0, 14, 0⟩
abbrev FCH_OVR_CNT (c : Nat) : Field := ⟨0x21001c + c / 240 * 0x40000 + c % 240 * 64, 0, 32, 0⟩
abbrev FCH_HIT_CNT_LO (c : Nat) : Field := ⟨0x210020 + c / 240 * 0x40000 + c % 240 * 64, 0, 32, 0⟩
abbrev FCH_HIT_CNT_HI (c : Nat) : Field := ⟨0x210024 + c / 240 * 0x40000 + c % 240 * 64, 0, 32, 0⟩
abbrev FCH_HOLDOFF_CNT (c : Nat) : Field := ⟨0x210028 + c / 240 * 0x40000 + c % 240 * 64, 0, 32, 0⟩
abbrev FCH_OVR_CNT_S (c : Nat) : Field := ⟨0x21002c + c / 240 * 0x40000 + c % 240 * 64, 0, 32, 0⟩
abbrev FCH_HIT_CNT_S_LO (c : Nat) : Field := ⟨0x210030 + c / 240 * 0x40000 + c % 240 * 64, 0, 32, 0⟩
abbrev FCH_HIT_CNT_S_HI (c : Nat) : Field := ⟨0x210034 + c / 240 * 0x40000 + c % 240 * 64, 0, 32, 0⟩
abbrev FCH_HOLDOFF_CNT_S (c : Nat) : Field := ⟨0x210038 + c / 240 * 0x40000 + c % 240 * 64, 0, 32, 0⟩

/-! ### 05_precision_front_end.md, R173 -/
abbrev FT_EXC_PWR_MODULE_MW (t : Nat) : Field := ⟨0x200110 + t * 0x40000, 16, 16, 0⟩
abbrev FT_EXC_PWR_TILE_MW (t : Nat) : Field := ⟨0x200110 + t * 0x40000, 0, 16, 0⟩

/-! ### 05_precision_front_end.md, R174 -/
abbrev PCH_IN_PROFILE (n : Nat) : Field := ⟨0x220000 + n / 16 * 0x40000 + n % 16 * 256, 16, 16, 0⟩
abbrev PCH_IN_GUARD_MODE (n : Nat) : Field := ⟨0x220000 + n / 16 * 0x40000 + n % 16 * 256, 14, 2, 0⟩
abbrev PCH_IN_BURNOUT (n : Nat) : Field := ⟨0x220000 + n / 16 * 0x40000 + n % 16 * 256, 12, 2, 0⟩
abbrev PCH_IN_AR_MAX_CODE (n : Nat) : Field := ⟨0x220000 + n / 16 * 0x40000 + n % 16 * 256, 9, 3, 5⟩
abbrev PCH_IN_AR_MIN_CODE (n : Nat) : Field := ⟨0x220000 + n / 16 * 0x40000 + n % 16 * 256, 6, 3, 0⟩
abbrev PCH_IN_RANGE (n : Nat) : Field := ⟨0x220000 + n / 16 * 0x40000 + n % 16 * 256, 3, 3, 0⟩
abbrev PCH_IN_RANGE_AUTO (n : Nat) : Field := ⟨0x220000 + n / 16 * 0x40000 + n % 16 * 256, 2, 1, 0⟩
abbrev PCH_IN_INPUT_MODE (n : Nat) : Field := ⟨0x220000 + n / 16 * 0x40000 + n % 16 * 256, 0, 2, 0⟩
abbrev PCH_AR (n : Nat) : Field := ⟨0x220004 + n / 16 * 0x40000 + n % 16 * 256, 0, 16, 1024⟩
abbrev PCH_EXC_EXC_MODE (n : Nat) : Field := ⟨0x220008 + n / 16 * 0x40000 + n % 16 * 256, 30, 2, 0⟩
abbrev PCH_EXC_ILIM (n : Nat) : Field := ⟨0x220008 + n / 16 * 0x40000 + n % 16 * 256, 16, 5, 10⟩
abbrev PCH_EXC_EXC_V (n : Nat) : Field := ⟨0x220008 + n / 16 * 0x40000 + n % 16 * 256, 0, 13, 2500⟩
abbrev PCH_REV (n : Nat) : Field := ⟨0x22000c + n / 16 * 0x40000 + n % 16 * 256, 0, 16, 256⟩
abbrev PCH_DUTY_EXC_PERIOD (n : Nat) : Field := ⟨0x220010 + n / 16 * 0x40000 + n % 16 * 256, 16, 12, 60⟩
abbrev PCH_DUTY_DUTY_GRANT (n : Nat) : Field := ⟨0x220010 + n / 16 * 0x40000 + n % 16 * 256, 0, 9, 256⟩
abbrev PCH_CMW_CMW_HI (n : Nat) : Field := ⟨0x220014 + n / 16 * 0x40000 + n % 16 * 256, 16, 16, 2700⟩
abbrev PCH_CMW_CMW_LO (n : Nat) : Field := ⟨0x220014 + n / 16 * 0x40000 + n % 16 * 256, 0, 16, 62836⟩
abbrev PCH_FAULT_FAULT_MODE (n : Nat) : Field := ⟨0x220018 + n / 16 * 0x40000 + n % 16 * 256, 31, 1, 0⟩
abbrev PCH_FAULT_DRV_LIMIT (n : Nat) : Field := ⟨0x220018 + n / 16 * 0x40000 + n % 16 * 256, 5, 1, 0⟩
abbrev PCH_FAULT_EXC_LIMIT (n : Nat) : Field := ⟨0x220018 + n / 16 * 0x40000 + n % 16 * 256, 4, 1, 0⟩
abbrev PCH_FAULT_CM_SNN (n : Nat) : Field := ⟨0x220018 + n / 16 * 0x40000 + n % 16 * 256, 3, 1, 0⟩
abbrev PCH_FAULT_CM_SNP (n : Nat) : Field := ⟨0x220018 + n / 16 * 0x40000 + n % 16 * 256, 2, 1, 0⟩
abbrev PCH_FAULT_CM_INN (n : Nat) : Field := ⟨0x220018 + n / 16 * 0x40000 + n % 16 * 256, 1, 1, 0⟩
abbrev PCH_FAULT_CM_INP (n : Nat) : Field := ⟨0x220018 + n / 16 * 0x40000 + n % 16 * 256, 0, 1, 0⟩
abbrev PCH_STAT_EXC_CLAMP (n : Nat) : Field := ⟨0x22001c + n / 16 * 0x40000 + n % 16 * 256, 18, 1, 0⟩
abbrev PCH_STAT_REV_CLAMP (n : Nat) : Field := ⟨0x22001c + n / 16 * 0x40000 + n % 16 * 256, 17, 1, 0⟩
abbrev PCH_STAT_SENSE_LOCAL (n : Nat) : Field := ⟨0x22001c + n / 16 * 0x40000 + n % 16 * 256, 16, 1, 0⟩
abbrev PCH_STAT_POL (n : Nat) : Field := ⟨0x22001c + n / 16 * 0x40000 + n % 16 * 256, 15, 1, 0⟩
abbrev PCH_STAT_EXC_ON (n : Nat) : Field := ⟨0x22001c + n / 16 * 0x40000 + n % 16 * 256, 14, 1, 0⟩
abbrev PCH_STAT_FAULT (n : Nat) : Field := ⟨0x22001c + n / 16 * 0x40000 + n % 16 * 256, 13, 1, 0⟩
abbrev PCH_STAT_SETTLING (n : Nat) : Field := ⟨0x22001c + n / 16 * 0x40000 + n % 16 * 256, 12, 1, 0⟩
abbrev PCH_STAT_LIMIT_NOW (n : Nat) : Field := ⟨0x22001c + n / 16 * 0x40000 + n % 16 * 256, 11, 1, 0⟩
abbrev PCH_STAT_RANGE_NOW (n : Nat) : Field := ⟨0x22001c + n / 16 * 0x40000 + n % 16 * 256, 8, 3, 0⟩
abbrev PCH_DRV_OWNER_VALID (n : Nat) : Field := ⟨0x220020 + n / 16 * 0x40000 + n % 16 * 256, 31, 1, 0⟩
abbrev PCH_DRV_OWNER (n : Nat) : Field := ⟨0x220020 + n / 16 * 0x40000 + n % 16 * 256, 28, 2, 0⟩
abbrev PCH_DRV_DRV_ILIM (n : Nat) : Field := ⟨0x220020 + n / 16 * 0x40000 + n % 16 * 256, 20, 5, 25⟩
abbrev PCH_DRV_DRV_VALUE (n : Nat) : Field := ⟨0x220020 + n / 16 * 0x40000 + n % 16 * 256, 0, 20, 0⟩
abbrev PCH_EXC_MEAS_I_MEAS (n : Nat) : Field := ⟨0x220024 + n / 16 * 0x40000 + n % 16 * 256, 16, 16, 0⟩
abbrev PCH_EXC_MEAS_V_MEAS (n : Nat) : Field := ⟨0x220024 + n / 16 * 0x40000 + n % 16 * 256, 0, 16, 0⟩
abbrev PCH_FAULT_CNT (n : Nat) : Field := ⟨0x220028 + n / 16 * 0x40000 + n % 16 * 256, 0, 32, 0⟩
abbrev PCH_RANGE_CNT (n : Nat) : Field := ⟨0x22002c + n / 16 * 0x40000 + n % 16 * 256, 0, 32, 0⟩
abbrev PCH_CLIP_CNT (n : Nat) : Field := ⟨0x220030 + n / 16 * 0x40000 + n % 16 * 256, 0, 32, 0⟩
abbrev PCH_REFUSE_CNT (n : Nat) : Field := ⟨0x220034 + n / 16 * 0x40000 + n % 16 * 256, 0, 32, 0⟩
abbrev PCH_FAULT_CNT_S (n : Nat) : Field := ⟨0x220038 + n / 16 * 0x40000 + n % 16 * 256, 0, 32, 0⟩
abbrev PCH_RANGE_CNT_S (n : Nat) : Field := ⟨0x22003c + n / 16 * 0x40000 + n % 16 * 256, 0, 32, 0⟩
abbrev PCH_CLIP_CNT_S (n : Nat) : Field := ⟨0x220040 + n / 16 * 0x40000 + n % 16 * 256, 0, 32, 0⟩
abbrev PCH_REFUSE_CNT_S (n : Nat) : Field := ⟨0x220044 + n / 16 * 0x40000 + n % 16 * 256, 0, 32, 0⟩

/-! ### 06_precision_conversion.md, R204 -/
abbrev PCV_CFG_RECORD (n : Nat) : Field := ⟨0x220080 + n / 16 * 0x40000 + n % 16 * 256, 8, 1, 0⟩
abbrev PCV_CFG_REF_SEL (n : Nat) : Field := ⟨0x220080 + n / 16 * 0x40000 + n % 16 * 256, 6, 2, 0⟩
abbrev PCV_CFG_FILTER (n : Nat) : Field := ⟨0x220080 + n / 16 * 0x40000 + n % 16 * 256, 4, 2, 0⟩
abbrev PCV_CFG_ODR (n : Nat) : Field := ⟨0x220080 + n / 16 * 0x40000 + n % 16 * 256, 0, 4, 9⟩
abbrev PCV_STAT_REF_NOW (n : Nat) : Field := ⟨0x220084 + n / 16 * 0x40000 + n % 16 * 256, 10, 2, 0⟩
abbrev PCV_STAT_FILTER_NOW (n : Nat) : Field := ⟨0x220084 + n / 16 * 0x40000 + n % 16 * 256, 8, 2, 0⟩
abbrev PCV_STAT_ODR_NOW (n : Nat) : Field := ⟨0x220084 + n / 16 * 0x40000 + n % 16 * 256, 4, 4, 0⟩
abbrev PCV_STAT_CAL_HOLD (n : Nat) : Field := ⟨0x220084 + n / 16 * 0x40000 + n % 16 * 256, 3, 1, 0⟩
abbrev PCV_STAT_REF_CLAMP (n : Nat) : Field := ⟨0x220084 + n / 16 * 0x40000 + n % 16 * 256, 2, 1, 0⟩
abbrev PCV_STAT_REF_UNSETTLED (n : Nat) : Field := ⟨0x220084 + n / 16 * 0x40000 + n % 16 * 256, 1, 1, 0⟩
abbrev PCV_STAT_CONVERTING (n : Nat) : Field := ⟨0x220084 + n / 16 * 0x40000 + n % 16 * 256, 0, 1, 0⟩
abbrev PCV_REF_MEAS (n : Nat) : Field := ⟨0x220088 + n / 16 * 0x40000 + n % 16 * 256, 0, 24, 0⟩
abbrev PCV_LAST (n : Nat) : Field := ⟨0x22008c + n / 16 * 0x40000 + n % 16 * 256, 0, 32, 0⟩
abbrev PCV_CAL_OFS (n r : Nat) : Field := ⟨0x220090 + n / 16 * 0x40000 + n % 16 * 256 + r * 0x8, 0, 24, 0⟩
abbrev PCV_CAL_GAIN (n r : Nat) : Field := ⟨0x220094 + n / 16 * 0x40000 + n % 16 * 256 + r * 0x8, 0, 32, 1073741824⟩
abbrev PCV_CAL_VALID (n : Nat) : Field := ⟨0x2200c0 + n / 16 * 0x40000 + n % 16 * 256, 0, 6, 0⟩
abbrev PCV_REFUNS_CNT (n : Nat) : Field := ⟨0x2200c4 + n / 16 * 0x40000 + n % 16 * 256, 0, 32, 0⟩
abbrev PCV_REFUNS_CNT_S (n : Nat) : Field := ⟨0x2200c8 + n / 16 * 0x40000 + n % 16 * 256, 0, 32, 0⟩

/-! ### 06_precision_conversion.md, R205 -/
abbrev CNV_MODCYC_LO : Field := ⟨0x130000, 0, 32, 0⟩
abbrev CNV_MODCYC_HI : Field := ⟨0x130004, 0, 32, 0⟩
abbrev CNV_CAL_CMD_GO : Field := ⟨0x130010, 31, 1, 0⟩
abbrev CNV_CAL_CMD_ABORT : Field := ⟨0x130010, 30, 1, 0⟩
abbrev CNV_CAL_CMD_STEP : Field := ⟨0x130010, 8, 2, 0⟩
abbrev CNV_CAL_CMD_CHANNEL : Field := ⟨0x130010, 0, 6, 0⟩
abbrev CNV_CAL_AVG : Field := ⟨0x130014, 0, 16, 64⟩
abbrev CNV_CAL_TARGET : Field := ⟨0x130018, 0, 24, 0⟩
abbrev CNV_CAL_STAT_BUSY : Field := ⟨0x13001c, 31, 1, 0⟩
abbrev CNV_CAL_STAT_RESULT : Field := ⟨0x13001c, 27, 4, 0⟩
abbrev CNV_CAL_STAT_RANGE : Field := ⟨0x13001c, 24, 3, 0⟩
abbrev CNV_CAL_STAT_STEP : Field := ⟨0x13001c, 22, 2, 0⟩
abbrev CNV_CAL_STAT_CHANNEL : Field := ⟨0x13001c, 16, 6, 0⟩
abbrev CNV_CAL_STAT_COUNT : Field := ⟨0x13001c, 0, 16, 0⟩
abbrev CNV_CAL_MEAN : Field := ⟨0x130020, 0, 24, 0⟩
abbrev CNV_REFUSE_CNT : Field := ⟨0x130024, 0, 32, 0⟩
abbrev CNV_REFUSE_CNT_S : Field := ⟨0x130028, 0, 32, 0⟩
abbrev CNV_OD_REQ_URGENT : Field := ⟨0x130030, 31, 1, 0⟩
abbrev CNV_OD_REQ_CHANNEL : Field := ⟨0x130030, 0, 6, 0⟩
abbrev CNV_OD_STAT : Field := ⟨0x130034, 0, 8, 0⟩
abbrev CNV_OD_DROP : Field := ⟨0x130038, 0, 32, 0⟩
abbrev CNV_OD_DROP_S : Field := ⟨0x13003c, 0, 32, 0⟩
abbrev CNV_OD_WORD (s : Nat) : Field := ⟨0x130100 + s * 0x10, 0, 32, 0⟩
abbrev CNV_OD_TS (s : Nat) : Field := ⟨0x130104 + s * 0x10, 0, 32, 0⟩
abbrev CNV_OD_TSX (s : Nat) : Field := ⟨0x130108 + s * 0x10, 0, 32, 0⟩
abbrev CNV_OD_CTRL_DONE (s : Nat) : Field := ⟨0x13010c + s * 0x10, 31, 1, 0⟩
abbrev CNV_OD_CTRL_DROPPED (s : Nat) : Field := ⟨0x13010c + s * 0x10, 30, 1, 0⟩
abbrev CNV_OD_CTRL_URGENT (s : Nat) : Field := ⟨0x13010c + s * 0x10, 29, 1, 0⟩
abbrev CNV_OD_CTRL_CHANNEL (s : Nat) : Field := ⟨0x13010c + s * 0x10, 0, 6, 0⟩
abbrev CNV_WR_CNT_LO (n : Nat) : Field := ⟨0x130400 + n * 0x8, 0, 32, 0⟩
abbrev CNV_WR_CNT_HI (n : Nat) : Field := ⟨0x130404 + n * 0x8, 0, 32, 0⟩

/-! ### 07_time_base.md, R241 -/
abbrev TIM_STAT_OVN_READY : Field := ⟨0x50000, 31, 1, 0⟩
abbrev TIM_STAT_PLL_LOCK : Field := ⟨0x50000, 30, 1, 0⟩
abbrev TIM_STAT_REF_NOW : Field := ⟨0x50000, 29, 1, 0⟩
abbrev TIM_STAT_REFIN_PRESENT : Field := ⟨0x50000, 28, 1, 0⟩
abbrev TIM_STAT_STAMP_DOM : Field := ⟨0x50000, 27, 1, 0⟩
abbrev TIM_STAT_SLEWING : Field := ⟨0x50000, 26, 1, 0⟩
abbrev TIM_STAT_ESTABLISHED : Field := ⟨0x50000, 25, 1, 0⟩
abbrev TIM_STAT_SW_BLOCKED : Field := ⟨0x50000, 24, 1, 0⟩
abbrev TIM_STAT_QUALITY : Field := ⟨0x50000, 20, 3, 0⟩
abbrev TIM_STAT_WRAP : Field := ⟨0x50000, 0, 16, 0⟩
abbrev TIM_CTRL_REF_SEL : Field := ⟨0x50004, 30, 2, 2⟩
abbrev TIM_CTRL_SW_MODE : Field := ⟨0x50004, 28, 2, 0⟩
abbrev TIM_CTRL_RET_EPOCHS : Field := ⟨0x50004, 0, 16, 64⟩
abbrev TIM_SWLIM : Field := ⟨0x50008, 0, 20, 10000⟩
abbrev TIM_NOW_LO : Field := ⟨0x50010, 0, 32, 0⟩
abbrev TIM_NOW_HI_FRAC : Field := ⟨0x50014, 22, 10, 0⟩
abbrev TIM_NOW_HI_DOMAIN : Field := ⟨0x50014, 21, 1, 0⟩
abbrev TIM_NOW_HI_QUALITY : Field := ⟨0x50014, 18, 3, 0⟩
abbrev TIM_NOW_HI_WRAP : Field := ⟨0x50014, 0, 16, 0⟩
abbrev TIM_RESID : Field := ⟨0x50018, 0, 32, 0⟩
abbrev TIM_TICK_LO : Field := ⟨0x50020, 0, 32, 0⟩
abbrev TIM_TICK_HI : Field := ⟨0x50024, 0, 32, 0⟩
abbrev TIM_OVN_ON_HOURS : Field := ⟨0x50030, 16, 16, 0⟩
abbrev TIM_OVN_WARM_S : Field := ⟨0x50030, 0, 16, 0⟩
abbrev TIM_REFUSE_CNT : Field := ⟨0x50034, 0, 32, 0⟩
abbrev TIM_REFUSE_CNT_S : Field := ⟨0x50038, 0, 32, 0⟩
abbrev TIM_ASYM (p : Nat) : Field := ⟨0x50200 + p * 0x4, 0, 16, 0⟩

/-! ### 07_time_base.md, R242 -/
abbrev TIM_DOM_NS_LO (x : Nat) : Field := ⟨0x50100 + x * 0x80, 0, 32, 0⟩
abbrev TIM_DOM_NS_HI_FRAC (x : Nat) : Field := ⟨0x50104 + x * 0x80, 22, 10, 0⟩
abbrev TIM_DOM_NS_HI_QUALITY (x : Nat) : Field := ⟨0x50104 + x * 0x80, 18, 3, 0⟩
abbrev TIM_DOM_NS_HI_WRAP (x : Nat) : Field := ⟨0x50104 + x * 0x80, 0, 16, 0⟩
abbrev TIM_DOM_INC_LO (x : Nat) : Field := ⟨0x50108 + x * 0x80, 0, 32, 0⟩
abbrev TIM_DOM_INC_HI (x : Nat) : Field := ⟨0x5010c + x * 0x80, 0, 8, 0⟩
abbrev TIM_DOM_STATE_SYNC_STATE (x : Nat) : Field := ⟨0x50110 + x * 0x80, 29, 3, 0⟩
abbrev TIM_DOM_STATE_LOST (x : Nat) : Field := ⟨0x50110 + x * 0x80, 28, 1, 0⟩
abbrev TIM_DOM_STATE_PARENT_VALID (x : Nat) : Field := ⟨0x50110 + x * 0x80, 27, 1, 0⟩
abbrev TIM_DOM_STATE_PARENT_PORT (x : Nat) : Field := ⟨0x50110 + x * 0x80, 24, 3, 0⟩
abbrev TIM_DOM_STATE_HOPS (x : Nat) : Field := ⟨0x50110 + x * 0x80, 16, 5, 0⟩
abbrev TIM_DOM_STATE_MISSED (x : Nat) : Field := ⟨0x50110 + x * 0x80, 0, 8, 0⟩
abbrev TIM_DOM_OFFSET (x : Nat) : Field := ⟨0x50114 + x * 0x80, 0, 32, 0⟩
abbrev TIM_DOM_DELAY (x : Nat) : Field := ⟨0x50118 + x * 0x80, 0, 32, 0⟩
abbrev TIM_DOM_BOUND (x : Nat) : Field := ⟨0x5011c + x * 0x80, 0, 32, 4294967295⟩
abbrev TIM_DOM_MSET_LO (x : Nat) : Field := ⟨0x50120 + x * 0x80, 0, 32, 0⟩
abbrev TIM_DOM_MSET_HI_GO (x : Nat) : Field := ⟨0x50124 + x * 0x80, 31, 1, 0⟩
abbrev TIM_DOM_MSET_HI_WRAP (x : Nat) : Field := ⟨0x50124 + x * 0x80, 0, 16, 0⟩
abbrev TIM_DOM_SYNC_CNT (x : Nat) : Field := ⟨0x50128 + x * 0x80, 0, 32, 0⟩
abbrev TIM_DOM_MISS_CNT (x : Nat) : Field := ⟨0x5012c + x * 0x80, 0, 32, 0⟩
abbrev TIM_DOM_STEP_CNT (x : Nat) : Field := ⟨0x50130 + x * 0x80, 0, 32, 0⟩
abbrev TIM_DOM_REPARENT_CNT (x : Nat) : Field := ⟨0x50134 + x * 0x80, 0, 32, 0⟩
abbrev TIM_DOM_CNT_S (x j : Nat) : Field := ⟨0x50138 + x * 0x80 + j * 4, 0, 32, 0⟩
abbrev TIM_DOM_HO (x : Nat) : Field := ⟨0x50148 + x * 0x80, 0, 16, 0⟩
abbrev TIM_DOM_SERVO_STEP_THR_NS (x : Nat) : Field := ⟨0x5014c + x * 0x80, 16, 16, 1000⟩
abbrev TIM_DOM_SERVO_STEER_PPM (x : Nat) : Field := ⟨0x5014c + x * 0x80, 0, 16, 100⟩
abbrev TIM_DOM_MINC_LO (x : Nat) : Field := ⟨0x50150 + x * 0x80, 0, 32, 0⟩
abbrev TIM_DOM_MINC_HI (x : Nat) : Field := ⟨0x50154 + x * 0x80, 0, 8, 4⟩

/-! ### 07_time_base.md, R243 -/
abbrev TOUT_CTRL_ARM (i : Nat) : Field := ⟨0x50300 + i * 0x20, 31, 1, 0⟩
abbrev TOUT_CTRL_LATE (i : Nat) : Field := ⟨0x50300 + i * 0x20, 30, 1, 0⟩
abbrev TOUT_CTRL_DOMAIN (i : Nat) : Field := ⟨0x50300 + i * 0x20, 28, 2, 2⟩
abbrev TOUT_CTRL_INVERT (i : Nat) : Field := ⟨0x50300 + i * 0x20, 27, 1, 0⟩
abbrev TOUT_CTRL_COUNT (i : Nat) : Field := ⟨0x50300 + i * 0x20, 0, 24, 0⟩
abbrev TOUT_START_NS (i : Nat) : Field := ⟨0x50304 + i * 0x20, 0, 32, 0⟩
abbrev TOUT_START_X_FRAC16 (i : Nat) : Field := ⟨0x50308 + i * 0x20, 28, 4, 0⟩
abbrev TOUT_START_X_WRAP (i : Nat) : Field := ⟨0x50308 + i * 0x20, 0, 16, 0⟩
abbrev TOUT_WIDTH (i : Nat) : Field := ⟨0x5030c + i * 0x20, 0, 21, 1000⟩
abbrev TOUT_PERIOD (i : Nat) : Field := ⟨0x50310 + i * 0x20, 0, 32, 0⟩
abbrev TOUT_EMITTED (i : Nat) : Field := ⟨0x50314 + i * 0x20, 0, 32, 0⟩
abbrev TOUT_MISSED (i : Nat) : Field := ⟨0x50318 + i * 0x20, 0, 32, 0⟩
abbrev TOUT_MISSED_S (i : Nat) : Field := ⟨0x5031c + i * 0x20, 0, 32, 0⟩

/-! ### 08_woodpecker_tdc.md, R262 -/
abbrev TDC_CTRL : Field := ⟨0x60000, 0, 8, 25⟩
abbrev TDC_STAT_DT_CAL : Field := ⟨0x60004, 24, 8, 0⟩
abbrev TDC_STAT_PT_OFFLINE : Field := ⟨0x60004, 4, 1, 0⟩
abbrev TDC_STAT_CAL_OFFLINE : Field := ⟨0x60004, 0, 4, 0⟩
abbrev TDC_CAL_CMD_GO : Field := ⟨0x60010, 31, 1, 0⟩
abbrev TDC_CAL_CMD_ABORT : Field := ⟨0x60010, 30, 1, 0⟩
abbrev TDC_CAL_CMD_MODE : Field := ⟨0x60010, 28, 2, 0⟩
abbrev TDC_CAL_CMD_SCOPE : Field := ⟨0x60010, 26, 2, 0⟩
abbrev TDC_CAL_CMD_SOURCE : Field := ⟨0x60010, 0, 11, 0⟩
abbrev TDC_CAL_CFG_TIMEOUT_S : Field := ⟨0x60014, 16, 16, 600⟩
abbrev TDC_CAL_CFG_LOG2_HITS : Field := ⟨0x60014, 0, 5, 20⟩
abbrev TDC_CAL_STAT_BUSY : Field := ⟨0x60018, 31, 1, 0⟩
abbrev TDC_CAL_STAT_RESULT : Field := ⟨0x60018, 28, 3, 0⟩
abbrev TDC_CAL_STAT_DONE : Field := ⟨0x60018, 16, 12, 0⟩
abbrev TDC_CAL_STAT_FAILED : Field := ⟨0x60018, 0, 12, 0⟩
abbrev TDC_CAL_SRC : Field := ⟨0x6001c, 0, 11, 0⟩
abbrev TDC_REFUSE_CNT : Field := ⟨0x60020, 0, 32, 0⟩
abbrev TDC_REFUSE_CNT_S : Field := ⟨0x60024, 0, 32, 0⟩
abbrev TDC_PIN_CFG_FUNCTION (i : Nat) : Field := ⟨0x60100 + i * 0x8, 30, 2, 0⟩
abbrev TDC_PIN_CFG_INVERT (i : Nat) : Field := ⟨0x60100 + i * 0x8, 29, 1, 0⟩
abbrev TDC_PIN_CFG_TRAIL_EN (i : Nat) : Field := ⟨0x60100 + i * 0x8, 28, 1, 0⟩
abbrev TDC_PIN_CFG_HYST_MV (i : Nat) : Field := ⟨0x60100 + i * 0x8, 16, 6, 10⟩
abbrev TDC_PIN_CFG_HOLDOFF (i : Nat) : Field := ⟨0x60100 + i * 0x8, 0, 12, 0⟩
abbrev TDC_PIN_STAT (i : Nat) : Field := ⟨0x60104 + i * 0x8, 0, 1, 0⟩
abbrev TDC_PIN_HIT_CNT (i : Nat) : Field := ⟨0x60200 + i * 0x10, 0, 32, 0⟩
abbrev TDC_PIN_LOST_CNT (i : Nat) : Field := ⟨0x60204 + i * 0x10, 0, 32, 0⟩
abbrev TDC_PIN_HOLD_CNT (i : Nat) : Field := ⟨0x60208 + i * 0x10, 0, 32, 0⟩
abbrev TDC_PIN_LOST_CNT_S (i : Nat) : Field := ⟨0x6020c + i * 0x10, 0, 32, 0⟩
abbrev TDC_CAL_TBL_ENTRY_ODD (j : Nat) : Field := ⟨0x61000 + j * 0x4, 16, 16, 0⟩
abbrev TDC_CAL_TBL_ENTRY_EVEN (j : Nat) : Field := ⟨0x61000 + j * 0x4, 0, 16, 0⟩
abbrev TDC_CAL_INFO_LOAD : Field := ⟨0x61200, 31, 1, 0⟩
abbrev TDC_CAL_INFO_VALID : Field := ⟨0x61200, 30, 1, 0⟩
abbrev TDC_CAL_DLY_FACT_DLY_PS : Field := ⟨0x61204, 16, 16, 0⟩
abbrev TDC_CAL_DLY_USER_DLY_PS : Field := ⟨0x61204, 0, 16, 0⟩
abbrev TDC_CAL_QUAL_WMAX : Field := ⟨0x61208, 16, 16, 16⟩
abbrev TDC_CAL_QUAL_WMIN : Field := ⟨0x61208, 0, 16, 16⟩

/-! ### 08_woodpecker_tdc.md, R263 -/
abbrev FT_TDC_ARM0 (t : Nat) : Field := ⟨0x200120 + t * 0x40000, 0, 32, 0⟩
abbrev FT_TDC_ARM1 (t : Nat) : Field := ⟨0x200124 + t * 0x40000, 0, 28, 0⟩
abbrev FT_TDC_TRAIL (t : Nat) : Field := ⟨0x200128 + t * 0x40000, 0, 15, 0⟩
abbrev FT_TDC_OVF_CNT (t : Nat) : Field := ⟨0x200130 + t * 0x40000, 0, 32, 0⟩
abbrev FT_TDC_PILEUP_CNT (t : Nat) : Field := ⟨0x200134 + t * 0x40000, 0, 32, 0⟩
abbrev FT_TDC_GATED_CNT (t : Nat) : Field := ⟨0x200138 + t * 0x40000, 0, 32, 0⟩
abbrev FT_TDC_CALLOST_CNT (t : Nat) : Field := ⟨0x20013c + t * 0x40000, 0, 32, 0⟩
abbrev FT_TDC_CNT_S (t j : Nat) : Field := ⟨0x200140 + t * 0x40000 + j * 4, 0, 32, 0⟩

/-! ### 09_lynx_trigger.md, R302 -/
abbrev TRG_CTRL_EN : Field := ⟨0x70000, 31, 1, 0⟩
abbrev TRG_CTRL_DEADLINE_ACTION : Field := ⟨0x70000, 0, 1, 0⟩
abbrev TRG_DEADLINE : Field := ⟨0x70004, 0, 19, 20000⟩
abbrev TRG_STAT_TERM : Field := ⟨0x70008, 16, 16, 0⟩
abbrev TRG_STAT_ROLE_MASTER : Field := ⟨0x70008, 15, 1, 0⟩
abbrev TRG_STAT_ROLE_STANDBY : Field := ⟨0x70008, 14, 1, 0⟩
abbrev TRG_STAT_ACTING : Field := ⟨0x70008, 13, 1, 0⟩
abbrev TRG_STAT_MASTER_NODE : Field := ⟨0x70008, 0, 12, 0⟩
abbrev TRG_TRIG_CNT_LO : Field := ⟨0x70010, 0, 32, 0⟩
abbrev TRG_TRIG_CNT_HI : Field := ⟨0x70014, 0, 32, 0⟩
abbrev TRG_MERGE_CNT : Field := ⟨0x70018, 0, 32, 0⟩
abbrev TRG_SUPPRESS_CNT : Field := ⟨0x7001c, 0, 32, 0⟩
abbrev TRG_CLIP_CNT : Field := ⟨0x70020, 0, 32, 0⟩
abbrev TRG_LATE_CNT : Field := ⟨0x70024, 0, 32, 0⟩
abbrev TRG_BADCFG_CNT : Field := ⟨0x70028, 0, 32, 0⟩
abbrev TRG_REFUSE_CNT : Field := ⟨0x7002c, 0, 32, 0⟩
abbrev TRG_SEALUND_CNT : Field := ⟨0x70030, 0, 32, 0⟩
abbrev TRG_BADDEC_CNT : Field := ⟨0x70034, 0, 32, 0⟩
abbrev TRG_RETRO_SKIP_CNT : Field := ⟨0x70038, 0, 32, 0⟩
abbrev TRG_LAG : Field := ⟨0x70040, 0, 16, 2500⟩
abbrev TRG_M_EVNO_LO : Field := ⟨0x70044, 0, 32, 0⟩
abbrev TRG_M_EVNO_HI : Field := ⟨0x70048, 0, 16, 0⟩
abbrev TRG_M_SEALED_EPOCH : Field := ⟨0x7004c, 16, 12, 0⟩
abbrev TRG_M_SEALED_WRAP : Field := ⟨0x7004c, 0, 16, 0⟩
abbrev TRG_M_PRIM_CNT : Field := ⟨0x70050, 0, 32, 0⟩
abbrev TRG_M_LATE_CNT : Field := ⟨0x70054, 0, 32, 0⟩
abbrev TRG_M_DROP_CNT : Field := ⟨0x70058, 0, 32, 0⟩
abbrev TRG_M_STEPDOWN_CNT : Field := ⟨0x7005c, 0, 32, 0⟩
abbrev TRG_CNT_S (j : Nat) : Field := ⟨0x70060 + j * 4, 0, 32, 0⟩
abbrev TRG_TRIG_CNT_S_LO : Field := ⟨0x70098, 0, 32, 0⟩
abbrev TRG_TRIG_CNT_S_HI : Field := ⟨0x7009c, 0, 32, 0⟩
abbrev TRG_BUILDER (i : Nat) : Field := ⟨0x70a00 + i * 0x4, 0, 12, 0⟩
abbrev TRG_BUILDERS : Field := ⟨0x70b00, 0, 7, 0⟩

/-! ### 09_lynx_trigger.md, R303 -/
abbrev TRG_RULE_CFG_ENABLE (r : Nat) : Field := ⟨0x70200 + r * 0x20, 31, 1, 0⟩
abbrev TRG_RULE_CFG_RETRO (r : Nat) : Field := ⟨0x70200 + r * 0x20, 30, 1, 0⟩
abbrev TRG_RULE_CFG_CLASS_MASK (r : Nat) : Field := ⟨0x70200 + r * 0x20, 16, 8, 0⟩
abbrev TRG_RULE_CFG_MIN_MODULES (r : Nat) : Field := ⟨0x70200 + r * 0x20, 8, 8, 1⟩
abbrev TRG_RULE_CFG_RETRO_MCAST (r : Nat) : Field := ⟨0x70200 + r * 0x20, 0, 8, 0⟩
abbrev TRG_RULE_GWIN (r : Nat) : Field := ⟨0x70204 + r * 0x20, 0, 32, 0⟩
abbrev TRG_RULE_PS_RETRO_GROUP (r : Nat) : Field := ⟨0x70208 + r * 0x20, 24, 8, 0⟩
abbrev TRG_RULE_PS_PRESCALE (r : Nat) : Field := ⟨0x70208 + r * 0x20, 0, 16, 1⟩
abbrev TRG_RULE_WPRE (r : Nat) : Field := ⟨0x7020c + r * 0x20, 0, 24, 0⟩
abbrev TRG_RULE_WPOST (r : Nat) : Field := ⟨0x70210 + r * 0x20, 0, 24, 0⟩
abbrev TRG_RULE_MATCH (r : Nat) : Field := ⟨0x70214 + r * 0x20, 0, 32, 0⟩

/-! ### 09_lynx_trigger.md, R304 -/
abbrev TRG_G_CFG_EN (g : Nat) : Field := ⟨0x71000 + g * 0x40, 31, 1, 0⟩
abbrev TRG_G_CFG_CLASS (g : Nat) : Field := ⟨0x71000 + g * 0x40, 28, 3, 0⟩
abbrev TRG_G_CFG_STREAM (g : Nat) : Field := ⟨0x71000 + g * 0x40, 27, 1, 0⟩
abbrev TRG_G_CFG_MULT (g : Nat) : Field := ⟨0x71000 + g * 0x40, 16, 8, 1⟩
abbrev TRG_G_WIN (g : Nat) : Field := ⟨0x71004 + g * 0x40, 0, 20, 25⟩
abbrev TRG_G_HOLD (g : Nat) : Field := ⟨0x71008 + g * 0x40, 0, 24, 0⟩
abbrev TRG_G_PRE (g : Nat) : Field := ⟨0x7100c + g * 0x40, 0, 24, 1000⟩
abbrev TRG_G_POST (g : Nat) : Field := ⟨0x71010 + g * 0x40, 0, 24, 4000⟩
abbrev TRG_G_RD_LO (g : Nat) : Field := ⟨0x71014 + g * 0x40, 0, 32, 0⟩
abbrev TRG_G_RD_HI (g : Nat) : Field := ⟨0x71018 + g * 0x40, 0, 28, 0⟩
abbrev TRG_G_MEAS_MEAS_EN (g : Nat) : Field := ⟨0x7101c + g * 0x40, 31, 1, 0⟩
abbrev TRG_G_MEAS_ENV_SH (g : Nat) : Field := ⟨0x7101c + g * 0x40, 25, 4, 4⟩
abbrev TRG_G_MEAS_REDUCE_SEL (g : Nat) : Field := ⟨0x7101c + g * 0x40, 20, 5, 0⟩
abbrev TRG_G_MEAS_RED_SHIFT (g : Nat) : Field := ⟨0x7101c + g * 0x40, 16, 4, 6⟩
abbrev TRG_G_MEAS_M_THR (g : Nat) : Field := ⟨0x7101c + g * 0x40, 0, 14, 524⟩
abbrev TRG_G_CNT (g : Nat) : Field := ⟨0x71020 + g * 0x40, 0, 32, 0⟩
abbrev TRG_G_CNT_S (g : Nat) : Field := ⟨0x71024 + g * 0x40, 0, 32, 0⟩

/-! ### 09_lynx_trigger.md, R305 -/
abbrev TRG_U_CFG_EN (u : Nat) : Field := ⟨0x76000 + u * 0x10, 31, 1, 0⟩
abbrev TRG_U_CFG_KIND (u : Nat) : Field := ⟨0x76000 + u * 0x10, 28, 3, 0⟩
abbrev TRG_U_CFG_POL (u : Nat) : Field := ⟨0x76000 + u * 0x10, 26, 2, 0⟩
abbrev TRG_U_CFG_INTERP (u : Nat) : Field := ⟨0x76000 + u * 0x10, 25, 1, 0⟩
abbrev TRG_U_CFG_GROUP_A (u : Nat) : Field := ⟨0x76000 + u * 0x10, 16, 8, 0⟩
abbrev TRG_U_CFG_GROUP_B (u : Nat) : Field := ⟨0x76000 + u * 0x10, 8, 8, 0⟩
abbrev TRG_U_CFG_GA_EN (u : Nat) : Field := ⟨0x76000 + u * 0x10, 7, 1, 0⟩
abbrev TRG_U_CFG_GB_EN (u : Nat) : Field := ⟨0x76000 + u * 0x10, 6, 1, 0⟩
abbrev TRG_U_CFG_HYST (u : Nat) : Field := ⟨0x76000 + u * 0x10, 0, 6, 2⟩
abbrev TRG_U_LEVA (u : Nat) : Field := ⟨0x76004 + u * 0x10, 0, 32, 0⟩
abbrev TRG_U_LEVB (u : Nat) : Field := ⟨0x76008 + u * 0x10, 0, 32, 0⟩
abbrev TRG_U_TIME_T_MAX (u : Nat) : Field := ⟨0x7600c + u * 0x10, 16, 16, 0⟩
abbrev TRG_U_TIME_T_MIN (u : Nat) : Field := ⟨0x7600c + u * 0x10, 0, 16, 0⟩

/-! ### 10_raw_ring.md, R325 -/
abbrev RING_STAT_WRAPPED : Field := ⟨0x80000, 31, 1, 0⟩
abbrev RING_STAT_NPREV : Field := ⟨0x80000, 0, 23, 0⟩
abbrev RING_WSEQ : Field := ⟨0x80004, 0, 32, 0⟩
abbrev RING_RETAIN : Field := ⟨0x80008, 0, 32, 0⟩
abbrev RING_SAFE : Field := ⟨0x8000c, 0, 32, 0⟩
abbrev RING_OLDEST_LO : Field := ⟨0x80010, 0, 32, 0⟩
abbrev RING_OLDEST_HI : Field := ⟨0x80014, 0, 16, 0⟩
abbrev RING_BW_EGQ_GBPS : Field := ⟨0x80020, 16, 8, 20⟩
abbrev RING_BW_REPLAY_GBPS : Field := ⟨0x80020, 8, 8, 20⟩
abbrev RING_BW_XT_GBPS : Field := ⟨0x80020, 0, 8, 40⟩
abbrev RING_ALLOC_CNT_LO : Field := ⟨0x80030, 0, 32, 0⟩
abbrev RING_ALLOC_CNT_HI : Field := ⟨0x80034, 0, 32, 0⟩
abbrev RING_TORN_CNT : Field := ⟨0x80038, 0, 32, 0⟩
abbrev RING_GUARD_CNT : Field := ⟨0x8003c, 0, 32, 0⟩
abbrev RING_POISON_CNT : Field := ⟨0x80040, 0, 32, 0⟩
abbrev RING_ALLOC_CNT_S_LO : Field := ⟨0x80048, 0, 32, 0⟩
abbrev RING_ALLOC_CNT_S_HI : Field := ⟨0x8004c, 0, 32, 0⟩
abbrev RING_CNT_S (j : Nat) : Field := ⟨0x80050 + j * 4, 0, 32, 0⟩
abbrev RING_HEAD_OPEN (s : Nat) : Field := ⟨0x80400 + s * 0x4, 22, 1, 0⟩
abbrev RING_HEAD_INDEX (s : Nat) : Field := ⟨0x80400 + s * 0x4, 0, 22, 0⟩

/-! ### 11_event_building.md, R366 -/
abbrev EVB_STAT_EPOCH : Field := ⟨0x90000, 16, 12, 0⟩
abbrev EVB_STAT_WRAP : Field := ⟨0x90000, 0, 16, 0⟩
abbrev EVB_PEND_QWAIT : Field := ⟨0x90004, 16, 8, 0⟩
abbrev EVB_PEND_EPOCHS : Field := ⟨0x90004, 0, 16, 0⟩
abbrev EVB_STAGE : Field := ⟨0x90008, 0, 16, 0⟩
abbrev EVB_MERGE : Field := ⟨0x9000c, 0, 16, 0⟩
abbrev EVB_HITS_MAX : Field := ⟨0x90010, 0, 20, 65536⟩
abbrev EVB_FRAG_TMO : Field := ⟨0x90014, 0, 10, 100⟩
abbrev EVB_RESEND : Field := ⟨0x90018, 0, 16, 1000⟩
abbrev EVB_HEALTH_HEALTH_Q : Field := ⟨0x9001c, 24, 8, 1⟩
abbrev EVB_HEALTH_PERIOD : Field := ⟨0x9001c, 0, 16, 1024⟩
abbrev EVB_QSEL_C0 : Field := ⟨0x90020, 0, 32, 16843009⟩
abbrev EVB_QSEL_C1 : Field := ⟨0x90024, 0, 32, 16843009⟩
abbrev EVB_QLOC_C0 : Field := ⟨0x90028, 0, 32, 0⟩
abbrev EVB_QLOC_C1 : Field := ⟨0x9002c, 0, 32, 0⟩
abbrev EVB_QSEL_MISC_LCAP_Q : Field := ⟨0x90030, 24, 8, 1⟩
abbrev EVB_QSEL_MISC_PREC_Q : Field := ⟨0x90030, 16, 8, 1⟩
abbrev EVB_QSEL_MISC_ORPHAN_Q : Field := ⟨0x90030, 8, 8, 1⟩
abbrev EVB_QSEL_MISC_MERGE_Q : Field := ⟨0x90030, 0, 8, 1⟩
abbrev EVB_ZS_MODE (k : Nat) : Field := ⟨0x90040 + k * 0x8, 30, 2, 0⟩
abbrev EVB_ZS_HITS_PINS (k : Nat) : Field := ⟨0x90040 + k * 0x8, 29, 1, 0⟩
abbrev EVB_ZS_THR (k : Nat) : Field := ⟨0x90040 + k * 0x8, 16, 13, 524⟩
abbrev EVB_ZS_POST (k : Nat) : Field := ⟨0x90040 + k * 0x8, 8, 8, 64⟩
abbrev EVB_ZS_PRE (k : Nat) : Field := ⟨0x90040 + k * 0x8, 0, 8, 32⟩
abbrev EVB_ZSB (k : Nat) : Field := ⟨0x90044 + k * 0x8, 0, 14, 0⟩
abbrev EVB_SEQ_EXHAUST : Field := ⟨0x90080, 0, 32, 0⟩
abbrev EVB_STALE_DECISION : Field := ⟨0x90084, 0, 32, 0⟩
abbrev EVB_DEADLINE_DISCARD : Field := ⟨0x90088, 0, 32, 0⟩
abbrev EVB_DUP_FRAGMENT : Field := ⟨0x9008c, 0, 32, 0⟩
abbrev EVB_LATE_DROP : Field := ⟨0x90090, 0, 32, 0⟩
abbrev EVB_STAGE_FULL_CNT : Field := ⟨0x90094, 0, 32, 0⟩
abbrev EVB_ABANDON_CNT : Field := ⟨0x90098, 0, 32, 0⟩
abbrev EVB_MERGE_FULL_CNT : Field := ⟨0x9009c, 0, 32, 0⟩
abbrev EVB_QWAIT_CNT : Field := ⟨0x900a0, 0, 32, 0⟩
abbrev EVB_PARTIAL_CNT : Field := ⟨0x900a4, 0, 32, 0⟩
abbrev EVB_HITS_CLIP_CNT : Field := ⟨0x900a8, 0, 32, 0⟩
abbrev EVB_S (j : Nat) : Field := ⟨0x900c0 + j * 4, 0, 32, 0⟩
abbrev EVB_FRAG_CNT_LO : Field := ⟨0x900f0, 0, 32, 0⟩
abbrev EVB_FRAG_CNT_HI : Field := ⟨0x900f4, 0, 32, 0⟩
abbrev EVB_FRAG_CNT_S_LO : Field := ⟨0x900f8, 0, 32, 0⟩
abbrev EVB_FRAG_CNT_S_HI : Field := ⟨0x900fc, 0, 32, 0⟩

/-! ### 12_packing_and_check_values.md, R394 -/
abbrev LPS_EFFORT_FLOOR : Field := ⟨0xa0000, 12, 4, 0⟩
abbrev LPS_EFFORT_CAP : Field := ⟨0xa0000, 8, 4, 6⟩
abbrev LPS_EFFORT_EFFORT : Field := ⟨0xa0000, 0, 4, 0⟩
abbrev LPS_ORDER : Field := ⟨0xa0004, 0, 2, 0⟩
abbrev LPS_POOL_FREE : Field := ⟨0xa0008, 16, 16, 0⟩
abbrev LPS_POOL_BUFFERS : Field := ⟨0xa0008, 0, 14, 8192⟩
abbrev LPS_ENGINE : Field := ⟨0xa000c, 0, 16, 0⟩
abbrev LPS_JOB_CNT_LO : Field := ⟨0xa0040, 0, 32, 0⟩
abbrev LPS_JOB_CNT_HI : Field := ⟨0xa0044, 0, 32, 0⟩
abbrev LPS_IN_BYTES_LO : Field := ⟨0xa0048, 0, 32, 0⟩
abbrev LPS_IN_BYTES_HI : Field := ⟨0xa004c, 0, 32, 0⟩
abbrev LPS_OUT_BYTES_LO : Field := ⟨0xa0050, 0, 32, 0⟩
abbrev LPS_OUT_BYTES_HI : Field := ⟨0xa0054, 0, 32, 0⟩
abbrev LPS_PLAIN_CNT : Field := ⟨0xa0058, 0, 32, 0⟩
abbrev LPS_OVERSIZE_CNT : Field := ⟨0xa005c, 0, 32, 0⟩
abbrev LPS_POOL_WAIT_CNT : Field := ⟨0xa0060, 0, 32, 0⟩
abbrev LPS_RESIDUE_CNT : Field := ⟨0xa0064, 0, 32, 0⟩
abbrev LPS_DEC_FAIL_CNT : Field := ⟨0xa0068, 0, 32, 0⟩
abbrev LPS_REFUSE_CNT : Field := ⟨0xa006c, 0, 32, 0⟩
abbrev LPS_S64 (j : Nat) : Field := ⟨0xa0080 + j * 4, 0, 32, 0⟩
abbrev LPS_CNT_S (j : Nat) : Field := ⟨0xa0098 + j * 4, 0, 32, 0⟩
abbrev LPS_DJ_SRC_LO : Field := ⟨0xa0100, 0, 32, 0⟩
abbrev LPS_DJ_SRC_HI : Field := ⟨0xa0104, 0, 8, 0⟩
abbrev LPS_DJ_DST_LO : Field := ⟨0xa0108, 0, 32, 0⟩
abbrev LPS_DJ_DST_HI : Field := ⟨0xa010c, 0, 8, 0⟩
abbrev LPS_DJ_LEN : Field := ⟨0xa0110, 0, 32, 0⟩
abbrev LPS_DJ_ULEN : Field := ⟨0xa0114, 0, 32, 0⟩
abbrev LPS_DJ_CAP : Field := ⟨0xa0118, 0, 32, 134217728⟩
abbrev LPS_DJ_CMD : Field := ⟨0xa011c, 31, 1, 0⟩
abbrev LPS_DJ_STAT_BUSY : Field := ⟨0xa0120, 31, 1, 0⟩
abbrev LPS_DJ_STAT_RESULT : Field := ⟨0xa0120, 28, 3, 0⟩
abbrev LPS_DJ_OUT : Field := ⟨0xa0124, 0, 32, 0⟩

/-! ### 12_packing_and_check_values.md, R395 -/
abbrev CRC_RXBAD (p : Nat) : Field := ⟨0xb0000 + p * 0x8, 0, 32, 0⟩
abbrev CRC_RXBAD_S (p : Nat) : Field := ⟨0xb0004 + p * 0x8, 0, 32, 0⟩
abbrev CRC_REFUSE_CNT : Field := ⟨0xb0040, 0, 32, 0⟩
abbrev CRC_REFUSE_CNT_S : Field := ⟨0xb0044, 0, 32, 0⟩
abbrev CRC_U_OWN_CLAIMED (u : Nat) : Field := ⟨0xb0100 + u * 0x40, 31, 1, 0⟩
abbrev CRC_U_OWN_CLAIM (u : Nat) : Field := ⟨0xb0100 + u * 0x40, 29, 1, 0⟩
abbrev CRC_U_OWN_RELEASE (u : Nat) : Field := ⟨0xb0100 + u * 0x40, 28, 1, 0⟩
abbrev CRC_U_OWN_LOCAL (u : Nat) : Field := ⟨0xb0100 + u * 0x40, 15, 1, 0⟩
abbrev CRC_U_OWN_OWNER (u : Nat) : Field := ⟨0xb0100 + u * 0x40, 0, 12, 0⟩
abbrev CRC_U_CTRL (u : Nat) : Field := ⟨0xb0104 + u * 0x40, 0, 3, 4⟩
abbrev CRC_U_VAL (u : Nat) : Field := ⟨0xb0108 + u * 0x40, 0, 32, 4294967295⟩
abbrev CRC_U_FEED (u : Nat) : Field := ⟨0xb010c + u * 0x40, 0, 32, 0⟩
abbrev CRC_U_RESULT (u : Nat) : Field := ⟨0xb0110 + u * 0x40, 0, 32, 0⟩
abbrev CRC_U_ADDR_LO (u : Nat) : Field := ⟨0xb0114 + u * 0x40, 0, 32, 0⟩
abbrev CRC_U_ADDR_HI (u : Nat) : Field := ⟨0xb0118 + u * 0x40, 0, 8, 0⟩
abbrev CRC_U_LEN (u : Nat) : Field := ⟨0xb011c + u * 0x40, 0, 32, 0⟩
abbrev CRC_U_JOB_GO (u : Nat) : Field := ⟨0xb0120 + u * 0x40, 31, 1, 0⟩
abbrev CRC_U_JOB_ABORT (u : Nat) : Field := ⟨0xb0120 + u * 0x40, 30, 1, 0⟩
abbrev CRC_U_STAT_BUSY (u : Nat) : Field := ⟨0xb0124 + u * 0x40, 31, 1, 0⟩
abbrev CRC_U_STAT_POISON (u : Nat) : Field := ⟨0xb0124 + u * 0x40, 30, 1, 0⟩
abbrev CRC_U_STAT_RESULT (u : Nat) : Field := ⟨0xb0124 + u * 0x40, 28, 2, 0⟩
abbrev CRC_U_DONE (u : Nat) : Field := ⟨0xb0128 + u * 0x40, 0, 32, 0⟩

/-! ### 13_egress_queue.md, R414 -/
abbrev EGQ_STAT_UNITS : Field := ⟨0xc0000, 8, 7, 64⟩
abbrev EGQ_STAT_ACTIVE : Field := ⟨0xc0000, 0, 8, 1⟩
abbrev EGQ_REFUSE_CNT : Field := ⟨0xc0004, 0, 32, 0⟩
abbrev EGQ_REFUSE_CNT_S : Field := ⟨0xc0008, 0, 32, 0⟩

/-! ### 13_egress_queue.md, R415 -/
abbrev EGQ_CFG_EN (q : Nat) : Field := ⟨0xc0100 + q * 0x80, 31, 1, if q = 0 then 1 else 0⟩
abbrev EGQ_CFG_ALIGN (q : Nat) : Field := ⟨0xc0100 + q * 0x80, 30, 1, 0⟩
abbrev EGQ_CFG_ACTIVE (q : Nat) : Field := ⟨0xc0100 + q * 0x80, 29, 1, if q = 0 then 1 else 0⟩
abbrev EGQ_CFG_BASE_64M (q : Nat) : Field := ⟨0xc0100 + q * 0x80, 8, 6, 0⟩
abbrev EGQ_CFG_SIZE_64M (q : Nat) : Field := ⟨0xc0100 + q * 0x80, 0, 7, if q = 0 then 0x40 else 0⟩
abbrev EGQ_RDR_ANY (q : Nat) : Field := ⟨0xc0104 + q * 0x80, 31, 1, 1⟩
abbrev EGQ_RDR_LOCAL (q : Nat) : Field := ⟨0xc0104 + q * 0x80, 15, 1, 0⟩
abbrev EGQ_RDR_NODE (q : Nat) : Field := ⟨0xc0104 + q * 0x80, 0, 12, 0⟩
abbrev EGQ_CMD (q : Nat) : Field := ⟨0xc0108 + q * 0x80, 0, 3, 0⟩
abbrev EGQ_STAT_FRONT (q : Nat) : Field := ⟨0xc010c + q * 0x80, 31, 1, 0⟩
abbrev EGQ_STAT_WAITING (q : Nat) : Field := ⟨0xc010c + q * 0x80, 30, 1, 0⟩
abbrev EGQ_STAT_FRONT_BYTES (q : Nat) : Field := ⟨0xc010c + q * 0x80, 0, 8, 0⟩
abbrev EGQ_PUB_LO (q : Nat) : Field := ⟨0xc0110 + q * 0x80, 0, 32, 0⟩
abbrev EGQ_PUB_HI (q : Nat) : Field := ⟨0xc0114 + q * 0x80, 0, 32, 0⟩
abbrev EGQ_RD_LO (q : Nat) : Field := ⟨0xc0118 + q * 0x80, 0, 32, 0⟩
abbrev EGQ_RD_HI (q : Nat) : Field := ⟨0xc011c + q * 0x80, 0, 32, 0⟩
abbrev EGQ_MARK_LO (q : Nat) : Field := ⟨0xc0120 + q * 0x80, 0, 32, 0⟩
abbrev EGQ_MARK_HI (q : Nat) : Field := ⟨0xc0124 + q * 0x80, 0, 32, 0⟩
abbrev EGQ_REL_LO (q : Nat) : Field := ⟨0xc0128 + q * 0x80, 0, 32, 0⟩
abbrev EGQ_REL_HI (q : Nat) : Field := ⟨0xc012c + q * 0x80, 0, 32, 0⟩
abbrev EGQ_WR_LO (q : Nat) : Field := ⟨0xc0130 + q * 0x80, 0, 32, 0⟩
abbrev EGQ_WR_HI (q : Nat) : Field := ⟨0xc0134 + q * 0x80, 0, 32, 0⟩
abbrev EGQ_FREE (q : Nat) : Field := ⟨0xc0138 + q * 0x80, 0, 27, 0⟩
abbrev EGQ_READ_CNT_LO (q : Nat) : Field := ⟨0xc0140 + q * 0x80, 0, 32, 0⟩
abbrev EGQ_READ_CNT_HI (q : Nat) : Field := ⟨0xc0144 + q * 0x80, 0, 32, 0⟩
abbrev EGQ_REWIND_CNT (q : Nat) : Field := ⟨0xc0148 + q * 0x80, 0, 32, 0⟩
abbrev EGQ_WAIT_CNT (q : Nat) : Field := ⟨0xc014c + q * 0x80, 0, 32, 0⟩
abbrev EGQ_DENY_CNT (q : Nat) : Field := ⟨0xc0150 + q * 0x80, 0, 32, 0⟩
abbrev EGQ_POISON_CNT (q : Nat) : Field := ⟨0xc0154 + q * 0x80, 0, 32, 0⟩
abbrev EGQ_READ_CNT_S_LO (q : Nat) : Field := ⟨0xc0158 + q * 0x80, 0, 32, 0⟩
abbrev EGQ_READ_CNT_S_HI (q : Nat) : Field := ⟨0xc015c + q * 0x80, 0, 32, 0⟩
abbrev EGQ_CNT_S (q j : Nat) : Field := ⟨0xc0160 + q * 0x80 + j * 4, 0, 32, 0⟩

/-! ### 14_beaver_loops.md, R439 -/
abbrev BVR_STAT_BUSY (t : Nat) : Field := ⟨0x230000 + t * 0x40000, 8, 1, 0⟩
abbrev BVR_STAT_STATES (t : Nat) : Field := ⟨0x230000 + t * 0x40000, 0, 8, 0⟩
abbrev BVR_RESIDUE_CNT (t : Nat) : Field := ⟨0x230004 + t * 0x40000, 0, 32, 0⟩
abbrev BVR_RESIDUE_CNT_S (t : Nat) : Field := ⟨0x230008 + t * 0x40000, 0, 32, 0⟩
abbrev BVR_SIG (t s v : Nat) : Field := ⟨0x230800 + t * 0x40000 + s * 0x100 + v * 0x4, 0, 32, 0⟩
abbrev BVR_OP_LO (t s b i : Nat) : Field := ⟨0x231000 + t * 0x40000 + s * 0x1000 + b * 0x800 + i * 0x8, 0, 32, 0⟩
abbrev BVR_OP_HI (t s b i : Nat) : Field := ⟨0x231004 + t * 0x40000 + s * 0x1000 + b * 0x800 + i * 0x8, 0, 32, 0⟩
abbrev BVR_COEF (t s b k : Nat) : Field := ⟨0x231400 + t * 0x40000 + s * 0x1000 + b * 0x800 + k * 0x4, 0, 32, 0⟩

/-! ### 14_beaver_loops.md, R441 -/
abbrev BVR_S_CMD_BANK (t s : Nat) : Field := ⟨0x230100 + t * 0x40000 + s * 0x80, 8, 1, 0⟩
abbrev BVR_S_CMD_OP (t s : Nat) : Field := ⟨0x230100 + t * 0x40000 + s * 0x80, 0, 4, 0⟩
abbrev BVR_S_CFG_OVR_TRIP (t s : Nat) : Field := ⟨0x230104 + t * 0x40000 + s * 0x80, 24, 8, 4⟩
abbrev BVR_S_CFG_AUTO_BANK (t s : Nat) : Field := ⟨0x230104 + t * 0x40000 + s * 0x80, 17, 1, 0⟩
abbrev BVR_S_CFG_AUTOSTART (t s : Nat) : Field := ⟨0x230104 + t * 0x40000 + s * 0x80, 16, 1, 0⟩
abbrev BVR_S_CFG_PACE_CH (t s : Nat) : Field := ⟨0x230104 + t * 0x40000 + s * 0x80, 0, 4, 0⟩
abbrev BVR_S_BANK_VALID (t s b : Nat) : Field := ⟨0x230108 + t * 0x40000 + s * 0x80 + b * 0x4, 31, 1, 0⟩
abbrev BVR_S_BANK_FORMAT (t s b : Nat) : Field := ⟨0x230108 + t * 0x40000 + s * 0x80 + b * 0x4, 7, 1, 0⟩
abbrev BVR_S_BANK_PROG_LEN (t s b : Nat) : Field := ⟨0x230108 + t * 0x40000 + s * 0x80 + b * 0x4, 0, 7, 0⟩
abbrev BVR_S_STAT_SAFE_CAUSE (t s : Nat) : Field := ⟨0x230110 + t * 0x40000 + s * 0x80, 28, 4, 0⟩
abbrev BVR_S_STAT_RESULT (t s : Nat) : Field := ⟨0x230110 + t * 0x40000 + s * 0x80, 24, 4, 0⟩
abbrev BVR_S_STAT_OVR_RUN (t s : Nat) : Field := ⟨0x230110 + t * 0x40000 + s * 0x80, 16, 8, 0⟩
abbrev BVR_S_STAT_CAP_ON (t s : Nat) : Field := ⟨0x230110 + t * 0x40000 + s * 0x80, 5, 1, 0⟩
abbrev BVR_S_STAT_INJ_ON (t s : Nat) : Field := ⟨0x230110 + t * 0x40000 + s * 0x80, 4, 1, 0⟩
abbrev BVR_S_STAT_AW (t s : Nat) : Field := ⟨0x230110 + t * 0x40000 + s * 0x80, 3, 1, 0⟩
abbrev BVR_S_STAT_BANK (t s : Nat) : Field := ⟨0x230110 + t * 0x40000 + s * 0x80, 2, 1, 0⟩
abbrev BVR_S_STAT_STATE (t s : Nat) : Field := ⟨0x230110 + t * 0x40000 + s * 0x80, 0, 2, 0⟩
abbrev BVR_S_SAFE (t s : Nat) : Field := ⟨0x230114 + t * 0x40000 + s * 0x80, 0, 20, 0⟩
abbrev BVR_S_FE_CFG_FE_EN (t s : Nat) : Field := ⟨0x230118 + t * 0x40000 + s * 0x80, 31, 1, 0⟩
abbrev BVR_S_FE_CFG_FE_SIG (t s : Nat) : Field := ⟨0x230118 + t * 0x40000 + s * 0x80, 24, 6, 0⟩
abbrev BVR_S_FE_CFG_FE_SAMPLES (t s : Nat) : Field := ⟨0x230118 + t * 0x40000 + s * 0x80, 0, 16, 100⟩
abbrev BVR_S_FE_LIMIT (t s : Nat) : Field := ⟨0x23011c + t * 0x40000 + s * 0x80, 0, 23, 4194304⟩
abbrev BVR_S_HO_TOL (t s : Nat) : Field := ⟨0x230120 + t * 0x40000 + s * 0x80, 0, 23, 83886⟩
abbrev BVR_S_HO_SLEW (t s : Nat) : Field := ⟨0x230124 + t * 0x40000 + s * 0x80, 0, 23, 8389⟩
abbrev BVR_S_INJ_CFG_KIND (t s : Nat) : Field := ⟨0x230128 + t * 0x40000 + s * 0x80, 30, 2, 0⟩
abbrev BVR_S_INJ_CFG_WITH_CAP (t s : Nat) : Field := ⟨0x230128 + t * 0x40000 + s * 0x80, 29, 1, 0⟩
abbrev BVR_S_INJ_CFG_PRBS_DIV (t s : Nat) : Field := ⟨0x230128 + t * 0x40000 + s * 0x80, 0, 16, 1⟩
abbrev BVR_S_INJ_AMP (t s : Nat) : Field := ⟨0x23012c + t * 0x40000 + s * 0x80, 0, 23, 0⟩
abbrev BVR_S_INJ_LEN (t s : Nat) : Field := ⟨0x230130 + t * 0x40000 + s * 0x80, 0, 32, 0⟩
abbrev BVR_S_INJ_F0 (t s : Nat) : Field := ⟨0x230134 + t * 0x40000 + s * 0x80, 0, 32, 0⟩
abbrev BVR_S_INJ_RATE (t s : Nat) : Field := ⟨0x230138 + t * 0x40000 + s * 0x80, 0, 32, 0⟩
abbrev BVR_S_CAP_CFG_DECIM (t s : Nat) : Field := ⟨0x23013c + t * 0x40000 + s * 0x80, 16, 8, 1⟩
abbrev BVR_S_CAP_CFG_NPTS_M1 (t s : Nat) : Field := ⟨0x23013c + t * 0x40000 + s * 0x80, 0, 16, 65535⟩
abbrev BVR_S_CAP_ID (t s : Nat) : Field := ⟨0x230140 + t * 0x40000 + s * 0x80, 0, 32, 0⟩
abbrev BVR_S_CAP_PTS (t s : Nat) : Field := ⟨0x230144 + t * 0x40000 + s * 0x80, 0, 17, 0⟩
abbrev BVR_S_OUT_NOW (t s : Nat) : Field := ⟨0x230148 + t * 0x40000 + s * 0x80, 0, 20, 0⟩
abbrev BVR_S_DLY (t s : Nat) : Field := ⟨0x23014c + t * 0x40000 + s * 0x80, 0, 16, 0⟩
abbrev BVR_S_EXEC_CNT_LO (t s : Nat) : Field := ⟨0x230150 + t * 0x40000 + s * 0x80, 0, 32, 0⟩
abbrev BVR_S_EXEC_CNT_HI (t s : Nat) : Field := ⟨0x230154 + t * 0x40000 + s * 0x80, 0, 32, 0⟩
abbrev BVR_S_OVERRUN (t s : Nat) : Field := ⟨0x230158 + t * 0x40000 + s * 0x80, 0, 32, 0⟩
abbrev BVR_S_HOLD_CNT (t s : Nat) : Field := ⟨0x23015c + t * 0x40000 + s * 0x80, 0, 32, 0⟩
abbrev BVR_S_SAFE_CNT (t s : Nat) : Field := ⟨0x230160 + t * 0x40000 + s * 0x80, 0, 32, 0⟩
abbrev BVR_S_REFUSE_CNT (t s : Nat) : Field := ⟨0x230164 + t * 0x40000 + s * 0x80, 0, 32, 0⟩
abbrev BVR_S_S (t s j : Nat) : Field := ⟨0x230168 + t * 0x40000 + s * 0x80 + j * 4, 0, 32, 0⟩
abbrev BVR_S_EXEC_CNT_S_LO (t s : Nat) : Field := ⟨0x230178 + t * 0x40000 + s * 0x80, 0, 32, 0⟩
abbrev BVR_S_EXEC_CNT_S_HI (t s : Nat) : Field := ⟨0x23017c + t * 0x40000 + s * 0x80, 0, 32, 0⟩

/-! ### 15_bamien_fabric.md, R472 -/
abbrev FAB_STAT_QUAR : Field := ⟨0xd0000, 31, 1, 0⟩
abbrev FAB_STAT_CLAIMING : Field := ⟨0xd0000, 30, 1, 0⟩
abbrev FAB_STAT_ID_REFUSED : Field := ⟨0xd0000, 29, 1, 0⟩
abbrev FAB_STAT_BOOT : Field := ⟨0xd0000, 0, 16, 0⟩
abbrev FAB_CTRL_LOG_EN : Field := ⟨0xd0004, 31, 1, 0⟩
abbrev FAB_CTRL_LOG_DST : Field := ⟨0xd0004, 16, 12, 0⟩
abbrev FAB_CTRL_HOP_MAX : Field := ⟨0xd0004, 8, 8, 64⟩
abbrev FAB_CTRL_DEPART_EPOCHS : Field := ⟨0xd0004, 0, 8, 64⟩
abbrev FAB_REORDER : Field := ⟨0xd0008, 0, 16, 2000⟩
abbrev FAB_PIN_SER_LO : Field := ⟨0xd0010, 0, 32, 0⟩
abbrev FAB_PIN_SER_HI : Field := ⟨0xd0014, 0, 32, 0⟩
abbrev FAB_PIN_GO : Field := ⟨0xd0018, 31, 1, 0⟩
abbrev FAB_PIN_RESULT : Field := ⟨0xd0018, 28, 3, 0⟩
abbrev FAB_PIN_NODE : Field := ⟨0xd0018, 0, 12, 0⟩
abbrev FAB_PORT_MODE (p : Nat) : Field := ⟨0xd0020 + p * 0x8, 30, 2, 1⟩
abbrev FAB_PORT_X2 (p : Nat) : Field := ⟨0xd0020 + p * 0x8, 29, 1, 1⟩
abbrev FAB_PORT_ACTIVE (p : Nat) : Field := ⟨0xd0020 + p * 0x8, 28, 1, 0⟩
abbrev FAB_PORT_NBR_VALID (p : Nat) : Field := ⟨0xd0020 + p * 0x8, 27, 1, 0⟩
abbrev FAB_PORT_NBR_HOST (p : Nat) : Field := ⟨0xd0020 + p * 0x8, 26, 1, 0⟩
abbrev FAB_PORT_CFG_MISMATCH (p : Nat) : Field := ⟨0xd0020 + p * 0x8, 25, 1, 0⟩
abbrev FAB_PORT_NBR_QUAR (p : Nat) : Field := ⟨0xd0020 + p * 0x8, 24, 1, 0⟩
abbrev FAB_PORT_NBR_NODE (p : Nat) : Field := ⟨0xd0020 + p * 0x8, 0, 12, 0⟩
abbrev FAB_NBR_SER (p : Nat) : Field := ⟨0xd0024 + p * 0x8, 0, 32, 0⟩
abbrev FAB_TREE_CFG (x : Nat) : Field := ⟨0xd0080 + x * 0x10, 0, 16, 65535⟩
abbrev FAB_TREE_STAT_PARENT_VALID (x : Nat) : Field := ⟨0xd0084 + x * 0x10, 31, 1, 0⟩
abbrev FAB_TREE_STAT_PARENT_PORT (x : Nat) : Field := ⟨0xd0084 + x * 0x10, 24, 3, 0⟩
abbrev FAB_TREE_STAT_CHILDREN (x : Nat) : Field := ⟨0xd0084 + x * 0x10, 16, 8, 0⟩
abbrev FAB_TREE_STAT_HOPS (x : Nat) : Field := ⟨0xd0084 + x * 0x10, 0, 5, 31⟩
abbrev FAB_TREE_REPARENT_CNT (x : Nat) : Field := ⟨0xd0088 + x * 0x10, 0, 32, 0⟩
abbrev FAB_TREE_REPARENT_CNT_S (x : Nat) : Field := ⟨0xd008c + x * 0x10, 0, 32, 0⟩
abbrev FAB_MCAST (i : Nat) : Field := ⟨0xd00c0 + i * 0x4, 0, 32, 0⟩
abbrev FAB_CNT (j : Nat) : Field := ⟨0xd0100 + j * 4, 0, 32, 0⟩
abbrev FAB_CNT_S (j : Nat) : Field := ⟨0xd0140 + j * 4, 0, 32, 0⟩
abbrev FAB_HOST_CFG_FEC (p : Nat) : Field := ⟨0xd0200 + p * 0x20, 18, 1, 0⟩
abbrev FAB_HOST_CFG_SPEED25 (p : Nat) : Field := ⟨0xd0200 + p * 0x20, 17, 1, 0⟩
abbrev FAB_HOST_CFG_PEER_KNOWN (p : Nat) : Field := ⟨0xd0200 + p * 0x20, 16, 1, 0⟩
abbrev FAB_HOST_CFG_HOST_UDP (p : Nat) : Field := ⟨0xd0200 + p * 0x20, 0, 16, 19526⟩
abbrev FAB_HOST_IP4 (p : Nat) : Field := ⟨0xd0204 + p * 0x20, 0, 32, 0⟩
abbrev FAB_HOST_IP6 (p k : Nat) : Field := ⟨0xd0208 + p * 0x20 + k * 0x4, 0, 32, 0⟩

/-! ### 15_bamien_fabric.md, R473 -/
abbrev FAB_RT_FWD_SELF (d : Nat) : Field := ⟨0xd8000 + d * 8, 18, 1, 0⟩
abbrev FAB_RT_FWD_PINNED (d : Nat) : Field := ⟨0xd8000 + d * 8, 17, 1, 0⟩
abbrev FAB_RT_FWD_A_VALID (d : Nat) : Field := ⟨0xd8000 + d * 8, 16, 1, 0⟩
abbrev FAB_RT_FWD_HOPS (d : Nat) : Field := ⟨0xd8000 + d * 8, 8, 8, 255⟩
abbrev FAB_RT_FWD_P_VALID (d : Nat) : Field := ⟨0xd8000 + d * 8, 7, 1, 0⟩
abbrev FAB_RT_FWD_ALT (d : Nat) : Field := ⟨0xd8000 + d * 8, 4, 3, 0⟩
abbrev FAB_RT_FWD_PRIMARY (d : Nat) : Field := ⟨0xd8000 + d * 8, 0, 3, 0⟩
abbrev FAB_RT_GEN (d : Nat) : Field := ⟨0xd8004 + d * 8, 0, 32, 0⟩

/-! ### 16_lanes.md, R494 -/
abbrev LNK_CTRL_RETRY (p : Nat) : Field := ⟨0xe0000 + p * 0x200, 31, 1, 0⟩
abbrev LNK_CTRL_KNOCK (p : Nat) : Field := ⟨0xe0000 + p * 0x200, 30, 1, 0⟩
abbrev LNK_CTRL_ADMIN_DOWN (p : Nat) : Field := ⟨0xe0000 + p * 0x200, 29, 1, 0⟩
abbrev LNK_CTRL_REJOIN (p : Nat) : Field := ⟨0xe0000 + p * 0x200, 28, 1, 0⟩
abbrev LNK_CTRL_TEST (p : Nat) : Field := ⟨0xe0000 + p * 0x200, 26, 2, 0⟩
abbrev LNK_STAT_STAGE (p : Nat) : Field := ⟨0xe0004 + p * 0x200, 28, 4, 0⟩
abbrev LNK_STAT_ATTEMPTS (p : Nat) : Field := ⟨0xe0004 + p * 0x200, 23, 5, 0⟩
abbrev LNK_STAT_STRETCH (p : Nat) : Field := ⟨0xe0004 + p * 0x200, 18, 5, 1⟩
abbrev LNK_STAT_X2_NOW (p : Nat) : Field := ⟨0xe0004 + p * 0x200, 17, 1, 0⟩
abbrev LNK_STAT_LEAD (p : Nat) : Field := ⟨0xe0004 + p * 0x200, 16, 1, 0⟩
abbrev LNK_STAT_TKO_HOLD (p : Nat) : Field := ⟨0xe0004 + p * 0x200, 15, 1, 0⟩
abbrev LNK_STAT_PARKED (p : Nat) : Field := ⟨0xe0004 + p * 0x200, 14, 1, 0⟩
abbrev LNK_STAT_KNOCKING (p : Nat) : Field := ⟨0xe0004 + p * 0x200, 13, 1, 0⟩
abbrev LNK_STAT_NEXT_BEACON (p : Nat) : Field := ⟨0xe0004 + p * 0x200, 0, 13, 0⟩
abbrev LNK_EQ_CTLE (p : Nat) : Field := ⟨0xe0008 + p * 0x200, 28, 4, 8⟩
abbrev LNK_EQ_AMP (p : Nat) : Field := ⟨0xe0008 + p * 0x200, 26, 2, 2⟩
abbrev LNK_EQ_POST (p : Nat) : Field := ⟨0xe0008 + p * 0x200, 21, 5, 4⟩
abbrev LNK_EQ_PRE (p : Nat) : Field := ⟨0xe0008 + p * 0x200, 17, 4, 2⟩
abbrev LNK_EQ_EQ_CLAMP (p : Nat) : Field := ⟨0xe0008 + p * 0x200, 16, 1, 0⟩
abbrev LNK_UP_CNT (p : Nat) : Field := ⟨0xe0010 + p * 0x200, 0, 32, 0⟩
abbrev LNK_TMO_CNT (p : Nat) : Field := ⟨0xe0014 + p * 0x200, 0, 32, 0⟩
abbrev LNK_SILENT_CNT (p : Nat) : Field := ⟨0xe0018 + p * 0x200, 0, 32, 0⟩
abbrev LNK_TKO_CNT (p : Nat) : Field := ⟨0xe001c + p * 0x200, 0, 32, 0⟩
abbrev LNK_KNOCK_CNT (p : Nat) : Field := ⟨0xe0020 + p * 0x200, 0, 32, 0⟩
abbrev LNK_REFUSE_CNT (p : Nat) : Field := ⟨0xe0024 + p * 0x200, 0, 32, 0⟩
abbrev LNK_CNT_S (p j : Nat) : Field := ⟨0xe0030 + p * 0x200 + j * 4, 0, 32, 0⟩

/-! ### 16_lanes.md, R495 -/
abbrev LNK_L_STAT_SIGNAL (l : Nat) : Field := ⟨0xe0100 + l / 2 * 0x200 + l % 2 * 0x80, 31, 1, 0⟩
abbrev LNK_L_STAT_CDR_LOCK (l : Nat) : Field := ⟨0xe0100 + l / 2 * 0x200 + l % 2 * 0x80, 30, 1, 0⟩
abbrev LNK_L_STAT_BLOCK_LOCK (l : Nat) : Field := ⟨0xe0100 + l / 2 * 0x200 + l % 2 * 0x80, 29, 1, 0⟩
abbrev LNK_L_STAT_RX_FEC (l : Nat) : Field := ⟨0xe0100 + l / 2 * 0x200 + l % 2 * 0x80, 28, 1, 0⟩
abbrev LNK_L_STAT_TX_FEC (l : Nat) : Field := ⟨0xe0100 + l / 2 * 0x200 + l % 2 * 0x80, 27, 1, 0⟩
abbrev LNK_L_STAT_JOINED (l : Nat) : Field := ⟨0xe0100 + l / 2 * 0x200 + l % 2 * 0x80, 26, 1, 0⟩
abbrev LNK_L_STAT_RX_INVERT (l : Nat) : Field := ⟨0xe0100 + l / 2 * 0x200 + l % 2 * 0x80, 25, 1, 0⟩
abbrev LNK_L_STAT_SWAPPED (l : Nat) : Field := ⟨0xe0100 + l / 2 * 0x200 + l % 2 * 0x80, 24, 1, 0⟩
abbrev LNK_L_STAT_PRBS_LOCK (l : Nat) : Field := ⟨0xe0100 + l / 2 * 0x200 + l % 2 * 0x80, 23, 1, 0⟩
abbrev LNK_L_LOS_CNT (l : Nat) : Field := ⟨0xe0104 + l / 2 * 0x200 + l % 2 * 0x80, 0, 32, 0⟩
abbrev LNK_L_HDR_ERR_CNT (l : Nat) : Field := ⟨0xe0108 + l / 2 * 0x200 + l % 2 * 0x80, 0, 32, 0⟩
abbrev LNK_L_FEC_CORR_CNT (l : Nat) : Field := ⟨0xe010c + l / 2 * 0x200 + l % 2 * 0x80, 0, 32, 0⟩
abbrev LNK_L_FEC_UNC_CNT (l : Nat) : Field := ⟨0xe0110 + l / 2 * 0x200 + l % 2 * 0x80, 0, 32, 0⟩
abbrev LNK_L_PRBS_BITS_LO (l : Nat) : Field := ⟨0xe0114 + l / 2 * 0x200 + l % 2 * 0x80, 0, 32, 0⟩
abbrev LNK_L_PRBS_BITS_HI (l : Nat) : Field := ⟨0xe0118 + l / 2 * 0x200 + l % 2 * 0x80, 0, 32, 0⟩
abbrev LNK_L_PRBS_ERR_LO (l : Nat) : Field := ⟨0xe011c + l / 2 * 0x200 + l % 2 * 0x80, 0, 32, 0⟩
abbrev LNK_L_PRBS_ERR_HI (l : Nat) : Field := ⟨0xe0120 + l / 2 * 0x200 + l % 2 * 0x80, 0, 32, 0⟩
abbrev LNK_L_S (l j : Nat) : Field := ⟨0xe0128 + l / 2 * 0x200 + l % 2 * 0x80 + j * 4, 0, 32, 0⟩

/-! ### 17_power_and_budget.md, R519 -/
abbrev PWR_STAT_LEVEL_NOW : Field := ⟨0x20000, 29, 3, 3⟩
abbrev PWR_STAT_LEVEL_TGT : Field := ⟨0x20000, 26, 3, 3⟩
abbrev PWR_STAT_LEVEL_BUSY : Field := ⟨0x20000, 25, 1, 0⟩
abbrev PWR_STAT_DOM_ON : Field := ⟨0x20000, 0, 19, 0⟩
abbrev PWR_WAKE_CAUSE : Field := ⟨0x20004, 28, 4, 0⟩
abbrev PWR_WAKE_LANES : Field := ⟨0x20004, 0, 16, 0⟩
abbrev PWR_HIB_LANE : Field := ⟨0x20008, 0, 32, 1431655765⟩
abbrev PWR_HIB_TIMER : Field := ⟨0x2000c, 0, 24, 0⟩
abbrev PWR_LEVEL_FORCE_EN : Field := ⟨0x20010, 31, 1, 0⟩
abbrev PWR_LEVEL_FORCE_LEVEL : Field := ⟨0x20010, 0, 3, 3⟩
abbrev PWR_COALESCED : Field := ⟨0x20014, 0, 32, 0⟩
abbrev PWR_REFUSE_CNT : Field := ⟨0x20018, 0, 32, 0⟩
abbrev PWR_COALESCED_S : Field := ⟨0x2001c, 0, 32, 0⟩
abbrev PWR_REFUSE_CNT_S : Field := ⟨0x20020, 0, 32, 0⟩

/-! ### 17_power_and_budget.md, R520 -/
abbrev PWR_D_STAT_STATE (d : Nat) : Field := ⟨0x20100 + d * 0x10, 29, 3, 0⟩
abbrev PWR_D_STAT_PENDING (d : Nat) : Field := ⟨0x20100 + d * 0x10, 27, 2, 0⟩
abbrev PWR_D_STAT_VOTERS (d : Nat) : Field := ⟨0x20100 + d * 0x10, 7, 5, 0⟩
abbrev PWR_D_STAT_VOTES (d : Nat) : Field := ⟨0x20100 + d * 0x10, 0, 7, 0⟩
abbrev PWR_D_VOTE_LEASE_S (d : Nat) : Field := ⟨0x20104 + d * 0x10, 8, 8, 0⟩
abbrev PWR_D_VOTE_CONFIG (d : Nat) : Field := ⟨0x20104 + d * 0x10, 2, 1, 0⟩
abbrev PWR_D_VOTE_OP (d : Nat) : Field := ⟨0x20104 + d * 0x10, 0, 2, 0⟩
abbrev PWR_D_CTRL_WAKE_ON_ACCESS (d : Nat) : Field := ⟨0x20108 + d * 0x10, 31, 1, 0⟩
abbrev PWR_D_CTRL_FORCE (d : Nat) : Field := ⟨0x20108 + d * 0x10, 29, 2, 0⟩

/-! ### 17_power_and_budget.md, R521 -/
abbrev BDG_STAT_EXHAUSTED : Field := ⟨0x30000, 31, 1, 0⟩
abbrev BDG_STAT_OVER_AVG : Field := ⟨0x30000, 30, 1, 0⟩
abbrev BDG_STAT_OVER_PEAK : Field := ⟨0x30000, 29, 1, 0⟩
abbrev BDG_STAT_OVER_TJ : Field := ⟨0x30000, 28, 1, 0⟩
abbrev BDG_STAT_RUNG : Field := ⟨0x30000, 24, 4, 0⟩
abbrev BDG_STAT_STEPS : Field := ⟨0x30000, 16, 8, 0⟩
abbrev BDG_P_NOW : Field := ⟨0x30004, 0, 24, 0⟩
abbrev BDG_P_AVG : Field := ⟨0x30008, 0, 24, 0⟩
abbrev BDG_P_MAX : Field := ⟨0x3000c, 0, 24, 0⟩
abbrev BDG_E_TOTAL_LO : Field := ⟨0x30010, 0, 32, 0⟩
abbrev BDG_E_TOTAL_HI : Field := ⟨0x30014, 0, 32, 0⟩
abbrev BDG_TJ : Field := ⟨0x30018, 0, 8, 0⟩
abbrev BDG_AVG_MW : Field := ⟨0x30020, 0, 32, 0⟩
abbrev BDG_AVG_WIN : Field := ⟨0x30024, 0, 17, 600⟩
abbrev BDG_PEAK_MW : Field := ⟨0x30028, 0, 32, 0⟩
abbrev BDG_LIMITS_TJ_CAP_C : Field := ⟨0x3002c, 24, 8, 100⟩
abbrev BDG_LIMITS_LEVEL_MAX : Field := ⟨0x3002c, 20, 3, 5⟩
abbrev BDG_LIMITS_LEVEL_MIN : Field := ⟨0x3002c, 16, 3, 0⟩
abbrev BDG_LIMITS_RUNG_EN : Field := ⟨0x3002c, 8, 6, 63⟩
abbrev BDG_LIMITS_STANDBY_PREF : Field := ⟨0x3002c, 0, 2, 0⟩
abbrev BDG_DWELL_RESTORE_EPOCHS : Field := ⟨0x30030, 16, 16, 4096⟩
abbrev BDG_DWELL_SHED_EPOCHS : Field := ⟨0x30030, 0, 16, 16⟩
abbrev BDG_HYST : Field := ⟨0x30034, 0, 10, 50⟩
abbrev BDG_SCRUB_SCRUB_SLOW_H : Field := ⟨0x30038, 16, 16, 720⟩
abbrev BDG_SCRUB_SCRUB_FAST_H : Field := ⟨0x30038, 0, 16, 24⟩
abbrev BDG_SHED_GRP_LO : Field := ⟨0x30040, 0, 32, 0⟩
abbrev BDG_SHED_GRP_HI : Field := ⟨0x30044, 0, 28, 0⟩
abbrev BDG_SHED_X1 : Field := ⟨0x30048, 0, 8, 0⟩
abbrev BDG_CHOICE_LEVEL : Field := ⟨0x30050, 29, 3, 3⟩
abbrev BDG_CHOICE_EFFORT_CAP : Field := ⟨0x30050, 25, 4, 6⟩
abbrev BDG_CHOICE_STRETCH : Field := ⟨0x30050, 20, 5, 1⟩
abbrev BDG_CHOICE_STANDBY : Field := ⟨0x30050, 18, 2, 0⟩
abbrev BDG_CHOICE_SCRUB_H : Field := ⟨0x30050, 0, 16, 24⟩
abbrev BDG_X1_NOW : Field := ⟨0x30054, 0, 8, 0⟩
abbrev BDG_GRANT_LO : Field := ⟨0x30058, 0, 32, 0⟩
abbrev BDG_GRANT_HI : Field := ⟨0x3005c, 0, 28, 0⟩
abbrev BDG_SHED_CNT : Field := ⟨0x30060, 0, 32, 0⟩
abbrev BDG_RESTORE_CNT : Field := ⟨0x30064, 0, 32, 0⟩
abbrev BDG_PEAK_CNT : Field := ⟨0x30068, 0, 32, 0⟩
abbrev BDG_TJ_CNT : Field := ⟨0x3006c, 0, 32, 0⟩
abbrev BDG_CNT_S (j : Nat) : Field := ⟨0x30070 + j * 4, 0, 32, 0⟩
abbrev BDG_DUTY_MIN (n : Nat) : Field := ⟨0x30100 + n * 0x4, 0, 8, 0⟩

/-! ### 18_event_record_queue.md, R542 -/
abbrev IRQ_STAT : Field := ⟨0x40000, 0, 5, 1⟩
abbrev IRQ_ACK : Field := ⟨0x40004, 0, 9, 0⟩
abbrev IRQ_RAISE : Field := ⟨0x40008, 0, 9, 0⟩
abbrev IRQ_STALE_ACK : Field := ⟨0x40010, 0, 32, 0⟩
abbrev IRQ_BADACK_CNT : Field := ⟨0x40014, 0, 32, 0⟩
abbrev IRQ_FULL_CNT : Field := ⟨0x40018, 0, 32, 0⟩
abbrev IRQ_CLAIM_CNT_LO : Field := ⟨0x4001c, 0, 32, 0⟩
abbrev IRQ_CLAIM_CNT_HI : Field := ⟨0x40020, 0, 32, 0⟩
abbrev IRQ_S (j : Nat) : Field := ⟨0x40030 + j * 4, 0, 32, 0⟩
abbrev IRQ_CLAIM_CNT_S_LO : Field := ⟨0x4003c, 0, 32, 0⟩
abbrev IRQ_CLAIM_CNT_S_HI : Field := ⟨0x40040, 0, 32, 0⟩

/-! ### 18_event_record_queue.md, R543 -/
abbrev IRQ_TGT_CFG_EN (t : Nat) : Field := ⟨0x40100 + t * 0x40, 31, 1, if t = 0 then 1 else 0⟩
abbrev IRQ_TGT_CFG_NOTIFY_MS (t : Nat) : Field := ⟨0x40100 + t * 0x40, 16, 11, 100⟩
abbrev IRQ_TGT_CFG_NODE (t : Nat) : Field := ⟨0x40100 + t * 0x40, 0, 12, 0⟩
abbrev IRQ_TGT_FILL_SEQ_NEXT (t : Nat) : Field := ⟨0x40104 + t * 0x40, 16, 16, 0⟩
abbrev IRQ_TGT_FILL_COUNT (t : Nat) : Field := ⟨0x40104 + t * 0x40, 0, 13, if t = 0 then 1 else 0⟩
abbrev IRQ_TGT_POP (t : Nat) : Field := ⟨0x40108 + t * 0x40, 0, 1, 0⟩
abbrev IRQ_TGT_HWM (t : Nat) : Field := ⟨0x4010c + t * 0x40, 0, 13, 0⟩
abbrev IRQ_TGT_HEAD (t j : Nat) : Field := ⟨0x40110 + t * 0x40 + j * 4, 0, 32, 0⟩

/-! ### 18_event_record_queue.md, R544 -/
abbrev IRQ_SRC_ACTIVE (s : Nat) : Field := ⟨0x41000 + s * 4, 31, 1, 0⟩
abbrev IRQ_SRC_PENDING (s : Nat) : Field := ⟨0x41000 + s * 4, 30, 1, 0⟩
abbrev IRQ_SRC_IN_SERVICE (s : Nat) : Field := ⟨0x41000 + s * 4, 29, 1, 0⟩
abbrev IRQ_SRC_MASK (s : Nat) : Field := ⟨0x41000 + s * 4, 28, 1, 0⟩
abbrev IRQ_SRC_AUTO_ACK (s : Nat) : Field := ⟨0x41000 + s * 4, 27, 1, if irqIsLevel s then 0 else 1⟩
abbrev IRQ_SRC_LEVEL (s : Nat) : Field := ⟨0x41000 + s * 4, 26, 1, 0⟩
abbrev IRQ_SRC_COUNT (s : Nat) : Field := ⟨0x41000 + s * 4, 16, 8, 0⟩
abbrev IRQ_SRC_PRIORITY (s : Nat) : Field := ⟨0x41000 + s * 4, 8, 3, 3⟩
abbrev IRQ_SRC_TARGETS (s : Nat) : Field := ⟨0x41000 + s * 4, 0, 5, 1⟩

/-! ### 19_memory_protection.md, R560 -/
abbrev ECC_STAT_CRITICAL : Field := ⟨0xf0000, 31, 1, 0⟩
abbrev ECC_STAT_SCRUB_ON : Field := ⟨0xf0000, 30, 1, 0⟩
abbrev ECC_STAT_LAST_UNC_REGION : Field := ⟨0xf0000, 16, 8, 0⟩
abbrev ECC_STAT_LAST_CORR_REGION : Field := ⟨0xf0000, 8, 8, 0⟩
abbrev ECC_BIST_DONE : Field := ⟨0xf0004, 31, 1, 0⟩
abbrev ECC_BIST_TILE_PASS : Field := ⟨0xf0004, 4, 4, 0⟩
abbrev ECC_BIST_PT_PASS : Field := ⟨0xf0004, 3, 1, 0⟩
abbrev ECC_BIST_CCB_PASS : Field := ⟨0xf0004, 2, 1, 0⟩
abbrev ECC_BIST_CCA_PASS : Field := ⟨0xf0004, 1, 1, 0⟩
abbrev ECC_SCRUB_EN : Field := ⟨0xf0008, 31, 1, 1⟩
abbrev ECC_SCRUB_PASS_H : Field := ⟨0xf0008, 0, 16, 24⟩
abbrev ECC_SCRUB_POS_LO : Field := ⟨0xf0010, 0, 32, 0⟩
abbrev ECC_SCRUB_POS_HI : Field := ⟨0xf0014, 0, 8, 0⟩
abbrev ECC_SCRUB_PASSES : Field := ⟨0xf0018, 0, 32, 0⟩
abbrev ECC_LAST_CORR_LO : Field := ⟨0xf0020, 0, 32, 0⟩
abbrev ECC_LAST_CORR_HI_DRAM : Field := ⟨0xf0024, 23, 1, 0⟩
abbrev ECC_LAST_CORR_HI_POSITION : Field := ⟨0xf0024, 16, 7, 0⟩
abbrev ECC_LAST_CORR_HI_ADDR_HI : Field := ⟨0xf0024, 0, 8, 0⟩
abbrev ECC_LAST_UNC_LO : Field := ⟨0xf0028, 0, 32, 0⟩
abbrev ECC_LAST_UNC_HI : Field := ⟨0xf002c, 0, 8, 0⟩
abbrev ECC_RESIDUE_CNT : Field := ⟨0xf0040, 0, 32, 0⟩
abbrev ECC_RESIDUE_CNT_S : Field := ⟨0xf0044, 0, 32, 0⟩
abbrev ECC_R_CORR_CNT (r : Nat) : Field := ⟨0xf0100 + r * 0x10, 0, 32, 0⟩
abbrev ECC_R_UNC_CNT (r : Nat) : Field := ⟨0xf0104 + r * 0x10, 0, 32, 0⟩
abbrev ECC_R_THR_WINDOW_H (r : Nat) : Field := ⟨0xf0108 + r * 0x10, 16, 16, 24⟩
abbrev ECC_R_THR_LIMIT (r : Nat) : Field := ⟨0xf0108 + r * 0x10, 0, 16, 64⟩

/-! ### 20_concentrator_pair.md, R574 -/
abbrev PAIR_STAT_SB_STATE : Field := ⟨0x100000, 29, 3, 0⟩
abbrev PAIR_STAT_SB_ELIGIBLE : Field := ⟨0x100000, 28, 1, 0⟩
abbrev PAIR_STAT_MODE : Field := ⟨0x100000, 26, 2, 0⟩
abbrev PAIR_STAT_MIRROR_UP : Field := ⟨0x100000, 25, 1, 0⟩
abbrev PAIR_STAT_DEGRADED : Field := ⟨0x100000, 24, 1, 0⟩
abbrev PAIR_STAT_REBUILD : Field := ⟨0x100000, 23, 1, 0⟩
abbrev PAIR_STAT_ACTIVE_CC : Field := ⟨0x100000, 0, 1, 0⟩
abbrev PAIR_CMD : Field := ⟨0x100004, 0, 2, 0⟩
abbrev PAIR_DIAG_WDOG_MS : Field := ⟨0x100008, 16, 16, 1000⟩
abbrev PAIR_DIAG_RES_LIMIT : Field := ⟨0x100008, 8, 8, 16⟩
abbrev PAIR_DIAG_SELFTEST_H : Field := ⟨0x100008, 0, 8, 24⟩
abbrev PAIR_WDOG : Field := ⟨0x10000c, 0, 32, 0⟩
abbrev PAIR_LAST_CAUSE : Field := ⟨0x100010, 28, 4, 0⟩
abbrev PAIR_LAST_WARM : Field := ⟨0x100010, 27, 1, 0⟩
abbrev PAIR_LAST_RESET : Field := ⟨0x100010, 26, 1, 0⟩
abbrev PAIR_LAST_FROM_CC : Field := ⟨0x100010, 25, 1, 0⟩
abbrev PAIR_LAST_WRAP : Field := ⟨0x100010, 0, 16, 0⟩
abbrev PAIR_LAST_NS : Field := ⟨0x100014, 0, 32, 0⟩
abbrev PAIR_TKO_CNT : Field := ⟨0x100018, 0, 32, 0⟩
abbrev PAIR_GAP : Field := ⟨0x10001c, 0, 32, 0⟩
abbrev PAIR_SYNC : Field := ⟨0x100020, 0, 16, 0⟩
abbrev PAIR_SB_REG_ADDR : Field := ⟨0x100030, 0, 24, 0⟩
abbrev PAIR_SB_REG_DATA : Field := ⟨0x100034, 0, 32, 0⟩
abbrev PAIR_SBW_BASE_LO : Field := ⟨0x100038, 0, 32, 0⟩
abbrev PAIR_SBW_BASE_HI : Field := ⟨0x10003c, 0, 8, 1⟩
abbrev PAIR_MIRROR_ERR_CNT : Field := ⟨0x100040, 0, 32, 0⟩
abbrev PAIR_RESIDUE_PEAK : Field := ⟨0x100044, 0, 32, 0⟩
abbrev PAIR_SELFTEST_FAIL_CNT : Field := ⟨0x100048, 0, 32, 0⟩
abbrev PAIR_S (j : Nat) : Field := ⟨0x100050 + j * 4, 0, 32, 0⟩

/-! ### 21_register_access_and_test.md, R589 -/
abbrev SYS_OFFACC : Field := ⟨0x10020, 0, 32, 0⟩
abbrev SYS_BADADDR : Field := ⟨0x10024, 0, 32, 0⟩
abbrev SYS_DENY_CNT : Field := ⟨0x10028, 0, 32, 0⟩
abbrev SYS_TIERLOCK_CNT : Field := ⟨0x1002c, 0, 32, 0⟩
abbrev SYS_BADREQ_CNT : Field := ⟨0x10030, 0, 32, 0⟩
abbrev SYS_S (j : Nat) : Field := ⟨0x10040 + j * 4, 0, 32, 0⟩

/-! ### 21_register_access_and_test.md, R590 -/
abbrev TST_STAT_AUTH : Field := ⟨0x120000, 31, 1, 0⟩
abbrev TST_STAT_MASK : Field := ⟨0x120000, 0, 6, 0⟩
abbrev TST_ARM_DISARM_ALL : Field := ⟨0x120004, 31, 1, 0⟩
abbrev TST_ARM_ARM : Field := ⟨0x120004, 0, 6, 0⟩
abbrev TST_DUR_REMAIN : Field := ⟨0x120008, 16, 16, 0⟩
abbrev TST_DUR_DURATION : Field := ⟨0x120008, 0, 16, 1⟩
abbrev TST_STRETCH_UNITS : Field := ⟨0x120010, 24, 5, 0⟩
abbrev TST_STRETCH_FACTOR : Field := ⟨0x120010, 0, 5, 1⟩
abbrev TST_BP_SEL_PORTS : Field := ⟨0x120014, 8, 8, 0⟩
abbrev TST_BP_SEL_CLASSES : Field := ⟨0x120014, 0, 8, 0⟩
abbrev TST_BP_DUTY_ON_TICKS : Field := ⟨0x120018, 16, 16, 0⟩
abbrev TST_BP_DUTY_OFF_TICKS : Field := ⟨0x120018, 0, 16, 0⟩
abbrev TST_LANE_K : Field := ⟨0x12001c, 16, 16, 0⟩
abbrev TST_LANE_KIND : Field := ⟨0x12001c, 14, 2, 0⟩
abbrev TST_LANE_LANE : Field := ⟨0x12001c, 0, 4, 0⟩
abbrev TST_TIME_KIND : Field := ⟨0x120020, 30, 2, 0⟩
abbrev TST_TIME_PORTS : Field := ⟨0x120020, 16, 8, 0⟩
abbrev TST_TIME_VALUE : Field := ⟨0x120020, 0, 16, 0⟩
abbrev TST_MEM_LO : Field := ⟨0x120024, 0, 32, 0⟩
abbrev TST_MEM_HI_POSITION : Field := ⟨0x120028, 16, 7, 0⟩
abbrev TST_MEM_HI_KIND : Field := ⟨0x120028, 8, 2, 0⟩
abbrev TST_MEM_HI_ADDR_HI : Field := ⟨0x120028, 0, 8, 0⟩
abbrev TST_RES : Field := ⟨0x12002c, 0, 7, 0⟩
abbrev TST_INJ_CNT : Field := ⟨0x120030, 0, 32, 0⟩
abbrev TST_REFUSE_CNT : Field := ⟨0x120034, 0, 32, 0⟩

/-! ### 22_electrical_package_life.md, R612 -/
abbrev SYS_WEAR_HOURS : Field := ⟨0x10200, 0, 32, 0⟩
abbrev SYS_WEAR_EM_DIE : Field := ⟨0x10204, 28, 4, 0⟩
abbrev SYS_WEAR_EM_USED_PPM : Field := ⟨0x10204, 0, 20, 0⟩
abbrev SYS_WEAR_TJ (i : Nat) : Field := ⟨0x10208 + i * 0x4, 0, 32, 0⟩
abbrev SYS_WEAR_OVN_AGE_PPB : Field := ⟨0x10220, 16, 16, 0⟩
abbrev SYS_WEAR_OVN_OVN_DAYS : Field := ⟨0x10220, 0, 16, 0⟩
abbrev SYS_WEAR_OVN_RATE : Field := ⟨0x10224, 0, 16, 0⟩
abbrev SYS_WEAR_DRAM_RATE (x : Nat) : Field := ⟨0x10228 + x * 0x4, 16, 16, 0⟩
abbrev SYS_WEAR_DRAM_TREND (x : Nat) : Field := ⟨0x10228 + x * 0x4, 0, 16, 0⟩

end F

end Sys2Proof.Machine
end

