-- ==== Sys2Proof/WellFormed.lean ====
section
/-! DEFINITION. Well-formed commands: every unit, channel, port, queue and field that the operands name exists. -/

namespace Sys2Proof

/-- A requester the module can have: a node of 4 096, the Owl, or one of two warren cores (R73, R443). -/
def Requester.wf : Requester → Bool
  | .node n => decide (n < 4096)
  | .owl => true
  | .warren k => decide (k < 2)

/-- An access with a requester the module can have and a 16-bit TAG (R576). -/
def Access.wf (a : Access) : Bool := a.who.wf && decide (a.tag < 65536)

/-- Numbers below a bound. -/
def below (n : Nat) (l : List Nat) : Bool := l.all fun x => decide (x < n)

/-- The fields of a time message fit their places (R218). -/
def TimeMsg.wf (m : TimeMsg) : Bool :=
  decide (1 ≤ m.msg) && decide (m.msg < 4) && decide (m.domain < 2) && decide (m.quality < 8) && decide (m.hops < 32) && decide (m.epoch < 4096)
    && decide (m.wrap < 65536) && below (2 ^ 32) [m.timeNs, m.timeFrac, m.incFrac, m.bound, m.hash]
    && decide (m.incInt < 256)

/-- The fields of a LACK fit their places (R454). -/
def LackMsg.wf (m : LackMsg) : Bool :=
  decide (m.lseq < 4096) && decide (m.limits.length = 8) && below 65536 m.limits

/-- The fields of a CAP fit their places (R454). -/
def CapMsg.wf (m : CapMsg) : Bool :=
  decide (m.port < 8) && decide (m.node < 4096) && below (2 ^ 32) [m.serhash, m.cfgGen] && decide (m.boot < 65536)
    && decide (m.roles < 32) && decide (m.bufs.length = 8) && below 65536 m.bufs && decide (m.step < 256)

/-- The fields of an ADVERT entry fit their places (R454). -/
def AdvertEntry.wf (m : AdvertEntry) : Bool :=
  decide (m.dest < 4096) && decide (m.hops < 256) && decide (m.rgen < 2 ^ 32)

/-- The fields of a CLAIM fit their places (R454). -/
def ClaimMsg.wf (m : ClaimMsg) : Bool :=
  decide (m.kind < 3) && decide (m.node < 4096) && decide (m.serial < 2 ^ 64) && decide (m.boot < 65536)
    && decide (m.floodId < 65536)

/-- The fields of a PIN fit their places (R454). -/
def PinMsg.wf (m : PinMsg) : Bool :=
  decide (m.node < 4096) && decide (m.serial < 2 ^ 64) && decide (m.floodId < 65536) && decide (m.origin < 4096)

/-- The fields of a TREE message fit their places (R454). -/
def TreeMsg.wf (m : TreeMsg) : Bool := decide (m.tree < 3) && decide (m.hops < 32) && decide (m.hash < 2 ^ 32)

/-- The fields of a PRIMITIVE fit their places (R288). -/
def PrimitiveMsg.wf (m : PrimitiveMsg) : Bool :=
  decide (m.cls < 8) && below 256 [m.group, m.cause] && decide (m.ident < 2 ^ 40) && below 65536 [m.wrap, m.unit, m.inputs]
    && below (2 ^ 32) [m.ns, m.w2]

/-- The fields of a DECISION fit their places (R289). -/
def DecisionMsg.wf (m : DecisionMsg) : Bool :=
  decide (m.kind < 4) && decide (m.term < 65536) && decide (m.ident < 2 ^ 40) && decide (m.builder < 4096) && decide (m.eventNo < 2 ^ 48)
    && decide (m.rule < 256) && below (2 ^ 24) [m.newPre, m.newPost]

/-- The fields of a decision's ACK fit their places (R290). -/
def DecisionAckMsg.wf (m : DecisionAckMsg) : Bool := decide (m.kind < 4) && decide (m.term < 65536) && decide (m.ident < 2 ^ 40)

/-- The fields of a HEARTBEAT fit their places (R292). -/
def HeartbeatMsg.wf (m : HeartbeatMsg) : Bool :=
  below 65536 [m.term, m.sealedWrap] && below 4096 [m.master, m.sealedEpoch] && decide (m.eventNo < 2 ^ 48)

/-- The fields of an ANNOUNCE fit their places (R290). -/
def AnnounceMsg.wf (m : AnnounceMsg) : Bool := decide (m.term < 65536) && decide (m.eventNo < 2 ^ 48) && decide (m.map < 2 ^ 4096)

/-- The fields of a RETRO fit their places (R291). -/
def RetroMsg.wf (m : RetroMsg) : Bool :=
  decide (m.group < 256) && below 65536 [m.term, m.wrap] && decide (m.ident < 2 ^ 40) && below (2 ^ 32) [m.ns, m.w2]
    && decide (m.eventNo < 2 ^ 48)

/-- The fields of a transfer header fit their places, and a frame carries at most 2 024 bytes of words (R345). -/
def DataMsg.wf (m : DataMsg) : Bool :=
  below 65536 [m.index, m.term] && decide (m.ident < 2 ^ 40) && decide (m.eventNo < 2 ^ 48) && decide (m.origBuilder < 4096)
    && decide (m.total < 2 ^ 32) && decide (m.words.length ≤ 506) && below (2 ^ 32) m.words

/-- The fields of a builder's ACK fit their places (R345). -/
def FragAckMsg.wf (m : FragAckMsg) : Bool :=
  decide (m.ident < 2 ^ 40) && decide (m.eventNo < 2 ^ 48) && decide (m.origBuilder < 4096) && decide (m.term < 65536)

/-- The operands name what the module has. (DESIGN CHOICE, log entry 1.) -/
def Instr.wf : Instr → Bool
  | .vinValid => true
  | .vinCutoff => true
  | .rstNReset _ => true
  | .fillDone r => decide (r.tiles < 16) && decide (r.strap < 4)
  | .verifyDone nvm => decide (nvm < 3)
  | .recoveryLoad _ => true
  | .configureDone cal => (cal.all fun e => (decide (e.1 < 960) || (decide (1024 ≤ e.1) && decide (e.1 < 1032))) && e.2.length == 256 && e.2.sum == 2 ^ 20)
  | .reseatComplete => true
  | .faultReport => true
  | .sysRestart a _ => a.wf
  | .newNonce a => a.wf
  | .quote a => a.wf
  | .confirm a => a.wf
  | .openNvm a => a.wf
  | .closeNvm a => a.wf
  | .verifySlot a => a.wf
  | .addKey a => a.wf
  | .revokeKey a => a.wf
  | .debugOpen a => a.wf
  | .secCmdDone => true
  | .nvmErase64k a => a.wf
  | .nvmProgram a => a.wf
  | .nvmRead a => a.wf
  | .nvmOpDone _ => true
  | .nvmPollTimeout => true
  | .registerWrite a addr count _ _ => a.wf && decide (addr < 2 ^ 40) && decide (count < 256)
  | .rcCounterRead a addr count => a.wf && decide (addr < 2 ^ 40) && decide (count < 256)
  | .wideLoRead a addr count => a.wf && decide (addr < 2 ^ 40) && decide (count < 256)
  | .wideHiRead a addr => a.wf && decide (addr < 2 ^ 40)
  | .wideLoWrite a addr _ => a.wf && decide (addr < 2 ^ 40)
  | .wideHiWrite a addr _ => a.wf && decide (addr < 2 ^ 40)
  | .snapArm a _ => a.wf
  | .epochBoundary => true
  | .squirrelEvalTimer => true
  | .powerSample mw _ => decide (mw < 2 ^ 24)
  | .epochCommit => true
  | .gridInstantEval => true
  | .pinUnitEnable a u _ => a.wf && decide (u < 8)
  | .decisionAccept _ m => m.wf && m.kind == 1
  | .decisionReject _ m => m.wf && m.kind == 2
  | .decisionSupersede _ m => m.wf && m.kind == 3
  | .decisionDeadline ident => decide (ident < 2 ^ 40)
  | .emptyEpochDeadline => true
  | .fragmentBuilt ident => decide (ident < 2 ^ 40)
  | .primitiveRx p m => decide (p < 8) && m.wf
  | .primitiveDue => true
  | .decisionRepeat ident kind => decide (ident < 2 ^ 40) && decide (kind < 4)
  | .decisionAckRx m => m.wf
  | .heartbeatRx _ m => m.wf
  | .triggerStandbyTakeover => true
  | .retroRx m => m.wf
  | .announceRx m => m.wf
  | .fragmentDataRx m => m.wf
  | .mergeTimeout n => decide (n < 2 ^ 48)
  | .fragmentAckRx m => m.wf
  | .fragmentResend ident => decide (ident < 2 ^ 40)
  | .fragmentAbandon ident => decide (ident < 2 ^ 40)
  | .mergeIdentityExpire ident => decide (ident < 2 ^ 40)
  | .ringItemStore => true
  | .packJobStart => true
  | .packJobDone engine => decide (engine < 16)
  | .lpsDjGo a => a.wf
  | .lpsDjDone => true
  | .crcClaim a u => a.wf && decide (u < 8)
  | .crcRelease a u => a.wf && decide (u < 8)
  | .crcClaimTimeout u => decide (u < 8)
  | .crcFeed a u _ => a.wf && decide (u < 8)
  | .crcValWrite a u _ => a.wf && decide (u < 8)
  | .crcRangeGo a u => a.wf && decide (u < 8)
  | .crcRangeAbort a u => a.wf && decide (u < 8)
  | .crcRangeDone u => decide (u < 8)
  | .egqCfgWrite a q _ => a.wf && decide (q < 8)
  | .egqApertureRead a q n => a.wf && decide (q < 8) && decide (n < 256)
  | .bulkWindowRead a addr n => a.wf && decide (addr < 2 ^ 40) && decide (n < 256)
  | .egqMark a q => a.wf && decide (q < 8)
  | .egqRewind a q => a.wf && decide (q < 8)
  | .egqRelease a q => a.wf && decide (q < 8)
  | .egqMarkRelease a q => a.wf && decide (q < 8)
  | .loopExecution t slot _ => decide (t < 4) && decide (slot < 4)
  | .loopStall t slot m => decide (t < 4) && decide (slot < 4) && decide (m < 16)
  | .bvrStart a t slot k => a.wf && decide (t < 4) && decide (slot < 4) && decide (k < 2)
  | .bvrSwitch a t slot => a.wf && decide (t < 4) && decide (slot < 4)
  | .bvrStop a t slot => a.wf && decide (t < 4) && decide (slot < 4)
  | .bvrForceSafe a t slot => a.wf && decide (t < 4) && decide (slot < 4)
  | .bvrInjGo a t slot => a.wf && decide (t < 4) && decide (slot < 4)
  | .bvrInjStop a t slot => a.wf && decide (t < 4) && decide (slot < 4)
  | .bvrCapArm a t slot => a.wf && decide (t < 4) && decide (slot < 4)
  | .bvrCapStop a t slot => a.wf && decide (t < 4) && decide (slot < 4)
  | .bvrBankWrite a t slot k n _ => a.wf && decide (t < 4) && decide (slot < 4) && decide (k < 2) && decide (n < 512)
  | .tdcEdge src ev code => (decide (src < 960) || (decide (1024 ≤ src) && decide (src < 1032))) && decide (ev < 3) && decide (code < 256)
  | .discHoldoffEnd c => decide (c < 960)
  | .hitRelease => true
  | .tdcCalGo a _ => a.wf
  | .tdcCalAbort a _ => a.wf
  | .tdcCalSourceDone src counts => (decide (src < 960) || (decide (1024 ≤ src) && decide (src < 1032))) && (counts.isEmpty || decide (counts.length = 256))
  | .tdcCalTimeout src => (decide (src < 960) || (decide (1024 ≤ src) && decide (src < 1032)))
  | .tdcTableLoad a _ => a.wf
  | .settleCountEnd c => decide (c < 960)
  | .precisionSampleDone n _ => decide (n < 64)
  | .precBufferStore => true
  | .precSettleEnd n => decide (n < 64)
  | .refSettled n _ => decide (n < 64)
  | .pcvCfgInForce n => decide (n < 64)
  | .pchCfgWrite a n r _ => a.wf && decide (n < 64) && decide (r < 3)
  | .excReversal n => decide (n < 64)
  | .excDutyOn n => decide (n < 64)
  | .excDutyOff n => decide (n < 64)
  | .excLimitAssert n => decide (n < 64)
  | .drvLimitAssert n => decide (n < 64)
  | .faultAssert n c => decide (n < 64) && decide (c < 4)
  | .faultAutoClear n c => decide (n < 64) && decide (c < 5)
  | .faultClearWrite a n _ => a.wf && decide (n < 64)
  | .odRequest a _ => a.wf
  | .odDropTimeout slot => decide (slot < 8)
  | .odSlotFree a slot _ => a.wf && decide (slot < 8)
  | .calGo a _ => a.wf
  | .calAbort a _ => a.wf
  | .calComputeDone => true
  | .calOfsWrite a n r _ => a.wf && decide (n < 64) && decide (r < 6)
  | .calGainWrite a n r _ => a.wf && decide (n < 64) && decide (r < 6)
  | .refinPresentSet => true
  | .refinLost => true
  | .pllLock => true
  | .ovnReady => true
  | .ovnLeaveBand => true
  | .domainEpochBoundary x => decide (x < 2)
  | .syncSend x => decide (x < 2)
  | .syncRx p m => decide (p < 8) && m.wf
  | .delayReqSend x => decide (x < 2)
  | .delayReqRx p m => decide (p < 8) && m.wf
  | .delayRespRx p m => decide (p < 8) && m.wf
  | .masterSetGo a x _ => a.wf && decide (x < 2)
  | .slewEnd => true
  | .toutArm a o _ => a.wf && decide (o < 4)
  | .toutDisarm a o _ => a.wf && decide (o < 4)
  | .toutInstance o => decide (o < 4)
  | .toutPulseEnd o => decide (o < 4)
  | .claimRx p m => decide (p < 8) && m.wf
  | .claimHeld => true
  | .idRetry => true
  | .pinGo a _ => a.wf
  | .pinRx p m => decide (p < 8) && m.wf
  | .pinNoTarget => true
  | .frameRx p _ => decide (p < 8)
  | .lackRx p m => decide (p < 8) && m.wf
  | .lackSend p => decide (p < 8)
  | .replayTimeout p => decide (p < 8)
  | .capRx p m => decide (p < 8) && m.wf
  | .advertRx p entries => decide (p < 8) && entries.all AdvertEntry.wf
  | .routeExpire d => decide (d < 4096)
  | .nodeDepart d => decide (d < 4096)
  | .routePinWrite a d _ => a.wf && decide (d < 4096)
  | .reorderTimeout src dst _ cls => decide (src < 4096) && decide (dst < 4096) && decide (cls < 8)
  | .treeRx p m => decide (p < 8) && m.wf
  | .hostCapBeacon p => decide (p < 8)
  | .logLineSend _ => true
  | .beaconTimer p => decide (p < 8)
  | .silentBeacon p => decide (p < 8)
  | .signalDetect l => decide (l < 16)
  | .cdrLock l _ => decide (l < 16)
  | .blockLock l _ _ => decide (l < 16)
  | .trainTimeout p => decide (p < 8)
  | .lockTimeout p => decide (p < 8)
  | .exchangeTimeout p => decide (p < 8)
  | .readyRx p arg => decide (p < 8) && decide (arg < 65536)
  | .lossOfSignal l => decide (l < 16)
  | .losIdleEnd p => decide (p < 8)
  | .laneLockLost l => decide (l < 16)
  | .laneRejoin p => decide (p < 8)
  | .downRx p arg => decide (p < 8) && decide (arg < 65536)
  | .takeoverOsRx p arg => decide (p < 8) && decide (arg < 65536)
  | .tkoHoldExpire p => decide (p < 8)
  | .lnkRetry a p => a.wf && decide (p < 8)
  | .lnkKnock a p => a.wf && decide (p < 8)
  | .knockDone p => decide (p < 8)
  | .lnkRejoin a p => a.wf && decide (p < 8)
  | .lnkAdminDown a p => a.wf && decide (p < 8)
  | .lnkTestPrbs31 a p => a.wf && decide (p < 8)
  | .lnkTestOff a p => a.wf && decide (p < 8)
  | .knockDetect l _ => decide (l < 16)
  | .voteCast a d _ => a.wf && decide (d < 19)
  | .voteWithdraw a d _ => a.wf && decide (d < 19)
  | .voteLeaseExpire d node => decide (d < 19) && decide (node < 4096)
  | .accessVoteExpire d => decide (d < 19)
  | .offDomainAccess a addr => a.wf && decide (addr < 2 ^ 40)
  | .forceNone a d => a.wf && decide (d < 19)
  | .forceOn a d => a.wf && decide (d < 19)
  | .forceOff a d => a.wf && decide (d < 19)
  | .levelForceWrite a _ => a.wf
  | .domainTransitionDone d => decide (d < 19)
  | .levelTransitionDone => true
  | .wakeTimerExpire => true
  | .thermalTrip => true
  | .irqClaim => true
  | .irqAck a _ => a.wf
  | .irqRaise a _ => a.wf
  | .irqPop a t _ => a.wf && decide (t < 5)
  | .irqSrcWrite a src _ => a.wf && decide (src < 512)
  | .notifyRepeat => true
  | .scrubStep die addr _ _ pos => decide (die < 7) && decide (addr < 2 ^ 40) && decide (pos < 72)
  | .eccWindowEnd r => (([1, 2, 3, 4, 5, 16, 17, 18, 19, 20, 21, 22, 32, 33, 34, 35, 40, 48] : List Nat).contains r)
  | .eccThrWrite a r _ => a.wf && (([1, 2, 3, 4, 5, 16, 17, 18, 19, 20, 21, 22, 32, 33, 34, 35, 40, 48] : List Nat).contains r)
  | .mirrorAck => true
  | .mirrorLost _ => true
  | .periodicSelftest cc _ => decide (cc < 2)
  | .watchdogKick a => a.wf
  | .watchdogExpire _ => true
  | .lockstepMismatch _ => true
  | .coreStall _ => true
  | .railFault _ => true
  | .pairSwitch a => a.wf
  | .pairReinstate a => a.wf
  | .pairRetire a => a.wf
  | .takeover => true
  | .takeoverGapEnd => true
  | .warmRebuildDone => true
  | .standbyFillDone _ => true
  | .standbyCaughtUp => true
  | .standbyRegRead a => a.wf
  | .standbyWindowRead a k => a.wf && decide (k < 8192)
  | .tstArmStretch a => a.wf
  | .tstArmBackpress a => a.wf
  | .tstArmLane a => a.wf
  | .tstArmTime a => a.wf
  | .tstArmMemerr a => a.wf
  | .tstArmResidue a => a.wf
  | .tstDisarmAll a => a.wf
  | .tstDurationEnd => true
  | .tstBpToggle => true
  | .jtagBypass _ => true
  | .jtagSamplePreload _ _ => true
  | .jtagExtest _ _ => true
  | .jtagIdcode _ => true
  | .fastSampleInstant codes => codes.all (fun x => decide (x.chan < 960))
  | .hostEthernetFrameRx p _ => decide (p < 8)
  | .detectorArm => true
  | .prbsLockGained l => decide (l < 16)
  | .prbsLockLost l _ _ => decide (l < 16)
  | .mirrorLinkRestored => true
  | .tapReset => true
  | .emBudgetAccumulate tj => decide (tj.length = 8)
  | .wearStoreUpdate => true

end Sys2Proof
end

