-- ==== Sys2Proof/Machine/Ops.lean ====
section
/-! DEFINITION. The named operations over the register file, memory and the outputs, shared by every block. -/

namespace Sys2Proof.Machine

/-! ### Registers (R6, R8) -/

/-- The value of a field: what the register file lists, else the field's reset value (R8). -/
def Block.get (b : Block) (f : Field) : Nat := lookupD b.regs f.key f.reset

/-- A field as a flag: it does not read 0. -/
def Block.flag (b : Block) (f : Field) : Bool := b.get f != 0

/-- The register file with a field set to the low bits of `v`; a field at its reset value is not listed. -/
def putReg (r : Table Nat) (f : Field) (v : Nat) : Table Nat :=
  if v % 2 ^ f.width = f.reset then eraseKey r f.key else insertKey r f.key (v % 2 ^ f.width)

/-- A field set to the low bits of `v`. -/
def Block.put (b : Block) (f : Field) (v : Nat) : Block := { b with regs := putReg b.regs f v }

/-- A one-bit field set from a Bool. -/
def Block.putB (b : Block) (f : Field) (v : Bool) : Block := b.put f (b2n v)

/-- A counter field raised by `n`, stopping at all ones (the counters of every block stop at 0xFFFF_FFFF). -/
def Block.bumpBy (b : Block) (f : Field) (n : Nat) : Block := b.put f (satU f.width (b.get f + n))

/-- A counter field raised by 1, stopping at all ones. -/
def Block.bump (b : Block) (f : Field) : Block := b.bumpBy f 1

/-- A 64-bit value held in a _LO and a _HI register (R74). -/
def Block.get64 (b : Block) (lo hi : Field) : Nat := b.get lo + 2 ^ 32 * b.get hi

/-- A 64-bit value written to its _LO and _HI registers. -/
def Block.put64 (b : Block) (lo hi : Field) (v : Nat) : Block := (b.put lo (v % 2 ^ 32)).put hi (v / 2 ^ 32)

/-- A 64-bit counter raised by `n`, stopping at all ones. -/
def Block.bump64 (b : Block) (lo hi : Field) (n : Nat) : Block :=
  b.put64 lo hi (satU 64 (b.get64 lo hi + n))

/-! ### Memory (R20, R548-R550) -/

/-- What a byte of DRAM that nothing has written reads as: zero after the fill (R554); in the ring directory, the entries that
the ring manager lays down at power-up, with NEVER set and every other field zero (R310). (DEDUCED, log entry 10.) -/
def blankByte (a : Nat) : Nat :=
  if decide (0x0680000000 ≤ a) && decide (a < 0x0684000000) && a % 16 == 15 then 4 else 0

/-- The byte of DRAM at an address. (DEDUCED, log entry 10.) -/
def readByte (m : Table Byte) (a : Nat) : Nat := (lookupD m a (BitVec.ofNat 8 (blankByte a))).toNat

/-- A byte written to DRAM; one that reads as if never written is not listed. (DEDUCED, log entry 10.) -/
def writeByte (m : Table Byte) (a v : Nat) : Table Byte :=
  if v % 256 = blankByte a then eraseKey m a else insertKey m a (BitVec.ofNat 8 v)

/-- `n` bytes of DRAM from an address. -/
def readBytes (m : Table Byte) (a : Nat) : Nat → List Nat
  | 0 => []
  | n + 1 => readByte m a :: readBytes m (a + 1) n

/-- Bytes written to DRAM from an address. -/
def writeBytes (m : Table Byte) : Nat → List Nat → Table Byte
  | _, [] => m
  | a, v :: l => writeBytes (writeByte m a v) (a + 1) l

/-- The canonical form of memory: addresses strictly rising, and no byte listed that reads as an unlisted one. -/
abbrev Memory.wf (m : Table Byte) : Prop := keysRise m = true ∧ ∀ c ∈ m, c.2.toNat ≠ blankByte c.1

/-- The poison marks after a write of `n` bytes from `a`: a write that covers all 8 bytes of a word removes its mark
(R550). -/
def clearPoison (p : Table Unit) (a n : Nat) : Table Unit :=
  p.filter fun c => !(decide (a ≤ c.1 * 8) && decide (c.1 * 8 + 8 ≤ a + n))

/-- The upsets left after a write of `n` bytes from `a`: a word written whole has none. -/
def clearUpsets (u : Table Upset) (a n : Nat) : Table Upset :=
  u.filter fun c => !(decide (a ≤ c.1 * 8) && decide (c.1 * 8 + 8 ≤ a + n))

/-- A write of `n` bytes from `a` meets an armed MEMERR at its word: the stored bits are inverted, once (R586). -/
def Block.memErr (b : Block) (a n : Nat) : Block :=
  let w := (b.get F.TST_MEM_LO + b.get F.TST_MEM_HI_ADDR_HI * 2 ^ 32) / 8
  let kind := b.get F.TST_MEM_HI_KIND
  if bitAt (b.get F.TST_STAT_MASK) 4 && !b.tst.memDone && (kind == 1 || kind == 2) && decide (a < w * 8 + 8) && decide (w * 8 < a + n) then
    { b.bump F.TST_INJ_CNT with
      ecc := { b.ecc with upsets := insertKey b.ecc.upsets w ⟨b.get F.TST_MEM_HI_POSITION, kind == 2⟩ }
      tst := { b.tst with memDone := true, epochMask := setBit b.tst.epochMask 4 true } }
  else b

/-- Bytes written to the active concentrator's DRAM (R550). -/
def Block.store (b : Block) (a : Nat) (v : List Nat) : Block :=
  { b with
    dram := writeBytes b.dram a v
    poison := clearPoison b.poison a v.length
    ecc := { b.ecc with upsets := clearUpsets b.ecc.upsets a v.length } }.memErr a v.length

/-- `n` bytes of the active concentrator's DRAM. -/
def Block.load (b : Block) (a n : Nat) : List Nat := readBytes b.dram a n

/-- A word of the range holds a poison mark (R551). -/
def Block.poisoned (b : Block) (a n : Nat) : Bool :=
  b.poison.any fun c => decide (c.1 * 8 < a + n) && decide (a < c.1 * 8 + 8)

/-- The word of an address marked as poisoned (R548, R549). -/
def Block.mark (b : Block) (a : Nat) : Block := { b with poison := insertKey b.poison (a / 8) () }

/-! ### Outputs -/

/-- A message handed to Bamien. -/
def Block.post (b : Block) (d : Dest) (cls : Nat) (m : Msg) : Block :=
  { b with posted := b.posted ++ [⟨d, cls, m, false⟩] }

/-- Something leaves the module at its pins. -/
def Block.emit (b : Block) (w : Wire) : Block := { b with wire := w :: b.wire }

/-- The event builder changed. -/
def Block.withEvb (b : Block) (f : EvbSt → EvbSt) : Block := { b with evb := f b.evb }

/-- One more free value drawn. (DESIGN CHOICE, log entry 9.) -/
def Block.drawn (b : Block) : Block := { b with free := b.free + 1 }

/-! ### Ticks (R11, R18) -/

/-- Ticks in a microsecond, a millisecond, a second and an hour: a tick is 4 ns (R11). -/
abbrev usTicks : Nat := 250
abbrev msTicks : Nat := 250000
abbrev sTicks : Nat := 250000000
abbrev hTicks : Nat := 900000000000

/-- An epoch, in ns (R28). -/
abbrev epochNs : Nat := 1048576

/-! ### Meanings -/

/-- A command whose operands name what the module has acts on the hardware alone; any other stops. (DESIGN CHOICE, log entry 1.) -/
def onHw (ok : Bool) (s : State) (f : Block → Block) : Host.Outcome State Fault Refusal :=
  if ok then .next { s with hw := f s.hw } else .fault .noSuchUnit

/-- An event whose condition does not hold in this state does not occur: nothing changes. (DESIGN CHOICE, log entry 4.) -/
def whenDue (due : Bool) (f : Block → Block) (b : Block) : Block := if due then f b else b

end Sys2Proof.Machine
end

