-- ==== Sys2Proof/Machine/Clock.lean ====
section
/-! DEFINITION. The stamping time and its timestamps (R28, R213, R214, R230, R234), and what one tick does (R18). -/

namespace Sys2Proof.Machine

/-- A time domain: 0 P, 1 S (R213). -/
def Block.domain (b : Block) (x : Nat) : Domain := if x = 0 then b.time.p else b.time.s

/-- A time domain replaced. -/
def Block.setDomain (b : Block) (x : Nat) (d : Domain) : Block :=
  if x = 0 then { b with time := { b.time with p := d } } else { b with time := { b.time with s := d } }

/-- The stamping domain's number. -/
def Block.stampDom (b : Block) : Nat := b2n b.time.dom

/-- A sum on the 80-bit counter of a domain (R213). -/
def wrapTime (i : Int) : Nat := (i % (2 ^ 80 : Nat)).toNat

/-- The difference of two full times, the shorter way round the 16-bit wrap count. -/
def timeDiff (a b : Nat) : Int :=
  let x := wrapTime ((a : Int) - b)
  if x < 2 ^ 79 then x else (x : Int) - (2 ^ 80 : Nat)

/-- The stamping time in units of 2^-32 ns, 80 bits: the selected domain plus the residual of a slew (R68), or plus the
held offset (R230), or less the part of a forward difference that still waits for the end of epoch 0 (R232). -/
def Block.stampRaw (b : Block) : Nat :=
  match b.time.held with
  | some h => wrapTime ((b.domain b.stampDom).time + h)
  | none => wrapTime (((b.domain b.stampDom).time + b.time.resid : Nat) - (b.time.secondPart.getD 0 : Nat))

/-- TS_NS of a full time (R214). -/
def tsNs (t : Nat) : Nat := t / 2 ^ 32 % 2 ^ 32

/-- The upper 10 bits of the fraction of a full time (R214). -/
def tsFrac (t : Nat) : Nat := t / 2 ^ 22 % 2 ^ 10

/-- The wrap count of a full time (R213). -/
def tsWrap (t : Nat) : Nat := t / 2 ^ 64 % 2 ^ 16

/-- The visible time, in 1/1024 ns (R214). -/
def visible (t : Nat) : Nat := t / 2 ^ 22

/-- The difference of two times of 58 bits in 1/1024 ns, the shorter way round. -/
def visibleDiff (a b : Nat) : Int :=
  let x := (((a : Int) - b) % (2 ^ 58 : Nat)).toNat
  if x < 2 ^ 57 then x else (x : Int) - (2 ^ 58 : Nat)

/-- (wrap, epoch) of a full time as wrap × 4096 + epoch (R28). -/
def epochOf (t : Nat) : Nat := t / 2 ^ 52

/-- The quality that R216 gives to a holdover bound of |H| (R230). -/
def heldQuality (h : Int) : Nat := if h.natAbs ≤ 1000000 * 2 ^ 32 then 2 else 4

/-- The stamping quality (R216, R230); 7 while the stamping time is not established. -/
def Block.stampQuality (b : Block) : Nat :=
  if b.time.established then
    match b.time.held with
    | some h => max (b.domain b.stampDom).quality (heldQuality h)
    | none => (b.domain b.stampDom).quality
  else 7

/-- The second timestamp word of a full time with a sub-ID (R234). -/
def word1 (t dom quality sub : Nat) : Nat :=
  tsFrac t * 2 ^ 22 + dom % 2 * 2 ^ 21 + quality % 8 * 2 ^ 18 + sub % 2 ^ 18

/-- The timestamp of this tick, sub-ID zero (R233, R234). -/
def Block.stamp (b : Block) : Stamp :=
  ⟨tsNs b.stampRaw, word1 b.stampRaw b.stampDom b.stampQuality 0⟩

/-- The current epoch as wrap × 4096 + epoch (R28). -/
def Block.epochNow (b : Block) : Nat := epochOf b.stampRaw

/-- The residual's decrease per tick in 2^-32 ns (R231). -/
abbrev slewStep : Nat := 858993

/-- A domain's counter one tick later (R213). -/
def Domain.tick (d : Domain) : Domain := { d with time := (d.time + d.inc) % 2 ^ 80 }

/-- The base rails are on: every state but Off and Hibernate (R22, R241). -/
def Phase.railsOn : Phase → Bool
  | .off => false
  | .hibernate => false
  | _ => true

/-- The oven's continuous on-time, while D_OVN is on (R212). -/
def Block.warmTick (b : Block) : Block :=
  if b.get (F.PWR_D_STAT_STATE 17) = 2 then
    { b with time := { b.time with
      warmSec := if b.time.warmTicks + 1 = sTicks then b.time.warmSec + 1 else b.time.warmSec
      warmTicks := if b.time.warmTicks + 1 = sTicks then 0 else b.time.warmTicks + 1 } }
  else b

/-- One tick of the time island (R18, R213, R231): both domains add their increment, a slew's residual decreases, the
tick counts rise. The time island stands in Off and Hibernate; the tick count of the model goes on, as D_AON's own count. (DESIGN CHOICE, log entry 3.) -/
def tickTime (c : Block) : Block :=
  let b := c.warmTick
  if b.phase.railsOn then
    { b with
      tick := b.tick + 1
      time := { b.time with
        p := b.time.p.tick
        s := b.time.s.tick
        resid := b.time.resid - slewStep
        pllTicks := if b.flag F.TIM_STAT_PLL_LOCK then (b.time.pllTicks + 1) % 2 ^ 64 else b.time.pllTicks } }
  else { b with tick := b.tick + 1 }

end Sys2Proof.Machine
end

