-- ==== Sys2Proof/Machine/IrqOps.lean ====
section
/-! DEFINITION. How a block asserts an event-record source: an edge latched, a level that rises or falls (R526, R534). -/

namespace Sys2Proof.Machine

/-- A source that has never asserted. -/
def SrcSt.idle : SrcSt := ⟨false, none, 0, ⟨0, 0⟩, 0, false, false, false, none⟩

/-- The state of a source. -/
def Block.source (b : Block) (s : Nat) : SrcSt := lookupD b.irq.src s SrcSt.idle

/-- The state of a source replaced. -/
def Block.setSource (b : Block) (s : Nat) (x : SrcSt) : Block :=
  { b with irq := { b.irq with src := insertKey b.irq.src s x } }

/-- An edge of a source: COUNT rises; the first latched edge since the last claim gives timestamp and payload (R526,
R534). -/
def SrcSt.edge (x : SrcSt) (ts : Stamp) (payload : Nat) (poison : Bool) : SrcSt :=
  if x.active then { x with count := satU 8 (x.count + 1) }
  else { x with active := true, count := satU 8 (x.count + 1), stamp := ts, payload := payload, poison := poison }

/-- A level of a source: a rise counts and gives timestamp and payload; a fall only clears ACTIVE (R526, R533). -/
def SrcSt.level (x : SrcSt) (on : Bool) (ts : Stamp) (payload : Nat) : SrcSt :=
  if on then
    if x.active then x
    else { x with active := true, count := satU 8 (x.count + 1), stamp := ts, payload := payload, poison := false }
  else { x with active := false, held := false }

/-- An edge source latches an occurrence of its event, stamped at this tick. -/
def Block.raise (b : Block) (s payload : Nat) : Block :=
  b.setSource s ((b.source s).edge b.stamp (payload % 2 ^ 32) false)

/-- A level source's condition holds or no longer holds. -/
def Block.setLevel (b : Block) (s : Nat) (on : Bool) (payload : Nat) : Block :=
  b.setSource s ((b.source s).level on b.stamp (payload % 2 ^ 32))

end Sys2Proof.Machine
end

