-- ==== Sys2Proof/Machine/Switch.lean ====
section
/-! DEFINITION. The shared operations of Bamien: frames out of a port, forwarding, delivery of a flow, floods (R448-R466). -/

namespace Sys2Proof.Machine

/-! ### Ports -/

/-- A port's state after reset. -/
def PortSt.fresh : PortSt where
  lseqOut := 0
  replay := []
  waiting := []
  sentFlits := []
  limit := []
  freed := []
  limitOut := []
  lseqIn := 0
  awaiting := false
  progressTick := 0
  lackTick := 0
  acceptTick := none
  stageTick := 0
  beaconTick := 0
  sigSeen := false
  silentJ := 0
  losTick := none
  capOk := false
  knockTick := 0
  lostLane := none
  eqInUse := (8, 2, 4, 2)
  lastBeacon := 0
  tkoTick := 0

/-- The state of a port. -/
def Block.port (b : Block) (p : Nat) : PortSt := lookupD b.ports p PortSt.fresh

/-- The state of a port replaced. -/
def Block.setPort (b : Block) (p : Nat) (x : PortSt) : Block := { b with ports := insertKey b.ports p x }

/-- The stages of a port (R494 STAGE). -/
abbrev stDown : Nat := 0
abbrev stDetect : Nat := 1
abbrev stTrain : Nat := 2
abbrev stLock : Nat := 3
abbrev stExchange : Nat := 4
abbrev stActive : Nat := 5
abbrev stSilent : Nat := 6
abbrev stTest : Nat := 7

/-- The stage of a port. -/
def Block.stage (b : Block) (p : Nat) : Nat := b.get (F.LNK_STAT_STAGE p)

/-- The port is ACTIVE. -/
def Block.portActive (b : Block) (p : Nat) : Bool := b.stage p == stActive

/-- The port is a fabric port (R467, R470 MODE 0x1). -/
def Block.fabricPort (b : Block) (p : Nat) : Bool := b.get (F.FAB_PORT_MODE p) == 1

/-- The port is in host mode (R467 MODE 0x2). -/
def Block.hostPort (b : Block) (p : Nat) : Bool := b.get (F.FAB_PORT_MODE p) == 2

/-- The ports of the module. -/
def allPorts : List Nat := [0, 1, 2, 3, 4, 5, 6, 7]

/-- The ACTIVE fabric ports. -/
def Block.activeFabric (b : Block) : List Nat := allPorts.filter fun p => b.fabricPort p && b.portActive p

/-- Ports that are ACTIVE: above UDP a host-mode port is a fabric port (R468). -/
def Block.activePorts (b : Block) : List Nat := allPorts.filter b.portActive

/-- The counters of FAB in their order (R472). -/
abbrev cHcrc : Field := F.FAB_CNT 0
abbrev cReplay : Field := F.FAB_CNT 1
abbrev cBadFrame : Field := F.FAB_CNT 2
abbrev cTtlDrop : Field := F.FAB_CNT 3
abbrev cNoRoute : Field := F.FAB_CNT 4
abbrev cDup : Field := F.FAB_CNT 5
abbrev cSkip : Field := F.FAB_CNT 6
abbrev cFlowReset : Field := F.FAB_CNT 7
abbrev cReorderFull : Field := F.FAB_CNT 8
abbrev cIdRefuse : Field := F.FAB_CNT 9
abbrev cLinkDrop : Field := F.FAB_CNT 10

/-! ### Frames and credits (R448, R450, R453) -/

/-- The payload size of a message in bytes, by its layout (R218, R454, R576, R584 and the trigger and builder chapters). -/
def Msg.len : Msg → Nat
  | .time _ => 32
  | .lack _ => 24
  | .cap _ => 48
  | .advert _ e => 8 + 8 * e.length
  | .claim _ => 24
  | .pin _ => 24
  | .tree _ => 16
  | .logLine t => t.length
  | .notify body => 16 + body.length
  | .answer _ a => 16 + 4 * a.data.length
  | .bulk _ a => 16 + 72 * a.entries.length
  | .primitive m => m.len
  | .decision m => m.len
  | .decisionAck m => m.len
  | .heartbeat m => m.len
  | .announce m => m.len
  | .retro m => m.len
  | .data m => m.len
  | .fragAck m => m.len

/-- The flits of receive buffer that a frame occupies (R450). -/
def Frame.flits (f : Frame) : Nat := ceilDiv (f.len + 20) 64

/-- The receive buffer of a class: flits, or frames of classes 3 and 4 (R450). -/
def classBuffer : Nat → Nat
  | 0 => 64
  | 1 => 512
  | 2 => 128
  | 3 => 8
  | 4 => 32
  | 5 => 512
  | 6 => 64
  | _ => 0

/-- The class has link and end-to-end sequence (R450). -/
def sequenced (cls : Nat) : Bool := [0, 1, 2, 5, 6].contains cls

/-- The bytes of a port's replay buffer in use (R452). -/
def PortSt.replayBytes (x : PortSt) : Nat := (x.replay.map fun r => r.2.len + 20).sum

/-- The next frame of a class may be sent: credit for its flits, and room in the replay buffer (R452, R453). (DEDUCED, log entry 8.) -/
def PortSt.maySend (x : PortSt) (f : Frame) : Bool :=
  decide (f.flits ≤ (lookupD x.limit f.cls 0 + 2 ^ 16 - lookupD x.sentFlits f.cls 0 % 2 ^ 16) % 2 ^ 16)
    && decide (x.replayBytes + f.len + 20 ≤ 131072) && decide (x.replay.length < 2047)

/-- Flits of a class freed at the port that received them (R453). -/
def Block.free1 (b : Block) (o : Option Nat) (f : Frame) : Block :=
  match o with
  | none => b
  | some p =>
    let x := b.port p
    b.setPort p { x with freed := insertKey x.freed f.cls ((lookupD x.freed f.cls 0 + f.flits) % 2 ^ 16) }

/-- TST BACKPRESS is armed and in its ON_TICKS (R586). -/
def Block.withheld (b : Block) : Bool := bitAt (b.get F.TST_STAT_MASK) 1 && b.tst.bpOn

/-- TST LANE of KIND CRC inverts the trailer of every K-th frame sent on its lane's port (R586). -/
def Block.tstCrcHits (b : Block) (p : Nat) : Bool :=
  bitAt (b.get F.TST_STAT_MASK) 2 && b.get F.TST_LANE_KIND == 2 && b.get F.TST_LANE_LANE / 2 == p

/-- A frame leaves on a port for the first time: it takes the next LSEQ, counts against credit and enters the replay
buffer (R452, R453). (DEDUCED, log entry 8.) -/
def Block.launch (b : Block) (p : Nat) (o : Option Nat) (f : Frame) : Block :=
  let x := b.port p
  let y := { x with
    lseqOut := (x.lseqOut + 1) % 4096
    replay := x.replay ++ [(x.lseqOut, f)]
    sentFlits := insertKey x.sentFlits f.cls ((lookupD x.sentFlits f.cls 0 + f.flits) % 2 ^ 16)
    progressTick := if x.replay.isEmpty then b.tick else x.progressTick }
  let b1 := (b.setPort p y).free1 o f
  if b.tstCrcHits p then
    let n := b.tst.frames + 1
    let bad := n % (max 1 (b.get F.TST_LANE_K)) == 0
    let b2 := { b1 with tst := { b1.tst with frames := n } }
    (if bad then b2.bump F.TST_INJ_CNT else b2).emit (.frame p x.lseqOut f bad)
  else b1.emit (.frame p x.lseqOut f false)

/-- The first waiting frame of a class, and the frames without it. -/
def takeClass (k : Nat) : List (Option Nat × Frame) → Option ((Option Nat × Frame) × List (Option Nat × Frame))
  | [] => none
  | w :: l =>
    if w.2.cls = k then some (w, l)
    else (takeClass k l).map fun r => (r.1, w :: r.2)

/-- Waiting frames of one class leave in order while credit lasts (R453, R461); `n` bounds how many. -/
def pumpClass (b : Block) (p k : Nat) : Nat → Block
  | 0 => b
  | n + 1 =>
    match takeClass k (b.port p).waiting with
    | none => b
    | some (w, rest) =>
      if (b.port p).maySend w.2 then
        pumpClass ((b.setPort p { b.port p with waiting := rest }).launch p w.1 w.2) p k n
      else b

/-- A port that is ACTIVE sends what waits and has credit: class 2, class 0, then classes 1, 5 and 6 (R450). (DEDUCED, log entry 8.) -/
def Block.pump (b : Block) (p : Nat) : Block :=
  if b.portActive p then
    [2, 0, 1, 5, 6].foldl (fun c k => pumpClass c p k (c.port p).waiting.length) b
  else b

/-- A frame takes its place at a port and leaves as soon as credit allows (R461). -/
def Block.portSend (b : Block) (p : Nat) (o : Option Nat) (f : Frame) : Block :=
  (b.setPort p { b.port p with waiting := (b.port p).waiting ++ [(o, f)] }).pump p

/-- A LINK frame leaves on a port: no sequence, no credit (R448, R453). -/
def Block.linkSend (b : Block) (p cls : Nat) (m : Msg) : Block :=
  b.emit (.frame p 0
    ⟨cls, false, true, false, false, 0, b.get F.IDN_NODE_NODE_ID, m.len, 0, b.get F.FAB_STAT_BOOT, 1, .msg m⟩ false)

/-! ### Routing (R458-R461) -/

/-- A route never heard of. -/
def Route.unknown : Route := ⟨[], none, 255, 0, none, 0, 0, false, false⟩

/-- What Fox keeps of a destination. -/
def Block.route (b : Block) (d : Nat) : Route := lookupD b.fab.routes d Route.unknown

/-- What Fox keeps of a destination replaced, with the FAB_RT fields it shows; a pinned entry keeps its ports (R460,
R473). -/
def Block.setRoute (b : Block) (d : Nat) (r : Route) : Block :=
  let b1 := { b with fab := { b.fab with routes := insertKey b.fab.routes d r } }
  let b2 := (b1.put (F.FAB_RT_FWD_HOPS d) r.hops).put (F.FAB_RT_GEN d) r.rgen
  if b.flag (F.FAB_RT_FWD_PINNED d) then b2
  else
    (((b2.putB (F.FAB_RT_FWD_P_VALID d) r.primary.isSome).put (F.FAB_RT_FWD_PRIMARY d) (r.primary.getD 0)).putB
      (F.FAB_RT_FWD_A_VALID d) r.alt.isSome).put (F.FAB_RT_FWD_ALT d) (r.alt.getD 0)

/-- The alternate of a route: the port other than the primary that offers the fewest hops below 255 under an RGEN no older
than the primary's minus 2; ties to the lower port (R458). -/
def Route.alternate (r : Route) : Option Nat :=
  (r.offers.foldl (fun (best : Option (Nat × Nat)) o =>
    if some o.1 == r.primary || decide (255 ≤ o.2.1) || serialNewer 32 ((r.rgen + 2 ^ 32 - 2) % 2 ^ 32) o.2.2 then best
    else
      match best with
      | some x => if o.2.1 < x.2 then some (o.1, o.2.1) else best
      | none => some (o.1, o.2.1)) none).map (·.1)

/-- The port and the ALT mark under the route Fox learned (R461). -/
def Block.learnedPort (b : Block) (d : Nat) (arrival : Option Nat) : Option (Nat × Bool) :=
  let r := b.route d
  let usable (o : Option Nat) : Bool := match o with
    | some p => b.portActive p && o != arrival
    | none => false
  if decide (r.hops < 255) && usable r.primary then r.primary.map (·, false)
  else if usable r.alt then r.alt.map (·, true)
  else none

/-- The port on which a frame for another node leaves, its ALT mark, and whether a pinned entry had neither port (R460,
R461). -/
def Block.choosePort (b : Block) (d : Nat) (arrival : Option Nat) : Option (Nat × Bool) × Bool :=
  if b.flag (F.FAB_RT_FWD_PINNED d) then
    let p := b.get (F.FAB_RT_FWD_PRIMARY d)
    let a := b.get (F.FAB_RT_FWD_ALT d)
    let pUp := b.flag (F.FAB_RT_FWD_P_VALID d) && b.portActive p
    let aUp := b.flag (F.FAB_RT_FWD_A_VALID d) && b.portActive a
    if pUp && some p != arrival then (some (p, false), false)
    else if aUp && some a != arrival then (some (a, true), false)
    else if pUp || aUp then (none, false)
    else (b.learnedPort d arrival, true)
  else (b.learnedPort d arrival, false)

/-- A unicast frame for another node goes on, or is dropped and counted where no usable port exists (R451, R460, R461). (DEDUCED, log entry 52.) -/
def Block.forward (b : Block) (arrival : Option Nat) (f : Frame) : Block :=
  let c := b.choosePort f.dst arrival
  let b1 := if c.2 then b.bump cNoRoute else b
  match c.1 with
  | some (p, alt) => b1.portSend p arrival { f with alt := f.alt || alt }
  | none => (if c.2 then b1 else b1.bump cNoRoute).free1 arrival f

/-- This module holds the node ID (R27, R445). -/
def Block.isSelf (b : Block) (n : Nat) : Bool := b.flag F.IDN_NODE_NODE_VALID && b.get F.IDN_NODE_NODE_ID == n

/-! ### Trees (R465, R466) -/

/-- A tree of the module: 0 P, 1 S, 2 TRIG. -/
def Block.tree (b : Block) (x : Nat) : TreeSt := lookupD b.fab.trees x ⟨[], [], none⟩

/-- A tree replaced. -/
def Block.setTree (b : Block) (x : Nat) (t : TreeSt) : Block :=
  { b with fab := { b.fab with trees := insertKey b.fab.trees x t } }

/-- The tree's parent port, if one is selected. -/
def Block.parentPort (b : Block) (x : Nat) : Option Nat :=
  if b.flag (F.FAB_TREE_STAT_PARENT_VALID x) then some (b.get (F.FAB_TREE_STAT_PARENT_PORT x)) else none

/-- The child ports of a tree (R466). -/
def Block.childPorts (b : Block) (x : Nat) : List Nat :=
  allPorts.filter fun p => bitAt (b.get (F.FAB_TREE_STAT_CHILDREN x)) p

/-- The ports of a tree: the parent port and the child ports (R464). -/
def Block.treePorts (b : Block) (x : Nat) : List Nat :=
  allPorts.filter fun p => b.parentPort x == some p || (b.childPorts x).contains p

/-- The child ports as the last two epochs' TREE messages give them (R466). -/
def Block.refreshChildren (b : Block) (x : Nat) : Block :=
  b.put (F.FAB_TREE_STAT_CHILDREN x)
    ((allPorts.map fun p =>
      match lookup (b.tree x).nbr p with
      | some (m, e) => if m.parentIsYou && decide (b.epochs ≤ e + 2) && b.portActive p then 2 ^ p else 0
      | none => 0).sum)

/-- A multicast frame goes on over the trigger tree, except to its arrival port (R464). (DEDUCED, log entry 52.) -/
def Block.castTree (b : Block) (arrival : Option Nat) (f : Frame) : Block :=
  ((b.treePorts 2).filter fun p => some p != arrival).foldl (fun c p => c.portSend p none f) b

/-! ### Flows into this module (R462, R463) -/

/-- A frame delivered to this module's blocks. -/
def Block.deliver (b : Block) (f : Frame) : Block := { b with fab := { b.fab with delivered := b.fab.delivered ++ [(none, f)] } }

/-- A flow's state, if the destination keeps one. -/
def Block.flow (b : Block) (k : FlowKey) : Option Flow := (b.fab.flows.find? fun e => e.1 == k).map (·.2)

/-- Flows with one replaced, the one used last in front; of multicast flows at most 4 096 are kept, the one used longest
ago evicted (R463). -/
def putFlow (l : List (FlowKey × Flow)) (k : FlowKey) (v : Flow) : List (FlowKey × Flow) :=
  let rest := l.filter fun e => e.1 != k
  let mc := rest.filter fun e => e.1.mcast
  if k.mcast && decide (4096 ≤ mc.length) then
    match mc.getLast? with
    | some old => (k, v) :: rest.filter fun e => e.1 != old.1
    | none => (k, v) :: rest
  else (k, v) :: rest

/-- A flow's state replaced. -/
def Block.setFlow (b : Block) (k : FlowKey) (v : Flow) : Block :=
  { b with fab := { b.fab with flows := putFlow b.fab.flows k v } }

/-- Held frames in SEQ order behind EXPECTED that now follow are delivered (R462); `n` bounds how many. -/
def drainHeld (b : Block) (v : Flow) : Nat → Block × Flow
  | 0 => (b, v)
  | n + 1 =>
    match v.held.find? fun h => h.seq == v.expected with
    | some h =>
      drainHeld (b.deliver h.frame)
        { v with expected := (v.expected + 1) % 2 ^ 16, held := v.held.filter fun g => g.seq != h.seq } n
    | none => (b, v)

/-- All frames held in reorder buffers: 2 048 at most (R462). -/
def Block.heldFrames (b : Block) : Nat := (b.fab.flows.map fun e => e.2.held.length).sum

/-- A frame of a flow that stands: by x = SEQ − EXPECTED it is delivered, held, skipped to, or dropped as a repeat (R462). Held frames
that a skip leaves behind are repeats of the range skipped. -/
def Block.flowFrame (b : Block) (k : FlowKey) (v : Flow) (f : Frame) : Block :=
  let x := (f.seq + 2 ^ 16 - v.expected % 2 ^ 16) % 2 ^ 16
  if x = 0 then
    let r := drainHeld (b.deliver f) { v with expected := (v.expected + 1) % 2 ^ 16 } v.held.length
    r.1.setFlow k r.2
  else if x < 256 then
    if v.held.any fun h => h.seq == f.seq then b.bump cDup
    else if decide (2048 ≤ b.heldFrames) then b.bump cReorderFull
    else b.setFlow k { v with held := v.held ++ [⟨f.seq, b.tick, f⟩] }
  else if 32768 ≤ x then b.bump cDup
  else
    (((b.deliver f).bump cSkip).bumpBy cDup v.held.length).setFlow k { v with expected := (f.seq + 1) % 2 ^ 16, held := [] }

/-- A frame for this module enters its flow: BOOT first (R463), then SEQ (R462). -/
def Block.receive (b : Block) (f : Frame) : Block :=
  let k : FlowKey := ⟨f.src, f.dst, f.mcast, f.cls⟩
  match b.flow k with
  | none => b.flowFrame k ⟨f.seq, f.boot, none, [], b.tick⟩ f
  | some v =>
    if f.boot = v.boot then b.flowFrame k { v with used := b.tick } f
    else if v.prevBoot = some f.boot then b.bump cDup
    else (b.bump cFlowReset).flowFrame k ⟨f.seq, f.boot, some v.boot, [], b.tick⟩ f

/-! ### Messages that Bamien takes over -/

/-- The next SEQ of a flow out of this module, and the flow raised by one (R462). -/
def Block.nextSeq (b : Block) (k : FlowKey) : Nat × Block :=
  let n := ((b.fab.outSeq.find? fun e => e.1 == k).map (·.2)).getD 0
  (n, { b with fab := { b.fab with outSeq := (k, (n + 1) % 2 ^ 16) :: b.fab.outSeq.filter fun e => e.1 != k } })

/-- The frame of a message that this module originates (R448, R451). -/
def Block.frameOf (b : Block) (cls : Nat) (mcast : Bool) (dst seq : Nat) (m : Msg) (poison : Bool) : Frame :=
  ⟨cls, mcast, false, poison, false, dst, b.get F.IDN_NODE_NODE_ID, m.len, seq, b.get F.FAB_STAT_BOOT,
    b.get F.FAB_CTRL_HOP_MAX, .msg m⟩

/-- Bamien takes one message over and sends it (R448, R451, R461, R464, R466); class 1 and 2 frames do not leave a
quarantined module (R447). -/
def Block.originate (b : Block) (q : Posted) : Block :=
  if (q.cls == 1 || q.cls == 2) && b.flag F.FAB_STAT_QUAR then b
  else
    match q.dest with
    | .core _ => b
    | .link p => if b.portActive p || b.stage p == stExchange then b.linkSend p q.cls q.msg else b
    | .node n =>
      let s := b.nextSeq ⟨b.get F.IDN_NODE_NODE_ID, n, false, q.cls⟩
      let f := b.frameOf q.cls false n s.1 q.msg q.poison
      if b.isSelf n then s.2.receive f else s.2.forward none f
    | .hop p =>
      let d := b.get (F.FAB_PORT_NBR_NODE p)
      let s := b.nextSeq ⟨b.get F.IDN_NODE_NODE_ID, d, false, q.cls⟩
      if b.portActive p then s.2.portSend p none (b.frameOf q.cls false d s.1 q.msg q.poison) else b.bump cNoRoute
    | .group g =>
      let s := b.nextSeq ⟨b.get F.IDN_NODE_NODE_ID, g, true, q.cls⟩
      if (b.treePorts 2).isEmpty then b.bump cNoRoute
      else s.2.castTree none (b.frameOf q.cls true g s.1 q.msg q.poison)

/-- Bamien takes over the oldest message handed to it, and the blocks take the oldest frame delivered. (DESIGN CHOICE, log entry 3.) -/
def drainOne (b : Block) : Block :=
  let b1 := { b with fab := { b.fab with delivered := b.fab.delivered.tail } }
  match b1.posted with
  | [] => b1
  | q :: l => ({ b1 with posted := l }).originate q

/-- A port that is no longer ACTIVE offers no route: alternates are chosen again without it (R458). -/
def Block.dropOffers (b : Block) (p : Nat) : Block :=
  b.fab.routes.foldl (fun c e =>
    if (lookup e.2.offers p).isSome then
      let r := { e.2 with offers := eraseKey e.2.offers p }
      c.setRoute e.1 { r with alt := r.alternate }
    else c) b

/-- A port leaves ACTIVE: its LINK frames and its receive state go, it offers no route, its unacknowledged frames return to forwarding with ALT set, in LSEQ
order, and the frames that waited on it choose a port again (R456). -/
def Block.leaveActive (b : Block) (p : Nat) : Block :=
  let x := b.port p
  let y := { x with replay := [], waiting := [], lseqIn := 0, awaiting := false, acceptTick := none, capOk := false }
  let again (c : Block) (o : Option Nat) (f : Frame) : Block :=
    if f.mcast then (c.bump cNoRoute).free1 o f else (c.free1 o f).forward none f
  let b0 := b.dropOffers p
  let b00 := { b0 with
    posted := b0.posted.filter fun q => q.dest != Dest.link p
    fab := { b0.fab with delivered := b0.fab.delivered.filter fun d => d.1 != some p } }
  let b1 := x.replay.foldl (fun c r => again c none { r.2 with alt := true }) (b00.setPort p y)
  x.waiting.foldl (fun c w => again c w.1 w.2) b1

/-- A port becomes ACTIVE: credit counts from 0, the limit from the sizes announced in the neighbour's CAP (R453). -/
def Block.enterActive (b : Block) (p : Nat) : Block :=
  let bufs := match lookup b.fab.caps p with
    | some c => c.bufs
    | none => []
  let x := b.port p
  (b.setPort p { x with
    lseqOut := 0, lseqIn := 0, awaiting := false, sentFlits := [], freed := [], limitOut := [], acceptTick := none,
    limit := [0, 1, 2, 5, 6].map fun k => (k, bufs.getD k 0)
    progressTick := b.tick, lackTick := b.tick, stageTick := b.tick, losTick := none }).pump p

/-- A message flooded on every ACTIVE port but one (R454). -/
def Block.flood (b : Block) (arrival : Option Nat) (m : Msg) : Block :=
  (b.activePorts.filter fun p => some p != arrival).foldl (fun c p => c.post (.link p) 4 m) b

/-- The key of a flooded message was seen within the last 2 s (R454). -/
def Block.floodSeen (b : Block) (serial node id : Nat) : Bool :=
  b.fab.seen.any fun k => k.1 == serial && k.2.1 == node && k.2.2.1 == id && decide (b.tick < k.2.2.2 + 2 * sTicks)

/-- The key of a flooded message remembered; keys older than 2 s go. -/
def Block.remember (b : Block) (serial node id : Nat) : Block :=
  { b with fab := { b.fab with
      seen := (serial, node, id, b.tick) :: b.fab.seen.filter fun k => decide (b.tick < k.2.2.2 + 2 * sTicks) } }

/-- The module's serial number (R26). -/
def Block.serial (b : Block) : Nat := b.get64 F.IDN_SERIAL_LO F.IDN_SERIAL_HI

/-- The CAP that the module sends on a port (R454). -/
def Block.capOf (b : Block) (p : Nat) : CapMsg where
  port := p
  x2 := b.flag (F.FAB_PORT_X2 p)
  host := false
  nodeValid := b.flag F.IDN_NODE_NODE_VALID
  node := b.get F.IDN_NODE_NODE_ID
  serhash := b.get F.IDN_SERHASH
  cfgGen := b.get F.IDN_CFGGEN
  boot := b.get F.FAB_STAT_BOOT
  roles := b.fab.roles % 16 + 16 * b.get F.FAB_STAT_QUAR
  bufs := [64, 512, 128, 8, 32, 512, 64, 0]
  step := b.get F.IDN_STEP_MODULE_STEP

/-- The module sends its CAP on every ACTIVE port: every 64 epochs and on a change of content (R455). -/
def Block.sendCaps (b : Block) : Block :=
  b.activePorts.foldl (fun c p => c.post (.link p) 4 (.cap (c.capOf p))) b

end Sys2Proof.Machine
end

