-- ==== Sys2Proof/Machine/Bringup.lean ====
section
/-! DEFINITION. The bring-up of a port: the stages of R484, their timers and the operations its commands share. -/

namespace Sys2Proof.Machine

/-- A power domain is on (R520 STATE 0x2). -/
def Block.domainOn (b : Block) (d : Nat) : Bool := b.get (F.PWR_D_STAT_STATE d) == 2

/-- The lanes of a port (R483). -/
def lanesOf (p : Nat) : List Nat := [2 * p, 2 * p + 1]

/-- A port enters a stage. Leaving ACTIVE hands its frames back to forwarding (R456, R484); SILENT is a level source of
the event-record controller (R541 LNK_SILENT_p). -/
def Block.setStage (b : Block) (p st : Nat) : Block :=
  let was := b.portActive p
  let b1 := b.put (F.LNK_STAT_STAGE p) st
  let b2 := b1.setPort p { b1.port p with stageTick := b.tick, capOk := false }
  let b3 := if was && st != stActive then
      ((b2.leaveActive p).put (F.LNK_STAT_X2_NOW p) 0)
    else b2
  b3.setLevel (176 + p) (st == stSilent) (b.get (F.LNK_STAT_PARKED p) * 2 ^ 14)

/-- 100 ms times STRETCH, in ticks (R484). -/
def Block.retryTicks (b : Block) (p : Nat) : Nat := 100 * msTicks * b.get (F.LNK_STAT_STRETCH p)

/-- The wait before the j-th SILENT beacon: min(10 s, 100 ms × STRETCH × 2^j), in ticks (R485). -/
def Block.silentTicks (b : Block) (p j : Nat) : Nat := min (10 * sTicks) (b.retryTicks p * 2 ^ j)

/-- A beacon leaves: the TRAIN stream for 1 ms (R484); a host-mode port sends none (R489). The next retry instant
follows. -/
def Block.beacon (b : Block) (p : Nat) : Block :=
  let b1 := if b.fabricPort p then b.emit (.beacon p) else b
  b1.setPort p { b1.port p with
    sigSeen := false, lastBeacon := b.tick, beaconTick := b.tick + b.retryTicks p, losTick := none }

/-- A port enters DETECT and sends a beacon (R484). -/
def Block.toDetect (b : Block) (p : Nat) : Block := (b.setStage p stDetect).beacon p

/-- A port enters SILENT (R485): the first SILENT beacon follows the previous beacon after 100 ms × STRETCH × 2. (DEDUCED, log entry 55.) -/
def Block.toSilent (b : Block) (p : Nat) : Block :=
  let b1 := (b.setStage p stSilent).bump (F.LNK_SILENT_CNT p)
  let x := b1.port p
  b1.setPort p { x with silentJ := 1, beaconTick := x.lastBeacon + b1.silentTicks p 1 }

/-- ATTEMPTS after one more failed attempt; it saturates at 16 (R485). A host-mode port counts none (R489). -/
def Block.countAttempt (b : Block) (p : Nat) : Block :=
  if b.hostPort p then b else b.put (F.LNK_STAT_ATTEMPTS p) (min 16 (b.get (F.LNK_STAT_ATTEMPTS p) + 1))

/-- A failed attempt returns the port to DETECT, or to SILENT when ATTEMPTS is then 16 (R484). -/
def Block.failAttempt (b : Block) (p : Nat) : Block :=
  let b1 := b.countAttempt p
  if b1.get (F.LNK_STAT_ATTEMPTS p) = 16 then b1.toSilent p else b1.toDetect p

/-- A port starts again at DETECT with ATTEMPTS 0 and PARKED 0 (R484, R493). -/
def Block.restart (b : Block) (p : Nat) : Block :=
  ((b.put (F.LNK_STAT_ATTEMPTS p) 0).put (F.LNK_STAT_PARKED p) 0).toDetect p

/-- The lanes of a port no longer carry its traffic. -/
def Block.unjoin (b : Block) (p : Nat) : Block :=
  (lanesOf p).foldl (fun c l => c.put (F.LNK_L_STAT_JOINED l) 0) b

/-- A lane without signal: no lock (R486, R495). -/
def Block.darkLane (b : Block) (l : Nat) : Block :=
  (((b.put (F.LNK_L_STAT_SIGNAL l) 0).put (F.LNK_L_STAT_CDR_LOCK l) 0).put (F.LNK_L_STAT_BLOCK_LOCK l) 0).put
    (F.LNK_L_STAT_JOINED l) 0

/-- A port goes DOWN: the DOWN ordered set first while its domain is on (R481, R484). ARG bit 0 is HIBERNATE. -/
def Block.toDown (b : Block) (p arg : Nat) : Block :=
  let b1 := if b.stage p != stDown && b.domainOn (8 + p) then b.emit (.ordered p 5 arg) else b
  ((b1.setStage p stDown).unjoin p).setPort p { (b1.setStage p stDown).unjoin p |>.port p with
    losTick := none, lostLane := none }

/-- The module's state lets ports leave DOWN (R484). -/
def Phase.portsUp : Phase → Bool
  | .join => true
  | .live => true
  | .safeConfig => true
  | _ => false

/-- A port in DOWN starts once MODE is not OFF, its domain is on, ADMIN_DOWN is 0 and the module is in Join, Live or
Safe-Config (R484). -/
def Block.tryUp (b : Block) (p : Nat) : Block :=
  if b.stage p == stDown && b.get (F.FAB_PORT_MODE p) != 0 && b.domainOn (8 + p) && !b.flag (F.LNK_CTRL_ADMIN_DOWN p)
      && b.phase.portsUp then
    (b.put (F.LNK_STAT_ATTEMPTS p) 0).toDetect p
  else b

/-- All ports try to leave DOWN. -/
def Block.tryUpAll (b : Block) : Block := allPorts.foldl (fun c p => c.tryUp p) b

/-- A port enters TRAIN; the written equalisation comes into use (R484, R494). POST in use is 31 − PRE when PRE + POST is
above 31. -/
def Block.toTrain (b : Block) (p : Nat) : Block :=
  let pre := b.get (F.LNK_EQ_PRE p)
  let post := b.get (F.LNK_EQ_POST p)
  let b1 := (b.put (F.LNK_STAT_PARKED p) 0).setStage p stTrain
  b1.setPort p { b1.port p with
    sigSeen := true, losTick := none
    eqInUse := (b.get (F.LNK_EQ_CTLE p), b.get (F.LNK_EQ_AMP p), if 31 < pre + post then 31 - pre else post, pre) }

/-- A port enters EXCHANGE and sends its CAP (R455, R484). -/
def Block.toExchange (b : Block) (p : Nat) : Block :=
  let b1 := b.setStage p stExchange
  b1.post (.link p) 4 (.cap (b1.capOf p))

/-- The lanes of a port in block lock, bit i for lane 2p + i: the ARG of its READY (R481). Lane 2p + 1 of a port that rung 3 runs x1
stays out beside a locked lane 2p (R514). -/
def Block.lockedLanes (b : Block) (p : Nat) : Nat :=
  let first := b.get (F.LNK_L_STAT_BLOCK_LOCK (2 * p))
  if bitAt (b.get F.BDG_X1_NOW) p && first == 1 then 1 else first + 2 * b.get (F.LNK_L_STAT_BLOCK_LOCK (2 * p + 1))

/-- ARG of the READY that a port sends: its locked lanes, and whether it uses FEC (R481). -/
def Block.readyArg (b : Block) (p : Nat) : Nat := b.lockedLanes p + 4 * b.get (F.FAB_HOST_CFG_FEC p)

/-- A module in Join without a held ID starts to claim once its first port is ACTIVE (R445, R468). -/
def Block.startClaim (b : Block) : Block :=
  if b.phase == .join && !b.flag F.IDN_NODE_NODE_VALID && b.fab.claim.isNone && !b.flag F.FAB_STAT_ID_REFUSED
      && !b.activePorts.isEmpty then
    let start := if b.fab.imageNode = 0xFFFF then 0 else b.fab.imageNode
    let free (d : Nat) : Bool := decide ((b.route d).hops = 255) && !(b.fab.claims.any fun c => c.node == d && !c.held)
    let node := if b.fab.nodeMode = 0 then start
      else (((List.range 4096).map fun i => (start + i) % 4096).find? free).getD start
    { b.put F.FAB_STAT_CLAIMING 1 with fab := { b.fab with
        claim := some ⟨if b.fab.nodeMode = 0 then 0 else 1, node, 0, b.fab.floodId⟩
        floodId := (b.fab.floodId + 1) % 65536 } }
  else b

/-- EXCHANGE ends: the port is ACTIVE at its width, ATTEMPTS 0, UP_CNT + 1 (R484); credits start (R453). -/
def Block.toActive (b : Block) (p : Nat) (x2 : Bool) : Block :=
  let lead := if b.flag (F.LNK_L_STAT_BLOCK_LOCK (2 * p)) then 0 else 1
  let b1 := ((((b.put (F.LNK_STAT_ATTEMPTS p) 0).bump (F.LNK_UP_CNT p)).putB (F.LNK_STAT_X2_NOW p) x2).put
    (F.LNK_STAT_LEAD p) lead).put (F.LNK_STAT_TKO_HOLD p) 0
  let b2 := (b1.putB (F.LNK_L_STAT_JOINED (2 * p)) (x2 || lead == 0)).putB (F.LNK_L_STAT_JOINED (2 * p + 1)) (x2 || lead == 1)
  ((b2.setStage p stActive).enterActive p).startClaim

/-- SIGNAL has held 10 µs on a lane (R484): a port in DETECT or SILENT enters TRAIN. -/
def Block.signalOn (b : Block) (l : Nat) : Block :=
  let p := l / 2
  if b.domainOn (8 + p) then
    let b1 := b.put (F.LNK_L_STAT_SIGNAL l) 1
    let b2 := b1.setPort p { b1.port p with sigSeen := true }
    if (b.stage p == stDetect && (b.port p).losTick.isNone) || b.stage p == stSilent then b2.toTrain p else b2
  else b

/-- The other lane of a lane's port. -/
def otherLane (l : Nat) : Nat := l / 2 * 2 + (l + 1) % 2

/-- A joined lane of an ACTIVE port is gone: an x2 port enters EXCHANGE on its other lane, an x1 port goes back to
LOCK (R487). -/
def Block.dropLane (b : Block) (l : Nat) : Block :=
  let p := l / 2
  if b.flag (F.LNK_STAT_X2_NOW p) then
    let b1 := (b.put (F.LNK_L_STAT_JOINED l) 0).toExchange p
    b1.setPort p { b1.port p with lostLane := some (l, 0) }
  else (b.put (F.LNK_L_STAT_JOINED l) 0).setStage p stLock

end Sys2Proof.Machine
end

