-- ==== Sys2Proof/Machine/RegMap.lean ====
section
/-! DEFINITION. The register map: every register table of spec/ as rows of data, and the generic rules of R6, R7, R24 and R77
over them. -/

namespace Sys2Proof.Machine

/-- Access codes (R6). -/
inductive Acc where
  | ro | rw | wo | w1c | w1s | rc | rl
deriving DecidableEq, Repr

/-- Tiers (R9). -/
inductive Tier where
  | b | e | o
deriving DecidableEq, Repr

/-- Whether a register is the _LO or the _HI of a wide value (R74). -/
inductive Wide where
  | no | lo | hi
deriving DecidableEq, Repr

/-- A field of a register row: lowest bit, width, reset value, access code, tier. -/
structure RegBit where
  lo : Nat
  width : Nat
  reset : Nat
  acc : Acc
  tier : Tier
deriving DecidableEq, Repr

/-- A row: the address of the first register, the dimensions that repeat it (count, stride), its place in a wide value, its
fields. A row without fields is a listed reserved word (R24). -/
structure RegRow where
  base : Nat
  dims : List (Nat × Nat)
  wide : Wide
  bits : List RegBit
deriving DecidableEq, Repr

/-- Registers of chapter 01. -/
def rows01a : List RegRow := [
  ⟨0x0, [], .no, [⟨16, 16, 19533, .ro, .b⟩, ⟨0, 16, 4132, .ro, .b⟩]⟩,
  ⟨0x4, [], .no, [⟨8, 8, 32, .ro, .b⟩, ⟨4, 4, 0, .ro, .b⟩]⟩,
  ⟨0x8, [], .no, [⟨24, 8, 0, .ro, .b⟩, ⟨16, 8, 0, .ro, .b⟩, ⟨8, 8, 0, .ro, .b⟩, ⟨0, 8, 0, .ro, .b⟩]⟩,
  ⟨0x10, [], .lo, [⟨0, 32, 0, .rl, .b⟩]⟩,
  ⟨0x14, [], .hi, [⟨0, 32, 0, .ro, .b⟩]⟩,
  ⟨0x18, [], .no, [⟨0, 32, 0, .ro, .b⟩]⟩,
  ⟨0x20, [], .no, [⟨14, 2, 0, .ro, .b⟩, ⟨12, 1, 0, .ro, .b⟩, ⟨0, 12, 0, .ro, .b⟩]⟩,
  ⟨0x24, [], .no, [⟨0, 1, 0, .ro, .b⟩]⟩,
  ⟨0x28, [], .no, [⟨0, 32, 0, .ro, .b⟩]⟩,
  ⟨0x30, [], .no, [⟨16, 16, 24, .ro, .b⟩, ⟨8, 8, 8, .ro, .b⟩, ⟨4, 2, 0, .ro, .b⟩, ⟨0, 4, 0, .ro, .b⟩]⟩]

/-- Registers of chapter 02. -/
def rows02a : List RegRow := [
  ⟨0x10100, [], .no, [⟨31, 1, 0, .w1s, .b⟩, ⟨20, 4, 0, .rw, .b⟩, ⟨0, 20, 0, .rw, .b⟩]⟩,
  ⟨0x10104, [], .no, [⟨31, 1, 0, .ro, .b⟩, ⟨30, 1, 0, .ro, .b⟩, ⟨29, 1, 0, .ro, .b⟩, ⟨28, 1, 0, .ro, .b⟩, ⟨16, 12, 0, .ro, .b⟩, ⟨0, 16, 0, .ro, .b⟩]⟩]

/-- Registers of chapter 03. -/
def rows03a : List RegRow := [
  ⟨0x10000, [], .no, [⟨12, 4, 0, .ro, .b⟩, ⟨10, 2, 0, .ro, .b⟩, ⟨9, 1, 0, .ro, .b⟩, ⟨8, 1, 0, .ro, .b⟩, ⟨0, 4, 0, .ro, .b⟩]⟩,
  ⟨0x10004, [], .no, [⟨16, 16, 0, .ro, .b⟩, ⟨8, 8, 0, .ro, .b⟩, ⟨0, 8, 0, .ro, .b⟩]⟩,
  ⟨0x10008, [], .no, [⟨16, 16, 0, .ro, .b⟩, ⟨8, 8, 0, .ro, .b⟩, ⟨0, 8, 0, .ro, .b⟩]⟩,
  ⟨0x10010, [], .no, [⟨0, 32, 0, .wo, .b⟩]⟩,
  ⟨0x110000, [], .no, [⟨24, 8, 0, .ro, .b⟩, ⟨16, 8, 0, .ro, .b⟩, ⟨8, 8, 0, .ro, .b⟩, ⟨0, 8, 0, .ro, .b⟩]⟩,
  ⟨0x110004, [], .no, [⟨0, 32, 0, .ro, .b⟩]⟩,
  ⟨0x110008, [], .no, [⟨0, 32, 0, .ro, .b⟩]⟩,
  ⟨0x11000c, [], .no, [⟨8, 8, 0, .ro, .b⟩, ⟨0, 1, 0, .ro, .b⟩]⟩,
  ⟨0x110010, [], .no, [⟨0, 32, 0, .wo, .b⟩]⟩,
  ⟨0x110014, [], .no, [⟨0, 32, 0, .rc, .b⟩]⟩,
  ⟨0x110020, [], .no, [⟨0, 32, 0, .rw, .b⟩]⟩,
  ⟨0x110024, [], .no, [⟨31, 1, 0, .ro, .b⟩, ⟨30, 1, 0, .ro, .b⟩, ⟨29, 1, 0, .ro, .b⟩, ⟨26, 3, 0, .ro, .b⟩, ⟨0, 2, 0, .wo, .b⟩]⟩,
  ⟨0x110100, [(8, 4)], .no, [⟨0, 32, 0, .ro, .b⟩]⟩,
  ⟨0x110200, [(256, 4)], .no, [⟨0, 32, 0, .rw, .b⟩]⟩,
  ⟨0x110600, [(64, 4)], .no, [⟨0, 32, 0, .rw, .b⟩]⟩,
  ⟨0x110800, [(84, 4)], .no, [⟨0, 32, 0, .ro, .b⟩]⟩,
  ⟨0x111000, [(512, 4)], .no, [⟨0, 32, 0, .ro, .b⟩]⟩,
  ⟨0x112000, [(14336, 4)], .no, [⟨0, 32, 0, .rw, .o⟩]⟩]

/-- Registers of chapter 04. -/
def rows04a : List RegRow := [
  ⟨0x200100, [(4, 262144)], .no, [⟨0, 15, 0, .rw, .b⟩]⟩,
  ⟨0x200104, [(4, 262144)], .no, [⟨0, 15, 0, .ro, .b⟩]⟩,
  ⟨0x200108, [(4, 262144)], .no, [⟨0, 15, 0, .ro, .b⟩]⟩,
  ⟨0x210000, [(4, 262144), (240, 64)], .no, [⟨16, 16, 0, .ro, .b⟩, ⟨8, 2, 3, .rw, .b⟩, ⟨7, 1, 0, .rw, .b⟩, ⟨4, 3, 4, .rw, .b⟩, ⟨2, 2, 0, .rw, .b⟩, ⟨0, 2, 0, .rw, .b⟩]⟩,
  ⟨0x210004, [(4, 262144), (240, 64)], .no, [⟨16, 14, 0, .rw, .b⟩, ⟨12, 2, 1, .rw, .e⟩, ⟨8, 2, 0, .rw, .b⟩, ⟨4, 3, 7, .rw, .b⟩, ⟨0, 3, 0, .rw, .b⟩]⟩,
  ⟨0x210008, [(4, 262144), (240, 64)], .no, [⟨16, 11, 2047, .rw, .b⟩, ⟨0, 11, 2047, .rw, .b⟩]⟩,
  ⟨0x21000c, [(4, 262144), (240, 64)], .no, [⟨16, 12, 0, .rw, .b⟩, ⟨0, 6, 2, .rw, .b⟩]⟩,
  ⟨0x210010, [(4, 262144), (240, 64)], .no, [⟨0, 16, 0, .rw, .e⟩]⟩,
  ⟨0x210014, [(4, 262144), (240, 64)], .no, [⟨0, 14, 0, .rw, .e⟩]⟩,
  ⟨0x210018, [(4, 262144), (240, 64)], .no, [⟨20, 1, 0, .ro, .b⟩, ⟨19, 1, 0, .ro, .b⟩, ⟨18, 1, 0, .ro, .b⟩, ⟨17, 1, 0, .ro, .b⟩, ⟨16, 1, 0, .ro, .b⟩, ⟨0, 14, 0, .ro, .b⟩]⟩,
  ⟨0x21001c, [(4, 262144), (240, 64)], .no, [⟨0, 32, 0, .rc, .b⟩]⟩,
  ⟨0x210020, [(4, 262144), (240, 64)], .lo, [⟨0, 32, 0, .rl, .b⟩]⟩,
  ⟨0x210024, [(4, 262144), (240, 64)], .hi, [⟨0, 32, 0, .ro, .b⟩]⟩,
  ⟨0x210028, [(4, 262144), (240, 64)], .no, [⟨0, 32, 0, .rc, .b⟩]⟩,
  ⟨0x21002c, [(4, 262144), (240, 64)], .no, [⟨0, 32, 0, .ro, .b⟩]⟩,
  ⟨0x210030, [(4, 262144), (240, 64)], .lo, [⟨0, 32, 0, .rl, .b⟩]⟩,
  ⟨0x210034, [(4, 262144), (240, 64)], .hi, [⟨0, 32, 0, .ro, .b⟩]⟩,
  ⟨0x210038, [(4, 262144), (240, 64)], .no, [⟨0, 32, 0, .ro, .b⟩]⟩,
  ⟨0x21003c, [(4, 262144), (240, 64)], .no, []⟩,
  ⟨0x21003c, [(4, 262144), (240, 64)], .no, []⟩]

/-- Registers of chapter 05. -/
def rows05a : List RegRow := [
  ⟨0x200110, [(4, 262144)], .no, [⟨16, 16, 0, .ro, .b⟩, ⟨0, 16, 0, .ro, .b⟩]⟩,
  ⟨0x220000, [(4, 262144), (16, 256)], .no, [⟨16, 16, 0, .ro, .b⟩, ⟨14, 2, 0, .rw, .b⟩, ⟨12, 2, 0, .rw, .b⟩, ⟨9, 3, 5, .rw, .b⟩, ⟨6, 3, 0, .rw, .b⟩, ⟨3, 3, 0, .rw, .b⟩, ⟨2, 1, 0, .rw, .b⟩, ⟨0, 2, 0, .rw, .b⟩]⟩,
  ⟨0x220004, [(4, 262144), (16, 256)], .no, [⟨0, 16, 1024, .rw, .b⟩]⟩,
  ⟨0x220008, [(4, 262144), (16, 256)], .no, [⟨30, 2, 0, .rw, .b⟩, ⟨16, 5, 10, .rw, .b⟩, ⟨0, 13, 2500, .rw, .b⟩]⟩,
  ⟨0x22000c, [(4, 262144), (16, 256)], .no, [⟨0, 16, 256, .rw, .b⟩]⟩,
  ⟨0x220010, [(4, 262144), (16, 256)], .no, [⟨16, 12, 60, .rw, .b⟩, ⟨0, 9, 256, .ro, .b⟩]⟩,
  ⟨0x220014, [(4, 262144), (16, 256)], .no, [⟨16, 16, 2700, .rw, .b⟩, ⟨0, 16, 62836, .rw, .b⟩]⟩,
  ⟨0x220018, [(4, 262144), (16, 256)], .no, [⟨31, 1, 0, .rw, .b⟩, ⟨5, 1, 0, .w1c, .b⟩, ⟨4, 1, 0, .w1c, .b⟩, ⟨3, 1, 0, .w1c, .b⟩, ⟨2, 1, 0, .w1c, .b⟩, ⟨1, 1, 0, .w1c, .b⟩, ⟨0, 1, 0, .w1c, .b⟩]⟩,
  ⟨0x22001c, [(4, 262144), (16, 256)], .no, [⟨18, 1, 0, .ro, .b⟩, ⟨17, 1, 0, .ro, .b⟩, ⟨16, 1, 0, .ro, .b⟩, ⟨15, 1, 0, .ro, .b⟩, ⟨14, 1, 0, .ro, .b⟩, ⟨13, 1, 0, .ro, .b⟩, ⟨12, 1, 0, .ro, .b⟩, ⟨11, 1, 0, .ro, .b⟩, ⟨8, 3, 0, .ro, .b⟩]⟩,
  ⟨0x220020, [(4, 262144), (16, 256)], .no, [⟨31, 1, 0, .ro, .b⟩, ⟨28, 2, 0, .ro, .b⟩, ⟨20, 5, 25, .rw, .b⟩, ⟨0, 20, 0, .ro, .b⟩]⟩,
  ⟨0x220024, [(4, 262144), (16, 256)], .no, [⟨16, 16, 0, .ro, .b⟩, ⟨0, 16, 0, .ro, .b⟩]⟩,
  ⟨0x220028, [(4, 262144), (16, 256)], .no, [⟨0, 32, 0, .rc, .b⟩]⟩,
  ⟨0x22002c, [(4, 262144), (16, 256)], .no, [⟨0, 32, 0, .rc, .b⟩]⟩,
  ⟨0x220030, [(4, 262144), (16, 256)], .no, [⟨0, 32, 0, .rc, .b⟩]⟩,
  ⟨0x220034, [(4, 262144), (16, 256)], .no, [⟨0, 32, 0, .rc, .b⟩]⟩,
  ⟨0x220038, [(4, 262144), (16, 256)], .no, [⟨0, 32, 0, .ro, .b⟩]⟩,
  ⟨0x22003c, [(4, 262144), (16, 256)], .no, [⟨0, 32, 0, .ro, .b⟩]⟩,
  ⟨0x220040, [(4, 262144), (16, 256)], .no, [⟨0, 32, 0, .ro, .b⟩]⟩,
  ⟨0x220044, [(4, 262144), (16, 256)], .no, [⟨0, 32, 0, .ro, .b⟩]⟩,
  ⟨0x220048, [(4, 262144), (16, 256), (14, 4)], .no, []⟩,
  ⟨0x220048, [(4, 262144), (16, 256), (14, 4)], .no, []⟩]

/-- Registers of chapter 06. -/
def rows06a : List RegRow := [
  ⟨0x220080, [(4, 262144), (16, 256)], .no, [⟨8, 1, 0, .rw, .b⟩, ⟨6, 2, 0, .rw, .b⟩, ⟨4, 2, 0, .rw, .b⟩, ⟨0, 4, 9, .rw, .b⟩]⟩,
  ⟨0x220084, [(4, 262144), (16, 256)], .no, [⟨10, 2, 0, .ro, .b⟩, ⟨8, 2, 0, .ro, .b⟩, ⟨4, 4, 0, .ro, .b⟩, ⟨3, 1, 0, .ro, .b⟩, ⟨2, 1, 0, .ro, .b⟩, ⟨1, 1, 0, .ro, .b⟩, ⟨0, 1, 0, .ro, .b⟩]⟩,
  ⟨0x220088, [(4, 262144), (16, 256)], .no, [⟨0, 24, 0, .ro, .b⟩]⟩,
  ⟨0x22008c, [(4, 262144), (16, 256)], .no, [⟨0, 32, 0, .ro, .b⟩]⟩,
  ⟨0x220090, [(4, 262144), (16, 256), (6, 8)], .no, [⟨0, 24, 0, .rw, .e⟩]⟩,
  ⟨0x220094, [(4, 262144), (16, 256), (6, 8)], .no, [⟨0, 32, 1073741824, .rw, .e⟩]⟩,
  ⟨0x2200c0, [(4, 262144), (16, 256)], .no, [⟨0, 6, 0, .w1c, .b⟩]⟩,
  ⟨0x2200c4, [(4, 262144), (16, 256)], .no, [⟨0, 32, 0, .rc, .b⟩]⟩,
  ⟨0x2200c8, [(4, 262144), (16, 256)], .no, [⟨0, 32, 0, .ro, .b⟩]⟩,
  ⟨0x2200cc, [(4, 262144), (16, 256), (13, 4)], .no, []⟩,
  ⟨0x130000, [], .lo, [⟨0, 32, 0, .rl, .b⟩]⟩,
  ⟨0x130004, [], .hi, [⟨0, 32, 0, .ro, .b⟩]⟩,
  ⟨0x130010, [], .no, [⟨31, 1, 0, .wo, .b⟩, ⟨30, 1, 0, .wo, .b⟩, ⟨8, 2, 0, .wo, .b⟩, ⟨0, 6, 0, .wo, .b⟩]⟩,
  ⟨0x130014, [], .no, [⟨0, 16, 64, .rw, .b⟩]⟩,
  ⟨0x130018, [], .no, [⟨0, 24, 0, .rw, .b⟩]⟩,
  ⟨0x13001c, [], .no, [⟨31, 1, 0, .ro, .b⟩, ⟨27, 4, 0, .ro, .b⟩, ⟨24, 3, 0, .ro, .b⟩, ⟨22, 2, 0, .ro, .b⟩, ⟨16, 6, 0, .ro, .b⟩, ⟨0, 16, 0, .ro, .b⟩]⟩,
  ⟨0x130020, [], .no, [⟨0, 24, 0, .ro, .b⟩]⟩,
  ⟨0x130024, [], .no, [⟨0, 32, 0, .rc, .b⟩]⟩,
  ⟨0x130028, [], .no, [⟨0, 32, 0, .ro, .b⟩]⟩,
  ⟨0x130030, [], .no, [⟨31, 1, 0, .wo, .b⟩, ⟨0, 6, 0, .wo, .b⟩]⟩,
  ⟨0x130034, [], .no, [⟨0, 8, 0, .ro, .b⟩]⟩,
  ⟨0x130038, [], .no, [⟨0, 32, 0, .rc, .b⟩]⟩,
  ⟨0x13003c, [], .no, [⟨0, 32, 0, .ro, .b⟩]⟩,
  ⟨0x130100, [(8, 16)], .no, [⟨0, 32, 0, .ro, .b⟩]⟩,
  ⟨0x130104, [(8, 16)], .no, [⟨0, 32, 0, .ro, .b⟩]⟩,
  ⟨0x130108, [(8, 16)], .no, [⟨0, 32, 0, .ro, .b⟩]⟩,
  ⟨0x13010c, [(8, 16)], .no, [⟨31, 1, 0, .w1c, .b⟩, ⟨30, 1, 0, .ro, .b⟩, ⟨29, 1, 0, .ro, .b⟩, ⟨0, 6, 0, .ro, .b⟩]⟩,
  ⟨0x130400, [(64, 8)], .lo, [⟨0, 32, 0, .rl, .b⟩]⟩,
  ⟨0x130404, [(64, 8)], .hi, [⟨0, 32, 0, .ro, .b⟩]⟩,
  ⟨0x2200cc, [(4, 262144), (16, 256), (13, 4)], .no, []⟩]

/-- Registers of chapter 07. -/
def rows07a : List RegRow := [
  ⟨0x50000, [], .no, [⟨31, 1, 0, .ro, .b⟩, ⟨30, 1, 0, .ro, .b⟩, ⟨29, 1, 0, .ro, .b⟩, ⟨28, 1, 0, .ro, .b⟩, ⟨27, 1, 0, .ro, .b⟩, ⟨26, 1, 0, .ro, .b⟩, ⟨25, 1, 0, .ro, .b⟩, ⟨24, 1, 0, .ro, .b⟩, ⟨20, 3, 0, .ro, .b⟩, ⟨0, 16, 0, .ro, .b⟩]⟩,
  ⟨0x50004, [], .no, [⟨30, 2, 2, .rw, .b⟩, ⟨28, 2, 0, .rw, .b⟩, ⟨0, 16, 64, .rw, .b⟩]⟩,
  ⟨0x50008, [], .no, [⟨0, 20, 10000, .rw, .b⟩]⟩,
  ⟨0x50010, [], .lo, [⟨0, 32, 0, .rl, .b⟩]⟩,
  ⟨0x50014, [], .hi, [⟨22, 10, 0, .ro, .b⟩, ⟨21, 1, 0, .ro, .b⟩, ⟨18, 3, 0, .ro, .b⟩, ⟨0, 16, 0, .ro, .b⟩]⟩,
  ⟨0x50018, [], .no, [⟨0, 32, 0, .ro, .b⟩]⟩,
  ⟨0x50020, [], .lo, [⟨0, 32, 0, .rl, .b⟩]⟩,
  ⟨0x50024, [], .hi, [⟨0, 32, 0, .ro, .b⟩]⟩,
  ⟨0x50030, [], .no, [⟨16, 16, 0, .ro, .b⟩, ⟨0, 16, 0, .ro, .b⟩]⟩,
  ⟨0x50034, [], .no, [⟨0, 32, 0, .rc, .b⟩]⟩,
  ⟨0x50038, [], .no, [⟨0, 32, 0, .ro, .b⟩]⟩,
  ⟨0x50200, [(8, 4)], .no, [⟨0, 16, 0, .rw, .b⟩]⟩,
  ⟨0x50100, [(2, 128)], .lo, [⟨0, 32, 0, .rl, .b⟩]⟩,
  ⟨0x50104, [(2, 128)], .hi, [⟨22, 10, 0, .ro, .b⟩, ⟨18, 3, 0, .ro, .b⟩, ⟨0, 16, 0, .ro, .b⟩]⟩,
  ⟨0x50108, [(2, 128)], .lo, [⟨0, 32, 0, .rl, .b⟩]⟩,
  ⟨0x5010c, [(2, 128)], .hi, [⟨0, 8, 0, .ro, .b⟩]⟩,
  ⟨0x50110, [(2, 128)], .no, [⟨29, 3, 0, .ro, .b⟩, ⟨28, 1, 0, .ro, .b⟩, ⟨27, 1, 0, .ro, .b⟩, ⟨24, 3, 0, .ro, .b⟩, ⟨16, 5, 0, .ro, .b⟩, ⟨0, 8, 0, .ro, .b⟩]⟩,
  ⟨0x50114, [(2, 128)], .no, [⟨0, 32, 0, .ro, .b⟩]⟩,
  ⟨0x50118, [(2, 128)], .no, [⟨0, 32, 0, .ro, .b⟩]⟩,
  ⟨0x5011c, [(2, 128)], .no, [⟨0, 32, 4294967295, .ro, .b⟩]⟩,
  ⟨0x50120, [(2, 128)], .lo, [⟨0, 32, 0, .rw, .b⟩]⟩,
  ⟨0x50124, [(2, 128)], .hi, [⟨31, 1, 0, .w1s, .b⟩, ⟨0, 16, 0, .rw, .b⟩]⟩,
  ⟨0x50128, [(2, 128)], .no, [⟨0, 32, 0, .rc, .b⟩]⟩,
  ⟨0x5012c, [(2, 128)], .no, [⟨0, 32, 0, .rc, .b⟩]⟩,
  ⟨0x50130, [(2, 128)], .no, [⟨0, 32, 0, .rc, .b⟩]⟩,
  ⟨0x50134, [(2, 128)], .no, [⟨0, 32, 0, .rc, .b⟩]⟩,
  ⟨0x50138, [(2, 128), (4, 4)], .no, [⟨0, 32, 0, .ro, .b⟩]⟩,
  ⟨0x50148, [(2, 128)], .no, [⟨0, 16, 0, .rw, .e⟩]⟩,
  ⟨0x5014c, [(2, 128)], .no, [⟨16, 16, 1000, .rw, .e⟩, ⟨0, 16, 100, .rw, .e⟩]⟩,
  ⟨0x50150, [(2, 128)], .lo, [⟨0, 32, 0, .rw, .e⟩]⟩,
  ⟨0x50154, [(2, 128)], .hi, [⟨0, 8, 4, .rw, .e⟩]⟩,
  ⟨0x50300, [(4, 32)], .no, [⟨31, 1, 0, .rw, .b⟩, ⟨30, 1, 0, .ro, .b⟩, ⟨28, 2, 2, .rw, .b⟩, ⟨27, 1, 0, .rw, .b⟩, ⟨0, 24, 0, .rw, .b⟩]⟩,
  ⟨0x50304, [(4, 32)], .no, [⟨0, 32, 0, .rw, .b⟩]⟩,
  ⟨0x50308, [(4, 32)], .no, [⟨28, 4, 0, .rw, .b⟩, ⟨0, 16, 0, .rw, .b⟩]⟩,
  ⟨0x5030c, [(4, 32)], .no, [⟨0, 21, 1000, .rw, .b⟩]⟩,
  ⟨0x50310, [(4, 32)], .no, [⟨0, 32, 0, .rw, .b⟩]⟩,
  ⟨0x50314, [(4, 32)], .no, [⟨0, 32, 0, .ro, .b⟩]⟩,
  ⟨0x50318, [(4, 32)], .no, [⟨0, 32, 0, .rc, .b⟩]⟩,
  ⟨0x5031c, [(4, 32)], .no, [⟨0, 32, 0, .ro, .b⟩]⟩]

/-- Registers of chapter 08. -/
def rows08a : List RegRow := [
  ⟨0x60000, [], .no, [⟨0, 8, 25, .rw, .b⟩]⟩,
  ⟨0x60004, [], .no, [⟨24, 8, 0, .ro, .b⟩, ⟨4, 1, 0, .ro, .b⟩, ⟨0, 4, 0, .ro, .b⟩]⟩,
  ⟨0x60010, [], .no, [⟨31, 1, 0, .wo, .b⟩, ⟨30, 1, 0, .wo, .b⟩, ⟨28, 2, 0, .wo, .b⟩, ⟨26, 2, 0, .wo, .b⟩, ⟨0, 11, 0, .wo, .b⟩]⟩,
  ⟨0x60014, [], .no, [⟨16, 16, 600, .rw, .b⟩, ⟨0, 5, 20, .rw, .b⟩]⟩,
  ⟨0x60018, [], .no, [⟨31, 1, 0, .ro, .b⟩, ⟨28, 3, 0, .ro, .b⟩, ⟨16, 12, 0, .ro, .b⟩, ⟨0, 12, 0, .ro, .b⟩]⟩,
  ⟨0x6001c, [], .no, [⟨0, 11, 0, .rw, .b⟩]⟩,
  ⟨0x60020, [], .no, [⟨0, 32, 0, .rc, .b⟩]⟩,
  ⟨0x60024, [], .no, [⟨0, 32, 0, .ro, .b⟩]⟩,
  ⟨0x60100, [(8, 8)], .no, [⟨30, 2, 0, .rw, .b⟩, ⟨29, 1, 0, .rw, .b⟩, ⟨28, 1, 0, .rw, .b⟩, ⟨16, 6, 10, .rw, .b⟩, ⟨0, 12, 0, .rw, .b⟩]⟩,
  ⟨0x60104, [(8, 8)], .no, [⟨0, 1, 0, .ro, .b⟩]⟩,
  ⟨0x60200, [(8, 16)], .no, [⟨0, 32, 0, .rc, .b⟩]⟩,
  ⟨0x60204, [(8, 16)], .no, [⟨0, 32, 0, .rc, .b⟩]⟩,
  ⟨0x60208, [(8, 16)], .no, [⟨0, 32, 0, .rc, .b⟩]⟩,
  ⟨0x6020c, [(8, 16)], .no, [⟨0, 32, 0, .ro, .b⟩]⟩,
  ⟨0x61000, [(128, 4)], .no, [⟨16, 16, 0, .rw, .e⟩, ⟨0, 16, 0, .rw, .e⟩]⟩,
  ⟨0x61200, [], .no, [⟨31, 1, 0, .wo, .e⟩, ⟨30, 1, 0, .ro, .b⟩]⟩,
  ⟨0x61204, [], .no, [⟨16, 16, 0, .ro, .b⟩, ⟨0, 16, 0, .rw, .b⟩]⟩,
  ⟨0x61208, [], .no, [⟨16, 16, 16, .ro, .b⟩, ⟨0, 16, 16, .ro, .b⟩]⟩,
  ⟨0x200120, [(4, 262144)], .no, [⟨0, 32, 0, .rw, .b⟩]⟩,
  ⟨0x200124, [(4, 262144)], .no, [⟨0, 28, 0, .rw, .b⟩]⟩,
  ⟨0x200128, [(4, 262144)], .no, [⟨0, 15, 0, .rw, .b⟩]⟩,
  ⟨0x200130, [(4, 262144)], .no, [⟨0, 32, 0, .rc, .b⟩]⟩,
  ⟨0x200134, [(4, 262144)], .no, [⟨0, 32, 0, .rc, .b⟩]⟩,
  ⟨0x200138, [(4, 262144)], .no, [⟨0, 32, 0, .rc, .b⟩]⟩,
  ⟨0x20013c, [(4, 262144)], .no, [⟨0, 32, 0, .rc, .b⟩]⟩,
  ⟨0x200140, [(4, 262144), (4, 4)], .no, [⟨0, 32, 0, .ro, .b⟩]⟩]

/-- Registers of chapter 09. -/
def rows09a : List RegRow := [
  ⟨0x70000, [], .no, [⟨31, 1, 0, .rw, .b⟩, ⟨0, 1, 0, .ro, .b⟩]⟩,
  ⟨0x70004, [], .no, [⟨0, 19, 20000, .ro, .b⟩]⟩,
  ⟨0x70008, [], .no, [⟨16, 16, 0, .ro, .b⟩, ⟨15, 1, 0, .ro, .b⟩, ⟨14, 1, 0, .ro, .b⟩, ⟨13, 1, 0, .ro, .b⟩, ⟨0, 12, 0, .ro, .b⟩]⟩,
  ⟨0x70010, [], .lo, [⟨0, 32, 0, .rl, .b⟩]⟩,
  ⟨0x70014, [], .hi, [⟨0, 32, 0, .ro, .b⟩]⟩,
  ⟨0x70018, [], .no, [⟨0, 32, 0, .rc, .b⟩]⟩,
  ⟨0x7001c, [], .no, [⟨0, 32, 0, .rc, .b⟩]⟩,
  ⟨0x70020, [], .no, [⟨0, 32, 0, .rc, .b⟩]⟩,
  ⟨0x70024, [], .no, [⟨0, 32, 0, .rc, .b⟩]⟩,
  ⟨0x70028, [], .no, [⟨0, 32, 0, .rc, .b⟩]⟩,
  ⟨0x7002c, [], .no, [⟨0, 32, 0, .rc, .b⟩]⟩,
  ⟨0x70030, [], .no, [⟨0, 32, 0, .rc, .b⟩]⟩,
  ⟨0x70034, [], .no, [⟨0, 32, 0, .rc, .b⟩]⟩,
  ⟨0x70038, [], .no, [⟨0, 32, 0, .rc, .b⟩]⟩,
  ⟨0x70040, [], .no, [⟨0, 16, 2500, .rw, .e⟩]⟩,
  ⟨0x70044, [], .lo, [⟨0, 32, 0, .rl, .b⟩]⟩,
  ⟨0x70048, [], .hi, [⟨0, 16, 0, .ro, .b⟩]⟩,
  ⟨0x7004c, [], .no, [⟨16, 12, 0, .ro, .b⟩, ⟨0, 16, 0, .ro, .b⟩]⟩,
  ⟨0x70050, [], .no, [⟨0, 32, 0, .rc, .b⟩]⟩,
  ⟨0x70054, [], .no, [⟨0, 32, 0, .rc, .b⟩]⟩,
  ⟨0x70058, [], .no, [⟨0, 32, 0, .rc, .b⟩]⟩,
  ⟨0x7005c, [], .no, [⟨0, 32, 0, .rc, .b⟩]⟩,
  ⟨0x70060, [(13, 4)], .no, [⟨0, 32, 0, .ro, .b⟩]⟩,
  ⟨0x70098, [], .lo, [⟨0, 32, 0, .rl, .b⟩]⟩,
  ⟨0x7009c, [], .hi, [⟨0, 32, 0, .ro, .b⟩]⟩,
  ⟨0x70a00, [(64, 4)], .no, [⟨0, 12, 0, .ro, .b⟩]⟩,
  ⟨0x70b00, [], .no, [⟨0, 7, 0, .ro, .b⟩]⟩,
  ⟨0x70200, [(64, 32)], .no, [⟨31, 1, 0, .rw, .b⟩, ⟨30, 1, 0, .rw, .b⟩, ⟨16, 8, 0, .rw, .b⟩, ⟨8, 8, 1, .rw, .b⟩, ⟨0, 8, 0, .rw, .b⟩]⟩,
  ⟨0x70204, [(64, 32)], .no, [⟨0, 32, 0, .rw, .b⟩]⟩,
  ⟨0x70208, [(64, 32)], .no, [⟨24, 8, 0, .rw, .b⟩, ⟨0, 16, 1, .rw, .b⟩]⟩,
  ⟨0x7020c, [(64, 32)], .no, [⟨0, 24, 0, .rw, .b⟩]⟩,
  ⟨0x70210, [(64, 32)], .no, [⟨0, 24, 0, .rw, .b⟩]⟩,
  ⟨0x70214, [(64, 32)], .no, [⟨0, 32, 0, .ro, .b⟩]⟩,
  ⟨0x70218, [(64, 32), (2, 4)], .no, []⟩,
  ⟨0x71000, [(256, 64)], .no, [⟨31, 1, 0, .rw, .b⟩, ⟨28, 3, 0, .rw, .b⟩, ⟨27, 1, 0, .rw, .e⟩, ⟨16, 8, 1, .rw, .b⟩]⟩,
  ⟨0x71004, [(256, 64)], .no, [⟨0, 20, 25, .rw, .b⟩]⟩,
  ⟨0x71008, [(256, 64)], .no, [⟨0, 24, 0, .rw, .b⟩]⟩,
  ⟨0x7100c, [(256, 64)], .no, [⟨0, 24, 1000, .rw, .b⟩]⟩,
  ⟨0x71010, [(256, 64)], .no, [⟨0, 24, 4000, .rw, .b⟩]⟩,
  ⟨0x71014, [(256, 64)], .lo, [⟨0, 32, 0, .rw, .b⟩]⟩]

/-- Registers of chapter 09. -/
def rows09b : List RegRow := [
  ⟨0x71018, [(256, 64)], .hi, [⟨0, 28, 0, .rw, .b⟩]⟩,
  ⟨0x7101c, [(256, 64)], .no, [⟨31, 1, 0, .rw, .b⟩, ⟨25, 4, 4, .rw, .b⟩, ⟨20, 5, 0, .rw, .b⟩, ⟨16, 4, 6, .rw, .b⟩, ⟨0, 14, 524, .rw, .b⟩]⟩,
  ⟨0x71020, [(256, 64)], .no, [⟨0, 32, 0, .rc, .b⟩]⟩,
  ⟨0x71024, [(256, 64)], .no, [⟨0, 32, 0, .ro, .b⟩]⟩,
  ⟨0x71028, [(256, 64), (6, 4)], .no, []⟩,
  ⟨0x76000, [(1992, 16)], .no, [⟨31, 1, 0, .rw, .b⟩, ⟨28, 3, 0, .rw, .b⟩, ⟨26, 2, 0, .rw, .b⟩, ⟨25, 1, 0, .rw, .b⟩, ⟨16, 8, 0, .rw, .b⟩, ⟨8, 8, 0, .rw, .b⟩, ⟨7, 1, 0, .rw, .b⟩, ⟨6, 1, 0, .rw, .b⟩, ⟨0, 6, 2, .rw, .b⟩]⟩,
  ⟨0x76004, [(1992, 16)], .no, [⟨0, 32, 0, .rw, .b⟩]⟩,
  ⟨0x76008, [(1992, 16)], .no, [⟨0, 32, 0, .rw, .b⟩]⟩,
  ⟨0x7600c, [(1992, 16)], .no, [⟨16, 16, 0, .rw, .b⟩, ⟨0, 16, 0, .rw, .b⟩]⟩,
  ⟨0x70218, [(64, 32), (2, 4)], .no, []⟩,
  ⟨0x71028, [(256, 64), (6, 4)], .no, []⟩]

/-- Registers of chapter 10. -/
def rows10a : List RegRow := [
  ⟨0x80000, [], .no, [⟨31, 1, 0, .ro, .b⟩, ⟨0, 23, 0, .ro, .b⟩]⟩,
  ⟨0x80004, [], .no, [⟨0, 32, 0, .ro, .b⟩]⟩,
  ⟨0x80008, [], .no, [⟨0, 32, 0, .ro, .b⟩]⟩,
  ⟨0x8000c, [], .no, [⟨0, 32, 0, .ro, .b⟩]⟩,
  ⟨0x80010, [], .lo, [⟨0, 32, 0, .rl, .b⟩]⟩,
  ⟨0x80014, [], .hi, [⟨0, 16, 0, .ro, .b⟩]⟩,
  ⟨0x80020, [], .no, [⟨16, 8, 20, .rw, .e⟩, ⟨8, 8, 20, .rw, .e⟩, ⟨0, 8, 40, .rw, .e⟩]⟩,
  ⟨0x80030, [], .lo, [⟨0, 32, 0, .rl, .b⟩]⟩,
  ⟨0x80034, [], .hi, [⟨0, 32, 0, .ro, .b⟩]⟩,
  ⟨0x80038, [], .no, [⟨0, 32, 0, .rc, .b⟩]⟩,
  ⟨0x8003c, [], .no, [⟨0, 32, 0, .rc, .b⟩]⟩,
  ⟨0x80040, [], .no, [⟨0, 32, 0, .rc, .b⟩]⟩,
  ⟨0x80048, [], .lo, [⟨0, 32, 0, .rl, .b⟩]⟩,
  ⟨0x8004c, [], .hi, [⟨0, 32, 0, .ro, .b⟩]⟩,
  ⟨0x80050, [(3, 4)], .no, [⟨0, 32, 0, .ro, .b⟩]⟩,
  ⟨0x80400, [(80, 4)], .no, [⟨22, 1, 0, .ro, .b⟩, ⟨0, 22, 0, .ro, .b⟩]⟩]

/-- Registers of chapter 11. -/
def rows11a : List RegRow := [
  ⟨0x90000, [], .no, [⟨16, 12, 0, .ro, .b⟩, ⟨0, 16, 0, .ro, .b⟩]⟩,
  ⟨0x90004, [], .no, [⟨16, 8, 0, .ro, .b⟩, ⟨0, 16, 0, .ro, .b⟩]⟩,
  ⟨0x90008, [], .no, [⟨0, 16, 0, .ro, .b⟩]⟩,
  ⟨0x9000c, [], .no, [⟨0, 16, 0, .ro, .b⟩]⟩,
  ⟨0x90010, [], .no, [⟨0, 20, 65536, .rw, .b⟩]⟩,
  ⟨0x90014, [], .no, [⟨0, 10, 100, .rw, .b⟩]⟩,
  ⟨0x90018, [], .no, [⟨0, 16, 1000, .rw, .b⟩]⟩,
  ⟨0x9001c, [], .no, [⟨24, 8, 1, .rw, .b⟩, ⟨0, 16, 1024, .rw, .b⟩]⟩,
  ⟨0x90020, [], .no, [⟨0, 32, 16843009, .rw, .b⟩]⟩,
  ⟨0x90024, [], .no, [⟨0, 32, 16843009, .rw, .b⟩]⟩,
  ⟨0x90028, [], .no, [⟨0, 32, 0, .rw, .b⟩]⟩,
  ⟨0x9002c, [], .no, [⟨0, 32, 0, .rw, .b⟩]⟩,
  ⟨0x90030, [], .no, [⟨24, 8, 1, .rw, .b⟩, ⟨16, 8, 1, .rw, .b⟩, ⟨8, 8, 1, .rw, .b⟩, ⟨0, 8, 1, .rw, .b⟩]⟩,
  ⟨0x90040, [(8, 8)], .no, [⟨30, 2, 0, .rw, .b⟩, ⟨29, 1, 0, .rw, .b⟩, ⟨16, 13, 524, .rw, .b⟩, ⟨8, 8, 64, .rw, .b⟩, ⟨0, 8, 32, .rw, .b⟩]⟩,
  ⟨0x90044, [(8, 8)], .no, [⟨0, 14, 0, .rw, .b⟩]⟩,
  ⟨0x90080, [], .no, [⟨0, 32, 0, .rc, .b⟩]⟩,
  ⟨0x90084, [], .no, [⟨0, 32, 0, .rc, .b⟩]⟩,
  ⟨0x90088, [], .no, [⟨0, 32, 0, .rc, .b⟩]⟩,
  ⟨0x9008c, [], .no, [⟨0, 32, 0, .rc, .b⟩]⟩,
  ⟨0x90090, [], .no, [⟨0, 32, 0, .rc, .b⟩]⟩,
  ⟨0x90094, [], .no, [⟨0, 32, 0, .rc, .b⟩]⟩,
  ⟨0x90098, [], .no, [⟨0, 32, 0, .rc, .b⟩]⟩,
  ⟨0x9009c, [], .no, [⟨0, 32, 0, .rc, .b⟩]⟩,
  ⟨0x900a0, [], .no, [⟨0, 32, 0, .rc, .b⟩]⟩,
  ⟨0x900a4, [], .no, [⟨0, 32, 0, .rc, .b⟩]⟩,
  ⟨0x900a8, [], .no, [⟨0, 32, 0, .rc, .b⟩]⟩,
  ⟨0x900c0, [(11, 4)], .no, [⟨0, 32, 0, .ro, .b⟩]⟩,
  ⟨0x900f0, [], .lo, [⟨0, 32, 0, .rl, .b⟩]⟩,
  ⟨0x900f4, [], .hi, [⟨0, 32, 0, .ro, .b⟩]⟩,
  ⟨0x900f8, [], .lo, [⟨0, 32, 0, .rl, .b⟩]⟩,
  ⟨0x900fc, [], .hi, [⟨0, 32, 0, .ro, .b⟩]⟩]

/-- Registers of chapter 12. -/
def rows12a : List RegRow := [
  ⟨0xa0000, [], .no, [⟨12, 4, 0, .rw, .b⟩, ⟨8, 4, 6, .rw, .b⟩, ⟨0, 4, 0, .ro, .b⟩]⟩,
  ⟨0xa0004, [], .no, [⟨0, 2, 0, .rw, .e⟩]⟩,
  ⟨0xa0008, [], .no, [⟨16, 16, 0, .ro, .b⟩, ⟨0, 14, 8192, .rw, .e⟩]⟩,
  ⟨0xa000c, [], .no, [⟨0, 16, 0, .ro, .b⟩]⟩,
  ⟨0xa0040, [], .lo, [⟨0, 32, 0, .rl, .b⟩]⟩,
  ⟨0xa0044, [], .hi, [⟨0, 32, 0, .ro, .b⟩]⟩,
  ⟨0xa0048, [], .lo, [⟨0, 32, 0, .rl, .b⟩]⟩,
  ⟨0xa004c, [], .hi, [⟨0, 32, 0, .ro, .b⟩]⟩,
  ⟨0xa0050, [], .lo, [⟨0, 32, 0, .rl, .b⟩]⟩,
  ⟨0xa0054, [], .hi, [⟨0, 32, 0, .ro, .b⟩]⟩,
  ⟨0xa0058, [], .no, [⟨0, 32, 0, .rc, .b⟩]⟩,
  ⟨0xa005c, [], .no, [⟨0, 32, 0, .rc, .b⟩]⟩,
  ⟨0xa0060, [], .no, [⟨0, 32, 0, .rc, .b⟩]⟩,
  ⟨0xa0064, [], .no, [⟨0, 32, 0, .rc, .b⟩]⟩,
  ⟨0xa0068, [], .no, [⟨0, 32, 0, .rc, .b⟩]⟩,
  ⟨0xa006c, [], .no, [⟨0, 32, 0, .rc, .b⟩]⟩,
  ⟨0xa0080, [(3, 8)], .lo, [⟨0, 32, 0, .rl, .b⟩]⟩,
  ⟨0xa0084, [(3, 8)], .hi, [⟨0, 32, 0, .ro, .b⟩]⟩,
  ⟨0xa0098, [(6, 4)], .no, [⟨0, 32, 0, .ro, .b⟩]⟩,
  ⟨0xa0100, [], .lo, [⟨0, 32, 0, .rw, .b⟩]⟩,
  ⟨0xa0104, [], .hi, [⟨0, 8, 0, .rw, .b⟩]⟩,
  ⟨0xa0108, [], .lo, [⟨0, 32, 0, .rw, .b⟩]⟩,
  ⟨0xa010c, [], .hi, [⟨0, 8, 0, .rw, .b⟩]⟩,
  ⟨0xa0110, [], .no, [⟨0, 32, 0, .rw, .b⟩]⟩,
  ⟨0xa0114, [], .no, [⟨0, 32, 0, .rw, .b⟩]⟩,
  ⟨0xa0118, [], .no, [⟨0, 32, 134217728, .rw, .b⟩]⟩,
  ⟨0xa011c, [], .no, [⟨31, 1, 0, .wo, .b⟩]⟩,
  ⟨0xa0120, [], .no, [⟨31, 1, 0, .ro, .b⟩, ⟨28, 3, 0, .ro, .b⟩]⟩,
  ⟨0xa0124, [], .no, [⟨0, 32, 0, .ro, .b⟩]⟩,
  ⟨0xb0000, [(8, 8)], .no, [⟨0, 32, 0, .rc, .b⟩]⟩,
  ⟨0xb0004, [(8, 8)], .no, [⟨0, 32, 0, .ro, .b⟩]⟩,
  ⟨0xb0040, [], .no, [⟨0, 32, 0, .rc, .b⟩]⟩,
  ⟨0xb0044, [], .no, [⟨0, 32, 0, .ro, .b⟩]⟩,
  ⟨0xb0100, [(8, 64)], .no, [⟨31, 1, 0, .ro, .b⟩, ⟨29, 1, 0, .wo, .b⟩, ⟨28, 1, 0, .wo, .b⟩, ⟨15, 1, 0, .ro, .b⟩, ⟨0, 12, 0, .ro, .b⟩]⟩,
  ⟨0xb0104, [(8, 64)], .no, [⟨0, 3, 4, .rw, .b⟩]⟩,
  ⟨0xb0108, [(8, 64)], .no, [⟨0, 32, 4294967295, .rw, .b⟩]⟩,
  ⟨0xb010c, [(8, 64)], .no, [⟨0, 32, 0, .wo, .b⟩]⟩,
  ⟨0xb0110, [(8, 64)], .no, [⟨0, 32, 0, .ro, .b⟩]⟩,
  ⟨0xb0114, [(8, 64)], .lo, [⟨0, 32, 0, .rw, .b⟩]⟩,
  ⟨0xb0118, [(8, 64)], .hi, [⟨0, 8, 0, .rw, .b⟩]⟩]

/-- Registers of chapter 12. -/
def rows12b : List RegRow := [
  ⟨0xb011c, [(8, 64)], .no, [⟨0, 32, 0, .rw, .b⟩]⟩,
  ⟨0xb0120, [(8, 64)], .no, [⟨31, 1, 0, .wo, .b⟩, ⟨30, 1, 0, .wo, .b⟩]⟩,
  ⟨0xb0124, [(8, 64)], .no, [⟨31, 1, 0, .ro, .b⟩, ⟨30, 1, 0, .ro, .b⟩, ⟨28, 2, 0, .ro, .b⟩]⟩,
  ⟨0xb0128, [(8, 64)], .no, [⟨0, 32, 0, .ro, .b⟩]⟩,
  ⟨0xb012c, [(8, 64), (5, 4)], .no, []⟩,
  ⟨0xb012c, [(8, 64), (5, 4)], .no, []⟩]

/-- Registers of chapter 13. -/
def rows13a : List RegRow := [
  ⟨0xc0000, [], .no, [⟨8, 7, 64, .ro, .b⟩, ⟨0, 8, 1, .ro, .b⟩]⟩,
  ⟨0xc0004, [], .no, [⟨0, 32, 0, .rc, .b⟩]⟩,
  ⟨0xc0008, [], .no, [⟨0, 32, 0, .ro, .b⟩]⟩,
  ⟨0xc0100, [], .no, [⟨31, 1, 1, .rw, .b⟩, ⟨30, 1, 0, .rw, .b⟩, ⟨29, 1, 1, .ro, .b⟩, ⟨8, 6, 0, .rw, .b⟩, ⟨0, 7, 64, .rw, .b⟩]⟩,
  ⟨0xc0180, [(7, 128)], .no, [⟨31, 1, 0, .rw, .b⟩, ⟨30, 1, 0, .rw, .b⟩, ⟨29, 1, 0, .ro, .b⟩, ⟨8, 6, 0, .rw, .b⟩, ⟨0, 7, 0, .rw, .b⟩]⟩,
  ⟨0xc0104, [(8, 128)], .no, [⟨31, 1, 1, .rw, .b⟩, ⟨15, 1, 0, .rw, .b⟩, ⟨0, 12, 0, .rw, .b⟩]⟩,
  ⟨0xc0108, [(8, 128)], .no, [⟨0, 3, 0, .wo, .b⟩]⟩,
  ⟨0xc010c, [(8, 128)], .no, [⟨31, 1, 0, .ro, .b⟩, ⟨30, 1, 0, .ro, .b⟩, ⟨0, 8, 0, .ro, .b⟩]⟩,
  ⟨0xc0110, [(8, 128)], .lo, [⟨0, 32, 0, .rl, .b⟩]⟩,
  ⟨0xc0114, [(8, 128)], .hi, [⟨0, 32, 0, .ro, .b⟩]⟩,
  ⟨0xc0118, [(8, 128)], .lo, [⟨0, 32, 0, .rl, .b⟩]⟩,
  ⟨0xc011c, [(8, 128)], .hi, [⟨0, 32, 0, .ro, .b⟩]⟩,
  ⟨0xc0120, [(8, 128)], .lo, [⟨0, 32, 0, .rl, .b⟩]⟩,
  ⟨0xc0124, [(8, 128)], .hi, [⟨0, 32, 0, .ro, .b⟩]⟩,
  ⟨0xc0128, [(8, 128)], .lo, [⟨0, 32, 0, .rl, .b⟩]⟩,
  ⟨0xc012c, [(8, 128)], .hi, [⟨0, 32, 0, .ro, .b⟩]⟩,
  ⟨0xc0130, [(8, 128)], .lo, [⟨0, 32, 0, .rl, .b⟩]⟩,
  ⟨0xc0134, [(8, 128)], .hi, [⟨0, 32, 0, .ro, .b⟩]⟩,
  ⟨0xc0138, [(8, 128)], .no, [⟨0, 27, 0, .ro, .b⟩]⟩,
  ⟨0xc0140, [(8, 128)], .lo, [⟨0, 32, 0, .rl, .b⟩]⟩,
  ⟨0xc0144, [(8, 128)], .hi, [⟨0, 32, 0, .ro, .b⟩]⟩,
  ⟨0xc0148, [(8, 128)], .no, [⟨0, 32, 0, .rc, .b⟩]⟩,
  ⟨0xc014c, [(8, 128)], .no, [⟨0, 32, 0, .rc, .b⟩]⟩,
  ⟨0xc0150, [(8, 128)], .no, [⟨0, 32, 0, .rc, .b⟩]⟩,
  ⟨0xc0154, [(8, 128)], .no, [⟨0, 32, 0, .rc, .b⟩]⟩,
  ⟨0xc0158, [(8, 128)], .lo, [⟨0, 32, 0, .rl, .b⟩]⟩,
  ⟨0xc015c, [(8, 128)], .hi, [⟨0, 32, 0, .ro, .b⟩]⟩,
  ⟨0xc0160, [(8, 128), (4, 4)], .no, [⟨0, 32, 0, .ro, .b⟩]⟩,
  ⟨0xc0170, [(8, 128), (4, 4)], .no, []⟩,
  ⟨0xc0170, [(8, 128), (4, 4)], .no, []⟩]

/-- Registers of chapter 14. -/
def rows14a : List RegRow := [
  ⟨0x230000, [(4, 262144)], .no, [⟨8, 1, 0, .ro, .b⟩, ⟨0, 8, 0, .ro, .b⟩]⟩,
  ⟨0x230004, [(4, 262144)], .no, [⟨0, 32, 0, .rc, .b⟩]⟩,
  ⟨0x230008, [(4, 262144)], .no, [⟨0, 32, 0, .ro, .b⟩]⟩,
  ⟨0x230800, [(4, 262144), (4, 256), (64, 4)], .no, [⟨0, 32, 0, .ro, .b⟩]⟩,
  ⟨0x231000, [(4, 262144), (4, 4096), (2, 2048), (64, 8)], .lo, [⟨0, 32, 0, .rw, .e⟩]⟩,
  ⟨0x231004, [(4, 262144), (4, 4096), (2, 2048), (64, 8)], .hi, [⟨0, 32, 0, .rw, .e⟩]⟩,
  ⟨0x231400, [(4, 262144), (4, 4096), (2, 2048), (256, 4)], .no, [⟨0, 32, 0, .rw, .e⟩]⟩,
  ⟨0x230100, [(4, 262144), (4, 128)], .no, [⟨8, 1, 0, .wo, .b⟩, ⟨0, 4, 0, .wo, .b⟩]⟩,
  ⟨0x230104, [(4, 262144), (4, 128)], .no, [⟨24, 8, 4, .rw, .b⟩, ⟨17, 1, 0, .ro, .b⟩, ⟨16, 1, 0, .ro, .b⟩, ⟨0, 4, 0, .rw, .b⟩]⟩,
  ⟨0x230108, [(4, 262144), (4, 128), (2, 4)], .no, [⟨31, 1, 0, .ro, .b⟩, ⟨7, 1, 0, .rw, .e⟩, ⟨0, 7, 0, .rw, .e⟩]⟩,
  ⟨0x230110, [(4, 262144), (4, 128)], .no, [⟨28, 4, 0, .ro, .b⟩, ⟨24, 4, 0, .ro, .b⟩, ⟨16, 8, 0, .ro, .b⟩, ⟨5, 1, 0, .ro, .b⟩, ⟨4, 1, 0, .ro, .b⟩, ⟨3, 1, 0, .ro, .b⟩, ⟨2, 1, 0, .ro, .b⟩, ⟨0, 2, 0, .ro, .b⟩]⟩,
  ⟨0x230114, [(4, 262144), (4, 128)], .no, [⟨0, 20, 0, .rw, .b⟩]⟩,
  ⟨0x230118, [(4, 262144), (4, 128)], .no, [⟨31, 1, 0, .rw, .b⟩, ⟨24, 6, 0, .rw, .b⟩, ⟨0, 16, 100, .rw, .b⟩]⟩,
  ⟨0x23011c, [(4, 262144), (4, 128)], .no, [⟨0, 23, 4194304, .rw, .b⟩]⟩,
  ⟨0x230120, [(4, 262144), (4, 128)], .no, [⟨0, 23, 83886, .rw, .b⟩]⟩,
  ⟨0x230124, [(4, 262144), (4, 128)], .no, [⟨0, 23, 8389, .rw, .b⟩]⟩,
  ⟨0x230128, [(4, 262144), (4, 128)], .no, [⟨30, 2, 0, .rw, .b⟩, ⟨29, 1, 0, .rw, .b⟩, ⟨0, 16, 1, .rw, .b⟩]⟩,
  ⟨0x23012c, [(4, 262144), (4, 128)], .no, [⟨0, 23, 0, .rw, .b⟩]⟩,
  ⟨0x230130, [(4, 262144), (4, 128)], .no, [⟨0, 32, 0, .rw, .b⟩]⟩,
  ⟨0x230134, [(4, 262144), (4, 128)], .no, [⟨0, 32, 0, .rw, .b⟩]⟩,
  ⟨0x230138, [(4, 262144), (4, 128)], .no, [⟨0, 32, 0, .rw, .b⟩]⟩,
  ⟨0x23013c, [(4, 262144), (4, 128)], .no, [⟨16, 8, 1, .rw, .b⟩, ⟨0, 16, 65535, .rw, .b⟩]⟩,
  ⟨0x230140, [(4, 262144), (4, 128)], .no, [⟨0, 32, 0, .ro, .b⟩]⟩,
  ⟨0x230144, [(4, 262144), (4, 128)], .no, [⟨0, 17, 0, .ro, .b⟩]⟩,
  ⟨0x230148, [(4, 262144), (4, 128)], .no, [⟨0, 20, 0, .ro, .b⟩]⟩,
  ⟨0x23014c, [(4, 262144), (4, 128)], .no, [⟨0, 16, 0, .ro, .b⟩]⟩,
  ⟨0x230150, [(4, 262144), (4, 128)], .lo, [⟨0, 32, 0, .rl, .b⟩]⟩,
  ⟨0x230154, [(4, 262144), (4, 128)], .hi, [⟨0, 32, 0, .ro, .b⟩]⟩,
  ⟨0x230158, [(4, 262144), (4, 128)], .no, [⟨0, 32, 0, .rc, .b⟩]⟩,
  ⟨0x23015c, [(4, 262144), (4, 128)], .no, [⟨0, 32, 0, .rc, .b⟩]⟩,
  ⟨0x230160, [(4, 262144), (4, 128)], .no, [⟨0, 32, 0, .rc, .b⟩]⟩,
  ⟨0x230164, [(4, 262144), (4, 128)], .no, [⟨0, 32, 0, .rc, .b⟩]⟩,
  ⟨0x230168, [(4, 262144), (4, 128), (4, 4)], .no, [⟨0, 32, 0, .ro, .b⟩]⟩,
  ⟨0x230178, [(4, 262144), (4, 128)], .lo, [⟨0, 32, 0, .rl, .b⟩]⟩,
  ⟨0x23017c, [(4, 262144), (4, 128)], .hi, [⟨0, 32, 0, .ro, .b⟩]⟩]

/-- Registers of chapter 15. -/
def rows15a : List RegRow := [
  ⟨0xd0000, [], .no, [⟨31, 1, 0, .ro, .b⟩, ⟨30, 1, 0, .ro, .b⟩, ⟨29, 1, 0, .ro, .b⟩, ⟨0, 16, 0, .ro, .b⟩]⟩,
  ⟨0xd0004, [], .no, [⟨31, 1, 0, .rw, .b⟩, ⟨16, 12, 0, .rw, .b⟩, ⟨8, 8, 64, .rw, .e⟩, ⟨0, 8, 64, .rw, .b⟩]⟩,
  ⟨0xd0008, [], .no, [⟨0, 16, 2000, .rw, .b⟩]⟩,
  ⟨0xd0010, [], .lo, [⟨0, 32, 0, .rw, .b⟩]⟩,
  ⟨0xd0014, [], .hi, [⟨0, 32, 0, .rw, .b⟩]⟩,
  ⟨0xd0018, [], .no, [⟨31, 1, 0, .wo, .b⟩, ⟨28, 3, 0, .ro, .b⟩, ⟨0, 12, 0, .rw, .b⟩]⟩,
  ⟨0xd0020, [(8, 8)], .no, [⟨30, 2, 1, .ro, .b⟩, ⟨29, 1, 1, .ro, .b⟩, ⟨28, 1, 0, .ro, .b⟩, ⟨27, 1, 0, .ro, .b⟩, ⟨26, 1, 0, .ro, .b⟩, ⟨25, 1, 0, .ro, .b⟩, ⟨24, 1, 0, .ro, .b⟩, ⟨0, 12, 0, .ro, .b⟩]⟩,
  ⟨0xd0024, [(8, 8)], .no, [⟨0, 32, 0, .ro, .b⟩]⟩,
  ⟨0xd0080, [(3, 16)], .no, [⟨0, 16, 65535, .rw, .b⟩]⟩,
  ⟨0xd0084, [(3, 16)], .no, [⟨31, 1, 0, .ro, .b⟩, ⟨24, 3, 0, .ro, .b⟩, ⟨16, 8, 0, .ro, .b⟩, ⟨0, 5, 31, .ro, .b⟩]⟩,
  ⟨0xd0088, [(3, 16)], .no, [⟨0, 32, 0, .rc, .b⟩]⟩,
  ⟨0xd008c, [(3, 16)], .no, [⟨0, 32, 0, .ro, .b⟩]⟩,
  ⟨0xd00c0, [(8, 4)], .no, [⟨0, 32, 0, .rw, .b⟩]⟩,
  ⟨0xd0100, [(11, 4)], .no, [⟨0, 32, 0, .rc, .b⟩]⟩,
  ⟨0xd0140, [(11, 4)], .no, [⟨0, 32, 0, .ro, .b⟩]⟩,
  ⟨0xd0200, [(8, 32)], .no, [⟨18, 1, 0, .ro, .b⟩, ⟨17, 1, 0, .ro, .b⟩, ⟨16, 1, 0, .ro, .b⟩, ⟨0, 16, 19526, .ro, .b⟩]⟩,
  ⟨0xd0204, [(8, 32)], .no, [⟨0, 32, 0, .ro, .b⟩]⟩,
  ⟨0xd0208, [(8, 32), (4, 4)], .no, [⟨0, 32, 0, .ro, .b⟩]⟩,
  ⟨0xd8000, [(4096, 8)], .no, [⟨18, 1, 0, .ro, .b⟩, ⟨17, 1, 0, .rw, .b⟩, ⟨16, 1, 0, .rw, .b⟩, ⟨8, 8, 255, .ro, .b⟩, ⟨7, 1, 0, .rw, .b⟩, ⟨4, 3, 0, .rw, .b⟩, ⟨0, 3, 0, .rw, .b⟩]⟩,
  ⟨0xd8004, [(4096, 8)], .no, [⟨0, 32, 0, .ro, .b⟩]⟩]

/-- Registers of chapter 16. -/
def rows16a : List RegRow := [
  ⟨0xe0000, [(8, 512)], .no, [⟨31, 1, 0, .wo, .b⟩, ⟨30, 1, 0, .wo, .b⟩, ⟨29, 1, 0, .rw, .b⟩, ⟨28, 1, 0, .wo, .b⟩, ⟨26, 2, 0, .rw, .e⟩]⟩,
  ⟨0xe0004, [(8, 512)], .no, [⟨28, 4, 0, .ro, .b⟩, ⟨23, 5, 0, .ro, .b⟩, ⟨18, 5, 1, .ro, .b⟩, ⟨17, 1, 0, .ro, .b⟩, ⟨16, 1, 0, .ro, .b⟩, ⟨15, 1, 0, .ro, .b⟩, ⟨14, 1, 0, .ro, .b⟩, ⟨13, 1, 0, .ro, .b⟩, ⟨0, 13, 0, .ro, .b⟩]⟩,
  ⟨0xe0008, [(8, 512)], .no, [⟨28, 4, 8, .rw, .e⟩, ⟨26, 2, 2, .rw, .e⟩, ⟨21, 5, 4, .rw, .e⟩, ⟨17, 4, 2, .rw, .e⟩, ⟨16, 1, 0, .ro, .b⟩]⟩,
  ⟨0xe0010, [(8, 512)], .no, [⟨0, 32, 0, .rc, .b⟩]⟩,
  ⟨0xe0014, [(8, 512)], .no, [⟨0, 32, 0, .rc, .b⟩]⟩,
  ⟨0xe0018, [(8, 512)], .no, [⟨0, 32, 0, .rc, .b⟩]⟩,
  ⟨0xe001c, [(8, 512)], .no, [⟨0, 32, 0, .rc, .b⟩]⟩,
  ⟨0xe0020, [(8, 512)], .no, [⟨0, 32, 0, .rc, .b⟩]⟩,
  ⟨0xe0024, [(8, 512)], .no, [⟨0, 32, 0, .rc, .b⟩]⟩,
  ⟨0xe0030, [(8, 512), (6, 4)], .no, [⟨0, 32, 0, .ro, .b⟩]⟩,
  ⟨0xe0100, [(8, 512), (2, 128)], .no, [⟨31, 1, 0, .ro, .b⟩, ⟨30, 1, 0, .ro, .b⟩, ⟨29, 1, 0, .ro, .b⟩, ⟨28, 1, 0, .ro, .b⟩, ⟨27, 1, 0, .ro, .b⟩, ⟨26, 1, 0, .ro, .b⟩, ⟨25, 1, 0, .ro, .b⟩, ⟨24, 1, 0, .ro, .b⟩, ⟨23, 1, 0, .ro, .b⟩]⟩,
  ⟨0xe0104, [(8, 512), (2, 128)], .no, [⟨0, 32, 0, .rc, .b⟩]⟩,
  ⟨0xe0108, [(8, 512), (2, 128)], .no, [⟨0, 32, 0, .rc, .b⟩]⟩,
  ⟨0xe010c, [(8, 512), (2, 128)], .no, [⟨0, 32, 0, .rc, .b⟩]⟩,
  ⟨0xe0110, [(8, 512), (2, 128)], .no, [⟨0, 32, 0, .rc, .b⟩]⟩,
  ⟨0xe0114, [(8, 512), (2, 128)], .lo, [⟨0, 32, 0, .rl, .b⟩]⟩,
  ⟨0xe0118, [(8, 512), (2, 128)], .hi, [⟨0, 32, 0, .ro, .b⟩]⟩,
  ⟨0xe011c, [(8, 512), (2, 128)], .lo, [⟨0, 32, 0, .rl, .b⟩]⟩,
  ⟨0xe0120, [(8, 512), (2, 128)], .hi, [⟨0, 32, 0, .ro, .b⟩]⟩,
  ⟨0xe0128, [(8, 512), (2, 128), (4, 4)], .no, [⟨0, 32, 0, .ro, .b⟩]⟩]

/-- Registers of chapter 17. -/
def rows17a : List RegRow := [
  ⟨0x20000, [], .no, [⟨29, 3, 3, .ro, .b⟩, ⟨26, 3, 3, .ro, .b⟩, ⟨25, 1, 0, .ro, .b⟩, ⟨0, 19, 0, .ro, .b⟩]⟩,
  ⟨0x20004, [], .no, [⟨28, 4, 0, .ro, .b⟩, ⟨0, 16, 0, .ro, .b⟩]⟩,
  ⟨0x20008, [], .no, [⟨0, 32, 1431655765, .rw, .b⟩]⟩,
  ⟨0x2000c, [], .no, [⟨0, 24, 0, .rw, .b⟩]⟩,
  ⟨0x20010, [], .no, [⟨31, 1, 0, .rw, .b⟩, ⟨0, 3, 3, .rw, .b⟩]⟩,
  ⟨0x20014, [], .no, [⟨0, 32, 0, .rc, .b⟩]⟩,
  ⟨0x20018, [], .no, [⟨0, 32, 0, .rc, .b⟩]⟩,
  ⟨0x2001c, [], .no, [⟨0, 32, 0, .ro, .b⟩]⟩,
  ⟨0x20020, [], .no, [⟨0, 32, 0, .ro, .b⟩]⟩,
  ⟨0x20100, [(19, 16)], .no, [⟨29, 3, 0, .ro, .b⟩, ⟨27, 2, 0, .ro, .b⟩, ⟨7, 5, 0, .ro, .b⟩, ⟨0, 7, 0, .ro, .b⟩]⟩,
  ⟨0x20104, [(19, 16)], .no, [⟨8, 8, 0, .wo, .b⟩, ⟨2, 1, 0, .wo, .b⟩, ⟨0, 2, 0, .wo, .b⟩]⟩,
  ⟨0x20108, [(19, 16)], .no, [⟨31, 1, 0, .rw, .e⟩, ⟨29, 2, 0, .rw, .b⟩]⟩,
  ⟨0x2010c, [(19, 16)], .no, []⟩,
  ⟨0x30000, [], .no, [⟨31, 1, 0, .ro, .b⟩, ⟨30, 1, 0, .ro, .b⟩, ⟨29, 1, 0, .ro, .b⟩, ⟨28, 1, 0, .ro, .b⟩, ⟨24, 4, 0, .ro, .b⟩, ⟨16, 8, 0, .ro, .b⟩]⟩,
  ⟨0x30004, [], .no, [⟨0, 24, 0, .ro, .b⟩]⟩,
  ⟨0x30008, [], .no, [⟨0, 24, 0, .ro, .b⟩]⟩,
  ⟨0x3000c, [], .no, [⟨0, 24, 0, .rc, .b⟩]⟩,
  ⟨0x30010, [], .lo, [⟨0, 32, 0, .rl, .b⟩]⟩,
  ⟨0x30014, [], .hi, [⟨0, 32, 0, .ro, .b⟩]⟩,
  ⟨0x30018, [], .no, [⟨0, 8, 0, .ro, .b⟩]⟩,
  ⟨0x30020, [], .no, [⟨0, 32, 0, .rw, .b⟩]⟩,
  ⟨0x30024, [], .no, [⟨0, 17, 600, .rw, .b⟩]⟩,
  ⟨0x30028, [], .no, [⟨0, 32, 0, .rw, .b⟩]⟩,
  ⟨0x3002c, [], .no, [⟨24, 8, 100, .rw, .b⟩, ⟨20, 3, 5, .rw, .b⟩, ⟨16, 3, 0, .rw, .b⟩, ⟨8, 6, 63, .rw, .b⟩, ⟨0, 2, 0, .rw, .b⟩]⟩,
  ⟨0x30030, [], .no, [⟨16, 16, 4096, .rw, .b⟩, ⟨0, 16, 16, .rw, .b⟩]⟩,
  ⟨0x30034, [], .no, [⟨0, 10, 50, .rw, .b⟩]⟩,
  ⟨0x30038, [], .no, [⟨16, 16, 720, .rw, .b⟩, ⟨0, 16, 24, .rw, .b⟩]⟩,
  ⟨0x30040, [], .lo, [⟨0, 32, 0, .rw, .b⟩]⟩,
  ⟨0x30044, [], .hi, [⟨0, 28, 0, .rw, .b⟩]⟩,
  ⟨0x30048, [], .no, [⟨0, 8, 0, .rw, .b⟩]⟩,
  ⟨0x30050, [], .no, [⟨29, 3, 3, .ro, .b⟩, ⟨25, 4, 6, .ro, .b⟩, ⟨20, 5, 1, .ro, .b⟩, ⟨18, 2, 0, .ro, .b⟩, ⟨0, 16, 24, .ro, .b⟩]⟩,
  ⟨0x30054, [], .no, [⟨0, 8, 0, .ro, .b⟩]⟩,
  ⟨0x30058, [], .lo, [⟨0, 32, 0, .ro, .b⟩]⟩,
  ⟨0x3005c, [], .hi, [⟨0, 28, 0, .ro, .b⟩]⟩,
  ⟨0x30060, [], .no, [⟨0, 32, 0, .rc, .b⟩]⟩,
  ⟨0x30064, [], .no, [⟨0, 32, 0, .rc, .b⟩]⟩,
  ⟨0x30068, [], .no, [⟨0, 32, 0, .rc, .b⟩]⟩,
  ⟨0x3006c, [], .no, [⟨0, 32, 0, .rc, .b⟩]⟩,
  ⟨0x30070, [(4, 4)], .no, [⟨0, 32, 0, .ro, .b⟩]⟩,
  ⟨0x30100, [(64, 4)], .no, [⟨0, 8, 0, .rw, .b⟩]⟩]

/-- Registers of chapter 17. -/
def rows17b : List RegRow := [
  ⟨0x2010c, [(19, 16)], .no, []⟩]

/-- Registers of chapter 18. -/
def rows18a : List RegRow := [
  ⟨0x40000, [], .no, [⟨0, 5, 1, .ro, .b⟩]⟩,
  ⟨0x40004, [], .no, [⟨0, 9, 0, .wo, .b⟩]⟩,
  ⟨0x40008, [], .no, [⟨0, 9, 0, .wo, .b⟩]⟩,
  ⟨0x40010, [], .no, [⟨0, 32, 0, .rc, .b⟩]⟩,
  ⟨0x40014, [], .no, [⟨0, 32, 0, .rc, .b⟩]⟩,
  ⟨0x40018, [], .no, [⟨0, 32, 0, .rc, .b⟩]⟩,
  ⟨0x4001c, [], .lo, [⟨0, 32, 0, .rl, .b⟩]⟩,
  ⟨0x40020, [], .hi, [⟨0, 32, 0, .ro, .b⟩]⟩,
  ⟨0x40030, [(3, 4)], .no, [⟨0, 32, 0, .ro, .b⟩]⟩,
  ⟨0x4003c, [], .lo, [⟨0, 32, 0, .rl, .b⟩]⟩,
  ⟨0x40040, [], .hi, [⟨0, 32, 0, .ro, .b⟩]⟩,
  ⟨0x40100, [], .no, [⟨31, 1, 1, .rw, .b⟩, ⟨16, 11, 100, .rw, .b⟩, ⟨0, 12, 0, .rw, .b⟩]⟩,
  ⟨0x40140, [(4, 64)], .no, [⟨31, 1, 0, .rw, .b⟩, ⟨16, 11, 100, .rw, .b⟩, ⟨0, 12, 0, .rw, .b⟩]⟩,
  ⟨0x40104, [], .no, [⟨16, 16, 0, .ro, .b⟩, ⟨0, 13, 1, .ro, .b⟩]⟩,
  ⟨0x40144, [(4, 64)], .no, [⟨16, 16, 0, .ro, .b⟩, ⟨0, 13, 0, .ro, .b⟩]⟩,
  ⟨0x40108, [(5, 64)], .no, [⟨0, 1, 0, .wo, .b⟩]⟩,
  ⟨0x4010c, [(5, 64)], .no, [⟨0, 13, 0, .rc, .b⟩]⟩,
  ⟨0x40110, [(5, 64), (4, 4)], .no, [⟨0, 32, 0, .ro, .b⟩]⟩,
  ⟨0x41000, [(512, 4)], .no, [⟨31, 1, 0, .ro, .b⟩, ⟨30, 1, 0, .ro, .b⟩, ⟨29, 1, 0, .ro, .b⟩, ⟨28, 1, 0, .rw, .b⟩, ⟨27, 1, 0, .rw, .b⟩, ⟨26, 1, 0, .ro, .b⟩, ⟨16, 8, 0, .ro, .b⟩, ⟨8, 3, 3, .rw, .b⟩, ⟨0, 5, 1, .rw, .b⟩]⟩]

/-- Registers of chapter 19. -/
def rows19a : List RegRow := [
  ⟨0xf0000, [], .no, [⟨31, 1, 0, .ro, .b⟩, ⟨30, 1, 0, .ro, .b⟩, ⟨16, 8, 0, .ro, .b⟩, ⟨8, 8, 0, .ro, .b⟩]⟩,
  ⟨0xf0004, [], .no, [⟨31, 1, 0, .ro, .b⟩, ⟨4, 4, 0, .ro, .b⟩, ⟨3, 1, 0, .ro, .b⟩, ⟨2, 1, 0, .ro, .b⟩, ⟨1, 1, 0, .ro, .b⟩]⟩,
  ⟨0xf0008, [], .no, [⟨31, 1, 1, .rw, .e⟩, ⟨0, 16, 24, .ro, .b⟩]⟩,
  ⟨0xf0010, [], .lo, [⟨0, 32, 0, .rl, .b⟩]⟩,
  ⟨0xf0014, [], .hi, [⟨0, 8, 0, .ro, .b⟩]⟩,
  ⟨0xf0018, [], .no, [⟨0, 32, 0, .ro, .b⟩]⟩,
  ⟨0xf0020, [], .lo, [⟨0, 32, 0, .rl, .b⟩]⟩,
  ⟨0xf0024, [], .hi, [⟨23, 1, 0, .ro, .b⟩, ⟨16, 7, 0, .ro, .b⟩, ⟨0, 8, 0, .ro, .b⟩]⟩,
  ⟨0xf0028, [], .lo, [⟨0, 32, 0, .rl, .b⟩]⟩,
  ⟨0xf002c, [], .hi, [⟨0, 8, 0, .ro, .b⟩]⟩,
  ⟨0xf0040, [], .no, [⟨0, 32, 0, .rc, .b⟩]⟩,
  ⟨0xf0044, [], .no, [⟨0, 32, 0, .ro, .b⟩]⟩,
  ⟨0xf0110, [], .no, [⟨0, 32, 0, .rc, .b⟩]⟩,
  ⟨0xf0120, [], .no, [⟨0, 32, 0, .rc, .b⟩]⟩,
  ⟨0xf0130, [], .no, [⟨0, 32, 0, .rc, .b⟩]⟩,
  ⟨0xf0140, [], .no, [⟨0, 32, 0, .rc, .b⟩]⟩,
  ⟨0xf0150, [], .no, [⟨0, 32, 0, .rc, .b⟩]⟩,
  ⟨0xf0200, [], .no, [⟨0, 32, 0, .rc, .b⟩]⟩,
  ⟨0xf0210, [], .no, [⟨0, 32, 0, .rc, .b⟩]⟩,
  ⟨0xf0220, [], .no, [⟨0, 32, 0, .rc, .b⟩]⟩,
  ⟨0xf0230, [], .no, [⟨0, 32, 0, .rc, .b⟩]⟩,
  ⟨0xf0240, [], .no, [⟨0, 32, 0, .rc, .b⟩]⟩,
  ⟨0xf0250, [], .no, [⟨0, 32, 0, .rc, .b⟩]⟩,
  ⟨0xf0260, [], .no, [⟨0, 32, 0, .rc, .b⟩]⟩,
  ⟨0xf0300, [], .no, [⟨0, 32, 0, .rc, .b⟩]⟩,
  ⟨0xf0310, [], .no, [⟨0, 32, 0, .rc, .b⟩]⟩,
  ⟨0xf0320, [], .no, [⟨0, 32, 0, .rc, .b⟩]⟩,
  ⟨0xf0330, [], .no, [⟨0, 32, 0, .rc, .b⟩]⟩,
  ⟨0xf0380, [], .no, [⟨0, 32, 0, .rc, .b⟩]⟩,
  ⟨0xf0400, [], .no, [⟨0, 32, 0, .rc, .b⟩]⟩,
  ⟨0xf0114, [], .no, [⟨0, 32, 0, .rc, .b⟩]⟩,
  ⟨0xf0124, [], .no, [⟨0, 32, 0, .rc, .b⟩]⟩,
  ⟨0xf0134, [], .no, [⟨0, 32, 0, .rc, .b⟩]⟩,
  ⟨0xf0144, [], .no, [⟨0, 32, 0, .rc, .b⟩]⟩,
  ⟨0xf0154, [], .no, [⟨0, 32, 0, .rc, .b⟩]⟩,
  ⟨0xf0204, [], .no, [⟨0, 32, 0, .rc, .b⟩]⟩,
  ⟨0xf0214, [], .no, [⟨0, 32, 0, .rc, .b⟩]⟩,
  ⟨0xf0224, [], .no, [⟨0, 32, 0, .rc, .b⟩]⟩,
  ⟨0xf0234, [], .no, [⟨0, 32, 0, .rc, .b⟩]⟩,
  ⟨0xf0244, [], .no, [⟨0, 32, 0, .rc, .b⟩]⟩]

/-- Registers of chapter 19. -/
def rows19b : List RegRow := [
  ⟨0xf0254, [], .no, [⟨0, 32, 0, .rc, .b⟩]⟩,
  ⟨0xf0264, [], .no, [⟨0, 32, 0, .rc, .b⟩]⟩,
  ⟨0xf0304, [], .no, [⟨0, 32, 0, .rc, .b⟩]⟩,
  ⟨0xf0314, [], .no, [⟨0, 32, 0, .rc, .b⟩]⟩,
  ⟨0xf0324, [], .no, [⟨0, 32, 0, .rc, .b⟩]⟩,
  ⟨0xf0334, [], .no, [⟨0, 32, 0, .rc, .b⟩]⟩,
  ⟨0xf0384, [], .no, [⟨0, 32, 0, .rc, .b⟩]⟩,
  ⟨0xf0404, [], .no, [⟨0, 32, 0, .rc, .b⟩]⟩,
  ⟨0xf0118, [], .no, [⟨16, 16, 24, .rw, .b⟩, ⟨0, 16, 64, .rw, .b⟩]⟩,
  ⟨0xf0128, [], .no, [⟨16, 16, 24, .rw, .b⟩, ⟨0, 16, 64, .rw, .b⟩]⟩,
  ⟨0xf0138, [], .no, [⟨16, 16, 24, .rw, .b⟩, ⟨0, 16, 64, .rw, .b⟩]⟩,
  ⟨0xf0148, [], .no, [⟨16, 16, 24, .rw, .b⟩, ⟨0, 16, 64, .rw, .b⟩]⟩,
  ⟨0xf0158, [], .no, [⟨16, 16, 24, .rw, .b⟩, ⟨0, 16, 64, .rw, .b⟩]⟩,
  ⟨0xf0208, [], .no, [⟨16, 16, 24, .rw, .b⟩, ⟨0, 16, 64, .rw, .b⟩]⟩,
  ⟨0xf0218, [], .no, [⟨16, 16, 24, .rw, .b⟩, ⟨0, 16, 64, .rw, .b⟩]⟩,
  ⟨0xf0228, [], .no, [⟨16, 16, 24, .rw, .b⟩, ⟨0, 16, 64, .rw, .b⟩]⟩,
  ⟨0xf0238, [], .no, [⟨16, 16, 24, .rw, .b⟩, ⟨0, 16, 64, .rw, .b⟩]⟩,
  ⟨0xf0248, [], .no, [⟨16, 16, 24, .rw, .b⟩, ⟨0, 16, 64, .rw, .b⟩]⟩,
  ⟨0xf0258, [], .no, [⟨16, 16, 24, .rw, .b⟩, ⟨0, 16, 64, .rw, .b⟩]⟩,
  ⟨0xf0268, [], .no, [⟨16, 16, 24, .rw, .b⟩, ⟨0, 16, 64, .rw, .b⟩]⟩,
  ⟨0xf0308, [], .no, [⟨16, 16, 24, .rw, .b⟩, ⟨0, 16, 64, .rw, .b⟩]⟩,
  ⟨0xf0318, [], .no, [⟨16, 16, 24, .rw, .b⟩, ⟨0, 16, 64, .rw, .b⟩]⟩,
  ⟨0xf0328, [], .no, [⟨16, 16, 24, .rw, .b⟩, ⟨0, 16, 64, .rw, .b⟩]⟩,
  ⟨0xf0338, [], .no, [⟨16, 16, 24, .rw, .b⟩, ⟨0, 16, 64, .rw, .b⟩]⟩,
  ⟨0xf0388, [], .no, [⟨16, 16, 24, .rw, .b⟩, ⟨0, 16, 64, .rw, .b⟩]⟩,
  ⟨0xf0408, [], .no, [⟨16, 16, 24, .rw, .b⟩, ⟨0, 16, 64, .rw, .b⟩]⟩]

/-- Registers of chapter 20. -/
def rows20a : List RegRow := [
  ⟨0x100000, [], .no, [⟨29, 3, 0, .ro, .b⟩, ⟨28, 1, 0, .ro, .b⟩, ⟨26, 2, 0, .ro, .b⟩, ⟨25, 1, 0, .ro, .b⟩, ⟨24, 1, 0, .ro, .b⟩, ⟨23, 1, 0, .ro, .b⟩, ⟨0, 1, 0, .ro, .b⟩]⟩,
  ⟨0x100004, [], .no, [⟨0, 2, 0, .wo, .b⟩]⟩,
  ⟨0x100008, [], .no, [⟨16, 16, 1000, .rw, .e⟩, ⟨8, 8, 16, .rw, .e⟩, ⟨0, 8, 24, .rw, .e⟩]⟩,
  ⟨0x10000c, [], .no, [⟨0, 32, 0, .wo, .o⟩]⟩,
  ⟨0x100010, [], .no, [⟨28, 4, 0, .ro, .b⟩, ⟨27, 1, 0, .ro, .b⟩, ⟨26, 1, 0, .ro, .b⟩, ⟨25, 1, 0, .ro, .b⟩, ⟨0, 16, 0, .ro, .b⟩]⟩,
  ⟨0x100014, [], .no, [⟨0, 32, 0, .ro, .b⟩]⟩,
  ⟨0x100018, [], .no, [⟨0, 32, 0, .ro, .b⟩]⟩,
  ⟨0x10001c, [], .no, [⟨0, 32, 0, .ro, .b⟩]⟩,
  ⟨0x100020, [], .no, [⟨0, 16, 0, .ro, .b⟩]⟩,
  ⟨0x100030, [], .no, [⟨0, 24, 0, .rw, .b⟩]⟩,
  ⟨0x100034, [], .no, [⟨0, 32, 0, .ro, .b⟩]⟩,
  ⟨0x100038, [], .lo, [⟨0, 32, 0, .rw, .b⟩]⟩,
  ⟨0x10003c, [], .hi, [⟨0, 8, 1, .rw, .b⟩]⟩,
  ⟨0x100040, [], .no, [⟨0, 32, 0, .rc, .b⟩]⟩,
  ⟨0x100044, [], .no, [⟨0, 32, 0, .rc, .b⟩]⟩,
  ⟨0x100048, [], .no, [⟨0, 32, 0, .rc, .b⟩]⟩,
  ⟨0x100050, [(3, 4)], .no, [⟨0, 32, 0, .ro, .b⟩]⟩,
  ⟨0x108000, [(8192, 4)], .no, [⟨0, 32, 0, .ro, .b⟩]⟩]

/-- Registers of chapter 21. -/
def rows21a : List RegRow := [
  ⟨0x10020, [], .no, [⟨0, 32, 0, .rc, .b⟩]⟩,
  ⟨0x10024, [], .no, [⟨0, 32, 0, .rc, .b⟩]⟩,
  ⟨0x10028, [], .no, [⟨0, 32, 0, .rc, .b⟩]⟩,
  ⟨0x1002c, [], .no, [⟨0, 32, 0, .rc, .b⟩]⟩,
  ⟨0x10030, [], .no, [⟨0, 32, 0, .rc, .b⟩]⟩,
  ⟨0x10040, [(5, 4)], .no, [⟨0, 32, 0, .ro, .b⟩]⟩,
  ⟨0x120000, [], .no, [⟨31, 1, 0, .ro, .b⟩, ⟨0, 6, 0, .ro, .b⟩]⟩,
  ⟨0x120004, [], .no, [⟨31, 1, 0, .wo, .e⟩, ⟨0, 6, 0, .wo, .e⟩]⟩,
  ⟨0x120008, [], .no, [⟨16, 16, 0, .ro, .b⟩, ⟨0, 16, 1, .rw, .e⟩]⟩,
  ⟨0x120010, [], .no, [⟨24, 5, 0, .rw, .e⟩, ⟨0, 5, 1, .rw, .e⟩]⟩,
  ⟨0x120014, [], .no, [⟨8, 8, 0, .rw, .e⟩, ⟨0, 8, 0, .rw, .e⟩]⟩,
  ⟨0x120018, [], .no, [⟨16, 16, 0, .rw, .e⟩, ⟨0, 16, 0, .rw, .e⟩]⟩,
  ⟨0x12001c, [], .no, [⟨16, 16, 0, .rw, .e⟩, ⟨14, 2, 0, .rw, .e⟩, ⟨0, 4, 0, .rw, .e⟩]⟩,
  ⟨0x120020, [], .no, [⟨30, 2, 0, .rw, .e⟩, ⟨16, 8, 0, .rw, .e⟩, ⟨0, 16, 0, .rw, .e⟩]⟩,
  ⟨0x120024, [], .lo, [⟨0, 32, 0, .rw, .e⟩]⟩,
  ⟨0x120028, [], .hi, [⟨16, 7, 0, .rw, .e⟩, ⟨8, 2, 0, .rw, .e⟩, ⟨0, 8, 0, .rw, .e⟩]⟩,
  ⟨0x12002c, [], .no, [⟨0, 7, 0, .rw, .e⟩]⟩,
  ⟨0x120030, [], .no, [⟨0, 32, 0, .rc, .b⟩]⟩,
  ⟨0x120034, [], .no, [⟨0, 32, 0, .rc, .b⟩]⟩]

/-- Registers of chapter 22. -/
def rows22a : List RegRow := [
  ⟨0x10200, [], .no, [⟨0, 32, 0, .ro, .b⟩]⟩,
  ⟨0x10204, [], .no, [⟨28, 4, 0, .ro, .b⟩, ⟨0, 20, 0, .ro, .b⟩]⟩,
  ⟨0x10208, [(4, 4)], .no, [⟨0, 32, 0, .ro, .b⟩]⟩,
  ⟨0x10220, [], .no, [⟨16, 16, 0, .ro, .b⟩, ⟨0, 16, 0, .ro, .b⟩]⟩,
  ⟨0x10224, [], .no, [⟨0, 16, 0, .ro, .b⟩]⟩,
  ⟨0x10228, [(2, 4)], .no, [⟨16, 16, 0, .ro, .b⟩, ⟨0, 16, 0, .ro, .b⟩]⟩]

/-- Every row, by the block that decodes it (R22). -/
def regRows (addr : Nat) : List RegRow :=
  match addr / 0x10000 with
  | 0 => rows01a
  | 1 => rows02a ++ rows03a ++ rows21a ++ rows22a
  | 2 => rows17a ++ rows17b
  | 3 => rows17a ++ rows17b
  | 4 => rows18a
  | 5 => rows07a
  | 6 => rows08a
  | 7 => rows09a ++ rows09b
  | 8 => rows10a
  | 9 => rows11a
  | 10 => rows12a ++ rows12b
  | 11 => rows12a ++ rows12b
  | 12 => rows13a
  | 13 => rows15a
  | 14 => rows16a
  | 15 => rows19a ++ rows19b
  | 16 => rows20a
  | 17 => rows03a
  | 18 => rows21a
  | 19 => rows06a
  | _ => if addr < 0x300000 then rows04a ++ rows05a ++ rows06a ++ rows08a ++ rows14a ++ rows22a else []

/-- An offset from a row's base is one of the row's registers: each dimension, from the widest stride, takes what it can. -/
def hitDims : List (Nat × Nat) → Nat → Bool
  | [], o => o == 0
  | (n, s) :: l, o => decide (o / s < n) && hitDims l (o % s)

/-- A row holds the register at an address. -/
def RegRow.holds (r : RegRow) (addr : Nat) : Bool := decide (r.base ≤ addr) && hitDims r.dims (addr - r.base)

/-- The row of an address, if a table lists it (R24). -/
def regRow (addr : Nat) : Option RegRow := (regRows addr).find? fun r => r.holds addr

/-- A field of the register at an address. -/
def bitField (addr : Nat) (x : RegBit) : Field :=
  ⟨addr, x.lo, x.width,
    if decide (0x41000 ≤ addr) && decide (addr < 0x41800) && x.lo == 27 then b2n (!irqIsLevel ((addr - 0x41000) / 4)) else x.reset⟩

/-- A field of the register file, by key, has an access code (R6). -/
def keyHas (k : Nat) (p : RegBit → Bool) : Bool :=
  match regRow (k / 32) with
  | some r => r.bits.any fun x => x.lo == k % 32 && p x
  | none => false

/-- Registers that the active concentrator holds (R22): all blocks but PWR and BDG on the PM die, TIM on the PT die, and the
tiles. -/
def resident (addr : Nat) : Bool := decide (addr < 0x140000) && !([2, 3, 5] : List Nat).contains (addr / 0x10000)

/-- Registers of a tile (R22). -/
def tileOf (addr : Nat) : Option Nat :=
  if decide (0x200000 ≤ addr) && decide (addr < 0x300000) then some ((addr - 0x200000) / 0x40000) else none

/-- Counters and their snapshot copies, by the words of each block's table (R77): first counter, first copy, dimensions. -/
def snapRows : List (Nat × Nat × List (Nat × Nat)) := [
  (0x21001c, 0x21002c, [(4, 262144), (240, 64)]),
  (0x210020, 0x210030, [(4, 262144), (240, 64), (2, 4)]),
  (0x210028, 0x210038, [(4, 262144), (240, 64)]),
  (0x220028, 0x220038, [(4, 262144), (16, 256)]),
  (0x22002c, 0x22003c, [(4, 262144), (16, 256)]),
  (0x220030, 0x220040, [(4, 262144), (16, 256)]),
  (0x220034, 0x220044, [(4, 262144), (16, 256)]),
  (0x2200c4, 0x2200c8, [(4, 262144), (16, 256)]),
  (0x130024, 0x130028, []),
  (0x130038, 0x13003c, []),
  (0x50034, 0x50038, []),
  (0x60020, 0x60024, []),
  (0xb0040, 0xb0044, []),
  (0xc0004, 0xc0008, []),
  (0x20014, 0x2001c, []),
  (0x20018, 0x20020, []),
  (0xf0040, 0xf0044, []),
  (0x50128, 0x50138, [(2, 128), (4, 4)]),
  (0x50318, 0x5031c, [(4, 32)]),
  (0x60204, 0x6020c, [(8, 16)]),
  (0x200130, 0x200140, [(4, 262144), (4, 4)]),
  (0x70018, 0x70060, [(9, 4)]),
  (0x70050, 0x70084, [(4, 4)]),
  (0x70010, 0x70098, [(2, 4)]),
  (0x71020, 0x71024, [(256, 64)]),
  (0x80030, 0x80048, [(2, 4)]),
  (0x80038, 0x80050, [(3, 4)]),
  (0x90080, 0x900c0, [(11, 4)]),
  (0x900f0, 0x900f8, [(2, 4)]),
  (0xa0040, 0xa0080, [(6, 4)]),
  (0xa0058, 0xa0098, [(6, 4)]),
  (0xb0000, 0xb0004, [(8, 8)]),
  (0xc0140, 0xc0158, [(8, 128), (2, 4)]),
  (0xc0148, 0xc0160, [(8, 128), (4, 4)]),
  (0x230004, 0x230008, [(4, 262144)]),
  (0x230158, 0x230168, [(4, 262144), (4, 128), (4, 4)]),
  (0x230150, 0x230178, [(4, 262144), (4, 128), (2, 4)]),
  (0xd0088, 0xd008c, [(3, 16)]),
  (0xd0100, 0xd0140, [(11, 4)]),
  (0xe0010, 0xe0030, [(8, 512), (6, 4)]),
  (0xe0104, 0xe0128, [(8, 512), (2, 128), (4, 4)]),
  (0x30060, 0x30070, [(4, 4)]),
  (0x40010, 0x40030, [(3, 4)]),
  (0x4001c, 0x4003c, [(2, 4)]),
  (0x100040, 0x100050, [(3, 4)]),
  (0x10020, 0x10040, [(5, 4)])]

/-- The copy of a counter, if it has one. -/
def snapCopy (addr : Nat) : Option Nat :=
  (snapRows.find? fun r => decide (r.1 ≤ addr) && hitDims r.2.2 (addr - r.1)).map fun r => addr - r.1 + r.2.1

/-- The word is a snapshot copy. -/
def isSnap (addr : Nat) : Bool := snapRows.any fun r => decide (r.2.1 ≤ addr) && hitDims r.2.2 (addr - r.2.1)

end Sys2Proof.Machine
end

