-- ==== Sys2Proof/Machine/Power.lean ====
section
/-! DEFINITION. Power domains, votes, levels and Squirrel: the operations that the commands of several blocks share (R498 to
R517). -/

namespace Sys2Proof.Machine

open Sys2Proof

/-! ### What the votes look at (R498) -/

/-- The fast-channel groups in force on the module, bit 15 t + i for group i of tile t (R137). -/
def Block.groupMask (b : Block) : Nat :=
  (([0, 1, 2, 3] : List Nat).map fun t => b.get (F.FT_GROUP_ACT t) * 2 ^ (15 * t)).sum

/-- The number of set bits among the lowest `n`. -/
def popCount (v n : Nat) : Nat := ((List.range n).map fun i => v / 2 ^ i % 2).sum

/-- G of R500: the groups in FT_GROUP_ACT. -/
def Block.groupCount (b : Block) : Nat := popCount b.groupMask 60

/-- The active concentrator: 0 CC-A, 1 CC-B (R562). -/
def Block.active (b : Block) : Nat := b.get F.IDN_ACTIVE

/-- The domain of the active concentrator. -/
def Block.activeDom (b : Block) : Nat := 4 + b.active

/-- A queue holds published bytes not released; an enabled one, where only those count (R498). -/
def Block.unreleased (b : Block) (enabled : Bool) : Bool :=
  ([0, 1, 2, 3, 4, 5, 6, 7] : List Nat).any fun q =>
    (!enabled || b.flag (F.EGQ_CFG_ACTIVE q)) && b.get64 (F.EGQ_PUB_LO q) (F.EGQ_PUB_HI q) != b.get64 (F.EGQ_REL_LO q) (F.EGQ_REL_HI q)

/-- The epochs that have ended and await their commit (R366 EVB_PEND.EPOCHS). -/
def Block.pendEpochs (b : Block) : Nat := satU 16 (b.evb.epochs.filter fun e => e.counts && e.ended.isSome).length

/-- An epoch has ended and is not committed (R498). -/
def Block.uncommitted (b : Block) : Bool := b.pendEpochs != 0

/-- The image names the module in the builder list (R351). -/
def Block.isBuilder (b : Block) : Bool :=
  (List.range (b.get F.TRG_BUILDERS)).any fun i => b.isSelf (b.get (F.TRG_BUILDER i))

/-- The state of a loop slot: 0 STOPPED, 1 RUNNING, 2 HANDOVER, 3 SAFE (R441). -/
def Block.slotState (b : Block) (t s : Nat) : Nat := b.get (F.BVR_S_STAT_STATE t s)

/-- The slots of the module. -/
def allSlots : List (Nat × Nat) := (List.range 16).map fun i => (i / 4, i % 4)

/-- The tile's domain is on. -/
def Block.tileOn (b : Block) (t : Nat) : Bool := b.phase.railsOn && b.get (F.PWR_D_STAT_STATE t) == 2

/-- The excitation of a channel is off under its grant (R154). -/
def Block.dutyOff (b : Block) (n : Nat) : Bool :=
  (b.get (F.PCH_EXC_EXC_MODE n) == 1 || b.get (F.PCH_EXC_EXC_MODE n) == 2) && b.get (F.PCH_DUTY_DUTY_GRANT n) != 256
    && !(lookupD b.prec.ch n PrecCh.reset).dutyOn

/-- A precision channel converts (R147, R154). -/
def Block.converting (b : Block) (n : Nat) : Bool :=
  b.tileOn (n / 16) && b.flag (F.PCH_IN_INPUT_MODE n) && !b.dutyOff n

/-- A precision channel is not OFF: its input or its output is in use (R498). -/
def Block.pchOn (b : Block) (n : Nat) : Bool := b.flag (F.PCH_IN_INPUT_MODE n) || b.flag (F.PCH_EXC_EXC_MODE n)

/-- A precision channel holds its tile's vote on D_EXC (R159). -/
def Block.excVote (b : Block) (n : Nat) : Bool :=
  b.get (F.PCH_EXC_EXC_MODE n) == 3 || (b.flag (F.PCH_EXC_EXC_MODE n) && b.flag (F.PCH_DUTY_DUTY_GRANT n))

/-- Before Live entry, in Safe-Config and in Fault the module holds a BLOCK vote on every domain (R498). -/
def Phase.holdsAll : Phase → Bool
  | .fill => true
  | .verify => true
  | .configure => true
  | .join => true
  | .safeConfig => true
  | .fault => true
  | _ => false

/-- The domain is one of a die that passed Fill (R498). -/
def Block.diePassed (b : Block) (d : Nat) : Bool :=
  if b.phase == .fill then true
  else if d < 4 then bitAt (b.get F.IDN_CAP_TILE_PRESENT) d
  else if d < 8 then bitAt (b.get F.IDN_CAP_CC_PRESENT) (d % 2)
  else true

/-- The BLOCK vote of a domain (R498). (DEDUCED, log entry 57.) -/
def Block.blockVote (b : Block) (d : Nat) : Bool :=
  if b.phase.holdsAll then b.diePassed d
  else if d < 4 then
    (([0, 1, 2, 3] : List Nat).any fun s => b.slotState d s != 0) || b.flag (F.FT_GROUP_ACT d)
      || (List.range 16).any fun i => b.pchOn (16 * d + i)
  else if d < 6 then
    if d = b.activeDom then
      b.groupMask != 0 || ((List.range 64).any fun n => b.flag (F.PCV_CFG_RECORD n) && b.converting n)
        || b.uncommitted || b.unreleased true || b.fab.roles % 16 != 0 || b.isBuilder || b.pwr.denWake
    else b.get F.PAIR_STAT_SB_STATE != 5 && decide (b.get F.BDG_CHOICE_STANDBY < 2)
  else if d < 8 then b.get (F.PWR_D_STAT_STATE (d - 2)) != 0
  else if d < 16 then false
  else if d = 16 then (List.range 64).any b.excVote
  else if d = 17 then !b.flag F.TIM_STAT_REF_NOW
  else
    (allSlots.any fun x => b.slotState x.1 x.2 == 1 || b.slotState x.1 x.2 == 2) || b.uncommitted || b.unreleased false
      || b.flag F.SEC_NVM_CTRL_NVM_BUSY || b.flag F.SEC_CMD_STAT_BUSY

/-! ### Targets and transitions (R508, R511) -/

/-- The VOTES bits of a domain: BLOCK as it stands, SQUIRREL by its choice of standby (R517), HOST and REMOTE by their voters, the others
as cast (R507). -/
def Block.votesOf (b : Block) (d : Nat) : Nat :=
  let v := b.get (F.PWR_D_STAT_VOTES d)
  let v1 := setBit v 0 (b.blockVote d)
  let v0 := setBit v1 2 ((d = 4 || d = 5) && d != b.activeDom && decide (b.get F.BDG_CHOICE_STANDBY < 2))
  let v2 := setBit v0 3 (b.pwr.voters.any fun x => x.dom == d && x.host)
  setBit v2 4 (b.pwr.voters.any fun x => x.dom == d && !x.host)

/-- A domain that the module holds off: that of a tile that failed Fill, those of a FAILED standby (R555, R562). -/
def Block.heldOff (b : Block) (d : Nat) : Bool :=
  if d < 4 then b.phase != .fill && !bitAt (b.get F.IDN_CAP_TILE_PRESENT) d
  else decide (d < 8) && d % 2 != b.active && b.get F.PAIR_STAT_SB_STATE == 5

/-- The target of a domain: its votes, unless FORCE overrides them (R508); off where it is held off. -/
def Block.targetOn (b : Block) (d : Nat) : Bool :=
  if b.heldOff d then false
  else
    match b.get (F.PWR_D_CTRL_FORCE d) with
    | 1 => true
    | 2 => false
    | _ => b.votesOf d != 0

/-- The standby leaves its state for OFF or FAILED: the mirror stops, source PAIR_STANDBY_LOST is asserted (R562). -/
def Block.standbyDown (b : Block) (st : Nat) : Block :=
  let b1 := (((b.put F.PAIR_STAT_SB_STATE st).put F.PAIR_STAT_MIRROR_UP 0).put F.PAIR_SYNC 0).setLevel 209 true 0
  { b1 with pair := { b1.pair with held := [], sbFirst := none, catching := false } }

/-- The active concentrator's domain turns off: DOWN on every port not DOWN, the den written (R502); the controller keeps its
own state. -/
def Block.dozeActive (b : Block) : Block :=
  let b1 := allPorts.foldl (fun c p => c.toDown p 0) b
  { b1 with pwr := { b1.pwr with
      den := some ⟨b1.regs.filter fun e => resident (e.1 / 32) && keyHas e.1 fun x => x.acc == .rw, b1.irq⟩ } }

/-- The wake timer that Hibernate runs: WAKE_S, or 600 s where Tj forced the entry and WAKE_S is 0 or longer (R504, R506). -/
def Block.hibWake (b : Block) : Nat :=
  let w := b.get F.PWR_HIB_TIMER
  if b.pwr.thermal then if w = 0 then 600 else min 600 w else w

/-- Every domain but D_AON turned off, and D_OVN where it holds a HOST or CONFIG vote; the module sleeps (R503). -/
def Block.enterHibernate (b : Block) : Block :=
  let b1 := allPorts.foldl (fun c p => c.toDown p 1) b
  let ovn := bitAt (b.votesOf 17) 3 || bitAt (b.votesOf 17) 6
  let off (c : Block) (d : Nat) : Block :=
    (c.put (F.PWR_D_STAT_PENDING d) 0).put (F.PWR_D_STAT_STATE d) (if d = 17 && ovn then c.get (F.PWR_D_STAT_STATE d) else 0)
  let b2 := (List.range 18).foldl off b1
  let b3 := if ovn then b2 else { b2.put F.TIM_STAT_OVN_READY 0 with time := { b2.time with warmSec := 0, warmTicks := 0 } }
  { b3 with
    phase := .hibernate
    pwr := { b3.pwr with
      voters := [], hibWait := false, hibTick := b3.tick, wakeS := b3.hibWake, armed := false, den := none } }

/-- MOD turns off: the wait for a pass-through operation comes first (R503). -/
def Block.hibernateWhenFree (b : Block) : Block :=
  if b.flag F.SEC_NVM_CTRL_NVM_BUSY then { b with pwr := { b.pwr with hibWait := true } } else b.enterHibernate

/-- What a domain does as it starts to turn off (R501 to R503). -/
def Block.startOff (b : Block) (d : Nat) : Block :=
  if d = 18 then b.hibernateWhenFree
  else if d = b.activeDom then b.dozeActive
  else if d = 4 || d = 5 then if b.get F.PAIR_STAT_SB_STATE = 5 then b else b.standbyDown 0
  else if decide (8 ≤ d) && decide (d < 16) then b.toDown (d - 8) 0
  else b

/-- A request of a domain: a target that differs from the one it goes to (R511). -/
def Block.request (b : Block) (d : Nat) (on : Bool) : Block :=
  let st := b.get (F.PWR_D_STAT_STATE d)
  if st = 0 then if on then b.put (F.PWR_D_STAT_STATE d) 1 else b
  else if st = 2 then if on then b else (b.put (F.PWR_D_STAT_STATE d) 3).startOff d
  else
    let pend := b.get (F.PWR_D_STAT_PENDING d)
    let goal := if pend = 0 then st == 1 else pend == 1
    if goal = on then b
    else
      (if pend = 0 then b else b.bump F.PWR_COALESCED).put (F.PWR_D_STAT_PENDING d) (if on then 1 else 2)

/-- The votes of a domain as they stand, and its target acted on. -/
def Block.settleDom (b : Block) (d : Nat) : Block :=
  let b1 := ((b.put (F.PWR_D_STAT_VOTES d) (b.votesOf d)).put (F.PWR_D_STAT_VOTERS d)
    (b.pwr.voters.filter fun x => x.dom == d).length)
  b1.request d (b1.targetOn d)

/-- A precision-channel fault or a SAFE while the active concentrator is gated wakes it (R502). -/
def Block.wakeCore (b : Block) : Block :=
  if b.pwr.den.isSome && b.phase.railsOn then { b with pwr := { b.pwr with denWake := true } }.settleDom b.activeDom else b

/-- The votes of every domain acted on; a module in Off or Hibernate has none. -/
def Block.settlePower (b : Block) : Block :=
  if b.phase.railsOn then (List.range 19).foldl (fun c d => if c.phase.railsOn then c.settleDom d else c) b else b

/-! ### Votes cast by requesters (R507-R509) -/

/-- The node is a host endpoint by its CAP (R454, R468). -/
def Block.isHost (b : Block) (n : Nat) : Bool := b.fab.caps.any fun c => c.2.host && c.2.nodeValid && c.2.node == n

/-- The requester is a host endpoint. -/
def Block.hostWho (b : Block) : Requester → Bool
  | .node n => b.isHost n
  | _ => false

/-- A write of PWR_d_VOTE (R507, R508). -/
def voteOp (who : Requester) (d w : Nat) (b : Block) : Block × Status :=
  let cast := bitsOf w 1 0 == 1
  let drop := bitsOf w 1 0 == 2
  if bitAt w 2 then
    if b.hostWho who then
      let v := b.get (F.PWR_D_STAT_VOTES d)
      (if cast || drop then (b.put (F.PWR_D_STAT_VOTES d) (setBit v 6 cast)).settleDom d else b, .ok)
    else (b, .accessDenied)
  else
    match who with
    | .node n =>
      let rest := b.pwr.voters.filter fun x => !(x.dom == d && x.node == n)
      let mine := b.pwr.voters.any fun x => x.dom == d && x.node == n
      if cast then
        if !mine && decide (16 ≤ (b.pwr.voters.filter fun x => x.dom == d).length) then
          (b.bump F.PWR_REFUSE_CNT, .busyResource)
        else
          ({ b with pwr := { b.pwr with voters := ⟨d, n, b.isHost n, b.tick, bitsOf w 15 8⟩ :: rest } }.settleDom d, .ok)
      else if drop then ({ b with pwr := { b.pwr with voters := rest } }.settleDom d, .ok)
      else (b, .ok)
    | _ =>
      let v := b.get (F.PWR_D_STAT_VOTES d)
      (if cast || drop then (b.put (F.PWR_D_STAT_VOTES d) (setBit v 1 cast)).settleDom d else b, .ok)

/-- A write of PWR_d_CTRL that gives FORCE a value (R510); one that leaves FORCE as it is is no FORCE write. -/
def forceOp (who : Requester) (d v : Nat) (b : Block) : Block × Status :=
  if v = b.get (F.PWR_D_CTRL_FORCE d) then (b, .ok)
  else if !(b.hostWho who || who == .owl) then (b, .accessDenied)
  else if (v = 2 && (d = 6 || d = 7) && b.get (F.PWR_D_STAT_STATE (d - 2)) != 0) || (d = 5 && b.phase == .fill) then
    (b.bump F.PWR_REFUSE_CNT, .busyResource)
  else ((b.put (F.PWR_D_CTRL_FORCE d) v).settleDom d, .ok)

/-- An access meets a domain that is off (R22, R509): the answer, and the ACCESS vote where WAKE_ON_ACCESS is 1. -/
def offAccess (d : Nat) (b : Block) : Block × Status :=
  let b1 := b.bump F.SYS_OFFACC
  if b.flag (F.PWR_D_CTRL_WAKE_ON_ACCESS d) then
    let b2 := { b1.put (F.PWR_D_STAT_VOTES d) (setBit (b.get (F.PWR_D_STAT_VOTES d)) 5 true) with
      pwr := { b1.pwr with accessTick := insertKey b1.pwr.accessTick d b.tick } }
    (b2.settleDom d, .domainWaking)
  else (b1, .domainOff)

/-- An access to a domain that is on and holds an ACCESS vote: the vote lasts from here (R509). -/
def Block.touchDom (b : Block) (d : Nat) : Block :=
  if bitAt (b.get (F.PWR_D_STAT_VOTES d)) 5 then
    { b with pwr := { b.pwr with accessTick := insertKey b.pwr.accessTick d b.tick } }
  else b

/-! ### Levels (R499, R500, R511) -/

/-- The admitted rate of a level in Mflit/s (R15). -/
def levelRate : Nat → Nat
  | 0 => 0
  | 1 => 150
  | 2 => 350
  | 3 => 700
  | 4 => 1100
  | _ => 1450

/-- The ingest level for G groups: the lowest level whose rate is at least 7 G + 1 Mflit/s (R500). -/
def ingestLevel (g : Nat) : Nat :=
  if 7 * g + 1 ≤ 150 then 1 else if 7 * g + 1 ≤ 350 then 2 else if 7 * g + 1 ≤ 700 then 3
  else if 7 * g + 1 ≤ 1100 then 4 else 5

/-- A request of a level (R511): in progress it takes the pending slot. The gate takes a lower limit at once (R499). -/
def Block.requestLevel (b : Block) (l : Nat) : Block :=
  if b.flag F.PWR_STAT_LEVEL_BUSY then
    let goal := b.pwr.levelPending.getD (b.get F.PWR_STAT_LEVEL_TGT)
    if goal = l then b
    else
      let b1 := if b.pwr.levelPending.isSome then b.bump F.PWR_COALESCED else b
      { b1 with pwr := { b1.pwr with levelPending := some l } }
  else if l = b.get F.PWR_STAT_LEVEL_NOW then b
  else
    let b1 := (b.put F.PWR_STAT_LEVEL_TGT l).put F.PWR_STAT_LEVEL_BUSY 1
    { b1 with pwr := { b1.pwr with gate := min b1.pwr.gate l } }

/-- The commit floor holds (R500): two or more epochs await commit, a warm rebuild runs, or the module is between Fill and
Live. -/
def Block.commitFloor (b : Block) : Bool :=
  decide (2 ≤ b.pendEpochs) || b.flag F.PAIR_STAT_REBUILD || (b.phase != .live && b.phase != .safeConfig)

/-- A precision channel converts. -/
def Block.anyConverting (b : Block) : Bool := (List.range 64).any fun n => b.converting n

/-- The level that Squirrel chooses (R500, R515). -/
def Block.levelChoice (b : Block) : Nat :=
  let lmin := b.get F.BDG_LIMITS_LEVEL_MIN
  let floor := if b.commitFloor then 3 else 0
  if lmin == 0 && b.groupCount == 0 && !b.anyConverting && !b.uncommitted && floor == 0 && b.pwr.raise == 0 then 0
  else max (min (max (max lmin (ingestLevel b.groupCount)) b.pwr.raise) (b.get F.BDG_LIMITS_LEVEL_MAX)) floor

/-- Squirrel chooses the level, and a forced level overrides it as the target (R510, R511). -/
def Block.chooseLevel (b : Block) : Block :=
  let l := b.levelChoice
  let b1 := b.put F.BDG_CHOICE_LEVEL l
  b1.requestLevel (if b1.flag F.PWR_LEVEL_FORCE_EN then min 5 (b1.get F.PWR_LEVEL_FORCE_LEVEL) else l)

/-- A write of PWR_LEVEL_FORCE (R510). -/
def levelForceOp (w : Nat) (b : Block) : Block × Status :=
  if bitAt w 31 && decide (bitsOf w 2 0 < ingestLevel b.groupCount) then (b.bump F.PWR_REFUSE_CNT, .busyResource)
  else (((b.put F.PWR_LEVEL_FORCE_EN (bitsOf w 31 31)).put F.PWR_LEVEL_FORCE_LEVEL (bitsOf w 2 0)).chooseLevel, .ok)

/-! ### Squirrel (R512-R517) -/

/-- The last AVG_WIN_S × 1 000 samples, or all since Fill (R512): their sum and their number. -/
def Block.window (b : Block) : Nat × Nat :=
  let l := b.pwr.samples.take (clampN 1 86400 (b.get F.BDG_AVG_WIN) * 1000)
  (l.sum, l.length)

/-- The window mean as BDG_P_AVG shows it, in whole mW (R512). -/
def Block.windowMean (b : Block) : Nat := b.window.1 / max 1 b.window.2

/-- Tj as last read, °C (R512). -/
def Block.tj (b : Block) : Int := signed 8 (b.get F.BDG_TJ)

/-- A channel in DC or REV that feeds no running loop (R154, R514): its drive has no owner and no running slot takes it as
input. -/
def Block.dutyChannel (b : Block) (feeds : Nat → Bool) (n : Nat) : Bool :=
  (b.get (F.PCH_EXC_EXC_MODE n) == 1 || b.get (F.PCH_EXC_EXC_MODE n) == 2) && !feeds n

/-- The group of the module is sampled: group i of tile t as 15 t + i. -/
def Block.groupOn (b : Block) (g : Nat) : Bool := bitAt b.groupMask g

/-- SHED_GROUPS (R518, R521). -/
def Block.shedGroups (b : Block) : Nat := b.get64 F.BDG_SHED_GRP_LO F.BDG_SHED_GRP_HI

/-- The groups that rung 6 has taken from the grant. -/
def Block.shedNow (b : Block) : List Nat := (b.pwr.steps.filter fun s => s.rung == 6).flatMap fun s => s.detail.map (·.1)

/-- The groups requested (R137). -/
def Block.groupReq (b : Block) : Nat :=
  (([0, 1, 2, 3] : List Nat).map fun t => b.get (F.FT_GROUP_REQ t) * 2 ^ (15 * t)).sum

/-- The grant: the requested groups in order, but those shed and those that would raise the ingest level above LEVEL_MAX
(R500). -/
def Block.grantMask (b : Block) : Nat :=
  ((List.range 60).foldl (fun (a : Nat × Nat) g =>
    if bitAt b.groupReq g && !b.shedNow.contains g && decide (ingestLevel (a.2 + 1) ≤ b.get F.BDG_LIMITS_LEVEL_MAX) then
      (a.1 + 2 ^ g, a.2 + 1)
    else a) (0, 0)).1

/-- The grant shown in BDG_GRANT. -/
def Block.setGrant (b : Block) : Block := b.put64 F.BDG_GRANT_LO F.BDG_GRANT_HI b.grantMask

/-- Operation i of a bank as a 64-bit word (R420). -/
def Block.opWord (b : Block) (t s k i : Nat) : Nat := b.get64 (F.BVR_OP_LO t s k i) (F.BVR_OP_HI t s k i)

/-- A running loop takes precision channel n as input: it paces on it, or an operation LOAD of its active bank names it (R418, R422). -/
def Block.feedsLoop (b : Block) (n : Nat) : Bool :=
  allSlots.any fun x =>
    x.1 == n / 16 && (b.slotState x.1 x.2 == 1 || b.slotState x.1 x.2 == 2)
      && (b.get (F.BVR_S_CFG_PACE_CH x.1 x.2) == n % 16 || (List.range (min 64 (b.get (F.BVR_S_BANK_PROG_LEN x.1 x.2 (b.get (F.BVR_S_STAT_BANK x.1 x.2)))))).any fun i =>
        let w := b.opWord x.1 x.2 (b.get (F.BVR_S_STAT_BANK x.1 x.2)) i
        w % 16 == 1 && bitsOf w 38 34 == n % 16)

/-- The duty that Squirrel grants a channel. (DEDUCED, log entry 56.) -/
def Block.dutyGrant (b : Block) (n : Nat) : Nat := lookupD b.pwr.duty n 256

/-- One step of a rung (R514), or none where the rung is exhausted. -/
def Block.shedRung (b : Block) (r : Nat) : Option (Block × List (Nat × Nat)) :=
  match r with
  | 1 =>
    let e := b.get F.BDG_CHOICE_EFFORT_CAP
    if b.get F.LPS_EFFORT_FLOOR < e then some (b.put F.BDG_CHOICE_EFFORT_CAP (e - 1), []) else none
  | 2 =>
    let h := b.get F.BDG_CHOICE_SCRUB_H
    let slow := b.get F.BDG_SCRUB_SCRUB_SLOW_H
    if h < slow then some (b.put F.BDG_CHOICE_SCRUB_H (min (2 * h) slow), [(0, h)]) else none
  | 3 =>
    let st := b.get F.BDG_CHOICE_STRETCH
    if st < 16 then
      some (allPorts.foldl (fun c p => c.put (F.LNK_STAT_STRETCH p) (2 * st)) (b.put F.BDG_CHOICE_STRETCH (2 * st)), [])
    else
      match allPorts.find? fun p => bitAt (b.get F.BDG_SHED_X1) p && b.flag (F.FAB_PORT_X2 p)
          && !bitAt (b.get F.BDG_X1_NOW) p with
      | some p =>
        let b1 := b.put F.BDG_X1_NOW (setBit (b.get F.BDG_X1_NOW) p true)
        some (if b1.flag (F.LNK_L_STAT_JOINED (2 * p + 1)) then b1.dropLane (2 * p + 1) else b1, [(1, p)])
      | none => none
  | 4 =>
    if (b.get F.BDG_LIMITS_STANDBY_PREF == 0 || b.get F.BDG_LIMITS_STANDBY_PREF == 3) && b.get F.BDG_CHOICE_STANDBY == 0 then
      some (b.put F.BDG_CHOICE_STANDBY 1, [])
    else none
  | 5 =>
    let l := ((List.range 64).filter (b.dutyChannel b.feedsLoop)).filterMap fun n =>
      let g := b.dutyGrant n
      let lim := b.get (F.BDG_DUTY_MIN n)
      if lim < g then some (n, min 32 (g - lim)) else none
    if l.isEmpty then none
    else some (l.foldl (fun c e =>
      { c with pwr := { c.pwr with duty := insertKey c.pwr.duty e.1 (c.dutyGrant e.1 - e.2) } }) b, l)
  | _ =>
    match (List.range 60).reverse.find? fun g => bitAt b.shedGroups g && b.groupOn g && !b.shedNow.contains g with
    | some g => some (b, [(g, 0)])
    | none => none

/-- The first enabled rung that is not exhausted sheds a step (R514); with none left EXHAUSTED is set (R516). (DEDUCED, log entry 56.) -/
def Block.shed (b : Block) : Block :=
  let step := (([1, 2, 3, 4, 5, 6] : List Nat).filter fun r => bitAt (b.get F.BDG_LIMITS_RUNG_EN) (r - 1)).findSome? fun r =>
    (b.shedRung r).map fun x => (r, x.1, x.2)
  match step with
  | some (r, b1, l) =>
    let steps := ShedStep.mk r l :: b1.pwr.steps
    let b2 := { b1 with pwr := { b1.pwr with steps := steps, since := (0, 0), evals := 0, calm := 0 } }
    (((b2.put F.BDG_STAT_RUNG r).put F.BDG_STAT_STEPS (min 255 steps.length)).bump F.BDG_SHED_CNT).setGrant
  | none => b.put F.BDG_STAT_EXHAUSTED 1

/-- The last step shed is given back (R513 to R515); a group waits for the level that admits it. (DEDUCED, log entry 56.) -/
def Block.restore (b : Block) : Block :=
  match b.pwr.steps with
  | [] => b
  | s :: rest =>
    let need := ingestLevel (b.groupCount + 1)
    if s.rung = 6 && decide (b.get F.PWR_STAT_LEVEL_NOW < need) then
      if need ≤ b.get F.BDG_LIMITS_LEVEL_MAX then { b with pwr := { b.pwr with raise := need } } else b
    else
      let b1 : Block := match s.rung with
        | 1 => b.put F.BDG_CHOICE_EFFORT_CAP (b.get F.BDG_CHOICE_EFFORT_CAP + 1)
        | 2 => b.put F.BDG_CHOICE_SCRUB_H ((s.detail.head?.map (·.2)).getD (b.get F.BDG_SCRUB_SCRUB_FAST_H))
        | 3 =>
          match s.detail with
          | [(1, p)] =>
            let c := b.put F.BDG_X1_NOW (setBit (b.get F.BDG_X1_NOW) p false)
            if c.portActive p && !c.flag (F.LNK_STAT_X2_NOW p) then
              let e := (c.unjoin p).toExchange p
              e.setPort p { e.port p with lostLane := none }
            else c
          | _ =>
            let st := b.get F.BDG_CHOICE_STRETCH / 2
            allPorts.foldl (fun c p => c.put (F.LNK_STAT_STRETCH p) st) (b.put F.BDG_CHOICE_STRETCH st)
        | 4 => b.put F.BDG_CHOICE_STANDBY 0
        | 5 => s.detail.foldl (fun c e =>
            { c with pwr := { c.pwr with duty := insertKey c.pwr.duty e.1 (min 256 (c.dutyGrant e.1 + e.2)) } }) b
        | _ => b
      let b2 := { b1 with pwr := { b1.pwr with steps := rest, raise := 0, calm := 0 } }
      ((((b2.put F.BDG_STAT_RUNG ((rest.head?.map (·.rung)).getD 0)).put F.BDG_STAT_STEPS (min 255 rest.length)).put
        F.BDG_STAT_EXHAUSTED 0).bump F.BDG_RESTORE_CNT).setGrant

/-- An evaluation of Squirrel (R513, R514): the flags, one step shed or restored, the level. (DEDUCED, log entry 56.) -/
def Block.squirrel (b : Block) : Block :=
  let avg := b.get F.BDG_AVG_MW
  let pk := b.get F.BDG_PEAK_MW
  let cap : Int := (min 105 (b.get F.BDG_LIMITS_TJ_CAP_C) : Nat)
  let mean := b.window
  let hyst := 1000 - min 500 (b.get F.BDG_HYST)
  let overAvg := avg != 0 && decide (avg * mean.2 < mean.1)
  let overPeak := pk != 0 && decide (pk < b.pwr.peak)
  let overTj := decide (cap < b.tj)
  let evals := b.pwr.evals + 1
  let shedAvg := overAvg && decide (avg * b.pwr.since.2 < b.pwr.since.1) && decide (max 1 (b.get F.BDG_DWELL_SHED_EPOCHS) ≤ evals)
  let calmNow := (avg == 0 || decide (mean.1 * 1000 ≤ avg * hyst * mean.2)) && (pk == 0 || decide (b.pwr.peak * 1000 ≤ pk * hyst))
    && decide (b.tj ≤ cap - 5)
  let b1 := ((b.putB F.BDG_STAT_OVER_AVG overAvg).putB F.BDG_STAT_OVER_PEAK overPeak).putB F.BDG_STAT_OVER_TJ overTj
  let b2 := if overPeak then b1.bump F.BDG_PEAK_CNT else b1
  let b3 := if overTj then b2.bump F.BDG_TJ_CNT else b2
  let b4 := { b3.setLevel 193 overTj (b3.get F.BDG_TJ) with pwr := { b3.pwr with
    evals := evals, peak := 0, evalTick := b.tick, calm := if calmNow then b.pwr.calm + 1 else 0 } }
  let b5 :=
    if shedAvg || overPeak || overTj then b4.shed
    else if calmNow && decide (max 1 (b.get F.BDG_DWELL_RESTORE_EPOCHS) ≤ b4.pwr.calm) then b4.restore
    else b4
  let b6 := b5.setLevel 192 (b5.flag F.BDG_STAT_EXHAUSTED)
    (b5.get F.BDG_STAT_EXHAUSTED * 2 ^ 31 + b5.get F.BDG_STAT_OVER_AVG * 2 ^ 30 + b5.get F.BDG_STAT_OVER_PEAK * 2 ^ 29
      + b5.get F.BDG_STAT_OVER_TJ * 2 ^ 28 + b5.get F.BDG_STAT_RUNG * 2 ^ 24 + b5.get F.BDG_STAT_STEPS * 2 ^ 16)
  b6.chooseLevel

end Sys2Proof.Machine
end

