-- ==== Sys2Proof/Machine/Access.lean ====
section
/-! DEFINITION. What every register access meets before it reaches a register: authorisation, the fence, the power domain, the
register map, the tiers, and the wide values (R6, R22, R24, R72 to R74, R108, R575, R582). -/

namespace Sys2Proof

/-- A requester's number: a node by its ID, then the Owl and the two warren cores (R73). -/
def Requester.code : Requester → Nat
  | .node n => n
  | .owl => 4096
  | .warren k => 4097 + k % 2

/-- A warren core. -/
def Requester.isWarren : Requester → Bool
  | .warren _ => true
  | _ => false

end Sys2Proof

namespace Sys2Proof.Machine

open Sys2Proof

/-- A module whose last CAP reports the CFG_GEN of the running image (R575). -/
def Block.sameConfig (b : Block) (n : Nat) : Bool :=
  b.fab.caps.any fun c => c.2.nodeValid && c.2.node == n && c.2.cfgGen == b.get F.IDN_CFGGEN

/-- Authorised requesters (R575). -/
def Block.authorised (b : Block) : Requester → Bool
  | .node n => b.isHost n || b.sameConfig n
  | _ => true

/-- The UNIT of an address: a block by its base, or 20 + t for tile t (R103, R104). -/
def unitOf (addr : Nat) : Nat :=
  match tileOf addr with
  | some t => 20 + t
  | none => addr / 0x10000

/-- The expert-enable bit of the address's unit is set in the running image (R104). -/
def Block.unlocked (b : Block) (addr : Nat) : Bool := bitAt (b.get F.SEC_EXPERT) (unitOf addr)

/-- The register holds a Tier O field (R9). -/
def RegRow.tierO (r : RegRow) : Bool := r.bits.any fun x => x.tier == .o

/-- The address holds a Tier O field. -/
def tierOAt (addr : Nat) : Bool :=
  match regRow addr with
  | some r => r.tierO
  | none => false

/-- What the hardware fences from a warren core, of what has an address: SEC and Tier O fields (R108). -/
def fenced (addr : Nat) : Bool := addr / 0x10000 == 0x11 || tierOAt addr

/-- The domain whose gating an access to the address meets (R22): a tile's, a port's. The active concentrator's own is on
while it serves. -/
def domainAt (addr : Nat) : Option Nat :=
  match tileOf addr with
  | some t => some t
  | none =>
    if decide (0xe0000 ≤ addr) && decide (addr < 0xe1000) then some (8 + (addr - 0xe0000) / 512) else none

/-- An access of a warren core that the fence refuses (R108): counted, and an edge of source 217. -/
def Block.fence (b : Block) (who : Requester) : Block :=
  (b.bump F.SEC_FENCE_CNT).raise 217 (2 ^ 15 + who.code % 4096)

/-- The refusals that come before a register is reached, in their order: authorisation, the fence and Tier O, the domain, the
map. (DEDUCED, log entry 28.) -/
def Block.refuse (b : Block) (who : Requester) (addr : Nat) (wr : Bool) : Option (Block × Status) :=
  if !b.authorised who && (wr || decide (0x10000 ≤ addr)) then some (b.bump F.SYS_DENY_CNT, .accessDenied)
  else if who.isWarren && fenced addr then some (b.fence who, .accessDenied)
  else if tierOAt addr && !(who == .owl) then some (b, .accessDenied)
  else
    match domainAt addr with
    | some d =>
      if b.get (F.PWR_D_STAT_STATE d) ≠ 2 then some (offAccess d b)
      else if (regRow addr).isNone then some (b.bump F.SYS_BADADDR, .noReg)
      else none
    | none => if (regRow addr).isNone then some (b.bump F.SYS_BADADDR, .noReg) else none

/-- The access of an address with a domain that is on keeps its ACCESS vote alive (R509). -/
def Block.touched (b : Block) (addr : Nat) : Block :=
  match domainAt addr with
  | some d => b.touchDom d
  | none => b

/-! ### Words and fields (R6, R7) -/

/-- The word of a register as its fields stand. -/
def Block.wordAt (b : Block) (addr : Nat) : Nat :=
  match regRow addr with
  | some r => (r.bits.map fun x => b.get (bitField addr x) % 2 ^ x.width * 2 ^ x.lo).sum
  | none => 0

/-- The bits of a word that a field covers. -/
def RegBit.ofWord (x : RegBit) (w : Nat) : Nat := w / 2 ^ x.lo % 2 ^ x.width

/-- A write of one field by its access code (R6). -/
def Block.writeBit (b : Block) (addr w : Nat) (x : RegBit) : Block :=
  let f := bitField addr x
  match x.acc with
  | .rw => b.put f (x.ofWord w)
  | .w1c => b.put f (Nat.land (b.get f) (2 ^ x.width - 1 - x.ofWord w))
  | .w1s => b.put f (Nat.lor (b.get f) (x.ofWord w))
  | _ => b

/-- A write of a register by R6 and R7 alone. -/
def Block.writeFields (b : Block) (addr w : Nat) : Block :=
  match regRow addr with
  | some r => r.bits.foldl (fun c x => c.writeBit addr w x) b
  | none => b

/-- The register holds an RW field (R564). -/
def hasRw (addr : Nat) : Bool :=
  match regRow addr with
  | some r => r.bits.any fun x => x.acc == .rw
  | none => false

/-- The Tier E fields of a register that this requester's write cannot change (R108, R582). -/
def Block.lockedBits (b : Block) (who : Requester) (addr : Nat) : List RegBit :=
  match regRow addr with
  | some r => r.bits.filter fun x => x.tier == .e && x.acc != .ro && (who.isWarren || !b.unlocked addr)
  | none => []

/-- What a locked field takes in place of the word's bits: its own value, of the register's word `cur`, where it is RW; zero where it
acts on ones. (DEDUCED, log entry 67.) -/
def lockedValue (cur : Nat) (x : RegBit) : Nat :=
  match x.acc with
  | .rw => x.ofWord cur
  | _ => 0

/-- The word with its locked fields left as they are, and whether the write would have changed one (R582). (DEDUCED, log entry 67.) -/
def Block.maskWord (b : Block) (who : Requester) (addr cur w : Nat) : Nat × Bool :=
  (b.lockedBits who addr).foldl (fun a x =>
    let keep := lockedValue cur x
    (a.1 - x.ofWord a.1 * 2 ^ x.lo + keep * 2 ^ x.lo, a.2 || x.ofWord w != keep)) (w, false)

/-! ### Wide values (R72 to R74) -/

/-- A register's place in a wide value. -/
def wideAt (addr : Nat) : Wide :=
  match regRow addr with
  | some r => r.wide
  | none => .no

/-- A write to a _LO register of an RW pair is held for its requester (R74). -/
def Block.hold (b : Block) (who : Requester) (addr w : Nat) : Block :=
  { b with access := { b.access with held := insertKey b.access.held who.code ⟨addr, w⟩ } }

/-- The held _LO word of a requester that the write of this _HI register completes (R74). -/
def Block.heldFor (b : Block) (who : Requester) (hi : Nat) : Option Nat :=
  match lookup b.access.held who.code with
  | some h => if h.addr + 4 = hi then some h.word else none
  | none => none

/-- The held _LO word of a requester taken up. -/
def Block.dropHeld (b : Block) (who : Requester) : Block :=
  { b with access := { b.access with held := eraseKey b.access.held who.code } }

/-- The shadow of a requester replaced (R72, R73). -/
def Block.setShadow (b : Block) (who : Requester) (addr high : Nat) : Block :=
  { b with access := { b.access with shadows := insertKey b.access.shadows who.code ⟨addr, high⟩ } }

/-- The shadow of a requester emptied. -/
def Block.dropShadow (b : Block) (who : Requester) : Block :=
  { b with access := { b.access with shadows := eraseKey b.access.shadows who.code } }

/-- A write that reaches its register (R74, R108, R582): a _LO is held; else `op` acts with the held low word, if one waits, and
the word, locked fields masked out of both, and the tiers give the status. `value` gives any register's word at this tick. (DEDUCED, log entry 28.) -/
def guardedWrite (who : Requester) (addr w : Nat) (value : Block → Nat → Nat) (op : Option Nat → Nat → Block → Block × Status) (b : Block) : Block × Status :=
  match b.refuse who addr true with
  | some r => r
  | none =>
    let b0 := b.touched addr
    if wideAt addr == .lo && hasRw addr then (b0.hold who addr w, .ok)
    else
      let low := if wideAt addr == .hi then b0.heldFor who addr else none
      let b1 := if low.isSome then b0.dropHeld who else b0
      let hi := b1.maskWord who addr (value b1 addr) w
      let lo := low.map (b1.maskWord who (addr - 4) (value b1 (addr - 4)))
      let r := op (lo.map (·.1)) hi.1 b1
      if (hi.2 || (lo.map (·.2)).getD false) && r.2 == .ok then
        if who.isWarren then (r.1.fence who, .accessDenied) else (r.1.bump F.SYS_TIERLOCK_CNT, .tierLocked)
      else r

/-- The generic register write (R6, R7, R74). -/
def fieldsOp (addr : Nat) (lo : Option Nat) (w : Nat) (b : Block) : Block × Status :=
  ((match lo with
    | some l => b.writeFields (addr - 4) l
    | none => b).writeFields addr w, .ok)

/-- The RC fields of a register cleared by a completed read (R6). -/
def Block.clearRc (b : Block) (addr : Nat) : Block :=
  match regRow addr with
  | some r => r.bits.foldl (fun c x => if x.acc == .rc then c.put (bitField addr x) 0 else c) b
  | none => b

/-- A read that reaches its register: `value` gives any register's word at this tick (R6, R71, R72). (DEDUCED, log entry 28.) -/
def guardedRead (who : Requester) (addr : Nat) (value : Block → Nat → Nat) (b : Block) : Block × Status × Nat :=
  match b.refuse who addr false with
  | some (b1, st) => (b1, st, 0)
  | none =>
    let b1 := b.touched addr
    let w := value b1 addr
    match wideAt addr with
    | .lo => ((b1.setShadow who addr (value b1 (addr + 4))).clearRc addr, .ok, w)
    | .hi =>
      match lookup b1.access.shadows who.code with
      | some s => if s.addr + 4 = addr then (b1.dropShadow who, .ok, s.high) else (b1, .unlatched, w)
      | none => (b1, .unlatched, w)
    | .no => (b1.clearRc addr, .ok, w)

end Sys2Proof.Machine
end

