-- ==== Sys2Proof/Machine/Irq.lean ====
section
/-! DEFINITION. The event-record queue controller (R525 to R544). -/

namespace Sys2Proof.Machine

open Sys2Proof

/-- The active concentrator's domain is on (R22, R538). -/
def Block.ccOn (b : Block) : Bool := b.phase.railsOn && b.get (F.PWR_D_STAT_STATE b.activeDom) == 2

/-- The queue of a target, oldest record first. -/
def Block.queueOf (b : Block) (t : Nat) : List EventRecord := lookupD b.irq.queues t []

/-- Records a queue holds (R525). -/
abbrev queueDepth : Nat := 4096

/-- The source's setting fields (R544). -/
def Block.masked (b : Block) (s : Nat) : Bool := b.flag (F.IRQ_SRC_MASK s)

/-- A source is pending (R527). -/
def SrcSt.pending (x : SrcSt) : Bool := x.active && x.inService.isNone

/-- The enabled targets of a source (R529). -/
def Block.targetsOf (b : Block) (s : Nat) : List Nat :=
  ([0, 1, 2, 3, 4] : List Nat).filter fun t => bitAt (b.get (F.IRQ_SRC_TARGETS s)) t && b.flag (F.IRQ_TGT_CFG_EN t)

/-- The enabled targets of a source with free space (R527). -/
def Block.openTargets (b : Block) (s : Nat) : List Nat :=
  (b.targetsOf s).filter fun t => decide ((b.queueOf t).length < queueDepth)

/-- A source is eligible (R527). -/
def Block.srcEligible (b : Block) (s : Nat) : Bool :=
  (b.source s).pending && !b.masked s && !(b.openTargets s).isEmpty

/-- The source the controller claims: the highest PRIORITY, then the lowest number (R528); a controller that starts claims IRQ_RESTART
first, and PAIR_TAKEOVER after it (R539, R541). (DEDUCED, log entry 11.) -/
def Block.claimed (b : Block) : Option Nat :=
  if b.srcEligible 224 then some 224
  else if b.srcEligible 208 then some 208
  else ((b.irq.src.map (·.1)).filter b.srcEligible).foldl (fun a s =>
    match a with
    | none => some s
    | some r => if b.get (F.IRQ_SRC_PRIORITY r) < b.get (F.IRQ_SRC_PRIORITY s) then some s else some r) none

/-- The target that takes a source's record: the next open one after the last, in ascending order and round from 4 to 0; the
first record goes to the lowest (R529). -/
def nextTarget (l : List Nat) (last : Option Nat) : Option Nat :=
  match last with
  | none => l.head?
  | some t => ((l.filter fun x => decide (t < x)) ++ l).head?

/-- A held source: every enabled target it names has a full queue (R530). -/
def Block.heldFull (b : Block) (s : Nat) : Bool :=
  (b.source s).pending && !b.masked s && !(b.targetsOf s).isEmpty && (b.openTargets s).isEmpty

/-- Each source newly held by full queues is counted once, and its next record carries OVERFLOW (R530). (DEDUCED, log entry 58.) -/
def Block.markFull (b : Block) : Block :=
  (b.irq.src.map (·.1)).foldl (fun c s =>
    let x := c.source s
    if c.heldFull s then if x.held then c else (c.setSource s { x with held := true, full := true }).bump F.IRQ_FULL_CNT
    else if x.held then c.setSource s { x with held := false } else c) b

/-- The four words of an event record (R534). -/
def eventWords (s t seq : Nat) (x : SrcSt) : List Nat :=
  [s + b2n (irqIsLevel s) * 2 ^ 9 + b2n x.full * 2 ^ 10 + b2n x.poison * 2 ^ 11 + t * 2 ^ 12 + 2 ^ 15 + seq % 2 ^ 16 * 2 ^ 16,
    x.stamp.ns, x.stamp.w1 / 2 ^ 18 * 2 ^ 18 + x.count * 2 ^ 10, x.payload]

/-- The 24-byte body of a notify frame (R536). -/
def Block.notifyBody (b : Block) : List Nat :=
  match b.queueOf 3 with
  | [] => []
  | r :: _ => leBytes 2 (b.get F.IDN_NODE_NODE_ID) ++ leBytes 2 (b.queueOf 3).length ++ leBytes 2 r.seq ++ [0, 0] ++ wordBytes r.words

/-- A notify frame to the station host (R535, R536). (DEDUCED, log entry 68.) -/
def Block.notify (b : Block) : Block :=
  let b1 := b.post (.node (b.get (F.IRQ_TGT_CFG_NODE 3))) 0 (.notify b.notifyBody)
  { b1 with irq := { b1.irq with notified := some b.tick } }

/-- The record of a source written to a target's queue at the claim instant (R528, R534, R535). -/
def Block.claim (b : Block) (s t : Nat) : Block :=
  let x := b.source s
  let seq := lookupD b.irq.seqs t 0
  let q := b.queueOf t
  let rec_ : EventRecord := ⟨s, seq, eventWords s t seq x⟩
  let b1 := b.setSource s { x with
    active := x.active && irqIsLevel s, inService := some (t, seq), count := 0, full := false, held := false, last := some t }
  let b2 := { b1 with irq := { b1.irq with
    queues := insertKey b1.irq.queues t (q ++ [rec_]), seqs := insertKey b1.irq.seqs t ((seq + 1) % 2 ^ 16) } }
  let b3 := (b2.bump64 F.IRQ_CLAIM_CNT_LO F.IRQ_CLAIM_CNT_HI 1).put (F.IRQ_TGT_HWM t)
    (max (b.get (F.IRQ_TGT_HWM t)) (q.length + 1))
  if t = 3 && q.isEmpty then b3.notify else b3

/-- The controller works: its concentrator is on, and Fill has ended (R8, R538). -/
def Block.irqWorks (b : Block) : Bool := b.ccOn && b.phase != .fill

/-- IRQ_CLAIM: one tick of the controller (R528, R530). -/
def irqClaim (b : Block) : Block :=
  whenDue b.irqWorks (fun b =>
    let b1 := b.markFull
    match b1.claimed with
    | some s =>
      match nextTarget (b1.openTargets s) (b1.source s).last with
      | some t => b1.claim s t
      | none => b1
    | none => b1) b

/-- IRQ_CLAIM (R528). -/
def execIrqClaim (s : State) : Host.Outcome State Fault Refusal :=
  onHw (Instr.wf .irqClaim) s irqClaim

/-- An acknowledgement of a source (R532). (DEDUCED, log entry 58.) -/
def Block.ackSource (b : Block) (s : Nat) : Block :=
  let x := b.source s
  if x.inService.isNone then b.bump F.IRQ_BADACK_CNT
  else
    let b1 := b.setSource s { x with inService := none }
    if irqIsLevel s && !x.active then b1.bump F.IRQ_STALE_ACK else b1

/-- A write of IRQ_ACK (R532). -/
def irqAckOp (w : Nat) (b : Block) : Block × Status := (b.ackSource (w % 512), .ok)

/-- The payload of a SOFT source: LOCAL and the core, or the requester node (R541). -/
def softPayload : Requester → Nat
  | .node n => n % 4096
  | .owl => 2 ^ 15
  | .warren k => 2 ^ 15 + 1 + k % 2

/-- A write of IRQ_RAISE (R541). -/
def irqRaiseOp (who : Requester) (w : Nat) (b : Block) : Block × Status :=
  if w % 512 < 256 then (b.bump F.IRQ_BADACK_CNT, .ok) else (b.raise (w % 512) (softPayload who), .ok)

/-- The requesters that may read and pop a target's window (R537). -/
def Block.mayPop (b : Block) (who : Requester) (t : Nat) : Bool :=
  match t with
  | 0 => who == .owl
  | 1 => who == .warren 0
  | 2 => who == .warren 1
  | 3 => who == .node (b.get (F.IRQ_TGT_CFG_NODE 3))
  | _ => true

/-- A write of POP (R532, R537). (DEDUCED, log entry 58.) -/
def irqPopOp (who : Requester) (t w : Nat) (b : Block) : Block × Status :=
  if !b.mayPop who t then (b, .accessDenied)
  else if w % 2 = 0 then (b, .ok)
  else
    match b.queueOf t with
    | [] => (b.bump F.IRQ_BADACK_CNT, .ok)
    | r :: rest =>
      let b1 := { b with irq := { b.irq with
        queues := insertKey b.irq.queues t rest, notified := if t = 3 then none else b.irq.notified } }
      if b1.flag (F.IRQ_SRC_AUTO_ACK r.source) && (b1.source r.source).inService == some (t, r.seq) then
        (b1.ackSource r.source, .ok)
      else (b1, .ok)

/-- NOTIFY_REPEAT (R535). -/
def notifyRepeat (b : Block) : Block :=
  let ms := b.get (F.IRQ_TGT_CFG_NOTIFY_MS 3)
  let due := match b.irq.notified with
    | some t => decide (t + ms * msTicks ≤ b.tick)
    | none => false
  whenDue (b.irqWorks && due && ms != 0 && b.flag (F.IRQ_TGT_CFG_EN 3) && !(b.queueOf 3).isEmpty) Block.notify b

/-- NOTIFY_REPEAT (R535). -/
def execNotifyRepeat (s : State) : Host.Outcome State Fault Refusal :=
  onHw (Instr.wf .notifyRepeat) s notifyRepeat

/-- A level source still active as the controller that starts finds it: pending, with no new rise (R526, R539). (DEDUCED, log entry 58.) -/
def SrcSt.anew (x : SrcSt) : SrcSt := { x with inService := none, count := 0, full := false, held := false, last := none }

/-- The controller starts: empty queues, SEQ 0, nothing pending; IRQ_RESTART latched with its payload (R539, R540). A level
source still active stays so and is claimed anew. -/
def Block.startIrq (b : Block) (payload : Nat) : Block :=
  let still : Table SrcSt := b.irq.src.filter fun e => irqIsLevel e.1 && e.2.active
  let src : Table SrcSt := still.map fun e => (e.1, e.2.anew)
  { b with irq := { src := src, queues := [], seqs := [], notified := none } }.raise 224 payload

/-! ### Pins and lines (R82, R535) -/

/-- ALARM_N is driven low (R82, R535, R538, R540). (DEDUCED, log entry 68.) -/
def Block.alarmLow (b : Block) : Bool :=
  b.phase == .safeConfig || b.phase == .fault
    || (b.phase.railsOn && b.phase != .fill && b.flag (F.IRQ_TGT_CFG_EN 4) && !(b.queueOf 4).isEmpty)

/-- The interrupt line of core target t = 0 to 2 is asserted (R535). -/
def Block.coreLine (b : Block) (t : Nat) : Bool :=
  b.irqWorks && b.flag (F.IRQ_TGT_CFG_EN t) && !(b.queueOf t).isEmpty

/-- LIVE is high (R82). (DEDUCED, log entry 68.) -/
def Block.liveHigh (b : Block) : Bool := b.phase == .live

/-! ### What the registers show (R542 to R544) -/

/-- The live fields of the IRQ block, by address. -/
def Block.irqWord (b : Block) (addr : Nat) : Option Nat :=
  if addr = 0x40000 then some (([0, 1, 2, 3, 4] : List Nat).map fun t => b2n (!(b.queueOf t).isEmpty) * 2 ^ t).sum
  else if decide (0x40100 ≤ addr) && decide (addr < 0x40240) then
    let t := (addr - 0x40100) / 0x40
    let o := (addr - 0x40100) % 0x40
    if o = 4 then some (lookupD b.irq.seqs t 0 * 2 ^ 16 + (b.queueOf t).length)
    else if 0x10 ≤ o && o < 0x20 then
      some ((((b.queueOf t).head?.map (·.words)).getD []).getD ((o - 0x10) / 4) 0)
    else none
  else if decide (0x41000 ≤ addr) && decide (addr < 0x41800) then
    let s := (addr - 0x41000) / 4
    let x := b.source s
    some (b2n x.active * 2 ^ 31 + b2n x.pending * 2 ^ 30 + b2n x.inService.isSome * 2 ^ 29 + b.get (F.IRQ_SRC_MASK s) * 2 ^ 28
      + b.get (F.IRQ_SRC_AUTO_ACK s) * 2 ^ 27 + b2n (irqIsLevel s) * 2 ^ 26 + x.count * 2 ^ 16
      + b.get (F.IRQ_SRC_PRIORITY s) * 2 ^ 8 + b.get (F.IRQ_SRC_TARGETS s))
  else none

end Sys2Proof.Machine
end

