-- ==== Sys2Proof/Machine/Reset.lean ====
section
/-! DEFINITION. A module reset (R8, R80, R505), and the self-diagnosis of the concentrator pair, which may end in one (R566). -/

namespace Sys2Proof.Machine

open Sys2Proof

/-- What no reset changes of the registers: the identity and the steppings (R26). (DEDUCED, log entry 12.) -/
def identityKey (k : Nat) : Bool := ([0x4, 0x8, 0x10, 0x14, 0x18] : List Nat).contains (k / 32)

/-- Fields marked "kept" (R505): PWR_WAKE, PWR_HIB_LANE, PWR_HIB_TIMER, BDG_E_TOTAL, PAIR_LAST, PAIR_LAST_NS, PAIR_TKO_CNT and
PAIR_GAP. (DEDUCED, log entry 12.) -/
def keptKey (k : Nat) : Bool :=
  ([0x20004, 0x20008, 0x2000c, 0x30010, 0x30014, 0x100010, 0x100014, 0x100018, 0x10001c] : List Nat).contains (k / 32)

/-- Causes of SYS_STATE.RESET_CAUSE (R86). -/
abbrev causePor : Nat := 0
abbrev causePin : Nat := 1
abbrev causeWake : Nat := 2
abbrev causeRestart : Nat := 3

/-- Bytes written to the flash from an offset; one that reads as erased is not listed. -/
def flashPut (f : Table Byte) : Nat → List Nat → Table Byte
  | _, [] => f
  | a, v :: l => flashPut (if v % 256 = 255 then eraseKey f a else insertKey f a (BitVec.ofNat 8 v)) (a + 1) l

/-- What a failed or cut-off operation leaves of the range that it was changing (R91, R116): free values. (DESIGN CHOICE, log entry 25.) -/
def Block.flashTorn (b : Block) (r : NvmRun) : Table Byte :=
  let at_ := if r.op = 1 then r.addr / 0x10000 * 0x10000 else r.addr
  let n := if r.op = 1 then 0x10000 else if r.op = 2 then 256 else 0
  flashPut b.boot.flash at_ ((List.range n).map fun i => Config.flashLeft b.free i)

/-- The module in Off after a reset with a RESET_CAUSE (R8, R80, R86, R505): power-on keeps no kept field. The tick count, the
flash, the fuses and the wear store are not of the module's volatile state; the oven and its on-time go on through any reset but power-on
(R212). (DEDUCED, log entry 12.) -/
def Block.toOff (b : Block) (cause : Nat) (powerOn : Bool) : Block :=
  let ovn := !powerOn && b.get (F.PWR_D_STAT_STATE 17) == 2
  { Block.reset with
    regs := b.regs.filter fun e => identityKey e.1 || (keptKey e.1 && !powerOn) || (ovn && e.1 == (F.PWR_D_STAT_STATE 17).key)
    time := if ovn then { TimeSt.reset with warmSec := b.time.warmSec, warmTicks := b.time.warmTicks } else TimeSt.reset
    tick := b.tick
    wire := b.wire
    free := b.free + 1
    boot := { BootSt.reset with
      flash := match b.boot.nvm with
        | some r => b.flashTorn r
        | none => b.boot.flash
      fuses := b.boot.fuses }
    wear := if powerOn then { b.wear with now := b.wear.store } else b.wear }.put F.SYS_STATE_RESET_CAUSE cause

/-- The standby is eligible for takeover: WARM or HOT (R562). -/
def Block.sbEligible (b : Block) : Bool := b.get F.PAIR_STAT_SB_STATE == 3 || b.get F.PAIR_STAT_SB_STATE == 4

/-- Source PAIR_STANDBY_LOST follows the standby's state (R562). -/
def Block.showStandby (b : Block) : Block := b.setLevel 209 (!b.sbEligible) 0

/-- YIELD is asserted with a cause (R566, R567, R568): T0. -/
def Block.yield (b : Block) (cause : Nat) : Block :=
  let t := b.stampRaw
  let b1 := ((((b.put F.PAIR_LAST_CAUSE cause).put F.PAIR_LAST_WARM (b2n (b.get F.PAIR_STAT_SB_STATE == 3))).put
    F.PAIR_LAST_RESET 0).put F.PAIR_LAST_FROM_CC b.active)
  let b2 := (b1.put F.PAIR_LAST_WRAP (tsWrap t)).put F.PAIR_LAST_NS (tsNs t)
  { b2 with pair := { b2.pair with
    yielded := some cause, gap := some b.tick, stamp := b.stamp, warm := b.get F.PAIR_STAT_SB_STATE == 3, switchDue := false } }

/-- A cause of R566 arises on the active concentrator: YIELD with an eligible standby; without one DEGRADED for codes 5 and 6, else a
module reset that PAIR_LAST records. A second cause at T0 leaves the lower code. (DEDUCED, log entry 60.) -/
def Block.diagnose (b : Block) (cause : Nat) : Block :=
  match b.pair.yielded with
  | some c => if b.pair.gap = some b.tick && decide (cause < c) then b.put F.PAIR_LAST_CAUSE cause else b
  | none =>
    if b.sbEligible then b.yield cause
    else if cause = 5 || cause = 6 then b.put F.PAIR_STAT_DEGRADED 1
    else (((b.put F.PAIR_LAST_CAUSE cause).put F.PAIR_LAST_WARM 0).put F.PAIR_LAST_RESET 1).toOff causeRestart false

end Sys2Proof.Machine
end

