-- ==== Sys2Proof/Machine/Ecc.lean ====
section
/-! DEFINITION. Memory protection: corrections, poison, residue mismatches, Hedgehog (R546 to R560). -/

namespace Sys2Proof.Machine

open Sys2Proof

/-- The region of an address (R558, R20, R22). (DEDUCED, log entry 59.) -/
def regionOf (a : Nat) : Nat :=
  if 0x0100000000 ≤ a then
    if a < 0x0500000000 then 1 else if a < 0x0580000000 then 2 else if a < 0x0680000000 then 3
    else if a < 0x0684000000 then 4 else 5
  else
    match tileOf a with
    | some t => 0x20 + t
    | none => if a / 0x10000 = 5 then 0x28 else if a / 0x10000 = 4 then 0x11 else 0x12

/-- The regions marked critical (R558). -/
def critical (r : Nat) : Bool := decide (0x10 ≤ r) && decide (r ≤ 0x13)

/-- A correction counted against its region's threshold (R559). -/
def Block.countWindow (b : Block) (r : Nat) : Block :=
  match lookup b.ecc.windows r with
  | none => b
  | some w =>
    let limit := b.get (F.ECC_R_THR_LIMIT r)
    let cross := limit != 0 && decide (limit < w.count + 1) && !w.hit
    let b1 := { b with ecc := { b.ecc with windows := insertKey b.ecc.windows r ⟨w.start, w.count + 1, w.hit || cross⟩ } }
    if cross then b1.raise 200 r else b1

/-- A correction of the active stack's DRAM in what the wear store follows (R611). -/
def Block.wearCorr (b : Block) (r : Nat) : Block :=
  if decide (1 ≤ r) && decide (r ≤ 5) then
    { b with wear := { b.wear with now := { b.wear.now with corr := modifyKey b.wear.now.corr b.active 0 (· + 1) } } }
  else b

/-- A correctable error found at an address (R548). -/
def Block.corrected (b : Block) (r a pos : Nat) : Block :=
  let b1 := ((b.wearCorr r).bump (F.ECC_R_CORR_CNT r)).put F.ECC_STAT_LAST_CORR_REGION r
  ((((b1.put F.ECC_LAST_CORR_LO (a % 2 ^ 32)).put F.ECC_LAST_CORR_HI_ADDR_HI (a / 2 ^ 32)).put F.ECC_LAST_CORR_HI_POSITION pos).putB
    F.ECC_LAST_CORR_HI_DRAM (decide (0x0100000000 ≤ a))).countWindow r

/-- An uncorrectable error found at an address: counted, recorded, and CRITICAL set where its region is critical (R548, R552). -/
def Block.uncorrected (b : Block) (r a : Nat) : Block :=
  let b1 := (b.bump (F.ECC_R_UNC_CNT r)).put F.ECC_STAT_LAST_UNC_REGION r
  let b2 := ((b1.put F.ECC_LAST_UNC_LO (a % 2 ^ 32)).put F.ECC_LAST_UNC_HI (a / 2 ^ 32)).raise 201 r
  if critical r then b2.put F.ECC_STAT_CRITICAL 1 else b2

/-- CRITICAL set by what a command found is cause 2 of the self-diagnosis (R552, R566). -/
def Block.actCritical (b before : Block) : Block :=
  if b.flag F.ECC_STAT_CRITICAL && !before.flag F.ECC_STAT_CRITICAL then b.diagnose 2 else b

/-- The 64 data bits of a word with the bits of an uncorrected upset inverted: which they are at a position, Config leaves
open. -/
def flipped (dram : Bool) (u : Upset) (v : Nat) : Nat :=
  Nat.xor (Nat.xor v (Config.upsetBits dram u.pos % 2 ^ 64)) (Config.upsetBits dram (u.pos + 1) % 2 ^ 64)

/-- The DRAM word at an address is written back as read and marked poisoned (R548, R549). -/
def Block.poisonWord (b : Block) (w : Nat) (u : Upset) : Block :=
  let b1 := if 0x0100000000 ≤ w * 8 then
      { b with dram := writeBytes b.dram (w * 8) (leBytes 8 (flipped true u (leVal (b.load (w * 8) 8)))) }
    else { b with ecc := { b.ecc with flips := insertKey b.ecc.flips w (flipped false u 0) } }
  b1.mark (w * 8)

/-- A read checks a word: an upset is corrected, or the word is poisoned; a poisoned word counts nothing (R548). -/
def Block.check (b : Block) (w : Nat) : Block :=
  match lookup b.ecc.upsets w with
  | none => b
  | some u =>
    let b1 := { b with ecc := { b.ecc with upsets := eraseKey b.ecc.upsets w } }
    if u.double then (b1.poisonWord w u).uncorrected (regionOf (w * 8)) (w * 8)
    else b1.corrected (regionOf (w * 8)) (w * 8) u.pos

/-- The words of a range that hold an upset. -/
def Block.upsetsIn (b : Block) (a n : Nat) : List Nat :=
  (b.ecc.upsets.filter fun e => decide (e.1 * 8 < a + n) && decide (a < e.1 * 8 + 8)).map (·.1)

/-- A read of a range checks every word of it (R548). -/
def Block.checkRange (b : Block) (a n : Nat) : Block := (b.upsetsIn a n).foldl Block.check b

/-- A residue mismatch of a unit (R553): counted in both places, and against RES_LIMIT within 1 s (R566). -/
def Block.residueMismatch (b : Block) : Block :=
  let b1 := ((b.bump F.ECC_RESIDUE_CNT).bump (F.ECC_R_CORR_CNT 0x30)).countWindow 0x30
  let l := b1.tick :: b1.pair.residue.filter fun t => decide (b1.tick < t + sTicks)
  let b2 := { b1 with pair := { b1.pair with residue := l } }.put F.PAIR_RESIDUE_PEAK (max (b1.get F.PAIR_RESIDUE_PEAK) l.length)
  if b2.get F.PAIR_DIAG_RES_LIMIT < l.length then b2.diagnose 5 else b2

/-- An armed RESIDUE injection of a unit acts at the unit's next operation, once (R586): whether it acts, and the state after. (DEDUCED, log entry 59.) -/
def Block.takeResidue (b : Block) (unit : Nat) : Bool × Block :=
  if bitAt (b.get F.TST_STAT_MASK) 5 && bitAt b.tst.residue unit then
    (true, ({ b with tst := { b.tst with
      residue := setBit b.tst.residue unit false, epochMask := setBit b.tst.epochMask 5 true } }.bump F.TST_INJ_CNT).residueMismatch)
  else (false, b)

/-! ### Hedgehog (R556, R557) -/

/-- The last SRAM address and the first and last DRAM address that Hedgehog reads, in that order. -/
abbrev sramEnd : Nat := 0x140000
abbrev dramBase : Nat := 0x0100000000
abbrev dramEnd : Nat := 0x0700000000

/-- The next address scrubbed. -/
def Block.scrubPos (b : Block) : Nat := b.get F.ECC_SCRUB_POS_LO + 2 ^ 32 * b.get F.ECC_SCRUB_POS_HI

/-- The scrub position one word on; at the end of a pass it starts again. (DEDUCED, log entry 59.) -/
def Block.scrubNext (b : Block) : Block :=
  let a := b.scrubPos + 8
  let a1 := if a = sramEnd then dramBase else a
  if dramEnd ≤ a1 then (((b.put F.ECC_SCRUB_POS_LO 0).put F.ECC_SCRUB_POS_HI 0).bump F.ECC_SCRUB_PASSES)
  else (b.put F.ECC_SCRUB_POS_LO (a1 % 2 ^ 32)).put F.ECC_SCRUB_POS_HI (a1 / 2 ^ 32)

/-- Two upsets of one word: they stay correctable only where they fall on one symbol (R546). (DEDUCED, log entry 59.) -/
def Upset.join (x y : Upset) : Upset := ⟨min x.pos y.pos, x.double || y.double || x.pos != y.pos⟩

/-- An upset that the environment has put into a word joins what the word holds; a poisoned word takes none (R548, R549). -/
def Block.upset (b : Block) (w : Nat) (u : Option Upset) : Block :=
  match u with
  | some x =>
    if (lookup b.poison w).isSome then b
    else { b with ecc := { b.ecc with upsets := modifyKey b.ecc.upsets w x fun y => if (lookup b.ecc.upsets w).isSome then x.join y else x } }
  | none => b

/-- The regions of the region table (R558). -/
def eccRegions : List Nat := [1, 2, 3, 4, 5, 0x10, 0x11, 0x12, 0x13, 0x14, 0x15, 0x16, 0x20, 0x21, 0x22, 0x23, 0x28, 0x30]

/-- The length of a region's window in ticks (R559). -/
def Block.windowTicks (b : Block) (r : Nat) : Nat := clampN 1 720 (b.get (F.ECC_R_THR_WINDOW_H r)) * hTicks

/-- A new window of a region from a tick. -/
def Block.newWindow (b : Block) (r t : Nat) : Block :=
  { b with ecc := { b.ecc with windows := insertKey b.ecc.windows r ⟨t, 0, false⟩ } }

/-- Windows start at Live entry (R559). -/
def Block.startWindows (b : Block) : Block := eccRegions.foldl (fun c r => c.newWindow r b.tick) b

/-- ECC_WINDOW_END (R559). -/
def eccWindowEnd (r : Nat) (b : Block) : Block :=
  match lookup b.ecc.windows r with
  | some w => whenDue (decide (w.start + b.windowTicks r ≤ b.tick)) (fun b => b.newWindow r (w.start + b.windowTicks r)) b
  | none => b

/-- ECC_WINDOW_END (R559). -/
def execEccWindowEnd (r : Nat) (s : State) : Host.Outcome State Fault Refusal :=
  onHw (Instr.wf (.eccWindowEnd r)) s (eccWindowEnd r)

/-- A write of ECC_r_THR starts a new window (R559). -/
def eccThrOp (r : Nat) (w : Nat) (b : Block) : Block × Status :=
  let b1 := b.writeFields (0xf0108 + r * 0x10) w
  (if b1.ecc.windows.isEmpty then b1 else b1.newWindow r b.tick, .ok)

end Sys2Proof.Machine
end

