-- ==== Sys2Proof/Machine/Fast.lean ====
section
/-! DEFINITION. Fast channels: sample instants, settle counts, groups (R121 to R144), and where their items go (R13, R307). -/

namespace Sys2Proof.Machine

open Sys2Proof

/-! ### Groups (R136 to R138) -/

/-- The tile of a fast channel. -/
def chanTile (c : Nat) : Nat := c / 240

/-- The module group index of a fast channel (R136). -/
def chanGroup (c : Nat) : Nat := 15 * (c / 240) + c % 240 / 16

/-- The sixteen channels of a module group (R136). -/
def groupChans (g : Nat) : List Nat := (List.range 16).map fun i => g / 15 * 240 + g % 15 * 16 + i

/-- A group samples: in force, and its tile on (R137, R138). -/
def Block.groupSamples (b : Block) (g : Nat) : Bool := b.tileOn (g / 15) && b.groupOn g

/-! ### Settle counts (R124) -/

/-- The settle count of a high-pass code (R124, R128). -/
def settleCount (hp : Nat) : Nat :=
  match hp with
  | 0 => 400
  | 1 => 266
  | 2 => 160
  | 3 => 80
  | _ => 64

/-- A settle count starts or restarts (R124): `least` is 200 on a group enable. (DEDUCED, log entry 34.) -/
def Block.settle (b : Block) (c least : Nat) : Block :=
  { b with fast := { b.fast with settle := insertKey b.fast.settle c (max least (settleCount (b.get (F.FCH_SHAPE_HP c)))) } }

/-- A group is enabled: every channel of it settles (R124). -/
def Block.enableGroup (b : Block) (g : Nat) : Block := (groupChans g).foldl (fun c n => c.settle n 200) b

/-- The settings whose change settles a channel (R124). -/
def Block.analogue (b : Block) (c : Nat) : List Nat :=
  [b.get (F.FCH_CFG_MODE c), b.get (F.FCH_CFG_VGAIN c), b.get (F.FCH_CFG_QRANGE c), b.get (F.FCH_SHAPE_HP c), b.get (F.FCH_SHAPE_LP c),
    b.get (F.FCH_SHAPE_BLR_MODE c)]

/-- A channel's MODE is not OFF; Safe-Config and Fault hold every channel at MODE OFF whatever its entry says (R81, R83, R126). (DEDUCED, log entry 21.) -/
def Block.modeOn (b : Block) (c : Nat) : Bool := b.phase != .safeConfig && b.phase != .fault && b.flag (F.FCH_CFG_MODE c)

/-- A discriminator works: its group samples, MODE is not OFF and POLARITY is not OFF (R130, R138). -/
def Block.discOn (b : Block) (c : Nat) : Bool :=
  b.groupSamples (chanGroup c) && b.modeOn c && b.get (F.FCH_CFG_POLARITY c) != 3

/-- The settings of a discriminator whose write never makes a hit (R131). -/
def Block.levels (b : Block) (c : Nat) : List Nat :=
  [b.get (F.FCH_THR_THR_LO c), b.get (F.FCH_THR_THR_HI c), b.get (F.FCH_DISC_HYST c), b.get (F.FCH_CFG_POLARITY c)]

/-- A channel's discriminator is as when it was switched on: inactive. -/
def Block.dropDisc (b : Block) (c : Nat) : Block := { b with fast := { b.fast with disc := eraseKey b.fast.disc c } }

/-- New levels leave no crossing of THR_LO that waits for THR_HI: a hit needs a return and a new crossing (R131). -/
def Block.dropPend (b : Block) (c : Nat) : Block :=
  { b with fast := { b.fast with disc := b.fast.disc.map fun e => if e.1 == c then (c, { e.2 with pend := none }) else e } }

/-- A write of a channel's entry (R124, R131, R134): in force at the next sample instant, where the settle count starts. (DEDUCED, log entry 34.) -/
def fchOp (c addr : Nat) (w : Nat) (b : Block) : Block × Status :=
  let b1 := b.writeFields addr w
  let b2 := if b1.analogue c != b.analogue c && b1.groupSamples (chanGroup c) then b1.settle c 0 else b1
  let b3 := if b2.levels c != b.levels c then b2.dropPend c else b2
  (if b3.modeOn c && b3.get (F.FCH_CFG_POLARITY c) != 3 then b3 else b3.dropDisc c, .ok)

/-- SETTLE_COUNT_END (R124). -/
def settleCountEnd (c : Nat) (b : Block) : Block :=
  whenDue (lookup b.fast.settle c == some 0) (fun b =>
    { b with fast := { b.fast with settle := eraseKey b.fast.settle c } }) b

/-- SETTLE_COUNT_END (R124). -/
def execSettleCountEnd (c : Nat) (s : State) : Host.Outcome State Fault Refusal :=
  onHw (Instr.wf (.settleCountEnd c)) s (settleCountEnd c)

/-! ### The sample word (R122, R123, R129) -/

/-- The restorer is frozen (R129). -/
def Block.frozen (b : Block) (c : Nat) : Bool :=
  b.get (F.FCH_SHAPE_BLR_MODE c) == 2
    && ((lookupD b.fast.disc c ⟨false, none, false⟩).active || (lookup b.fast.hold c).isSome)

/-- The restorer is in use: TRACK or GATED (R129). -/
def Block.restores (b : Block) (c : Nat) : Bool :=
  b.get (F.FCH_SHAPE_BLR_MODE c) == 1 || b.get (F.FCH_SHAPE_BLR_MODE c) == 2

/-- The quiet level at this instant: the estimate presented, or the one held while tracking is frozen. -/
def Block.quiet (b : Block) (f : FastCode) : Int :=
  if b.frozen f.chan then signed 14 (b.get (F.FCH_STAT_BASELINE f.chan)) else f.baseline

/-- The sampler's input in codes (R129). -/
def Block.shaped (b : Block) (f : FastCode) : Int :=
  if b.restores f.chan then f.signal - b.quiet f + signed 14 (b.get (F.FCH_SHAPE_BLR_TARGET f.chan))
  else f.signal + signed 14 (b.get (F.FCH_OTRIM f.chan))

/-- OVERRANGE of a sample (R123). -/
def Block.overrange (b : Block) (f : FastCode) : Bool :=
  f.recovering || decide (b.shaped f < -8192) || decide (8191 < b.shaped f)

/-- The channel's next sample carries SETTLING (R124). -/
def Block.settling (b : Block) (c : Nat) : Bool :=
  match lookup b.fast.settle c with
  | some n => n != 0
  | none => false

/-- The sample word of a channel in an enabled group (R81, R122, R138). -/
def Block.sampleWord (b : Block) (f : FastCode) : Nat :=
  if b.modeOn f.chan then
    b2n (b.overrange f) * 2 ^ 15 + b2n (b.settling f.chan) * 2 ^ 14 + unsigned 14 (clampI (-8192) 8191 (b.shaped f))
  else 0

/-- What a sample leaves in the channel's entry: FCH_OVR_CNT, OVR, BASELINE, the settle count one less (R123, R124, R129). -/
def Block.sampled (b : Block) (f : FastCode) : Block :=
  let b1 :=
    if b.modeOn f.chan then
      let b2 := b.putB (F.FCH_STAT_OVR f.chan) (b.overrange f)
      let b3 := if b.overrange f then b2.bump (F.FCH_OVR_CNT f.chan) else b2
      if b.restores f.chan then b3.put (F.FCH_STAT_BASELINE f.chan) (unsigned 14 (b.quiet f)) else b3
    else b
  match lookup b1.fast.settle f.chan with
  | some n => { b1 with fast := { b1.fast with settle := insertKey b1.fast.settle f.chan (n - 1) } }
  | none => b1

/-- What the operand gives for a channel; one it does not list is quiet. -/
def codeOf (codes : List FastCode) (c : Nat) : FastCode :=
  (codes.find? fun f => f.chan == c).getD ⟨c, 0, false, 0⟩

/-- The groups that sample. -/
def Block.sampling (b : Block) : List Nat := (List.range 60).filter b.groupSamples

/-- The words of the groups that sample, by group (R307). -/
def Block.instantWords (b : Block) (codes : List FastCode) : Table (List Nat) :=
  b.sampling.map fun g => (g, (groupChans g).map fun c => b.sampleWord (codeOf codes c))

/-- An item goes onto the tile links (R13). -/
def Block.link (b : Block) (x : LinkItem) : Block := { b with links := b.links ++ [x] }

/-- FAST_SAMPLE_INSTANT: one instant every 25 ticks (R121). Lynx takes the words at its grid (R268); the ring takes one item a
group (R307). (DESIGN CHOICE, log entry 6, DEDUCED, log entry 34.) -/
def fastSampleInstant (codes : List FastCode) (b : Block) : Block :=
  let due := match b.fast.last with
    | some t => decide (t + 25 ≤ b.tick)
    | none => true
  whenDue (b.phase.railsOn && due) (fun b =>
    let words := b.instantWords codes
    let t := b.stampRaw
    let b1 := (b.sampling.flatMap groupChans).foldl (fun c n => c.sampled (codeOf codes n)) b
    let b2 := words.foldl (fun c (e : Nat × List Nat) => c.link (.item e.1 t b.stampDom b.stampQuality (e.2.flatMap (leBytes 2)))) b1
    let i : Instant := ⟨b.time.pllTicks, b.tick, t, b.stampDom, b.stampQuality, words⟩
    { b2 with
      fast := { b2.fast with last := some b.tick }
      lynx := if b.ccOn then { b2.lynx with instants := b2.lynx.instants ++ [i] } else b2.lynx }) b

/-- FAST_SAMPLE_INSTANT (R121). -/
def execFastSampleInstant (codes : List FastCode) (s : State) : Host.Outcome State Fault Refusal :=
  onHw (Instr.wf (.fastSampleInstant codes)) s (fastSampleInstant codes)

/-! ### What the registers show (R140) -/

/-- The corner frequencies of the codes of HP and LP, in kHz (R128). -/
def hpCorner (k : Nat) : Nat := ([20, 30, 50, 100, 200, 300, 500, 1000] : List Nat).getD k 1000

/-- LP corners in kHz (R128). -/
def lpCorner (k : Nat) : Nat := ([100, 200, 300, 500, 1000, 1500, 2000, 3000] : List Nat).getD k 3000

/-- The low-pass corner is not above the high-pass corner (R128). -/
def Block.bandClamp (b : Block) (c : Nat) : Bool := decide (lpCorner (b.get (F.FCH_SHAPE_LP c)) ≤ hpCorner (b.get (F.FCH_SHAPE_HP c)))

/-- The low-pass corner that the shaper uses (R128). -/
def Block.lpInUse (b : Block) (c : Nat) : Nat :=
  if b.bandClamp c then
    (([100, 200, 300, 500, 1000, 1500, 2000, 3000] : List Nat).find? fun x => decide (hpCorner (b.get (F.FCH_SHAPE_HP c)) < x)).getD 3000
  else lpCorner (b.get (F.FCH_SHAPE_LP c))

/-- DISC_DUAL is set and the thresholds do not allow it (R133). -/
def Block.thrClamp (b : Block) (c : Nat) : Bool :=
  b.flag (F.FCH_CFG_DISC_DUAL c) && decide (b.get (F.FCH_THR_THR_HI c) ≤ b.get (F.FCH_THR_THR_LO c))

/-- FCH_STAT (R140). -/
def Block.fchStat (b : Block) (c : Nat) : Nat :=
  b2n (lookupD b.fast.disc c ⟨false, none, false⟩).active * 2 ^ 20 + b2n (b.thrClamp c) * 2 ^ 19 + b2n (b.bandClamp c) * 2 ^ 18
    + b.get (F.FCH_STAT_OVR c) * 2 ^ 17 + b2n (lookup b.fast.settle c).isSome * 2 ^ 16 + b.get (F.FCH_STAT_BASELINE c)

/-- FT_GROUP_STAT: groups with a channel that settles (R139). -/
def Block.settlingGroups (b : Block) (t : Nat) : Nat :=
  ((List.range 15).map fun g =>
    b2n ((groupChans (15 * t + g)).any fun c => (lookup b.fast.settle c).isSome) * 2 ^ g).sum

/-- The live words of the fast channels, by address. -/
def Block.fastWord (b : Block) (addr : Nat) : Option Nat :=
  match tileOf addr with
  | some t =>
    let o := (addr - 0x200000) % 0x40000
    if o = 0x108 then some (b.settlingGroups t)
    else if decide (0x10000 ≤ o) && decide (o < 0x13c00) && (o - 0x10000) % 64 == 0x18 then
      some (b.fchStat (240 * t + (o - 0x10000) / 64))
    else none
  | none => none

end Sys2Proof.Machine
end

