-- ==== Sys2Proof/Machine/Tdc.lean ====
section
/-! DEFINITION. Woodpecker: conversion, dead time, buffers, release, arming, calibration (R130 to R132, R245 to R266). -/

namespace Sys2Proof.Machine

open Sys2Proof

/-! ### Tables and delays (R247, R248, R258) -/

/-- The ideal entry of a raw code (R247). -/
def idealEntry (k : Nat) : Nat := 16 * k + 8

/-- TBL[k] of a source (R247). -/
def Block.tbl (b : Block) (s k : Nat) : Nat :=
  match lookup b.tdc.tables s with
  | some t => t.entries.getD k (idealEntry k)
  | none => idealEntry k

/-- FACT_DLY of a source, ps (R248): what its measurement gives. -/
def Block.factDly (b : Block) (s : Nat) : Nat := Config.factoryDelay s b.epochs % 65536

/-- D of a source in 1/1024 ns, rounded to nearest (R247, R248). -/
def Block.delay (b : Block) (s : Nat) : Int :=
  divTie (((b.factDly s : Int) + signed 16 (lookupD b.tdc.userDly s 0)) * 128) 125

/-- The time of an edge at the ball, in 1/1024 ns on the wrapped full time (R247). (DEDUCED, log entry 14.) -/
def Block.edgeTime (b : Block) (s : Nat) (x : Crossing) : Nat :=
  (((visible x.raw : Int) + (((b.tbl s x.code : Int) - b.delay s) * (x.inc : Int)) / (2 ^ 34 : Nat)) % (2 ^ 58 : Nat)).toNat

/-- A timestamp of a time in 1/1024 ns (R214, R234): its first word. -/
def fineNs (t : Nat) : Nat := t / 2 ^ 10 % 2 ^ 32

/-- Its second word. -/
def fineW1 (t dom quality sub : Nat) : Nat := t % 2 ^ 10 * 2 ^ 22 + dom % 2 * 2 ^ 21 + quality % 8 * 2 ^ 18 + sub % 2 ^ 18

/-- This tick with a raw fine code. -/
def Block.crossing (b : Block) (k : Nat) : Crossing :=
  ⟨b.tick, k, b.stampRaw, b.stampDom, b.stampQuality, (b.domain b.stampDom).inc⟩

/-! ### Calibration state (R259, R261) -/

/-- A calibration runs with a source in scope and unfinished. -/
def Block.calHas (b : Block) (s : Nat) (live : Bool) : Bool :=
  match b.tdc.cal with
  | some c => c.live == live && c.todo.contains s
  | none => false

/-- The tile of a fast source; the PT die's sources have none. -/
def sourceTile (s : Nat) : Option Nat := if s < 960 then some (s / 240) else none

/-- Sources switched to the oscillator: of a tile, or of the PT die (R259, R262). -/
def Block.offline (b : Block) (t : Option Nat) : Bool :=
  match b.tdc.cal with
  | some c => !c.live && c.todo.any fun s => sourceTile s == t
  | none => false

/-- An edge lost to INTERNAL calibration (R259). -/
def Block.calLost (b : Block) (s : Nat) : Block :=
  if s < 960 then b.bump (F.FT_TDC_CALLOST_CNT (s / 240)) else b.bump (F.TDC_PIN_LOST_CNT (s - 1024))

/-! ### Conversion (R246, R250, R252) -/

/-- PILEUP or LOST due on a source's next word. -/
def Block.markSource (b : Block) (s : Nat) (pile lost : Bool) : Block :=
  let m := lookupD b.tdc.marks s (false, false)
  { b with tdc := { b.tdc with marks := insertKey b.tdc.marks s (m.1 || pile, m.2 || lost) } }

/-- Words that a source buffers (R252). -/
def bufferWords (s : Nat) : Nat := if s < 960 then 16 else 64

/-- An edge comes less than 1.6 ns after the source's previous recorded edge, by the nominal width of the codes (R250). (DEDUCED, log entry 34.) -/
def Block.inDeadTime (b : Block) (s : Nat) (x : Crossing) : Bool :=
  match lookup b.tdc.lastEdge s with
  | some e => decide (((x.tick * 256 + x.code : Nat) - (e : Int)) * 15625 < 1600000)
  | none => false

/-- The sub-ID of a source's next word (R246). -/
def Block.hitSub (b : Block) (s : Nat) (trail : Bool) : Nat :=
  let m := lookupD b.tdc.marks s (false, false)
  s + b2n trail * 2 ^ 11 + b2n m.1 * 2 ^ 12 + b2n m.2 * 2 ^ 13 + b2n (lookup b.tdc.tables s).isNone * 2 ^ 14

/-- The hit word of an edge (R246, R247). -/
def Block.hitOf (b : Block) (s : Nat) (trail : Bool) (x : Crossing) : Hit :=
  let t := b.edgeTime s x
  ⟨s, x.tick, trail, t, x.raw, x.dom, x.quality, fineNs t, fineW1 t x.dom x.quality (b.hitSub s trail)⟩

/-- The number of edges a calibration takes of each source (R262). -/
def Block.calHits (b : Block) : Nat := 2 ^ clampN 16 24 (b.get F.TDC_CAL_CFG_LOG2_HITS)

/-- The LIVE counts of a source. -/
def CalRun.countsOf (c : CalRun) (s : Nat) : List Nat := (List.range 256).map fun k => lookupD c.counts (s * 256 + k) 0

/-- A LIVE calibration counts a source's recorded leading edge until it has its number (R259). -/
def Block.countLive (b : Block) (s k : Nat) : Block :=
  match b.tdc.cal with
  | some c =>
    if c.live && c.todo.contains s && decide ((c.countsOf s).sum < b.calHits) then
      { b with tdc := { b.tdc with cal := some { c with counts := modifyKey c.counts (s * 256 + k) 0 (· + 1) } } }
    else b
  | none => b

/-- The word of an edge recorded (R246, R249). -/
def Block.record (b : Block) (s : Nat) (trail : Bool) (x : Crossing) : Block :=
  let b1 := { b with tdc := { b.tdc with
    hits := b.tdc.hits ++ [b.hitOf s trail x]
    lastEdge := insertKey b.tdc.lastEdge s (x.tick * 256 + x.code)
    marks := eraseKey b.tdc.marks s } }
  let b2 := if s < 960 then b1 else b1.bump (F.TDC_PIN_HIT_CNT (s - 1024))
  if trail then b2 else b2.countLive s x.code

/-- An edge converted: lost to dead time, dropped on a full buffer, or recorded; whether it was recorded (R250, R252). -/
def Block.convert (b : Block) (s : Nat) (trail : Bool) (x : Crossing) : Block × Bool :=
  if b.inDeadTime s x then
    ((if s < 960 then b.bump (F.FT_TDC_PILEUP_CNT (s / 240)) else b.bump (F.TDC_PIN_LOST_CNT (s - 1024))).markSource s true false, false)
  else if bufferWords s ≤ (b.tdc.hits.filter fun h => h.source == s).length then
    ((if s < 960 then b.bump (F.FT_TDC_OVF_CNT (s / 240)) else b.bump (F.TDC_PIN_LOST_CNT (s - 1024))).markSource s false true, false)
  else (b.record s trail x, true)

/-! ### Fast discriminators (R125, R130 to R132, R138, R249) -/

/-- The discriminator of a channel. -/
def Block.discOf (b : Block) (c : Nat) : Disc := lookupD b.fast.disc c ⟨false, none, false⟩

/-- A discriminator replaced. -/
def Block.setDisc (b : Block) (c : Nat) (d : Disc) : Block := { b with fast := { b.fast with disc := insertKey b.fast.disc c d } }

/-- A channel's discriminator passes edges (R125, R130, R138). -/
def Block.discLive (b : Block) (c : Nat) : Bool :=
  b.discOn c && (lookup b.fast.settle c).isNone

/-- A hit needs THR_HI (R130, R133). -/
def Block.dual (b : Block) (c : Nat) : Bool := b.flag (F.FCH_CFG_DISC_DUAL c) && !b.thrClamp c

/-- A hit passes to the converter; hold-off runs from here (R130, R132). -/
def Block.passHit (b : Block) (c : Nat) (x : Crossing) : Block :=
  let h := b.get (F.FCH_DISC_HOLDOFF c)
  let b1 := (b.bump64 (F.FCH_HIT_CNT_LO c) (F.FCH_HIT_CNT_HI c) 1).setDisc c ⟨true, none, true⟩
  let b2 := if h = 0 then b1 else { b1 with fast := { b1.fast with hold := insertKey b1.fast.hold c (b1.tick + h) } }
  if b2.calHas c false then b2.calLost c else (b2.convert c false x).1

/-- A crossing of THR_LO (R130 to R132). -/
def Block.crossLow (b : Block) (c k : Nat) : Block :=
  if (b.discOf c).active then b
  else if (lookup b.fast.hold c).isSome then (b.bump (F.FCH_HOLDOFF_CNT c)).setDisc c ⟨true, none, false⟩
  else if b.dual c then b.setDisc c ⟨true, some (b.crossing k), false⟩
  else b.passHit c (b.crossing k)

/-- A crossing of THR_HI (R130). -/
def Block.crossHigh (b : Block) (c : Nat) : Block :=
  match (b.discOf c).pend with
  | some x => b.passHit c x
  | none => b

/-- The return to within THR_LO − HYST, which gives the trailing edge of a hit (R130, R249). -/
def Block.crossBack (b : Block) (c k : Nat) : Block :=
  let d := b.discOf c
  let b1 := b.setDisc c ⟨false, none, false⟩
  if d.hit && bitAt (b.get (F.FT_TDC_TRAIL (c / 240))) (c % 240 / 16) then
    if b1.calHas c false then b1.calLost c else (b1.convert c true (b1.crossing k)).1
  else b1

/-- The discriminator of a settling channel: its output follows the signal and no edge passes (R125). A crossing in hold-off is
counted (R132). -/
def Block.follow (b : Block) (c ev : Nat) : Block :=
  let d := b.discOf c
  if ev = 0 then
    if d.active then b
    else (if (lookup b.fast.hold c).isSome then b.bump (F.FCH_HOLDOFF_CNT c) else b).setDisc c ⟨true, none, false⟩
  else if ev = 1 then (if d.pend.isSome then b.setDisc c ⟨true, none, false⟩ else b)
  else b.setDisc c ⟨false, none, false⟩

/-! ### Pins (R249, R251, R254) -/

/-- FUNCTION in force of pin i: ARM on an XEVT pin acts as STAMP (R262). -/
def Block.pinFunction (b : Block) (i : Nat) : Nat :=
  let f := b.get (F.TDC_PIN_CFG_FUNCTION i)
  if f = 2 && 4 ≤ i then 1 else f

/-- Windows kept: those open, and those whose trailing edge was converted in the last 128 ticks, which covers the 64 ticks of
every release (R253, R255). -/
def Block.keptWindows (b : Block) (g : Nat) : List GateWindow :=
  (lookupD b.tdc.gates g []).filter fun w =>
    match w.trail with
    | some t => decide (b.tick < t.2 + 128)
    | none => true

/-- The leading edge of an ARM pin opens a window (R254). -/
def Block.openWindow (b : Block) (g t : Nat) : Block :=
  { b with tdc := { b.tdc with gates := insertKey b.tdc.gates g (⟨t, none⟩ :: b.keptWindows g) } }

/-- The trailing edge of an ARM pin closes the window (R254). -/
def Block.closeWindow (b : Block) (g t : Nat) : Block :=
  match b.keptWindows g with
  | w :: l =>
    { b with tdc := { b.tdc with gates := insertKey b.tdc.gates g ((if w.trail.isNone then { w with trail := some (t, b.tick) } else w) :: l) } }
  | [] => b

/-- An activation of a pin (R249, R251). -/
def Block.pinUp (b : Block) (i k : Nat) : Block :=
  let s := 1024 + i
  let held := match lookup b.tdc.pinHold i with
    | some t => decide (b.tick < t)
    | none => false
  if b.calHas s false then b.calLost s
  else if held then b.bump (F.TDC_PIN_HOLD_CNT i)
  else
    let x := b.crossing k
    let r := b.convert s false x
    if r.2 then
      let b1 := { r.1 with tdc := { r.1.tdc with pinHold := insertKey r.1.tdc.pinHold i (b.tick + b.get (F.TDC_PIN_CFG_HOLDOFF i)) } }
      if b.pinFunction i = 2 then b1.openWindow i (b.edgeTime s x) else b1
    else r.1

/-- A deactivation of a pin (R249, R254). -/
def Block.pinDown (b : Block) (i k : Nat) : Block :=
  let s := 1024 + i
  if b.calHas s false then b.calLost s
  else
    let x := b.crossing k
    let b1 := if b.pinFunction i = 2 then b.closeWindow i (b.edgeTime s x) else b
    if b.flag (F.TDC_PIN_CFG_TRAIL_EN i) then (b1.convert s true x).1 else b1

/-- A level of a pin at its ball (R249, R262 LEVEL, INVERT). -/
def Block.pinEdge (b : Block) (i : Nat) (high : Bool) (k : Nat) : Block :=
  let on := high != b.flag (F.TDC_PIN_CFG_INVERT i)
  if on == b.flag (F.TDC_PIN_STAT i) then b
  else if on then (b.putB (F.TDC_PIN_STAT i) true).pinUp i k
  else (b.putB (F.TDC_PIN_STAT i) false).pinDown i k

/-- TDC_EDGE (R249). Of a fast channel, `ev` 0 is a crossing of THR_LO, 1 of THR_HI, 2 the return; of a pin, 0 its rise and 2 its
fall. `code` is the raw fine code. (DESIGN CHOICE, log entry 6.) -/
def tdcEdge (src ev code : Nat) (b : Block) : Block :=
  if src < 960 then
    whenDue (b.discOn src) (fun b =>
      if !b.discLive src then b.follow src ev
      else if ev = 0 then b.crossLow src code else if ev = 1 then b.crossHigh src else b.crossBack src code) b
  else
    whenDue (b.phase.railsOn && b.pinFunction (src - 1024) != 0 && ev != 1) (fun b => b.pinEdge (src - 1024) (ev == 0) code) b

/-- TDC_EDGE (R249). -/
def execTdcEdge (src ev code : Nat) (s : State) : Host.Outcome State Fault Refusal :=
  onHw (Instr.wf (.tdcEdge src ev code)) s (tdcEdge src ev code)

/-- DISC_HOLDOFF_END (R132). -/
def discHoldoffEnd (c : Nat) (b : Block) : Block :=
  let due := match lookup b.fast.hold c with
    | some t => decide (t ≤ b.tick)
    | none => false
  whenDue due (fun b => { b with fast := { b.fast with hold := eraseKey b.fast.hold c } }) b

/-- DISC_HOLDOFF_END (R132). -/
def execDiscHoldoffEnd (c : Nat) (s : State) : Host.Outcome State Fault Refusal :=
  onHw (Instr.wf (.discHoldoffEnd c)) s (discHoldoffEnd c)

/-! ### Release (R253 to R255, R257, R268) -/

/-- The order of release: the tick, the source, leading before trailing (R253). -/
def Hit.before (x y : Hit) : Bool :=
  decide (x.tick < y.tick) || (x.tick == y.tick && (decide (x.source < y.source) || (x.source == y.source && !x.trail && y.trail)))

/-- The word to be released next. -/
def nextHit : List Hit → Option Hit
  | [] => none
  | x :: l =>
    match nextHit l with
    | none => some x
    | some y => if y.before x then some y else some x

/-- Arming of a fast channel's group: the GATE pin it selects (R254, R263). -/
def Block.armPin (b : Block) (c : Nat) : Option Nat :=
  let g := c % 240 / 16
  let sel := if g < 8 then bitsOf (b.get (F.FT_TDC_ARM0 (c / 240))) (4 * g + 3) (4 * g)
    else bitsOf (b.get (F.FT_TDC_ARM1 (c / 240))) (4 * (g - 8) + 3) (4 * (g - 8))
  if 8 ≤ sel && sel ≤ 11 then some (sel - 8) else none

/-- A time lies in a window (R254, R255). -/
def GateWindow.admits (w : GateWindow) (t : Nat) : Bool :=
  decide (0 ≤ visibleDiff t w.lead) && match w.trail with
    | some x => decide (visibleDiff t x.1 < 0)
    | none => true

/-- The arming of its group lets a word through. -/
def Block.admitted (b : Block) (h : Hit) : Bool :=
  if h.source < 960 then
    match b.armPin h.source with
    | some g => (lookupD b.tdc.gates g []).any fun w => w.admits h.time
    | none => true
  else true

/-- The link item of a released word (R307, R308). -/
def Hit.item (h : Hit) : LinkItem :=
  if h.source < 960 then .item (64 + h.source / 240) h.raw h.dom h.quality (wordBytes [h.ns, h.w1])
  else .item 68 (h.time * 2 ^ 22) h.dom h.quality (wordBytes [h.ns, h.w1])

/-- A precision sample or a pin word reaches Lynx: late where its instant has been evaluated (R268). -/
def Block.slowInput (b : Block) (x : SlowInput) : Block :=
  let late := match b.lynx.done with
    | some t => decide (visibleDiff x.time (visible t) ≤ 0)
    | none => false
  let b1 := if late then b.bump F.TRG_LATE_CNT else b
  { b1 with lynx := { b1.lynx with slow := b1.lynx.slow ++ [x] } }

/-- What Lynx takes of a released word (R257, R268). -/
def Block.lynxHit (b : Block) (h : Hit) : Block :=
  if !b.ccOn || h.trail then b
  else if h.source < 960 then { b with lynx := { b.lynx with leads := b.lynx.leads ++ [⟨h.source, h.time, h.ns, h.w1⟩] } }
  else if b.pinFunction (h.source - 1024) = 3 then b.slowInput ⟨h.source, h.time, 0, false, false, 0, h.dom, h.quality⟩
  else b

/-- HIT_RELEASE: the next word due leaves its die (R253), or is discarded by arming (R254). -/
def hitRelease (b : Block) : Block :=
  match nextHit b.tdc.hits with
  | none => b
  | some h =>
    whenDue (decide (h.tick + 64 ≤ b.tick)) (fun b =>
      let b1 := { b with tdc := { b.tdc with hits := b.tdc.hits.erase h } }
      if b1.admitted h then (b1.link h.item).lynxHit h else b1.bump (F.FT_TDC_GATED_CNT (h.source / 240))) b

/-- HIT_RELEASE (R253). -/
def execHitRelease (s : State) : Host.Outcome State Fault Refusal :=
  onHw (Instr.wf .hitRelease) s hitRelease

/-! ### Code-density calibration (R258 to R262) -/

/-- The sources of the module (R245). -/
def allSources : List Nat := List.range 960 ++ ([1024, 1025, 1026, 1027, 1028, 1029, 1030, 1031] : List Nat)

/-- A source number that R245 gives. -/
def isSource (s : Nat) : Bool := decide (s < 960) || (decide (1024 ≤ s) && decide (s < 1032))

/-- The sources of a SCOPE (R262). -/
def scopeSources (scope source : Nat) : List Nat :=
  match scope with
  | 0 => if isSource source then [source] else []
  | 1 => (List.range 240).map fun i => 240 * (source % 4) + i
  | 2 => [1024, 1025, 1026, 1027, 1028, 1029, 1030, 1031]
  | _ => allSources

/-- The source's die is on. -/
def Block.sourceOn (b : Block) (s : Nat) : Bool :=
  match sourceTile s with
  | some t => b.tileOn t
  | none => b.phase.railsOn

/-- A calibration with no source left ends (R261). -/
def Block.settleCal (b : Block) : Block :=
  match b.tdc.cal with
  | some c =>
    if c.todo.isEmpty then
      let b1 := (b.put F.TDC_CAL_STAT_BUSY 0).put F.TDC_CAL_STAT_RESULT (if b.get F.TDC_CAL_STAT_FAILED = 0 then 0 else 2)
      { b1 with tdc := { b1.tdc with cal := none } }
    else b
  | none => b

/-- A source in scope is finished. -/
def Block.calFinish (b : Block) (s : Nat) (ok : Bool) : Block :=
  match b.tdc.cal with
  | some c =>
    let b1 := if ok then b.put F.TDC_CAL_STAT_DONE (satU 12 (b.get F.TDC_CAL_STAT_DONE + 1))
      else b.put F.TDC_CAL_STAT_FAILED (satU 12 (b.get F.TDC_CAL_STAT_FAILED + 1))
    { b1 with tdc := { b1.tdc with cal := some { c with todo := c.todo.erase s } } }.settleCal
  | none => b

/-- A calibration starts: counts cleared; sources whose die is off fail at once (R261). -/
def Block.startCal (b : Block) (live : Bool) (scope : List Nat) : Block :=
  let b1 := ((b.put F.TDC_CAL_STAT_BUSY 1).put F.TDC_CAL_STAT_DONE 0).put F.TDC_CAL_STAT_FAILED 0
  let b2 := { b1 with tdc := { b1.tdc with cal := some ⟨live, b.tick, scope, []⟩ } }
  ((scope.filter fun s => !b.sourceOn s).foldl (fun c s => c.calFinish s false) b2).settleCal

/-- A running calibration is aborted (R261). -/
def Block.abortCal (b : Block) : Block :=
  match b.tdc.cal with
  | some _ =>
    let b1 := (b.put F.TDC_CAL_STAT_BUSY 0).put F.TDC_CAL_STAT_RESULT 1
    { b1 with tdc := { b1.tdc with cal := none } }
  | none => b

/-- A write of TDC_CAL_CMD (R261, R262). (DEDUCED, log entry 35.) -/
def tdcCalOp (w : Nat) (b : Block) : Block × Status :=
  let b1 := if bitAt w 30 then b.abortCal else b
  let mode := bitsOf w 29 28
  if bitAt w 31 then
    if b1.tdc.cal.isSome then (b1.bump F.TDC_REFUSE_CNT, .busyResource)
    else if mode = 1 || mode = 2 then (b1.startCal (mode == 2) (scopeSources (bitsOf w 27 26) (bitsOf w 10 0)), .ok)
    else (b1, .ok)
  else (b1, .ok)

/-- Every count lies between 0.25 and 4 times N / 256 (R258). -/
def uniform (counts : List Nat) : Bool :=
  counts.all fun n => decide (counts.sum ≤ n * 1024) && decide (n * 64 ≤ counts.sum)

/-- The entries of a table, from the counts before it: (2 × sum before + n_k) × 2 048 / N, ties upward (R258). -/
def tableEntries (total : Nat) : Nat → List Nat → List Nat
  | _, [] => []
  | acc, n :: l => (divNearestUp ((2 * acc + n : Nat) * 2048 : Int) total).toNat :: tableEntries total (acc + n) l

/-- The width of a bin in 1/1024 ns from its count. -/
def binWidth (total n : Nat) : Nat := (divNearestUp ((n * 4096 : Nat) : Int) total).toNat

/-- The table that counts give (R258). -/
def tableOf (counts : List Nat) : CalTable :=
  ⟨tableEntries counts.sum 0 counts, (counts.map (binWidth counts.sum)).foldl max 0,
    (counts.map (binWidth counts.sum)).foldl min 65535⟩

/-- A table installed at one tick (R260). -/
def Block.install (b : Block) (s : Nat) (t : CalTable) : Block :=
  { b with tdc := { b.tdc with tables := insertKey b.tdc.tables s t } }

/-- TDC_CAL_SOURCE_DONE (R258): a source has its edges. Under LIVE they are the edges counted; under INTERNAL `counts` says how the
oscillator's edges fell. (DEDUCED, log entry 35.) -/
def tdcCalSourceDone (src : Nat) (counts : List Nat) (b : Block) : Block :=
  match b.tdc.cal with
  | none => b
  | some c =>
    let n := if c.live then c.countsOf src else counts
    whenDue (c.todo.contains src && decide (n.length = 256) && decide (b.calHits ≤ n.sum) && (c.live || n.sum == b.calHits)) (fun b =>
      if uniform n then (b.install src (tableOf n)).calFinish src true else b.calFinish src false) b

/-- TDC_CAL_SOURCE_DONE (R258). -/
def execTdcCalSourceDone (src : Nat) (counts : List Nat) (s : State) : Host.Outcome State Fault Refusal :=
  onHw (Instr.wf (.tdcCalSourceDone src counts)) s (tdcCalSourceDone src counts)

/-- TDC_CAL_TIMEOUT (R259). -/
def tdcCalTimeout (src : Nat) (b : Block) : Block :=
  match b.tdc.cal with
  | none => b
  | some c =>
    whenDue (c.live && c.todo.contains src && decide (c.start + max 1 (b.get F.TDC_CAL_CFG_TIMEOUT_S) * sTicks ≤ b.tick)) (fun b =>
      b.calFinish src false) b

/-- TDC_CAL_TIMEOUT (R259). -/
def execTdcCalTimeout (src : Nat) (s : State) : Host.Outcome State Fault Refusal :=
  onHw (Instr.wf (.tdcCalTimeout src)) s (tdcCalTimeout src)

/-! ### The window of TDC_CAL_SRC (R262) -/

/-- The source that the window reaches. -/
def Block.calSrc (b : Block) : Nat := b.get F.TDC_CAL_SRC

/-- What an access of the window meets before it acts: no such source (R24), or a tile that is off (R22). -/
def Block.windowRefuse (b : Block) : Option (Block × Status) :=
  if !isSource b.calSrc then some (b.bump F.SYS_BADADDR, .noReg)
  else
    match sourceTile b.calSrc with
    | some t => if b.get (F.PWR_D_STAT_STATE t) ≠ 2 then some (offAccess t b) else none
    | none => none

/-- The staging copy's entry. -/
def Block.stagingEntry (b : Block) (k : Nat) : Nat := lookupD b.tdc.staging k (idealEntry k)

/-- The width of the widest and of the narrowest bin that centres give, bin by bin from 0. (DEDUCED, log entry 35.) -/
def centreWidths : Int → List Nat → List Int
  | _, [] => []
  | edge, c :: l => 2 * ((c : Int) - edge) :: centreWidths (2 * (c : Int) - edge) l

/-- The staging copy as a table. -/
def Block.stagingTable (b : Block) : CalTable :=
  let e := (List.range 256).map b.stagingEntry
  let w := centreWidths 0 e
  ⟨e, unsigned 16 (w.foldl max 0), unsigned 16 (w.foldl min 65535)⟩

/-- A write of the window's registers (R260, R262). (DEDUCED, log entry 35.) -/
def tdcWindowOp (addr w : Nat) (b : Block) : Block × Status :=
  match b.windowRefuse with
  | some r => r
  | none =>
    if addr < 0x61200 then
      let k := (addr - 0x61000) / 4 * 2
      ({ b with tdc := { b.tdc with
        staging := insertKey (insertKey b.tdc.staging k (w % 65536)) (k + 1) (w / 65536 % 65536) } }, .ok)
    else if addr = 0x61200 then
      (if bitAt w 31 then b.install b.calSrc b.stagingTable else b, .ok)
    else if addr = 0x61204 then
      ({ b with tdc := { b.tdc with userDly := insertKey b.tdc.userDly b.calSrc (w % 65536) } }, .ok)
    else (b, .ok)

/-! ### Pin configuration and arming (R256) -/

/-- A group of the module selects a GATE pin. -/
def Block.pinSelected (b : Block) (i : Nat) : Bool :=
  (List.range 60).any fun g => b.armPin (g / 15 * 240 + g % 15 * 16) == some i

/-- A trigger unit names a pin as its input (R275). -/
def Block.pinNamed (b : Block) (i : Nat) : Bool := b.flag (F.TRG_U_CFG_EN (1984 + i))

/-- A write of TDC_PIN_CFG_i (R256). -/
def pinCfgOp (i w : Nat) (b : Block) : Block × Status :=
  let f := bitsOf w 31 30
  let old := b.get (F.TDC_PIN_CFG_FUNCTION i)
  if f ≠ old && ((old = 2 && b.pinSelected i) || (old = 3 && b.pinNamed i)) then (b.bump F.TDC_REFUSE_CNT, .busyResource)
  else (b.writeFields (0x60100 + 8 * i) w, .ok)

/-- The GATE pins that a word of FT_TDC_ARM0 or FT_TDC_ARM1 selects. -/
def armSelects (w n : Nat) : List Nat :=
  (List.range n).filterMap fun g =>
    let s := bitsOf w (4 * g + 3) (4 * g)
    if 8 ≤ s && s ≤ 11 then some (s - 8) else none

/-- A write of FT_TDC_ARM0 or FT_TDC_ARM1 (R256). -/
def armOp (addr w n : Nat) (b : Block) : Block × Status :=
  if (armSelects w n).any fun i => b.get (F.TDC_PIN_CFG_FUNCTION i) != 2 then (b.bump F.TDC_REFUSE_CNT, .busyResource)
  else (b.writeFields addr w, .ok)

/-! ### What the registers show (R262) -/

/-- The live words of TDC, by address. -/
def Block.tdcWord (b : Block) (addr : Nat) : Option Nat :=
  if addr = 0x60004 then
    some (Config.calDrift b.epochs % 256 * 2 ^ 24 + b2n (b.offline none) * 16
      + (([0, 1, 2, 3] : List Nat).map fun t => b2n (b.offline (some t)) * 2 ^ t).sum)
  else if decide (0x61000 ≤ addr) && decide (addr < 0x61200) then
    let k := (addr - 0x61000) / 4 * 2
    some (b.tbl b.calSrc (k + 1) * 2 ^ 16 + b.tbl b.calSrc k)
  else if addr = 0x61200 then some (b2n (lookup b.tdc.tables b.calSrc).isSome * 2 ^ 30)
  else if addr = 0x61204 then some (b.factDly b.calSrc * 2 ^ 16 + lookupD b.tdc.userDly b.calSrc 0)
  else if addr = 0x61208 then
    match lookup b.tdc.tables b.calSrc with
    | some t => some (t.wmax * 2 ^ 16 + t.wmin)
    | none => some (16 * 2 ^ 16 + 16)
  else none

end Sys2Proof.Machine
end

