-- ==== Sys2Proof/Machine/Fox.lean ====
section
/-! DEFINITION. Node IDs, routes and trees: the operations that Fox's commands share (R443 to R447, R457 to R466). -/

namespace Sys2Proof.Machine

open Sys2Proof

/-! ### Claims (R443-R446) -/

/-- Rank of a claim's KIND: PINNED beats FIXED, FIXED beats CLAIM (R444). -/
def kindRank : Nat → Nat
  | 2 => 2
  | 0 => 1
  | _ => 0

/-- A claim of KIND and serial number wins over another (R444). -/
def claimWins (k1 s1 k2 s2 : Nat) : Bool :=
  decide (kindRank k2 < kindRank k1) || (kindRank k1 == kindRank k2 && decide (s1 < s2))

/-- A fresh FLOOD_ID (R454). -/
def Block.nextFlood (b : Block) : Nat × Block :=
  (b.fab.floodId, { b with fab := { b.fab with floodId := (b.fab.floodId + 1) % 65536 } })

/-- A pinning job meets a claim (R446): DONE at the target's HELD claim, REFUSED at another's. (DEDUCED, log entry 51.) -/
def Block.pinMeets (b : Block) (m : ClaimMsg) : Block :=
  match b.fab.pin with
  | none => b
  | some j =>
    if m.held && m.node == j.node then
      { b.put F.FAB_PIN_RESULT (if m.serial = j.serial then 2 else 3) with fab := { b.fab with pin := none } }
    else if m.serial = j.serial then { b with fab := { b.fab with pin := some { j with heard := true } } }
    else b

/-- The module floods a CLAIM of its own (R445); a pin of the module itself meets it too (R446). (DEDUCED, log entry 51.) -/
def Block.floodClaim (b : Block) (kind node : Nat) (held : Bool) : Block :=
  let n := b.nextFlood
  let m : ClaimMsg := ⟨kind, held, node, n.2.serial, n.2.get F.FAB_STAT_BOOT, n.1⟩
  ((n.2.remember n.2.serial node n.1).flood none (.claim m)).pinMeets m

/-- NODE_SRC shows which kind is in force: 0 image, 1 claimed, 2 pinned (R26); the same codes as KIND. -/
def Block.ownKind (b : Block) : Nat := b.get F.IDN_NODE_NODE_SRC

/-- The module's pending claim is refused (R445): a pinned claim leaves the present ID, a FIXED one ends in ID_REFUSED, a
CLAIM goes on with the next candidate. -/
def Block.claimRefused (b : Block) (c : OwnClaim) : Block :=
  if c.kind = 2 then { b.put F.FAB_STAT_CLAIMING 0 with fab := { b.fab with claim := none } }
  else if c.kind = 0 then
    let b1 := ((b.put F.FAB_STAT_CLAIMING 0).put F.FAB_STAT_ID_REFUSED 1).bump cIdRefuse
    { b1.setLevel 168 true c.node with fab := { b1.fab with claim := none, refusedAt := b.epochs } }
  else
    let free (d : Nat) : Bool := decide ((b.route d).hops = 255) && !(b.fab.claims.any fun x => x.node == d && !x.held)
    let node := (((List.range 4095).map fun i => (c.node + 1 + i) % 4096).find? free).getD c.node
    { b with fab := { b.fab with claim := some ⟨1, node, 0, c.floodId⟩ } }

/-- Pending claims known to the module, with one message taken in (R444). -/
def noteClaim (l : List ClaimMsg) (m : ClaimMsg) : List ClaimMsg :=
  let rest := l.filter fun x => x.serial != m.serial
  if m.held then rest else m :: rest

/-- The module claims a node with kind PINNED (R446), or answers HELD when it has the ID already. -/
def Block.pinned (b : Block) (node : Nat) : Block :=
  if b.isSelf node then b.floodClaim b.ownKind node true
  else
    match b.fab.claim with
    | some c =>
      if c.kind = 2 && c.node == node then b
      else { b.put F.FAB_STAT_CLAIMING 1 with fab := { b.fab with claim := some ⟨2, node, 0, b.fab.floodId⟩ } }
    | none => { b.put F.FAB_STAT_CLAIMING 1 with fab := { b.fab with claim := some ⟨2, node, 0, b.fab.floodId⟩ } }

/-- The claim succeeds: the module holds the ID (R27, R445). A pinned module in Live goes through reseat (R446). -/
def Block.holdId (b : Block) (c : OwnClaim) : Block :=
  let old := b.get F.IDN_NODE_NODE_ID
  let b1 := ((b.put (F.FAB_RT_FWD_SELF old) 0).put F.IDN_NODE_NODE_ID c.node).put F.IDN_NODE_NODE_VALID 1
  let b2 := (((b1.put F.IDN_NODE_NODE_SRC c.kind).put (F.FAB_RT_FWD_SELF c.node) 1).put F.FAB_STAT_CLAIMING 0).put
    F.FAB_STAT_ID_REFUSED 0
  let b3 := { b2.setLevel 168 false 0 with fab := { b2.fab with claim := none }, reseat := b.reseat || c.kind == 2 }
  (b3.floodClaim c.kind c.node true).sendCaps

/-! ### Quarantine (R447) -/

/-- QUAR follows the CAP messages of the ACTIVE fabric ports (R447), and a change of it goes out in CAP (R455); it is a level source (R541 FAB_QUAR). -/
def Block.reQuarantine (b : Block) : Block :=
  let act := b.activeFabric
  let same := act.filter fun p =>
    match lookup b.fab.caps p with
    | some c => c.cfgGen == b.get F.IDN_CFGGEN
    | none => false
  let q := !act.isEmpty && decide (2 * same.length < act.length)
  let b1 := (b.putB F.FAB_STAT_QUAR q).setLevel 170 q 0
  if q = b.flag F.FAB_STAT_QUAR then b1 else b1.sendCaps

/-! ### Routes (R457-R459) -/

/-- A list cut into pieces of at most 240 (R454 ADVERT N); `n` bounds how many. -/
def pieces240 {α : Type} (l : List α) : Nat → List (List α)
  | 0 => []
  | n + 1 => if l.isEmpty then [] else l.take 240 :: pieces240 (l.drop 240) n

/-- One ADVERT entry on a port (R458). -/
def Block.advertEntry (b : Block) (p : Nat) (e : AdvertEntry) : Block :=
  if b.isSelf e.dest then b
  else
    let r := b.route e.dest
    let cand := if b.get F.FAB_CTRL_HOP_MAX < e.hops + 1 then 255 else e.hops + 1
    let r1 := { r with offers := insertKey r.offers p (cand, e.rgen) }
    let newer := serialNewer 32 e.rgen r.rgen
    if newer || (e.rgen == r.rgen && decide (cand < r.hops)) || (r.primary == some p && !serialNewer 32 r.rgen e.rgen) then
      let r2 := { r1 with
        primary := some p, hops := cand, rgen := e.rgen
        age := if newer then 0 else r.age
        lostFor := if cand = 255 then r.lostFor else 0
        departed := r.departed && cand == 255
        changed := r.changed || r.primary != some p || r.hops != cand }
      b.setRoute e.dest { r2 with alt := r2.alternate }
    else b.setRoute e.dest { r1 with alt := r1.alternate }

/-- The entry of a destination as it is advertised on a port: poison reverse on its primary (R457). -/
def Block.advertFor (b : Block) (p d : Nat) : AdvertEntry :=
  if b.isSelf d then ⟨d, 0, b.fab.ownGen⟩
  else
    let r := b.route d
    ⟨d, if r.primary == some p then 255 else r.hops, r.rgen⟩

/-- A triggered ADVERT of the entries that changed, on every ACTIVE fabric port (R457). (DEDUCED, log entry 52.) -/
def Block.triggeredAdvert (b : Block) : Block :=
  let ds := (b.fab.routes.filter fun e => e.2.changed).map (·.1)
  if ds.isEmpty then b
  else
    let b1 := { b with fab := { b.fab with routes := b.fab.routes.map fun (e : Nat × Route) => (e.1, { e.2 with changed := false }) } }
    b1.activeFabric.foldl (fun c p =>
      (pieces240 ds ds.length).foldl (fun e l => e.post (.link p) 4 (.advert true (l.map (e.advertFor p)))) c) b1

/-- The periodic ADVERT of an epoch: 240 entries in ascending DEST; the module's own RGEN rises by 2 at the start of each
cycle (R457). -/
def Block.periodicAdvert (b : Block) : Block :=
  let pos := b.fab.advertPos
  let b1 := if pos = 0 then { b with fab := { b.fab with ownGen := (b.fab.ownGen + 2) % 2 ^ 32 } } else b
  let ds := (List.range 240).map (pos + ·) |>.filter (· < 4096)
  let b2 := { b1 with fab := { b1.fab with advertPos := if pos + 240 < 4096 then pos + 240 else 0 } }
  b2.activeFabric.foldl (fun c p => c.post (.link p) 4 (.advert false (ds.map (c.advertFor p)))) b2

/-- A route loses its primary: the alternate takes over, or the destination is unreachable under the odd RGEN + 1 (R459); an RGEN that is
odd already stands for an unreachable destination and stays. (DEDUCED, log entry 52.) -/
def Block.failOver (b : Block) (d : Nat) : Block :=
  let r := b.route d
  let r1 := match r.alt with
    | some a => { r with primary := some a, hops := ((lookup r.offers a).map (·.1)).getD 255, alt := none, age := 0, changed := true }
    | none => { r with primary := none, hops := 255, rgen := if r.rgen % 2 = 1 then r.rgen else (r.rgen + 1) % 2 ^ 32, age := 0, changed := true }
  (b.setRoute d r1).triggeredAdvert

/-- What an epoch does to the routes: ages rise, an unreachable entry counts on (R459). -/
def Block.ageRoutes (b : Block) : Block :=
  { b with fab := { b.fab with routes := b.fab.routes.map fun (e : Nat × Route) =>
      (e.1, { e.2 with age := e.2.age + 1, lostFor := if e.2.hops = 255 then e.2.lostFor + 1 else 0 }) } }

/-! ### Trees (R465) -/

/-- The module is the master of a tree: by its role in the image, MASTER_P or MASTER_S (R454, R465); of TRIG while it acts as master,
and before Live by its role where it knows of no later term (R296, R297). -/
def Block.treeMaster (b : Block) (x : Nat) : Bool :=
  if x = 2 then b.flag F.TRG_STAT_ACTING || (bitAt b.fab.roles 2 && b.phase != .live && b.get F.TRG_STAT_TERM == 0)
  else bitAt b.fab.roles x

/-- The configured parent ports of a tree in order (R465, R472). -/
def Block.treeOrder (b : Block) (x : Nat) : List Nat :=
  let w := b.get (F.FAB_TREE_CFG x)
  [bitsOf w 15 12, bitsOf w 11 8, bitsOf w 7 4, bitsOf w 3 0].filter fun p => decide (p < 8)

/-- A port is eligible as parent (R465). -/
def Block.eligible (b : Block) (x p : Nat) : Bool :=
  b.fabricPort p && b.portActive p &&
    match lookup (b.tree x).nbr p with
    | some (m, e) =>
      decide (b.epochs ≤ e + 2) && decide (m.hops ≤ 30) && !m.parentIsYou
        && ((b.tree x).followed.isNone || (b.tree x).followed == some m.hash)
    | none => false

/-- The HOPS of a port's neighbour plus 1. -/
def Block.hopsVia (b : Block) (x p : Nat) : Nat :=
  match lookup (b.tree x).nbr p with
  | some (m, _) => min 31 (m.hops + 1)
  | none => 31

/-- The parent port of a tree set; the module follows the master of its parent, and none without one; a change from another port counts (R465). For P and S the time registers show it, and an exchange on
another port than the new parent is no valid sync (R221). -/
def Block.setParent (b : Block) (x : Nat) (o : Option Nat) : Block :=
  let old := b.parentPort x
  let b1 := match o with
    | some p => ((b.put (F.FAB_TREE_STAT_PARENT_VALID x) 1).put (F.FAB_TREE_STAT_PARENT_PORT x) p).put
        (F.FAB_TREE_STAT_HOPS x) (b.hopsVia x p)
    | none => (b.put (F.FAB_TREE_STAT_PARENT_VALID x) 0).put (F.FAB_TREE_STAT_HOPS x) (if b.treeMaster x then 0 else 31)
  let b2 := b1.setTree x { b1.tree x with followed := o.bind fun p => (lookup (b1.tree x).nbr p).map (·.1.hash) }
  let b3 := if old.isSome && o.isSome && old != o then b2.bump (F.FAB_TREE_REPARENT_CNT x) else b2
  if x < 2 then
    let b4 := if old == o then b3 else b3.setDomain x { b3.domain x with exch := none }
    match o with
    | some p => (b4.put (F.TIM_DOM_STATE_PARENT_VALID x) 1).put (F.TIM_DOM_STATE_PARENT_PORT x) p
    | none => b4.put (F.TIM_DOM_STATE_PARENT_VALID x) 0
  else b3

/-- The ports before a port in an order. -/
def before (p : Nat) : List Nat → List Nat
  | [] => []
  | q :: l => if q = p then [] else q :: before p l

/-- The ports after a port in an order. -/
def after (p : Nat) : List Nat → List Nat
  | [] => []
  | q :: l => if q = p then l else after p l

/-- The parent re-evaluated (R465): kept while eligible, unless a port earlier in the order has been eligible for 64
epochs; otherwise the first eligible port. A master has none. -/
def Block.reparent (b : Block) (x : Nat) : Block :=
  if b.treeMaster x then b.setParent x none
  else
    let first := (b.treeOrder x).find? (b.eligible x)
    match b.parentPort x with
    | some p =>
      if b.eligible x p then
        match (before p (b.treeOrder x)).find? fun q => b.eligible x q && decide (64 ≤ lookupD (b.tree x).eligible q 0) with
        | some q => b.setParent x (some q)
        | none => b.setParent x (some p)
      else b.setParent x first
    | none => b.setParent x first

/-- Time base asks for a new parent: the next eligible port after the current one in the order (R465, R226). -/
def Block.reparentNext (b : Block) (x : Nat) : Block :=
  match b.parentPort x with
  | some p =>
    match (after p (b.treeOrder x)).find? (b.eligible x) with
    | some q => b.setParent x (some q)
    | none => b
  | none => b.reparent x

/-- What an epoch boundary does to a tree: eligibility counts, children, the parent, and one TREE message on every ACTIVE
fabric port (R465). -/
def Block.treeEpoch (b : Block) (x : Nat) : Block :=
  let t := b.tree x
  let b1 := b.setTree x { t with
    eligible := allPorts.map fun p => (p, if b.eligible x p then lookupD t.eligible p 0 + 1 else 0) }
  let b2 := (b1.refreshChildren x).reparent x
  b2.activeFabric.foldl (fun c p => c.post (.link p) 4
    (.tree ⟨x, c.get (F.FAB_TREE_STAT_HOPS x), c.parentPort x == some p,
      if c.treeMaster x then c.get F.IDN_SERHASH else (c.tree x).followed.getD 0⟩)) b2

/-- What an epoch boundary does to claims and pins: one flood of each pending message (R445, R446). -/
def Block.claimEpoch (b : Block) : Block :=
  let b1 := match b.fab.claim with
    | some c =>
      let b2 := if c.sent < 16 then b.floodClaim c.kind c.node false else b
      { b2 with fab := { b2.fab with claim := some { c with sent := c.sent + 1 } } }
    | none => b
  match b1.fab.pin with
  | some j =>
    let n := b1.nextFlood
    let b2 := (n.2.remember j.serial j.node n.1).flood none (.pin ⟨j.node, j.serial, n.1, n.2.get F.IDN_NODE_NODE_ID⟩)
    { b2 with fab := { b2.fab with pin := some { j with epochs := j.epochs + 1 } } }
  | none => b1

/-- What an epoch boundary does in Bamien (R445, R446, R455, R457, R459, R465, R487). -/
def Block.fabricEpoch (b : Block) : Block :=
  let b1 := b.ageRoutes.claimEpoch
  let b2 := ([0, 1, 2] : List Nat).foldl (fun c x => c.treeEpoch x) b1
  let b3 := b2.periodicAdvert.triggeredAdvert
  let b4 := if b3.epochs % 64 = 0 then b3.sendCaps else b3
  let b5 := allPorts.foldl (fun c p =>
    match (c.port p).lostLane with
    | some (l, n) =>
      c.setPort p { c.port p with
        lostLane := some (l, if c.flag (F.LNK_L_STAT_BLOCK_LOCK l) then n + 1 else 0) }
    | none => c) b4
  b5.reQuarantine

end Sys2Proof.Machine
end

