-- ==== Sys2Proof/Machine/TimeOps.lean ====
section
/-! DEFINITION. The time island: quality, bound, the time map, stepping a domain, switching the stamping domain (R210 to
R233, R314). -/

namespace Sys2Proof.Machine

open Sys2Proof

/-! ### Quality and bound (R212, R216, R217, R227) -/

/-- Sync states (R242). -/
abbrev syUnsynced : Nat := 0
abbrev syTrack : Nat := 1
abbrev syHoldover : Nat := 2
abbrev syFreerun : Nat := 3
abbrev syMaster : Nat := 4

/-- The sync state of a domain (R226). -/
def Block.syncState (b : Block) (x : Nat) : Nat := b.get (F.TIM_DOM_STATE_SYNC_STATE x)

/-- Hours of continuous oven on-time (R212), saturating as TIM_OVN shows it. -/
def Block.onHours (b : Block) : Nat := satU 16 (b.time.warmSec / 3600)

/-- The local quality: 0, 3 or 4 (R216). -/
def Block.localQuality (b : Block) : Nat :=
  if !b.flag F.TIM_STAT_PLL_LOCK then 4
  else if b.flag F.TIM_STAT_REF_NOW || b.flag F.TIM_STAT_OVN_READY then 0
  else 3

/-- The holdover rate r in 10^-12 (R217). -/
def Block.holdoverRate (b : Block) (x : Nat) : Nat :=
  max (b.get (F.TIM_DOM_HO x)) (if b.onHours < 720 then 230 else 23)

/-- The bound of a domain in ps, saturating (R217): 4 000 ps for each tick since the last sync, times r. -/
def Block.boundOf (b : Block) (x : Nat) : Nat :=
  let d := b.domain x
  match b.syncState x with
  | 0 => 2 ^ 32 - 1
  | 1 => satU 32 d.boundSync
  | 4 => 0
  | _ => satU 32 (d.boundSync + (divOpen (b.holdoverRate x * ((b.tick - d.syncTick) * 4000) : Nat) (10 ^ 12)).toNat)

/-- The quality of a domain by the first row of R216 that applies. -/
def Block.qualityOf (b : Block) (x : Nat) : Nat :=
  let d := b.domain x
  if !d.established then 7
  else
    match b.syncState x with
    | 4 => b.localQuality
    | 1 => max b.localQuality d.parentQuality
    | 2 =>
      if 3 ≤ b.localQuality then 4
      else if b.boundOf x ≤ 10 ^ 6 then 1
      else if b.boundOf x ≤ 10 ^ 9 then 2
      else 4
    | _ => 4

/-- A domain is lost (R227). -/
def Block.lost (b : Block) (x : Nat) : Bool :=
  b.syncState x != syMaster && (decide (8 ≤ b.get (F.TIM_DOM_STATE_MISSED x)) || b.syncState x == syUnsynced)

/-! ### The time map (R312, R314) -/

/-- The epoch slot of (wrap, epoch) given as wrap × 4096 + epoch (R312). -/
def epochSlot (e : Nat) : Nat := e % 65536

/-- The standby's ring manager works: it is in SYNC, WARM or HOT (R13, R562). -/
def Block.sbStores (b : Block) : Bool := ([2, 3, 4] : List Nat).contains (b.get F.PAIR_STAT_SB_STATE)

/-- Bytes written to the standby's DRAM. -/
def Block.sbStore (b : Block) (a : Nat) (v : List Nat) : Block :=
  { b with pair := { b.pair with sbDram := writeBytes b.pair.sbDram a v, sbPoison := clearPoison b.pair.sbPoison a v.length } }

/-- Bytes that both concentrators write to their DRAM. -/
def Block.bothStore (b : Block) (a : Nat) (v : List Nat) : Block :=
  let b1 := b.store a v
  if b1.sbStores then b1.sbStore a v else b1

/-- An anchor of the time map written at this tick: the stamping time, its residual, increment, domain and quality; under
a held offset the residual reads 0 (R230, R314). The first anchors of an epoch take their places in order, a later one the
last place. -/
def Block.anchor (b : Block) : Block :=
  let t := b.stampRaw
  let d := b.domain b.stampDom
  let res := if b.time.held.isSome then 0 else b.time.resid
  let a := 0x068E800000 + epochSlot (epochOf t) * 128 + min 3 b.time.anchors * 32
  let bytes := leBytes 8 b.time.pllTicks ++ leBytes 4 (tsNs t) ++ leBytes 4 (t % 2 ^ 32) ++ leBytes 8 res
    ++ leBytes 4 (d.inc % 2 ^ 32)
    ++ [d.inc / 2 ^ 32 % 256, 1 + 2 * b.stampDom + 4 * b.stampQuality] ++ leBytes 2 (tsWrap t)
  { b.bothStore a bytes with time := { b.time with anchors := b.time.anchors + 1 } }

/-! ### TOUT programs against a jump or a step (R237-R239) -/

/-- The full time of the domain that a TOUT program follows: 0 P, 1 S, else the stamping time (R233, R243). -/
def Block.toutTime (b : Block) (dom : Nat) : Nat := if dom < 2 then (b.domain dom).time else b.stampRaw

/-- The time of instance k in units of 2^-32 ns (R237). (DEDUCED, log entry 38.) -/
def Tout.instant (t : Tout) (k : Nat) : Nat := wrapTime ((t.start * 2 ^ 28 + k * t.period * 2 ^ 32 : Nat) : Int)

/-- No instance is left after `k` of them (R237). -/
def Tout.isOver (t : Tout) (k : Nat) : Bool :=
  (t.period == 0 && decide (1 ≤ k)) || (t.count != 0 && decide (t.count ≤ k))

/-- A program disarms (R236, R237). -/
def Block.disarm (b : Block) (i : Nat) : Block :=
  { b.put (F.TOUT_CTRL_ARM i) 0 with time := { b.time with tout := eraseKey b.time.tout i } }

/-- The instances from `next` on whose time lies before `now`: for a period of 0 at most the one (R238). -/
def Tout.passed (t : Tout) (now : Nat) : Nat :=
  let late := timeDiff now (t.instant t.next)
  if late ≤ 0 then 0
  else
    let n := if t.period = 0 then 1 else ceilDiv late.toNat (t.period * 2 ^ 32)
    if t.count = 0 then n else min n (t.count - t.next)

/-- The time that TOUT programs of some domains follow has jumped forward: the instances it passed are not emitted and are
counted; a program without a further one disarms (R238). -/
def Block.toutJump (b : Block) (dom : Nat) : Block :=
  b.time.tout.foldl (fun c e =>
    let t := e.2
    if min t.dom 2 = dom && t.waiting.isNone then
      let n := t.passed (c.toutTime t.dom)
      if n = 0 then c
      else
        let c1 := c.bumpBy (F.TOUT_MISSED e.1) n
        let t1 := { t with next := t.next + n }
        if t1.isOver t1.next then c1.disarm e.1
        else { c1 with time := { c1.time with tout := insertKey c1.time.tout e.1 t1 } }
    else c) b

/-- A program armed by the image starts once its domain's quality is 1 or better: at the first time T more than 10 µs
ahead with T mod PERIOD = PHASE_NS (R239). -/
def Block.toutStart (b : Block) : Block :=
  let go (c : Block) (e : Nat × Tout) : Block :=
    match e.2.waiting with
    | some phase =>
      let t := e.2
      let q := if t.dom < 2 then (c.domain t.dom).quality else c.stampQuality
      if q ≤ 1 then
        let base := c.toutTime t.dom / 2 ^ 32 + 10000 + 1
        let start := base + (phase + t.period - base % t.period) % t.period
        if t.period = 0 then c
        else
          { c with time := { c.time with
              tout := insertKey c.time.tout e.1 { t with waiting := none, start := start * 16, next := 0 } } }
      else c
    | none => c
  b.time.tout.foldl go b

/-! ### What a change of the time base makes visible -/

/-- What shows after a change of the time base (R216, R227, R314, R541): the sources TIM_LOST_x and TIM_QUALITY, one anchor
of the time map where the stamping increment, sync state or quality changed, waiting TOUT programs. At a tick whose epoch boundary has
not been acted on, the boundary writes the anchor. -/
def Block.retimed (old new : Block) : Block :=
  let b1 := ([0, 1] : List Nat).foldl (fun c x => c.setLevel (153 + x) (c.lost x) (c.domain x).quality) new
  let x := b1.stampDom
  let q := b1.stampQuality
  let b2 := if q != old.stampQuality then b1.raise 155 q else b1
  let changed := old.stampDom == x && ((old.domain x).inc != (b2.domain x).inc || old.syncState x != b2.syncState x
    || old.stampQuality != q)
  let b3 := if b2.time.established && changed && b2.time.epochSeen == some b2.epochNow then b2.anchor else b2
  b3.toutStart

/-- A domain's quality derived anew (R216). -/
def Block.requality (b : Block) (x : Nat) : Block := b.setDomain x { b.domain x with quality := b.qualityOf x }

/-- The sync state of a domain changes: its quality is derived at once (R216, R226). -/
def Block.setSync (b : Block) (x st : Nat) : Block := (b.put (F.TIM_DOM_STATE_SYNC_STATE x) st).requality x

/-- The increment clamped to 4.0 ns ± 500 ppm (R213). -/
def clampInc (i : Int) : Nat := (clampI 17171279250 17188459118 i).toNat

/-- The stamping time is established with the first domain that is (R228); no epoch has occurred yet. -/
def Block.establishStamp (b : Block) (x : Nat) : Block :=
  if b.time.established then b
  else
    let b1 := { b with time := { b.time with established := true, dom := x == 1, resid := 0, held := none } }
    let b2 := (b1.put F.TIM_STAT_ESTABLISHED 1).put F.TIM_STAT_STAMP_DOM x
    { b2 with time := { b2.time with epochSeen := some (epochOf b2.stampRaw), anchors := 0 } }

/-- A domain's counter stepped to a full time (R223, R242); its TOUT programs skip what it passed. -/
def Block.stepTo (b : Block) (x t : Nat) : Block :=
  (b.setDomain x { b.domain x with time := t, epochSeen := epochOf t }).toutJump x

/-- Configure ends on the master of a domain: its counter is established, from the other domain where that is established
with quality 2 or better, else at 0 (R215). -/
def Block.establishMaster (b : Block) (x : Nat) : Block :=
  let o := b.domain (1 - x)
  let t := if o.established && decide (o.quality ≤ 2) then o.time else 0
  let inc := clampInc ((b.get (F.TIM_DOM_MINC_HI x) * 2 ^ 32 + b.get (F.TIM_DOM_MINC_LO x) : Nat) : Int)
  let b1 := b.setDomain x { b.domain x with
    master := true, time := t, established := true, inc := inc, baseInc := inc, epochSeen := epochOf t }
  ((b1.setSync x syMaster).put (F.TIM_DOM_STATE_HOPS x) 0).establishStamp x

/-! ### The PLL and its reference (R210, R211) -/

/-- The reference that REF_SEL gives: REF_NOW, and whether it is valid. AUTO takes REFIN while present. -/
def Block.reselect (b : Block) : Block :=
  let sel := b.get F.TIM_CTRL_REF_SEL
  let present := b.flag F.TIM_STAT_REFIN_PRESENT
  let refin := sel == 1 || (decide (2 ≤ sel) && present)
  let valid := if refin then present else b.domainOn 17
  let b1 := { b.putB F.TIM_STAT_REF_NOW refin with time := { b.time with refValid := valid } }
  if valid then b1 else b1.put F.TIM_STAT_PLL_LOCK 0

end Sys2Proof.Machine
end

