-- ==== Sys2Proof/Machine/Ring.lean ====
section
/-! DEFINITION. The raw ring and its directory: blocks, streams, epoch index, retention, and how a reader inside the module takes a
block (R307 to R322). -/

namespace Sys2Proof.Machine

open Sys2Proof

/-! ### Places (R20, R309, R313) -/

/-- The blocks of the ring (R308). -/
abbrev ringBlocks : Nat := 4194304

/-- Blocks that are safe behind the write pointer (R316). -/
abbrev safeBlocks : Nat := 4177920

/-- The address of a block. -/
def blockAddr (n : Nat) : Nat := 0x0100000000 + n % ringBlocks * 4096

/-- The address of a block's directory entry (R309). -/
def entryAddr (n : Nat) : Nat := 0x0680000000 + n % ringBlocks * 16

/-- The address of a stream's epoch index entry (R313). -/
def indexAddr (s e : Nat) : Nat := 0x068C000000 + (s * 65536 + epochSlot e) * 8

/-- The size of a stream's item in bytes (R307). -/
def itemSize (s : Nat) : Nat := if s < 60 then 32 else if s < 72 then 8 else 16

/-- Items that a block of a stream holds (R307). -/
def blockItems (s : Nat) : Nat := 4096 / itemSize s

/-! ### The manager (R308 to R313) -/

/-- What the ring manager does with one item: its state, and the bytes it writes, in order. -/
structure RingStep where
  ring : RingSt
  writes : List (Nat × List Nat)
deriving DecidableEq, Repr

/-- A directory entry (R309). -/
def entryBytes (s : Nat) (x : OpenBlock) (count next : Nat) (isOpen tail : Bool) : List Nat :=
  wordBytes [tsNs x.raw, word1 x.raw x.dom x.quality (s * 2 ^ 10 + count), x.n % 2 ^ 32,
    next % ringBlocks + tsWrap x.raw % 16 * 2 ^ 22 + b2n isOpen * 2 ^ 27 + b2n x.gap * 2 ^ 28 + b2n tail * 2 ^ 29]

/-- A write added. -/
def RingStep.write (r : RingStep) (a : Nat) (v : List Nat) : RingStep := { r with writes := r.writes ++ [(a, v)] }

/-- A stream's open block closes: its entry is final but for NEXT (R308, R310). -/
def RingStep.close (r : RingStep) (s : Nat) : RingStep :=
  match lookup r.ring.open_ s with
  | some x =>
    { r with ring := { r.ring with open_ := eraseKey r.ring.open_ s, last := insertKey r.ring.last s x } }.write
      (entryAddr x.n) (entryBytes s x x.count 0 false false)
  | none => r

/-- A stream stops: its last block carries TAIL (R308, R310). -/
def RingStep.stop (r : RingStep) (s : Nat) : RingStep :=
  let r1 := r.close s
  match lookup r1.ring.last s with
  | some x =>
    { r1 with ring := { r1.ring with last := eraseKey r1.ring.last s } }.write
      (entryAddr x.n) (entryBytes s x x.count 0 false true)
  | none => r1

/-- The first block of a stream in an epoch takes its place in the epoch index (R313). -/
def RingStep.index (r : RingStep) (s e n : Nat) : RingStep :=
  if lookup r.ring.indexed s = some e then r
  else
    { r with ring := { r.ring with indexed := insertKey r.ring.indexed s e } }.write
      (indexAddr s e) (leBytes 4 n ++ leBytes 2 (e / 4096) ++ leBytes 2 1)

/-- A stream opens a block at the next SEQ: the new entry, then the previous one with its NEXT (R308, R310). -/
def RingStep.open_ (r : RingStep) (s raw dom quality : Nat) : RingStep :=
  let n := r.ring.alloc
  let prev := lookup r.ring.last s
  let x : OpenBlock := ⟨n, epochOf raw, raw, dom, quality, 0, prev.isNone⟩
  let r1 := { r with ring := { r.ring with
    alloc := n + 1, count := r.ring.count + 1
    open_ := insertKey r.ring.open_ s x, last := eraseKey r.ring.last s } }.write (entryAddr n) (entryBytes s x 0 0 true false)
  let r2 := match prev with
    | some y => r1.write (entryAddr y.n) (entryBytes s y y.count n false false)
    | none => r1
  r2.index s (epochOf raw) n

/-- An item stored in its stream's open block (R308, R311). -/
def RingStep.put (r : RingStep) (s : Nat) (bytes : List Nat) : RingStep :=
  match lookup r.ring.open_ s with
  | some x =>
    let r1 := { r with ring := { r.ring with open_ := insertKey r.ring.open_ s { x with count := x.count + 1 } } }.write
      (blockAddr x.n + x.count * itemSize s) bytes
    if x.count + 1 = blockItems s then r1.close s else r1
  | none => r

/-- An item of a stream: a block of an earlier epoch closes first (R308). -/
def RingStep.item (r : RingStep) (s raw dom quality : Nat) (bytes : List Nat) : RingStep :=
  let stale := match lookup r.ring.open_ s with
    | some x => x.epoch != epochOf raw
    | none => false
  let r1 := if stale then r.close s else r
  (if (lookup r1.ring.open_ s).isSome then r1 else r1.open_ s raw dom quality).put s bytes

/-- The streams of the ring, open or not (R313). -/
def ringStreams : List Nat := List.range 80

/-- An epoch boundary: every open block closes, and the new epoch's index entries are laid down not valid (R308, R313, R318). -/
def RingStep.boundary (r : RingStep) (e : Nat) : RingStep :=
  let r1 := ringStreams.foldl RingStep.close r
  let past := match r1.ring.cur with
    | some k => insertKey (r1.ring.past.filter fun x => decide (e ≤ x.1 + 70000)) k r1.ring.count
    | none => r1.ring.past
  let r2 := { r1 with ring := { r1.ring with prev := r1.ring.count, count := 0, cur := some e, past := past } }
  ringStreams.foldl (fun q s =>
    if lookup q.ring.indexed s = some e then q else q.write (indexAddr s e) (leBytes 4 0 ++ leBytes 2 (e / 4096) ++ leBytes 2 0)) r2

/-- What the manager does with the next thing off the tile links. -/
def RingSt.take (r : RingSt) : LinkItem → RingStep
  | .item s raw dom quality bytes => (RingStep.mk r []).item s raw dom quality bytes
  | .boundary e => (RingStep.mk r []).boundary e
  | .stop l => l.foldl RingStep.stop ⟨r, []⟩

/-- The standby's manager takes the same item (R13, R322). -/
def Block.sbTake (b : Block) (x : LinkItem) : Block :=
  if b.sbStores then
    let r := b.pair.sbRing.take x
    r.writes.foldl (fun c w => c.sbStore w.1 w.2) { b with pair := { b.pair with sbRing := r.ring } }
  else b

/-- The active's manager takes an item while its concentrator is on (R22). -/
def Block.ringTake (b : Block) (x : LinkItem) : Block :=
  if b.ccOn then
    let r := b.ring.take x
    r.writes.foldl (fun c w => c.store w.1 w.2) { b with ring := r.ring }
  else b

/-- RING_ITEM_STORE: the oldest thing on the tile links (R308 to R313). (DEDUCED, log entry 46.) -/
def ringItemStore (b : Block) : Block :=
  match b.links with
  | [] => b
  | x :: l => ({ b with links := l }.ringTake x).sbTake x

/-- RING_ITEM_STORE (R311). -/
def execRingItemStore (s : State) : Host.Outcome State Fault Refusal :=
  onHw (Instr.wf .ringItemStore) s ringItemStore

/-! ### Retention (R281, R316, R318) -/

/-- N of R318. -/
def Block.ringLoad (b : Block) : Nat := max b.ring.prev (82 * b.groupCount)

/-- R_t in samples of 100 ns, rounded down; none while unbounded (R281, R318). -/
def Block.retainSamples (b : Block) : Option Nat :=
  if b.ringLoad = 0 then none else some (safeBlocks * epochNs / (b.ringLoad * 100))

/-- RING_RETAIN (R318, R325). -/
def Block.retainUs (b : Block) : Nat :=
  if b.ringLoad = 0 then 0xFFFFFFFF
  else
    let us := safeBlocks * epochNs / (b.ringLoad * 1000)
    if 4294967295 < us then 0xFFFFFFFF else us

/-- A block is safe (R316). -/
def RingSt.safe (r : RingSt) (n : Nat) : Bool := decide (r.alloc ≤ n + safeBlocks)

/-! ### Reading (R316, R319) -/

/-- A directory entry as read. -/
structure Entry where
  ns : Nat
  w2 : Nat
  seq : Nat
  w3 : Nat
deriving DecidableEq, Repr

/-- The entry of a block in a memory. -/
def entryOf (m : Table Byte) (n : Nat) : Entry :=
  let w := leWords (readBytes m (entryAddr n) 16)
  ⟨w.getD 0 0, w.getD 1 0, w.getD 2 0, w.getD 3 0⟩

/-- STREAM of an entry. -/
def Entry.stream (e : Entry) : Nat := bitsOf e.w2 17 10

/-- COUNT of an entry. -/
def Entry.count (e : Entry) : Nat := bitsOf e.w2 9 0

/-- NEVER of an entry. -/
def Entry.never (e : Entry) : Bool := bitAt e.w3 26

/-- OPEN of an entry. -/
def Entry.isOpen (e : Entry) : Bool := bitAt e.w3 27

/-- The first ordering time of an entry in 1/1024 ns within its wrap. -/
def Entry.first (e : Entry) : Nat := e.ns * 1024 + e.w2 / 2 ^ 22

/-- A block read from a ring: its SEQ count, its entry, its items, and whether an item word was poisoned. -/
structure ReadBlock where
  n : Nat
  entry : Entry
  items : List (List Nat)
  poison : Bool
deriving DecidableEq, Repr

/-- Items of a block, from its bytes. -/
def chunks (k : Nat) : Nat → List Nat → List (List Nat)
  | 0, _ => []
  | n + 1, l => l.take k :: chunks k n (l.drop k)

/-- The items that a block holds: COUNT, or what the manager has stored while it is open. -/
def RingSt.stored (r : RingSt) (s n : Nat) (e : Entry) : Nat :=
  if e.isOpen then
    match lookup r.open_ s with
    | some x => if x.n = n then x.count else 0
    | none => 0
  else e.count

/-- A reader of the module takes a block of a stream (R316): not started where it is not safe; else entry, items, entry. -/
def Block.readBlock (b : Block) (s n : Nat) : Block × Option ReadBlock :=
  if !b.ring.safe n then (b.bump F.RING_GUARD_CNT, none)
  else
    let b1 := b.checkRange (entryAddr n) 16
    if b1.poisoned (entryAddr n) 16 then ((b1.bump F.RING_TORN_CNT).bump F.RING_POISON_CNT, none)
    else
      let e := entryOf b1.dram n
      if e.never || e.stream != s || e.seq != n % 2 ^ 32 then (b1.bump F.RING_TORN_CNT, none)
      else
        let c := b1.ring.stored s n e
        let b2 := b1.checkRange (blockAddr n) (c * itemSize s)
        (b2, some ⟨n, e, chunks (itemSize s) c (b2.load (blockAddr n) (c * itemSize s)), b2.poisoned (blockAddr n) (c * itemSize s)⟩)

/-- The block count that an index names, the newest at or before the write pointer (R308). -/
def RingSt.countAt (r : RingSt) (seq : Nat) : Nat :=
  if r.alloc = 0 then 0 else r.alloc - 1 - (r.alloc - 1 + 2 ^ 32 - seq % 2 ^ 32) % 2 ^ 32

/-- The first block of a stream in an epoch, where the index names one (R313). -/
def Block.firstBlock (b : Block) (s e : Nat) : Option Nat :=
  let w := b.load (indexAddr s e) 8
  if leVal (w.drop 4 |>.take 2) = e / 4096 % 65536 && bitAt (leVal (w.drop 6)) 0 then some (b.ring.countAt (leVal (w.take 4))) else none

/-- The block that follows in a stream (R309): the one NEXT names, later than this one. -/
def nextBlock (n : Nat) (e : Entry) : Nat := n + (e.w3 % ringBlocks + ringBlocks - n % ringBlocks) % ringBlocks

/-- A block has a successor: it is closed, is not the last one closed, and carries no TAIL. -/
def RingSt.hasNext (r : RingSt) (s : Nat) (x : ReadBlock) : Bool :=
  !x.entry.isOpen && !bitAt x.entry.w3 29
    && match lookup r.last s with
      | some y => y.n != x.n
      | none => true

/-- The directory entry of a block still describes it, in a stream (R309). -/
def Block.entryStands (b : Block) (s n : Nat) : Bool :=
  let x := entryOf b.dram n
  x.stream == s && !x.never && x.seq == n % 2 ^ 32

/-- The next block of a stream from `n` on that may be read; those that are not safe are counted (R316). -/
def nextStored (b : Block) (s n : Nat) : Nat → Block × Option Nat
  | 0 => (b, none)
  | fuel + 1 =>
    if b.ring.alloc ≤ n then (b, none)
    else if b.entryStands s n then
      if b.ring.safe n then (b, some n) else nextStored (b.bump F.RING_GUARD_CNT) s (n + 1) fuel
    else nextStored b s (n + 1) fuel

/-- Blocks of a stream read for a span of an epoch, and whether one was missed before the first of them. -/
structure StreamRead where
  blocks : List ReadBlock
  lost : Bool
deriving DecidableEq, Repr

/-- The blocks of a stream in an epoch whose items may lie between two visible times within the wrap, walked by NEXT from block `n`
(R309, R313, R316): a block that ends before the span is passed over. -/
def readFrom (b : Block) (s e lo hi n : Nat) : Nat → Block × StreamRead
  | 0 => (b, ⟨[], false⟩)
  | fuel + 1 =>
    if b.ring.alloc ≤ n then (b, ⟨[], false⟩)
    else
      let x := entryOf b.dram n
      let nx := nextBlock n x
      let known := b.entryStands s n
      if known && (x.ns / 2 ^ 20 != e % 4096 || decide (hi < x.first)) then (b, ⟨[], false⟩)
      else if known && decide (n < nx) && b.entryStands s nx && !x.isOpen && decide ((entryOf b.dram nx).first ≤ lo)
          && (entryOf b.dram nx).ns / 2 ^ 20 == e % 4096 then
        readFrom b s e lo hi nx fuel
      else
        let r := b.readBlock s n
        match r.2 with
        | some y =>
          if r.1.ring.hasNext s y then
            let q := readFrom r.1 s e lo hi (nextBlock n y.entry) fuel
            (q.1, ⟨y :: q.2.blocks, false⟩)
          else (r.1, ⟨[y], false⟩)
        | none =>
          match nextStored r.1 s (n + 1) ringBlocks with
          | (b1, none) => (b1, ⟨[], true⟩)
          | (b1, some m) =>
            let q := readFrom b1 s e lo hi m fuel
            (q.1, ⟨q.2.blocks, true⟩)

/-- The blocks of a stream in an epoch, for a span (R312, R313, R316). -/
def Block.readEpoch (b : Block) (s e lo hi : Nat) : Block × StreamRead :=
  match b.firstBlock s e with
  | none => (b, ⟨[], false⟩)
  | some n => readFrom b s e lo hi n ringBlocks

/-! ### Ticks and stamping times (R314) -/

/-- An anchor as read: TICK, the full time (2^-32 ns), RES, the increment. -/
structure Anchor where
  tick : Nat
  time : Nat
  res : Nat
  inc : Nat
deriving DecidableEq, Repr

/-- The anchors of an epoch, in order (R314). -/
def anchorsOf (m : Table Byte) (e : Nat) : List Anchor :=
  ([0, 1, 2, 3] : List Nat).filterMap fun a =>
    let l := readBytes m (0x068E800000 + epochSlot e * 128 + a * 32) 32
    let at_ (o n : Nat) : Nat := leVal ((l.drop o).take n)
    if bitAt (at_ 0x1d 1) 0 && at_ 0x1e 2 == e / 4096 % 65536 && at_ 8 4 / 2 ^ 20 == e % 4096 then
      some ⟨at_ 0 8, at_ 0x1e 2 * 2 ^ 64 + at_ 8 4 * 2 ^ 32 + at_ 0xc 4, at_ 0x10 8, at_ 0x1c 1 * 2 ^ 32 + at_ 0x18 4⟩
    else none

/-- The stamping time of the tick n ticks after an anchor (R314). -/
def Anchor.at_ (a : Anchor) (n : Nat) : Nat := a.time + n * a.inc - min a.res (n * slewStep)

/-- The first tick after an anchor at which the stamping time reaches a time: the earlier of the two lines of R314. -/
def Anchor.ticksTo (a : Anchor) (t : Nat) : Nat :=
  min (ceilDiv (t - a.time) (a.inc - slewStep)) (ceilDiv (t + a.res - a.time) a.inc)

/-- The anchor in force at a tick: of the epochs from `e` back, the latest anchor at or before it. -/
def anchorBefore (m : Table Byte) (tick e : Nat) : Nat → Option Anchor
  | 0 => none
  | fuel + 1 =>
    match ((anchorsOf m e).filter fun a => decide (a.tick ≤ tick)).getLast? with
    | some a => some a
    | none =>
      if e = 0 && (anchorsOf m (2 ^ 28 - 1)).isEmpty then none else anchorBefore m tick ((e + 2 ^ 28 - 1) % 2 ^ 28) fuel

/-- Epochs that a window may reach back: 2^24 samples of 100 ns. -/
abbrev backEpochs : Nat := 1700

/-- The stamping time of a tick (R314), sought from an epoch back. -/
def Block.timeOfTick (b : Block) (tick e : Nat) : Option Nat :=
  (anchorBefore b.dram tick e backEpochs).map fun a => a.at_ (tick - a.tick)

/-- The tick at which a full time (2^-32 ns) begins (R314): sought in the anchors of its epoch. -/
def Block.tickOfTime (b : Block) (t : Nat) : Option Nat :=
  (((anchorsOf b.dram (epochOf t)).filter fun a => decide (a.time ≤ t + 2 ^ 22)).getLast?).map fun a => a.tick + a.ticksTo (t / 2 ^ 22 * 2 ^ 22)

/-! ### What the registers show (R325) -/

/-- The full wrap of an entry's FIRST: the newest at or before now with its four bits. -/
def Block.wrapOf (b : Block) (e : Entry) : Nat :=
  let now := tsWrap b.stampRaw
  (now + 65536 - (now + 16 - bitsOf e.w3 25 22) % 16) % 65536

/-- The live words of RING, by address. -/
def Block.ringWord (b : Block) (addr : Nat) : Option Nat :=
  let wrapped := decide (ringBlocks ≤ b.ring.alloc)
  let safe := if wrapped then b.ring.alloc - safeBlocks else 0
  if addr = 0x80000 then some (b2n wrapped * 2 ^ 31 + b.ring.prev % 2 ^ 23)
  else if addr = 0x80004 then some (b.ring.alloc % 2 ^ 32)
  else if addr = 0x80008 then some b.retainUs
  else if addr = 0x8000c then some (safe % 2 ^ 32)
  else if addr = 0x80010 then some (entryOf b.dram safe).ns
  else if addr = 0x80014 then some (b.wrapOf (entryOf b.dram safe))
  else if addr = 0x80030 then some (b.ring.alloc % 2 ^ 32)
  else if addr = 0x80034 then some (b.ring.alloc / 2 ^ 32 % 2 ^ 32)
  else if decide (0x80400 ≤ addr) && decide (addr < 0x80540) then
    match lookup b.ring.open_ ((addr - 0x80400) / 4) with
    | some x => some (2 ^ 22 + x.n % ringBlocks)
    | none => some 0
  else none

end Sys2Proof.Machine
end

