-- ==== Sys2Proof/Machine/Loop.lean ====
section
/-! DEFINITION. Beaver: numbers, operations, valid banks, one execution (R417 to R436). -/

namespace Sys2Proof.Machine

open Sys2Proof

/-! ### Places -/

/-- A loop slot's state. -/
def Block.loop (b : Block) (t s : Nat) : LoopSt := lookupD b.loops (4 * t + s) LoopSt.reset

/-- A loop slot's state replaced. -/
def Block.setLoop (b : Block) (t s : Nat) (x : LoopSt) : Block := { b with loops := insertKey b.loops (4 * t + s) x }

/-- A precision channel's state. -/
def Block.pch (b : Block) (n : Nat) : PrecCh := lookupD b.prec.ch n PrecCh.reset

/-- A precision channel's state replaced. -/
def Block.setPch (b : Block) (n : Nat) (x : PrecCh) : Block := { b with prec := { b.prec with ch := insertKey b.prec.ch n x } }

/-- The decimation N of a rate code (R181). -/
def decimation (odr : Nat) : Nat :=
  ([128, 256, 512, 1024, 2048, 4096, 8192, 16384, 20480, 40960, 81920, 204800, 409600, 819200, 2048000, 4096000] : List Nat).getD odr 40960

/-- The active bank of a slot (R417). -/
def Block.bankOf (b : Block) (t s : Nat) : Nat := b.get (F.BVR_S_STAT_BANK t s)

/-! ### Operation words (R423) -/

/-- The fields of an operation word. -/
structure LoopOp where
  op : Nat
  dst : Nat
  a : Nat
  b : Nat
  coef : Nat
  osh : Nat
  arg : Nat
  top : Nat
deriving DecidableEq, Repr

/-- An operation word taken apart (R423). -/
def loopOp (w : Nat) : LoopOp :=
  ⟨bitsOf w 3 0, bitsOf w 9 4, bitsOf w 15 10, bitsOf w 21 16, bitsOf w 30 22, bitsOf w 33 31, bitsOf w 47 34, bitsOf w 63 48⟩

/-- PROG_LEN of a bank. -/
def Block.progLen (b : Block) (t s k : Nat) : Nat := b.get (F.BVR_S_BANK_PROG_LEN t s k)

/-- The program of a bank. -/
def Block.program (b : Block) (t s k : Nat) : List LoopOp :=
  (List.range (min 64 (b.progLen t s k))).map fun i => loopOp (b.opWord t s k i)

/-- FORMAT of a bank is COMPAT (R421). -/
def Block.compat (b : Block) (t s k : Nat) : Bool := b.flag (F.BVR_S_BANK_FORMAT t s k)

/-- A LOAD of a channel. -/
def LoopOp.loads (o : LoopOp) : Bool := o.op == 1 && !bitAt o.arg 4

/-- The position of the OUT of a program. -/
def outPosition (l : List LoopOp) : Option Nat := (l.find? fun o => o.op == 11).map fun o => o.arg % 16

/-- The coefficients that an operation takes (R424). -/
def LoopOp.coefs (o : LoopOp) : Nat :=
  match o.op with
  | 1 => if bitAt o.arg 4 then 1 else 0
  | 2 => 1
  | 4 => 5
  | 5 => 4
  | 6 => 2
  | 7 => 1
  | 8 => 1
  | _ => 0

/-- The operation writes DST (R424). -/
def LoopOp.writes (o : LoopOp) : Bool := decide (1 ≤ o.op) && decide (o.op ≤ 9)

/-- The operation reads A. -/
def LoopOp.readsA (o : LoopOp) : Bool := decide (2 ≤ o.op) && decide (o.op ≤ 11)

/-- The operation reads B. -/
def LoopOp.readsB (o : LoopOp) : Bool := o.op == 3 || o.op == 10

/-- The ARG values that an operation admits (R424). -/
def LoopOp.argOk (o : LoopOp) : Bool :=
  match o.op with
  | 1 => decide (o.arg ≤ 16)
  | 3 => decide (o.arg < 4)
  | 5 => decide (o.arg < 2)
  | 6 => decide (o.arg < 2)
  | 11 => decide (o.arg < 16)
  | _ => o.arg == 0

/-- An operation by itself is valid in a bank (R424, R426). -/
def LoopOp.ok (o : LoopOp) (compat : Bool) : Bool :=
  decide (1 ≤ o.op) && decide (o.op ≤ 11) && o.top == 0 && o.argOk
    && (o.writes || o.dst == 0) && (o.readsA || o.a == 0) && (o.readsB || o.b == 0)
    && (o.coefs != 0 || (o.coef == 0 && o.osh == 0)) && (!compat || o.osh == 0)
    && decide (o.coef + o.coefs ≤ if compat then 128 else 512)

/-- Operations that may stand between a PID with HO and OUT (R426). -/
def LoopOp.plain (o : LoopOp) : Bool := ([3, 6, 8, 9, 10] : List Nat).contains o.op

/-- A PID that carries HO. -/
def LoopOp.ho (o : LoopOp) : Bool := o.op == 5 && o.arg == 1

/-- Registers reached from the PID with HO, by plain operations alone and by others; whether OUT takes one of the others (R426). -/
def hoPath : List LoopOp → List Nat → List Nat → Bool
  | [], _, _ => true
  | o :: l, good, bad =>
    let hit (x : List Nat) : Bool := (o.readsA && x.contains o.a) || (o.readsB && x.contains o.b)
    if o.op = 11 && hit bad then false
    else
      let g := good.filter fun r => !(o.writes && r == o.dst)
      let d := bad.filter fun r => !(o.writes && r == o.dst)
      let g1 := if o.ho || (o.plain && hit good && o.writes) then o.dst :: g else g
      let d1 := if o.writes && !o.ho && ((!o.plain && hit good) || hit bad) then o.dst :: d else d
      hoPath l g1 d1

/-- How many operations meet a condition. -/
def countOps (l : List LoopOp) (p : LoopOp → Bool) : Nat := (l.filter p).length

/-- A bank is valid (R426). -/
def Block.bankValid (b : Block) (t s k : Nat) : Bool :=
  let l := b.program t s k
  decide (1 ≤ b.progLen t s k) && decide (b.progLen t s k ≤ 64) && (l.all fun o => o.ok (b.compat t s k))
    && countOps l (fun o => o.op == 11) == 1 && decide (countOps l (fun o => o.op == 9) ≤ 1) && decide (countOps l (fun o => o.op == 10) ≤ 1)
    && decide (1 ≤ countOps l LoopOp.loads) && decide (countOps l LoopOp.ho ≤ 1) && hoPath l [] []

/-! ### Numbers (R420 to R422) -/

/-- A coefficient as a numerator over a power of two (R421). -/
structure Coef where
  num : Int
  sh : Nat
deriving DecidableEq, Repr

/-- Coefficient k of a bank, under an operation's OSH (R421). -/
def Block.coef (b : Block) (t s k osh i : Nat) : Coef :=
  if b.compat t s k then ⟨signed 32 (b.get (F.BVR_COEF t s k (2 * i))), b.get (F.BVR_COEF t s k (2 * i + 1)) % 32⟩
  else
    let w := b.get (F.BVR_COEF t s k (i / 2))
    ⟨signed 16 (if i % 2 = 0 then w else w / 2 ^ 16) * (2 ^ osh : Nat), 15⟩

/-- A product with a coefficient, rounded to 31 fraction bits (R422). -/
def Coef.mul (c : Coef) (x : Int) : Int := divTie (c.num * x) (2 ^ c.sh)

/-- A coefficient with 31 fraction bits. -/
def Coef.q31 (c : Coef) : Int := divTie (c.num * (2 ^ 31 : Nat)) (2 ^ c.sh)

/-- The 40-bit accumulator (R422). -/
def acc (x : Int) : Int := satS 40 x

/-- A signal with 31 fraction bits. -/
def up (x : Int) : Int := x * 256

/-- A result rounded to 23 fraction bits, saturated to the signal range (R422). -/
def down (x : Int) : Int := satS 24 (divNearestAway x 256)

/-- One, with 31 fraction bits. -/
abbrev oneQ : Int := 2147483648

/-! ### Operations (R424, R425) -/

/-- What an operation sees of the execution: the sample of each position, g, AW in force. -/
structure ExecIn where
  sample : Nat → Int
  g : Int
  aw : Bool

/-- What an operation gives: the register's new value, its state, AW for the next execution. -/
structure OpOut where
  value : Int
  st : OpSt
  aw : Bool
deriving DecidableEq, Repr

/-- The state of an operation that has none. -/
def OpSt.zero : OpSt := ⟨0, 0, 0, false⟩

/-- PID (R425). -/
def pidOp (kp ki kd kf : Coef) (st : OpSt) (stop : Bool) (e : Int) : OpOut :=
  let d := acc (st.y + kf.mul (acc (kd.mul (e - st.x) - st.y)))
  let out := acc (kp.mul e + st.z + d)
  let i := if stop || st.sat then st.z else clampI (-oneQ) oneQ (st.z + ki.mul e)
  ⟨down out, ⟨e, d, i, decide (divNearestAway out 256 ≠ down out)⟩, false⟩

/-- BIQUAD (R424). -/
def biquadOp (b0 b1 b2 a1 a2 : Coef) (st : OpSt) (x : Int) : OpOut :=
  let y := acc (b0.mul x + st.x)
  ⟨down y, ⟨acc (b1.mul x - a1.mul y + st.y), acc (b2.mul x - a2.mul y), 0, false⟩, false⟩

/-- One operation on its operands (R424). `c i` is its i-th coefficient. (DESIGN CHOICE, log entry 41.) -/
def runOp (o : LoopOp) (c : Nat → Coef) (x : ExecIn) (st : OpSt) (a b : Int) : OpOut :=
  match o.op with
  | 1 => ⟨if bitAt o.arg 4 then down (c 0).q31 else x.sample (o.arg % 16), st, false⟩
  | 2 => ⟨down (acc ((c 0).mul (up a))), st, false⟩
  | 3 => ⟨satS 24 ((if bitAt o.arg 0 then -a else a) + (if bitAt o.arg 1 then -b else b)), st, false⟩
  | 4 => biquadOp (c 0) (c 1) (c 2) (c 3) (c 4) st (up a)
  | 5 => pidOp (c 0) (c 1) (c 2) (c 3) st x.aw (up a)
  | 6 =>
    let lo := (c 0).q31
    let hi := (c 1).q31
    let y := if lo ≤ hi then clampI lo hi (up a) else Config.satCrossed lo hi (up a)
    ⟨down y, st, bitAt o.arg 0 && y != up a⟩
  | 7 => ⟨if ((up a).natAbs : Int) ≤ (c 0).q31 then 0 else down (up a - (c 0).q31 * Int.sign a), st, false⟩
  | 8 =>
    let y := acc (st.x + clampI (-((c 0).q31.natAbs : Int)) (c 0).q31.natAbs (up a - st.x))
    ⟨down y, { st with x := y }, false⟩
  | 9 => ⟨satS 24 (a + x.g), st, false⟩
  | _ => ⟨a, st, false⟩

/-- An operation's state initialised from its input at a hand-over (R432). -/
def initOp (o : LoopOp) (c : Nat → Coef) (a : Int) : OpSt :=
  match o.op with
  | 4 =>
    let sh := (c 0).sh + (c 1).sh + (c 2).sh + (c 3).sh + (c 4).sh
    let big (i : Nat) : Int := (c i).num * (2 ^ (sh - (c i).sh) : Nat)
    let den := (2 ^ sh : Nat) + big 3 + big 4
    let x := up a
    if den = 0 then OpSt.zero
    else
      let num := x * (big 0 + big 1 + big 2) * Int.sign den
      let y := acc (divTie num den.natAbs)
      ⟨acc (y - (c 0).mul x), acc ((c 2).mul x - (c 4).mul y), 0, false⟩
  | 5 => ⟨up a, 0, 0, false⟩
  | 8 => ⟨up a, 0, 0, false⟩
  | _ => OpSt.zero

/-- A run of a program: registers, states by operation, AW for the next execution, the OUT value, the CAPTURE operands. -/
structure Run where
  v : Table Int
  ops : Table OpSt
  aw : Bool
  out : Int
  cap : Option (Int × Int)
deriving DecidableEq, Repr

/-- One operation of a run; `init` on the dry run of a hand-over. -/
def Run.op (r : Run) (init : Bool) (x : ExecIn) (coef : LoopOp → Nat → Coef) (key : Nat) (o : LoopOp) : Run :=
  let a := lookupD r.v o.a 0
  let b := lookupD r.v o.b 0
  let st := if init then initOp o (coef o) a else lookupD r.ops key OpSt.zero
  let y := runOp o (coef o) x st a b
  { v := if o.writes then insertKey r.v o.dst y.value else r.v
    ops := insertKey r.ops key (if init then st else y.st)
    aw := r.aw || y.aw
    out := if o.op = 11 then a else r.out
    cap := if o.op = 10 then some (a, b) else r.cap }

/-- A run of the operations of a bank, in order; `key` is the state key of the first. -/
def runOps (init : Bool) (x : ExecIn) (coef : LoopOp → Nat → Coef) : Nat → List LoopOp → Run → Run
  | _, [], r => r
  | key, o :: l, r => runOps init x coef (key + 1) l (r.op init x coef key o)

/-- The signal registers of a slot (R420). -/
def Block.signals (b : Block) (t s : Nat) : Table Int :=
  (List.range 64).map fun v => (v, signed 24 (b.get (F.BVR_SIG t s v)))

/-- The signal registers written (R439: sign-extended). -/
def Block.putSignals (b : Block) (t s : Nat) (v : Table Int) : Block :=
  v.foldl (fun c (e : Nat × Int) => c.put (F.BVR_SIG t s e.1) (unsigned 32 e.2)) b

/-- The sign of the path from the PID with HO to a register, read before operation `l` (reversed): whether an odd number of NEG bits lies
on it (R432). -/
def pathOdd : List LoopOp → Nat → Option Bool
  | [], _ => none
  | o :: l, r =>
    if o.writes && o.dst == r then
      if o.ho then some false
      else if o.op = 3 then
        match pathOdd l o.a with
        | some n => some (n != bitAt o.arg 0)
        | none => (pathOdd l o.b).map fun n => n != bitAt o.arg 1
      else if o.plain then pathOdd l o.a
      else none
    else pathOdd l r

/-- The polarity of the path from the PID with HO to OUT (R432). (DEDUCED, log entry 39.) -/
def polarity (l : List LoopOp) : Int :=
  match l.find? fun o => o.op == 11 with
  | some o => if pathOdd (l.takeWhile fun p => p.op != 11).reverse o.a = some true then -1 else 1
  | none => 1

/-- The hand-over of R432: states initialised by a dry run, the integrator set so that OUT gives `uOld`, then the run of the new bank.
(DEDUCED, log entry 39.) -/
def handOver (l : List LoopOp) (x : ExecIn) (coef : LoopOp → Nat → Coef) (key : Nat) (r : Run) (uOld : Int) : Run :=
  let dry := runOps true x coef key l r
  let i := clampI (-oneQ) oneQ (polarity l * up (uOld - dry.out))
  let ops := match l.findIdx? LoopOp.ho with
    | some k => modifyKey dry.ops (key + k) OpSt.zero (fun st => { st with z := i })
    | none => dry.ops
  runOps false x coef key l { r with ops := ops }

/-! ### The generator (R434) -/

/-- sin x for x in units of 2^-60 between 0 and π/2, by its series: the term in hand, and n of the next factor n (n + 1). -/
def sinSeries (x2 : Int) : Nat → Int → Nat → Int
  | 0, _, _ => 0
  | fuel + 1, term, n => term + sinSeries x2 fuel (-(term * x2 / (2 ^ 60 : Nat)) / (n * (n + 1) : Nat)) (n + 2)

/-- 2^60 × sin(2π φ / 2^32). -/
def sinQ (phi : Nat) : Int :=
  let p : Nat := phi % 2 ^ 32
  let h : Nat := p % 2 ^ 31
  let q : Nat := if h ≤ 2 ^ 30 then h else 2 ^ 31 - h
  let x : Int := (q : Int) * 3622009729038561421 / (2 ^ 31 : Nat)
  let y := sinSeries (x * x / (2 ^ 60 : Nat)) 14 x 2
  if p < 2 ^ 31 then y else -y

/-- The value g of the generator (R434). (DESIGN CHOICE, log entry 42.) -/
def Block.genValue (b : Block) (t s : Nat) : Int :=
  match (b.loop t s).gen with
  | none => 0
  | some y =>
    let amp : Int := b.get (F.BVR_S_INJ_AMP t s)
    match b.get (F.BVR_S_INJ_CFG_KIND t s) with
    | 1 => amp
    | 2 => divNearestAway (amp * sinQ y.phi) (2 ^ 60) + clampI (-2) 2 (Config.sineError amp.toNat y.phi)
    | 3 => if (y.prbs % 2 == 1 : Bool) then amp else -amp
    | _ => 0

/-- The generator after one execution (R434). -/
def Block.genNext (b : Block) (t s : Nat) (y : Generator) : Generator :=
  let rate := signed 32 (b.get (F.BVR_S_INJ_RATE t s))
  let d := (y.delta : Int) + (y.delta * rate) / (2 ^ 32 : Nat)
  let n := y.n + 1
  let reg := if n % max 1 (b.get (F.BVR_S_INJ_CFG_PRBS_DIV t s)) = 0 then
      (y.prbs * 2 + (y.prbs / 2 ^ 14 + y.prbs / 2 ^ 13) % 2) % 2 ^ 15
    else y.prbs
  ⟨n, (y.phi + y.delta) % 2 ^ 32, (clampI 1 (2 ^ 31 : Nat) d).toNat, reg⟩

/-- The generator stops (R434). -/
def Block.genStop (b : Block) (t s : Nat) : Block :=
  (b.setLoop t s { b.loop t s with gen := none }).put (F.BVR_S_STAT_INJ_ON t s) 0

/-- The generator advances; it stops after INJ_LEN executions. -/
def Block.genAdvance (b : Block) (t s : Nat) : Block :=
  match (b.loop t s).gen with
  | none => b
  | some y =>
    let z := b.genNext t s y
    let len := b.get (F.BVR_S_INJ_LEN t s)
    if len != 0 && decide (len ≤ z.n) then b.genStop t s else b.setLoop t s { b.loop t s with gen := some z }

/-! ### Captures (R435, R436) -/

/-- A point on the tile's PREC stream (R436), and its place in its capture (R362). -/
def Block.capPoint (b : Block) (t s : Nat) (x y : Int) (flags raw dom quality : Nat) : Block :=
  let n := b.get (F.BVR_S_CAP_PTS t s)
  let b1 := (b.link (.item (72 + t) raw dom quality (wordBytes [unsigned 24 x * 256 + flags, tsNs raw,
    word1 raw dom quality (2 ^ 17 + s * 2 ^ 14), unsigned 24 y * 256]))).put (F.BVR_S_CAP_PTS t s) (satU 17 (n + 1))
  { b1 with evb := { b1.evb with caps := b1.evb.caps ++ [⟨4 * t + s, raw, b.get (F.BVR_S_CAP_ID t s), n⟩] } }

/-- The CAPTURE operands as they stand; free values where the active bank has no CAPTURE. (DESIGN CHOICE, log entry 42.) -/
def Block.capOperands (b : Block) (t s : Nat) : Int × Int :=
  match (b.program t s (b.bankOf t s)).find? fun o => o.op == 10 with
  | some o => (signed 24 (b.get (F.BVR_SIG t s o.a)), signed 24 (b.get (F.BVR_SIG t s o.b)))
  | none => (Config.noOperand (b.get (F.BVR_S_CAP_ID t s)) 0, Config.noOperand (b.get (F.BVR_S_CAP_ID t s)) 1)

/-- Flags of a point (R436): the generator and AW as the execution leaves them to be seen, HANDOVER as it ends. -/
def Block.capFlags (b : Block) (t s : Nat) (ovr last : Bool) : Nat :=
  b.get (F.BVR_S_STAT_INJ_ON t s) + 2 * b.get (F.BVR_S_STAT_AW t s) + 4 * b2n (b.slotState t s == 2) + 8 * b2n ovr + 16 * b2n last

/-- A running capture ends with a closing point (R435). -/
def Block.capEnd (b : Block) (t s : Nat) : Block :=
  match (b.loop t s).cap with
  | none => b
  | some _ =>
    let v := b.capOperands t s
    let b1 := b.capPoint t s v.1 v.2 (b.capFlags t s false true) b.stampRaw b.stampDom b.stampQuality
    (b1.setLoop t s { b1.loop t s with cap := none }).put (F.BVR_S_STAT_CAP_ON t s) 0

/-- A capture starts (R435). -/
def Block.capStart (b : Block) (t s : Nat) : Block :=
  let b1 := (b.setLoop t s { b.loop t s with cap := some ⟨0, 0⟩ }).put (F.BVR_S_STAT_CAP_ON t s) 1
  (b1.put (F.BVR_S_CAP_ID t s) (b.get (F.BVR_S_CAP_ID t s) + 1)).put (F.BVR_S_CAP_PTS t s) 0

/-- An execution that ran CAPTURE (R435): a point at every DECIM-th; the last one carries LAST. (DEDUCED, log entry 39.) -/
def Block.capTake (b : Block) (t s : Nat) (v : Int × Int) (ovr : Bool) (raw dom quality : Nat) : Block :=
  match (b.loop t s).cap with
  | none => b
  | some c =>
    if (c.skip + 1) % max 1 (b.get (F.BVR_S_CAP_CFG_DECIM t s)) = 0 then
      let last := decide (b.get (F.BVR_S_CAP_CFG_NPTS_M1 t s) ≤ c.points)
      let b1 := b.capPoint t s v.1 v.2 (b.capFlags t s ovr last) raw dom quality
      if last then (b1.setLoop t s { b1.loop t s with cap := none }).put (F.BVR_S_STAT_CAP_ON t s) 0
      else b1.setLoop t s { b1.loop t s with cap := some ⟨c.points + 1, c.skip + 1⟩ }
    else b.setLoop t s { b.loop t s with cap := some { c with skip := c.skip + 1 } }

/-! ### The drive and SAFE (R156, R420, R429) -/

/-- The channel that a slot's active program drives. -/
def Block.outChannel (b : Block) (t s k : Nat) : Option Nat := (outPosition (b.program t s k)).map fun m => 16 * t + m

/-- The drive code of a value (R420). -/
def driveCode (v : Int) : Int := clampI (-524288) 524287 (divNearestAway v 16)

/-- A drive code applied by a slot. -/
def Block.drive (b : Block) (t s : Nat) (code : Int) : Block :=
  let b1 := b.put (F.BVR_S_OUT_NOW t s) (unsigned 20 code)
  match b.outChannel t s (b.bankOf t s) with
  | some n => b1.put (F.PCH_DRV_DRV_VALUE n) (unsigned 20 code)
  | none => b1

/-- A slot runs: RUNNING or HANDOVER. -/
def Block.slotRuns (b : Block) (t s : Nat) : Bool := b.slotState t s == 1 || b.slotState t s == 2

/-- A slot goes SAFE with a cause (R429). -/
def Block.tripSafe (b : Block) (t s cause : Nat) : Block :=
  if b.slotRuns t s then
    let b1 := ((b.genStop t s).capEnd t s).bump (F.BVR_S_SAFE_CNT t s)
    let b2 := (b1.put (F.BVR_S_STAT_STATE t s) 3).put (F.BVR_S_STAT_SAFE_CAUSE t s) cause
    let code := signed 20 (b2.get (F.BVR_S_SAFE t s))
    let b3 := b2.setLoop t s { b2.loop t s with next := none, applied := code * 16, fe := 0 }
    ((b3.drive t s code).setLevel (128 + 4 * t + s) true cause).wakeCore
  else b

/-- A slot that runs takes a channel: it paces on it or its active program loads it (R418, R429). -/
def Block.slotTakes (b : Block) (t s n : Nat) : Bool :=
  b.slotRuns t s && n / 16 == t
    && (b.get (F.BVR_S_CFG_PACE_CH t s) == n % 16
      || (b.program t s (b.bankOf t s)).any fun o => o.loads && o.arg % 16 == n % 16)

/-- Every slot that takes a channel goes SAFE (R169, R429). -/
def Block.tripTakers (b : Block) (n cause : Nat) : Block :=
  allSlots.foldl (fun c x => if c.slotTakes x.1 x.2 n then c.tripSafe x.1 x.2 cause else c) b

/-! ### One execution (R418, R427 to R433) -/

/-- The last sample word of a position. -/
def Block.lastWord (b : Block) (t m : Nat) : Option Nat := (b.pch (16 * t + m)).last.map (·.1)

/-- The sample words that an execution of a program takes: the pacing sample and every LOAD of a channel. -/
def Block.execSamples (b : Block) (t s : Nat) (l : List LoopOp) : List (Nat × Option Nat) :=
  ((b.get (F.BVR_S_CFG_PACE_CH t s)) :: ((l.filter LoopOp.loads).map fun o => o.arg % 16)).map fun m => (m, b.lastWord t m)

/-- A sample holds the loop: SETTLING or REF_UNSETTLED, or no sample yet (R427). -/
def holds (w : Option Nat) : Bool :=
  match w with
  | some v => bitAt v 4 || bitAt v 2
  | none => true

/-- An operation word or a coefficient that the program consumes is poisoned (R429). -/
def Block.progPoisoned (b : Block) (t s k : Nat) : Bool :=
  (List.range (min 64 (b.progLen t s k))).any (fun i => b.poisoned (F.BVR_OP_LO t s k i).addr 8)
    || (b.program t s k).any fun o =>
      (List.range o.coefs).any fun i =>
        let j := o.coef + i
        if b.compat t s k then b.poisoned (F.BVR_COEF t s k (2 * j)).addr 8 else b.poisoned (F.BVR_COEF t s k (j / 2)).addr 4

/-- Words of a slot's program checked as it is read (R548). -/
def Block.progCheck (b : Block) (t s k : Nat) : Block := b.checkRange (F.BVR_OP_LO t s k 0).addr 2048

/-- FOLLOW: executions in a row over the limit (R429). -/
def Block.feNow (b : Block) (t s : Nat) : Nat :=
  let v := signed 24 (b.get (F.BVR_SIG t s (b.get (F.BVR_S_FE_CFG_FE_SIG t s))))
  if b.flag (F.BVR_S_FE_CFG_FE_EN t s) && decide (b.get (F.BVR_S_FE_LIMIT t s) < v.natAbs) then (b.loop t s).fe + 1 else 0

/-- The causes that an execution that ran may give, the lowest code first (R429). -/
def Block.execTrip (b : Block) (t s : Nat) : Option Nat :=
  let lim := max 1 (b.get (F.BVR_S_CFG_OVR_TRIP t s))
  if lim ≤ b.get (F.BVR_S_STAT_OVR_RUN t s) then some 5
  else if max 1 (b.get (F.BVR_S_FE_CFG_FE_SAMPLES t s)) ≤ (b.loop t s).fe then some 6
  else none

/-- The value applied by an execution, and whether the slot is RUNNING after it: a hand-over within HO_TOL takes the program's value
(R432), HANDOVER ends where the two are equal (R433). -/
def Block.applied (b : Block) (t s : Nat) (handing : Bool) (uOld u1 : Int) : Int × Bool :=
  let slew : Int := b.get (F.BVR_S_HO_SLEW t s)
  let v := uOld + clampI (-slew) slew (u1 - uOld)
  if handing then if (u1 - uOld).natAbs ≤ b.get (F.BVR_S_HO_TOL t s) then (u1, true) else (v, false)
  else if b.slotState t s = 2 then (v, v == u1)
  else (u1, true)

/-- The results of an execution take effect: registers, states, output, generator, capture, supervision. -/
def Block.execApply (b : Block) (t s k : Nat) (r : Run) (handing ovr : Bool) (raw dom quality tick : Nat) : Block :=
  let x := b.loop t s
  let uOld : Int := if handing then signed 20 (((b.outChannel t s k).map fun n => b.get (F.PCH_DRV_DRV_VALUE n)).getD 0) * 16 else x.applied
  let u := b.applied t s handing uOld r.out
  let dropCap := handing && !((b.program t s k).any fun o => o.op == 10)
  let b0 := if dropCap then b.capEnd t s else b
  let b1 := (b0.putSignals t s r.v).put (F.BVR_S_STAT_BANK t s) k
  let b2 := b1.put (F.BVR_S_STAT_STATE t s) (if u.2 then 1 else 2)
  let b3 := b2.setLoop t s { b2.loop t s with ops := r.ops, next := none, applied := u.1 }
  let b4 := (b3.drive t s (driveCode u.1)).putB (F.BVR_S_STAT_AW t s) (r.aw || !u.2)
  let b5 := match r.cap with
    | some v => b4.capTake t s v ovr raw dom quality
    | none => b4
  let b6 := (b5.genAdvance t s).put (F.BVR_S_DLY t s) (satU 16 (b.tick - tick))
  b6.setLoop t s { b6.loop t s with fe := b6.feNow t s }

/-- One execution of a slot on given samples; the operand `ovr` says that its pacing sample completed before the last output was applied
(R428). (DEDUCED, log entry 39.) -/
def Block.execute (b : Block) (t s : Nat) (ovr : Bool) (raw dom quality tick : Nat) : Block :=
  let x := b.loop t s
  let k := x.next.getD (b.bankOf t s)
  let l := b.program t s k
  let words : List (Nat × Option Nat) := (b.execSamples t s l).map fun e => if ovr then (e.1, (lookup x.loaded e.1).or e.2) else e
  let b1 := if ovr then (b.bump (F.BVR_S_OVERRUN t s)).put (F.BVR_S_STAT_OVR_RUN t s) (satU 8 (b.get (F.BVR_S_STAT_OVR_RUN t s) + 1))
    else b.put (F.BVR_S_STAT_OVR_RUN t s) 0
  let b2 := b1.progCheck t s k
  if words.any fun w => holds w.2 then
    let b3 := b1.bump (F.BVR_S_HOLD_CNT t s)
    match b3.execTrip t s with
    | some c => if c = 5 then b3.tripSafe t s 5 else b3
    | none => b3
  else if b2.progPoisoned t s k then b2.tripSafe t s 1
  else
    let loaded : Table Nat := words.foldl (fun m w => insertKey m w.1 (w.2.getD 0)) []
    let inp : ExecIn := ⟨fun m => signed 24 (lookupD loaded m 0 / 256), b2.genValue t s, b2.flag (F.BVR_S_STAT_AW t s)⟩
    let r0 : Run := ⟨b2.signals t s, x.ops, false, 0, none⟩
    let coef (o : LoopOp) (i : Nat) : Coef := b2.coef t s k o.osh (o.coef + i)
    let uOld : Int := signed 20 (((b2.outChannel t s k).map fun n => b2.get (F.PCH_DRV_DRV_VALUE n)).getD 0) * 16
    let r := if x.next.isSome then handOver l inp coef (64 * k) r0 uOld else runOps false inp coef (64 * k) l r0
    let res := b2.takeResidue (2 + t)
    let b3 := if res.1 then res.2.bump (F.BVR_RESIDUE_CNT t) else b2
    let b4 := b3.setLoop t s { b3.loop t s with loaded := loaded }
    let b5 := (b4.bump64 (F.BVR_S_EXEC_CNT_LO t s) (F.BVR_S_EXEC_CNT_HI t s) 1).execApply t s k r x.next.isSome ovr raw dom quality tick
    match b5.execTrip t s with
    | some c => b5.tripSafe t s c
    | none => b5

/-- A pacing sample of the slot waits for its execution (R418): its stamping time, domain, quality and tick. -/
def Block.pacing (b : Block) (t s : Nat) : Option (Nat × Nat × Nat × Nat) :=
  let c := b.pch (16 * t + b.get (F.BVR_S_CFG_PACE_CH t s))
  if b.slotRuns t s && b.tileOn t && decide ((b.loop t s).paced < c.done) then c.last.map (·.2) else none

/-- LOOP_EXECUTION (R418). A residue mismatch repeats the program once; the injection of R586 acts once, so that the repeat agrees. -/
def loopExecution (t s : Nat) (overrun : Bool) (b : Block) : Block :=
  match b.pacing t s with
  | none => b
  | some p =>
    let ovr := overrun && !(b.loop t s).loaded.isEmpty
    let b1 := b.setLoop t s { b.loop t s with paced := (b.pch (16 * t + b.get (F.BVR_S_CFG_PACE_CH t s))).done }
    (b1.execute t s ovr p.1 p.2.1 p.2.2.1 p.2.2.2).actCritical b

/-- LOOP_EXECUTION (R418). -/
def execLoopExecution (t slot : Nat) (overrun : Bool) (s : State) : Host.Outcome State Fault Refusal :=
  onHw (Instr.wf (.loopExecution t slot overrun)) s (loopExecution t slot overrun)

/-- LOOP_STALL (R429): a channel that the slot takes has delivered no sample for 16 output periods. -/
def loopStall (t s m : Nat) (b : Block) : Block :=
  let c := b.pch (16 * t + m)
  let since := max (b.loop t s).start ((c.last.map (·.2.2.2.2)).getD 0)
  whenDue (b.slotTakes t s (16 * t + m) && decide ((since + 16 * ceilDiv (decimation c.odr * 15625) 256) ≤ b.tick)) (fun b => b.tripSafe t s 4) b

/-- LOOP_STALL (R429). -/
def execLoopStall (t slot m : Nat) (s : State) : Host.Outcome State Fault Refusal :=
  onHw (Instr.wf (.loopStall t slot m)) s (loopStall t slot m)

/-! ### Commands (R431, R434, R435, R440) -/

/-- A command refused (R431). -/
def Block.loopRefuse (b : Block) (t s : Nat) : Block × Status :=
  ((b.bump (F.BVR_S_REFUSE_CNT t s)).put (F.BVR_S_STAT_RESULT t s) 2, .busyResource)

/-- RESULT of a command. -/
def Block.loopResult (b : Block) (t s r : Nat) : Block × Status := (b.put (F.BVR_S_STAT_RESULT t s) r, .ok)

/-- The channel of the active bank let go: it drives 0 V and has no owner (R157, R431); nothing in STOPPED. (DEDUCED, log entry 40.) -/
def Block.letGo (b : Block) (t s : Nat) : Block :=
  if b.slotState t s = 0 then b
  else
    let c := b.drive t s 0
    match b.outChannel t s (b.bankOf t s) with
    | some n => (c.put (F.PCH_DRV_OWNER_VALID n) 0).put (F.PCH_DRV_OWNER n) 0
    | none => c

/-- START (R431, R157): a SAFE slot that goes on with another OUT channel lets the first one go. In Safe-Config no output drives and no loop runs (R81).
(DEDUCED, log entry 21, DEDUCED, log entry 40.) -/
def bvrStartOp (t s k : Nat) (b : Block) : Block × Status :=
  if b.slotRuns t s then b.loopRefuse t s
  else if !b.bankValid t s k then b.loopResult t s 1
  else
    match b.outChannel t s k with
    | none => b.loopResult t s 1
    | some n =>
      if b.phase == .safeConfig || b.get (F.PCH_EXC_EXC_MODE n) != 3 || (b.flag (F.PCH_DRV_OWNER_VALID n) && b.get (F.PCH_DRV_OWNER n) != s) then b.loopRefuse t s
      else
        let b0 := if b.outChannel t s (b.bankOf t s) = some n then b else b.letGo t s
        let b1 := ((b0.put (F.PCH_DRV_OWNER_VALID n) 1).put (F.PCH_DRV_OWNER n) s).put (F.BVR_S_STAT_BANK t s) k
        let b2 := ((b1.put (F.BVR_S_STAT_STATE t s) 1).put (F.BVR_S_STAT_SAFE_CAUSE t s) 0).put (F.BVR_S_STAT_OVR_RUN t s) 0
        let pace := b2.pch (16 * t + b2.get (F.BVR_S_CFG_PACE_CH t s))
        let b3 := b2.setLoop t s { b2.loop t s with next := some k, paced := pace.done, loaded := [], fe := 0, start := b2.tick }
        ((b3.setLevel (128 + 4 * t + s) false 0).loopResult t s 0)

/-- SWITCH (R431, R432). -/
def bvrSwitchOp (t s : Nat) (b : Block) : Block × Status :=
  let k := 1 - b.bankOf t s
  if b.slotState t s ≠ 1 then b.loopRefuse t s
  else if b.bankValid t s k && b.outChannel t s k == b.outChannel t s (b.bankOf t s) then
    let b1 := b.genStop t s
    (b1.setLoop t s { b1.loop t s with next := some k }).loopResult t s 0
  else b.loopResult t s 1

/-- A slot stops: ownership released, the channel drives 0 V (R157, R431). -/
def Block.loopStop (b : Block) (t s : Nat) : Block :=
  if b.slotState t s = 0 then b
  else
    let b1 := (b.genStop t s).capEnd t s
    let b4 := ((b1.letGo t s).put (F.BVR_S_STAT_STATE t s) 0).put (F.BVR_S_STAT_SAFE_CAUSE t s) 0
    (b4.setLoop t s { b4.loop t s with next := none, applied := 0, fe := 0 }).setLevel (128 + 4 * t + s) false 0

/-- INJ_GO (R434). -/
def bvrInjGoOp (t s : Nat) (b : Block) : Block × Status :=
  let withCap := b.flag (F.BVR_S_INJ_CFG_WITH_CAP t s)
  if (b.loop t s).gen.isSome || (withCap && (b.loop t s).cap.isSome) then b.loopRefuse t s
  else
    let g : Generator := ⟨0, 0, b.get (F.BVR_S_INJ_F0 t s), 0x7fff⟩
    let b1 := (b.setLoop t s { b.loop t s with gen := some g }).put (F.BVR_S_STAT_INJ_ON t s) 1
    (if withCap then b1.capStart t s else b1).loopResult t s 0

/-- A write of BVR_s_CMD (R431, R441). -/
def bvrCmdOp (t s w : Nat) (b : Block) : Block × Status :=
  match w % 16 with
  | 1 => bvrStartOp t s (bitsOf w 8 8) b
  | 2 => bvrSwitchOp t s b
  | 3 => (b.loopStop t s).loopResult t s 0
  | 4 => (b.tripSafe t s 8).loopResult t s 0
  | 5 => bvrInjGoOp t s b
  | 6 => (b.genStop t s).loopResult t s 0
  | 7 => if (b.loop t s).cap.isSome then b.loopRefuse t s else (b.capStart t s).loopResult t s 0
  | 8 => (b.capEnd t s).loopResult t s 0
  | _ => (b, .ok)

/-- A write of operations, coefficients or a bank register: refused for the active bank of a slot that is not STOPPED (R440). -/
def bankOp (t s k addr : Nat) (lo : Option Nat) (w : Nat) (b : Block) : Block × Status :=
  let active := (b.loop t s).next.getD (b.bankOf t s)
  if b.slotState t s ≠ 0 && (k == b.bankOf t s || k == active) then (b.bump (F.BVR_S_REFUSE_CNT t s), .busyResource)
  else fieldsOp addr lo w b

/-- A write of BVR_s_CFG (R440): PACE_CH changes only in STOPPED. -/
def bvrCfgOp (t s w : Nat) (b : Block) : Block × Status :=
  if b.slotState t s ≠ 0 && w % 16 != b.get (F.BVR_S_CFG_PACE_CH t s) then (b.bump (F.BVR_S_REFUSE_CNT t s), .busyResource)
  else (b.writeFields (0x230104 + t * 0x40000 + s * 0x80) w, .ok)

/-- The live words of BVR, by address (R439, R441). -/
def Block.loopWord (b : Block) (addr : Nat) : Option Nat :=
  match tileOf addr with
  | some t =>
    let o := (addr - 0x200000) % 0x40000
    if o = 0x30000 then some (([0, 1, 2, 3] : List Nat).map fun s => b.slotState t s * 4 ^ s).sum
    else if decide (0x30100 ≤ o) && decide (o < 0x30300) && ((o - 0x30100) % 0x80 == 8 || (o - 0x30100) % 0x80 == 12) then
      let s := (o - 0x30100) / 0x80
      let k := ((o - 0x30100) % 0x80 - 8) / 4
      some (b2n (b.bankValid t s k) * 2 ^ 31 + b.get (F.BVR_S_BANK_FORMAT t s k) * 2 ^ 7 + b.progLen t s k)
    else none
  | none => none

end Sys2Proof.Machine
end

