-- ==== Sys2Proof/Machine/Prec.lean ====
section
/-! DEFINITION. Precision channels: excitation, ranges, faults, conversion, buffers, on-demand reads, system calibration (R147 to
R206). -/

namespace Sys2Proof.Machine

open Sys2Proof

/-! ### Excitation and its accounts (R149 to R160) -/

/-- EXC_V as used, mV (R149). -/
def Block.excV (b : Block) (n : Nat) : Nat := clampN 500 5000 (b.get (F.PCH_EXC_EXC_V n))

/-- The accounted power of a channel's settings, µW (R153). -/
def excPower (mode v ilim drv : Nat) : Nat :=
  match mode with
  | 1 => clampN 500 5000 v * clampN 1 30 ilim
  | 2 => clampN 500 5000 v * clampN 1 30 ilim
  | 3 => 5000 * clampN 5 25 drv
  | _ => 0

/-- The accounted power of a channel, µW (R153). -/
def Block.excPowerOf (b : Block) (n : Nat) : Nat :=
  excPower (b.get (F.PCH_EXC_EXC_MODE n)) (b.get (F.PCH_EXC_EXC_V n)) (b.get (F.PCH_EXC_ILIM n)) (b.get (F.PCH_DRV_DRV_ILIM n))

/-- The module sum of accounted power, µW (R153). -/
def Block.excSum (b : Block) : Nat := ((List.range 64).map b.excPowerOf).sum

/-- Excitation or drive output active: no case of R160 holds. -/
def Block.excOn (b : Block) (n : Nat) : Bool :=
  b.tileOn (n / 16) && b.phase != .safeConfig && b.phase != .fault && b.get (F.PWR_D_STAT_STATE 16) == 2
    && b.flag (F.PCH_EXC_EXC_MODE n) && !b.dutyOff n

/-- L of a filter code (R182). -/
def filterLen (f : Nat) : Nat := match f with
  | 1 => 3
  | 2 => 1
  | _ => 5

/-- L of the filter in force. -/
def Block.lenNow (b : Block) (n : Nat) : Nat := filterLen (b.pch n).filter

/-- A settling count of `k` samples starts; one that runs and ends later stays (R165, R166). -/
def Block.settlePrec (b : Block) (n k : Nat) : Block :=
  let c := b.pch n
  b.setPch n { c with settle := some (max k (c.settle.getD 0)) }

/-- The full settling count starts (R165). -/
def Block.settleFull (b : Block) (n : Nat) : Block := b.settlePrec n (3 * b.lenNow n)

/-- The effective half-period of a reversal (R152). -/
def Block.revHalf (b : Block) (n : Nat) : Nat := max (b.get (F.PCH_REV n)) (6 * b.lenNow n)

/-! ### Ranges (R162 to R164, R200) -/

/-- A range code that the input stage has. -/
def rangeCode (r : Nat) : Nat := min r 5

/-- AR_MIN_CODE and AR_MAX_CODE; a minimum above the maximum is a fixed range (R163). -/
def Block.arMin (b : Block) (n : Nat) : Nat := rangeCode (b.get (F.PCH_IN_AR_MIN_CODE n))

/-- The narrowest range allowed. -/
def Block.arMax (b : Block) (n : Nat) : Nat := max (b.arMin n) (rangeCode (b.get (F.PCH_IN_AR_MAX_CODE n)))

/-- The range is held by a calibration step (R200). -/
def Block.rangeHeld (b : Block) (n : Nat) : Bool :=
  match b.prec.cal with
  | some x => x.chan == n
  | none => false

/-- The range changes: counted, the dwell restarts, SETTLING for one filter length (R163, R165). -/
def Block.setRange (b : Block) (n r : Nat) : Block :=
  let c := b.pch n
  if c.range = r then b
  else ((b.bump (F.PCH_RANGE_CNT n)).setPch n { c with range := r, dwell := 0 }).settlePrec n (b.lenNow n)

/-- The range that the settings ask for, from a range in force: RANGE, or the starting range of automatic ranging, or the range in force
held inside the limits (R163). -/
def Block.rangeWanted (b : Block) (n : Nat) (start : Bool) : Nat :=
  if b.flag (F.PCH_IN_RANGE_AUTO n) then
    clampN (b.arMin n) (b.arMax n) (if start then rangeCode (b.get (F.PCH_IN_RANGE n)) else (b.pch n).range)
  else rangeCode (b.get (F.PCH_IN_RANGE n))

/-- The range as the settings ask; not while calibration holds it. -/
def Block.applyRange (b : Block) (n : Nat) (start : Bool) : Block :=
  if b.rangeHeld n then b else b.setRange n (b.rangeWanted n start)

/-- Gain of a range code (R162). -/
def rangeGain (r : Nat) : Nat := ([1, 2, 4, 16, 64, 128] : List Nat).getD r 128

/-- Automatic ranging after a sample (R163): its magnitude against the thresholds of R162, as fractions of the full scale. -/
def Block.autoRange (b : Block) (n : Nat) (mag : Nat) (clipped : Bool) : Block :=
  let c := b.pch n
  let restart := b.setPch n { c with dwell := 0 }
  if !b.flag (F.PCH_IN_RANGE_AUTO n) || b.rangeHeld n then b
  else if clipped then restart.setRange n (b.arMin n)
  else if decide (7 * 2 ^ 20 < mag) then restart.setRange n (max (b.arMin n) (c.range - 1))
  else if decide (c.range < 5) && decide (mag * rangeGain (c.range + 1) * 8 < 5 * 2 ^ 23 * rangeGain c.range) then
    if max 1 (b.get (F.PCH_AR n)) ≤ c.dwell + 1 then
      restart.setRange n (min (b.arMax n) (c.range + 1))
    else b.setPch n { c with dwell := c.dwell + 1 }
  else restart

/-- A calibration step ends with a result (R200, R201). -/
def Block.calEnd (b : Block) (r : Nat) : Block :=
  { (b.put F.CNV_CAL_STAT_BUSY 0).put F.CNV_CAL_STAT_RESULT r with prec := { b.prec with cal := none } }

/-- A calibration step ends and the range of its channel is released (R200). -/
def Block.calRelease (b : Block) (r : Nat) : Block :=
  match b.prec.cal with
  | some x => (b.calEnd r).applyRange x.chan false
  | none => b

/-! ### Looks at what has changed (R160, R165, R192, R201) -/

/-- A page of the channel's buffer closes early (R192). -/
def Block.closePage (b : Block) (n : Nat) : Block :=
  let c := b.pch n
  if c.newPage then b
  else
    let b1 := b.setPch n { c with newPage := true, slot := ceilDiv c.slot 256 * 256 }
    { b1 with prec := { b1.prec with store := b1.prec.store ++ [.close n] } }

/-- Excitation that returns settles the channel; a channel that starts converting opens a page, and no earlier fault marks its first
sample; one that stops disturbs its calibration (R160, R169, R192, R201). -/
def Block.lookPrec (b : Block) (n : Nat) : Block :=
  let on := b.excOn n
  let conv := b.converting n
  let c := b.pch n
  let b1 := if on && !c.excWas then b.settleFull n else b
  let b2 := if conv && !c.convWas then b1.closePage n else b1
  let b3 := if on == c.excWas && conv == c.convWas then b2 else b2.setPch n { b2.pch n with excWas := on, convWas := conv, faultSeen := c.faultSeen && c.convWas }
  match b3.prec.cal with
  | some x => if x.chan = n && !x.compute && !conv then b3.calRelease 2 else b3
  | none => b3

/-- Every precision channel looked at. -/
def Block.lookAll (b : Block) : Block := (List.range 64).foldl Block.lookPrec b

/-! ### Faults (R168 to R170, R158) -/

/-- The cause bits of PCH_FAULT. -/
def Block.faultBits (b : Block) (n : Nat) : Nat :=
  b.get (F.PCH_FAULT_CM_INP n) + 2 * b.get (F.PCH_FAULT_CM_INN n) + 4 * b.get (F.PCH_FAULT_CM_SNP n) + 8 * b.get (F.PCH_FAULT_CM_SNN n)
    + 16 * b.get (F.PCH_FAULT_EXC_LIMIT n)

/-- PCH_FAULT[5:0]. -/
def Block.faultPayload (b : Block) (n : Nat) : Nat := b.faultBits n + 32 * b.get (F.PCH_FAULT_DRV_LIMIT n)

/-- The field of a cause. -/
def faultField (n c : Nat) : Field := match c with
  | 0 => F.PCH_FAULT_CM_INP n
  | 1 => F.PCH_FAULT_CM_INN n
  | 2 => F.PCH_FAULT_CM_SNP n
  | 3 => F.PCH_FAULT_CM_SNN n
  | _ => F.PCH_FAULT_EXC_LIMIT n

/-- A fault is asserted (R169). -/
def Block.assertFault (b : Block) (n c : Nat) : Block :=
  let b1 := (b.put (faultField n c) 1).bump (F.PCH_FAULT_CNT n)
  let b2 := b1.setPch n { b1.pch n with faultSeen := true }
  let b3 := if (c = 2 || c = 3) && !b2.flag (F.PCH_STAT_SENSE_LOCAL n) then (b2.put (F.PCH_STAT_SENSE_LOCAL n) 1).settleFull n else b2
  ((b3.setLevel n true (b3.faultPayload n)).tripTakers n 3).wakeCore

/-- A channel whose last cause has cleared leaves fault (R165, R169, R170). -/
def Block.leaveFault (before : Nat) (b : Block) (n : Nat) : Block :=
  if before != 0 && b.faultBits n == 0 then ((b.put (F.PCH_STAT_SENSE_LOCAL n) 0).settleFull n).setLevel n false 0 else b

/-- A pin that the window comparators watch (R147): causes 0 and 1 the signal pins, 2 and 3 the sense pins. -/
def Block.monitored (b : Block) (n c : Nat) : Bool :=
  if c < 2 then b.flag (F.PCH_IN_INPUT_MODE n) else b.get (F.PCH_IN_INPUT_MODE n) == 3

/-- FAULT_ASSERT (R169). -/
def faultAssert (n c : Nat) (b : Block) : Block :=
  whenDue (b.tileOn (n / 16) && b.monitored n c && !b.flag (faultField n c)) (fun b => b.assertFault n c) b

/-- FAULT_ASSERT (R169). -/
def execFaultAssert (n c : Nat) (s : State) : Host.Outcome State Fault Refusal :=
  onHw (Instr.wf (.faultAssert n c)) s (faultAssert n c)

/-- EXC_LIMIT_ASSERT (R151, R169). -/
def excLimitAssert (n : Nat) (b : Block) : Block :=
  whenDue (b.excOn n && b.get (F.PCH_EXC_EXC_MODE n) != 3 && !b.flag (F.PCH_FAULT_EXC_LIMIT n)) (fun b => b.assertFault n 4) b

/-- EXC_LIMIT_ASSERT (R151). -/
def execExcLimitAssert (n : Nat) (s : State) : Host.Outcome State Fault Refusal :=
  onHw (Instr.wf (.excLimitAssert n)) s (excLimitAssert n)

/-- DRV_LIMIT_ASSERT (R158): no fault. -/
def drvLimitAssert (n : Nat) (b : Block) : Block :=
  whenDue (b.excOn n && b.get (F.PCH_EXC_EXC_MODE n) == 3) (fun b =>
    (b.put (F.PCH_FAULT_DRV_LIMIT n) 1).raise (64 + n) (b.get (F.PCH_DRV_DRV_VALUE n))) b

/-- DRV_LIMIT_ASSERT (R158). -/
def execDrvLimitAssert (n : Nat) (s : State) : Host.Outcome State Fault Refusal :=
  onHw (Instr.wf (.drvLimitAssert n)) s (drvLimitAssert n)

/-- FAULT_AUTO_CLEAR (R170). -/
def faultAutoClear (n c : Nat) (b : Block) : Block :=
  whenDue (b.tileOn (n / 16) && b.flag (F.PCH_FAULT_FAULT_MODE n) && b.flag (faultField n c)) (fun b =>
    (b.put (faultField n c) 0).leaveFault (b.faultBits n) n) b

/-- FAULT_AUTO_CLEAR (R170). -/
def execFaultAutoClear (n c : Nat) (s : State) : Host.Outcome State Fault Refusal :=
  onHw (Instr.wf (.faultAutoClear n c)) s (faultAutoClear n c)

/-- A write of PCH_FAULT (R170): FAULT_MODE, and ones that clear. -/
def pchFaultOp (n w : Nat) (b : Block) : Block × Status :=
  ((b.writeFields (F.PCH_FAULT_CM_INP n).addr w).leaveFault (b.faultBits n) n, .ok)

/-! ### Writes of the front end (R171, R172) -/

/-- The address of PCH_IN of a channel. -/
def pchAddr (n : Nat) : Nat := (F.PCH_IN_RANGE n).addr

/-- A write refused (R171). -/
def Block.pchRefuse (b : Block) (n : Nat) : Block × Status := (b.bump (F.PCH_REFUSE_CNT n), .busyResource)

/-- A write of PCH_IN (R163, R165, R171). (DEDUCED, log entry 36.) -/
def pchInOp (n w : Nat) (b : Block) : Block × Status :=
  if decide (2 ≤ w % 4) && b.get (F.PCH_EXC_EXC_MODE n) == 3 then b.pchRefuse n
  else
    let b1 := b.writeFields (pchAddr n) w
    let b2 := if b1.get (F.PCH_IN_INPUT_MODE n) = b.get (F.PCH_IN_INPUT_MODE n) then b1 else b1.settleFull n
    ((b2.applyRange n (!b.flag (F.PCH_IN_RANGE_AUTO n))).lookPrec n |>.settlePower, .ok)

/-- The module sum with a channel's settings replaced. -/
def Block.sumWith (b : Block) (n p : Nat) : Nat := b.excSum - b.excPowerOf n + p

/-- A write of PCH_EXC (R149, R152, R156, R165, R171). -/
def pchExcOp (n w : Nat) (b : Block) : Block × Status :=
  let mode := bitsOf w 31 30
  let was := b.get (F.PCH_EXC_EXC_MODE n)
  let p := excPower mode (bitsOf w 12 0) (bitsOf w 20 16) (b.get (F.PCH_DRV_DRV_ILIM n))
  if (mode = 3 && 2 ≤ b.get (F.PCH_IN_INPUT_MODE n)) || (mode ≠ 3 && b.flag (F.PCH_DRV_OWNER_VALID n)) || 4000000 < b.sumWith n p then
    b.pchRefuse n
  else
    let v := b.excV n
    let b1 := b.writeFields (pchAddr n + 8) w
    let b2 := if mode = was && b1.excV n = v then b1 else b1.settleFull n
    let b3 := if mode = was then b2
      else ((b2.put (F.PCH_DRV_DRV_VALUE n) 0).put (F.PCH_STAT_POL n) 0).setPch n { b2.pch n with rev := 0 }
    ((b3.lookPrec n).settlePower, .ok)

/-- A write of PCH_DRV (R156, R171). -/
def pchDrvOp (n w : Nat) (b : Block) : Block × Status :=
  let p := excPower (b.get (F.PCH_EXC_EXC_MODE n)) (b.get (F.PCH_EXC_EXC_V n)) (b.get (F.PCH_EXC_ILIM n)) (bitsOf w 24 20)
  if 4000000 < b.sumWith n p then b.pchRefuse n else (b.writeFields (pchAddr n + 0x20) w, .ok)

/-! ### Reversal and duty (R152, R154) -/

/-- EXC_REVERSAL (R152). -/
def excReversal (n : Nat) (b : Block) : Block :=
  whenDue (b.tileOn (n / 16) && b.get (F.PCH_EXC_EXC_MODE n) == 2 && decide (b.revHalf n ≤ (b.pch n).rev)) (fun b =>
    let b1 := b.putB (F.PCH_STAT_POL n) (!b.flag (F.PCH_STAT_POL n))
    (b1.setPch n { b1.pch n with rev := 0 }).settleFull n) b

/-- EXC_REVERSAL (R152). -/
def execExcReversal (n : Nat) (s : State) : Host.Outcome State Fault Refusal :=
  onHw (Instr.wf (.excReversal n)) s (excReversal n)

/-- EXC_PERIOD in ticks (R154, R174). -/
def Block.dutyPeriod (b : Block) (n : Nat) : Nat := max 1 (b.get (F.PCH_DUTY_EXC_PERIOD n)) * sTicks

/-- EXC_DUTY_ON (R154). -/
def excDutyOn (n : Nat) (b : Block) : Block :=
  let c := b.pch n
  whenDue (b.tileOn (n / 16) && b.get (F.PCH_DUTY_DUTY_GRANT n) != 256 && decide (c.dutyStart + b.dutyPeriod n ≤ b.tick)) (fun b =>
    (b.setPch n { c with dutyStart := c.dutyStart + b.dutyPeriod n, dutyOn := b.flag (F.PCH_DUTY_DUTY_GRANT n) }).lookPrec n) b

/-- EXC_DUTY_ON (R154). -/
def execExcDutyOn (n : Nat) (s : State) : Host.Outcome State Fault Refusal :=
  onHw (Instr.wf (.excDutyOn n)) s (excDutyOn n)

/-- EXC_DUTY_OFF (R154). -/
def excDutyOff (n : Nat) (b : Block) : Block :=
  let c := b.pch n
  let g := b.get (F.PCH_DUTY_DUTY_GRANT n)
  whenDue (b.tileOn (n / 16) && g != 256 && c.dutyOn && decide (c.dutyStart * 256 + b.dutyPeriod n * g ≤ b.tick * 256)) (fun b =>
    (b.setPch n { c with dutyOn := false }).lookPrec n) b

/-- EXC_DUTY_OFF (R154). -/
def execExcDutyOff (n : Nat) (s : State) : Host.Outcome State Fault Refusal :=
  onHw (Instr.wf (.excDutyOff n)) s (excDutyOff n)

/-- The grants come into force at an epoch boundary, from which periods count (R154). A channel that feeds a running loop keeps 256. -/
def Block.dutyBoundary (b : Block) : Block :=
  (List.range 64).foldl (fun c n =>
    let g := if c.feedsLoop n then 256 else c.dutyGrant n
    if c.get (F.PCH_DUTY_DUTY_GRANT n) = g || !c.tileOn (n / 16) then c
    else
      let c1 := c.put (F.PCH_DUTY_DUTY_GRANT n) g
      (c1.setPch n { c1.pch n with dutyStart := c1.tick, dutyOn := g != 0 }).lookPrec n) b

/-! ### The output grid and the reference (R180, R184 to R187) -/

/-- Modulator cycles that have ended before the tick after tick `t` of Fill's end. -/
def cyclesBy (t : Nat) : Nat := ((t + 1) * 256 - 1) / 15625

/-- The decimation block that completes in this tick, on the grid of a rate code (R180). -/
def Block.blockAt (b : Block) (odr : Nat) : Option Nat :=
  let t := b.tick - b.prec.fillTick
  let k := cyclesBy t / decimation odr
  let k0 := if t = 0 then 0 else cyclesBy (t - 1) / decimation odr
  if k = k0 then none else some k

/-- CNV_MODCYC (R180). -/
def Block.modCycles (b : Block) : Nat :=
  match b.phase with
  | .off => 0
  | .fill => 0
  | .hibernate => 0
  | _ => (b.tick - b.prec.fillTick) * 256 / 15625

/-- An output period of a channel in ticks, rounded up. -/
def Block.periodTicks (b : Block) (n : Nat) : Nat := ceilDiv (decimation (b.pch n).odr * 15625) 256

/-- The reference in use (R185): 0 INT, 1 EXT, 2 SUPPLY. -/
def Block.refInUse (b : Block) (n : Nat) : Nat :=
  let sel := b.get (F.PCV_CFG_REF_SEL n)
  let exc := b.get (F.PCH_EXC_EXC_MODE n)
  if sel = 1 && b.get (F.PCH_IN_INPUT_MODE n) = 1 then 1
  else if sel = 2 && (exc = 1 || exc = 2) then 2
  else 0

/-- R185's fall-back is in use. -/
def Block.refClamp (b : Block) (n : Nat) : Bool :=
  let sel := b.get (F.PCV_CFG_REF_SEL n)
  (sel == 1 || sel == 2) && b.refInUse n != sel

/-- REF_UNSETTLED now (R187): the reference measured as PCV_REF_MEAS says. -/
def Block.refUnsettled (b : Block) (n : Nat) : Bool :=
  let c := b.pch n
  let uv := b.get (F.PCV_REF_MEAS n)
  c.refUp || c.refWait.isSome || (b.refInUse n != 0 && (decide (uv < 200000) || decide (2700000 < uv)))

/-- A write of PCV_CFG (R184, R187). (DEDUCED, log entry 36.) -/
def pcvCfgOp (n w : Nat) (b : Block) : Block × Status :=
  let b1 := b.writeFields (pchAddr n + 0x80) w
  let c := b1.pch n
  let same := b1.get (F.PCV_CFG_ODR n) == c.odr && b1.get (F.PCV_CFG_FILTER n) == c.filter
  let wrote := b1.get (F.PCV_CFG_ODR n) != b.get (F.PCV_CFG_ODR n) || b1.get (F.PCV_CFG_FILTER n) != b.get (F.PCV_CFG_FILTER n)
  let pend := if same then none else if wrote then some b.tick else c.cfgTick
  let wait := if b1.get (F.PCV_CFG_REF_SEL n) = b.get (F.PCV_CFG_REF_SEL n) then c.refWait
    else some (max (c.refWait.getD 0) (b.tick + 500000 + ceilDiv (3 * filterLen c.filter * decimation c.odr * 15625) 256))
  (b1.setPch n { c with cfgTick := pend, refWait := wait }, .ok)

/-- PCV_CFG_IN_FORCE (R184, R192): the first instant on the new grid at least 10 µs after the write. -/
def pcvCfgInForce (n : Nat) (b : Block) : Block :=
  let c := b.pch n
  let due := match c.cfgTick with
    | some t => decide (t + 2500 ≤ b.tick)
    | none => false
  match b.blockAt (b.get (F.PCV_CFG_ODR n)) with
  | none => b
  | some k =>
    whenDue (b.tileOn (n / 16) && due) (fun b =>
      (((b.closePage n).setPch n { (b.closePage n).pch n with
        odr := b.get (F.PCV_CFG_ODR n), filter := b.get (F.PCV_CFG_FILTER n), cfgTick := none, block := k })).settleFull n) b

/-- PCV_CFG_IN_FORCE (R184). -/
def execPcvCfgInForce (n : Nat) (s : State) : Host.Outcome State Fault Refusal :=
  onHw (Instr.wf (.pcvCfgInForce n)) s (pcvCfgInForce n)

/-- A channel's settings taken all at once, by Configure or by a tile that returns: rate, filter and range are in force, the samples
settle (R165, R184, R501). -/
def Block.takeSettings (b : Block) (n : Nat) : Block :=
  let c := b.pch n
  let odr := b.get (F.PCV_CFG_ODR n)
  let c1 : PrecCh := { c with
    odr := odr, filter := b.get (F.PCV_CFG_FILTER n), cfgTick := none, range := b.rangeWanted n true, dwell := 0
    block := cyclesBy (b.tick - b.prec.fillTick) / decimation odr }
  let b1 := b.setPch n c1
  (if b1.pchOn n then b1.settleFull n else b1).lookPrec n

/-- REF_SETTLED (R187): the internal reference of the tile has settled, or the wait after a REF_SEL change ends. -/
def refSettled (n : Nat) (internal : Bool) (b : Block) : Block :=
  let c := b.pch n
  if internal then
    whenDue (b.tileOn (n / 16)) (fun b => (List.range 16).foldl (fun d i =>
      d.setPch (n / 16 * 16 + i) { d.pch (n / 16 * 16 + i) with refUp := false }) b) b
  else
    let due := match c.refWait with
      | some t => decide (t ≤ b.tick)
      | none => false
    whenDue (b.tileOn (n / 16) && due) (fun b => b.setPch n { c with refWait := none }) b

/-- REF_SETTLED (R187). -/
def execRefSettled (n : Nat) (internal : Bool) (s : State) : Host.Outcome State Fault Refusal :=
  onHw (Instr.wf (.refSettled n internal)) s (refSettled n internal)

/-- PREC_SETTLE_END (R165). -/
def precSettleEnd (n : Nat) (b : Block) : Block :=
  let c := b.pch n
  whenDue (c.settle == some 0) (fun b => b.setPch n { c with settle := none }) b

/-- PREC_SETTLE_END (R165). -/
def execPrecSettleEnd (n : Nat) (s : State) : Host.Outcome State Fault Refusal :=
  onHw (Instr.wf (.precSettleEnd n)) s (precSettleEnd n)

/-! ### A sample (R163, R164, R169, R183, R189, R190) -/

/-- The coefficients of a range as the sample reads them: a pair in error is reset (R202). -/
def Block.coefCheck (b : Block) (n r : Nat) : Block :=
  let a := (F.PCV_CAL_OFS n r).addr
  let b1 := b.checkRange a 8
  if b1.poisoned a 8 then
    let b2 := ((b1.put (F.PCV_CAL_OFS n r) 0).put (F.PCV_CAL_GAIN n r) 0x40000000).put (F.PCV_CAL_VALID n)
      (setBit (b1.get (F.PCV_CAL_VALID n)) r false)
    { b2 with poison := clearPoison b2.poison a 8 }
  else b1

/-- The value before clamping (R152, R190). (DEDUCED, log entry 36.) -/
def Block.precValue (b : Block) (n r : Nat) (raw : Int) : Int :=
  let v := divNearestAway ((raw - signed 24 (b.get (F.PCV_CAL_OFS n r))) * (b.get (F.PCV_CAL_GAIN n r) : Int)) (2 ^ 30)
  if b.flag (F.PCH_STAT_POL n) && decide (2 ≤ b.get (F.PCH_IN_INPUT_MODE n)) then -v else v

/-- The input lies beyond the full scale: the sign of the code that the value holds (R164), under the sign of R152. -/
def Block.beyond (b : Block) (n : Nat) (raw : Int) : Int :=
  let s : Int := if 8388607 < raw then 1 else if raw < -8388608 then -1 else 0
  if b.flag (F.PCH_STAT_POL n) && decide (2 ≤ b.get (F.PCH_IN_INPUT_MODE n)) then -s else s

/-- VALUE, and whether the sample is clipped (R164, R190). (DEDUCED, log entry 36.) -/
def Block.precClip (b : Block) (n r : Nat) (raw : Int) : Int × Bool :=
  let v := b.precValue n r raw
  let s := b.beyond n raw
  if s = 1 then (8388607, true)
  else if s = -1 then (-8388608, true)
  else (satS 24 v, decide (v < -8388608) || decide (8388607 < v))

/-- The sample word (R189). -/
def Block.precWord (b : Block) (n r : Nat) (v : Int) (settling fault unsettled : Bool) : Nat :=
  unsigned 24 v * 256 + r * 32 + b2n settling * 16 + b2n fault * 8 + b2n unsettled * 4 + b2n (bitAt (b.get (F.PCV_CAL_VALID n)) r) * 2

/-- One on-demand slot meets a sample (R197, R198). -/
def Block.odSample (b : Block) (n word raw : Nat) (marked : Bool) (s : Nat) : Block :=
  if (lookup b.prec.od s).isNone || b.get (F.CNV_OD_CTRL_CHANNEL s) != n then b
  else if marked && !b.flag (F.CNV_OD_CTRL_URGENT s) then b
  else
    let b1 :=
      if marked then (b.put (F.CNV_OD_CTRL_DROPPED s) 1).bump F.CNV_OD_DROP
      else ((b.put (F.CNV_OD_WORD s) word).put (F.CNV_OD_TS s) (tsNs raw)).put (F.CNV_OD_TSX s) (word1 raw b.stampDom b.stampQuality (960 + n))
    let b2 := { b1.put (F.CNV_OD_CTRL_DONE s) 1 with prec := { b1.prec with od := eraseKey b1.prec.od s } }
    b2.setLevel (144 + s) true (2 ^ 31 + b2n marked * 2 ^ 30 + b2.get (F.CNV_OD_CTRL_URGENT s) * 2 ^ 29 + n)

/-- The calibration engine meets a sample of its channel (R201). -/
def Block.calSample (b : Block) (n : Nat) (raw : Int) (marked clipped : Bool) : Block :=
  match b.prec.cal with
  | some x =>
    if x.chan ≠ n || x.compute then b
    else if marked then b.calRelease 2
    else if clipped then b.calRelease 4
    else
      let y : CalStep := { x with count := x.count + 1, sum := x.sum + raw, compute := decide (x.want ≤ x.count + 1) }
      let b1 := b.put F.CNV_CAL_STAT_COUNT y.count
      let b2 := if y.compute then b1.put F.CNV_CAL_MEAN (unsigned 24 (divOpen y.sum y.count)) else b1
      { b2 with prec := { b2.prec with cal := some y } }
  | none => b

/-- What Lynx takes of a sample (R268, R269): its value referred to range 0. -/
def Block.lynxPrec (b : Block) (n r : Nat) (v : Int) (marked clipped : Bool) : Block :=
  if b.ccOn then
    b.slowInput ⟨960 + n, visible b.stampRaw, divNearestAway (v * 128) (rangeGain r), marked, clipped, decimation (b.pch n).odr * 250000,
      b.stampDom, b.stampQuality⟩
  else b

/-- The measurements that come with a sample (R151, R187, R204). -/
def Block.precMeasures (b : Block) (n : Nat) (x : PrecInput) : Block :=
  ((((b.put (F.PCV_REF_MEAS n) x.refUv).put (F.PCH_EXC_MEAS_I_MEAS n) x.iMeas).put (F.PCH_EXC_MEAS_V_MEAS n) (unsigned 16 x.vMeas))).putB
    (F.PCH_STAT_LIMIT_NOW n) x.limit

/-- The sample of a channel leaves the tile: its slot, its item of the PREC stream, the register copies (R192, R204, R307). -/
def Block.precSend (b : Block) (n word : Nat) : Block :=
  let c := b.pch n
  let raw := b.stampRaw
  let slot := c.slot
  let b1 := (b.put (F.PCV_LAST n) word).link (.item (72 + n / 16) raw b.stampDom b.stampQuality
    (wordBytes [word, tsNs raw, word1 raw b.stampDom b.stampQuality (960 + n), slot % 2 ^ 32]))
  let b2 := b1.setPch n { c with
    slot := slot + 1
    newPage := decide ((slot + 1) % 256 = 0)
    done := c.done + 1
    last := some (word, raw, b.stampDom, b.stampQuality, b.tick)
    faultSeen := false
    rev := if b.get (F.PCH_EXC_EXC_MODE n) = 2 then c.rev + 1 else c.rev
    settle := c.settle.map (· - 1) }
  { b2 with prec := { b2.prec with
    store := b2.prec.store ++ [.sample n slot word raw b.stampDom b.stampQuality c.odr c.filter (b.time.resid != 0)] } }

/-- PRECISION_SAMPLE_DONE (R180, R183, R189, R190). (DESIGN CHOICE, log entry 6.) -/
def precisionSampleDone (n : Nat) (x : PrecInput) (b0 : Block) : Block :=
  match b0.blockAt (b0.pch n).odr with
  | none => b0
  | some k =>
    whenDue (b0.converting n && (b0.pch n).block != k) (fun b0 =>
      let b := ((b0.lookPrec n).precMeasures n x).coefCheck n (b0.pch n).range
      let c := b.pch n
      let v := b.precClip n c.range x.raw
      let settling := match c.settle with
        | some j => j != 0
        | none => false
      let fault := c.faultSeen || b.faultBits n != 0
      let unsettled := b.refUnsettled n
      let marked := settling || fault || unsettled
      let word := b.precWord n c.range v.1 settling fault unsettled
      let b1 := if v.2 then b.bump (F.PCH_CLIP_CNT n) else b
      let b2 := if unsettled then b1.bump (F.PCV_REFUNS_CNT n) else b1
      let b3 := (b2.setPch n { c with block := k }).precSend n word
      let b4 := (([0, 1, 2, 3, 4, 5, 6, 7] : List Nat).foldl (fun d s => d.odSample n word b.stampRaw marked s) b3).calSample n x.raw marked v.2
      (b4.lynxPrec n c.range v.1 marked v.2).autoRange n v.1.natAbs v.2) b0

/-- PRECISION_SAMPLE_DONE (R180). -/
def execPrecisionSampleDone (n : Nat) (x : PrecInput) (s : State) : Host.Outcome State Fault Refusal :=
  onHw (Instr.wf (.precisionSampleDone n x)) s (precisionSampleDone n x)

/-! ### The sample buffers (R191 to R195) -/

/-- A register of both concentrators. -/
def Block.putPair (b : Block) (f : Field) (v : Nat) : Block :=
  let b1 := if b.ccOn then b.put f v else b
  if b1.sbStores then { b1 with pair := { b1.pair with sbRegs := putReg b1.pair.sbRegs f v } } else b1

/-- Bytes written by both concentrators. -/
def Block.storePair (b : Block) (a : Nat) (v : List Nat) : Block :=
  let b1 := if b.ccOn then b.store a v else b
  if b1.sbStores then b1.sbStore a v else b1

/-- A page tag (R193). -/
def Page.tag (p : Page) (n samples : Nat) : List Nat :=
  wordBytes [tsNs p.raw, word1 p.raw p.dom p.quality (960 + n), p.first / 256 % 2 ^ 32,
    tsWrap p.raw + samples * 2 ^ 16 + p.odr * 2 ^ 25 + p.filter % 4 * 2 ^ 29 + b2n p.slew * 2 ^ 31]

/-- The address of the tag of a page of a channel (R191). -/
def tagAddr (n first : Nat) : Nat := 0x0688000000 + n * 0x4000 + first / 256 % 1024 * 16

/-- CNV_WR_CNT of a channel (R194). -/
def Block.setWrCnt (b : Block) (n v : Nat) : Block := (b.putPair (F.CNV_WR_CNT_LO n) (v % 2 ^ 32)).putPair (F.CNV_WR_CNT_HI n) (v / 2 ^ 32)

/-- A page closes: its tag with the final count (R193). -/
def Block.endPage (b : Block) (n : Nat) : Block :=
  match lookup b.prec.pages n with
  | some p =>
    let b1 := b.storePair (tagAddr n p.first) (p.tag n p.count)
    { b1 with prec := { b1.prec with pages := eraseKey b1.prec.pages n } }
  | none => b

/-- PREC_BUFFER_STORE (R194): the oldest sample, or close of a page. -/
def precBufferStore (b : Block) : Block :=
  match b.prec.store with
  | [] => b
  | .close n :: l =>
    let b1 := { b with prec := { b.prec with store := l } }
    match lookup b1.prec.pages n with
    | some p => (b1.endPage n).setWrCnt n (p.first + 256)
    | none => b1
  | .sample n slot word raw dom quality odr filter slew :: l =>
    let b1 := { b with prec := { b.prec with store := l } }
    let p : Page := (lookup b1.prec.pages n).getD ⟨slot, raw, dom, quality, odr, filter, slew, 0⟩
    let b2 := if p.count = 0 then b1.storePair (tagAddr n p.first) (p.tag n 0) else b1
    let b3 := b2.storePair (0x0684000000 + n * 0x100000 + slot % 262144 * 4) (leBytes 4 word)
    let b4 := { b3 with prec := { b3.prec with pages := insertKey b3.prec.pages n { p with count := p.count + 1, slew := p.slew || slew } } }
    (if (slot + 1) % 256 = 0 then b4.endPage n else b4).setWrCnt n (slot + 1)

/-- PREC_BUFFER_STORE (R194). -/
def execPrecBufferStore (s : State) : Host.Outcome State Fault Refusal :=
  onHw (Instr.wf .precBufferStore) s precBufferStore

/-! ### On-demand reads (R197 to R199) -/

/-- A write of CNV_OD_REQ (R197, R199). -/
def odReqOp (w : Nat) (b : Block) : Block × Status :=
  match ([0, 1, 2, 3, 4, 5, 6, 7] : List Nat).find? fun s => !bitAt (b.get F.CNV_OD_STAT) s with
  | none => (b.bump F.CNV_OD_DROP, .busyResource)
  | some s =>
    let b1 := ((b.put (F.CNV_OD_CTRL_CHANNEL s) (w % 64)).put (F.CNV_OD_CTRL_URGENT s) (bitsOf w 31 31)).put (F.CNV_OD_CTRL_DROPPED s) 0
    ({ b1.put F.CNV_OD_STAT (setBit (b1.get F.CNV_OD_STAT) s true) with prec := { b1.prec with od := insertKey b1.prec.od s b.tick } }, .ok)

/-- OD_DROP_TIMEOUT (R198). -/
def odDropTimeout (s : Nat) (b : Block) : Block :=
  let n := b.get (F.CNV_OD_CTRL_CHANNEL s)
  let due := match lookup b.prec.od s with
    | some t => decide (t + (if b.flag (F.CNV_OD_CTRL_URGENT s) then b.periodTicks n + 2500 else sTicks) ≤ b.tick)
    | none => false
  whenDue (b.ccOn && due) (fun b =>
    let b1 := ((b.put (F.CNV_OD_CTRL_DROPPED s) 1).put (F.CNV_OD_CTRL_DONE s) 1).bump F.CNV_OD_DROP
    { b1 with prec := { b1.prec with od := eraseKey b1.prec.od s } }.setLevel (144 + s) true
      (3 * 2 ^ 30 + b1.get (F.CNV_OD_CTRL_URGENT s) * 2 ^ 29 + n)) b

/-- OD_DROP_TIMEOUT (R198). -/
def execOdDropTimeout (slot : Nat) (s : State) : Host.Outcome State Fault Refusal :=
  onHw (Instr.wf (.odDropTimeout slot)) s (odDropTimeout slot)

/-- A write of CNV_OD_CTRL_s (R197): 1 to DONE frees a slot that is done. -/
def odFreeOp (s w : Nat) (b : Block) : Block × Status :=
  if bitAt w 31 && b.flag (F.CNV_OD_CTRL_DONE s) then
    (((b.put (F.CNV_OD_CTRL_DONE s) 0).put F.CNV_OD_STAT (setBit (b.get F.CNV_OD_STAT) s false)).setLevel (144 + s) false 0, .ok)
  else (b, .ok)

/-! ### System calibration (R200 to R202) -/

/-- A write of CNV_CAL_CMD (R200, R201): ABORT, then GO. -/
def calCmdOp (w : Nat) (b : Block) : Block × Status :=
  let collecting := match b.prec.cal with
    | some x => !x.compute
    | none => false
  let b1 := if bitAt w 30 && collecting then b.calRelease 1 else b
  let n := w % 64
  let step := bitsOf w 9 8
  if !bitAt w 31 then (b1, .ok)
  else if b1.flag F.CNV_CAL_STAT_BUSY then (b1.bump F.CNV_REFUSE_CNT, .busyResource)
  else if step = 0 || step = 3 then (b1, .ok)
  else
    let b2 := (((b1.put F.CNV_CAL_STAT_CHANNEL n).put F.CNV_CAL_STAT_STEP step).put F.CNV_CAL_STAT_RANGE (b1.pch n).range).put
      F.CNV_CAL_STAT_COUNT 0
    if b2.converting n then
      ({ b2.put F.CNV_CAL_STAT_BUSY 1 with prec := { b2.prec with cal := some ⟨n, step, max 1 (b2.get F.CNV_CAL_AVG), 0, 0, false⟩ } }, .ok)
    else (b2.put F.CNV_CAL_STAT_RESULT 5, .ok)

/-- CAL_COMPUTE_DONE (R200, R201). (DEDUCED, log entry 14.) -/
def calComputeDone (b : Block) : Block :=
  match b.prec.cal with
  | none => b
  | some x =>
    whenDue (b.ccOn && x.compute) (fun b =>
      let r := (b.pch x.chan).range
      let m := divOpen x.sum x.count
      let d := m - signed 24 (b.get (F.PCV_CAL_OFS x.chan r))
      let t := signed 24 (b.get F.CNV_CAL_TARGET)
      if x.step = 1 then (b.put (F.PCV_CAL_OFS x.chan r) (unsigned 24 m)).calRelease 0
      else if decide (0 < d * t) && decide (d.natAbs ≤ 2 * t.natAbs) && decide (t.natAbs ≤ 2 * d.natAbs) then
        ((b.put (F.PCV_CAL_GAIN x.chan r) (divNearestAway (t.natAbs * (2 ^ 30 : Nat)) d.natAbs).toNat).put (F.PCV_CAL_VALID x.chan)
          (setBit (b.get (F.PCV_CAL_VALID x.chan)) r true)).calRelease 0
      else b.calRelease 3) b

/-- CAL_COMPUTE_DONE (R201). -/
def execCalComputeDone (s : State) : Host.Outcome State Fault Refusal :=
  onHw (Instr.wf .calComputeDone) s calComputeDone

/-- A write of PCV_CAL_OFS_r: held (R202). -/
def calOfsOp (n r w : Nat) (b : Block) : Block × Status :=
  ({ b with prec := { b.prec with ofsHeld := insertKey b.prec.ofsHeld (8 * n + r) (w % 2 ^ 24) } }, .ok)

/-- A write of PCV_CAL_GAIN_r: offset and gain together, CAL_VALID_r set (R202). -/
def calGainOp (n r w : Nat) (b : Block) : Block × Status :=
  let b1 := match lookup b.prec.ofsHeld (8 * n + r) with
    | some v => b.put (F.PCV_CAL_OFS n r) v
    | none => b
  let b2 := (b1.put (F.PCV_CAL_GAIN n r) w).put (F.PCV_CAL_VALID n) (setBit (b1.get (F.PCV_CAL_VALID n)) r true)
  ({ b2 with prec := { b2.prec with ofsHeld := eraseKey b2.prec.ofsHeld (8 * n + r) } }, .ok)

/-! ### What the registers show (R173, R174, R204, R205) -/

/-- PCH_STAT (R174). -/
def Block.pchStat (b : Block) (n : Nat) : Nat :=
  let c := b.pch n
  let v := b.get (F.PCH_EXC_EXC_V n)
  let i := b.get (F.PCH_EXC_ILIM n)
  let d := b.get (F.PCH_DRV_DRV_ILIM n)
  let clamp := decide (v < 500) || decide (5000 < v) || decide (i < 1) || decide (30 < i) || decide (d < 5) || decide (25 < d)
  let rev := b.get (F.PCH_EXC_EXC_MODE n) == 2 && decide (b.get (F.PCH_REV n) < 6 * b.lenNow n)
  b2n clamp * 2 ^ 18 + b2n rev * 2 ^ 17 + b.get (F.PCH_STAT_SENSE_LOCAL n) * 2 ^ 16 + b.get (F.PCH_STAT_POL n) * 2 ^ 15
    + b2n (b.excOn n) * 2 ^ 14 + b2n (b.faultBits n != 0) * 2 ^ 13 + b2n c.settle.isSome * 2 ^ 12
    + b.get (F.PCH_STAT_LIMIT_NOW n) * 2 ^ 11 + c.range * 2 ^ 8

/-- PCV_STAT (R204). -/
def Block.pcvStat (b : Block) (n : Nat) : Nat :=
  let c := b.pch n
  b.refInUse n * 2 ^ 10 + c.filter * 2 ^ 8 + c.odr * 2 ^ 4 + b2n (b.rangeHeld n) * 8 + b2n (b.refClamp n) * 4 + b2n (b.refUnsettled n) * 2
    + b2n (b.converting n)

/-- The live words of precision channels, by address. -/
def Block.precRegWord (b : Block) (addr : Nat) : Option Nat :=
  if addr = 0x130000 then some (b.modCycles % 2 ^ 32)
  else if addr = 0x130004 then some (b.modCycles / 2 ^ 32 % 2 ^ 32)
  else
    match tileOf addr with
    | some t =>
      let o := (addr - 0x200000) % 0x40000
      if o = 0x110 then
        let mw (p : Nat) : Nat := (divOpen p 1000).toNat
        some (mw b.excSum * 2 ^ 16 + mw ((List.range 16).map fun i => b.excPowerOf (16 * t + i)).sum)
      else if decide (0x20000 ≤ o) && decide (o < 0x21000) then
        let n := 16 * t + (o - 0x20000) / 256
        if o % 256 = 0x1c then some (b.pchStat n) else if o % 256 = 0x84 then some (b.pcvStat n) else none
      else none
    | none => none

end Sys2Proof.Machine
end

