-- ==== Sys2Proof/Machine/Lynx.lean ====
section
/-! DEFINITION. Lynx: trigger units, coincidence groups, and the local trigger of a grid instant (R267 to R277, R285). -/

namespace Sys2Proof.Machine

open Sys2Proof

/-! ### Settings of an epoch (R31) -/

/-- A field whose value an epoch logs at its start: those of TRG, EVB and LPS (R31, R48, R268). -/
def epochKey (k : Nat) : Bool :=
  let a := k / 32
  (decide (0x70000 ≤ a) && decide (a < 0x80000)) || (decide (0x90000 ≤ a) && decide (a < 0xB0000))

/-- The packing effort in force: EFFORT_CAP of Squirrel's choice, held inside FLOOR and CAP (R372, R514). -/
def Block.effort (b : Block) : Nat :=
  let cap := min 9 (b.get F.LPS_EFFORT_CAP)
  let lo := b.get F.LPS_EFFORT_FLOOR
  if cap < lo then cap else clampN lo cap (b.get F.BDG_CHOICE_EFFORT_CAP)

/-- The settings as they stand. -/
def Block.liveCfg (b : Block) : EpochCfg := ⟨b.regs.filter fun x => epochKey x.1, b.groupMask, b.effort⟩

/-- A field under an epoch's settings. -/
def EpochCfg.get (c : EpochCfg) (f : Field) : Nat := lookupD c.regs f.key f.reset

/-- A field under an epoch's settings as a flag. -/
def EpochCfg.flag (c : EpochCfg) (f : Field) : Bool := c.get f != 0

/-- An epoch not committed. -/
def Block.epochSt (b : Block) (k : Nat) : Option EpochSt := b.evb.epochs.find? fun e => e.key == k

/-- The settings of an epoch (R31); those that stand where it is not logged. -/
def Block.cfgOf (b : Block) (k : Nat) : EpochCfg :=
  match b.epochSt k with
  | some e => e.cfg
  | none => b.liveCfg

/-! ### A unit's settings (R270) -/

/-- A unit's settings: KIND, POL, CUBIC, levels, HYST in the unit's codes, durations in samples. -/
structure UnitCfg where
  kind : Nat
  pol : Nat
  cubic : Bool
  a : Int
  b : Int
  hyst : Nat
  tmin : Nat
  tmax : Nat
deriving DecidableEq, Repr

/-- The input of a unit (R267): a fast channel by its index, a precision channel as 960 + n, a pin as 1 024 + i. -/
def unitInput (u : Nat) : Nat := if u < 1920 then u / 2 else if u < 1984 then 960 + (u - 1920) else 1024 + (u - 1984)

/-- A unit's settings in an epoch (R270): HYST counts 4 LSB for a fast unit and 2^12 for a precision unit; a T_MAX of 0 acts as
65 535. -/
def unitCfg (c : EpochCfg) (u : Nat) : UnitCfg where
  kind := c.get (F.TRG_U_CFG_KIND u)
  pol := c.get (F.TRG_U_CFG_POL u)
  cubic := c.flag (F.TRG_U_CFG_INTERP u)
  a := signed 32 (c.get (F.TRG_U_LEVA u))
  b := signed 32 (c.get (F.TRG_U_LEVB u))
  hyst := c.get (F.TRG_U_CFG_HYST u) * (if u < 1920 then 4 else 4096)
  tmin := c.get (F.TRG_U_TIME_T_MIN u)
  tmax := c.get (F.TRG_U_TIME_T_MAX u)

/-- T_MAX of a duration. -/
def UnitCfg.tmaxUsed (k : UnitCfg) : Nat := if k.tmax = 0 then 65535 else k.tmax

/-- The settings as plain numbers, by which a unit knows a change. -/
def UnitCfg.plain (k : UnitCfg) : List Nat :=
  [k.kind, k.pol, b2n k.cubic, unsigned 32 k.a, unsigned 32 k.b, k.hyst, k.tmin, k.tmax]

/-- The KIND does not suit the input, or the levels break the rules of R270: the unit acts as disabled. A RATIO unit needs b above
a (R274). -/
def unitBad (c : EpochCfg) (u : Nat) : Bool :=
  let k := unitCfg c u
  let levels := if k.pol = 1 then decide (k.b < k.a) else decide (k.a < k.b)
  if u < 1984 then
    match k.kind with
    | 0 => false
    | 1 => !levels
    | 2 => !levels
    | 3 => false
    | 4 => !levels
    | 5 => decide (u < 1920) || decide (k.tmax % 32 ≤ k.tmin % 32)
    | _ => true
  else k.kind != 6

/-- A unit runs in an epoch. -/
def unitOn (c : EpochCfg) (u : Nat) : Bool := c.flag (F.TRG_U_CFG_EN u) && !unitBad c u

/-! ### Crossings (R271, R272) -/

/-- Whether a kind interpolates crossings, so that CUBIC delays it by a sample. -/
def UnitCfg.delays (k : UnitCfg) : Bool := k.cubic && ([0, 1, 2, 4] : List Nat).contains k.kind

/-- The linear fraction in 1/256 sample, ties upward (R271), for a signal that rises from `y0` to `y1` through `l`. -/
def linearFrac (l y0 y1 : Int) : Nat :=
  let den := y1 - y0
  if den ≤ 0 then 0 else clampN 0 256 (((512 * (l - y0) + den) / (2 * den)).toNat)

/-- The Catmull-Rom spline through four samples at f / 256 between the middle two, times 2^25 (R272). -/
def spline (y0 y1 y2 y3 : Int) (f : Nat) : Int :=
  2 * y1 * 2 ^ 24 + (y2 - y0) * f * 2 ^ 16 + (2 * y0 - 5 * y1 + 4 * y2 - y3) * (f * f : Nat) * 2 ^ 8
    + (3 * y1 - 3 * y2 + y3 - y0) * (f * f * f : Nat)

/-- The cubic fraction (R272): the smallest f from 1 to 256 at which the spline lies at or beyond the level. -/
def cubicFrac (l y0 y1 y2 y3 : Int) : Option Nat :=
  ((List.range 256).map (· + 1)).find? fun f => decide (2 * l * 2 ^ 24 ≤ spline y0 y1 y2 y3 f)

/-- The samples that a crossing may use, as a signal that rises: s − 2, s − 1, s, s + 1, the number of s, the sample period in
1/1024 ns. -/
structure CrossIn where
  p0 : Option UnitSample
  p : UnitSample
  c : UnitSample
  nx : Option UnitSample
  n : Nat
  period : Nat
deriving DecidableEq, Repr

/-- The crossing time: that of s − 1 plus f / 256 of the sample period, 100 ns being 102 400 units (R271). (DEDUCED, log entry 14.) -/
def crossTime (t period f : Nat) : Nat := (t + (2 * f * period + 256) / 512) % 2 ^ 58

/-- A crossing of level `l` by the signal times `sg`, which rises there (R271, R272). -/
def CrossIn.cross (x : CrossIn) (cubic : Bool) (sg l : Int) : UnitCross :=
  let lin := linearFrac l (sg * x.p.x) (sg * x.c.x)
  let fit : Option Nat := match x.p0, x.nx with
    | some q, some r =>
      if q.isOver || x.p.isOver || x.c.isOver || r.isOver then none
      else cubicFrac l (sg * q.x) (sg * x.p.x) (sg * x.c.x) (sg * r.x)
    | _, _ => none
  let f := if cubic then fit.getD lin else lin
  ⟨crossTime x.p.time x.period f, cubic && fit.isNone, x.p.isOver || x.c.isOver, (x.n - 1) * 256 + f, x.p.dom, x.p.quality⟩

/-! ### One direction of a unit (R270) -/

/-- A firing's marks of both crossings that it used. -/
def UnitCross.with (l r : UnitCross) : UnitCross := { l with fallback := l.fallback || r.fallback, isOver := l.isOver || r.isOver }

/-- A duration lies in T_MIN to T_MAX, in 1/256 sample. -/
def UnitCfg.lasts (k : UnitCfg) (l r : UnitCross) : Bool :=
  decide (k.tmin * 256 ≤ r.pos - l.pos) && decide (r.pos - l.pos ≤ k.tmaxUsed * 256)

/-- The signal times `sg` lies on the non-firing side of LEV_A by the hysteresis. -/
def UnitCfg.below (k : UnitCfg) (sg a : Int) (x : UnitSample) : Bool :=
  decide (sg * x.x < a) && decide ((k.hyst : Int) ≤ a - sg * x.x)

/-- One direction of a unit meets a sample: its own state, and the crossing that it fires with. `a` and `l` are LEV_A and LEV_B for the
signal times `sg`. -/
def HalfUnit.take (h : HalfUnit) (k : UnitCfg) (sg a l : Int) (x : CrossIn) : HalfUnit × Option UnitCross :=
  let y := sg * x.c.x
  let yp := sg * x.p.x
  let up := decide (yp < a) && decide (a ≤ y)
  let back := k.below sg a x.c || (k.hyst == 0 && decide (y = a) && decide (a < yp))
  let h1 : HalfUnit := { h with armed := h.armed || back }
  let h2 : HalfUnit := if h.lead.isNone && h.armed && up then { h with lead := some (x.cross k.cubic sg a), reached := false } else h1
  match k.kind with
  | 0 => if h.armed && up then ({ h with armed := false }, some (x.cross k.cubic sg a)) else (h1, none)
  | 1 =>
    match h.lead with
    | some c =>
      if decide (y < a) || (decide (y = a) && decide (a < yp)) then
        let r := x.cross k.cubic (-sg) (-a)
        ({ h1 with lead := none }, if k.lasts c r then some (c.with r) else none)
      else (h1, none)
    | none => (h2, none)
  | 2 =>
    let h3 : HalfUnit := { h2 with reached := h2.reached || (h2.lead.isSome && decide (l ≤ y)) }
    if h.lead.isSome && back then ({ h3 with lead := none }, if h3.reached then none else h.lead) else (h3, none)
  | 4 =>
    if h.lead.isSome && back then ({ h1 with lead := none }, none)
    else
      match h2.lead with
      | some c =>
        if decide (yp < l) && decide (l ≤ y) then
          let r := x.cross k.cubic sg l
          ({ h2 with lead := none }, if k.lasts c r then some (c.with r) else none)
        else (h2, none)
      | none => (h2, none)
  | _ => (h1, none)

/-- The first sample after a gap: armed where it lies on the non-firing side by the hysteresis (R269). -/
def HalfUnit.first (h : HalfUnit) (k : UnitCfg) (sg a : Int) (x : UnitSample) : HalfUnit := { h with armed := h.armed || k.below sg a x }

/-! ### A unit (R269, R270, R274) -/

/-- A unit newly enabled, or re-armed after a gap. -/
def UnitSt.fresh (k : UnitCfg) : UnitSt :=
  ⟨k.plain, [], 0, ⟨false, none, false⟩, ⟨false, none, false⟩, 1, (0, 0), (0, 0), false⟩

/-- Both directions meet a sample that has a predecessor. (DEDUCED, log entry 43.) -/
def UnitSt.directions (u : UnitSt) (k : UnitCfg) (x : CrossIn) : UnitSt × Option UnitCross :=
  let r := if k.pol = 1 then (u.rise, none) else u.rise.take k 1 k.a k.b x
  let f := if k.pol = 0 then (u.fall, none) else u.fall.take k (-1) (if k.pol = 1 then -k.a else k.a) (if k.pol = 1 then -k.b else k.b) x
  ({ u with rise := r.1, fall := f.1 }, match r.2 with | some c => some c | none => f.2)

/-- The sample after a gap, for both directions. -/
def UnitSt.begin_ (u : UnitSt) (k : UnitCfg) (x : UnitSample) : UnitSt :=
  { u with rise := u.rise.first k 1 k.a x, fall := u.fall.first k (-1) (if k.pol = 1 then -k.a else k.a) x }

/-- LEV_A is crossed in direction POL between two samples. -/
def UnitCfg.crosses (k : UnitCfg) (p c : UnitSample) : Bool :=
  let dir (sg a : Int) : Bool := decide (sg * p.x < a) && decide (a ≤ sg * c.x)
  if k.pol = 0 then dir 1 k.a else if k.pol = 1 then dir (-1) (-k.a) else dir 1 k.a || dir (-1) k.a

/-- The event of a sample itself. -/
def UnitSample.event (x : UnitSample) (n : Nat) : UnitCross := ⟨x.time, false, x.isOver, n * 256, x.dom, x.quality⟩

/-- An average one sample later (R274), exact: numerator and exponent of the denominator. (DESIGN CHOICE, log entry 13.) -/
def averaged (v : Nat × Nat) (c k : Nat) : Nat × Nat := (v.1 * (2 ^ k - 1) + c * 2 ^ v.2, v.2 + k)

/-- STA or LTA times a factor, compared: `s` × 256 at least `l` × `f`. -/
def ratioReached (s l : Nat × Nat) (f : Int) : Bool := decide ((l.1 : Int) * 2 ^ s.2 * f ≤ (s.1 : Int) * 2 ^ l.2 * 256)

/-- A RATIO unit meets a sample (R274). (DEDUCED, log entry 43.) -/
def UnitSt.ratio (u : UnitSt) (k : UnitCfg) (x : UnitSample) : UnitSt × Option UnitCross :=
  let n := u.taken + 1
  match u.past with
  | [] => (u, none)
  | p :: _ =>
    let c := (x.x - p.x).natAbs
    let sta := averaged u.sta c (k.tmin % 32)
    let lta := if u.fired then u.lta else averaged u.lta c (k.tmax % 32)
    let u1 := { u with sta := sta, lta := lta }
    if u.fired then
      if decide ((sta.1 : Int) * 2 ^ lta.2 * 256 ≤ (lta.1 : Int) * 2 ^ sta.2 * k.b) then ({ u1 with fired := false }, none) else (u1, none)
    else if decide (2 ^ (k.tmax % 32) ≤ n) && ratioReached sta lta k.a then ({ u1 with fired := true }, some (x.event n))
    else (u1, none)

/-- A TIMEOUT unit meets a sample (R270). (DEDUCED, log entry 43.) -/
def UnitSt.timeout (u : UnitSt) (k : UnitCfg) (x : UnitSample) : UnitSt × Option UnitCross :=
  let n := u.taken + 1
  let crossed := match u.past with
    | p :: _ => k.crosses p x
    | [] => false
  if crossed then ({ u with timer := n }, none)
  else if u.timer + k.tmaxUsed ≤ n then ({ u with timer := n }, some (x.event n))
  else (u, none)

/-- The sample that waits for its successor under CUBIC is met with what follows it (R272). -/
def UnitSt.delayed (u : UnitSt) (k : UnitCfg) (period : Nat) (nx : Option UnitSample) : UnitSt × Option UnitCross :=
  match u.past with
  | c :: p :: l => u.directions k ⟨l.head?, p, c, nx, u.taken, period⟩
  | [c] => (u.begin_ k c, none)
  | [] => (u, none)

/-- A unit takes a sample. -/
def UnitSt.take (u : UnitSt) (k : UnitCfg) (period : Nat) (x : UnitSample) : UnitSt × Option UnitCross :=
  let r : UnitSt × Option UnitCross :=
    if k.kind = 5 then u.ratio k x
    else if k.kind = 3 then u.timeout k x
    else if k.delays then u.delayed k period (some x)
    else
      match u.past with
      | p :: l => u.directions k ⟨l.head?, p, x, none, u.taken + 1, period⟩
      | [] => (u.begin_ k x, none)
  ({ r.1 with past := x :: r.1.past.take 3, taken := u.taken + 1 }, r.2)

/-- A unit meets a gap: it re-arms as if newly enabled (R269); a sample that waited is met first. -/
def UnitSt.gap (u : UnitSt) (k : UnitCfg) (period : Nat) : UnitSt × Option UnitCross :=
  let r := if k.delays then u.delayed k period none else (u, none)
  (UnitSt.fresh k, r.2)

/-! ### What reaches the units at an instant (R268, R269) -/

/-- The sample of a fast channel at an instant; none where it carries SETTLING or its group does not sample (R269). -/
def Instant.sample (i : Instant) (c : Nat) : Option UnitSample :=
  match lookup i.words (c / 16) with
  | some l =>
    let w := l.getD (c % 16) 0
    if bitAt w 14 then none else some ⟨visible i.raw, signed 14 w, bitAt w 15, i.dom, i.quality⟩
  | none => none

/-- The state under which a unit meets an instant: kept, or fresh where its settings changed. -/
def LynxSt.unit (x : LynxSt) (k : UnitCfg) (u : Nat) : UnitSt :=
  match lookup x.units u with
  | some s => if s.cfg == k.plain then s else UnitSt.fresh k
  | none => UnitSt.fresh k

/-- The slow inputs of one unit at an instant, in order: the last firing counts. -/
def slowTake (k : UnitCfg) (u : UnitSt) (fire : Option UnitCross) : List SlowInput → UnitSt × Option UnitCross
  | [] => (u, fire)
  | x :: l =>
    let r := if x.gap then u.gap k x.period else u.take k x.period ⟨x.time, x.x, x.isOver, x.dom, x.quality⟩
    slowTake k r.1 (match fire with | some f => some f | none => r.2) l

/-- A unit meets an instant, with the slow inputs that belong to it. -/
def LynxSt.meet (y : LynxSt) (k : UnitCfg) (u : Nat) (i : Instant) (slow : List SlowInput) : UnitSt × Option UnitCross :=
  let st := y.unit k u
  if u < 1920 then
    match i.sample (u / 2) with
    | some x => st.take k 102400 x
    | none => st.gap k 102400
  else if u < 1984 then slowTake k st none (slow.filter fun x => x.input == unitInput u)
  else
    match slow.find? fun x => x.input == unitInput u with
    | some x => (st, some ⟨x.time, false, false, 0, x.dom, x.quality⟩)
    | none => (st, none)

/-! ### Refinement (R257, R273) -/

/-- The leading word of a channel nearest a crossing, within MATCH_WIN ticks, the earlier of two equally near (R257). -/
def matchLead (win x : Nat) (l : List LeadHit) : Option LeadHit :=
  let near := l.filter fun h => decide ((visibleDiff h.time x).natAbs ≤ win * 4096) && !bitAt h.w1 14
  near.foldl (fun best h =>
    match best with
    | none => some h
    | some g =>
      let dh := (visibleDiff h.time x).natAbs
      let dg := (visibleDiff g.time x).natAbs
      if dh < dg || (dh == dg && decide (visibleDiff h.time g.time < 0)) then some h else best) none

/-- The firing of a unit at an instant, refined where it may be (R257, R273). -/
def Block.firing (b : Block) (k : UnitCfg) (u : Nat) (i : Instant) (x : UnitCross) : Firing :=
  let plain : Firing := ⟨u, i.tick, 2 ^ k.kind, x.time, x.dom, x.quality, false, false, false, x.fallback, x.isOver, 0⟩
  let win := b.get F.TDC_CTRL
  if k.kind = 0 && decide (u < 1920) && win != 0 then
    match matchLead win x.time (b.lynx.leads.filter fun h => h.source == u / 2) with
    | some h =>
      { plain with
        time := h.time, dom := bitsOf h.w1 21 21, quality := bitsOf h.w1 20 18, refined := true
        pileup := bitAt h.w1 12, lost := bitAt h.w1 13, ofs := visibleDiff x.time h.time }
    | none => plain
  else plain

/-! ### Groups (R276, R277) -/

/-- A unit's groups under an epoch's settings. -/
def unitGroups (c : EpochCfg) (u : Nat) : List Nat :=
  (if c.flag (F.TRG_U_CFG_GA_EN u) then [c.get (F.TRG_U_CFG_GROUP_A u)] else [])
    ++ (if c.flag (F.TRG_U_CFG_GB_EN u) then [c.get (F.TRG_U_CFG_GROUP_B u)] else [])

/-- The firings of distinct inputs, counted. -/
def distinctInputs (l : List Firing) : Nat := (l.map fun f => unitInput f.unit).eraseDups.length

/-- A group at an instant: its firings in the window, and whether it is met (R276). -/
def groupAt (c : EpochCfg) (g : Nat) (i : Instant) (held : List Firing) (hold : Nat) : List Firing × Bool :=
  let l := held.filter fun f => decide (i.tick < f.tick + max 1 (c.get (F.TRG_G_WIN g)))
  (l, decide (hold ≤ i.tick) && decide (max 1 (c.get (F.TRG_G_CFG_MULT g)) ≤ distinctInputs l) && l.any fun f => f.tick == i.tick)

/-- A local trigger (R277): its instant, its epoch's settings, the met groups, the firings they counted. -/
structure LocalTrigger where
  at_ : Instant
  cfg : EpochCfg
  groups : List Nat
  fired : List Firing
deriving DecidableEq, Repr

/-- The primary group: the lowest met. (DEDUCED, log entry 43.) -/
def LocalTrigger.group (t : LocalTrigger) : Nat := t.groups.headD 0

/-- The primary unit's firing: the lowest unit of those at the instant. -/
def LocalTrigger.primary (t : LocalTrigger) : Option Firing :=
  (t.fired.filter fun f => f.tick == t.at_.tick).foldl (fun best f =>
    match best with
    | none => some f
    | some g => if f.unit < g.unit then some f else best) none

/-- CAUSE: the OR of the kinds counted. -/
def LocalTrigger.cause (t : LocalTrigger) : Nat := t.fired.foldl (fun m f => m ||| f.cause) 0

/-- The largest of numbers, 0 for none. -/
def maxOf (l : List Nat) : Nat := l.foldl max 0

/-- PRE of the union of windows. -/
def LocalTrigger.pre (t : LocalTrigger) : Nat := maxOf (t.groups.map fun g => t.cfg.get (F.TRG_G_PRE g))

/-- POST of the union of windows. -/
def LocalTrigger.post (t : LocalTrigger) : Nat := maxOf (t.groups.map fun g => t.cfg.get (F.TRG_G_POST g))

/-- A group's readout mask. -/
def EpochCfg.readout (c : EpochCfg) (g : Nat) : Nat := c.get (F.TRG_G_RD_LO g) + 2 ^ 32 * c.get (F.TRG_G_RD_HI g)

/-- The readout union. -/
def LocalTrigger.readout (t : LocalTrigger) : Nat := t.groups.foldl (fun m g => m ||| t.cfg.readout g) 0

/-! ### One instant (R268) -/

/-- A slow input belongs to an instant at or after its time (R268). -/
def SlowInput.due (x : SlowInput) (i : Instant) : Bool := decide (visibleDiff x.time (visible i.raw) ≤ 0)

/-- The units that run in an epoch. -/
def unitsOn (c : EpochCfg) : List Nat := (List.range 1992).filter (unitOn c)

/-- What the units did at an instant: their new states, the firings in ascending unit. -/
def Block.unitsAt (b : Block) (c : EpochCfg) (i : Instant) : Table UnitSt × List Firing :=
  let slow := b.lynx.slow.filter fun x => x.due i
  let r := (unitsOn c).map fun u => (u, b.lynx.meet (unitCfg c u) u i slow)
  (r.map fun (x : Nat × UnitSt × Option UnitCross) => (x.1, x.2.1),
    r.filterMap fun (x : Nat × UnitSt × Option UnitCross) => x.2.2.map fun f => b.firing (unitCfg c x.1) x.1 i f)

/-- How long Lynx keeps leading words and arrivals, 1/1024 ns and 2^-32 ns: longer than any use of them. -/
abbrev leadKeep : Nat := 16777216
abbrev arrivalKeep : Nat := 17179869184000000000

/-- The groups that have a firing or are named by one. -/
def groupsTouched (y : LynxSt) (c : EpochCfg) (l : List Firing) : List Nat :=
  (List.range 256).filter fun g => (lookup y.groups g).isSome || l.any fun f => (unitGroups c f.unit).contains g

/-- The groups at an instant: what each holds, the met ones, what the met ones counted. -/
def Block.groupsAt (b : Block) (c : EpochCfg) (i : Instant) (l : List Firing) : Table (List Firing) × List Nat × List Firing :=
  let on := (groupsTouched b.lynx c l).filter fun g => c.flag (F.TRG_G_CFG_EN g)
  let r := on.map fun g =>
    (g, groupAt c g i (lookupD b.lynx.groups g [] ++ l.filter fun f => (unitGroups c f.unit).contains g) (lookupD b.lynx.ghold g 0))
  let met := r.filter fun (x : Nat × List Firing × Bool) => x.2.2
  ((r.filter fun (x : Nat × List Firing × Bool) => !x.2.2 && !x.2.1.isEmpty).map fun x => (x.1, x.2.1),
    met.map fun x => x.1, (met.flatMap fun (x : Nat × List Firing × Bool) => x.2.1).eraseDups)

/-- The oldest instant is taken: units, groups, counters, and the local trigger it makes (R268 to R277). -/
def Block.evalInstant (b : Block) (i : Instant) : Block × Option LocalTrigger :=
  let c := b.cfgOf (epochOf i.raw)
  let un := b.unitsAt c i
  let gr := b.groupsAt c i un.2
  let arr := un.2.filterMap fun f =>
    if f.cause = 1 && decide (f.unit < 1920) then some (Arrival.mk (f.unit / 2) i.raw f.time f.dom f.quality f.refined) else none
  let met := gr.2.1
  let b1 := { b with lynx := { b.lynx with
    instants := b.lynx.instants.tail
    done := some i.raw
    slow := b.lynx.slow.filter fun x => !x.due i
    leads := b.lynx.leads.filter fun h => decide (visibleDiff (visible i.raw) h.time ≤ leadKeep)
    units := un.1
    groups := gr.1
    ghold := met.foldl (fun m g => insertKey m g (i.tick + 25 * c.get (F.TRG_G_HOLD g))) (b.lynx.ghold.filter fun x => decide (i.tick < x.2))
    arrivals := (b.lynx.arrivals.filter fun a => decide (timeDiff i.raw a.at_ ≤ arrivalKeep)) ++ arr } }
  let b2 := met.foldl (fun d g => d.bump (F.TRG_G_CNT g)) b1
  if met.isEmpty then (b2, none)
  else
    let b3 := b2.bump64 F.TRG_TRIG_CNT_LO F.TRG_TRIG_CNT_HI 1
    let b4 := if 2 ≤ met.length then b3.bump F.TRG_MERGE_CNT else b3
    (b4, some ⟨i, c, met, gr.2.2⟩)

/-- The units whose settings of R270 do not fit at an epoch's start, and did in the epoch before or differ from it: each counts once in
TRG_BADCFG_CNT. -/
def badUnits (old new : EpochCfg) : List Nat :=
  (List.range 1992).filter fun u =>
    new.flag (F.TRG_U_CFG_EN u) && unitBad new u
      && !(old.flag (F.TRG_U_CFG_EN u) && unitBad old u && (unitCfg old u).plain == (unitCfg new u).plain)

/-! ### Pin units (R275) -/

/-- A write of TRG_U_CFG: a pin unit is not enabled on a pin whose FUNCTION is not TRIGGER (R275). -/
def trgUnitOp (u w : Nat) (b : Block) : Block × Status :=
  if decide (1984 ≤ u) && bitAt w 31 && b.pinFunction (u - 1984) != 3 then (b.bump F.TRG_REFUSE_CNT, .busyResource)
  else (b.writeFields (0x76000 + u * 0x10) w, .ok)

/-- Every unit re-arms and the groups are empty (R299). -/
def LynxSt.restart (y : LynxSt) : LynxSt := { y with units := [], groups := [], ghold := [] }

end Sys2Proof.Machine
end

