-- ==== Sys2Proof/Machine/Frag.lean ====
section
/-! DEFINITION. The life of a fragment: windows, descriptors, opening, decisions, deadlines, the resolution of epochs (R32 to R47,
R278 to R284, R288 to R293, R298, R333, R334, R336). -/

namespace Sys2Proof.Machine

open Sys2Proof

/-! ### Names and orders -/

/-- Epoch names in order: wrap × 4096 + epoch, 28 bits, the shorter way round (R30). -/
def keyLe (a b : Nat) : Bool := decide ((b + 2 ^ 28 - a % 2 ^ 28) % 2 ^ 28 < 2 ^ 27)

/-- An identity (R32). -/
def identOf (node key seq : Nat) : Nat := node % 4096 * 2 ^ 28 + key % 4096 * 2 ^ 16 + seq % 65536

/-- NODE of an identity. -/
def identNode (i : Nat) : Nat := i / 2 ^ 28 % 4096

/-- The node ID of this module. -/
def Block.node (b : Block) : Nat := b.get F.IDN_NODE_NODE_ID

/-- This module is acting master of the trigger tree (R294). -/
def Block.acting (b : Block) : Bool := b.flag F.TRG_STAT_ACTING

/-- The decision deadline in 2^-32 ns (R41). -/
def Block.deadlineRaw (b : Block) : Nat := b.get F.TRG_DEADLINE * 1000 * 2 ^ 32

/-- The stamping time has reached a time. -/
def Block.past (b : Block) (t : Int) : Bool := decide (0 ≤ timeDiff b.stampRaw (wrapTime t))

/-- A fragment of this module by identity, one that is not RETIRED. -/
def Block.frag (b : Block) (ident : Nat) : Option Frag := b.evb.frags.find? fun f => f.desc.ident == ident

/-- The fragments with one changed. -/
def Block.setFrag (b : Block) (f : Frag) : Block :=
  { b with evb := { b.evb with frags := b.evb.frags.map fun g => if g.desc.ident = f.desc.ident then f else g } }

/-- The state of an epoch changed. -/
def Block.modEpoch (b : Block) (k : Nat) (f : EpochSt → EpochSt) : Block :=
  { b with evb := { b.evb with epochs := b.evb.epochs.map fun e => if e.key = k then f e else e } }

/-- A higher trigger term is remembered (R39). -/
def Block.seeTerm (b : Block) (term : Nat) : Block := if b.get F.TRG_STAT_TERM < term then b.put F.TRG_STAT_TERM term else b

/-- A higher event number is remembered (R302). -/
def Block.seeEvno (b : Block) (n : Nat) : Block :=
  if b.get64 F.TRG_M_EVNO_LO F.TRG_M_EVNO_HI < n then b.put64 F.TRG_M_EVNO_LO F.TRG_M_EVNO_HI n else b

/-! ### Staging (R333 to R335) -/

/-- Bytes as chunks of 64 KiB. -/
def chunksFor (n : Nat) : Nat := ceilDiv n 65536

/-- Chunks in use: by fragments, by received fragments, open or merged. -/
def EvbSt.usedChunks (e : EvbSt) : Nat :=
  let parts (s : MergeSlot) : Nat := (s.parts.map (·.chunks)).sum
  (e.frags.map (·.chunks)).sum + (e.slots.map parts).sum + (e.lateNext.map fun d => parts d.slot).sum
    + (e.epochs.map fun x => (x.merges.map fun d => parts d.slot).sum).sum

/-- Free chunks (R333, EVB_STAGE). -/
def Block.freeChunks (b : Block) : Nat := 32768 - b.evb.usedChunks

/-- The selected reductions of a group. -/
def EpochCfg.nsel (c : EpochCfg) (g : Nat) : Nat := popCount (c.get (F.TRG_G_MEAS_REDUCE_SEL g)) 5

/-- RES of R333 for a window of `w` samples. -/
def EpochCfg.res (c : EpochCfg) (g readout w : Nat) : Nat :=
  let nch := 16 * popCount readout 60
  let nsel := c.nsel g
  1024 + 8 * c.get F.EVB_HITS_MAX + nch * (4 * w + 32)
    + (if nsel = 0 then 0 else nch * (4 + 2 * nsel * ceilDiv w (2 ^ c.get (F.TRG_G_MEAS_RED_SHIFT g))))

/-! ### Windows (R280, R281) -/

/-- Blocks per epoch at the write rate in force in an epoch (R281, R318): those of the last epoch complete before it, at least 82 a
group. -/
def Block.loadAt (b : Block) (k groups : Nat) : Nat :=
  let before := b.ring.past.filter fun x => keyLe x.1 k && x.1 != k
  max ((before.getLast?.map (·.2)).getD 0) (82 * groups)

/-- R_t in samples of 100 ns at a write rate, none while unbounded. -/
def retention (n : Nat) : Option Nat := if n = 0 then none else some (safeBlocks * epochNs / (n * 100))

/-- PRE and POST after clipping, and whether a clip took place (R281, R282). -/
def clipWindow (lim : Option Nat) (pre post : Nat) (stream : Bool) : Nat × Nat × Bool :=
  match lim with
  | none => (pre, post, false)
  | some l =>
    let p := min pre l
    if !stream && decide (l < p + post) then (p, l - p, true) else (p, post, decide (l < pre))

/-- The stamping time of a tick of TIM_TICK (R314); without an anchor, a time back along the increment. -/
def Block.stampAt (b : Block) (ptick : Nat) (near nearRaw : Nat) : Nat :=
  match b.timeOfTick ptick (epochOf nearRaw) with
  | some t => t
  | none => wrapTime ((nearRaw : Int) - ((near : Int) - ptick) * (b.domain b.stampDom).inc)

/-! ### Messages up and down the tree (R288 to R292) -/

/-- A primitive reaches the acting master (R294, R295). -/
def Block.masterTake (b : Block) (m : PrimitiveMsg) : Block :=
  let b1 := b.bump F.TRG_M_PRIM_CNT
  let key := m.wrap * 4096 + m.ns / 2 ^ 20
  let late := match b1.master.sealed with
    | some k => keyLe key k
    | none => false
  if late then b1.bump F.TRG_M_LATE_CNT
  else if 262144 ≤ b1.master.prims.length then b1.bump F.TRG_M_DROP_CNT
  else { b1 with master := { b1.master with prims := b1.master.prims ++ [m] } }

/-- A primitive toward the root: queued where this module is the acting master, else sent to the parent (R288). -/
def Block.sendPrimitive (b : Block) (m : PrimitiveMsg) : Block :=
  if b.acting then b.masterTake m
  else
    match b.parentPort 2 with
    | some p => b.post (.hop p) 2 (.primitive m)
    | none => b

/-- The master hears an ACK: it repeats that decision no more (R40, R290). -/
def Block.masterAck (b : Block) (m : DecisionAckMsg) : Block :=
  { b with master := { b.master with out := b.master.out.filter fun d => !(d.1.kind == m.kind && d.1.term == m.term && d.1.ident == m.ident) } }

/-- An ACK of a decision toward the master (R290). -/
def Block.ackDecision (b : Block) (m : DecisionAckMsg) : Block :=
  if b.acting then b.masterAck m
  else
    match b.parentPort 2 with
    | some p => b.post (.hop p) 2 (.decisionAck m)
    | none => b

/-! ### Epochs that become RESOLVED (R43, R47, R616) -/

/-- The fragments of an epoch. -/
def Block.fragsOf (b : Block) (k : Nat) : List Frag := b.evb.frags.filter fun f => f.key == k

/-- Every grid instant of an ended epoch has been evaluated (R616): none waits, and TRG_LAG ticks have passed after its last one. -/
def Block.evaluated (b : Block) (e : EpochSt) : Bool :=
  match e.ended with
  | some t => decide (t + e.cfg.get F.TRG_LAG ≤ b.tick + 25) && !b.lynx.instants.any fun i => epochOf i.raw == e.key
  | none => false

/-- A SEAL covers an epoch (R293). -/
def Block.sealedAt (b : Block) (k : Nat) : Bool :=
  match b.evb.sealed with
  | some x => keyLe k x
  | none => false

/-- The decision deadline has passed for every trigger of an epoch, or after the end of one without a fragment (R616). -/
def Block.deadlinesPassed (b : Block) (e : EpochSt) : Bool :=
  let l := b.fragsOf e.key
  if l.isEmpty then b.past (((e.key + 1) * 2 ^ 52 + b.deadlineRaw : Nat) : Int)
  else l.all fun f => b.past ((f.trig + b.deadlineRaw : Nat) : Int)

/-- A fragment that waits for its decision. -/
def Frag.undecided (f : Frag) : Bool := f.st == .speculative

/-- An epoch becomes RESOLVED now (R43, R616). -/
def Block.resolves (b : Block) (e : EpochSt) : Bool :=
  e.term.isNone && b.evaluated e && !(b.fragsOf e.key).any Frag.undecided && (b.sealedAt e.key || b.deadlinesPassed e)

/-- An item handed to the mirror link (R564). -/
def Block.mirror (b : Block) (k : MirrorKind) : Block := { b with pair := { b.pair with queue := b.pair.queue ++ [⟨b.tick, k⟩] } }

/-- The mirror is up (R564). -/
def Block.mirrorUp (b : Block) : Bool := b.flag F.PAIR_STAT_MIRROR_UP

/-- RESOLVED: the term is recorded, and the commit-log entry goes to the standby (R44, R47). -/
def Block.resolve (b : Block) (e : EpochSt) : Block :=
  let b1 := b.modEpoch e.key fun x => { x with term := some (b.get F.TRG_STAT_TERM), mirrored := !b.mirrorUp }
  if b.mirrorUp then b1.mirror (.entry e.key) else b1

/-- Every epoch that can become RESOLVED does. -/
def Block.resolveEpochs (b : Block) : Block := b.evb.epochs.foldl (fun c e => if c.resolves e then c.resolve e else c) b

/-! ### Transitions (R41) -/

/-- A fragment discarded: its staging is freed (R42). -/
def Frag.discard (f : Frag) : Frag := { f with st := .discarded, chunks := 0, content := none, records := none }

/-- The deadline transition of a speculative fragment (R41, R293). -/
def Block.deadlineOne (b : Block) (f : Frag) : Block :=
  if f.st = .speculative then
    if b.get F.TRG_CTRL_DEADLINE_ACTION = 1 then (b.setFrag f.discard).bump F.EVB_DEADLINE_DISCARD
    else b.setFrag { f with st := .orphaned }
  else b

/-- The segments of a fragment (R282). -/
def Block.segmentsOf (b : Block) (f : Frag) : List Frag := b.evb.frags.filter fun g => g.desc.seg != 0 && g.desc.parent == f.desc.ident

/-- The deadline transition of a fragment and of its segments (R41, R282). -/
def Block.deadlineFrag (b : Block) (f : Frag) : Block := (b.segmentsOf f).foldl Block.deadlineOne (b.deadlineOne f)

/-- A SEAL that covers an epoch: its speculative fragments take their deadline transition (R293). -/
def Block.sealEpochs (b : Block) : Block :=
  (b.evb.frags.filter fun f => f.undecided && b.sealedAt f.key).foldl (fun c f =>
    match c.frag f.desc.ident with
    | some g => if g.undecided then (c.bump F.TRG_SEALUND_CNT).deadlineOne g else c
    | none => c) b

/-! ### Opening (R278 to R284, R288, R293, R333) -/

/-- The PRIMITIVE of a fragment (R288). -/
def Frag.primitive (f : Frag) (stream : Bool) (inputs : Nat) : PrimitiveMsg :=
  ⟨f.cls, f.desc.group, f.desc.cause, f.desc.ident, bitAt f.desc.flags 5, stream, tsWrap f.trig, f.desc.trigNs, f.desc.trigW2,
    f.desc.trigW2 % 2 ^ 18, inputs⟩

/-- The second word of an event time in 1/1024 ns. -/
def eventW2 (t dom quality sub : Nat) : Nat := t % 1024 * 2 ^ 22 + dom % 2 * 2 ^ 21 + quality % 8 * 2 ^ 18 + sub % 2 ^ 18

/-- Staging does not cover a fragment: it does not open (R333). -/
def Block.stageFull (b : Block) : Block := (b.bump F.EVB_STAGE_FULL_CNT).raise 160 b.freeChunks

/-- The sequence of the epoch is exhausted (R34). -/
def Block.seqExhausted (b : Block) (k : Nat) : Block := (b.modEpoch k fun e => { e with exhausted := e.exhausted + 1 }).bump F.EVB_SEQ_EXHAUST

/-- A fragment takes its place, its SEQ and its chunks; in a sealed epoch it takes its deadline transition, else its PRIMITIVE
leaves (R33, R288, R293). -/
def Block.placeFrag (b : Block) (f : Frag) (stream : Bool) (inputs : Nat) : Block :=
  let b1 := b.modEpoch f.key fun e => { e with seq := e.seq + 1 }
  let b2 := { b1 with evb := { b1.evb with frags := b1.evb.frags ++ [f] } }
  if f.st != .speculative then b2
  else if b2.sealedAt f.key then (b2.bump F.TRG_SEALUND_CNT).deadlineOne f
  else b2.sendPrimitive (f.primitive stream inputs)

/-- The samples of a streamed window that may lie in the trigger's epoch, at most. -/
def streamSamples (raw pre post : Nat) : Nat := min (pre + post) (pre + ceilDiv (2 ^ 52 - raw % 2 ^ 52) (100 * 2 ^ 32) + 1)

/-- An epoch takes new fragments: in Live, outside reseat and quarantine, in an epoch that counts (R46, R57, R58). -/
def Block.opens (b : Block) (k : Nat) : Bool :=
  b.phase == .live && !b.reseat && !b.flag F.FAB_STAT_QUAR
    && match b.epochSt k with
      | some e => e.counts
      | none => false

/-- A local trigger may open a fragment (R279). (DEDUCED, log entry 44.) -/
def Block.mayOpen (b : Block) (c : EpochCfg) (k : Nat) : Bool := b.opens k && c.flag F.TRG_CTRL_EN

/-- The descriptor of a local trigger (R284), WIN_LEN before a stream ends. -/
def LocalTrigger.desc (t : LocalTrigger) (f : Firing) (ident start len flags : Nat) : Desc where
  ident := ident
  cause := t.cause
  group := t.group
  ngroups := t.groups.length % 256
  trigNs := tsNs t.at_.raw
  trigW2 := word1 t.at_.raw t.at_.dom t.at_.quality f.unit
  evtNs := f.time / 1024 % 2 ^ 32
  evtW2 := eventW2 f.time f.dom f.quality (unitInput f.unit)
  ofs := f.ofs
  flags := b2n f.refined + 2 * b2n f.pileup + 4 * b2n f.lost + 8 * b2n f.fallback + 16 * b2n f.isOver + flags
  seg := 0
  winStart := start
  winLen := len
  readout := t.readout
  eventNo := 0
  term := 0
  parent := 0

/-- A local trigger opens its fragment, or does not (R279 to R284, R288, R333). -/
def Block.openTrigger (b : Block) (t : LocalTrigger) (f : Firing) : Block :=
  let k := epochOf t.at_.raw
  if !b.mayOpen t.cfg k then b.bump F.TRG_SUPPRESS_CNT
  else
    let e := b.epochSt k
    let seq := (e.map (·.seq)).getD 0
    if 65536 ≤ seq then b.seqExhausted k
    else
      let stream := t.cfg.flag (F.TRG_G_CFG_STREAM t.group)
      let w := clipWindow (retention (b.loadAt k (popCount t.cfg.groups 60))) t.pre t.post stream
      let b1 := if w.2.2 then b.bump F.TRG_CLIP_CNT else b
      let len := if stream then streamSamples t.at_.raw w.1 w.2.1 else w.1 + w.2.1
      let chunks := chunksFor (t.cfg.res t.group t.readout len)
      if b1.freeChunks < chunks then b1.stageFull
      else
        let start := t.at_.ptick - 25 * w.1
        let startRaw := b1.stampAt start t.at_.ptick t.at_.raw
        let d := t.desc f (identOf b.node k seq) (tsNs startRaw) len (32 * b2n w.2.2 + 64 * b2n stream)
        b1.placeFrag
          { desc := d, key := k, trig := t.at_.raw, tick := t.at_.ptick, start := start, cls := t.cfg.get (F.TRG_G_CFG_CLASS t.group)
            st := .speculative, builder := none, orig := 0, reassigned := false, taken := [], chunks := chunks, content := none, records := none
            hitsClip := false, stageClip := false, tail := if stream then some (t.at_.ptick + 25 * w.2.1) else none, segs := 0
            nextTick := start, sent := 0 } stream (distinctInputs t.fired)

/-- GRID_INSTANT_EVAL: TRG_LAG ticks after the oldest grid instant (R268). -/
def gridInstantEval (b : Block) : Block :=
  match b.lynx.instants with
  | [] => b
  | i :: _ =>
    whenDue (b.ccOn && !(b.pair.gap.isSome && b.pair.warm) && decide (i.tick + max 250 ((b.cfgOf (epochOf i.raw)).get F.TRG_LAG) ≤ b.tick)) (fun b =>
      let r := b.evalInstant i
      let b1 := match r.2 with
        | some t =>
          match t.primary with
          | some f => r.1.openTrigger t f
          | none => r.1
        | none => r.1
      b1.resolveEpochs) b

/-- GRID_INSTANT_EVAL (R268). -/
def execGridInstantEval (s : State) : Host.Outcome State Fault Refusal :=
  onHw (Instr.wf .gridInstantEval) s gridInstantEval

/-! ### Segments of a stream (R282) -/

/-- A segment of a stream over the `n` samples from a tick, in the epoch that begins now; it takes segment 0's decision. (DEDUCED, log entry 44.) -/
def Block.openSegment (b : Block) (f : Frag) (k n : Nat) (last : Bool) : Block :=
  let c := b.cfgOf k
  let seq : Nat := ((b.epochSt k).map (·.seq)).getD 0
  let g := f.desc.group
  let chunks := chunksFor (c.res g f.desc.readout n)
  if !b.opens k then b
  else if 65536 ≤ seq then b.seqExhausted k
  else if b.freeChunks < chunks then b.stageFull
  else
    let raw := b.stampRaw
    let accepted := f.taken.any fun d => d.1 == 1
    let st : FragState := if f.st == .committed then (if accepted then .accepted else .orphaned) else f.st
    let d := { f.desc with
      ident := identOf b.node k seq
      trigNs := tsNs raw
      trigW2 := word1 raw b.stampDom b.stampQuality (f.desc.trigW2 % 2 ^ 18)
      flags := f.desc.flags % 32 + 64 + 128 * b2n last
      seg := f.segs
      winStart := tsNs (b.stampAt f.nextTick b.time.pllTicks raw)
      winLen := n
      parent := f.desc.ident }
    let s : Frag := { f with
      desc := d, key := k, trig := raw, tick := b.time.pllTicks, start := f.nextTick, st := st, chunks := chunks, content := none, records := none
      hitsClip := false, stageClip := false, tail := none, segs := 0, sent := 0 }
    b.placeFrag (if st == .discarded then s.discard else s) true 0

/-- At an epoch boundary a stream's segment 0 ends, or its next segment opens: the samples before the boundary that no segment covers
yet. (DEDUCED, log entry 44.) -/
def Block.streamBoundary (b : Block) (k : Nat) (f : Frag) : Block :=
  match f.tail with
  | none => b
  | some t =>
    let stop := min b.time.pllTicks t
    let n := ceilDiv (stop - f.nextTick) 25
    let last := decide (t ≤ b.time.pllTicks)
    let f1 : Frag := { f with nextTick := f.nextTick + 25 * n, segs := f.segs + 1, tail := if last then none else some t }
    if f.segs = 0 then
      b.setFrag { f1 with desc := { f.desc with winLen := n, flags := f.desc.flags % 128 + 128 * b2n last } }
    else if n = 0 then b.setFrag f1
    else (b.setFrag f1).openSegment f k n last

/-- The streams at an epoch boundary, in order of opening. -/
def Block.streamsBoundary (b : Block) (k : Nat) : Block := b.evb.frags.foldl (fun c f => c.streamBoundary k f) b

/-! ### Decisions (R38 to R41, R289, R336) -/

/-- ACK of a decision. -/
def ackOf (m : DecisionMsg) : DecisionAckMsg := ⟨m.kind, m.term, m.ident⟩

/-- A decision that is discarded and counted, acknowledged at once (R39, R41). -/
def Block.staleDecision (b : Block) (m : DecisionMsg) : Block := (b.bump F.EVB_STALE_DECISION).ackDecision (ackOf m)

/-- A decision applied: acknowledged once its entry is mirrored, at once where nothing mirrors (R40). -/
def Block.ackApplied (b : Block) (m : DecisionMsg) (before : List Frag) : Block :=
  if b.mirrorUp then b.mirror (.decision m before) else b.ackDecision (ackOf m)

/-- The largest window that a number of chunks covers, between one that they cover and one that they may not (R334). -/
def fitBetween (c : EpochCfg) (g readout room lo hi : Nat) : Nat → Nat
  | 0 => lo
  | fuel + 1 =>
    if hi ≤ lo then lo
    else
      let mid := (lo + hi + 1) / 2
      if chunksFor (c.res g readout mid) ≤ room then fitBetween c g readout room mid hi fuel
      else fitBetween c g readout room lo (mid - 1) fuel

/-- The samples that a number of chunks covers, up to `want`; none where not even a window of no sample fits (R334). -/
def fitSamples (c : EpochCfg) (g readout room want : Nat) : Option Nat :=
  if chunksFor (c.res g readout 0) ≤ room then some (fitBetween c g readout room 0 want 32) else none

/-- A new window of a fragment (R281, R334, R336): clipped with R_t now, shortened to what staging covers, rebuilt from nothing. -/
def Block.rewindow (b : Block) (f : Frag) (pre post : Nat) : Block × Frag :=
  let c := b.cfgOf f.key
  let g := f.desc.group
  let stream := f.tail.isSome
  let w := clipWindow (retention (b.loadAt b.epochNow b.groupCount)) pre post stream
  let b1 := if w.2.2 then b.bump F.TRG_CLIP_CNT else b
  let want := if stream then streamSamples f.trig w.1 w.2.1 else w.1 + w.2.1
  let room := b1.freeChunks + f.chunks
  let start := f.tick - 25 * w.1
  let startNs := tsNs (b1.stampAt start f.tick f.trig)
  let flags := setBit f.desc.flags 5 w.2.2
  let clean : Frag := { f with content := none, records := none, hitsClip := false, stageClip := false, start := start }
  if chunksFor (c.res g f.desc.readout want) ≤ room then
    (b1, { clean with
      chunks := chunksFor (c.res g f.desc.readout want), tail := if stream then some (f.tick + 25 * w.2.1) else none
      nextTick := if stream && f.segs == 0 then start else f.nextTick
      desc := { f.desc with winStart := startNs, winLen := want, flags := flags } })
  else
    match fitSamples c g f.desc.readout room want with
    | some n =>
      (b1, { clean with
        chunks := chunksFor (c.res g f.desc.readout n), stageClip := true
        desc := { f.desc with winStart := startNs, winLen := n, flags := setBit flags 5 true } })
    | none =>
      (b1, { clean with stageClip := true, desc := { f.desc with winStart := startNs, winLen := 0, flags := setBit flags 5 true } })

/-- What a decision makes of a fragment that the table of R41 gives a transition; none where it gives none. -/
def Block.transition (b : Block) (m : DecisionMsg) (f : Frag) : Option (Block × Frag) :=
  let f1 : Frag := { f with taken := f.taken ++ [(m.kind, m.term, m.eventNo)] }
  match f.st, m.kind with
  | .speculative, 1 =>
    some (b, { f1 with
      st := .accepted, builder := if m.noBuilder then none else some m.builder, orig := if m.noBuilder then 0 else m.builder
      desc := { f.desc with eventNo := m.eventNo, term := m.term } })
  | .speculative, 2 => some (b, f1.discard)
  | .speculative, 3 => some (b.rewindow f1 m.newPre m.newPost)
  | .accepted, 3 =>
    let r := b.rewindow f1 m.newPre m.newPost
    some (r.1, { r.2 with desc := { r.2.desc with eventNo := m.eventNo } })
  | _, _ => none

/-- A segment takes the transition of segment 0 (R282): the state, the event number and the builder, not the window. -/
def Frag.follow (g f : Frag) : Frag :=
  let g1 : Frag := { g with
    st := f.st, taken := f.taken, builder := f.builder, orig := f.orig, desc := { g.desc with eventNo := f.desc.eventNo, term := f.desc.term } }
  if f.st == .discarded then g1.discard else g1

/-- The decision applied to a fragment of this module (R39 to R41). (DEDUCED, log entry 45.) -/
def Block.applyDecision (b : Block) (m : DecisionMsg) : Block :=
  if m.term < b.get F.TRG_STAT_TERM then b.staleDecision m
  else
    let b1 := (b.resolveEpochs.seeTerm m.term).seeEvno m.eventNo
    match b1.frag m.ident with
    | none => b1.staleDecision m
    | some f =>
      if f.st = .committed then b1.staleDecision m
      else if f.desc.seg ≠ 0 then (b1.bump F.TRG_BADDEC_CNT).ackDecision (ackOf m)
      else if f.taken.contains (m.kind, m.term, m.eventNo) then b1.ackDecision (ackOf m)
      else
        match b1.transition m f with
        | none => b1.staleDecision m
        | some r =>
          let b2 := r.1.setFrag r.2
          let b3 := (b2.segmentsOf f).foldl (fun c g => c.setFrag (g.follow r.2)) b2
          (b3.ackApplied m (f :: b2.segmentsOf f)).resolveEpochs

/-- A HOT standby keeps a decision that it receives directly, for a fragment not committed (R563). -/
def Block.holdDecision (b : Block) (m : DecisionMsg) : Block :=
  if ((b.frag m.ident).map fun f => f.st != .committed).getD false then { b with pair := { b.pair with held := b.pair.held ++ [m] } } else b

/-- A decision for this node (R39 to R41, R563, R568): applied, and held by a HOT standby; within a gap a new active that was HOT holds
it for the gap's end. (DEDUCED, log entry 45.) -/
def Block.receiveDecision (b : Block) (m : DecisionMsg) : Block :=
  if b.pair.gap.isSome then (if b.pair.warm then b else b.holdDecision m)
  else if b.get F.PAIR_STAT_SB_STATE = 4 then (b.holdDecision m).applyDecision m
  else b.applyDecision m

/-- A decision arrives (R289, R296): for this node it is taken; down the tree it goes on by the child port on which a primitive of
its node last arrived; as a copy for the standby master it is noted. -/
def decisionRx (viaTree : Bool) (m : DecisionMsg) (b : Block) : Block :=
  if b.isSelf (identNode m.ident) then b.receiveDecision m
  else
    let b1 := (b.resolveEpochs.seeTerm m.term).seeEvno m.eventNo
    if viaTree then
      match lookup b1.fab.primPort (identNode m.ident) with
      | some p => b1.post (.hop p) 2 (.decision m)
      | none => b1
    else b1

/-- DECISION_ACCEPT (R41). -/
def decisionAccept (viaTree : Bool) (m : DecisionMsg) (b : Block) : Block := whenDue b.ccOn (decisionRx viaTree m) b

/-- DECISION_REJECT (R41). -/
def decisionReject (viaTree : Bool) (m : DecisionMsg) (b : Block) : Block := whenDue b.ccOn (decisionRx viaTree m) b

/-- DECISION_SUPERSEDE (R41, R336). -/
def decisionSupersede (viaTree : Bool) (m : DecisionMsg) (b : Block) : Block := whenDue b.ccOn (decisionRx viaTree m) b

/-- DECISION_ACCEPT (R41). -/
def execDecisionAccept (viaTree : Bool) (m : DecisionMsg) (s : State) : Host.Outcome State Fault Refusal :=
  onHw (Instr.wf (.decisionAccept viaTree m)) s (decisionAccept viaTree m)

/-- DECISION_REJECT (R41). -/
def execDecisionReject (viaTree : Bool) (m : DecisionMsg) (s : State) : Host.Outcome State Fault Refusal :=
  onHw (Instr.wf (.decisionReject viaTree m)) s (decisionReject viaTree m)

/-- DECISION_SUPERSEDE (R336). -/
def execDecisionSupersede (viaTree : Bool) (m : DecisionMsg) (s : State) : Host.Outcome State Fault Refusal :=
  onHw (Instr.wf (.decisionSupersede viaTree m)) s (decisionSupersede viaTree m)

/-- DECISION_DEADLINE: the deadline of a speculative fragment passes (R41); a segment follows segment 0. -/
def decisionDeadline (ident : Nat) (b : Block) : Block :=
  match b.frag ident with
  | some f =>
    whenDue (f.undecided && f.desc.seg == 0 && b.past ((f.trig + b.deadlineRaw : Nat) : Int)) (fun b =>
      (b.deadlineFrag f).resolveEpochs) b
  | none => b

/-- DECISION_DEADLINE (R41). -/
def execDecisionDeadline (ident : Nat) (s : State) : Host.Outcome State Fault Refusal :=
  onHw (Instr.wf (.decisionDeadline ident)) s (decisionDeadline ident)

/-- EMPTY_EPOCH_DEADLINE: the stamping time passes the end of an epoch without a fragment plus D (R616). -/
def emptyEpochDeadline (b : Block) : Block := whenDue b.ccOn Block.resolveEpochs b

/-- EMPTY_EPOCH_DEADLINE (R616). -/
def execEmptyEpochDeadline (s : State) : Host.Outcome State Fault Refusal :=
  onHw (Instr.wf .emptyEpochDeadline) s emptyEpochDeadline

/-! ### Retro fragments (R298) -/

/-- The tick of TIM_TICK at which a time begins; without an anchor, along the increment. -/
def Block.ptickAt (b : Block) (t : Nat) : Nat :=
  match b.tickOfTime t with
  | some n => n
  | none => ((b.time.pllTicks : Int) - timeDiff b.stampRaw t / (max 1 (b.domain b.stampDom).inc : Nat)).toNat

/-- The first fast sample instant at or after a tick of TIM_TICK (R121, R268). -/
def Block.gridAfter (b : Block) (ptick : Nat) : Nat :=
  let phase := ((b.fast.last.getD b.tick : Int) - b.tick + b.time.pllTicks) % 25
  ptick + ((phase - ptick) % 25).toNat

/-- RETRO_RX: one fragment in the current epoch, accepted at once (R298). (DEDUCED, log entry 44.) -/
def retroRx (m : RetroMsg) (b : Block) : Block :=
  whenDue (b.phase == .live && !b.reseat && !b.flag F.FAB_STAT_QUAR) (fun b =>
    let b1 := (b.resolveEpochs.seeTerm m.term).seeEvno m.eventNo
    let k := b1.epochNow
    let c := b1.cfgOf k
    match b1.epochSt k with
    | none => b1
    | some e =>
      if !e.counts then b1
      else if !c.flag (F.TRG_G_CFG_EN m.group) then b1.bump F.TRG_RETRO_SKIP_CNT
      else if 65536 ≤ e.seq then b1.seqExhausted k
      else
        let w := clipWindow (retention (b1.loadAt k (popCount c.groups 60))) (c.get (F.TRG_G_PRE m.group)) (c.get (F.TRG_G_POST m.group)) false
        let b2 := if w.2.2 then b1.bump F.TRG_CLIP_CNT else b1
        let readout := c.readout m.group
        let chunks := chunksFor (c.res m.group readout (w.1 + w.2.1))
        if b2.freeChunks < chunks then b2.stageFull
        else
          let t := m.wrap * 2 ^ 64 + m.ns * 2 ^ 32 + m.w2 / 2 ^ 22 * 2 ^ 22
          let s := b2.gridAfter (b2.ptickAt t)
          let start := s - 25 * w.1
          let raw := b2.stampRaw
          let d : Desc := {
            ident := identOf b2.node k e.seq, cause := 128, group := m.group, ngroups := 1, trigNs := tsNs raw
            trigW2 := word1 raw b2.stampDom b2.stampQuality (2 ^ 18 - 1), evtNs := m.ns, evtW2 := m.w2, ofs := 0
            flags := 256 + 32 * b2n w.2.2, seg := 0, winStart := tsNs (b2.stampAt start s t), winLen := w.1 + w.2.1, readout := readout
            eventNo := m.eventNo, term := m.term, parent := m.ident }
          b2.placeFrag
            { desc := d, key := k, trig := raw, tick := s, start := start, cls := c.get (F.TRG_G_CFG_CLASS m.group)
              st := .accepted, builder := none, orig := 0, reassigned := false, taken := [(1, m.term, m.eventNo)], chunks := chunks
              content := none, records := none, hitsClip := false, stageClip := false, tail := none, segs := 0, nextTick := start, sent := 0 } false 0) b

/-- RETRO_RX (R298). -/
def execRetroRx (m : RetroMsg) (s : State) : Host.Outcome State Fault Refusal :=
  onHw (Instr.wf (.retroRx m)) s (retroRx m)

end Sys2Proof.Machine
end

