-- ==== Sys2Proof/Machine/Lps.lean ====
section
/-! DEFINITION. The Lumaro packed stream: its packer (R381 to R385) and its decompressor (R368 to R377), as functions of bytes. -/

namespace Sys2Proof.Machine

/-! ### Bits (R369) -/

/-- The low `n` bits of a value, least significant first. -/
def bitsLsb (v : Nat) : Nat → List Bool
  | 0 => []
  | n + 1 => (v % 2 == 1) :: bitsLsb (v / 2) n

/-- The low `n` bits of a value, most significant first. -/
def bitsMsb (v n : Nat) : List Bool := (bitsLsb v n).reverse

/-- The value of bits, least significant first. -/
def bitsVal : List Bool → Nat
  | [] => 0
  | x :: l => b2n x + 2 * bitsVal l

/-- Bits as bytes, each filled from bit 0 upward, the last padded with zeros. -/
def bitBytes (l : List Bool) : Nat → List Nat
  | 0 => []
  | n + 1 => if l.isEmpty then [] else bitsVal (l.take 8) :: bitBytes (l.drop 8) n

/-- Bytes as bits. -/
def byteBits (l : List Nat) : List Bool := l.flatMap fun v => bitsLsb v 8

/-! ### Symbols (R372) -/

/-- A parsed symbol: a literal byte, or a match of a length at a distance. -/
inductive LpsSym where
  | lit (v : Nat)
  | copy (m d : Nat)
deriving DecidableEq, Repr

/-- A value in the coding of R372: its symbol, the number of extra bits, the extra bits. `small` values have symbols of their own;
`base` and `n0` begin the rest. -/
def codeValue (v small base n0 : Nat) : Nat × Nat × Nat :=
  if v < small then (v, 0, 0)
  else
    let n := Nat.log2 v
    (base + 2 * (n - n0) + v / 2 ^ (n - 1) % 2, n - 1, v % 2 ^ (n - 1))

/-- The literal/length symbol of a match length. -/
def lengthCode (m : Nat) : Nat × Nat × Nat :=
  let r := codeValue (m - 3) 8 8 3
  (257 + r.1, r.2.1, r.2.2)

/-- The distance symbol of a distance. -/
def distCode (d : Nat) : Nat × Nat × Nat := codeValue (d - 1) 4 4 2

/-- The smallest value of a symbol past the small ones, and its extra bits. -/
def symbolBase (k n0 : Nat) : Nat × Nat :=
  let n := n0 + k / 2
  (2 ^ n + k % 2 * 2 ^ (n - 1), n - 1)

/-- A match length's base and extra bits, by symbol 257 to 278. -/
def lengthBase (s : Nat) : Nat × Nat :=
  if s < 265 then (s - 257 + 3, 0) else ((symbolBase (s - 265) 3).1 + 3, (symbolBase (s - 265) 3).2)

/-- A distance's base and extra bits, by symbol 0 to 31. -/
def distBase (s : Nat) : Nat × Nat := if s < 4 then (s + 1, 0) else ((symbolBase (s - 4) 2).1 + 1, (symbolBase (s - 4) 2).2)

/-! ### Codes (R373, R374) -/

/-- The symbols of a length set with nonzero length, by length and then by symbol. -/
def orderSymbols (lens : List Nat) : List (Nat × Nat) :=
  ((List.range 15).map (· + 1)).flatMap fun l =>
    (List.range lens.length).filterMap fun s => if lens.getD s 0 = l then some (l, s) else none

/-- Canonical codes: (length, code, symbol) in order (R374). -/
def canonFrom (code len : Nat) : List (Nat × Nat) → List (Nat × Nat × Nat)
  | [] => []
  | (l, s) :: t =>
    let c := code * 2 ^ (l - len)
    (l, c, s) :: canonFrom (c + 1) l t

/-- The canonical codes of a length set. -/
def canon (lens : List Nat) : List (Nat × Nat × Nat) := canonFrom 0 0 (orderSymbols lens)

/-- A length set is valid: it exactly fills the code space, or has one nonzero length, which is 1 (R374). -/
def lensValid (lens : List Nat) : Bool :=
  let used := lens.filter (· != 0)
  (used.map fun l => 2 ^ (15 - l)).sum == 2 ^ 15 || used == [1]

/-- The transmitted form of code lengths (R373, R384): zeros in greedy runs of at most 16. -/
def putLens : List Nat → Nat → List Bool
  | [], z => if z = 0 then [] else bitsLsb 0 4 ++ bitsLsb (z - 1) 4
  | l :: t, z =>
    if l = 0 then
      if z + 1 = 16 then bitsLsb 0 4 ++ bitsLsb 15 4 ++ putLens t 0 else putLens t (z + 1)
    else (if z = 0 then [] else bitsLsb 0 4 ++ bitsLsb (z - 1) 4) ++ bitsLsb l 4 ++ putLens t 0

/-! ### The packer (R381 to R385) -/

/-- A node of the merging of R384: weight, key, symbols. -/
abbrev HuffNode := Nat × Nat × List Nat

/-- The node of smallest weight, the smaller key first. -/
def smallest (l : List HuffNode) : Option HuffNode :=
  l.foldl (fun best x =>
    match best with
    | none => some x
    | some y => if x.1 < y.1 || (x.1 == y.1 && x.2.1 < y.2.1) then some x else best) none

/-- Merging to one node; each merge lengthens the codes of its symbols by 1 (R384). -/
def mergeNodes (l : List HuffNode) (lens : List Nat) : Nat → List Nat
  | 0 => lens
  | fuel + 1 =>
    match smallest l with
    | none => lens
    | some a =>
      let l1 := l.erase a
      match smallest l1 with
      | none => lens
      | some c =>
        let both := a.2.2 ++ c.2.2
        mergeNodes ((a.1 + c.1, min a.2.1 c.2.1, both) :: l1.erase c) (both.foldl (fun r s => modNth r s (· + 1)) lens) fuel

/-- The code lengths of symbol counts, not yet limited (R384). -/
def huffLens (counts : List Nat) : List Nat :=
  let nodes : List HuffNode := (List.range counts.length).filterMap fun s =>
    if counts.getD s 0 = 0 then none else some (counts.getD s 0, s, [s])
  match nodes with
  | [x] => (List.range counts.length).map fun s => if s = x.2.1 then 1 else 0
  | _ => mergeNodes nodes (counts.map fun _ => 0) nodes.length

/-- The code lengths of symbol counts, at most 15: counts halve, rounding up, until they fit (R384). -/
def limitedLens (counts : List Nat) : Nat → List Nat
  | 0 => huffLens counts
  | fuel + 1 =>
    let l := huffLens counts
    if l.all fun x => decide (x ≤ 15) then l else limitedLens (counts.map fun f => (f + 1) / 2) fuel

/-- Counts of symbols. -/
def countSyms (n : Nat) (l : List Nat) : List Nat := l.foldl (fun r s => modNth r s (· + 1)) (List.replicate n 0)

/-- The number of lengths up to the last nonzero one. -/
def lastUsed (l : List Nat) : Nat :=
  (List.range l.length).foldl (fun m s => if l.getD s 0 = 0 then m else s + 1) 0

/-- The bits of a symbol under a code. -/
def symbolBits (codes : List (Nat × Nat × Nat)) (s : Nat) : List Bool :=
  match codes.find? fun c => c.2.2 == s with
  | some c => bitsMsb c.2.1 c.1
  | none => []

/-- The literal/length symbol of a parsed symbol. -/
def LpsSym.litSym : LpsSym → Nat
  | .lit v => v
  | .copy m _ => (lengthCode m).1

/-- The distance symbol of a parsed symbol. -/
def LpsSym.distSym : LpsSym → Option Nat
  | .lit _ => none
  | .copy _ d => some (distCode d).1

/-- One block (R371, R384). -/
def putBlock (syms : List LpsSym) (last : Bool) : List Bool :=
  let ll := limitedLens (countSyms 279 (syms.map LpsSym.litSym ++ [256])) 32
  let dl := limitedLens (countSyms 32 (syms.filterMap LpsSym.distSym)) 32
  let nl := lastUsed ll
  let nd := max 1 (lastUsed dl)
  let lc := canon ll
  let dc := canon dl
  [last] ++ bitsLsb 1 2 ++ bitsLsb (nl - 257) 5 ++ bitsLsb (nd - 1) 5 ++ putLens (ll.take nl) 0 ++ putLens (dl.take nd) 0
    ++ (syms.flatMap fun s =>
      match s with
      | .lit v => symbolBits lc v
      | .copy m d =>
        let l := lengthCode m
        let k := distCode d
        symbolBits lc l.1 ++ bitsLsb l.2.2 l.2.1 ++ symbolBits dc k.1 ++ bitsLsb k.2.2 k.2.1)
    ++ symbolBits lc 256

/-- The hash at a position, where it is defined. -/
def hashAt : List Nat → Option Nat
  | a :: b :: c :: _ => some ((a * 1024 ^^^ b * 32 ^^^ c) % 32768)
  | _ => none

/-- The common length of two sequences, up to a limit. -/
def commonLen : List Nat → List Nat → Nat → Nat
  | a :: l, c :: m, n + 1 => if a = c then commonLen l m n + 1 else 0
  | _, _, _ => 0

/-- The longest match of a chain, newest first; a tie keeps the nearer (R383). -/
def bestMatch (all here : List Nat) (p best dist : Nat) : List Nat → Nat × Nat
  | [] => (best, dist)
  | q :: l =>
    if 65536 < p - q then (best, dist)
    else
      let m := commonLen (all.drop q) here 1026
      if best < m then bestMatch all here p m (p - q) l else bestMatch all here p best dist l

/-- Positions from `p` put into their chains (R383). -/
def insertChains (all : List Nat) (chains : Table (List Nat)) (p : Nat) : Nat → Table (List Nat)
  | 0 => chains
  | n + 1 =>
    let c := match hashAt (all.drop p) with
      | some h => modifyKey chains h [] (p :: ·)
      | none => chains
    insertChains all c (p + 1) n

/-- The parse of R383: symbols with the position of their first byte. -/
def parseFrom (all : List Nat) (depth : Nat) (chains : Table (List Nat)) (p : Nat) : Nat → List (Nat × LpsSym)
  | 0 => []
  | fuel + 1 =>
    let here := all.drop p
    match here with
    | [] => []
    | v :: _ =>
      let chain := match hashAt here with
        | some h => (lookupD chains h []).take depth
        | none => []
      let r := bestMatch all here p 0 0 chain
      if 3 ≤ r.1 then (p, .copy r.1 r.2) :: parseFrom all depth (insertChains all chains p r.1) (p + r.1) fuel
      else (p, .lit v) :: parseFrom all depth (insertChains all chains p 1) (p + 1) fuel

/-- The 16-bit words of bytes. -/
def halfWords : List Nat → List Nat
  | a :: b :: l => (a % 256 + 256 * (b % 256)) :: halfWords l
  | _ => []

/-- The inverse of SAMPLE14 (R370). -/
def unSample14 (w : Nat) : Nat := ((w ^^^ 0x2000) + 2 ^ 16 - 0x2000) % 2 ^ 16

/-- The prediction of an order from the two previous words (R370). -/
def predict (order y1 y2 : Nat) : Nat := if order = 0 then 0 else if order = 1 then y1 else (2 * y1 + 2 ^ 16 - y2) % 2 ^ 16

/-- The residuals of words under an order, STRIDE 1 (R370). -/
def residuals (order y1 y2 : Nat) : List Nat → List Nat
  | [] => []
  | y :: l => ((y + 2 ^ 16 - predict order y1 y2) % 2 ^ 16) :: residuals order y y1 l

/-- The sum of the magnitudes of residuals, as signed 16-bit values (R383). -/
def residualSum (l : List Nat) : Nat := (l.map fun r => (signed 16 r).natAbs).sum

/-- The order of a payload: forced, or the one of the smallest sum, the lower on a tie (R383). -/
def packOrder (mode : Nat) (ys : List Nat) : Nat :=
  if mode = 0 then
    let s (o : Nat) : Nat := residualSum (residuals o 0 0 ys)
    if s 0 ≤ s 1 && s 0 ≤ s 2 then 0 else if s 1 ≤ s 2 then 1 else 2
  else mode - 1

/-- The chain depth of an effort (R382). -/
def chainDepth (e : Nat) : Nat := ([0, 4, 8, 16, 32, 64, 128, 256, 1024, 4096] : List Nat).getD e 4096

/-- The LPS stream of a WAVEFORM payload at an effort from 1 to 9 (R381 to R384). (DEDUCED, log entry 30.) -/
def lpsPack (plain : List Nat) (effort orderMode : Nat) : List Nat :=
  let ys := (halfWords plain).map unSample14
  let order := packOrder orderMode ys
  let res := (residuals order 0 0 ys).flatMap (leBytes 2)
  let syms := parseFrom res (chainDepth effort) [] 0 res.length
  let nblk := max 1 (ceilDiv res.length 65536)
  let bits := (List.range nblk).flatMap fun j =>
    putBlock ((syms.filter fun x => x.1 / 65536 == j).map (·.2)) (j + 1 == nblk)
  let body := bitBytes bits bits.length
  [0x4C, 0x50, 1, order + 4 + 8 + 16 * effort, 1, 0, 0, 0] ++ leBytes 4 plain.length ++ body
    ++ leBytes 4 (crc32c plain) ++ leBytes 4 (12 + body.length + 8)

/-! ### The decompressor (R370, R375 to R377) -/

/-- How a decompression ends (R376, R377). -/
inductive LpsEnd where
  | ok | limit | short | format | crc | poison | badArg
deriving DecidableEq, Repr

/-- The code of a result (R394). -/
def LpsEnd.code : LpsEnd → Nat
  | .ok => 0 | .limit => 1 | .short => 2 | .format => 3 | .crc => 4 | .poison => 5 | .badArg => 6

/-- The decoder at work: the bits not read, the residual bytes produced, newest first, their number. -/
structure LpsDec where
  bits : List Bool
  out : List Nat
  n : Nat
deriving DecidableEq, Repr

/-- What a part of the decoding answers: the state, and how it ended unless it goes on. -/
abbrev LpsStep := LpsDec × Option LpsEnd

/-- `n` bits read, least significant first; none where the input is exhausted, with everything read. -/
def LpsDec.read (d : LpsDec) (n : Nat) : LpsDec × Option Nat :=
  if d.bits.length < n then ({ d with bits := [] }, none)
  else ({ d with bits := d.bits.drop n }, some (bitsVal (d.bits.take n)))

/-- A byte produced; none beyond the limit (R377). -/
def LpsDec.emit (d : LpsDec) (l v : Nat) : Option LpsDec :=
  if d.n < l then some { d with out := v :: d.out, n := d.n + 1 } else none

/-- The next symbol of a code, read bit by bit, most significant first. -/
def LpsDec.symbol (d : LpsDec) (codes : List (Nat × Nat × Nat)) (len code : Nat) : Nat → LpsDec × Option Nat
  | 0 => (d, none)
  | fuel + 1 =>
    match d.bits with
    | [] => (d, none)
    | x :: l =>
      let d1 := { d with bits := l }
      let c := 2 * code + b2n x
      match codes.find? fun k => k.1 == len + 1 && k.2.1 == c with
      | some k => (d1, some k.2.2)
      | none => d1.symbol codes (len + 1) c fuel

/-- Code lengths read, `n` of them; none where a run reaches too far or the input ends (R373). -/
def LpsDec.lens (d : LpsDec) (n : Nat) (acc : List Nat) : Nat → LpsDec × Option (List Nat)
  | 0 => if acc.length = n then (d, some acc) else (d, none)
  | fuel + 1 =>
    if acc.length = n then (d, some acc)
    else
      match d.read 4 with
      | (d1, none) => (d1, none)
      | (d1, some 0) =>
        match d1.read 4 with
        | (d2, none) => (d2, none)
        | (d2, some z) => if n < acc.length + z + 1 then (d2, none) else d2.lens n (acc ++ List.replicate (z + 1) 0) fuel
      | (d1, some l) => d1.lens n (acc ++ [l]) fuel

/-- A match copied byte by byte (R375). -/
def LpsDec.copy (d : LpsDec) (dist : Nat) : Nat → LpsDec
  | 0 => d
  | m + 1 => LpsDec.copy { d with out := d.out.getD (dist - 1) 0 :: d.out, n := d.n + 1 } dist m

/-- A STORED block's bytes. -/
def LpsDec.stored (d : LpsDec) (limit : Nat) : Nat → LpsStep
  | 0 => (d, none)
  | n + 1 =>
    match d.read 8 with
    | (d1, none) => (d1, some .format)
    | (d1, some v) =>
      match d1.emit limit v with
      | none => (d1, some .limit)
      | some d2 => d2.stored limit n

/-- The symbols of a HUFF block up to its end (R372, R375). -/
def LpsDec.symbols (d : LpsDec) (lc dc : List (Nat × Nat × Nat)) (limit : Nat) : Nat → LpsStep
  | 0 => (d, some .format)
  | fuel + 1 =>
    match d.symbol lc 0 0 15 with
    | (d1, none) => (d1, some .format)
    | (d1, some s) =>
      if s = 256 then (d1, none)
      else if s < 256 then
        match d1.emit limit s with
        | none => (d1, some .limit)
        | some d2 => d2.symbols lc dc limit fuel
      else if 278 < s then (d1, some .format)
      else
        match d1.read (lengthBase s).2 with
        | (d2, none) => (d2, some .format)
        | (d2, some x) =>
          match d2.symbol dc 0 0 15 with
          | (d3, none) => (d3, some .format)
          | (d3, some k) =>
            match d3.read (distBase k).2 with
            | (d4, none) => (d4, some .format)
            | (d4, some y) =>
              let m := (lengthBase s).1 + x
              let dist := (distBase k).1 + y
              if d4.n < dist then (d4, some .format)
              else if limit < d4.n + m then (d4, some .limit)
              else (d4.copy dist m).symbols lc dc limit fuel

/-- Bits up to the next byte boundary of a stream of `total` bits. -/
def LpsDec.toBoundary (d : LpsDec) : Nat := d.bits.length % 8

/-- A HUFF block (R371). -/
def LpsDec.huff (d : LpsDec) (limit : Nat) : LpsStep :=
  match d.read 5 with
  | (d1, none) => (d1, some .format)
  | (d1, some hlit) =>
    match d1.read 5 with
    | (d2, none) => (d2, some .format)
    | (d2, some hdist) =>
      match d2.lens (257 + hlit) [] (257 + hlit) with
      | (d3, none) => (d3, some .format)
      | (d3, some ll) =>
        match d3.lens (1 + hdist) [] (1 + hdist) with
        | (d4, none) => (d4, some .format)
        | (d4, some dl) =>
          if !lensValid ll || ll.getD 256 0 == 0 || !(lensValid dl || dl.all (· == 0)) then (d4, some .format)
          else d4.symbols (canon ll) (canon dl) limit (d4.bits.length + 1)

/-- A block: whether it was the last, and how it ended (R371). -/
def LpsDec.block (d : LpsDec) (limit : Nat) : Bool × LpsStep :=
  match d.read 3 with
  | (d1, none) => (false, d1, some .format)
  | (d1, some v) =>
    let last := v % 2 == 1
    if v / 2 = 0 then
      match (d1.read d1.toBoundary).1.read 16 with
      | (d2, none) => (last, d2, some .format)
      | (d2, some n) => (last, d2.stored limit n)
    else if v / 2 = 1 then (last, d1.huff limit)
    else (last, d1, some .format)

/-- The blocks up to the last one. -/
def LpsDec.blocks (d : LpsDec) (limit : Nat) : Nat → LpsStep
  | 0 => (d, some .format)
  | fuel + 1 =>
    match d.block limit with
    | (_, d1, some e) => (d1, some e)
    | (true, d1, none) => (d1, none)
    | (false, d1, none) => d1.blocks limit fuel

/-- SAMPLE14 (R370). -/
def sample14 (y : Nat) : Nat := ((y + 0x2000) % 2 ^ 16) ^^^ 0x2000

/-- The words of a residual sequence (R370): `ys` holds the words before it, newest first. -/
def rebuildWords (order stride : Nat) (ys : List Nat) : List Nat → List Nat
  | [] => []
  | r :: l =>
    let y := (r + predict order (ys.getD (stride - 1) 0) (ys.getD (2 * stride - 1) 0)) % 2 ^ 16
    y :: rebuildWords order stride (y :: ys) l

/-- The output of residual bytes (R370); an odd last byte is the low byte of its word. (DEDUCED, log entry 30.) -/
def lpsOutput (mode stride : Nat) (res : List Nat) : List Nat :=
  if bitAt mode 2 then
    let odd := res.length % 2
    let ys := rebuildWords (mode % 4) stride [] (halfWords (res ++ List.replicate odd 0))
    ((ys.map fun y => if bitAt mode 3 then sample14 y else y).flatMap (leBytes 2)).take res.length
  else res

/-- How a decompression ends, the input bytes it read, the output bytes it wrote. -/
structure LpsResult where
  end_ : LpsEnd
  read : Nat
  out : List Nat
deriving DecidableEq, Repr

/-- The header is wrong (R376). -/
def lpsBadHeader (l : List Nat) : Bool :=
  let mode := l.getD 3 0
  let stride := leVal ((l.drop 4).take 2)
  let word := bitAt mode 2
  l.getD 0 0 != 0x4C || l.getD 1 0 != 0x50 || l.getD 2 0 != 1 || mode % 4 == 3 || stride == 0
    || (!word && (mode % 4 != 0 || stride != 1 || bitAt mode 3)) || (word && leVal ((l.drop 8).take 4) % 2 == 1)

/-- What follows the last block (R376, R377): SHORT, padding, trailer, STREAM_LEN, the CRC of the output. (DEDUCED, log entry 30.) -/
def lpsFinish (d : LpsDec) (ulen len : Nat) (out : List Nat) : LpsDec × LpsEnd :=
  if d.n < ulen then (d, .short)
  else
    match d.read d.toBoundary with
    | (d1, none) => (d1, .format)
    | (d1, some pad) =>
      if pad ≠ 0 then (d1, .format)
      else
        match d1.read 32 with
        | (d2, none) => (d2, .format)
        | (d2, some crc) =>
          match d2.read 32 with
          | (d3, none) => (d3, .format)
          | (d3, some n) => (d3, if n ≠ len then .format else if crc ≠ crc32c out then .crc else .ok)

/-- A decompression of a stream of LEN stored bytes under a declared ULEN and a CAP (R376, R377), poison aside. (DEDUCED, log entry 30.) -/
def lpsUnpack (l : List Nat) (ulen cap : Nat) : LpsResult :=
  let limit := min (min ulen (64 * l.length)) cap
  if l.length < 12 then ⟨.format, l.length, []⟩
  else if lpsBadHeader l then ⟨.format, 12, []⟩
  else if leVal ((l.drop 8).take 4) ≠ ulen || decide (limit < ulen) then ⟨.limit, 12, []⟩
  else
    let r := (LpsDec.mk (byteBits (l.drop 12)) [] 0).blocks limit (8 * l.length)
    let out := lpsOutput (l.getD 3 0) (leVal ((l.drop 4).take 2)) r.1.out.reverse
    let f : LpsDec × LpsEnd := match r.2 with
      | some e => (r.1, e)
      | none => lpsFinish r.1 ulen l.length out
    ⟨f.2, l.length - f.1.bits.length / 8, out⟩

/-- The same with poisoned input bytes: one that was read makes the result POISON (R376). -/
def lpsUnpackPoison (l : List Nat) (ulen cap : Nat) (bad : Nat → Bool) : LpsResult :=
  let r := lpsUnpack l ulen cap
  if (List.range r.read).any bad then { r with end_ := .poison } else r

end Sys2Proof.Machine
end

