-- ==== Sys2Proof/Machine/Build.lean ====
section
/-! DEFINITION. Building a fragment: extraction from the raw ring, zero suppression, measurements, reductions, hits, packing jobs
(R285 to R287, R317, R319, R327 to R335, R357 to R360, R385 to R388). -/

namespace Sys2Proof.Machine

open Sys2Proof

/-! ### Records (R354) -/

/-- The header word of a record without PERTURBED, which its epoch gives (R354). -/
def recordHeader (type : Nat) (poison : Bool) (dom : Nat) (truncated : Bool) (len : Nat) : Nat :=
  type * 2 ^ 26 + b2n poison * 2 ^ 25 + dom % 2 * 2 ^ 23 + b2n truncated * 2 ^ 22 + len % 2 ^ 22

/-- A record from its body. -/
def recordOf (type : Nat) (poison : Bool) (dom : Nat) (truncated : Bool) (body : List Nat) : List Nat :=
  recordHeader type poison dom truncated (body.length + 1) :: body

/-- DOMAIN of a second timestamp word. -/
def domOf (w1 : Nat) : Nat := bitsOf w1 21 21

/-- Bytes as words, padded with zero bytes. -/
def paddedWords (l : List Nat) : List Nat := leWords (l ++ List.replicate ((4 - l.length % 4) % 4) 0)

/-- 16-bit values two to a word, the first in the low half, padded with zero. -/
def halfPairs : List Nat → List Nat
  | a :: c :: l => (a % 65536 + 65536 * (c % 65536)) :: halfPairs l
  | [a] => [a % 65536]
  | [] => []

/-! ### The window in the ring (R317, R327) -/

/-- The tick after the window's last sample. -/
def Frag.stop (f : Frag) : Nat := f.start + 25 * f.desc.winLen

/-- The stamping time of a tick near a fragment's trigger. -/
def Block.fragTime (b : Block) (f : Frag) (ptick : Nat) : Nat := b.stampAt ptick f.tick f.trig

/-- The epochs of a span. -/
def spanKeys (lo hi : Nat) : List Nat := (List.range (epochOf hi - epochOf lo + 1)).map fun i => epochOf lo + i

/-- A visible time within its wrap. -/
def withinWrap (t : Nat) : Nat := visible t % 2 ^ 42

/-- Blocks with the epoch that they were found in. -/
abbrev SpanRead := List (Nat × ReadBlock) × Bool

/-- The blocks of a stream in a span of stamping time; `lost`: a block was missed before the first one read. (DEDUCED, log entry 46.) -/
def Block.readSpan (b : Block) (s lo hi : Nat) : Block × SpanRead :=
  (spanKeys lo hi).foldl (fun (r : Block × SpanRead) k =>
    let from_ := if k = epochOf lo then withinWrap lo else 0
    let to_ := if k = epochOf hi then withinWrap hi else 2 ^ 42
    let q := r.1.readEpoch s k from_ to_
    (q.1, r.2.1 ++ q.2.blocks.map fun x => (k, x), r.2.2 || (r.2.1.isEmpty && q.2.lost))) (b, [], false)

/-- The full time of a block's first item. -/
def firstTime (k : Nat) (e : Entry) : Nat := k / 4096 * 2 ^ 64 + e.ns * 2 ^ 32 + e.w2 / 2 ^ 22 * 2 ^ 22

/-- An instant of a group in the ring: its tick, its sixteen words, the address of its item, its domain and quality. -/
structure WaveItem where
  tick : Nat
  words : List Nat
  addr : Nat
  dom : Nat
  quality : Nat
deriving DecidableEq, Repr

/-- The instants of a block: 25 ticks apart from the first (R307). -/
def Block.waveItems (b : Block) (k : Nat) (x : ReadBlock) : List WaveItem :=
  match b.tickOfTime (firstTime k x.entry) with
  | some t =>
    (List.range x.items.length).map fun i =>
      ⟨t + 25 * i, halfWords (x.items.getD i []), blockAddr x.n + i * 32, bitsOf x.entry.w2 21 21, bitsOf x.entry.w2 20 18⟩
  | none => []

/-- The instants of a group over a span. -/
def Block.readWave (b : Block) (g lo hi : Nat) : Block × List WaveItem × Bool :=
  let r := b.readSpan g lo hi
  (r.1, r.2.1.flatMap fun x => r.1.waveItems x.1 x.2, r.2.2)

/-- A hit word in the ring: its two words, its address. -/
structure HitItem where
  ns : Nat
  w1 : Nat
  addr : Nat
deriving DecidableEq, Repr

/-- SOURCE of a hit word. -/
def HitItem.source (h : HitItem) : Nat := h.w1 % 2048

/-- The hit words of a stream over a span. -/
def Block.readHits (b : Block) (s lo hi : Nat) : Block × List HitItem × Bool :=
  let r := b.readSpan s lo hi
  (r.1, r.2.1.flatMap fun x => (List.range x.2.items.length).map fun i =>
    let w := leWords (x.2.items.getD i [])
    ⟨w.getD 0 0, w.getD 1 0, blockAddr x.2.n + i * 8⟩, r.2.2)

/-- Times of hits within a wrap, compared the shorter way round: `a` is not later than `c`. -/
def hitLe (a c : HitItem) : Bool :=
  let t (h : HitItem) : Nat := h.ns * 1024 + h.w1 / 2 ^ 22
  if t a = t c then decide (a.source ≤ c.source) else decide ((t c + 2 ^ 42 - t a) % 2 ^ 42 < 2 ^ 41)

/-- Two series of hit words merged, each kept in its order. (DEDUCED, log entry 47.) -/
def mergeHits : List HitItem → List HitItem → Nat → List HitItem
  | [], m, _ => m
  | l, [], _ => l
  | l, _, 0 => l
  | a :: l, c :: m, n + 1 => if hitLe a c then a :: mergeHits l (c :: m) n else c :: mergeHits (a :: l) m n

/-! ### Zero suppression (R328, R329) -/

/-- A sample in a channel's window: its instant after the window's start, its word, poisoned or not. -/
structure Sample where
  i : Nat
  w : Nat
  poison : Bool
deriving DecidableEq, Repr

/-- A sample exceeds (R328). -/
def exceeds (c : EpochCfg) (k w : Nat) : Bool :=
  bitAt w 15 || decide (c.get (F.EVB_ZS_THR k) ≤ (signed 14 w - signed 14 (c.get (F.EVB_ZSB k))).natAbs)

/-- The mode applied: 3 acts as NONE (R328). -/
def zsMode (c : EpochCfg) (k : Nat) : Nat := if c.get (F.EVB_ZS_MODE k) = 3 then 0 else c.get (F.EVB_ZS_MODE k)

/-- The samples kept (R328). -/
def keptSamples (c : EpochCfg) (k : Nat) (l : List Sample) : List Sample :=
  let hot := (l.filter fun x => exceeds c k x.w).map (·.i)
  if zsMode c k = 0 then l
  else if hot.isEmpty then []
  else if zsMode c k = 1 then l
  else l.filter fun x => hot.any fun h => decide (h ≤ x.i + c.get (F.EVB_ZS_PRE k)) && decide (x.i ≤ h + c.get (F.EVB_ZS_POST k))

/-- Maximal series of consecutive instants, as (start, count). -/
def seriesOf (acc : Option (Nat × Nat)) : List Nat → List (Nat × Nat)
  | [] => acc.toList
  | i :: l =>
    match acc with
    | some (s, n) => if i = s + n then seriesOf (some (s, n + 1)) l else (s, n) :: seriesOf (some (i, 1)) l
    | none => seriesOf (some (i, 1)) l

/-- Runs with fewer than 4 present instants between them joined (R329). -/
def joinRuns (present : List Nat) : List (Nat × Nat) → List (Nat × Nat)
  | [] => []
  | (s, n) :: l =>
    match joinRuns present l with
    | [] => [(s, n)]
    | (s2, n2) :: m =>
      if s2 - (s + n) < 4 && (List.range (s2 - (s + n))).all (fun d => present.contains (s + n + d)) then (s, s2 + n2 - s) :: m
      else (s, n) :: (s2, n2) :: m

/-- The payload of a channel from its present samples; none without a run (R329, R331). -/
def payloadOf (c : EpochCfg) (k chan : Nat) (gaps : Bool) (l : List Sample) : Option Payload :=
  let runs := joinRuns (l.map (·.i)) (seriesOf none ((keptSamples c k l).map (·.i)))
  if runs.isEmpty then none
  else
    let kept := l.filter fun x => runs.any fun r => decide (r.1 ≤ x.i) && decide (x.i < r.1 + r.2)
    some ⟨chan, gaps, runs, kept.flatMap fun x => leBytes 2 x.w, kept.any (·.poison), .waiting false⟩

/-! ### Measurements (R285, R286) -/

/-- A crossing upward of a level `num / den` by a series of values: its position in 1/256 sample and the sample at or beyond the level.
Only consecutive instants cross. -/
def upCrossings (num den : Nat) (v : Sample → Int) : List Sample → List (Nat × Nat)
  | p :: s :: l =>
    let rest := upCrossings num den v (s :: l)
    let a := v p * den
    let c := v s * den
    if s.i = p.i + 1 && decide (a < num) && decide ((num : Int) ≤ c) then
      (p.i * 256 + clampN 0 256 ((512 * ((num : Int) - a) + (c - a)) / (2 * (c - a))).toNat, s.i) :: rest
    else rest
  | _ => []

/-- VALUE of a sample. -/
def Sample.value (x : Sample) : Int := signed 14 x.w

/-- |VALUE| of a sample. -/
def Sample.mag (x : Sample) : Int := (signed 14 x.w).natAbs

/-- An arrival: its position in 1/256 sample, its sample, its time in 1/1024 ns with domain and quality, whether a LEVEL firing gave it,
refined. -/
structure Arrived where
  pos : Nat
  idx : Nat
  time : Nat
  dom : Nat
  quality : Nat
  level : Bool
  refined : Bool
deriving DecidableEq, Repr

/-- The arrival of a channel whose |VALUE| reaches the threshold (R285): `at_` gives the stamping time of an instant of the window. -/
def arrivalOf (m dom quality : Nat) (at_ : Nat → Nat) (fire : Option Arrival) (l : List Sample) : Arrived :=
  match fire with
  | some a =>
    let pos := ((visibleDiff a.time (visible (at_ 0))) * 2 + 400) / 800
    ⟨pos.toNat, ceilDiv pos.toNat 256, a.time, a.dom, a.quality, true, a.refined⟩
  | none =>
    match (upCrossings m 1 Sample.mag l).head?, l.find? fun x => decide ((m : Int) ≤ x.mag) with
    | some c, some x =>
      if x.i < c.2 then ⟨x.i * 256, x.i, visible (at_ x.i), dom, quality, false, false⟩
      else ⟨c.1, c.2, (visible (at_ (c.2 - 1)) + (c.1 - (c.2 - 1) * 256) * 400) % 2 ^ 58, dom, quality, false, false⟩
    | none, some x => ⟨x.i * 256, x.i, visible (at_ x.i), dom, quality, false, false⟩
    | _, none => ⟨0, 0, visible (at_ 0), dom, quality, false, false⟩

/-- The largest and smallest VALUE, the first VALUE of largest magnitude. -/
def peakOf (l : List Sample) : Int :=
  l.foldl (fun best x => if best.natAbs < x.value.natAbs then x.value else best) 0

/-- The entry of a channel (R286), eight words; none where |VALUE| never reaches M_THR. (DEDUCED, log entry 14, DEDUCED, log entry 47.) -/
def measureEntry (chan m dom quality : Nat) (at_ : Nat → Nat) (fire : Option Arrival) (l : List Sample) : Option (List Nat) :=
  if !l.any fun x => decide ((m : Int) ≤ x.mag) then none
  else
    let a := arrivalOf m dom quality at_ fire l
    let cr := (upCrossings m 1 Sample.value l).filter fun c => decide (a.pos ≤ c.1)
    let n := cr.length
    let first := (cr.head?.map (·.1)).getD 0
    let last := (cr.getLast?.map (·.1)).getD 0
    let period := if n < 2 then 0 else (last - first) / (n - 1)
    let vals := l.map Sample.value
    let pp := (vals.foldl max (vals.headD 0) - vals.foldl min (vals.headD 0)).toNat
    let peak := peakOf l
    let rise :=
      if (l.find? fun x => decide (x.i = a.idx)).any fun x => decide (9 * peak.natAbs ≤ 10 * x.mag.toNat) && decide (x.i * 256 ≤ a.pos) then 0
      else ((((upCrossings (9 * peak.natAbs) 10 Sample.mag l).filter fun c => decide (a.pos ≤ c.1)).head?.map (·.1)).getD a.pos) - a.pos
    let energy := ((l.filter fun x => decide (a.idx ≤ x.i)).map fun x => x.value.natAbs * x.value.natAbs).sum
    let flags := b2n a.level * 2 ^ 10 + b2n a.refined * 2 ^ 11 + b2n (l.any fun x => bitAt x.w 15) * 2 ^ 12
      + b2n (l.any fun x => bitAt x.w 14) * 2 ^ 13 + b2n (decide (n < 2)) * 2 ^ 14
    some [chan + flags + satU 16 n * 2 ^ 16, a.time / 1024 % 2 ^ 32, eventW2 a.time a.dom a.quality chan, period % 2 ^ 32,
      pp % 65536 + unsigned 16 peak * 2 ^ 16, rise % 2 ^ 32, energy % 2 ^ 32, energy / 2 ^ 32 % 2 ^ 32]

/-! ### Reductions (R287, R360) -/

/-- The integer square root, rounded down, below 2^n. -/
def isqrt (v : Nat) : Nat → Nat
  | 0 => 0
  | n + 1 => (List.range (n + 1)).foldr (fun i r => if (r + 2 ^ i) * (r + 2 ^ i) ≤ v then r + 2 ^ i else r) 0

/-- The mean of values, ties away from zero. -/
def meanOf (l : List Int) : Int := divNearestAway l.sum l.length

/-- The root of the mean square, rounded to nearest. -/
def rmsOf (l : List Int) : Nat :=
  if l.isEmpty then 0 else (isqrt (4 * (l.map fun v => v.natAbs * v.natAbs).sum / l.length) 16 + 1) / 2

/-- The selected values of a channel's blocks in order, the envelope carried along (R287); a block with no present instant gives
0x8000 for each. (DEDUCED, log entry 47.) -/
def reduceBlocks (sel shift envSh : Nat) (l : List Sample) (env : Nat) : List Nat → List Nat
  | [] => []
  | k :: ks =>
    let x := (l.filter fun s => s.i / 2 ^ shift == k).map Sample.value
    let e := max (x.foldl (fun m v => max m v.natAbs) 0) (env - env / 2 ^ envSh)
    let vals : List (Nat × Nat) := [(0, unsigned 16 (x.foldl min (x.headD 0))), (1, unsigned 16 (x.foldl max (x.headD 0))),
      (2, unsigned 16 (meanOf x)), (3, rmsOf x % 65536), (4, e % 65536)]
    (vals.filterMap fun (v : Nat × Nat) => if bitAt sel v.1 then some (if x.isEmpty then 0x8000 else v.2) else none)
      ++ reduceBlocks sel shift envSh l e ks

/-! ### Extraction (R319, R327, R331, R332) -/

/-- What the builder reads of the ring for a window. -/
structure WindowData where
  waves : Table (List WaveItem)
  hits : List HitItem
  /-- The tick at which the window starts for every stream (R317) -/
  start : Nat
deriving DecidableEq, Repr

/-- The readout groups. -/
def Desc.groupList (d : Desc) : List Nat := (List.range 60).filter fun g => bitAt d.readout g

/-- The first sample tick of the window at or after a tick. -/
def Frag.gridUp (f : Frag) (t : Nat) : Nat := f.start + 25 * ceilDiv (t - f.start) 25

/-- The margin within which a hit's tick may lie from its time, 2^-32 ns: 8 ns before, 1 µs after. -/
abbrev hitBefore : Nat := 34359738368
abbrev hitAfter : Nat := 4294967296000

/-- The ring read for a fragment (R317, R327). -/
def Block.readWindow (b : Block) (f : Frag) : Block × WindowData :=
  let lo := b.fragTime f f.start
  let hi := b.fragTime f (f.stop - 1)
  let r1 := f.desc.groupList.foldl (fun (r : Block × Table (List WaveItem) × Nat) g =>
    let q := r.1.readWave g lo hi
    let inside := q.2.1.filter fun x => decide (f.start ≤ x.tick) && decide (x.tick < f.stop)
    let begin_ := if q.2.2 then max r.2.2 ((inside.head?.map (·.tick)).getD f.stop) else r.2.2
    (q.1, r.2.1 ++ [(g, inside)], begin_)) (b, [], f.start)
  let tiles := (f.desc.groupList.map (· / 15)).eraseDups.map (64 + ·)
  let streams := tiles ++ (if (b.cfgOf f.key).flag (F.EVB_ZS_HITS_PINS f.cls) then [68] else [])
  let r2 := streams.foldl (fun (r : Block × List HitItem × Nat) s =>
    let q := r.1.readHits s (lo - hitBefore) (hi + hitAfter)
    let inside := q.2.1.filter fun h =>
      decide ((h.ns * 1024 + h.w1 / 2 ^ 22 + 2 ^ 42 - f.desc.winStart * 1024) % 2 ^ 42 < f.desc.winLen * 102400)
        && (decide (960 ≤ h.source) || bitAt f.desc.readout (h.source / 16))
    let begin_ := if q.2.2 then
        max r.2.2 (match inside.head? with
          | some h => f.gridUp (b.ptickAt (tsWrap lo * 2 ^ 64 + h.ns * 2 ^ 32))
          | none => f.stop)
      else r.2.2
    (q.1, mergeHits r.2.1 inside (r.2.1.length + inside.length), begin_)) (r1.1, [], r1.2.2)
  (r2.1, ⟨r1.2.1, r2.2.1, r2.2.2⟩)

/-- A channel's samples in a window that starts at a tick. -/
def Block.channelSamples (b : Block) (start c : Nat) (l : List WaveItem) : List Sample :=
  (l.filter fun x => decide (start ≤ x.tick)).map fun x =>
    ⟨(x.tick - start) / 25, x.words.getD (c % 16) 0, b.poisoned (x.addr + c % 16 * 2) 2⟩

/-- The MEASURE record (R285, R359). -/
def Block.measureRecord (b : Block) (f : Frag) (c : EpochCfg) (trunc : Bool) (epochDom : Nat) (chans : List (Nat × List WaveItem × List Sample)) :
    List (List Nat) :=
  if !c.flag (F.TRG_G_MEAS_MEAS_EN f.desc.group) then []
  else
    let at_ (i : Nat) : Nat := b.fragTime f (f.start + 25 * i)
    let lo := at_ 0
    let hi := b.fragTime f f.stop
    let e := chans.filterMap fun (x : Nat × List WaveItem × List Sample) =>
      let fire := b.lynx.arrivals.find? fun a =>
        a.chan == x.1 && decide (0 ≤ timeDiff a.at_ lo) && decide (0 < timeDiff hi a.at_)
      let it := x.2.1.head?
      (measureEntry x.1 (c.get (F.TRG_G_MEAS_M_THR f.desc.group)) ((it.map (·.dom)).getD 0) ((it.map (·.quality)).getD 0) at_ fire x.2.2).map
        fun w => (w, x.2.2.any (·.poison))
    if e.isEmpty then []
    else
      let dom := match e.head? with
        | some x => domOf (x.1.getD 2 0)
        | none => epochDom
      [recordOf 4 (e.any fun (x : List Nat × Bool) => x.2) dom trunc (e.length :: e.flatMap fun (x : List Nat × Bool) => x.1)]

/-- The REDUCE record (R287, R360). -/
def reduceRecord (f : Frag) (c : EpochCfg) (trunc : Bool) (epochDom : Nat) (chans : List (Nat × List WaveItem × List Sample)) : List (List Nat) :=
  let g := f.desc.group
  let sel := c.get (F.TRG_G_MEAS_REDUCE_SEL g)
  if sel = 0 then []
  else
    let shift := c.get (F.TRG_G_MEAS_RED_SHIFT g)
    let sh := c.get (F.TRG_G_MEAS_ENV_SH g)
    let n := ceilDiv f.desc.winLen (2 ^ shift)
    let body := chans.flatMap fun (x : Nat × List WaveItem × List Sample) => x.1 :: halfPairs (reduceBlocks sel shift sh x.2.2 0 (List.range n))
    [recordOf 5 (chans.any fun (x : Nat × List WaveItem × List Sample) => x.2.2.any (·.poison)) epochDom trunc
      ((sel + shift * 2 ^ 5 + sh * 2 ^ 9 + chans.length * 2 ^ 16) :: n :: body)]

/-- The HITS record (R332, R358). -/
def Block.hitsRecord (b : Block) (f : Frag) (c : EpochCfg) (trunc : Bool) (l : List HitItem) : List (List Nat) :=
  let kept := l.take (c.get F.EVB_HITS_MAX)
  match kept with
  | [] => []
  | h :: _ =>
    [recordOf 3 (kept.any fun x => b.poisoned x.addr 8) (domOf h.w1) trunc
      ((kept.length % 2 ^ 24 + b2n (c.flag (F.EVB_ZS_HITS_PINS f.cls)) * 2 ^ 24 + b2n (decide (kept.length < l.length)) * 2 ^ 25)
        :: kept.flatMap fun x => [x.ns, x.w1])]

/-- How a payload is stored before any job: at effort 0, or past the pool, plain (R330, R387). -/
def Block.queuePayload (b : Block) (c : EpochCfg) (p : Payload) : Block × Payload :=
  if c.effort = 0 then (b, { p with job := .stored false p.plain })
  else if clampN 256 8192 (c.get F.LPS_POOL_BUFFERS) < ceilDiv p.plain.length 65536 - 1 then
    (b.bump F.LPS_OVERSIZE_CNT, { p with job := .stored false p.plain })
  else (b, p)

/-- The stamping domain of an epoch. (DEDUCED, log entry 47.) -/
def Block.epochDom (b : Block) (k : Nat) : Nat := ((b.epochSt k).map (·.dom)).getD b.stampDom

/-- The extraction of a fragment (R317, R327): the window may start later, and then the fragment is TRUNCATED. (DEDUCED, log entry 46.) -/
def Block.extract (b : Block) (f : Frag) : Block :=
  let c := b.cfgOf f.key
  let r := if f.desc.winLen = 0 then (b, WindowData.mk (f.desc.groupList.map fun g => (g, [])) [] f.start) else b.readWindow f
  let start := min r.2.start f.stop
  let cut := decide (f.start < start)
  let f1 : Frag :=
    if cut then
      { f with start := start, desc := { f.desc with
          winStart := tsNs (b.fragTime f start), winLen := (f.stop - start) / 25, flags := setBit f.desc.flags 5 true } }
    else f
  let b1 := r.1
  let chans := r.2.waves.flatMap fun (x : Nat × List WaveItem) =>
    (groupChans x.1).map fun ch => (ch, x.2.filter fun w => decide (start ≤ w.tick), b1.channelSamples start ch x.2)
  let hits := r.2.hits.filter fun h =>
    decide ((h.ns * 1024 + h.w1 / 2 ^ 22 + 2 ^ 42 - f1.desc.winStart * 1024) % 2 ^ 42 < f1.desc.winLen * 102400)
  let trunc := bitAt f1.desc.flags 5
  let dom := b1.epochDom f.key
  let clip := decide (c.get F.EVB_HITS_MAX < hits.length)
  let b2 := if clip then b1.bump F.EVB_HITS_CLIP_CNT else b1
  let pays := chans.filterMap fun (x : Nat × List WaveItem × List Sample) =>
    payloadOf c f.cls x.1 (decide (x.2.2.length < f1.desc.winLen)) x.2.2
  let q := pays.foldl (fun (s : Block × List Payload) p =>
    let t := s.1.queuePayload c p
    (t.1, s.2 ++ [t.2])) (b2, [])
  let content : Content := {
    order := b2.evb.built
    front := b2.measureRecord f1 c trunc dom chans ++ reduceRecord f1 c trunc dom chans ++ b2.hitsRecord f1 c trunc hits
    payloads := q.2 }
  { q.1 with evb := { q.1.evb with built := q.1.evb.built + 1 } }.setFrag { f1 with hitsClip := clip, content := some content }

/-- A fragment whose content is still wanted. -/
def Frag.alive (f : Frag) : Bool := f.st == .speculative || f.st == .accepted || f.st == .orphaned

/-- Everything of a fragment's window is stored (R319): its last instant has passed, no word of it is still in a converter or on a
tile link. A streamed window whose end is not fixed waits. -/
def Block.windowStored (b : Block) (f : Frag) : Bool :=
  let hi := b.fragTime f f.stop
  !(f.tail.isSome && f.segs == 0) && decide (f.stop + 89 ≤ b.time.pllTicks)
    && !(b.links.any fun x =>
      match x with
      | .item _ raw _ _ _ => decide (timeDiff raw hi ≤ (hitAfter : Int))
      | _ => false)
    && !(b.tdc.hits.any fun h => decide (visibleDiff h.time (visible hi) < 0))

/-- Every fragment whose window is stored is extracted, in the order of opening (R327). (DEDUCED, log entry 46.) -/
def Block.extractReady (b : Block) : Block :=
  b.evb.frags.foldl (fun c f => if f.alive && f.content.isNone && c.windowStored f then c.extract f else c) b

/-! ### Packing jobs (R385 to R388) -/

/-- Pool buffers of a job (R386). -/
def Payload.buffers (p : Payload) : Nat := ceilDiv p.plain.length 65536 - 1

/-- The payloads at work or waiting. -/
def Block.payloads (b : Block) : List Payload := b.evb.frags.flatMap fun f => if f.alive then (f.content.map (·.payloads)).getD [] else []

/-- The engines that run a job. -/
def Block.busyEngines (b : Block) : List Nat :=
  b.payloads.filterMap fun p =>
    match p.job with
    | .running e => some e
    | _ => none

/-- Pool buffers held (R386). -/
def Block.poolHeld (b : Block) : Nat :=
  (b.payloads.map fun p =>
    match p.job with
    | .running _ => p.buffers
    | _ => 0).sum

/-- A payload of a fragment replaced. -/
def Frag.setPayload (f : Frag) (p : Payload) : Frag :=
  { f with content := f.content.map fun c => { c with payloads := c.payloads.map fun q => if q.chan = p.chan then p else q } }

/-- The payload that waits longest: the first one, in its channel order, of the fragment extracted first (R386). -/
def Block.nextJob (b : Block) : Option (Frag × Payload) :=
  let cand := b.evb.frags.filterMap fun f =>
    match f.content with
    | some c =>
      if f.alive then
        (c.payloads.find? fun p =>
          match p.job with
          | .waiting _ => true
          | _ => false).map fun p => (c.order, f, p)
      else none
    | none => none
  (cand.foldl (fun (best : Option (Nat × Frag × Payload)) x =>
    match best with
    | some y => if x.1 < y.1 then some x else best
    | none => some x) none).map fun x => (x.2.1, x.2.2)

/-- PACK_JOB_START: the next job starts on a free engine once its pool buffers are free; one that must wait for them counts once
(R386). -/
def packJobStart (b : Block) : Block :=
  let b1 := if b.ccOn then b.extractReady else b
  match b1.nextJob with
  | none => b1
  | some (f, p) =>
    let size := clampN 256 8192 ((b1.cfgOf f.key).get F.LPS_POOL_BUFFERS)
    if size < b1.poolHeld + p.buffers then
      match p.job with
      | .waiting false => (b1.bump F.LPS_POOL_WAIT_CNT).setFrag (f.setPayload { p with job := .waiting true })
      | _ => b1
    else
      match (List.range 16).find? fun e => !b1.busyEngines.contains e with
      | some e => b1.setFrag (f.setPayload { p with job := .running e })
      | none => b1

/-- PACK_JOB_START (R386). -/
def execPackJobStart (s : State) : Host.Outcome State Fault Refusal :=
  onHw (Instr.wf .packJobStart) s packJobStart

/-- The stored form of a payload (R330, R385): the stream where it is shorter than the plain bytes. -/
def packedForm (c : EpochCfg) (plain : List Nat) : Bool × List Nat :=
  let s := lpsPack plain c.effort (c.get F.LPS_ORDER)
  if s.length < plain.length then (true, s) else (false, plain)

/-- PACK_JOB_DONE: the job of an engine ends (R385); after a residue mismatch another engine repeats it (R388). -/
def packJobDone (e : Nat) (b : Block) : Block :=
  match (b.evb.frags.filter Frag.alive).findSome? fun f =>
    (f.content.bind fun c => c.payloads.find? fun p => p.job == .running e).map fun p => (f, p) with
  | none => b
  | some (f, p) =>
    let r := b.takeResidue 1
    if r.1 then
      let job : PackState := match (List.range 16).find? fun k => !r.2.busyEngines.contains k with
        | some k => .running k
        | none => .waiting true
      (r.2.bump F.LPS_RESIDUE_CNT).setFrag (f.setPayload { p with job := job })
    else
      let s := packedForm (b.cfgOf f.key) p.plain
      let b1 := ((r.2.bump64 F.LPS_JOB_CNT_LO F.LPS_JOB_CNT_HI 1).bump64 F.LPS_IN_BYTES_LO F.LPS_IN_BYTES_HI p.plain.length).bump64
        F.LPS_OUT_BYTES_LO F.LPS_OUT_BYTES_HI s.2.length
      let b2 := if s.1 then b1 else b1.bump F.LPS_PLAIN_CNT
      b2.setFrag (f.setPayload { p with job := .stored s.1 s.2 })

/-- PACK_JOB_DONE (R385). -/
def execPackJobDone (engine : Nat) (s : State) : Host.Outcome State Fault Refusal :=
  onHw (Instr.wf (.packJobDone engine)) s (packJobDone engine)

/-! ### Built (R335, R357) -/

/-- The WAVEFORM record of a stored payload (R357). -/
def waveformRecord (p : Payload) (packed : Bool) (bytes : List Nat) (mode dom : Nat) (trunc : Bool) : List Nat :=
  recordOf 2 p.poison dom trunc
    ([p.chan + b2n packed * 2 ^ 10 + b2n p.gaps * 2 ^ 11 + mode * 2 ^ 12 + p.runs.length % 65536 * 2 ^ 16, bytes.length, p.plain.length]
      ++ p.runs.flatMap (fun r => [r.1, r.2]) ++ paddedWords bytes)

/-- The records of a fragment but the first, once every payload is stored. -/
def Block.fragRecords (b : Block) (f : Frag) (c : Content) : Option (List (List Nat)) :=
  let mode := zsMode (b.cfgOf f.key) f.cls
  let w := c.payloads.map fun p =>
    match p.job with
    | .stored packed bytes => some (waveformRecord p packed bytes mode (b.epochDom f.key) (bitAt f.desc.flags 5))
    | _ => none
  if w.all Option.isSome then some (c.front ++ w.filterMap id) else none

/-- Words of records. -/
def wordsOf (l : List (List Nat)) : Nat := (l.map List.length).sum

/-- FRAGMENT_BUILT: a fragment's records are built and packed, and the chunks that they do not need are free (R335). -/
def fragmentBuilt (ident : Nat) (b : Block) : Block :=
  let b1 := if b.ccOn then b.extractReady else b
  match b1.frag ident with
  | none => b1
  | some f =>
    match f.content with
    | none => b1
    | some c =>
      if !f.alive || f.records.isSome then b1
      else
        match b1.fragRecords f c with
        | none => b1
        | some r =>
          let b2 := (b1.takeResidue 0).2
          b2.setFrag { f with records := some r, chunks := min f.chunks (chunksFor (4 * (20 + wordsOf r))), content := some { c with payloads := [] } }

/-- FRAGMENT_BUILT (R335). -/
def execFragmentBuilt (ident : Nat) (s : State) : Host.Outcome State Fault Refusal :=
  onHw (Instr.wf (.fragmentBuilt ident)) s (fragmentBuilt ident)

/-! ### What the registers show (R366, R394) -/

/-- The live words of LPS, by address. -/
def Block.lpsWord (b : Block) (addr : Nat) : Option Nat :=
  let now := b.cfgOf b.epochNow
  if addr = 0xa0000 then some (b.get F.LPS_EFFORT_FLOOR * 2 ^ 12 + b.get F.LPS_EFFORT_CAP * 2 ^ 8 + now.effort)
  else if addr = 0xa0008 then
    some ((clampN 256 8192 (now.get F.LPS_POOL_BUFFERS) - b.poolHeld) * 2 ^ 16 + b.get F.LPS_POOL_BUFFERS)
  else if addr = 0xa000c then some ((List.range 16).map fun e => b2n (b.busyEngines.contains e) * 2 ^ e).sum
  else none

end Sys2Proof.Machine
end

