-- ==== Sys2Proof/Machine/Merge.lean ====
section
/-! DEFINITION. Fabric builders and their contributors: announcements, transfer frames, merge slots, acknowledgements, resends (R51 to
R55, R345 to R352). -/

namespace Sys2Proof.Machine

open Sys2Proof

/-! ### Slots (R347, R348) -/

/-- The full name of the epoch that an identity's EPOCH stands for: the nearest one to now (R32, R35). -/
def Block.identKey (b : Block) (ident : Nat) : Nat :=
  let now := b.epochNow
  let back := (now + 4096 - ident / 2 ^ 16 % 4096) % 4096
  if back < 2048 then (now + 2 ^ 28 - back) % 2 ^ 28 else (now + (4096 - back)) % 2 ^ 28

/-- 2 s after the end of an epoch has passed (R35). -/
def Block.resolved2s (b : Block) (k : Nat) : Bool := b.past (((k + 1) * 2 ^ 52 + 2000000000 * 2 ^ 32 : Nat) : Int)

/-- Open merge slots (EVB_MERGE). -/
def Block.openSlots (b : Block) : List MergeSlot := b.evb.slots.filter fun s => !s.late

/-- A slot replaced. -/
def Block.setSlot (b : Block) (s : MergeSlot) : Block :=
  { b with evb := { b.evb with slots := b.evb.slots.map fun x => if x.eventNo = s.eventNo && !x.late && !s.late then s else x } }

/-- The nodes of a contributor map. -/
def mapNodes (m : Nat) : List Nat := (List.range 4096).filter fun i => bitAt m i

/-- The nodes whose fragments are whole. -/
def MergeSlot.present (s : MergeSlot) : List Nat := (s.parts.filter (·.whole)).map fun p => identNode p.ident

/-- The contributor list: the announced nodes, and those that delivered. -/
def MergeSlot.contributors (s : MergeSlot) : List Nat :=
  (List.range 4096).filter fun i => (s.map.map fun m => bitAt m i).getD false || s.present.contains i

/-- Every announced contributor has delivered (R347). -/
def MergeSlot.complete (s : MergeSlot) : Bool :=
  match s.map with
  | some m => (mapNodes m).all fun i => s.present.contains i
  | none => false

/-- A builder's ACK of a fragment (R345). -/
def MergeSlot.ackFor (s : MergeSlot) (ident : Nat) : FragAckMsg := ⟨ident, s.eventNo, s.orig, s.term⟩

/-- A merge completes in the epoch that runs (R347): its whole fragments are held, the rest is freed. -/
def Block.completeSlot (b : Block) (s : MergeSlot) : Block :=
  let whole := s.parts.filter (·.whole)
  let d : MergeDone := ⟨{ s with parts := whole }, s.contributors, !s.complete, s.map.isNone, b.stampRaw, false⟩
  let b1 := b.modEpoch b.epochNow fun e => { e with merges := e.merges ++ [d] }
  { b1 with evb := { b1.evb with
    slots := b1.evb.slots.filter fun x => !(x.eventNo == s.eventNo && !x.late)
    seen := b1.evb.seen ++ whole.map fun p => ⟨p.ident, b.identKey p.ident, false, s.ackFor p.ident⟩
    merged := (s.eventNo, b.tick) :: b1.evb.merged.filter fun x => decide (b.tick < x.2 + 5 * sTicks) } }

/-- A slot after a change: complete, or kept. -/
def Block.checkSlot (b : Block) (s : MergeSlot) : Block := if s.complete then b.completeSlot s else b.setSlot s

/-- The slot of an event number, opened where there is none. (DEDUCED, log entry 48.) -/
def Block.slotFor (b : Block) (n term orig : Nat) (reassigned : Bool) : Block × MergeSlot :=
  match b.openSlots.find? fun s => s.eventNo == n with
  | some s => (b, s)
  | none =>
    let s : MergeSlot := ⟨n, term, none, b.tick, [], reassigned, orig, false⟩
    ({ b with evb := { b.evb with slots := b.evb.slots ++ [s] } }, s)

/-- The merge of an event number has completed. -/
def Block.mergedEvent (b : Block) (n : Nat) : Bool := b.evb.merged.any fun x => x.1 == n

/-- A builder takes an ANNOUNCE (R347, R348). -/
def Block.announce (b : Block) (m : AnnounceMsg) : Block :=
  if b.mergedEvent m.eventNo then b
  else
    let r := b.slotFor m.eventNo m.term b.node false
    r.1.checkSlot { r.2 with map := some (r.2.map.getD m.map), term := m.term }

/-- ANNOUNCE_RX (R347). -/
def announceRx (m : AnnounceMsg) (b : Block) : Block := whenDue (b.ccOn && !b.flag F.FAB_STAT_QUAR) (fun b => b.announce m) b

/-- ANNOUNCE_RX (R347). -/
def execAnnounceRx (m : AnnounceMsg) (s : State) : Host.Outcome State Fault Refusal :=
  onHw (Instr.wf (.announceRx m)) s (announceRx m)

/-! ### Acknowledgements (R346, R350) -/

/-- A fragment retired (R41): its staging is freed; a stream whose segments are still to open keeps its name. -/
def Block.retire (b : Block) (f : Frag) : Block :=
  if f.tail.isSome then b.setFrag { f with chunks := 0, records := none, builder := none }
  else { b with evb := { b.evb with frags := b.evb.frags.filter fun g => g.desc.ident != f.desc.ident } }

/-- A contributor takes a builder's ACK (R346). -/
def Block.takeAck (b : Block) (m : FragAckMsg) : Block :=
  match b.frag m.ident with
  | some f => if f.st = .committed && f.builder.isSome then b.retire f else b
  | none => b

/-- A builder's ACK to a contributor (R345, R350). -/
def Block.sendAck (b : Block) (m : FragAckMsg) : Block :=
  if b.isSelf (identNode m.ident) then b.takeAck m else b.post (.node (identNode m.ident)) 1 (.fragAck m)

/-- FRAGMENT_ACK_RX (R346). -/
def fragmentAckRx (m : FragAckMsg) (b : Block) : Block := whenDue b.ccOn (fun b => b.takeAck m) b

/-- FRAGMENT_ACK_RX (R346). -/
def execFragmentAckRx (m : FragAckMsg) (s : State) : Host.Outcome State Fault Refusal :=
  onHw (Instr.wf (.fragmentAckRx m)) s (fragmentAckRx m)

/-! ### DATA frames at a builder (R347 to R350, R54) -/

/-- A DATA frame of a part: the first begins it anew, a later one follows in order, any other is dropped. (DEDUCED, log entry 48.) -/
def MergePart.take (p : MergePart) (m : DataMsg) : MergePart :=
  if m.index ≠ p.next then p
  else
    let words := p.words ++ m.words
    { p with
      words := words, next := p.next + 1, poison := p.poison || m.poison
      whole := m.last && words.length == p.total }

/-- A frame put into a slot: the part it belongs to, begun with its chunks at the first frame (R349); none where staging does not
cover it. -/
def Block.partTake (b : Block) (s : MergeSlot) (m : DataMsg) : Option MergeSlot :=
  if m.index = 0 then
    let rest := s.parts.filter fun p => p.ident != m.ident
    let own := ((s.parts.filter fun p => p.ident == m.ident).map (·.chunks)).sum
    if b.freeChunks + own < chunksFor (4 * m.total) then none
    else some { s with parts := rest ++ [(MergePart.mk m.ident [] 0 m.total (chunksFor (4 * m.total)) false false).take m] }
  else some { s with parts := s.parts.map fun p => if p.ident = m.ident then p.take m else p }

/-- A late fragment's frame (R54): once whole, it waits for the next epoch. -/
def Block.lateTake (b : Block) (m : DataMsg) : Block :=
  let s := (b.evb.slots.find? fun x => x.late && x.parts.any fun p => p.ident == m.ident).getD
    ⟨m.eventNo, m.term, none, b.tick, [], m.reassigned, m.origBuilder, true⟩
  let others := b.evb.slots.filter fun x => !(x.late && (x.parts.any fun p => p.ident == m.ident))
  match { b with evb := { b.evb with slots := others } }.partTake s m with
  | none => { b.bump F.EVB_MERGE_FULL_CNT with evb := { b.evb with slots := others } }
  | some t =>
    if t.parts.any (·.whole) then
      let d : MergeDone := ⟨t, [identNode m.ident], false, false, b.stampRaw, true⟩
      { b with evb := { b.evb with
        slots := others, lateNext := b.evb.lateNext ++ [d]
        seen := b.evb.seen ++ [⟨m.ident, b.identKey m.ident, false, t.ackFor m.ident⟩] } }
    else { b with evb := { b.evb with slots := if t.parts.isEmpty then others else others ++ [t] } }

/-- A builder takes a DATA frame (R347 to R350). -/
def Block.takeData (b : Block) (m : DataMsg) : Block :=
  let k := b.identKey m.ident
  match b.evb.seen.find? fun x => x.ident == m.ident with
  | some x =>
    if m.last then
      let b1 := b.bump F.EVB_DUP_FRAGMENT
      if x.done then b1.sendAck x.ack else b1
    else b
  | none =>
    if b.resolved2s k then (if m.last then b.bump F.EVB_LATE_DROP else b)
    else if b.mergedEvent m.eventNo then b.lateTake m
    else
      let r := b.slotFor m.eventNo m.term m.origBuilder m.reassigned
      if (r.2.parts.any fun p => p.ident == m.ident && p.whole) then (if m.last then r.1.bump F.EVB_DUP_FRAGMENT else r.1)
      else
        match r.1.partTake r.2 m with
        | none => r.1.bump F.EVB_MERGE_FULL_CNT
        | some s => r.1.checkSlot { s with
            reassigned := s.reassigned || m.reassigned, orig := if m.reassigned then m.origBuilder else s.orig }

/-- FRAGMENT_DATA_RX (R349). (DEDUCED, log entry 48.) -/
def fragmentDataRx (m : DataMsg) (b : Block) : Block := whenDue (b.ccOn && !b.flag F.FAB_STAT_QUAR) (fun b => b.takeData m) b

/-- FRAGMENT_DATA_RX (R349). -/
def execFragmentDataRx (m : DataMsg) (s : State) : Host.Outcome State Fault Refusal :=
  onHw (Instr.wf (.fragmentDataRx m)) s (fragmentDataRx m)

/-- FRAG_TIMEOUT in ticks (R347, R366). -/
def Block.fragTimeout (b : Block) : Nat := max 1 ((b.cfgOf b.epochNow).get F.EVB_FRAG_TMO) * msTicks

/-- MERGE_TIMEOUT: FRAG_TIMEOUT of a slot expires (R347, R348). (DEDUCED, log entry 48.) -/
def mergeTimeout (n : Nat) (b : Block) : Block :=
  match b.openSlots.find? fun s => s.eventNo == n with
  | some s => whenDue (b.ccOn && decide (s.opened + b.fragTimeout ≤ b.tick)) (fun b => b.completeSlot s) b
  | none => b

/-- MERGE_TIMEOUT (R347). -/
def execMergeTimeout (n : Nat) (s : State) : Host.Outcome State Fault Refusal :=
  onHw (Instr.wf (.mergeTimeout n)) s (mergeTimeout n)

/-- MERGE_IDENTITY_EXPIRE: 2 s after the end of its epoch, an identity is dropped (R350), and what is left of a late fragment that
never became whole. -/
def mergeIdentityExpire (ident : Nat) (b : Block) : Block :=
  { b with evb := { b.evb with
    seen := b.evb.seen.filter fun x => !(x.ident == ident && b.resolved2s x.key)
    slots := b.evb.slots.filter fun s => !(s.late && (s.parts.any fun p => p.ident == ident) && b.resolved2s (b.identKey ident)) } }

/-- MERGE_IDENTITY_EXPIRE (R350). -/
def execMergeIdentityExpire (ident : Nat) (s : State) : Host.Outcome State Fault Refusal :=
  onHw (Instr.wf (.mergeIdentityExpire ident)) s (mergeIdentityExpire ident)

/-! ### A contributor (R51, R346, R352) -/

/-- The words of a fragment as it was committed. -/
def Frag.words (f : Frag) : List Nat := (f.records.getD []).flatten

/-- A record carries POISON (R354). -/
def recordPoison (r : List Nat) : Bool := bitAt (r.headD 0) 25

/-- The DATA frames of a fragment (R345): up to 2 024 bytes of its words each. -/
def Frag.frames (f : Frag) : List DataMsg :=
  let w := f.words
  let n := max 1 (ceilDiv w.length 506)
  let poison := (f.records.getD []).any recordPoison
  (List.range n).map fun i =>
    ⟨i + 1 == n, f.reassigned, i, f.desc.ident, f.desc.eventNo, f.orig, f.desc.term, w.length, (w.drop (i * 506)).take 506, poison⟩

/-- A fragment sent to its builder (R346). -/
def Block.sendFragment (b : Block) (f : Frag) : Block :=
  match f.builder with
  | none => b
  | some n =>
    let b1 := b.setFrag { f with sent := b.tick }
    if b.isSelf n then f.frames.foldl Block.takeData b1 else f.frames.foldl (fun c m => c.post (.node n) 1 (.data m)) b1

/-- FRAGMENT_RESEND: a fragment not acknowledged is sent again after RESEND_US, at least 100 µs (R346). -/
def fragmentResend (ident : Nat) (b : Block) : Block :=
  match b.frag ident with
  | some f =>
    let gap := max 100 ((b.cfgOf b.epochNow).get F.EVB_RESEND) * usTicks
    whenDue (b.ccOn && f.st == .committed && f.builder.isSome && decide (f.sent + gap ≤ b.tick) && !b.resolved2s f.key) (fun b => b.sendFragment f) b
  | none => b

/-- FRAGMENT_RESEND (R346). -/
def execFragmentResend (ident : Nat) (s : State) : Host.Outcome State Fault Refusal :=
  onHw (Instr.wf (.fragmentResend ident)) s (fragmentResend ident)

/-- FRAGMENT_ABANDON: 2 s after the end of its epoch, a fragment is retired without acknowledgement (R35, R346). -/
def fragmentAbandon (ident : Nat) (b : Block) : Block :=
  match b.frag ident with
  | some f =>
    whenDue (b.ccOn && f.st == .committed && f.builder.isSome && b.resolved2s f.key) (fun b => (b.bump F.EVB_ABANDON_CNT).retire f) b
  | none => b

/-- FRAGMENT_ABANDON (R346). -/
def execFragmentAbandon (ident : Nat) (s : State) : Host.Outcome State Fault Refusal :=
  onHw (Instr.wf (.fragmentAbandon ident)) s (fragmentAbandon ident)

/-- The builders of the image's list (R294). -/
def Block.builders (b : Block) : List Nat := (List.range (b.get F.TRG_BUILDERS)).map fun i => b.get (F.TRG_BUILDER i)

/-- The next builder after a departed one that has not departed (R352). -/
def Block.nextBuilder (b : Block) (d : Nat) : Option Nat :=
  let l := b.builders
  let at_ := (List.range l.length).find? fun i => l.getD i 4096 == d
  match at_ with
  | some i =>
    (((List.range (l.length - 1)).map fun j => l.getD ((i + 1 + j) % l.length) 4096).find? fun n => n != d && !(b.route n).departed)
  | none => none

/-- A builder departs: its unacknowledged fragments go to the next one with REASSIGNED (R352), and those not committed will. -/
def Block.reassign (b : Block) (d : Nat) : Block :=
  match b.nextBuilder d with
  | none => b
  | some n =>
    b.evb.frags.foldl (fun c f =>
      if f.builder = some d then
        let g : Frag := { f with builder := some n, reassigned := true }
        if f.st = .committed then c.sendFragment g else c.setFrag g
      else c) b

end Sys2Proof.Machine
end

