-- ==== Sys2Proof/Machine/Egress.lean ====
section
/-! DEFINITION. The egress queues: storage, pointers, reading, mark and release, the front slot (R397 to R413). -/

namespace Sys2Proof.Machine

open Sys2Proof

/-- The eight queues. -/
def allQueues : List Nat := [0, 1, 2, 3, 4, 5, 6, 7]

/-- A queue beside its registers. -/
def Block.queue (b : Block) (q : Nat) : QueueSt := lookupD b.egq q ⟨[], [], none, none⟩

/-- A queue replaced. -/
def Block.setQueue (b : Block) (q : Nat) (x : QueueSt) : Block := { b with egq := insertKey b.egq q x }

/-- The queue offsets (R400). -/
def Block.qPub (b : Block) (q : Nat) : Nat := b.get64 (F.EGQ_PUB_LO q) (F.EGQ_PUB_HI q)
def Block.qRel (b : Block) (q : Nat) : Nat := b.get64 (F.EGQ_REL_LO q) (F.EGQ_REL_HI q)
def Block.qRd (b : Block) (q : Nat) : Nat := b.get64 (F.EGQ_RD_LO q) (F.EGQ_RD_HI q)
def Block.qMark (b : Block) (q : Nat) : Nat := b.get64 (F.EGQ_MARK_LO q) (F.EGQ_MARK_HI q)
def Block.qWr (b : Block) (q : Nat) : Nat := b.get64 (F.EGQ_WR_LO q) (F.EGQ_WR_HI q)

/-- The size of a queue in bytes (R397). -/
def Block.qSize (b : Block) (q : Nat) : Nat := b.get (F.EGQ_CFG_SIZE_64M q) * 2 ^ 26

/-- Free space (R401). -/
def Block.qFree (b : Block) (q : Nat) : Nat := b.qSize q - (b.qWr q - b.qRel q)

/-- The address of a queue offset (R397, R400). -/
def Block.qAddr (b : Block) (q x : Nat) : Nat := 0x0580000000 + b.get (F.EGQ_CFG_BASE_64M q) * 2 ^ 26 + x % max 1 (b.qSize q)

/-- Bytes of the front slot. -/
def QueueSt.frontBytes (x : QueueSt) : Nat := 4 * (x.front.map List.length).sum

/-- A queue holds unreleased bytes: of its stream, or in its front slot (R397, R398, R409). (DEDUCED, log entry 50.) -/
def Block.qHolds (b : Block) (q : Nat) : Bool := b.qPub q != b.qRel q || !(b.queue q).front.isEmpty

/-! ### Configuration (R397, R398) -/

/-- Two ranges of units overlap. -/
def unitsOverlap (a n c m : Nat) : Bool := decide (0 < n) && decide (0 < m) && decide (a < c + m) && decide (c < a + n)

/-- A write of EGQ_q_CFG is refused (R397, R398): base or size may not change now, or EN may not be set. -/
def Block.egqRefuses (b : Block) (q w : Nat) : Bool :=
  let base := bitsOf w 13 8
  let size := bitsOf w 6 0
  let en := bitAt w 31
  let held := b.qHolds q
  let wasOn := b.flag (F.EGQ_CFG_EN q)
  let active := b.flag (F.EGQ_CFG_ACTIVE q)
  let moves := base != b.get (F.EGQ_CFG_BASE_64M q) || size != b.get (F.EGQ_CFG_SIZE_64M q)
  (moves && (wasOn || active || held || decide (64 < base + size)
      || allQueues.any fun r => r != q && unitsOverlap base size (b.get (F.EGQ_CFG_BASE_64M r)) (b.get (F.EGQ_CFG_SIZE_64M r))))
    || (en && ((!wasOn && !active && held) || size == 0))

/-- EGQ_CFG_WRITE (R397, R398). (DEDUCED, log entry 50.) -/
def egqCfgOp (q w : Nat) (b : Block) : Block × Status :=
  if b.egqRefuses q w then (b.bump F.EGQ_REFUSE_CNT, .busyResource) else (b.writeFields (0xc0100 + q * 0x80) w, .ok)

/-- The enables in force as a mask (EGQ_STAT.ACTIVE). -/
def Block.queueMask (b : Block) : Nat := (allQueues.map fun q => b2n (b.flag (F.EGQ_CFG_ACTIVE q)) * 2 ^ q).sum

/-- The ALIGN bits as a mask. -/
def Block.alignMask (b : Block) : Nat := (allQueues.map fun q => b2n (b.flag (F.EGQ_CFG_ALIGN q)) * 2 ^ q).sum

/-- A queue emptied: all five pointers 0, no record, no front slot (R413). -/
def Block.clearQueue (b : Block) (q : Nat) : Block :=
  (((((b.put64 (F.EGQ_PUB_LO q) (F.EGQ_PUB_HI q) 0).put64 (F.EGQ_REL_LO q) (F.EGQ_REL_HI q) 0).put64 (F.EGQ_RD_LO q) (F.EGQ_RD_HI q) 0).put64
    (F.EGQ_MARK_LO q) (F.EGQ_MARK_HI q) 0).put64 (F.EGQ_WR_LO q) (F.EGQ_WR_HI q) 0).setQueue q ⟨[], [], none, none⟩

/-- Every queue emptied, at reseat (R413). -/
def Block.clearQueues (b : Block) : Block := allQueues.foldl Block.clearQueue b

/-- What an epoch boundary does to a queue: EN comes into force; a queue enabled with no unreleased bytes starts at offset 0 (R398,
R400). -/
def Block.queueBoundary (b : Block) (q : Nat) : Block :=
  let en := b.get (F.EGQ_CFG_EN q)
  let fresh := en == 1 && !b.flag (F.EGQ_CFG_ACTIVE q) && !b.qHolds q
  ((if fresh then b.clearQueue q else b).put (F.EGQ_CFG_ACTIVE q) en)

/-- The queues at an epoch boundary (R398). -/
def Block.queuesBoundary (b : Block) : Block :=
  let b1 := allQueues.foldl Block.queueBoundary b
  b1.put F.EGQ_STAT_ACTIVE b1.queueMask

/-! ### Appending (R44, R400, R402) -/

/-- Bytes written at a queue offset, around the end of its storage (R400). -/
def Block.qStore (b : Block) (q x : Nat) (v : List Nat) : Block :=
  let room := b.qSize q - x % max 1 (b.qSize q)
  if v.length ≤ room then b.store (b.qAddr q x) v
  else (b.store (b.qAddr q x) (v.take room)).store (b.qAddr q (x + room)) (v.drop room)

/-- Bytes of a queue from an offset. -/
def Block.qLoad (b : Block) (q x n : Nat) : List Nat :=
  let room := b.qSize q - x % max 1 (b.qSize q)
  if n ≤ room then b.load (b.qAddr q x) n else b.load (b.qAddr q x) room ++ b.load (b.qAddr q (x + room)) (n - room)

/-- The ends of records that stand one after another from an offset. -/
def recordEnds (x : Nat) : List (List Nat) → List (Nat × Bool)
  | [] => []
  | r :: l => (x + 4 * r.length, r.headD 0 / 2 ^ 26 == 8) :: recordEnds (x + 4 * r.length) l

/-- The PAD that makes the COMMIT record end on a multiple of 64 bytes (R402, R355); none where it already does. -/
def padFor (x : Nat) : List (List Nat) :=
  let isOver := (x + 24) % 64
  if isOver = 0 then [] else [recordHeader 0x3F false 0 false ((64 - isOver) / 4) :: List.replicate ((64 - isOver) / 4 - 1) 0]

/-- The records of an epoch in a queue, PAD included where its ALIGN asks for one (R402). -/
def withPad (align : Bool) (wr : Nat) (recs : List (List Nat)) (commit : List Nat) : List (List Nat) :=
  recs ++ (if align then padFor (wr + 4 * wordsOf recs) else []) ++ [commit]

/-- Records appended to a queue and published (R44). -/
def Block.publish (b : Block) (q : Nat) (recs : List (List Nat)) : Block :=
  let wr := b.qWr q
  let n := 4 * wordsOf recs
  let b1 := b.qStore q wr (wordBytes recs.flatten)
  let x := b1.queue q
  ((b1.put64 (F.EGQ_WR_LO q) (F.EGQ_WR_HI q) (wr + n)).put64 (F.EGQ_PUB_LO q) (F.EGQ_PUB_HI q) (wr + n)).setQueue q
    { x with ends := x.ends ++ recordEnds wr recs }

/-! ### Reading (R403 to R407) -/

/-- A requester may read a queue (R403). -/
def Block.isReader (b : Block) (who : Requester) (q : Nat) : Bool :=
  b.flag (F.EGQ_RDR_ANY q)
    || match who with
      | .node n => !b.flag (F.EGQ_RDR_LOCAL q) && b.get (F.EGQ_RDR_NODE q) == n
      | .owl => b.flag (F.EGQ_RDR_LOCAL q) && b.get (F.EGQ_RDR_NODE q) == 0
      | .warren k => b.flag (F.EGQ_RDR_LOCAL q) && b.get (F.EGQ_RDR_NODE q) == 1 + k

/-- The tag of an entry in two words (R404). -/
def entryTag (vbytes : Nat) (recEnd commitEnd front poison : Bool) (cause recOfs q ofs : Nat) : List Nat :=
  [b2n (decide (0 < vbytes)) + vbytes * 2 + b2n recEnd * 2 ^ 8 + b2n commitEnd * 2 ^ 9 + b2n front * 2 ^ 10 + b2n poison * 2 ^ 11
      + cause * 2 ^ 12 + recOfs * 2 ^ 16 + q * 2 ^ 24, ofs % 2 ^ 32]

/-- The 64 data bytes of an entry as words, zero beyond its valid bytes. -/
def entryData (l : List Nat) : List Nat := leWords ((l ++ List.replicate (64 - l.length) 0).take 64)

/-- Whole records of the front slot that fit into one entry. (DEDUCED, log entry 50.) -/
def frontChunk : List (List Nat) → Nat → List (List Nat)
  | [], _ => []
  | r :: l, room => if 4 * r.length ≤ room then r :: frontChunk l (room - 4 * r.length) else []

/-- The front records from a byte position. -/
def frontFrom : List (List Nat) → Nat → List (List Nat)
  | [], _ => []
  | r :: l, k => if k = 0 then r :: l else frontFrom l (k - 4 * r.length)

/-- One entry from the front slot (R405): the entry, and RD after it. -/
def Block.frontEntry (b : Block) (q k : Nat) : Block × List Nat :=
  let x := b.queue q
  let chunk := frontChunk (frontFrom x.front k) 64
  let n := 4 * (chunk.map List.length).sum
  let next := if x.frontBytes ≤ k + n then none else some (k + n)
  let b1 := (b.setQueue q { x with rdFront := next }).bump64 (F.EGQ_READ_CNT_LO q) (F.EGQ_READ_CNT_HI q) 1
  let b2 := if next.isNone then b1.put64 (F.EGQ_RD_LO q) (F.EGQ_RD_HI q) (b1.qRel q) else b1
  (b2, entryTag n true false true false 0 0 q (b.qRel q) ++ entryData (wordBytes chunk.flatten))

/-- The poisoned words of queue storage under an entry, by queue offset. -/
def Block.qPoison (b : Block) (q x n : Nat) : Nat :=
  ((List.range (n / 4 + 1)).filter fun i => decide (4 * i < n) && (b.poisoned (b.qAddr q (x + 4 * i)) 4)
    && (i == 0 || b.qAddr q (x + 4 * i) / 8 != b.qAddr q (x + 4 * (i - 1)) / 8)).length

/-- One entry from queue storage (R405, R407). (DEDUCED, log entry 50.) -/
def Block.queueEntry (b : Block) (q : Nat) : Block × List Nat :=
  let rd := b.qRd q
  let n := min 64 (b.qPub q - rd)
  let b0 := (b.checkRange (b.qAddr q rd) (min n (b.qSize q - rd % max 1 (b.qSize q)))).checkRange (b.qAddr q (rd + n) - (rd + n) % max 1 (b.qSize q))
    (if b.qSize q - rd % max 1 (b.qSize q) < n then n - (b.qSize q - rd % max 1 (b.qSize q)) else 0)
  let x := b0.queue q
  let starts := b0.qRel q :: x.ends.map (·.1)
  let first := (starts.filter fun p => decide (rd ≤ p) && decide (p < rd + n)).head?
  let poisoned := b0.qPoison q rd n
  let b1 := (b0.bump64 (F.EGQ_READ_CNT_LO q) (F.EGQ_READ_CNT_HI q) 1).bumpBy (F.EGQ_POISON_CNT q) poisoned
  (b1.put64 (F.EGQ_RD_LO q) (F.EGQ_RD_HI q) (rd + n),
    entryTag n (x.ends.any fun e => e.1 == rd + n) (x.ends.any fun e => e.1 == rd + n && e.2) false (decide (0 < poisoned)) 0
      ((first.map (· - rd)).getD 0x7F) q rd ++ entryData (b0.qLoad q rd n))

/-- Entries of a response, up to `n` (R405). -/
def readEntries (b : Block) (q : Nat) : Nat → Block × List (List Nat)
  | 0 => (b, [])
  | n + 1 =>
    match (b.queue q).rdFront with
    | some k =>
      let r := b.frontEntry q k
      let s := readEntries r.1 q n
      (s.1, r.2 :: s.2)
    | none =>
      if b.qRd q < b.qPub q then
        let r := b.queueEntry q
        let s := readEntries r.1 q n
        (s.1, r.2 :: s.2)
      else (b, [])

/-- N of a bulk request (R404). -/
def bulkCount (n : Nat) : Nat := clampN 1 28 n

/-- A bulk read of an aperture (R403, R405): status and entries. -/
def apertureOp (who : Requester) (q n : Nat) (b : Block) : Block × Status × List (List Nat) :=
  if !b.isReader who q then (b.bump (F.EGQ_DENY_CNT q), .accessDenied, [])
  else
    let r := readEntries b q (bulkCount n)
    if r.2.isEmpty then
      (r.1, .ok, [entryTag 0 false false false false (if b.flag (F.EGQ_CFG_ACTIVE q) then 0 else 1) 0x7F q (b.qRd q) ++ entryData []])
    else (r.1, .ok, r.2)

/-! ### Mark, rewind, release (R408, R409) -/

/-- MARK = RD (R408). -/
def Block.markQueue (b : Block) (q : Nat) : Block :=
  let x := b.queue q
  (b.put64 (F.EGQ_MARK_LO q) (F.EGQ_MARK_HI q) (b.qRd q)).setQueue q { x with markFront := x.rdFront }

/-- RD = MARK (R408). -/
def Block.rewindQueue (b : Block) (q : Nat) : Block :=
  let x := b.queue q
  ((b.put64 (F.EGQ_RD_LO q) (F.EGQ_RD_HI q) (b.qMark q)).setQueue q { x with rdFront := x.markFront }).bump (F.EGQ_REWIND_CNT q)

/-- REL to the end of the last whole record at or before MARK; the front slot empties where MARK lies in queue space (R408, R409). -/
def Block.releaseQueue (b : Block) (q : Nat) : Block :=
  let x := b.queue q
  if x.markFront.isSome then b
  else
    let m := b.qMark q
    let rel := (x.ends.filter fun e => decide (e.1 ≤ m)).foldl (fun r e => max r e.1) (b.qRel q)
    (b.put64 (F.EGQ_REL_LO q) (F.EGQ_REL_HI q) rel).setQueue q
      { x with ends := x.ends.filter (fun e => decide (rel < e.1)), front := [], rdFront := none }

/-- A command is a release, which is mirrored before it is answered (R409). -/
def isRelease (w : Nat) : Bool := w % 8 == 3 || w % 8 == 4

/-- A write of EGQ_q_CMD (R403, R408, R409). -/
def egqCmdOp (who : Requester) (q w : Nat) (b : Block) : Block × Status :=
  if !b.isReader who q then (b.bump (F.EGQ_DENY_CNT q), .accessDenied)
  else
    match w % 8 with
    | 1 => (b.markQueue q, .ok)
    | 2 => (b.rewindQueue q, .ok)
    | 3 => (b.releaseQueue q, .ok)
    | 4 => ((b.markQueue q).releaseQueue q, .ok)
    | _ => (b, .ok)

/-! ### The front slot (R411, R412) -/

/-- A TAKEOVER record folds one that stands before it (R412). -/
def foldTakeover (tko old : List Nat) : List Nat :=
  let f := satU 8 (bitsOf (tko.getD 1 0) 15 8 + 1 + bitsOf (old.getD 1 0) 15 8)
  setNth tko 1 (tko.getD 1 0 % 2 ^ 8 + f * 2 ^ 8)

/-- An (epoch) field as wrap × 4096 + epoch. -/
def epochField (w : Nat) : Nat := w % 65536 * 4096 + bitsOf w 27 16

/-- An (epoch) field of wrap × 4096 + epoch (R363). -/
def toEpochField (k : Nat) : Nat := k / 4096 % 65536 + k % 4096 * 2 ^ 16

/-- Two LOSS records as one (R412). -/
def foldLoss (a c : List Nat) : List Nat :=
  let lo := if keyLe (epochField (a.getD 1 0)) (epochField (c.getD 1 0)) then a.getD 1 0 else c.getD 1 0
  let hi := if keyLe (epochField (a.getD 2 0)) (epochField (c.getD 2 0)) then c.getD 2 0 else a.getD 2 0
  let near (x y : List Nat) : Bool := epochField (y.getD 1 0) == (epochField (x.getD 2 0) + 1) % 2 ^ 28
  let span := bitAt (a.getD 3 0) 8 || bitAt (c.getD 3 0) 8 || !(near a c || near c a)
  [a.getD 0 0, lo, hi, ((a.getD 3 0 % 256) ||| (c.getD 3 0 % 256)) + b2n span * 2 ^ 8, (a.getD 4 0 + c.getD 4 0) % 2 ^ 32]

/-- A record is of a type. -/
def isType (t : Nat) (r : List Nat) : Bool := r.headD 0 / 2 ^ 26 == t

/-- The two oldest LOSS records replaced by one, at the place of the first. -/
def foldOldest : List (List Nat) → List (List Nat)
  | [] => []
  | r :: l =>
    if isType 0x0F r then
      match l.find? (isType 0x0F) with
      | some s => foldLoss r s :: l.erase s
      | none => r :: l
    else r :: foldOldest l

/-- LOSS records folded, the oldest first, until the slot fits (R412). -/
def fitLosses (l : List (List Nat)) : Nat → List (List Nat)
  | 0 => l
  | fuel + 1 => if 4 * wordsOf l ≤ 128 then l else fitLosses (foldOldest l) fuel

/-- A front slot with the records of one more takeover, made to fit into 128 bytes, six records at most (R412): older TAKEOVER records
fold into the new one, then the oldest LOSS records into one another. `old` holds what stands before the new TAKEOVER record. -/
def fitFront (old : List (List Nat)) (tko : List Nat) (loss : List (List Nat)) : Nat → List (List Nat)
  | 0 => old ++ tko :: loss
  | fuel + 1 =>
    if 4 * wordsOf (old ++ tko :: loss) ≤ 128 then old ++ tko :: loss
    else
      match old.find? (isType 0x0E) with
      | some r => fitFront (old.erase r) (foldTakeover tko r) loss fuel
      | none => fitLosses (old ++ tko :: loss) fuel

/-- A takeover fills a queue's front slot, and RD and MARK stand at its start (R411). -/
def Block.fillFront (b : Block) (q : Nat) (tko : List Nat) (loss : List (List Nat)) : Block :=
  let x := b.queue q
  b.setQueue q { x with front := fitFront x.front tko loss (x.front.length + loss.length + 1), rdFront := some 0, markFront := some 0 }

/-! ### What the registers show (R400, R414, R415) -/

/-- A read position as its register shows it (R400). -/
def Block.shownPos (b : Block) (q : Nat) (front : Option Nat) (v : Nat) : Nat :=
  match front with
  | some k => (b.qRel q + 2 ^ 64 - (b.queue q).frontBytes + k) % 2 ^ 64
  | none => v

/-- The live words of EGQ, by address. -/
def Block.egqWord (b : Block) (addr : Nat) : Option Nat :=
  if addr = 0xc0000 then some ((allQueues.map fun q => b.get (F.EGQ_CFG_SIZE_64M q)).sum * 2 ^ 8 + b.get F.EGQ_STAT_ACTIVE)
  else if decide (0xc0100 ≤ addr) && decide (addr < 0xc0500) then
    let q := (addr - 0xc0100) / 0x80
    let x := b.queue q
    let rd := b.shownPos q x.rdFront (b.qRd q)
    let mark := b.shownPos q x.markFront (b.qMark q)
    match (addr - 0xc0100) % 0x80 with
    | 0x0c => some (b2n (!x.front.isEmpty) * 2 ^ 31 + b.get (F.EGQ_STAT_WAITING q) * 2 ^ 30 + x.frontBytes % 256)
    | 0x18 => some (rd % 2 ^ 32)
    | 0x1c => some (rd / 2 ^ 32)
    | 0x20 => some (mark % 2 ^ 32)
    | 0x24 => some (mark / 2 ^ 32)
    | 0x38 => some (b.qFree q / 64)
    | _ => none
  else none

end Sys2Proof.Machine
end

