-- ==== Sys2Proof/Machine/Commit.lean ====
section
/-! DEFINITION. The epoch commit: the records of an epoch, their order and their queues, publication, the commit log's history
(R44 to R49, R338 to R344, R351, R354 to R364). -/

namespace Sys2Proof.Machine

open Sys2Proof

/-! ### Orders -/

/-- An element put before the first one that it does not follow. -/
def insertBy {α : Type} (le : α → α → Bool) (x : α) : List α → List α
  | [] => [x]
  | y :: l => if le x y then x :: y :: l else y :: insertBy le x l

/-- A list in order, elements of the same rank as they stood. -/
def sortBy {α : Type} (le : α → α → Bool) (l : List α) : List α := l.foldr (insertBy le) []

/-! ### Fragments (R284, R356) -/

/-- The trigger descriptor as 16 words (R284). -/
def Desc.words (d : Desc) : List Nat :=
  leWords (leBytes 5 d.ident ++ [d.cause, d.group, d.ngroups] ++ leBytes 4 d.trigNs ++ leBytes 4 d.trigW2 ++ leBytes 4 d.evtNs
    ++ leBytes 4 d.evtW2 ++ leBytes 4 (unsigned 32 d.ofs) ++ leBytes 2 d.flags ++ leBytes 2 d.seg ++ leBytes 4 d.winStart
    ++ leBytes 4 d.winLen ++ leBytes 8 d.readout ++ leBytes 6 d.eventNo ++ leBytes 2 d.term ++ leBytes 5 d.parent ++ [0, 0, 0])

/-- A fragment that its epoch commits (R41). -/
def Frag.commits (f : Frag) : Bool := f.st == .accepted || f.st == .orphaned

/-- PERTURBED of a record's header, where its epoch was perturbed (R354, R588). -/
def markPerturbed (on : Bool) : List Nat → List Nat
  | [] => []
  | h :: l => (if on then setBit h 24 true else h) :: l

/-- The FRAGMENT or ORPHAN record that stands before a fragment's other records (R356). -/
def Frag.firstRecord (f : Frag) (effort : Nat) (rest : List (List Nat)) : List Nat :=
  let orphan := f.st == .orphaned
  recordOf (if orphan then 0x10 else 1) false (domOf f.desc.trigW2) (bitAt f.desc.flags 5)
    ((if orphan then { f.desc with eventNo := 0, term := 0 } else f.desc).words
      ++ [rest.length % 65536 + effort * 2 ^ 16, 20 + wordsOf rest,
        f.builder.getD 0 % 4096 + b2n f.builder.isNone * 2 ^ 12 + b2n f.hitsClip * 2 ^ 14 + b2n f.stageClip * 2 ^ 15])

/-- A fragment with the records that it commits, its first one included (R331). -/
def EpochSt.finish (e : EpochSt) (f : Frag) : Frag :=
  let rest := f.records.getD []
  { f with records := some ((f.firstRecord e.cfg.effort rest :: rest).map (markPerturbed (e.perturbed != 0))) }

/-! ### Merged events (R351, R364, R54) -/

/-- Words cut into records by LEN (R354). -/
def splitRecords : Nat → List Nat → List (List Nat)
  | 0, _ => []
  | _, [] => []
  | n + 1, h :: l =>
    let len := max 1 (h % 2 ^ 22)
    (h :: l).take len :: splitRecords n ((h :: l).drop len)

/-- The records of a part with LATE set in its FRAGMENT record (R356). -/
def MergePart.late (p : MergePart) : List (List Nat) :=
  match splitRecords p.words.length p.words with
  | r :: l => setNth r 19 (setBit (r.getD 19 0) 13 true) :: l
  | [] => []

/-- The whole parts of a merge in ascending node ID. -/
def MergeDone.present (d : MergeDone) : List MergePart :=
  sortBy (fun a c => decide (identNode a.ident ≤ identNode c.ident)) (d.slot.parts.filter (·.whole))

/-- The MERGED or PARTIAL record of a completed merge, and what follows it where it is SPLIT (R351, R364). -/
def MergeDone.records (d : MergeDone) (self dom : Nat) : List (List Nat) :=
  let parts := d.present
  if d.late then parts.flatMap MergePart.late
  else
    let nodes := d.slot.present
    let nested := parts.flatMap (·.words)
    let entries := halfPairs (d.contribs.map fun n => n % 4096 + b2n (nodes.contains n) * 2 ^ 15)
    let split := decide (4194303 < 6 + entries.length + nested.length)
    let body := [d.slot.eventNo % 2 ^ 32, d.slot.eventNo / 2 ^ 32 % 65536 + d.slot.term % 65536 * 2 ^ 16,
        (if d.slot.reassigned then d.slot.orig else self) % 4096 + b2n d.slot.reassigned * 2 ^ 12 + b2n d.noAnnounce * 2 ^ 13
          + b2n split * 2 ^ 14 + d.contribs.length % 65536 * 2 ^ 16,
        nodes.length % 65536, tsNs d.raw] ++ entries ++ (if split then [] else nested)
    let trunc := !split && parts.any fun p => bitAt (p.words.headD 0) 22
    recordOf (if d.partial_ then 0x0D else 0x0C) (!split && parts.any (·.poison)) dom trunc body
      :: (if split then parts.flatMap MergePart.late else [])

/-- Merges in the order of R49: by event number, a late fragment after its PARTIAL. -/
def mergeLe (a c : MergeDone) : Bool :=
  if a.slot.eventNo = c.slot.eventNo then !a.late || c.late else decide (a.slot.eventNo ≤ c.slot.eventNo)

/-! ### The fixed records (R363) -/

/-- The tick count of a slew and its end, from the anchor of an epoch's first tick (R68, R314). -/
def Block.slewEndOf (b : Block) (e : EpochSt) (n : SwitchNote) : Nat :=
  let k := ceilDiv n.resid slewStep
  match (anchorsOf b.dram e.key).head? with
  | some a => wrapTime ((n.newRaw + k * a.inc : Nat) - (n.resid : Int))
  | none => wrapTime ((n.newRaw + k * (b.domain n.newDom).inc : Nat) - (n.resid : Int))

/-- The GAP or DOMAIN_SWITCH record (R68, R232, R363). (DEDUCED, log entry 49.) -/
def Block.gapRecord (b : Block) (e : EpochSt) (n : SwitchNote) : List Nat :=
  let first := epochOf n.oldRaw
  let skipped := n.forward && decide (first ≠ epochOf n.newRaw)
  let d := unsigned 64 n.d
  let fin := b.slewEndOf e n
  recordOf 9 false n.newDom false
    ([b2n (!n.forward) + n.oldDom % 2 * 4 + b2n (n.oldDom == n.newDom) * 8 + b2n skipped * 16 + e.quality % 8 * 32, d % 2 ^ 32, d / 2 ^ 32]
      ++ (if skipped then [toEpochField first, toEpochField ((epochOf n.newRaw + 2 ^ 28 - 1) % 2 ^ 28)] else [0, 0])
      ++ (if n.forward then [0, 0] else [tsNs fin, tsWrap fin]))

/-- The WRAP record (R363). -/
def Block.wrapRecord (b : Block) (e : EpochSt) : List Nat :=
  recordOf 7 false e.dom false [e.key / 4096 % 65536 + b.node % 4096 * 2 ^ 16]

/-- R_t at the start of an epoch, µs (R318, R363). -/
def EpochSt.retainUs (e : EpochSt) : Nat := if e.load = 0 then 0xFFFFFFFF else min 0xFFFFFFFF (safeBlocks * epochNs / (e.load * 1000))

/-- An epoch lies in the P epochs before another one (R341). -/
def inPeriod (k p x : Nat) : Bool :=
  let back := (k + 2 ^ 28 - x % 2 ^ 28) % 2 ^ 28
  decide (1 ≤ back) && decide (back ≤ p)

/-- The HEALTH record of an epoch, where it holds one (R341, R363). (DEDUCED, log entry 49.) -/
def Block.healthRecord (b : Block) (e : EpochSt) : Option (List Nat) :=
  let p := e.cfg.get F.EVB_HEALTH_PERIOD
  if p = 0 || e.key % p != 0 then none
  else
    let l := b.evb.history.filter fun x => inPeriod e.key p x.key
    let total (g : EpochSum → Nat) : Nat := (l.map g).sum
    let half (a c : Nat) : Nat := satU 16 a + satU 16 c * 2 ^ 16
    some (recordOf 0x0B false e.dom false
      [tsNs e.raw, word1 e.raw e.dom e.quality (2 ^ 18 - 1), toEpochField e.key + e.cfg.effort * 2 ^ 28, e.cfg.groups % 2 ^ 32,
        e.cfg.groups / 2 ^ 32 % 2 ^ 28, total (fun x => lookupD b.ring.past x.key 0) % 2 ^ 32, total (·.opened) % 2 ^ 32,
        total (·.committed) % 2 ^ 32, half (total (·.discarded)) (total (·.orphaned)), half (total (·.truncated)) (total (·.exhausted)),
        e.retainUs])

/-! ### Precision samples and capture points (R342, R343, R361, R362) -/

/-- An entry of a tile's PREC stream as read: its four words, poisoned or not. -/
structure PrecItem where
  tile : Nat
  w : List Nat
  poison : Bool
deriving DecidableEq, Repr

/-- The sub-ID of an entry. -/
def PrecItem.sub (x : PrecItem) : Nat := x.w.getD 2 0 % 2 ^ 18

/-- The time of an entry within its wrap, 1/1024 ns. -/
def PrecItem.time (x : PrecItem) : Nat := x.w.getD 1 0 * 1024 + x.w.getD 2 0 / 2 ^ 22

/-- The entries of the PREC streams in an epoch. -/
def Block.precItems (b : Block) (k : Nat) : Block × List PrecItem :=
  ([0, 1, 2, 3] : List Nat).foldl (fun (r : Block × List PrecItem) t =>
    let q := r.1.readEpoch (72 + t) k 0 (2 ^ 42)
    (q.1, r.2 ++ q.2.blocks.flatMap fun x => (List.range x.items.length).map fun i =>
      ⟨t, leWords (x.items.getD i []), q.1.poisoned (blockAddr x.n + i * 16) 16⟩)) (b, [])

/-- Entries of one channel cut where a page ends or a slot is skipped (R342). -/
def slotSeries : List PrecItem → List (List PrecItem)
  | [] => []
  | x :: l =>
    match slotSeries l with
    | (y :: m) :: r =>
      if y.w.getD 3 0 = x.w.getD 3 0 + 1 && y.w.getD 3 0 / 256 == x.w.getD 3 0 / 256 then (x :: y :: m) :: r else [x] :: (y :: m) :: r
    | r => [x] :: r

/-- A slew runs at a time of an epoch (R68, R314). -/
def Block.slewsAt (b : Block) (t : Nat) : Bool :=
  match ((anchorsOf b.dram (epochOf t)).filter fun a => decide (a.time ≤ t + 2 ^ 22)).getLast? with
  | some a => decide (a.ticksTo t * slewStep < a.res)
  | none => false

/-- A record of R49 position 6 with its place: its time within the wrap, its key (R344). -/
structure Placed where
  time : Nat
  key : Nat
  mask : Nat
  words : List Nat
deriving DecidableEq, Repr

/-- A PRECISION record (R361); ODR and FILTER stand in the page's tag. -/
def Block.precisionRecord (b : Block) (k n : Nat) (l : List PrecItem) : List Nat :=
  let x := l.headD ⟨0, [], false⟩
  let tag := leVal (b.load (tagAddr n (x.w.getD 3 0) + 12) 4)
  let timed := l.any fun y => b.slewsAt (k / 4096 * 2 ^ 64 + y.time * 2 ^ 22)
  recordOf 6 (l.any (·.poison)) (domOf (x.w.getD 2 0)) false
    ([n + b2n timed * 2 ^ 6 + bitsOf tag 28 25 * 2 ^ 7 + bitsOf tag 30 29 * 2 ^ 11 + l.length * 2 ^ 16, x.w.getD 1 0, x.w.getD 2 0, x.w.getD 3 0]
      ++ (if timed then l.flatMap fun y => y.w.take 3 else l.map fun y => y.w.getD 0 0))

/-- The PRECISION records of an epoch. -/
def Block.precisionRecords (b : Block) (e : EpochSt) (l : List PrecItem) : List Placed :=
  (List.range 64).flatMap fun n =>
    if b.flag (F.PCV_CFG_RECORD n) then
      (slotSeries (l.filter fun x => x.sub == 960 + n)).map fun s =>
        ⟨(s.headD ⟨0, [], false⟩).time, 960 + n, e.cfg.get F.EVB_QSEL_MISC_PREC_Q, b.precisionRecord e.key n s⟩
    else []

/-- Points with their places in their captures, cut by capture. -/
def captureSeries : List (PrecItem × CapLog) → List (List (PrecItem × CapLog))
  | [] => []
  | x :: l =>
    match captureSeries l with
    | (y :: m) :: r => if x.2.id = y.2.id then (x :: y :: m) :: r else [x] :: (y :: m) :: r
    | r => [x] :: r

/-- The LOOP_CAPTURE records of an epoch (R343, R362): a capture of slot 4 t + s. -/
def Block.captureRecords (b : Block) (e : EpochSt) (l : List PrecItem) : List Placed :=
  (List.range 16).flatMap fun s =>
    let points := l.filter fun x => x.tile == s / 4 && decide (2 ^ 17 ≤ x.sub) && x.sub / 2 ^ 14 % 4 == s % 4
    let logs := b.evb.caps.filter fun c => c.slot == s && epochOf c.raw == e.key
    (captureSeries (points.zip (logs.drop (logs.length - points.length)))).map fun c =>
      let x := c.headD (⟨0, [], false⟩, ⟨0, 0, 0, 0⟩)
      ⟨x.1.time, 1024 + s, e.cfg.get F.EVB_QSEL_MISC_LCAP_Q,
        recordOf 0x0A (c.any fun y => y.1.poison) (domOf (x.1.w.getD 2 0)) false
          ([s % 4 + s / 4 * 4 + c.length * 2 ^ 16, x.2.id, x.2.index % 65536 + b2n (c.any fun y => bitAt (y.1.w.getD 0 0) 4) * 2 ^ 16,
            x.1.w.getD 1 0, x.1.w.getD 2 0] ++ c.flatMap fun y => y.1.w)⟩

/-- The order of R344. -/
def placedLe (a c : Placed) : Bool := if a.time = c.time then decide (a.key ≤ c.key) else decide (a.time ≤ c.time)

/-! ### The plan of an epoch (R49, R338) -/

/-- Records with the queues that their masks name. -/
abbrev Plan := List (Nat × List (List Nat))

/-- The mask of a class in a pair of registers (R338). -/
def classMask (c : EpochCfg) (lo hi : Field) (k : Nat) : Nat := c.get (if k < 4 then lo else hi) / 2 ^ (8 * (k % 4)) % 256

/-- The queues of a committed fragment (R338). -/
def fragMask (c : EpochCfg) (f : Frag) : Nat :=
  if f.st == .orphaned then c.get F.EVB_QSEL_MISC_ORPHAN_Q
  else if f.builder.isNone then classMask c F.EVB_QSEL_C0 F.EVB_QSEL_C1 f.cls
  else classMask c F.EVB_QLOC_C0 F.EVB_QLOC_C1 f.cls

/-- Fragments by SEQ. -/
def bySeq (l : List Frag) : List Frag := sortBy (fun a c => decide (a.desc.ident ≤ c.desc.ident)) l

/-- The records of an epoch in the order of R49, positions 1 to 6, with the finished fragments. (DEDUCED, log entry 49.) -/
def Block.plan (b : Block) (e : EpochSt) : Block × Plan × List Frag :=
  let fr := (b.fragsOf e.key).map e.finish
  let acc := bySeq (fr.filter fun f => f.st == .accepted)
  let orp := bySeq (fr.filter fun f => f.st == .orphaned)
  let r := b.precItems e.key
  let b1 := r.1
  let six := b1.precisionRecords e r.2 ++ b1.captureRecords e r.2
    ++ ((b1.healthRecord e).map fun h => Placed.mk (visible e.raw % 2 ^ 42) 2047 (e.cfg.get F.EVB_HEALTH_HEALTH_Q) h).toList
  let mark (l : List (List Nat)) : List (List Nat) := l.map (markPerturbed (e.perturbed != 0))
  let frag (f : Frag) : Nat × List (List Nat) := (fragMask e.cfg f, f.records.getD [])
  let p : Plan :=
    (if e.key % 4096 = 0 then [(255, mark [b1.wrapRecord e])] else [])
      ++ (e.note.map fun n => (255, mark [b1.gapRecord e n])).toList
      ++ acc.map frag
      ++ (sortBy mergeLe e.merges).map (fun d => (e.cfg.get F.EVB_QSEL_MISC_MERGE_Q, mark (d.records b1.node e.dom)))
      ++ orp.map frag
      ++ (sortBy placedLe six).map fun x => (x.mask, mark [x.words])
  (b1, p, fr)

/-- The records of a queue. -/
def Plan.of (p : Plan) (q : Nat) : List (List Nat) := p.flatMap fun x => if bitAt x.1 q then x.2 else []

/-- The COMMIT record (R47, R340, R363). -/
def Block.commitRecord (b : Block) (e : EpochSt) (q : Nat) (l : List (List Nat)) : List Nat :=
  markPerturbed (e.perturbed != 0) (recordOf 8 false e.dom false
    [toEpochField e.key + q * 2 ^ 28, e.term.getD 0 % 65536 + satU 16 e.exhausted * 2 ^ 16, l.length, b.node % 4096, crc32c (wordBytes l.flatten)])

/-- Everything an epoch puts into a queue, PAD and COMMIT included (R402). -/
def Block.queueRecords (b : Block) (e : EpochSt) (p : Plan) (q : Nat) : List (List Nat) :=
  (withPad (bitAt e.aligns q) (b.qWr q) (p.of q) (b.commitRecord e q (p.of q))).map (markPerturbed (e.perturbed != 0))

/-- The queues that receive an epoch. -/
def EpochSt.queueList (e : EpochSt) : List Nat := allQueues.filter fun q => bitAt e.queues q

/-- The queues that lack space for an epoch (R339, R401). -/
def Block.lacking (b : Block) (e : EpochSt) (p : Plan) : List Nat :=
  e.queueList.filter fun q => decide (b.qFree q < 4 * wordsOf (b.queueRecords e p q))

/-! ### The commit (R44, R339) -/

/-- What is ready to leave: RESOLVED, mirrored, every fragment built, and nothing of the epoch on the tile links (R43, R44, R319). -/
def Block.epochReady (b : Block) (e : EpochSt) : Bool :=
  e.term.isSome && (e.mirrored || !b.mirrorUp) && ((b.fragsOf e.key).all fun f => !f.commits || f.records.isSome)
    && !(b.links.any fun x =>
      match x with
      | .item s raw _ _ _ => decide (72 ≤ s) && epochOf raw == e.key
      | .boundary k => keyLe k e.key
      | .stop _ => false)

/-- The queues that wait for space as the registers and the source show them (R339, R366, R415). -/
def Block.showWait (b : Block) (l : List Nat) : Block :=
  let mask := (l.map fun q => 2 ^ q).sum
  let b1 := allQueues.foldl (fun c q => c.putB (F.EGQ_STAT_WAITING q) (l.contains q)) b
  (b1.put F.EVB_PEND_QWAIT mask).setLevel 161 (!l.isEmpty) mask

/-- A commit that waits: the epoch counts once, and once for each queue (R339, R415). -/
def Block.waitSpace (b : Block) (e : EpochSt) (l : List Nat) : Block :=
  let b1 := if e.waited = 0 then b.bump F.EVB_QWAIT_CNT else b
  let b2 := (l.filter fun q => !bitAt e.waited q).foldl (fun c q => c.bump (F.EGQ_WAIT_CNT q)) b1
  (b2.modEpoch e.key fun x => { x with waited := l.foldl (fun m q => setBit m q true) x.waited }).showWait l

/-- The fragments of a committed epoch (R41): sent to their builder, or retired; what is left of one that ended before goes. -/
def Block.settleFrags (b : Block) (l : List Frag) : Block :=
  l.foldl (fun c f =>
    let g : Frag := { f with st := .committed, content := none }
    if f.commits then
      if f.st == .accepted && f.builder.isSome then (c.setFrag g).sendFragment g else (c.setFrag g).retire { g with builder := none }
    else if f.tail.isSome then c
    else { c with evb := { c.evb with frags := c.evb.frags.filter fun x => x.desc.ident != f.desc.ident } }) b

/-- A contributor is acknowledged once the merge that holds its fragment has committed (R52, R350). -/
def Block.ackMerge (b : Block) (d : MergeDone) : Block :=
  d.present.foldl (fun c p =>
    { c with evb := { c.evb with seen := c.evb.seen.map fun (x : SeenFrag) => if x.ident = p.ident then { x with done := true } else x } }.sendAck
      (d.slot.ackFor p.ident)) b

/-- The earliest epoch whose raw data an epoch with these fragments needs: its own, or that of an earlier window start (R320, R572). -/
def Block.firstNeeded (b : Block) (k : Nat) (l : List Frag) : Nat :=
  (l.filter Frag.alive).foldl (fun m f =>
    let s := epochOf (b.stampAt f.start f.tick f.trig)
    if keyLe s m then s else m) k

/-- What the log keeps of an epoch (R62, R341). -/
def EpochSt.sum (e : EpochSt) (first : Nat) (l : List Frag) : EpochSum where
  key := e.key
  queues := e.queues
  first := first
  opened := e.seq
  committed := (l.filter Frag.commits).length
  discarded := (l.filter fun f => f.st == .discarded).length
  orphaned := (l.filter fun f => f.st == .orphaned).length
  truncated := (l.filter fun f => f.commits && bitAt f.desc.flags 5).length
  exhausted := e.exhausted

/-- Fragments that wait for nothing any more. -/
def Frag.isOver (f : Frag) : Bool := f.st == .committed && f.builder.isNone && f.tail.isNone

/-- An epoch published in every queue that receives it (R44). -/
def Block.publishEpoch (b : Block) (e : EpochSt) (p : Plan) : Block :=
  (e.queueList.map fun q => (q, b.queueRecords e p q)).foldl (fun c (x : Nat × List (List Nat)) => c.publish x.1 x.2) b

/-- An epoch commits (R44 to R47). (DEDUCED, log entry 49.) -/
def Block.commitEpoch (b : Block) (e : EpochSt) (p : Plan) (l : List Frag) : Block :=
  let b1 := (((b.publishEpoch e p).showWait []).put F.EVB_STAT_EPOCH (e.key % 4096)).put F.EVB_STAT_WRAP (e.key / 4096)
  let s := e.sum (b1.firstNeeded e.key l) l
  let b2 := (b1.bump64 F.EVB_FRAG_CNT_LO F.EVB_FRAG_CNT_HI s.committed).bumpBy F.EVB_PARTIAL_CNT
    (e.merges.filter fun d => d.partial_ && !d.late).length
  let v := { b2.evb with
    epochs := b2.evb.epochs.filter fun x => x.key != e.key
    history := (s :: b2.evb.history).take 65535
    caps := b2.evb.caps.filter fun c => !keyLe (epochOf c.raw) e.key }
  let b3 := { b2 with evb := v, pair := { b2.pair with held := b2.pair.held.filter fun m => !(l.any fun f => f.desc.ident == m.ident) } }
  let b4 := e.merges.foldl Block.ackMerge (b3.settleFrags l)
  { b4 with evb := { b4.evb with
    frags := b4.evb.frags.filter fun (f : Frag) => !f.isOver && !(f.st == FragState.discarded && f.tail.isNone && (b4.epochSt f.key).isNone) } }.settlePower

/-- Epochs that do not commit leave the log once their instants are evaluated (R46). -/
def Block.dropIdle (b : Block) : Block :=
  { b with evb := { b.evb with epochs := b.evb.epochs.filter fun e => e.counts || !b.evaluated e } }

/-- EPOCH_COMMIT: the oldest epoch, once it is BUILT and mirrored, and once every queue has space for it (R44, R339). -/
def epochCommit (b : Block) : Block :=
  whenDue (b.ccOn && b.pair.gap.isNone) (fun b0 =>
    let b := b0.dropIdle
    match b.evb.epochs with
    | [] => b
    | e :: _ =>
      if e.counts && b.epochReady e then
        let r := b.plan e
        let lack := r.1.lacking e r.2.1
        if lack.isEmpty then r.1.commitEpoch e r.2.1 r.2.2 else b.waitSpace e lack
      else b) b

/-- EPOCH_COMMIT (R44). -/
def execEpochCommit (s : State) : Host.Outcome State Fault Refusal :=
  onHw (Instr.wf .epochCommit) s epochCommit

/-! ### What the registers show (R366) -/

/-- The live words of EVB, by address. -/
def Block.evbWord (b : Block) (addr : Nat) : Option Nat :=
  if addr = 0x90004 then
    some (b.get F.EVB_PEND_QWAIT * 2 ^ 16 + b.pendEpochs)
  else if addr = 0x90008 then some b.freeChunks
  else if addr = 0x9000c then some (satU 16 b.openSlots.length)
  else none

end Sys2Proof.Machine
end

