-- ==== Sys2Proof/Machine/Master.lean ====
section
/-! DEFINITION. The trigger master, its standby and the trigger tree: primitives, decisions, heartbeats, the change of master (R36, R37,
R40, R288 to R297). -/

namespace Sys2Proof.Machine

open Sys2Proof

/-! ### Primitives (R288, R294) -/

/-- The trigger timestamp of a primitive in 1/1024 ns. -/
def primTime (m : PrimitiveMsg) : Nat := m.wrap * 2 ^ 42 + m.ns * 1024 + m.w2 / 2 ^ 22

/-- The order in which primitives are decided: (wrap, TRIG_NS), then IDENTITY. -/
def primBefore (a c : PrimitiveMsg) : Bool :=
  let d := visibleDiff (a.wrap * 2 ^ 42 + a.ns * 1024) (c.wrap * 2 ^ 42 + c.ns * 1024)
  decide (d < 0) || (d == 0 && decide (a.ident < c.ident))

/-- The primitive that comes first. -/
def firstPrim (l : List PrimitiveMsg) : Option PrimitiveMsg :=
  l.foldl (fun (r : Option PrimitiveMsg) m =>
    match r with
    | some x => if primBefore m x then some m else some x
    | none => some m) none

/-- The enabled rules, in order, under an epoch's settings. -/
def EpochCfg.rules (c : EpochCfg) : List Nat := (List.range 64).filter fun r => c.flag (F.TRG_RULE_CFG_ENABLE r)

/-- GWIN_MAX plus COLLECT in ns (R294, R295). -/
def Block.holdNs (b : Block) (c : EpochCfg) : Nat :=
  c.rules.foldl (fun m r => max m (c.get (F.TRG_RULE_GWIN r))) 0 + b.master.collect * 1000

/-- PRIMITIVE_RX (R288, R466): the port of the node is noted; the acting master takes the primitive, any other module sends it on to its
parent. -/
def primitiveRx (p : Nat) (m : PrimitiveMsg) (b : Block) : Block :=
  whenDue b.ccOn (fun b =>
    { b with fab := { b.fab with primPort := insertKey b.fab.primPort (identNode m.ident) p } }.sendPrimitive m) b

/-- PRIMITIVE_RX (R288). -/
def execPrimitiveRx (p : Nat) (m : PrimitiveMsg) (s : State) : Host.Outcome State Fault Refusal :=
  onHw (Instr.wf (.primitiveRx p m)) s (primitiveRx p m)

/-! ### Decisions (R289, R294, R296) -/

/-- Nodes whose role is TRIGGER_STANDBY, as their CAPs say (R454, R296). -/
def Block.standbyNodes (b : Block) : List Nat := b.fab.caps.filterMap fun c => if bitAt c.2.roles 3 then some c.2.node else none

/-- A decision goes to its node: applied here where it names this node, else down the tree (R289). -/
def Block.deliverDecision (b : Block) (m : DecisionMsg) : Block :=
  if b.isSelf (identNode m.ident) then b.applyDecision m
  else
    match lookup b.fab.primPort (identNode m.ident) with
    | some p => b.post (.hop p) 2 (.decision m)
    | none => b.post (.node (identNode m.ident)) 2 (.decision m)

/-- A decision is sent and kept until it is acknowledged, with a copy to the standby master (R40, R296). -/
def Block.sendDecision (b : Block) (m : DecisionMsg) (time : Nat) : Block :=
  let b1 := { b with master := { b.master with out := b.master.out ++ [(m, time)] } }
  (b1.standbyNodes.foldl (fun c n => c.post (.node n) 2 (.decision m)) b1).deliverDecision m

/-- REJECT of a primitive (R294). -/
def Block.reject (b : Block) (rule : Nat) (p : PrimitiveMsg) : Block :=
  b.sendDecision ⟨2, b.get F.TRG_STAT_TERM, p.ident, true, 0, 0, rule, 0, 0⟩ (primTime p)

/-- The value of a widened window: the rule's, or where that is 0 the one of the member's group (R294). -/
def wideValue (rule own : Nat) : Nat := if rule = 0 then own else rule

/-- ACCEPT of a member, and the SUPERSEDE that a widening rule sends after it (R294). -/
def Block.acceptOne (b : Block) (c : EpochCfg) (r n : Nat) (builder : Option Nat) (p : PrimitiveMsg) : Block :=
  let m : DecisionMsg := ⟨1, b.get F.TRG_STAT_TERM, p.ident, builder.isNone, builder.getD 0, n, r, 0, 0⟩
  let pre := c.get (F.TRG_RULE_WPRE r)
  let post := c.get (F.TRG_RULE_WPOST r)
  let b1 := b.sendDecision m (primTime p)
  if pre = 0 && post = 0 then b1
  else b1.sendDecision { m with
    kind := 3, newPre := wideValue pre (c.get (F.TRG_G_PRE p.group)), newPost := wideValue post (c.get (F.TRG_G_POST p.group)) } (primTime p)

/-- An ANNOUNCE to a builder (R290, R347). -/
def Block.sendAnnounce (b : Block) (n : Nat) (m : AnnounceMsg) : Block :=
  if b.isSelf n then b.announce m else b.post (.node n) 2 (.announce m)

/-- The distinct nodes of primitives. -/
def primNodes (l : List PrimitiveMsg) : List Nat := (l.map fun p => identNode p.ident).eraseDups

/-- A set accepted under a rule: one event (R294). -/
def Block.acceptSet (b : Block) (c : EpochCfg) (r : Nat) (l : List PrimitiveMsg) : Block :=
  let n := (b.get64 F.TRG_M_EVNO_LO F.TRG_M_EVNO_HI + 1) % 2 ^ 48
  let b1 := b.put64 F.TRG_M_EVNO_LO F.TRG_M_EVNO_HI n
  let count := b1.get F.TRG_BUILDERS
  let builder := if count = 0 then none else some (b1.get (F.TRG_BUILDER (n % count)))
  let a : AnnounceMsg := ⟨b1.get F.TRG_STAT_TERM, n, ((primNodes l).map fun i => 2 ^ i).sum⟩
  let b2 := match builder with
    | some d => { b1.sendAnnounce d a with
        master := { b1.master with announced := (b1.master.announced.filter fun x => !b1.resolved2s x.2.2) ++ [(a, d, b1.epochNow)] } }
    | none => b1
  let b3 := l.foldl (fun d p => d.acceptOne c r n builder p) b2
  if c.flag (F.TRG_RULE_CFG_RETRO r) then
    match firstPrim l with
    | some p =>
      b3.post (.group (c.get (F.TRG_RULE_CFG_RETRO_MCAST r))) 2
        (.retro ⟨c.get (F.TRG_RULE_PS_RETRO_GROUP r), b3.get F.TRG_STAT_TERM, p.ident, p.wrap, p.ns, p.w2, n⟩)
    | none => b3
  else b3

/-- The members of a rule's set around a primitive. -/
def ruleSet (c : EpochCfg) (r : Nat) (p : PrimitiveMsg) (l : List PrimitiveMsg) : List PrimitiveMsg :=
  l.filter fun q => bitAt (c.get (F.TRG_RULE_CFG_CLASS_MASK r)) q.cls
    && decide ((visibleDiff (primTime q) (primTime p)).natAbs ≤ c.get (F.TRG_RULE_GWIN r) * 1024)

/-- The first enabled rule that a primitive and its neighbours meet. -/
def metRule (c : EpochCfg) (p : PrimitiveMsg) (l : List PrimitiveMsg) : Option Nat :=
  c.rules.find? fun r => bitAt (c.get (F.TRG_RULE_CFG_CLASS_MASK r)) p.cls
    && decide (max 1 (c.get (F.TRG_RULE_CFG_MIN_MODULES r)) ≤ (primNodes (ruleSet c r p l)).length)

/-- Primitives no longer held. -/
def Block.dropPrims (b : Block) (l : List PrimitiveMsg) : Block :=
  { b with master := { b.master with prims := b.master.prims.filter fun p => !l.contains p } }

/-- The decision of the primitive that comes first (R294). (DEDUCED, log entry 45.) -/
def Block.decidePrim (b : Block) (c : EpochCfg) (p : PrimitiveMsg) : Block :=
  match metRule c p b.master.prims with
  | none => (b.dropPrims [p]).reject 0 p
  | some r =>
    let s := ruleSet c r p b.master.prims
    let n := (b.get (F.TRG_RULE_MATCH r) + 1) % 2 ^ 32
    let b1 := (b.put (F.TRG_RULE_MATCH r) n).dropPrims s
    if n % max 1 (c.get (F.TRG_RULE_PS_PRESCALE r)) = 0 then b1.acceptSet c r s else s.foldl (fun d q => d.reject r q) b1

/-- PRIMITIVE_DUE: the acting master decides the primitive that comes first, once its time has passed (R294). -/
def primitiveDue (b : Block) : Block :=
  let c := b.cfgOf b.epochNow
  match firstPrim b.master.prims with
  | some p =>
    whenDue (b.ccOn && b.acting && decide (((b.holdNs c * 1024 : Nat) : Int) < visibleDiff (visible b.stampRaw) (primTime p)))
      (fun b => b.decidePrim c p) b
  | none => b

/-- PRIMITIVE_DUE (R294). -/
def execPrimitiveDue (s : State) : Host.Outcome State Fault Refusal :=
  onHw (Instr.wf .primitiveDue) s primitiveDue

/-- DECISION_REPEAT: a decision not acknowledged is sent again until its deadline passes (R40). -/
def decisionRepeat (ident kind : Nat) (b : Block) : Block :=
  match b.master.out.find? fun d => d.1.ident == ident && d.1.kind == kind with
  | some d =>
    whenDue (b.ccOn && b.acting) (fun b =>
      if b.past (((d.2 * 2 ^ 22 : Nat) : Int) + b.deadlineRaw) then b.masterAck (ackOf d.1) else b.deliverDecision d.1) b
  | none => b

/-- DECISION_REPEAT (R40). -/
def execDecisionRepeat (ident kind : Nat) (s : State) : Host.Outcome State Fault Refusal :=
  onHw (Instr.wf (.decisionRepeat ident kind)) s (decisionRepeat ident kind)

/-- DECISION_ACK_RX (R290): the master hears it; any other module sends it on to its parent. -/
def decisionAckRx (m : DecisionAckMsg) (b : Block) : Block := whenDue b.ccOn (fun b => b.ackDecision m) b

/-- DECISION_ACK_RX (R290). -/
def execDecisionAckRx (m : DecisionAckMsg) (s : State) : Host.Outcome State Fault Refusal :=
  onHw (Instr.wf (.decisionAckRx m)) s (decisionAckRx m)

/-! ### Heartbeats and the change of master (R292, R293, R295 to R297) -/

/-- The higher of two seals. -/
def sealMax (o : Option Nat) (k : Nat) : Option Nat :=
  match o with
  | some x => if keyLe k x then some x else some k
  | none => some k

/-- A seal reaches this module (R293). -/
def Block.takeSeal (b : Block) (k : Nat) : Block :=
  ({ b with evb := { b.evb with sealed := sealMax b.evb.sealed k } }.sealEpochs).resolveEpochs

/-- A heartbeat on to every child port of the trigger tree (R292). -/
def Block.heartbeatDown (b : Block) (m : HeartbeatMsg) : Block :=
  (b.childPorts 2).foldl (fun c p => c.post (.hop p) 2 (.heartbeat m)) b

/-- The acting master meets a higher term: it stops at once (R297). (DEDUCED, log entry 45.) -/
def Block.stepDown (b : Block) (term : Nat) : Block :=
  let b1 := ((b.put F.TRG_STAT_ACTING 0).bump F.TRG_M_STEPDOWN_CNT).raise 157 term
  { b1 with master := { b1.master with prims := [], out := [], announced := [] } }

/-- HEARTBEAT_RX (R292, R293, R297): one of a lower term is discarded and counted as a decision is, and never acknowledged (R39). -/
def heartbeatRx (viaTree : Bool) (m : HeartbeatMsg) (b : Block) : Block :=
  whenDue b.ccOn (fun b =>
    let term := b.get F.TRG_STAT_TERM
    if m.term < term then b.bump F.EVB_STALE_DECISION
    else if b.acting && m.term == term then b
    else
      let b1 := if b.acting then b.stepDown m.term else b
      let b2 := ((b1.resolveEpochs.seeTerm m.term).seeEvno m.eventNo).put F.TRG_STAT_MASTER_NODE m.master
      let b3 := { b2 with master := { b2.master with beat := b2.tick } }.takeSeal (m.sealedWrap * 4096 + m.sealedEpoch)
      if viaTree then b3.heartbeatDown m else b3) b

/-- HEARTBEAT_RX (R293). -/
def execHeartbeatRx (viaTree : Bool) (m : HeartbeatMsg) (s : State) : Host.Outcome State Fault Refusal :=
  onHw (Instr.wf (.heartbeatRx viaTree m)) s (heartbeatRx viaTree m)

/-- The highest epoch that the master may seal now: its end plus GWIN_MAX and COLLECT has passed, and no primitive of it or of an
earlier one is undecided (R295). -/
def Block.sealable (b : Block) : Nat :=
  let c := b.cfgOf b.epochNow
  let t := (epochOf (wrapTime ((b.stampRaw : Int) - ((b.holdNs c * 2 ^ 32 : Nat) : Int) - 1)) + 2 ^ 28 - 1) % 2 ^ 28
  b.master.prims.foldl (fun k p =>
    let e := p.wrap * 4096 + p.ns / 2 ^ 20
    if keyLe e k then (e + 2 ^ 28 - 1) % 2 ^ 28 else k) t

/-- The acting master's HEARTBEAT at an epoch boundary (R292, R295): down the tree, and to the standby master; its own module takes
the seal. -/
def Block.heartbeat (b : Block) : Block :=
  if !b.acting then b
  else
    let k := match b.master.sealed with
      | some x => if keyLe b.sealable x then x else b.sealable
      | none => b.sealable
    let b1 := { (b.put F.TRG_M_SEALED_EPOCH (k % 4096)).put F.TRG_M_SEALED_WRAP (k / 4096) with
      master := { b.master with sealed := some k } }
    let m : HeartbeatMsg := ⟨b.get F.TRG_STAT_TERM, b.node, k / 4096 % 65536, k % 4096, b.get64 F.TRG_M_EVNO_LO F.TRG_M_EVNO_HI⟩
    let b2 := b1.standbyNodes.foldl (fun c n => c.post (.node n) 2 (.heartbeat m)) (b1.heartbeatDown m)
    b2.takeSeal k

/-- TRIGGER_STANDBY_TAKEOVER (R37, R296): no HEARTBEAT for DEC_DEADLINE. -/
def triggerStandbyTakeover (b : Block) : Block :=
  whenDue (b.phase == .live && !b.acting && (b.flag F.TRG_STAT_ROLE_STANDBY || b.flag F.TRG_STAT_ROLE_MASTER)
      && decide (b.master.beat + b.get F.TRG_DEADLINE * usTicks ≤ b.tick)) (fun b =>
    let term := (b.get F.TRG_STAT_TERM + 1) % 65536
    let b1 := b.resolveEpochs
    let b2 := (b1.put F.TRG_STAT_TERM term).put64 F.TRG_M_EVNO_LO F.TRG_M_EVNO_HI
      ((b1.get64 F.TRG_M_EVNO_LO F.TRG_M_EVNO_HI + 2 ^ 24 - 1) % 2 ^ 48)
    let b3 := ((b2.put F.TRG_STAT_ACTING 1).put F.TRG_STAT_MASTER_NODE b.node).raise 156 term
    { b3 with master := { b3.master with sealed := some b3.epochNow, prims := [], out := [], announced := [] } }) b

/-- TRIGGER_STANDBY_TAKEOVER (R296). -/
def execTriggerStandbyTakeover (s : State) : Host.Outcome State Fault Refusal :=
  onHw (Instr.wf .triggerStandbyTakeover) s triggerStandbyTakeover

/-- The acting master re-announces the event numbers of a departed builder to the next one (R55, R352). -/
def Block.reannounce (b : Block) (d : Nat) : Block :=
  match b.nextBuilder d with
  | none => b
  | some n =>
    if !b.acting then b
    else
      let mine := b.master.announced.filter fun x => x.2.1 == d && !b.resolved2s x.2.2
      let b1 := { b with master := { b.master with
        announced := b.master.announced.map fun (x : AnnounceMsg × Nat × Nat) => if x.2.1 = d then (x.1, n, x.2.2) else x } }
      mine.foldl (fun c x => c.sendAnnounce n x.1) b1

end Sys2Proof.Machine
end

