-- ==== Sys2Proof/Machine/PowerCmd.lean ====
section
/-! DEFINITION. Supply, Fill, Hibernate, votes that lapse, levels and Squirrel's samples: the commands of power (R80, R497 to R517,
R604). -/

namespace Sys2Proof.Machine

open Sys2Proof

/-! ### Off, Fill and Fault (R80, R497, R554, R555, R604) -/

/-- Fill begins: every domain is on, both concentrators fill, BOOT is drawn (R80, R448, R498, R554). -/
def Block.beginFill (b : Block) : Block :=
  let b1 := (List.range 19).foldl (fun c d => c.put (F.PWR_D_STAT_STATE d) 2) { b with phase := .fill }
  ((b1.put F.FAB_STAT_BOOT (Config.bootDraw b.free % 65535 + 1)).drawn.put F.PAIR_STAT_SB_STATE 1).showStandby.settlePower

/-- VIN comes within range with RST_N high (R80). -/
def vinValid (b : Block) : Block := whenDue (b.phase == .off) Block.beginFill b

/-- VIN_VALID (R80). -/
def execVinValid (s : State) : Host.Outcome State Fault Refusal :=
  onHw (Instr.wf .vinValid) s vinValid

/-- VIN_CUTOFF (R497): D_AON too turns off, and the start that follows is a power-on. -/
def vinCutoff (b : Block) : Block := b.toOff causePor true

/-- VIN_CUTOFF (R497). -/
def execVinCutoff (s : State) : Host.Outcome State Fault Refusal :=
  onHw (Instr.wf .vinCutoff) s vinCutoff

/-- The module wakes from Hibernate for a cause of PWR_WAKE (R504): the path of R80 with RESET_CAUSE HIB_WAKE. -/
def Block.wake (b : Block) (cause lanes : Nat) : Block :=
  (((b.put F.PWR_WAKE_CAUSE cause).put F.PWR_WAKE_LANES lanes).toOff causeWake false).beginFill

/-- RST_N_RESET (R604): a pulse shorter than the filter of 1 µs is ignored, one of 10 µs or more accepted; between, a free value
tells. It wakes a module in Hibernate (R504). -/
def rstNReset (lowNs : Nat) (b : Block) : Block :=
  whenDue (b.phase != .off && (decide (10000 ≤ lowNs) || (decide (1000 ≤ lowNs) && Config.resetTaken lowNs))) (fun b =>
    if b.phase == .hibernate then b.wake 5 0 else b.toOff causePin false) b

/-- RST_N_RESET (R604). -/
def execRstNReset (lowNs : Nat) (s : State) : Host.Outcome State Fault Refusal :=
  onHw (Instr.wf (.rstNReset lowNs)) s (rstNReset lowNs)

/-- The module enters Fault with a code whose fault lies in no entry (R83, R86, R87). (DEDUCED, log entry 22.) -/
def Block.toFault (b : Block) (code : Nat) : Block :=
  { (b.put F.SYS_BOOT_ERR_CODE code).put F.SYS_BOOT_ERR_DETAIL_IDX (if code = 0 then 0 else 0xFFFF) with phase := .fault, boot := { b.boot with reportTick := some b.tick } }.settlePower

/-- FILL_DONE (R80, R554, R555): straps sampled, results shown; a failed tile is held off, a failed concentrator counts as FAILED.
(DEDUCED, log entry 7, DEDUCED, log entry 66.) -/
def fillDone (r : FillResult) (b : Block) : Block :=
  whenDue (b.phase == .fill) (fun b =>
    let a := r.fillA && r.testA
    let c := r.fillB && r.testB
    let b1 := ((((b.put F.ECC_BIST_DONE 1).put F.ECC_BIST_TILE_PASS r.tiles).putB F.ECC_BIST_PT_PASS r.pt).putB F.ECC_BIST_CCA_PASS a).putB
      F.ECC_BIST_CCB_PASS c
    let b2 := ((b1.put F.IDN_CAP_TILE_PRESENT r.tiles).put F.IDN_CAP_CC_PRESENT (b2n a + 2 * b2n c)).put F.SYS_STATE_BOOT_SEL r.strap
    let b3 := { b2 with
      prec := { b2.prec with fillTick := b2.tick }
      pair := { b2.pair with wdogTick := b2.tick, selfTick := [(0, b2.tick), (1, b2.tick)] } }
    if !r.pt then b3.toFault 0x0A
    else if !a && !c then b3.toFault (if !r.fillA && !r.fillB then 0x0B else 0x0A)
    else
      let both := a && c
      { ((b3.put F.IDN_ACTIVE (b2n (!a))).put F.PAIR_STAT_SB_STATE (if both then 2 else 5)).putB F.PAIR_STAT_MIRROR_UP both with
        phase := .verify }.showStandby.settlePower) b

/-- FILL_DONE (R80). -/
def execFillDone (r : FillResult) (s : State) : Host.Outcome State Fault Refusal :=
  onHw (Instr.wf (.fillDone r)) s (fillDone r)

/-- FAULT_REPORT (R83): the line "LMA FAULT cc", cc in two hexadecimal digits. (DEDUCED, log entry 22.) -/
def faultReport (b : Block) : Block :=
  let hex (n : Nat) : Nat := if n < 10 then 48 + n else 55 + n
  let code := b.get F.SYS_BOOT_ERR_CODE
  whenDue (b.phase == .fault && decide (b.boot.reportTick.getD 0 + sTicks ≤ b.tick)) (fun b =>
    { b.emit (.svc ([76, 77, 65, 32, 70, 65, 85, 76, 84, 32] ++ [hex (code / 16 % 16), hex (code % 16)])) with
      boot := { b.boot with reportTick := some b.tick } }) b

/-- FAULT_REPORT (R83). -/
def execFaultReport (s : State) : Host.Outcome State Fault Refusal :=
  onHw (Instr.wf .faultReport) s faultReport

/-! ### Hibernate (R503 to R506, R492) -/

/-- DETECTOR_ARM (R504): 10 ms after entry. -/
def detectorArm (b : Block) : Block :=
  whenDue (b.phase == .hibernate && !b.pwr.armed && decide (b.pwr.hibTick + 10 * msTicks ≤ b.tick))
    (fun b => { b with pwr := { b.pwr with armed := true } }) b

/-- DETECTOR_ARM (R504). -/
def execDetectorArm (s : State) : Host.Outcome State Fault Refusal :=
  onHw (Instr.wf .detectorArm) s detectorArm

/-- KNOCK_DETECT (R492, R504): a lane detector recognises a knock, or energy that is none; KNOCK wakes on a knock, ANY on both. -/
def knockDetect (l : Nat) (knock : Bool) (b : Block) : Block :=
  let mode := b.get F.PWR_HIB_LANE / 4 ^ l % 4
  whenDue (b.phase == .hibernate && b.pwr.armed && ((mode == 1 && knock) || mode == 2))
    (fun b => b.wake (if mode = 1 then 1 else 2) (2 ^ l)) b

/-- KNOCK_DETECT (R492). -/
def execKnockDetect (l : Nat) (knock : Bool) (s : State) : Host.Outcome State Fault Refusal :=
  onHw (Instr.wf (.knockDetect l knock)) s (knockDetect l knock)

/-- WAKE_TIMER_EXPIRE (R504, R506): after a thermal entry CAUSE stays THERMAL. -/
def wakeTimerExpire (b : Block) : Block :=
  whenDue (b.phase == .hibernate && b.pwr.wakeS != 0 && decide (b.pwr.hibTick + b.pwr.wakeS * sTicks ≤ b.tick))
    (fun b => b.wake (if b.pwr.thermal then 4 else 3) 0) b

/-- WAKE_TIMER_EXPIRE (R504). -/
def execWakeTimerExpire (s : State) : Host.Outcome State Fault Refusal :=
  onHw (Instr.wf .wakeTimerExpire) s wakeTimerExpire

/-- THERMAL_TRIP (R506): Hibernate by R503, PWR_WAKE.CAUSE at THERMAL. -/
def thermalTrip (b : Block) : Block :=
  whenDue b.phase.railsOn (fun b =>
    { b.put F.PWR_WAKE_CAUSE 4 with pwr := { b.pwr with thermal := true } }.hibernateWhenFree) b

/-- THERMAL_TRIP (R506). -/
def execThermalTrip (s : State) : Host.Outcome State Fault Refusal :=
  onHw (Instr.wf .thermalTrip) s thermalTrip

/-! ### Votes that lapse (R508, R509) -/

/-- VOTE_LEASE_EXPIRE (R508): LEASE_S after its last cast; 0 means no lapse. -/
def voteLeaseExpire (d node : Nat) (b : Block) : Block :=
  let due (x : Voter) : Bool := x.dom == d && x.node == node && x.lease != 0 && decide (x.tick + x.lease * sTicks ≤ b.tick)
  whenDue (b.phase.railsOn && b.pwr.voters.any due)
    (fun b => { b with pwr := { b.pwr with voters := b.pwr.voters.filter fun x => !due x } }.settleDom d) b

/-- VOTE_LEASE_EXPIRE (R508). -/
def execVoteLeaseExpire (d node : Nat) (s : State) : Host.Outcome State Fault Refusal :=
  onHw (Instr.wf (.voteLeaseExpire d node)) s (voteLeaseExpire d node)

/-- ACCESS_VOTE_EXPIRE (R509): 1 s after the domain's last access. -/
def accessVoteExpire (d : Nat) (b : Block) : Block :=
  whenDue (b.phase.railsOn && bitAt (b.get (F.PWR_D_STAT_VOTES d)) 5 && decide (lookupD b.pwr.accessTick d 0 + sTicks ≤ b.tick))
    (fun b => (b.put (F.PWR_D_STAT_VOTES d) (setBit (b.get (F.PWR_D_STAT_VOTES d)) 5 false)).settleDom d) b

/-- ACCESS_VOTE_EXPIRE (R509). -/
def execAccessVoteExpire (d : Nat) (s : State) : Host.Outcome State Fault Refusal :=
  onHw (Instr.wf (.accessVoteExpire d)) s (accessVoteExpire d)

/-! ### Levels, samples, evaluations (R499, R511 to R513) -/

/-- LEVEL_TRANSITION_DONE (R499, R511): the level is in force, and with it the gate's limit; then the pending request. -/
def levelTransitionDone (b : Block) : Block :=
  whenDue (b.phase.railsOn && b.flag F.PWR_STAT_LEVEL_BUSY) (fun b =>
    let l := b.get F.PWR_STAT_LEVEL_TGT
    let b1 := (b.put F.PWR_STAT_LEVEL_NOW l).put F.PWR_STAT_LEVEL_BUSY 0
    let b2 := { b1 with pwr := { b1.pwr with gate := l, levelPending := none } }
    match b.pwr.levelPending with
    | some n => b2.requestLevel n
    | none => b2) b

/-- LEVEL_TRANSITION_DONE (R499). -/
def execLevelTransitionDone (s : State) : Host.Outcome State Fault Refusal :=
  onHw (Instr.wf .levelTransitionDone) s levelTransitionDone

/-- POWER_SAMPLE (R512): input power in mW over 1 ms, and the highest Tj in °C, whenever the PM die has its supply. -/
def powerSample (mw : Nat) (tj : Int) (b : Block) : Block :=
  whenDue (b.phase != .off) (fun b =>
    let uj := b.pwr.microJ + mw
    let b1 := (((b.put F.BDG_P_NOW mw).put F.BDG_P_MAX (max mw (b.get F.BDG_P_MAX))).put64 F.BDG_E_TOTAL_LO F.BDG_E_TOTAL_HI
      ((b.get64 F.BDG_E_TOTAL_LO F.BDG_E_TOTAL_HI + uj / 1000) % 2 ^ 64)).put F.BDG_TJ (unsigned 8 (clampI (-128) 127 tj))
    let b2 := { b1 with pwr := { b1.pwr with
      microJ := uj % 1000
      samples := (mw :: b1.pwr.samples).take 86400000
      since := (b1.pwr.since.1 + mw, b1.pwr.since.2 + 1)
      peak := max b1.pwr.peak mw } }
    b2.put F.BDG_P_AVG b2.windowMean) b

/-- POWER_SAMPLE (R512). -/
def execPowerSample (mw : Nat) (tj : Int) (s : State) : Host.Outcome State Fault Refusal :=
  onHw (Instr.wf (.powerSample mw tj)) s (powerSample mw tj)

/-- SQUIRREL_EVAL_TIMER (R513): every 262 144 ticks while the stamping time is not established. -/
def squirrelEvalTimer (b : Block) : Block :=
  whenDue (b.phase.railsOn && !b.time.established && decide (b.pwr.evalTick + 262144 ≤ b.tick))
    (fun b => b.squirrel.settlePower) b

/-- SQUIRREL_EVAL_TIMER (R513). -/
def execSquirrelEvalTimer (s : State) : Host.Outcome State Fault Refusal :=
  onHw (Instr.wf .squirrelEvalTimer) s squirrelEvalTimer

end Sys2Proof.Machine
end

