-- ==== Sys2Proof/Machine/Tst.lean ====
section
/-! DEFINITION. Test perturbations (R585 to R588) and the IEEE 1149.1 chain (R591). -/

namespace Sys2Proof.Machine

open Sys2Proof

/-! ### Arming (R585 to R588) -/

/-- The conditions of R585 hold. -/
def Block.tstAuth (b : Block) : Bool := bitAt (b.get F.SEC_EXPERT) 18 && bitAt (b.get F.SEC_DEBUG) 4

/-- Source TST_ACTIVE follows the mask (R541, R588). -/
def Block.showTst (b : Block) : Block :=
  b.setLevel 232 (b.flag F.TST_STAT_MASK) (b.get F.TST_STAT_MASK)

/-- Every perturbation disarmed; those that were active in the epoch stay noted (R585, R588). -/
def Block.disarmTst (b : Block) : Block :=
  { (b.put F.TST_STAT_MASK 0).put F.TST_DUR_REMAIN 0 with tst := { TstSt.reset with epochMask := b.tst.epochMask } }.showTst

/-- The module is master of P or S, or has a child port in either tree (R587). -/
def Block.leadsTime (b : Block) : Bool :=
  b.time.p.master || b.time.s.master || b.get (F.FAB_TREE_STAT_CHILDREN 0) != 0 || b.get (F.FAB_TREE_STAT_CHILDREN 1) != 0

/-- An arming that R587 refuses. -/
def Block.armRefused (b : Block) (i : Nat) : Bool :=
  (i == 3 && b.leadsTime) || (i == 2 && b.get (F.FAB_PORT_MODE (b.get F.TST_LANE_LANE / 2)) == 2)

/-- A perturbation armed: what it counts starts anew (R586, R588). MEMERR and RESIDUE count as active when they act. (DEDUCED, log entry 63.) -/
def Block.armOne (b : Block) (i : Nat) : Block :=
  let t := b.tst
  let t1 : TstSt := match i with
    | 1 => { t with bpOn := true, bpTick := b.tick }
    | 2 => { t with frames := 0, losDone := b.get F.TST_LANE_KIND == 3 }
    | 3 => { t with timeFrames := 0 }
    | 4 => { t with memDone := false }
    | 5 => { t with residue := b.get F.TST_RES % 64 }
    | _ => t
  let b1 := { b.put F.TST_STAT_MASK (setBit (b.get F.TST_STAT_MASK) i true) with
    tst := { t1 with epochMask := if i < 4 then setBit t1.epochMask i true else t1.epochMask } }
  if i = 2 && b.get F.TST_LANE_KIND == 3 then (b1.emit (.idle (b.get F.TST_LANE_LANE) (b.get F.TST_LANE_K))).bump F.TST_INJ_CNT else b1

/-- A write of TST_ARM (R585 to R587): DISARM_ALL first, then the bits to arm, all or none. (DEDUCED, log entry 63.) -/
def tstArmOp (w : Nat) (b : Block) : Block × Status :=
  if !b.tstAuth then (b, .accessDenied)
  else
    let bits := ([0, 1, 2, 3, 4, 5] : List Nat).filter fun i => bitAt w i
    let refused := bits.filter b.armRefused
    if !refused.isEmpty then (b.bumpBy F.TST_REFUSE_CNT refused.length, .busyResource)
    else
      let b1 := if bitAt w 31 then b.disarmTst else b
      if bits.isEmpty then (b1, .ok)
      else ((bits.foldl Block.armOne (b1.put F.TST_DUR_REMAIN (max 1 (b.get F.TST_DUR_DURATION)))).showTst, .ok)

/-- An epoch boundary takes one epoch of the DURATION; the new epoch counts as perturbed unless it has run out (R585, R588). (DEDUCED, log entry 63.) -/
def Block.tstBoundary (b : Block) : Block :=
  let left := b.get F.TST_DUR_REMAIN - 1
  let b1 := b.put F.TST_DUR_REMAIN left
  { b1 with tst := { b1.tst with epochMask := if left = 0 then 0 else b.get F.TST_STAT_MASK % 16 } }

/-- TST_DURATION_END (R585). -/
def tstDurationEnd (b : Block) : Block :=
  whenDue (b.flag F.TST_STAT_MASK && !b.flag F.TST_DUR_REMAIN) Block.disarmTst b

/-- TST_DURATION_END (R585). -/
def execTstDurationEnd (s : State) : Host.Outcome State Fault Refusal :=
  onHw (Instr.wf .tstDurationEnd) s tstDurationEnd

/-- TST_BP_TOGGLE (R586): no new credit during ON_TICKS, then OFF_TICKS of normal advertising; 0 OFF_TICKS act as 1. (DEDUCED, log entry 63.) -/
def tstBpToggle (b : Block) : Block :=
  let span := if b.tst.bpOn then b.get F.TST_BP_DUTY_ON_TICKS else max 1 (b.get F.TST_BP_DUTY_OFF_TICKS)
  whenDue (bitAt (b.get F.TST_STAT_MASK) 1 && decide (b.tst.bpTick + span ≤ b.tick))
    (fun b => { b with tst := { b.tst with bpOn := !b.tst.bpOn, bpTick := b.tick } }) b

/-- TST_BP_TOGGLE (R586). -/
def execTstBpToggle (s : State) : Host.Outcome State Fault Refusal :=
  onHw (Instr.wf .tstBpToggle) s tstBpToggle

/-! ### The chain (R14, R591) -/

/-- The IDCODE of a die with its stepping and its die code. -/
def idcode (step die : Nat) : Nat :=
  (((step / 16 % 16 + 15) % 16 * 4 + step % 16) % 16) * 2 ^ 28 + die * 2 ^ 12 + 0x4B5 * 2 + 1

/-- The IDCODEs of the chain in its order PM, PT, FT0 to FT3, CC-A, CC-B. -/
def Block.idcodes (b : Block) : List Nat :=
  let ft := idcode (b.get F.IDN_DIESTEP_FT_STEP) 0x0103
  let cc := idcode (b.get F.IDN_DIESTEP_CC_STEP) 0x0104
  [idcode (b.get F.IDN_DIESTEP_PM_STEP) 0x0101, idcode (b.get F.IDN_DIESTEP_PT_STEP) 0x0102, ft, ft, ft, ft, cc, cc]

/-- A data scan: what the chain's register held leaves first, then what was shifted in. -/
def Block.shiftOut (b : Block) (held tdi : List Bool) : Block := b.emit (.tdo ((held ++ tdi).take tdi.length))

/-- A word's bits, the least significant first. -/
def wordBits (w : Nat) : List Bool := (List.range 32).map fun i => bitAt w i

/-- JTAG_BYPASS (R591): one bit per die, captured as 0, between TDI and TDO. (PRESUMED, log entry 64.) -/
def jtagBypass (tdi : List Bool) (b : Block) : Block :=
  whenDue b.phase.railsOn (fun b => { b with jtag := { b.jtag with ir := .bypass } }.shiftOut (List.replicate 8 false) tdi) b

/-- JTAG_BYPASS (R591). -/
def execJtagBypass (tdi : List Bool) (s : State) : Host.Outcome State Fault Refusal :=
  onHw (Instr.wf (.jtagBypass tdi)) s (jtagBypass tdi)

/-- JTAG_IDCODE (R591): the die nearest TDO leaves first, its least significant bit first. (PRESUMED, log entry 64.) -/
def jtagIdcode (tdi : List Bool) (b : Block) : Block :=
  whenDue b.phase.railsOn (fun b =>
    { b with jtag := { b.jtag with ir := .idcode } }.shiftOut (b.idcodes.reverse.flatMap wordBits) tdi) b

/-- JTAG_IDCODE (R591). -/
def execJtagIdcode (tdi : List Bool) (s : State) : Host.Outcome State Fault Refusal :=
  onHw (Instr.wf (.jtagIdcode tdi)) s (jtagIdcode tdi)

/-- JTAG_SAMPLE_PRELOAD (R591): the boundary register captures the pins and takes what is shifted in. (PRESUMED, log entry 64.) -/
def jtagSamplePreload (pins tdi : List Bool) (b : Block) : Block :=
  whenDue b.phase.railsOn (fun b =>
    { b with jtag := ⟨.sample, tdi⟩ }.shiftOut pins tdi) b

/-- JTAG_SAMPLE_PRELOAD (R591). -/
def execJtagSamplePreload (pins tdi : List Bool) (s : State) : Host.Outcome State Fault Refusal :=
  onHw (Instr.wf (.jtagSamplePreload pins tdi)) s (jtagSamplePreload pins tdi)

/-- JTAG_EXTEST (R591): the boundary register drives the pins, captures what they read, and drives what is shifted in. (PRESUMED, log entry 64.) -/
def jtagExtest (pins tdi : List Bool) (b : Block) : Block :=
  whenDue b.phase.railsOn (fun b =>
    (({ b.emit (.scan b.jtag.boundary) with jtag := ⟨.extest, tdi⟩ }).shiftOut pins tdi).emit (.scan tdi)) b

/-- JTAG_EXTEST (R591). -/
def execJtagExtest (pins tdi : List Bool) (s : State) : Host.Outcome State Fault Refusal :=
  onHw (Instr.wf (.jtagExtest pins tdi)) s (jtagExtest pins tdi)

/-- TAP_RESET (R591): TRST_N resets the controllers of the chain. -/
def tapReset (b : Block) : Block := { b with jtag := { b.jtag with ir := .idcode } }

/-- TAP_RESET (R591). -/
def execTapReset (s : State) : Host.Outcome State Fault Refusal :=
  onHw (Instr.wf .tapReset) s tapReset

end Sys2Proof.Machine
end

