-- ==== Sys2Proof/Machine/Wear.lean ====
section
/-! DEFINITION. Service life and wear (R610 to R612). -/

namespace Sys2Proof.Machine

open Sys2Proof

/-! ### The acceleration factor (R611) -/

/-- The sum of n terms of the exponential series of t / 2^80, in 2^-80, from the k-th term on. -/
def expSum (t k term acc : Nat) : Nat → Nat
  | 0 => acc
  | n + 1 => expSum t (k + 1) (term * t / 2 ^ 80 / (k + 1)) (acc + term) n

/-- The exponential of num / den, in 2^-80. -/
def expFix (num : Int) (den : Nat) : Nat :=
  let e := expSum (num.natAbs * 2 ^ 80 / den) 0 (2 ^ 80) 0 160
  if 0 ≤ num then e else 2 ^ 160 / e

/-- AF of R611 at a junction temperature in °C, in 10^-6: exp(10 444 K × (1/333.15 K − 1/(Tj + 273.15 K))). (DESIGN CHOICE, log entry 65.) -/
def accelFactor (tj : Int) : Nat :=
  let k := (100 * tj + 27315).toNat
  expFix (10444 * 100 * ((k : Int) - 33315)) (33315 * max 1 k) * 1000000 / 2 ^ 80

/-- The budget that a minute takes, in 1 / (6 × 10^9) ppm: 1.82 ppm/h × AF / 60. -/
def minuteUse (tj : Int) : Nat := 182 * accelFactor tj

/-- The bin of a junction temperature (R612). -/
def tjBin (tj : Int) : Nat := if tj < 50 then 0 else if tj ≤ 65 then 1 else if tj ≤ 80 then 2 else 3

/-- The value of an integral term at hand, drawn once a minute while a domain is in TRACK at quality 0 (R611). -/
def Block.measureAge (b : Block) : Block :=
  let on (x : Nat) : Bool := b.get (F.TIM_DOM_STATE_SYNC_STATE x) == syTrack && (b.domain x).quality == 0
  if on 0 || on 1 then
    { b.drawn with wear := { b.wear with now := { b.wear.now with age := Config.ovenAge b.free } } }
  else b

/-- EM_BUDGET_ACCUMULATE (R611): a powered minute with each die's Tj in °C, in the order of SYS_WEAR_EM.DIE. (DESIGN CHOICE, log entry 65.) -/
def emBudgetAccumulate (tj : List Int) (b : Block) : Block :=
  whenDue b.phase.railsOn (fun b =>
    let w := b.wear.now
    let hot := tj.foldl max (tj.headD 0)
    let em := (List.range 8).foldl (fun t i => modifyKey t i 0 (· + minuteUse (tj.getD i 0))) w.em
    { b with wear := { b.wear with now := { w with
      em := em
      minutes := w.minutes + 1
      bins := modifyKey w.bins (tjBin hot) 0 (· + 1)
      ovnMinutes := w.ovnMinutes + b2n (b.domainOn 17) } } }.measureAge) b

/-- EM_BUDGET_ACCUMULATE (R611). -/
def execEmBudgetAccumulate (tj : List Int) (s : State) : Host.Outcome State Fault Refusal :=
  onHw (Instr.wf (.emBudgetAccumulate tj)) s (emBudgetAccumulate tj)

/-- A day's DRAM corrections put at the head of the last 60 days. -/
def Wear.closeDay (w : Wear) : Wear :=
  { w with
    ages := (w.age :: w.ages).take 31
    corrDays := ([0, 1] : List Nat).foldl (fun t x => insertKey t x ((lookupD w.corr x 0 :: lookupD t x []).take 60)) w.corrDays
    corr := [] }

/-- WEAR_STORE_UPDATE (R611): at every 24 h of powered time. -/
def wearStoreUpdate (b : Block) : Block :=
  whenDue (b.phase.railsOn && decide (b.wear.store.minutes + 1440 ≤ b.wear.now.minutes))
    (fun b => { b with wear := ⟨b.wear.now.closeDay, b.wear.now.closeDay⟩ }) b

/-- WEAR_STORE_UPDATE (R611). -/
def execWearStoreUpdate (s : State) : Host.Outcome State Fault Refusal :=
  onHw (Instr.wf .wearStoreUpdate) s wearStoreUpdate

/-! ### What the registers show (R612) -/

/-- The mean of a list of daily counts, over the days there are. (DESIGN CHOICE, log entry 65.) -/
def dayMean (l : List Nat) : Nat := (divOpen (l.sum : Nat) (max 1 l.length)).toNat

/-- The die with the highest use, the lowest number of equals, and its use. -/
def Wear.worst (w : Wear) : Nat × Nat :=
  (List.range 8).foldl (fun (a : Nat × Nat) i => if a.2 < lookupD w.em i 0 then (i, lookupD w.em i 0) else a) (0, lookupD w.em 0 0)

/-- Ageing over the last 30 days, 10^-12 per day. -/
def Wear.agePpt (w : Wear) : Int :=
  match w.ages.getLast? with
  | some a => divOpen ((w.age - a) * 1000) (max 1 (w.ages.length - 1))
  | none => 0

/-- The wear registers of SYS, by address. (DESIGN CHOICE, log entry 65.) -/
def Block.wearWord (b : Block) (addr : Nat) : Option Nat :=
  let w := b.wear.now
  if addr = 0x10200 then some (satU 32 (w.minutes / 60))
  else if addr = 0x10204 then some (w.worst.1 * 2 ^ 28 + satU 20 (w.worst.2 / 6000000000))
  else if decide (0x10208 ≤ addr) && decide (addr < 0x10218) then some (satU 32 (lookupD w.bins ((addr - 0x10208) / 4) 0 / 60))
  else if addr = 0x10220 then some (unsigned 16 (satS 16 w.age) * 2 ^ 16 + satU 16 (w.ovnMinutes / 1440))
  else if addr = 0x10224 then some (unsigned 16 (satS 16 w.agePpt))
  else if addr = 0x10228 || addr = 0x1022c then
    let l := lookupD w.corrDays ((addr - 0x10228) / 4) []
    some (satU 16 (dayMean (l.take 30)) * 2 ^ 16
      + unsigned 16 (satS 16 ((dayMean (l.take 30) : Int) - (if (l.drop 30).isEmpty then dayMean (l.take 30) else dayMean (l.drop 30) : Nat))))
  else none

end Sys2Proof.Machine
end

