-- ==== Sys2Proof/Machine/Check.lean ====
section
/-! DEFINITION. The check-value units and the decompressor's jobs (R379, R391 to R395). -/

namespace Sys2Proof.Machine

open Sys2Proof

/-! ### Check-value units (R391 to R393) -/

/-- A general unit. -/
def Block.crcUnit (b : Block) (u : Nat) : CrcUnit := lookupD b.chk.units u ⟨0, none⟩

/-- A general unit replaced. -/
def Block.setCrcUnit (b : Block) (u : Nat) (x : CrcUnit) : Block := { b with chk := { b.chk with units := insertKey b.chk.units u x } }

/-- OWNER and LOCAL of a requester (R395). -/
def crcOwner : Requester → Nat × Nat
  | .node n => (n, 0)
  | .owl => (0, 1)
  | .warren k => (1 + k % 2, 1)

/-- The requester owns the unit. -/
def Block.ownsCrc (b : Block) (who : Requester) (u : Nat) : Bool :=
  b.flag (F.CRC_U_OWN_CLAIMED u) && b.get (F.CRC_U_OWN_OWNER u) == (crcOwner who).1 && b.get (F.CRC_U_OWN_LOCAL u) == (crcOwner who).2

/-- The owner's access keeps its claim alive (R391). -/
def Block.touchCrc (b : Block) (who : Requester) (u : Nat) : Block :=
  if b.ownsCrc who u then b.setCrcUnit u { b.crcUnit u with last := b.tick } else b

/-- The unit is free again (R391). -/
def Block.freeCrc (b : Block) (u : Nat) : Block :=
  ((b.put (F.CRC_U_OWN_CLAIMED u) 0).put (F.CRC_U_OWN_LOCAL u) 0).put (F.CRC_U_OWN_OWNER u) 0

/-- A unit's running value after some bytes (R389, R392). (DEDUCED, log entry 32.) -/
def crcRun (val : Nat) (l : List Nat) : Nat := (crc32Run (BitVec.ofNat 32 val) l).toNat

/-- Bytes per feed (R395). -/
def Block.crcBytes (b : Block) (u : Nat) : Nat :=
  let n := b.get (F.CRC_U_CTRL u)
  if decide (1 ≤ n) && decide (n ≤ 4) then n else 4

/-- A range job's start (R393). -/
def Block.crcGo (b : Block) (u : Nat) : Block :=
  let a := b.get (F.CRC_U_ADDR_LO u) + 2 ^ 32 * b.get (F.CRC_U_ADDR_HI u)
  let n := b.get (F.CRC_U_LEN u)
  let b1 := (b.put (F.CRC_U_STAT_POISON u) 0).put (F.CRC_U_DONE u) 0
  if decide (0x0100000000 ≤ a) && decide (a + n ≤ 0x0700000000) then
    (b1.put (F.CRC_U_STAT_BUSY u) 1).setCrcUnit u { b1.crcUnit u with job := some (a, n) }
  else b1.put (F.CRC_U_STAT_RESULT u) 2

/-- A range job's end after `n` bytes (R393). (DESIGN CHOICE, log entry 31.) -/
def Block.crcEnd (b : Block) (u a n result : Nat) : Block :=
  let b1 := b.checkRange a n
  let b2 := ((b1.put (F.CRC_U_VAL u) (crcRun (b1.get (F.CRC_U_VAL u)) (b1.load a n))).put (F.CRC_U_DONE u) n).put (F.CRC_U_STAT_BUSY u) 0
  ((b2.put (F.CRC_U_STAT_RESULT u) result).putB (F.CRC_U_STAT_POISON u) (b1.poisoned a n)).setCrcUnit u { b2.crcUnit u with job := none }

/-- A refused access of a unit (R391, R393). -/
def Block.crcRefuse (b : Block) : Block × Status := (b.bump F.CRC_REFUSE_CNT, .busyResource)

/-- A write to a general unit at an offset within its 0x40 bytes (R391 to R393, R395). (DESIGN CHOICE, log entry 31, DEDUCED, log entry 32.) -/
def crcOp (who : Requester) (u off w : Nat) (b : Block) : Block × Status :=
  let mine := b.ownsCrc who u
  let busy := b.flag (F.CRC_U_STAT_BUSY u)
  if !b.flag (F.CRC_U_OWN_CLAIMED u) then
    if off = 0 && bitAt w 29 then
      ((((b.put (F.CRC_U_OWN_CLAIMED u) 1).put (F.CRC_U_OWN_LOCAL u) (crcOwner who).2).put (F.CRC_U_OWN_OWNER u) (crcOwner who).1).put
        (F.CRC_U_VAL u) 0xFFFFFFFF |>.setCrcUnit u { b.crcUnit u with last := b.tick }, .ok)
    else b.crcRefuse
  else if !mine then b.crcRefuse
  else
    let b1 := b.setCrcUnit u { b.crcUnit u with last := b.tick }
    match off with
    | 0x00 => (if bitAt w 28 then b1.freeCrc u else b1, .ok)
    | 0x04 => (b1.put (F.CRC_U_CTRL u) w, .ok)
    | 0x08 => if busy then b1.crcRefuse else (b1.put (F.CRC_U_VAL u) w, .ok)
    | 0x0C => if busy then b1.crcRefuse else (b1.put (F.CRC_U_VAL u) (crcRun (b1.get (F.CRC_U_VAL u)) (leBytes (b1.crcBytes u) w)), .ok)
    | 0x14 => (b1.put (F.CRC_U_ADDR_LO u) w, .ok)
    | 0x18 => (b1.put (F.CRC_U_ADDR_HI u) w, .ok)
    | 0x1C => (b1.put (F.CRC_U_LEN u) w, .ok)
    | 0x20 =>
      if bitAt w 31 then if busy then b1.crcRefuse else (b1.crcGo u, .ok)
      else if bitAt w 30 then
        match (b1.crcUnit u).job with
        | some (a, n) => ((b1.crcEnd u a (Config.rangeDone b1.free % (n + 1)) 1).drawn, .ok)
        | none => (b1, .ok)
      else (b1, .ok)
    | _ => (b1, .ok)

/-- CRC_CLAIM_TIMEOUT (R391): 10 s after the owner's last access. -/
def crcClaimTimeout (u : Nat) (b : Block) : Block :=
  whenDue (b.ccOn && b.flag (F.CRC_U_OWN_CLAIMED u) && decide ((b.crcUnit u).last + 2500000000 ≤ b.tick)) (fun b => b.freeCrc u) b

/-- CRC_CLAIM_TIMEOUT (R391). -/
def execCrcClaimTimeout (u : Nat) (s : State) : Host.Outcome State Fault Refusal :=
  onHw (Instr.wf (.crcClaimTimeout u)) s (crcClaimTimeout u)

/-- CRC_RANGE_DONE (R393). (DEDUCED, log entry 32.) -/
def crcRangeDone (u : Nat) (b : Block) : Block :=
  match (b.crcUnit u).job with
  | some (a, n) => whenDue b.ccOn (fun b => (b.crcEnd u a n 0).actCritical b) b
  | none => b

/-- CRC_RANGE_DONE (R393). -/
def execCrcRangeDone (u : Nat) (s : State) : Host.Outcome State Fault Refusal :=
  onHw (Instr.wf (.crcRangeDone u)) s (crcRangeDone u)

/-! ### The decompressor (R379) -/

/-- The decompressor area. -/
abbrev djFrom : Nat := 0x06B0000000
abbrev djTo : Nat := 0x06B8000000

/-- A write of LPS_DJ_CMD (R379). (DEDUCED, log entry 33.) -/
def djOp (w : Nat) (b : Block) : Block × Status :=
  if !bitAt w 31 then (b, .ok)
  else if b.flag F.LPS_DJ_STAT_BUSY || b.phase == .verify || b.phase == .configure then (b.bump F.LPS_REFUSE_CNT, .busyResource)
  else
    let job : DjJob := ⟨b.get64 F.LPS_DJ_SRC_LO F.LPS_DJ_SRC_HI, b.get F.LPS_DJ_LEN, b.get64 F.LPS_DJ_DST_LO F.LPS_DJ_DST_HI,
      b.get F.LPS_DJ_ULEN, b.get F.LPS_DJ_CAP⟩
    ({ (b.put F.LPS_DJ_STAT_BUSY 1).put F.LPS_DJ_OUT 0 with chk := { b.chk with dj := some job } }, .ok)

/-- A range lies in the decompressor area. -/
def inDjArea (a n : Nat) : Bool := decide (djFrom ≤ a) && decide (a + n ≤ djTo)

/-- A job whose ranges leave the area, or overlap (R379). (DEDUCED, log entry 33.) -/
def DjJob.bad (j : DjJob) : Bool :=
  !inDjArea j.src j.len || !inDjArea j.dst j.ulen || unitsOverlap j.src j.len j.dst j.ulen

/-- A job's end with a result and the bytes it wrote (R376, R377, R394). (DEDUCED, log entry 33.) -/
def Block.djEnd (b : Block) (j : DjJob) (e : LpsEnd) (out : List Nat) : Block :=
  let b1 := ((b.store j.dst out).put F.LPS_DJ_STAT_BUSY 0).put F.LPS_DJ_STAT_RESULT e.code
  let b2 := { b1.put F.LPS_DJ_OUT out.length with chk := { b1.chk with dj := none } }
  if e = .ok then b2 else b2.bump F.LPS_DEC_FAIL_CNT

/-- LPS_DJ_DONE (R376, R379): the whole job acts here. (DEDUCED, log entry 33.) -/
def lpsDjDone (b : Block) : Block :=
  match b.chk.dj with
  | some j =>
    whenDue b.ccOn (fun b =>
      if j.bad then b.djEnd j .badArg []
      else
        let b1 := b.checkRange j.src j.len
        let r := lpsUnpackPoison (b1.load j.src j.len) j.ulen (min j.cap (djTo - j.dst)) fun i => b1.poisoned (j.src + i) 1
        (b1.djEnd j r.end_ r.out).actCritical b) b
  | none => b

/-- LPS_DJ_DONE (R376). -/
def execLpsDjDone (s : State) : Host.Outcome State Fault Refusal :=
  onHw (Instr.wf .lpsDjDone) s lpsDjDone

end Sys2Proof.Machine
end

