-- ==== Sys2Proof/Machine/Crypto.lean ====
section
/-! DEFINITION. The signatures of start-up and of commands (R102, R103, R119): SHA-384 of FIPS 180-4 and ECDSA of FIPS 186 on
brainpoolP384r1 of RFC 5639, with the constants of those standards. -/

namespace Sys2Proof.Machine

open Sys2Proof

/-! ### SHA-384 (R119) -/

/-- Round constants 0 to 19. -/
def shaK0 : List Nat := [
  0x428A2F98D728AE22, 0x7137449123EF65CD, 0xB5C0FBCFEC4D3B2F, 0xE9B5DBA58189DBBC,
  0x3956C25BF348B538, 0x59F111F1B605D019, 0x923F82A4AF194F9B, 0xAB1C5ED5DA6D8118,
  0xD807AA98A3030242, 0x12835B0145706FBE, 0x243185BE4EE4B28C, 0x550C7DC3D5FFB4E2,
  0x72BE5D74F27B896F, 0x80DEB1FE3B1696B1, 0x9BDC06A725C71235, 0xC19BF174CF692694,
  0xE49B69C19EF14AD2, 0xEFBE4786384F25E3, 0x0FC19DC68B8CD5B5, 0x240CA1CC77AC9C65]

/-- Round constants 20 to 39. -/
def shaK1 : List Nat := [
  0x2DE92C6F592B0275, 0x4A7484AA6EA6E483, 0x5CB0A9DCBD41FBD4, 0x76F988DA831153B5,
  0x983E5152EE66DFAB, 0xA831C66D2DB43210, 0xB00327C898FB213F, 0xBF597FC7BEEF0EE4,
  0xC6E00BF33DA88FC2, 0xD5A79147930AA725, 0x06CA6351E003826F, 0x142929670A0E6E70,
  0x27B70A8546D22FFC, 0x2E1B21385C26C926, 0x4D2C6DFC5AC42AED, 0x53380D139D95B3DF,
  0x650A73548BAF63DE, 0x766A0ABB3C77B2A8, 0x81C2C92E47EDAEE6, 0x92722C851482353B]

/-- Round constants 40 to 59. -/
def shaK2 : List Nat := [
  0xA2BFE8A14CF10364, 0xA81A664BBC423001, 0xC24B8B70D0F89791, 0xC76C51A30654BE30,
  0xD192E819D6EF5218, 0xD69906245565A910, 0xF40E35855771202A, 0x106AA07032BBD1B8,
  0x19A4C116B8D2D0C8, 0x1E376C085141AB53, 0x2748774CDF8EEB99, 0x34B0BCB5E19B48A8,
  0x391C0CB3C5C95A63, 0x4ED8AA4AE3418ACB, 0x5B9CCA4F7763E373, 0x682E6FF3D6B2B8A3,
  0x748F82EE5DEFB2FC, 0x78A5636F43172F60, 0x84C87814A1F0AB72, 0x8CC702081A6439EC]

/-- Round constants 60 to 79. -/
def shaK3 : List Nat := [
  0x90BEFFFA23631E28, 0xA4506CEBDE82BDE9, 0xBEF9A3F7B2C67915, 0xC67178F2E372532B,
  0xCA273ECEEA26619C, 0xD186B8C721C0C207, 0xEADA7DD6CDE0EB1E, 0xF57D4F7FEE6ED178,
  0x06F067AA72176FBA, 0x0A637DC5A2C898A6, 0x113F9804BEF90DAE, 0x1B710B35131C471B,
  0x28DB77F523047D84, 0x32CAAB7B40C72493, 0x3C9EBE0A15C9BEBC, 0x431D67C49C100D4C,
  0x4CC5D4BECB3E42B6, 0x597F299CFC657E2A, 0x5FCB6FAB3AD6FAEC, 0x6C44198C4A475817]

/-- The initial hash value. -/
def shaInit : List (BitVec 64) := ([
  0xCBBB9D5DC1059ED8, 0x629A292A367CD507, 0x9159015A3070DD17, 0x152FECD8F70E5939,
  0x67332667FFC00B31, 0x8EB44A8768581511, 0xDB0C2E0D64F98FA7, 0x47B5481DBEFA4FA4] : List Nat).map (BitVec.ofNat 64)

/-- The number that bytes spell, most significant byte first. -/
def beVal (l : List Nat) : Nat := l.foldl (fun a v => a * 256 + v % 256) 0

/-- The `n` bytes of a number, most significant byte first. -/
def beBytes (n v : Nat) : List Nat := (leBytes n v).reverse

/-- The message with its padding to whole 128-byte blocks. -/
def shaPad (l : List Nat) : List Nat := l ++ [128] ++ List.replicate ((239 - l.length % 128) % 128) 0 ++ beBytes 16 (8 * l.length)

/-- The message schedule, newest word first, from the sixteen words of a block. -/
def shaSchedule : Nat → List (BitVec 64) → List (BitVec 64)
  | 0, w => w
  | n + 1, w =>
    let at_ (i : Nat) := w.getD i 0#64
    let s0 (x : BitVec 64) := x.rotateRight 1 ^^^ x.rotateRight 8 ^^^ (x >>> 7)
    let s1 (x : BitVec 64) := x.rotateRight 19 ^^^ x.rotateRight 61 ^^^ (x >>> 6)
    shaSchedule n ((s1 (at_ 1) + at_ 6 + s0 (at_ 14) + at_ 15) :: w)

/-- The words of a block. -/
def shaWords (l : List Nat) : Nat → List (BitVec 64)
  | 0 => []
  | n + 1 => BitVec.ofNat 64 (beVal (l.take 8)) :: shaWords (l.drop 8) n

/-- One round on the eight working words. -/
def shaRound (h : List (BitVec 64)) (kw : BitVec 64) : List (BitVec 64) :=
  match h with
  | [a, b, c, d, e, f, g, x] =>
    let t1 := x + (e.rotateRight 14 ^^^ e.rotateRight 18 ^^^ e.rotateRight 41) + ((e &&& f) ^^^ (~~~ e &&& g)) + kw
    let t2 := (a.rotateRight 28 ^^^ a.rotateRight 34 ^^^ a.rotateRight 39) + ((a &&& b) ^^^ (a &&& c) ^^^ (b &&& c))
    [t1 + t2, a, b, c, d + t1, e, f, g]
  | l => l

/-- The hash value after one block. -/
def shaBlock (h : List (BitVec 64)) (l : List Nat) : List (BitVec 64) :=
  let w := (shaSchedule 64 (shaWords l 16).reverse).reverse
  let k := (shaK0 ++ shaK1 ++ shaK2 ++ shaK3).map (BitVec.ofNat 64)
  List.zipWith (· + ·) h ((List.zipWith (· + ·) k w).foldl shaRound h)

/-- The hash value after `n` blocks. -/
def shaBlocks (h : List (BitVec 64)) (l : List Nat) : Nat → List (BitVec 64)
  | 0 => h
  | n + 1 => shaBlocks (shaBlock h (l.take 128)) (l.drop 128) n

/-- SHA-384 of bytes: 48 bytes (R119). -/
def sha384 (l : List Nat) : List Nat :=
  let m := shaPad l
  ((shaBlocks shaInit m (m.length / 128)).take 6).flatMap fun v => beBytes 8 v.toNat

/-! ### ECDSA on brainpoolP384r1 (R119) -/

/-- The curve of RFC 5639: the field, the coefficients, the base point, its order. -/
abbrev bpP : Nat := 0x8CB91E82A3386D280F5D6F7E50E641DF152F7109ED5456B412B1DA197FB71123ACD3A729901D1A71874700133107EC53
abbrev bpA : Nat := 0x7BC382C63D8C150C3C72080ACE05AFA0C2BEA28E4FB22787139165EFBA91F90F8AA5814A503AD4EB04A8C7DD22CE2826
abbrev bpB : Nat := 0x04A8C7DD22CE28268B39B55416F0447C2FB77DE107DCD2A62E880EA53EEB62D57CB4390295DBC9943AB78696FA504C11
abbrev bpG : Nat × Nat :=
  (0x1D1C64F068CF45FFA2A63A81B7C13F6B8847A3E77EF14FE3DB7FCAFE0CBD10E8E826E03436D646AAEF87B2E247D4AF1E,
   0x8ABE1D7520F9C2A45CB1EB8E95CFD55262B70B29FEEC5864E19C054FF99129280E4646217791811142820341263C5315)
abbrev bpN : Nat := 0x8CB91E82A3386D280F5D6F7E50E641DF152F7109ED5456B31F166E6CAC0425A7CF3AB6AF6B7FC3103B883202E9046565

/-- `x` to a power modulo `m`, over the 384 low bits of the exponent, highest first. -/
def powMod (m x e : Nat) : Nat → Nat
  | 0 => 1
  | n + 1 => let r := powMod m x (e / 2) n
    r * r % m * (if e % 2 = 1 then x else 1) % m

/-- The inverse modulo a prime. -/
def invMod (m x : Nat) : Nat := powMod m (x % m) (m - 2) 384

/-- The sum of two points of the curve, none for the neutral one. -/
def bpAdd : Option (Nat × Nat) → Option (Nat × Nat) → Option (Nat × Nat)
  | none, q => q
  | p, none => p
  | some p, some q =>
    let fin (k : Nat) : Option (Nat × Nat) :=
      let x := (k * k + 2 * bpP - p.1 - q.1) % bpP
      some (x, (k * (p.1 + bpP - x) + bpP - p.2) % bpP)
    if p.1 = q.1 then
      if (p.2 + q.2) % bpP = 0 then none else fin ((3 * p.1 * p.1 + bpA) * invMod bpP (2 * p.2) % bpP)
    else fin ((q.2 + bpP - p.2) * invMod bpP (q.1 + bpP - p.1) % bpP)

/-- A multiple of a point by the low bits of `k`. -/
def bpMul (q : Option (Nat × Nat)) (k : Nat) : Nat → Option (Nat × Nat)
  | 0 => none
  | n + 1 => let r := bpMul q (k / 2) n
    let d := bpAdd r r
    if k % 2 = 1 then bpAdd d q else d

/-- A key as an uncompressed point of 97 bytes on the curve (R103, R119). -/
def keyPoint (l : List Nat) : Option (Nat × Nat) :=
  let x := beVal ((l.drop 1).take 48)
  let y := beVal (l.drop 49)
  if l.length = 97 ∧ l.head? = some 4 ∧ x < bpP ∧ y < bpP ∧ y * y % bpP = (x * x * x + bpA * x + bpB) % bpP then some (x, y) else none

/-- The signature of 96 bytes, r then s, verifies over SHA-384 of a message under a key (R119). -/
def sigOk (key msg sig : List Nat) : Bool :=
  let r := beVal (sig.take 48)
  let s := beVal (sig.drop 48)
  match keyPoint key with
  | none => false
  | some q =>
    if sig.length = 96 ∧ 1 ≤ r ∧ r < bpN ∧ 1 ≤ s ∧ s < bpN then
      let w := invMod bpN s
      match bpAdd (bpMul (some bpG) (beVal (sha384 msg) * w % bpN) 384) (bpMul (some q) (r * w % bpN) 384) with
      | some p => p.1 % bpN == r
      | none => false
    else false

end Sys2Proof.Machine
end

