-- ==== Sys2Proof/Machine/Fabric.lean ====
section
/-! DEFINITION. The commands of the fabric: claims and pins, frames and their link layer, capabilities, routes, trees, the
log line (R443 to R466). -/

namespace Sys2Proof.Machine

open Sys2Proof

/-! ### Claims and pins (R444-R446, R454) -/

/-- CLAIM_RX (R445, R454): a CLAIM seen for the first time is flooded on; a pending claim for the module's own ID is
answered with HELD; the module's own pending claim is refused by a HELD claim for the same ID or by a claim that wins. -/
def claimRx (p : Nat) (m : ClaimMsg) (b : Block) : Block :=
  whenDue (!b.floodSeen m.serial m.node m.floodId && m.serial != b.serial)
    (fun b =>
      let b1 := (b.remember m.serial m.node m.floodId).flood (some p) (.claim m)
      let b2 := if !m.held && b1.isSelf m.node then b1.floodClaim b1.ownKind m.node true else b1
      let b3 := match b2.fab.claim with
        | some c =>
          if c.node == m.node && (m.held || claimWins m.kind m.serial c.kind b2.serial) then b2.claimRefused c else b2
        | none => b2
      { b3 with fab := { b3.fab with claims := noteClaim b3.fab.claims m } }.pinMeets m) b

/-- CLAIM_RX (R454). -/
def execClaimRx (p : Nat) (m : ClaimMsg) (s : State) : Host.Outcome State Fault Refusal :=
  onHw (Instr.wf (.claimRx p m)) s (claimRx p m)

/-- CLAIM_HELD (R445): 16 epochs after the first flood, without refusal, the module holds the ID. (DEDUCED, log entry 51.) -/
def claimHeld (b : Block) : Block :=
  match b.fab.claim with
  | some c => whenDue (decide (17 ≤ c.sent)) (fun b => b.holdId c) b
  | none => b

/-- CLAIM_HELD (R445). -/
def execClaimHeld (s : State) : Host.Outcome State Fault Refusal :=
  onHw (Instr.wf .claimHeld) s claimHeld

/-- ID_RETRY (R445): a refused FIXED module claims again after 1 024 epochs. -/
def idRetry (b : Block) : Block :=
  whenDue (b.phase == .join && b.flag F.FAB_STAT_ID_REFUSED && b.fab.claim.isNone
      && decide (b.fab.refusedAt + 1024 ≤ b.epochs) && !b.activePorts.isEmpty)
    (fun b => { b.put F.FAB_STAT_CLAIMING 1 with fab := { b.fab with
        claim := some ⟨0, b.fab.imageNode, 0, b.fab.floodId⟩ } }) b

/-- ID_RETRY (R445). -/
def execIdRetry (s : State) : Host.Outcome State Fault Refusal :=
  onHw (Instr.wf .idRetry) s idRetry

/-- A write of FAB_PIN with GO = 1 (R446): refused while PENDING, else the first PIN is flooded. A module pins itself
without a message. -/
def pinGoOp (node : Nat) (b : Block) : Block × Status :=
  if b.get F.FAB_PIN_RESULT = 1 then (b.bump cIdRefuse, .busyResource)
  else
    let ser := b.get64 F.FAB_PIN_SER_LO F.FAB_PIN_SER_HI
    let b1 := (b.put F.FAB_PIN_NODE node).put F.FAB_PIN_RESULT 1
    let n := b1.nextFlood
    let b2 := (n.2.remember ser node n.1).flood none (.pin ⟨node, ser, n.1, n.2.get F.IDN_NODE_NODE_ID⟩)
    let b3 := { b2 with fab := { b2.fab with pin := some ⟨ser, node, n.1, 0, false⟩ } }
    (if ser = b.serial then b3.pinned node else b3, .ok)

/-- PIN_RX (R446, R454): flooded on when new; the module with that serial number claims NODE with kind PINNED. -/
def pinRx (p : Nat) (m : PinMsg) (b : Block) : Block :=
  whenDue (!b.floodSeen m.serial m.node m.floodId)
    (fun b =>
      let b1 := (b.remember m.serial m.node m.floodId).flood (some p) (.pin m)
      if m.serial = b1.serial then b1.pinned m.node else b1) b

/-- PIN_RX (R446). -/
def execPinRx (p : Nat) (m : PinMsg) (s : State) : Host.Outcome State Fault Refusal :=
  onHw (Instr.wf (.pinRx p m)) s (pinRx p m)

/-- PIN_NO_TARGET (R446): 64 epochs without a claim of the target. -/
def pinNoTarget (b : Block) : Block :=
  match b.fab.pin with
  | some j =>
    whenDue (decide (64 ≤ j.epochs) && !j.heard)
      (fun b => { b.put F.FAB_PIN_RESULT 4 with fab := { b.fab with pin := none } }) b
  | none => b

/-- PIN_NO_TARGET (R446). -/
def execPinNoTarget (s : State) : Host.Outcome State Fault Refusal :=
  onHw (Instr.wf .pinNoTarget) s pinNoTarget

/-! ### Frames (R448-R453, R461-R464) -/

/-- The header fields of R448 that a receiver reads. -/
structure Header where
  cls : Nat
  mcast : Bool
  version : Nat
  link : Bool
  poison : Bool
  alt : Bool
  dst : Nat
  src : Nat
  len : Nat
  seq : Nat
  boot : Nat
  lseq : Nat
  ttl : Nat
  /-- Every bit that R448 gives as zero is zero -/
  zeros : Bool
deriving DecidableEq, Repr

/-- The header that sixteen bytes spell (R448). -/
def parseHeader (l : List Nat) : Header :=
  let at1 (i : Nat) : Nat := l.getD i 0
  let at2 (i : Nat) : Nat := at1 i + 256 * at1 (i + 1)
  let mc := bitAt (at1 0) 3
  { cls := at1 0 % 8, mcast := mc, version := at1 0 / 16
    link := bitAt (at1 1) 0, poison := bitAt (at1 1) 1, alt := bitAt (at1 1) 2
    dst := if mc then at2 2 % 256 else at2 2 % 4096
    src := at2 4 % 4096, len := at2 6 % 4096, seq := at2 8, boot := at2 10, lseq := at2 12 % 4096, ttl := at1 14
    zeros := at1 1 / 8 == 0 && at2 2 / (if mc then 256 else 4096) == 0 && at2 4 / 4096 == 0 && at2 6 / 4096 == 0
      && at2 12 / 4096 == 0 }

/-- The checks of R451 that discard a frame whole: HCRC, then the length and the trailer. -/
inductive FrameCheck where
  | good | badHeader | badTrailer
deriving DecidableEq, Repr

/-- HCRC (R449), then the CRC-32C trailer over the payload (R390), of the bytes of a frame. (DEDUCED, log entry 53.) -/
def checkFrame (l : List Nat) : FrameCheck :=
  if l.length < 16 || hcrc (l.take 15) != l.getD 15 0 then .badHeader
  else
    let n := (parseHeader l).len
    if l.length = n + 20 && crc32c ((l.drop 16).take n) == leVal (l.drop (16 + n)) then .good else .badTrailer

/-- LIMIT_k that a port advertises: its freed flits plus its buffer size (R453); TST BACKPRESS withholds what is freed on
its ports and classes (R586). -/
def Block.limitNow (b : Block) (p k : Nat) : Nat :=
  let x := b.port p
  let now := (lookupD x.freed k 0 + classBuffer k) % 2 ^ 16
  if b.withheld && bitAt (b.get F.TST_BP_SEL_PORTS) p && bitAt (b.get F.TST_BP_SEL_CLASSES) k then
    lookupD x.limitOut k (classBuffer k)
  else now

/-- A NAK naming the expected LSEQ, with the limits, once until the replay comes (R452, R453). (DEDUCED, log entry 53.) -/
def Block.nak (b : Block) (p : Nat) : Block :=
  let x := b.port p
  if x.awaiting then b
  else (b.setPort p { x with
      limitOut := (List.range 8).map fun k => (k, b.limitNow p k), awaiting := true, lackTick := b.tick }).linkSend p 4
    (.lack ⟨true, x.lseqIn, (List.range 8).map (b.limitNow p)⟩)

/-- A frame that passed the link layer, with its version and zero bits good (R451, R461, R464). -/
def Block.routeFrame (b : Block) (p : Nat) (f : Frame) : Block :=
  if f.mcast then
    let b1 := if (b.treePorts 2).isEmpty then b.bump cNoRoute
      else if f.ttl ≤ 1 then (if (b.treePorts 2).all (· == p) then b else b.bump cTtlDrop)
      else b.castTree (some p) { f with ttl := f.ttl - 1 }
    let b2 := b1.free1 (some p) f
    if bitAt (b.get (F.FAB_MCAST (f.dst / 32))) (f.dst % 32) then b2.receive f else b2
  else if b.isSelf f.dst then (b.free1 (some p) f).receive f
  else if f.ttl ≤ 1 then (b.bump cTtlDrop).free1 (some p) f
  else b.forward (some p) { f with ttl := f.ttl - 1 }

/-- LINK frames of a class that a port holds and its blocks have not taken (R450). -/
def Block.linkHeld (b : Block) (p cls : Nat) : Nat :=
  (b.fab.delivered.filter fun d => d.1 == some p && d.2.cls == cls).length

/-- FRAME_RX (R451, R452): the checks, the link sequence, the fields; then the frame is delivered, forwarded or dropped. A
LINK frame bypasses link sequence and credits and is delivered on its port; what its message does is that message's own
command. (DEDUCED, log entry 53.) -/
def frameRx (p : Nat) (bytes : List Byte) (b : Block) : Block :=
  let l := bytes.map BitVec.toNat
  let h := parseHeader l
  whenDue (b.portActive p || b.stage p == stExchange)
    (fun b =>
      match checkFrame l with
      | .badHeader => (b.bump cHcrc).nak p
      | .badTrailer => if h.link then b.bump (F.CRC_RXBAD p) else (b.bump (F.CRC_RXBAD p)).nak p
      | .good =>
        let fields := h.version == 1 && h.cls != 7 && decide (h.len ≤ 2048) && h.zeros
        let f : Frame := ⟨h.cls, h.mcast, h.link, h.poison, h.alt, h.dst, h.src, h.len, h.seq, h.boot, h.ttl,
          .raw ((l.drop 16).take h.len)⟩
        if h.link then
          if !fields then b.bump cBadFrame
          else if classBuffer h.cls ≤ b.linkHeld p h.cls then b.bump cLinkDrop
          else { b with fab := { b.fab with delivered := b.fab.delivered ++ [(some p, f)] } }
        else if b.stage p == stExchange then b
        else if h.lseq != (b.port p).lseqIn then b.nak p
        else
          let x := b.port p
          let b1 := b.setPort p { x with
            lseqIn := (x.lseqIn + 1) % 4096, awaiting := false, acceptTick := x.acceptTick.or (some b.tick) }
          if fields then b1.routeFrame p f else (b1.bump cBadFrame).free1 (some p) f) b

/-- FRAME_RX (R451). -/
def execFrameRx (p : Nat) (bytes : List Byte) (s : State) : Host.Outcome State Fault Refusal :=
  onHw (Instr.wf (.frameRx p bytes)) s (frameRx p bytes)

/-- The frames of a replay buffer that an acknowledgement of `lseq` leaves: those after it, when it is in the buffer
(R452). -/
def ackReplay (l : List (Nat × Frame)) (lseq : Nat) : List (Nat × Frame) :=
  if l.any fun r => r.1 == lseq then (l.dropWhile fun r => r.1 != lseq).drop 1 else l

/-- Every outstanding frame from an LSEQ is sent again in order (R452). -/
def Block.replayFrom (b : Block) (p lseq : Nat) : Block :=
  let again := (b.port p).replay.dropWhile fun r => r.1 != lseq
  let b1 := again.foldl (fun c r => c.emit (.frame p r.1 r.2 false)) b
  (b1.bumpBy cReplay again.length).setPort p { b1.port p with progressTick := b.tick }

/-- LACK_RX (R452, R453): acknowledged frames leave the replay buffer, the limits are taken, what has credit leaves; a NAK
replays from the LSEQ it names. -/
def lackRx (p : Nat) (m : LackMsg) (b : Block) : Block :=
  whenDue (b.portActive p)
    (fun b =>
      let x := b.port p
      let left := ackReplay x.replay (if m.nak then (m.lseq + 4095) % 4096 else m.lseq)
      let b1 := b.setPort p { x with
        replay := left
        limit := ([0, 1, 2, 5, 6] : List Nat).map fun k => (k, m.limits.getD k 0)
        progressTick := if left.length = x.replay.length then x.progressTick else b.tick }
      (if m.nak then b1.replayFrom p m.lseq else b1).pump p) b

/-- LACK_RX (R452). -/
def execLackRx (p : Nat) (m : LackMsg) (s : State) : Host.Outcome State Fault Refusal :=
  onHw (Instr.wf (.lackRx p m)) s (lackRx p m)

/-- A port sends its LACK: the last accepted LSEQ and the limits (R452, R453). -/
def Block.sendLack (b : Block) (p : Nat) : Block :=
  let x := b.port p
  let lim := (List.range 8).map (b.limitNow p)
  (b.setPort p { x with
    limitOut := (List.range 8).map fun k => (k, b.limitNow p k), lackTick := b.tick, acceptTick := none }).linkSend p 4
      (.lack ⟨false, (x.lseqIn + 4095) % 4096, lim⟩)

/-- LACK_SEND (R452). (DEDUCED, log entry 53.) -/
def lackSend (p : Nat) (b : Block) : Block := whenDue (b.portActive p) (fun b => b.sendLack p) b

/-- LACK_SEND (R452). -/
def execLackSend (p : Nat) (s : State) : Host.Outcome State Fault Refusal :=
  onHw (Instr.wf (.lackSend p)) s (lackSend p)

/-- REPLAY_TIMEOUT (R452): 4 096 ticks without acknowledgement progress replay every outstanding frame. -/
def replayTimeout (p : Nat) (b : Block) : Block :=
  let x := b.port p
  whenDue (b.portActive p && !x.replay.isEmpty && decide (x.progressTick + 4096 ≤ b.tick))
    (fun b => b.replayFrom p ((x.replay.head?.map (·.1)).getD 0)) b

/-- REPLAY_TIMEOUT (R452). -/
def execReplayTimeout (p : Nat) (s : State) : Host.Outcome State Fault Refusal :=
  onHw (Instr.wf (.replayTimeout p)) s (replayTimeout p)

/-! ### Capabilities, adverts, routes (R455-R460) -/

/-- The fields of FAB_PORT_p and FAB_NBR_SER_p that a CAP sets (R455, R472). (DEDUCED, log entry 51.) -/
def Block.recordCap (b : Block) (p : Nat) (m : CapMsg) : Block :=
  let b1 := (((((b.putB (F.FAB_PORT_NBR_VALID p) m.nodeValid).putB (F.FAB_PORT_NBR_HOST p) m.host).putB
    (F.FAB_PORT_CFG_MISMATCH p) (m.cfgGen != b.get F.IDN_CFGGEN)).put (F.FAB_PORT_NBR_QUAR p) (m.roles / 16)).put
    (F.FAB_PORT_NBR_NODE p) m.node).put (F.FAB_NBR_SER p) m.serhash
  { b1 with fab := { b1.fab with caps := insertKey b1.fab.caps p m } }

/-- The route to a host endpoint behind a host-mode port (R468): a neighbour at one hop, under the module's own RGEN. -/
def Block.hostRoute (b : Block) (p : Nat) (m : CapMsg) : Block :=
  if m.nodeValid then
    let r := b.route m.node
    (b.setRoute m.node { r with
      primary := some p, hops := 1, rgen := b.fab.ownGen, age := 0, lostFor := 0, departed := false
      changed := r.changed || r.primary != some p || r.hops != 1 }).triggeredAdvert
  else b

/-- CAP_RX (R455): the CAP is recorded, and quarantine follows it. A partner with another SERHASH or BOOT on an ACTIVE
port restarts the port; in EXCHANGE a fabric port answers with READY, and a host-mode port becomes ACTIVE. -/
def capRx (p : Nat) (m : CapMsg) (b : Block) : Block :=
  whenDue (b.portActive p || b.stage p == stExchange)
    (fun b =>
      let fresh := match lookup b.fab.caps p with
        | some c => c.serhash != m.serhash || c.boot != m.boot
        | none => false
      let b1 := b.recordCap p m
      let b2 :=
        if b.portActive p then (if fresh then b1.restart p else b1)
        else
          let b3 := b1.setPort p { b1.port p with capOk := true }
          if b.hostPort p then b3.toActive p false else b3.emit (.ordered p 2 (b1.readyArg p))
      let b4 := if b.hostPort p then
          ((b2.put (F.FAB_HOST_CFG_PEER_KNOWN p) 1).hostRoute p m)
        else b2
      b4.reQuarantine) b

/-- CAP_RX (R455). -/
def execCapRx (p : Nat) (m : CapMsg) (s : State) : Host.Outcome State Fault Refusal :=
  onHw (Instr.wf (.capRx p m)) s (capRx p m)

/-- ADVERT_RX (R458): each entry in order, then a triggered ADVERT of what changed. -/
def advertRx (p : Nat) (entries : List AdvertEntry) (b : Block) : Block :=
  whenDue (b.fabricPort p && b.portActive p)
    (fun b => (entries.foldl (fun c e => c.advertEntry p e) b).triggeredAdvert) b

/-- ADVERT_RX (R458). -/
def execAdvertRx (p : Nat) (entries : List AdvertEntry) (s : State) : Host.Outcome State Fault Refusal :=
  onHw (Instr.wf (.advertRx p entries)) s (advertRx p entries)

/-- ROUTE_EXPIRE (R459): the entry's primary is not ACTIVE, or no newer RGEN came for 72 epochs. -/
def routeExpire (d : Nat) (b : Block) : Block :=
  let r := b.route d
  whenDue (match r.primary with
      | some q => !b.portActive q || decide (72 ≤ r.age)
      | none => false)
    (fun b => b.failOver d) b

/-- ROUTE_EXPIRE (R459). -/
def execRouteExpire (d : Nat) (s : State) : Host.Outcome State Fault Refusal :=
  onHw (Instr.wf (.routeExpire d)) s (routeExpire d)

/-- A write of FAB_RT_d_FWD (R460, R473): PINNED 1 takes the written ports; PINNED 0 returns the entry to Fox, and the
other fields are ignored. -/
def routePinOp (d w : Nat) (b : Block) : Block × Status :=
  if bitAt w 17 then
    (((((b.put (F.FAB_RT_FWD_PINNED d) 1).put (F.FAB_RT_FWD_A_VALID d) (bitsOf w 16 16)).put
      (F.FAB_RT_FWD_P_VALID d) (bitsOf w 7 7)).put (F.FAB_RT_FWD_ALT d) (bitsOf w 6 4)).put
      (F.FAB_RT_FWD_PRIMARY d) (bitsOf w 2 0), .ok)
  else ((b.put (F.FAB_RT_FWD_PINNED d) 0).setRoute d (b.route d), .ok)

/-- REORDER_TIMEOUT (R462): a held frame has waited REORDER_TMO_US; the flow skips to the lowest held SEQ. -/
def reorderTimeout (src dst : Nat) (mcast : Bool) (cls : Nat) (b : Block) : Block :=
  let k : FlowKey := ⟨src, dst, mcast, cls⟩
  match b.flow k with
  | none => b
  | some v =>
    whenDue (v.held.any fun h => decide (h.tick + max 1 (b.get F.FAB_REORDER) * usTicks ≤ b.tick))
      (fun b =>
        let gap (h : HeldFrame) : Nat := (h.seq + 2 ^ 16 - v.expected % 2 ^ 16) % 2 ^ 16
        let low := v.held.foldl (fun m h => min m (gap h)) 256
        let r := drainHeld (b.bump cSkip) { v with expected := (v.expected + low) % 2 ^ 16 } v.held.length
        r.1.setFlow k r.2) b

/-- REORDER_TIMEOUT (R462). -/
def execReorderTimeout (src dst : Nat) (mcast : Bool) (cls : Nat) (s : State) : Host.Outcome State Fault Refusal :=
  onHw (Instr.wf (.reorderTimeout src dst mcast cls)) s (reorderTimeout src dst mcast cls)

/-- TREE_RX (R465, R466): the neighbour's message is kept with its epoch; children and parent follow it. -/
def treeRx (p : Nat) (m : TreeMsg) (b : Block) : Block :=
  whenDue (b.fabricPort p && b.portActive p)
    (fun b =>
      let t := b.tree m.tree
      ((b.setTree m.tree { t with nbr := insertKey t.nbr p (m, b.epochs) }).refreshChildren m.tree).reparent m.tree) b

/-- TREE_RX (R465). -/
def execTreeRx (p : Nat) (m : TreeMsg) (s : State) : Host.Outcome State Fault Refusal :=
  onHw (Instr.wf (.treeRx p m)) s (treeRx p m)

/-- HOST_CAP_BEACON (R468): a host-mode port that has no valid CAP yet sends its CAP. -/
def hostCapBeacon (p : Nat) (b : Block) : Block :=
  whenDue (b.hostPort p && b.stage p == stExchange && !(b.port p).capOk)
    (fun b => b.linkSend p 4 (.cap (b.capOf p))) b

/-- HOST_CAP_BEACON (R468). -/
def execHostCapBeacon (p : Nat) (s : State) : Host.Outcome State Fault Refusal :=
  onHw (Instr.wf (.hostCapBeacon p)) s (hostCapBeacon p)

/-- LOG_LINE_SEND (R450): a log line goes to LOG_DST in class 6 while LOG_EN is 1; a line longer than a payload is cut to
2 048 bytes. -/
def logLineSend (text : List Byte) (b : Block) : Block :=
  whenDue (b.flag F.FAB_CTRL_LOG_EN)
    (fun b => b.post (.node (b.get F.FAB_CTRL_LOG_DST)) 6 (.logLine ((text.map BitVec.toNat).take 2048))) b

/-- LOG_LINE_SEND (R450). -/
def execLogLineSend (text : List Byte) (s : State) : Host.Outcome State Fault Refusal :=
  onHw (Instr.wf (.logLineSend text)) s (logLineSend text)

end Sys2Proof.Machine
end

