-- ==== Sys2Proof/Machine/Lanes.lean ====
section
/-! DEFINITION. The commands of the serial lanes and ports (R484 to R493), register writes aside. -/

namespace Sys2Proof.Machine

open Sys2Proof

/-- BEACON_TIMER (R484): at a retry instant in DETECT the port sends a beacon; without SIGNAL since the previous one that
was a failed attempt, the sixteenth of which leads to SILENT. -/
def beaconTimer (p : Nat) (b : Block) : Block :=
  whenDue (b.stage p == stDetect && b.fabricPort p && (b.port p).losTick.isNone && decide ((b.port p).beaconTick ≤ b.tick))
    (fun b =>
      if (b.port p).sigSeen then b.beacon p
      else
        let b1 := b.countAttempt p
        if b1.get (F.LNK_STAT_ATTEMPTS p) = 16 then b1.toSilent p else b1.beacon p) b

/-- BEACON_TIMER. -/
def execBeaconTimer (p : Nat) (s : State) : Host.Outcome State Fault Refusal :=
  onHw (Instr.wf (.beaconTimer p)) s (beaconTimer p)

/-- SILENT_BEACON (R485): at a back-off instant, unless PARKED, a beacon; the next follows after twice the time, up to 10 s. (DEDUCED, log entry 55.) -/
def silentBeacon (p : Nat) (b : Block) : Block :=
  whenDue (b.stage p == stSilent && !b.flag (F.LNK_STAT_PARKED p) && decide ((b.port p).beaconTick ≤ b.tick))
    (fun b =>
      let b1 := b.emit (.beacon p)
      let x := b1.port p
      b1.setPort p { x with
        lastBeacon := b.tick, sigSeen := false, silentJ := x.silentJ + 1
        beaconTick := b.tick + b1.silentTicks p (x.silentJ + 1) }) b

/-- SILENT_BEACON. -/
def execSilentBeacon (p : Nat) (s : State) : Host.Outcome State Fault Refusal :=
  onHw (Instr.wf (.silentBeacon p)) s (silentBeacon p)

/-- SIGNAL has held 10 µs on a lane (R484). -/
def signalDetect (l : Nat) (b : Block) : Block := b.signalOn l

/-- SIGNAL_DETECT (R484). -/
def execSignalDetect (l : Nat) (s : State) : Host.Outcome State Fault Refusal :=
  onHw (Instr.wf (.signalDetect l)) s (signalDetect l)

/-- CDR_LOCK (R484): CDR lock has held 100 µs; a port in TRAIN enters LOCK and its transmitter takes its coding (R482);
inverted polarity is corrected in TRAIN (R483). -/
def cdrLock (l : Nat) (inverted : Bool) (b : Block) : Block :=
  let p := l / 2
  whenDue (b.flag (F.LNK_L_STAT_SIGNAL l))
    (fun b =>
      let b1 := b.put (F.LNK_L_STAT_CDR_LOCK l) 1
      if b.stage p == stTrain then
        let b2 := b1.putB (F.LNK_L_STAT_RX_INVERT l) inverted
        let fec := b.get (F.FAB_HOST_CFG_FEC p)
        ((b2.put (F.LNK_L_STAT_TX_FEC (2 * p)) fec).put (F.LNK_L_STAT_TX_FEC (2 * p + 1)) fec).setStage p stLock
      else b1) b

/-- CDR_LOCK. -/
def execCdrLock (l : Nat) (inverted : Bool) (s : State) : Host.Outcome State Fault Refusal :=
  onHw (Instr.wf (.cdrLock l inverted)) s (cdrLock l inverted)

/-- Every lane of a port that has SIGNAL is in block lock (R484). -/
def Block.allLocked (b : Block) (p : Nat) : Bool :=
  (lanesOf p).all fun l => !b.flag (F.LNK_L_STAT_SIGNAL l) || b.flag (F.LNK_L_STAT_BLOCK_LOCK l)

/-- BLOCK_LOCK (R484): a lane locks to its partner's coding (R482) and lane order (R483); a port in LOCK whose signalled
lanes all hold block lock enters EXCHANGE. -/
def blockLock (l : Nat) (fec swapped : Bool) (b : Block) : Block :=
  let p := l / 2
  whenDue (b.flag (F.LNK_L_STAT_SIGNAL l))
    (fun b =>
      let b1 := ((b.put (F.LNK_L_STAT_BLOCK_LOCK l) 1).putB (F.LNK_L_STAT_RX_FEC l) fec).putB (F.LNK_L_STAT_SWAPPED l) swapped
      if b.stage p == stLock && b1.allLocked p then b1.toExchange p else b1) b

/-- BLOCK_LOCK. -/
def execBlockLock (l : Nat) (fec swapped : Bool) (s : State) : Host.Outcome State Fault Refusal :=
  onHw (Instr.wf (.blockLock l fec swapped)) s (blockLock l fec swapped)

/-- A stage has lasted a number of ticks. -/
def Block.lasted (b : Block) (p n : Nat) : Bool := decide ((b.port p).stageTick + n ≤ b.tick)

/-- TRAIN_TIMEOUT (R484): 50 ms of TRAIN without exit. -/
def trainTimeout (p : Nat) (b : Block) : Block :=
  whenDue (b.stage p == stTrain && b.lasted p (50 * msTicks)) (fun b => (b.bump (F.LNK_TMO_CNT p)).failAttempt p) b

/-- TRAIN_TIMEOUT. -/
def execTrainTimeout (p : Nat) (s : State) : Host.Outcome State Fault Refusal :=
  onHw (Instr.wf (.trainTimeout p)) s (trainTimeout p)

/-- LOCK_TIMEOUT (R484): after 10 ms of LOCK the port goes on with its locked lanes, or counts a failed attempt. -/
def lockTimeout (p : Nat) (b : Block) : Block :=
  whenDue (b.stage p == stLock && b.lasted p (10 * msTicks))
    (fun b => if b.lockedLanes p != 0 then b.toExchange p else (b.bump (F.LNK_TMO_CNT p)).failAttempt p) b

/-- LOCK_TIMEOUT. -/
def execLockTimeout (p : Nat) (s : State) : Host.Outcome State Fault Refusal :=
  onHw (Instr.wf (.lockTimeout p)) s (lockTimeout p)

/-- EXCHANGE_TIMEOUT (R484): 5 ms of EXCHANGE without TKO_HOLD; a host-mode port's EXCHANGE has no timeout (R489). -/
def exchangeTimeout (p : Nat) (b : Block) : Block :=
  whenDue (b.stage p == stExchange && b.lasted p (5 * msTicks) && !b.flag (F.LNK_STAT_TKO_HOLD p) && !b.hostPort p)
    (fun b => (b.bump (F.LNK_TMO_CNT p)).failAttempt p) b

/-- EXCHANGE_TIMEOUT. -/
def execExchangeTimeout (p : Nat) (s : State) : Host.Outcome State Fault Refusal :=
  onHw (Instr.wf (.exchangeTimeout p)) s (exchangeTimeout p)

/-- READY_RX (R484): with a valid CAP, READY completes EXCHANGE. X2 is in force only if both CAP messages carry X2 and both
READY messages report both lanes. -/
def readyRx (p arg : Nat) (b : Block) : Block :=
  whenDue (b.stage p == stExchange && (b.port p).capOk && b.lockedLanes p != 0)
    (fun b =>
      let theirs := match lookup b.fab.caps p with
        | some c => c.x2
        | none => false
      b.toActive p (b.flag (F.FAB_PORT_X2 p) && theirs && b.lockedLanes p == 3 && arg % 4 == 3)) b

/-- READY_RX. -/
def execReadyRx (p arg : Nat) (s : State) : Host.Outcome State Fault Refusal :=
  onHw (Instr.wf (.readyRx p arg)) s (readyRx p arg)

/-- LOSS_OF_SIGNAL (R486, R487): a lane loses SIGNAL. With no lane left the port goes to DETECT, its transmitter idle for
500 µs, a failed attempt unless from ACTIVE; an ACTIVE port goes on with its other lane. -/
def lossOfSignal (l : Nat) (b : Block) : Block :=
  let p := l / 2
  whenDue (b.flag (F.LNK_L_STAT_SIGNAL l))
    (fun b =>
      let joined := b.flag (F.LNK_L_STAT_JOINED l)
      let b1 := (b.bump (F.LNK_L_LOS_CNT l)).darkLane l
      let st := b.stage p
      if st == stDown || st == stTest then b1
      else if b.flag (F.LNK_L_STAT_SIGNAL (otherLane l)) then
        if st == stActive && joined then b1.dropLane l else b1
      else
        let b2 := if st == stActive then b1 else b1.countAttempt p
        let b3 := if b2.get (F.LNK_STAT_ATTEMPTS p) = 16 && st != stActive then b2.toSilent p
          else (b2.setStage p stDetect)
        b3.setPort p { b3.port p with losTick := some b.tick, sigSeen := false }) b

/-- LOSS_OF_SIGNAL. -/
def execLossOfSignal (l : Nat) (s : State) : Host.Outcome State Fault Refusal :=
  onHw (Instr.wf (.lossOfSignal l)) s (lossOfSignal l)

/-- LOS_IDLE_END (R486): the 500 µs of electrical idle end and DETECT begins with a beacon; a lane that has SIGNAL by then
leads on to TRAIN. -/
def losIdleEnd (p : Nat) (b : Block) : Block :=
  match (b.port p).losTick with
  | none => b
  | some t =>
    whenDue (decide (t + 500 * usTicks ≤ b.tick))
      (fun b =>
        let b1 := b.setPort p { b.port p with losTick := none }
        if b.stage p == stDetect then
          let b2 := b1.beacon p
          if (lanesOf p).any fun l => b.flag (F.LNK_L_STAT_SIGNAL l) then b2.toTrain p else b2
        else b1) b

/-- LOS_IDLE_END. -/
def execLosIdleEnd (p : Nat) (s : State) : Host.Outcome State Fault Refusal :=
  onHw (Instr.wf (.losIdleEnd p)) s (losIdleEnd p)

/-- LANE_LOCK_LOST (R487): a lane loses block lock. -/
def laneLockLost (l : Nat) (b : Block) : Block :=
  let p := l / 2
  whenDue (b.flag (F.LNK_L_STAT_BLOCK_LOCK l))
    (fun b =>
      let b1 := b.put (F.LNK_L_STAT_BLOCK_LOCK l) 0
      if b.portActive p && b.flag (F.LNK_L_STAT_JOINED l) then b1.dropLane l else b1) b

/-- LANE_LOCK_LOST. -/
def execLaneLockLost (l : Nat) (s : State) : Host.Outcome State Fault Refusal :=
  onHw (Instr.wf (.laneLockLost l)) s (laneLockLost l)

/-- A port passes through EXCHANGE again with both lanes (R487). -/
def Block.rejoin (b : Block) (p : Nat) : Block :=
  let b1 := b.toExchange p
  b1.setPort p { b1.port p with lostLane := none }

/-- LANE_REJOIN (R487): the lost lane has held block lock for 64 consecutive epochs; one that rung 3 runs x1 waits for the restore
(R514). -/
def laneRejoin (p : Nat) (b : Block) : Block :=
  match (b.port p).lostLane with
  | some (_, n) => whenDue (decide (64 ≤ n) && b.portActive p && !bitAt (b.get F.BDG_X1_NOW) p) (fun b => b.rejoin p) b
  | none => b

/-- LANE_REJOIN. -/
def execLaneRejoin (p : Nat) (s : State) : Host.Outcome State Fault Refusal :=
  onHw (Instr.wf (.laneRejoin p)) s (laneRejoin p)

/-- DOWN_RX (R484): DOWN with HIBERNATE parks the port in SILENT with ATTEMPTS 16; without it the port goes to DETECT, no
attempt counted. -/
def downRx (p arg : Nat) (b : Block) : Block :=
  whenDue (b.stage p != stDown && b.stage p != stTest)
    (fun b =>
      if arg % 2 = 1 then
        let b1 := (b.put (F.LNK_STAT_ATTEMPTS p) 16).put (F.LNK_STAT_PARKED p) 1
        (b1.toSilent p)
      else b.toDetect p) b

/-- DOWN_RX. -/
def execDownRx (p arg : Nat) (s : State) : Host.Outcome State Fault Refusal :=
  onHw (Instr.wf (.downRx p arg)) s (downRx p arg)

/-- TAKEOVER_OS_RX (R488): a port in LOCK, EXCHANGE or ACTIVE enters EXCHANGE with TKO_HOLD set and counted. -/
def takeoverOsRx (p : Nat) (b : Block) : Block :=
  whenDue (b.stage p == stLock || b.stage p == stExchange || b.stage p == stActive)
    (fun b =>
      if b.flag (F.LNK_STAT_TKO_HOLD p) then (if b.stage p == stExchange then b else b.toExchange p)
      else
        let b1 := ((b.toExchange p).put (F.LNK_STAT_TKO_HOLD p) 1).bump (F.LNK_TKO_CNT p)
        b1.setPort p { b1.port p with tkoTick := b.tick }) b

/-- TAKEOVER_OS_RX. -/
def execTakeoverOsRx (p arg : Nat) (s : State) : Host.Outcome State Fault Refusal :=
  onHw (Instr.wf (.takeoverOsRx p arg)) s (takeoverOsRx p)

/-- TKO_HOLD_EXPIRE (R488): TKO_HOLD lasts at most 1.5 s; the timeout of EXCHANGE then counts from here. -/
def tkoHoldExpire (p : Nat) (b : Block) : Block :=
  whenDue (b.flag (F.LNK_STAT_TKO_HOLD p) && decide ((b.port p).tkoTick + 1500 * msTicks ≤ b.tick))
    (fun b => (b.put (F.LNK_STAT_TKO_HOLD p) 0).setPort p { b.port p with stageTick := b.tick }) b

/-- TKO_HOLD_EXPIRE. -/
def execTkoHoldExpire (p : Nat) (s : State) : Host.Outcome State Fault Refusal :=
  onHw (Instr.wf (.tkoHoldExpire p)) s (tkoHoldExpire p)

/-- KNOCK_DONE (R493): the last burst has ended; the port enters DETECT with ATTEMPTS 0 and PARKED 0. -/
def knockDone (p : Nat) (b : Block) : Block :=
  whenDue (b.flag (F.LNK_STAT_KNOCKING p) && decide ((b.port p).knockTick + 750 * usTicks ≤ b.tick))
    (fun b => (b.put (F.LNK_STAT_KNOCKING p) 0).restart p) b

/-- KNOCK_DONE. -/
def execKnockDone (p : Nat) (s : State) : Host.Outcome State Fault Refusal :=
  onHw (Instr.wf (.knockDone p)) s (knockDone p)

/-- PRBS_LOCK_GAINED (R491): 1 024 consecutive error-free bits in TEST set PRBS_LOCK. -/
def prbsLockGained (l : Nat) (b : Block) : Block :=
  whenDue (b.stage (l / 2) == stTest) (fun b => b.put (F.LNK_L_STAT_PRBS_LOCK l) 1) b

/-- PRBS_LOCK_GAINED. -/
def execPrbsLockGained (l : Nat) (s : State) : Host.Outcome State Fault Refusal :=
  onHw (Instr.wf (.prbsLockGained l)) s (prbsLockGained l)

/-- PRBS_LOCK_LOST (R491): the bits and errors checked while PRBS_LOCK was 1 stand in the counters, and PRBS_LOCK clears. -/
def prbsLockLost (l bits errs : Nat) (b : Block) : Block :=
  whenDue (b.flag (F.LNK_L_STAT_PRBS_LOCK l))
    (fun b =>
      ((b.bump64 (F.LNK_L_PRBS_BITS_LO l) (F.LNK_L_PRBS_BITS_HI l) bits).bump64 (F.LNK_L_PRBS_ERR_LO l)
        (F.LNK_L_PRBS_ERR_HI l) errs).put (F.LNK_L_STAT_PRBS_LOCK l) 0) b

/-- PRBS_LOCK_LOST. -/
def execPrbsLockLost (l bits errs : Nat) (s : State) : Host.Outcome State Fault Refusal :=
  onHw (Instr.wf (.prbsLockLost l bits errs)) s (prbsLockLost l bits errs)

/-! ### Writes of LNK_p_CTRL -/

/-- RETRY (R484): from every stage but DOWN and TEST to DETECT with ATTEMPTS 0; it ends PARKED (R485). -/
def lnkRetryOp (p : Nat) (b : Block) : Block × Status :=
  (if b.stage p != stDown && b.stage p != stTest then b.restart p else b, .ok)

/-- KNOCK (R493): accepted in DETECT, SILENT and DOWN by ADMIN_DOWN of a fabric port that is not knocking. (DEDUCED, log entry 55.) -/
def lnkKnockOp (p : Nat) (b : Block) : Block × Status :=
  if (b.stage p == stDetect || b.stage p == stSilent || (b.stage p == stDown && b.flag (F.LNK_CTRL_ADMIN_DOWN p)))
      && !b.hostPort p && !b.flag (F.LNK_STAT_KNOCKING p) then
    let b1 := ((b.emit (.knock p)).put (F.LNK_STAT_KNOCKING p) 1).bump (F.LNK_KNOCK_CNT p)
    (b1.setPort p { b1.port p with knockTick := b.tick }, .ok)
  else (b.bump (F.LNK_REFUSE_CNT p), .busyResource)

/-- REJOIN (R487): an ACTIVE port that lost a lane passes through EXCHANGE again with both. -/
def lnkRejoinOp (p : Nat) (b : Block) : Block × Status :=
  (if b.portActive p && (b.port p).lostLane.isSome then b.rejoin p else b, .ok)

/-- ADMIN_DOWN set to 1 (R484): the port sends DOWN and goes DOWN. -/
def lnkAdminDownOp (p : Nat) (b : Block) : Block × Status := ((b.put (F.LNK_CTRL_ADMIN_DOWN p) 1).toDown p 0, .ok)

/-- ADMIN_DOWN set to 0 (R484): a port in DOWN starts when its other conditions hold. -/
def lnkAdminUp (p : Nat) (b : Block) : Block × Status := ((b.put (F.LNK_CTRL_ADMIN_DOWN p) 0).tryUp p, .ok)

/-- TEST written PRBS31 (R484, R491): from every stage but DOWN to TEST, both counts of both lanes cleared. -/
def lnkTestPrbs (p : Nat) (b : Block) : Block × Status :=
  let b1 := b.put (F.LNK_CTRL_TEST p) 1
  if b.stage p == stDown then (b1, .ok)
  else
    let b2 := (b1.setStage p stTest).unjoin p
    ((lanesOf p).foldl (fun c l =>
      (c.put64 (F.LNK_L_PRBS_BITS_LO l) (F.LNK_L_PRBS_BITS_HI l) 0).put64 (F.LNK_L_PRBS_ERR_LO l) (F.LNK_L_PRBS_ERR_HI l) 0) b2, .ok)

/-- TEST written OFF, or another value that acts as OFF (R484, R494): from TEST to DETECT with ATTEMPTS 0. -/
def lnkTestOffOp (p v : Nat) (b : Block) : Block × Status :=
  let b1 := b.put (F.LNK_CTRL_TEST p) v
  if b.stage p == stTest then
    ((lanesOf p).foldl (fun c l => c.put (F.LNK_L_STAT_PRBS_LOCK l) 0)
      ((b1.put (F.LNK_STAT_ATTEMPTS p) 0).toDetect p), .ok)
  else (b1, .ok)

/-- A write of LNK_p_EQ (R494): EQ_CLAMP shows PRE + POST above 31; the value comes into use at the next TRAIN. -/
def lnkEqClamp (p : Nat) (b : Block) : Block :=
  b.putB (F.LNK_EQ_EQ_CLAMP p) (decide (31 < b.get (F.LNK_EQ_PRE p) + b.get (F.LNK_EQ_POST p)))

end Sys2Proof.Machine
end

