-- ==== Sys2Proof/Machine/TimeBase.lean ====
section
/-! DEFINITION. The commands of the time base: reference and oven, the domains and their exchanges, the switch of the
stamping domain, the TOUT outputs (R210 to R243). -/

namespace Sys2Proof.Machine

open Sys2Proof

/-! ### Reference and oven (R210, R212, R244) -/

/-- REFIN_PRESENT_SET (R210). -/
def refinPresentSet (b : Block) : Block :=
  whenDue b.phase.railsOn (fun b => (b.put F.TIM_STAT_REFIN_PRESENT 1).reselect) b

/-- REFIN_PRESENT_SET (R210). -/
def execRefinPresentSet (s : State) : Host.Outcome State Fault Refusal :=
  onHw (Instr.wf .refinPresentSet) s refinPresentSet

/-- REFIN_LOST (R210): with REF_SEL REFIN the PLL holds its last control value and reports no lock. -/
def refinLost (b : Block) : Block :=
  whenDue b.phase.railsOn (fun b => (b.put F.TIM_STAT_REFIN_PRESENT 0).reselect) b

/-- REFIN_LOST (R210). -/
def execRefinLost (s : State) : Host.Outcome State Fault Refusal :=
  onHw (Instr.wf .refinLost) s refinLost

/-- PLL_LOCK (R244): the PLL locks to a valid reference; the ticks since lock start at 0 (R241). -/
def pllLock (b : Block) : Block :=
  whenDue (b.phase.railsOn && b.time.refValid && !b.flag F.TIM_STAT_PLL_LOCK)
    (fun b => { b.put F.TIM_STAT_PLL_LOCK 1 with time := { b.time with pllTicks := 0 } }) b

/-- PLL_LOCK (R244). -/
def execPllLock (s : State) : Host.Outcome State Fault Refusal :=
  onHw (Instr.wf .pllLock) s pllLock

/-- OVN_READY (R212): 0 whenever D_OVN is off. -/
def ovnReady (b : Block) : Block :=
  whenDue (b.phase.railsOn && b.domainOn 17) (fun b => b.put F.TIM_STAT_OVN_READY 1) b

/-- OVN_READY (R212). -/
def execOvnReady (s : State) : Host.Outcome State Fault Refusal :=
  onHw (Instr.wf .ovnReady) s ovnReady

/-- OVN_LEAVE_BAND (R212). -/
def ovnLeaveBand (b : Block) : Block := whenDue b.phase.railsOn (fun b => b.put F.TIM_STAT_OVN_READY 0) b

/-- OVN_LEAVE_BAND (R212). -/
def execOvnLeaveBand (s : State) : Host.Outcome State Fault Refusal :=
  onHw (Instr.wf .ovnLeaveBand) s ovnLeaveBand

/-! ### The exchange (R218-R222) -/

/-- A span of nanoseconds in units of 2^-32 ns. -/
def nsRaw (n : Nat) : Nat := n * 2 ^ 32

/-- A signed number of picoseconds in units of 2^-32 ns. -/
def psRaw (i : Int) : Int := divOpen (i * (2 ^ 32 : Nat)) 1000

/-- A span in units of 2^-32 ns as picoseconds. -/
def rawPs (i : Int) : Int := divOpen (i * 1000) (2 ^ 32)

/-- A class 3 message of a domain at a full time (R218): quality, HOPS, increment, bound and MASTER_HASH of the sender. -/
def Block.timeMsg (b : Block) (msg x epoch wrap t : Nat) : TimeMsg :=
  let d := b.domain x
  { msg := msg, domain := x, quality := d.quality
    hops := if d.master then 0 else b.get (F.TIM_DOM_STATE_HOPS x)
    epoch := epoch, wrap := wrap, timeNs := t / 2 ^ 32 % 2 ^ 32, timeFrac := t % 2 ^ 32
    incFrac := d.inc % 2 ^ 32, incInt := d.inc / 2 ^ 32 % 256
    bound := b.boundOf x, hash := if d.master then b.get F.IDN_SERHASH else d.followed.getD 0 }

/-- SYNC_SEND (R220): once in each epoch of the domain, when its time has passed e × 2^20 + 262 144 ns, on the tree's child
ports (R466). -/
def syncSend (x : Nat) (b : Block) : Block :=
  let d := b.domain x
  let e := epochOf d.time
  whenDue (b.phase.railsOn && decide (nsRaw 262144 ≤ d.time % 2 ^ 52) && d.syncSent != e + 1)
    (fun b =>
      let m := b.timeMsg 1 x (e % 4096) (e / 4096) d.time
      (b.childPorts x).foldl (fun c p => c.post (.link p) 3 (.time m)) (b.setDomain x { d with syncSent := e + 1 })) b

/-- SYNC_SEND (R220). -/
def execSyncSend (x : Nat) (s : State) : Host.Outcome State Fault Refusal :=
  onHw (Instr.wf (.syncSend x)) s (syncSend x)

/-- TST TIME on a received class 3 frame (R586): whether DROP discards it, the SKEW to add, and the block that counted. -/
def Block.tstTime (b : Block) (p : Nat) : Bool × Int × Block :=
  if bitAt (b.get F.TST_STAT_MASK) 3 && bitAt (b.get F.TST_TIME_PORTS) p then
    if b.get F.TST_TIME_KIND = 1 then (false, psRaw (signed 16 (b.get F.TST_TIME_VALUE)), b.bump F.TST_INJ_CNT)
    else if b.get F.TST_TIME_KIND = 2 then
      let n := b.tst.timeFrames + 1
      let hit := n % max 1 (b.get F.TST_TIME_VALUE) == 0
      let b1 := { b with tst := { b.tst with timeFrames := n } }
      (hit, 0, if hit then b1.bump F.TST_INJ_CNT else b1)
    else (false, 0, b)
  else (false, 0, b)

/-- The domain follows this hash, or may take any (R221). (DEDUCED, log entry 37.) -/
def Block.hashOk (b : Block) (x hash : Nat) : Bool :=
  let d := b.domain x
  d.followed.isNone || d.followed == some hash || !d.established || b.syncState x == syFreerun

/-- SYNC_RX (R220, R221): on the domain's parent port the child takes t2; a SYNC under another hash than the one followed is
only noted. -/
def syncRx (p : Nat) (m : TimeMsg) (b : Block) : Block :=
  whenDue (b.portActive p && m.msg == 1 && b.parentPort m.domain == some p && !b.treeMaster m.domain)
    (fun b =>
      let k := b.tstTime p
      if k.1 then k.2.2
      else
        let b1 := k.2.2
        let d := b1.domain m.domain
        if b1.hashOk m.domain m.hash then
          b1.setDomain m.domain { d with
            exch := some ⟨m, wrapTime (d.time + k.2.1), none⟩
            sawFollowed := true }
        else
          b1.setDomain m.domain { d with
            sawOffered := true
            offered := match d.offered with
              | some o => if o.1 = m.hash then some o else some (m.hash, 0)
              | none => some (m.hash, 0) }) b

/-- SYNC_RX (R220). -/
def execSyncRx (p : Nat) (m : TimeMsg) (s : State) : Host.Outcome State Fault Refusal :=
  onHw (Instr.wf (.syncRx p m)) s (syncRx p m)

/-- DELAY_REQ_SEND (R220): 131 072 ns of the domain's own time after t2 the child sends DELAY_REQ and takes t3. -/
def delayReqSend (x : Nat) (b : Block) : Block :=
  let d := b.domain x
  match d.exch with
  | some e =>
    whenDue (e.t3.isNone && decide ((nsRaw 131072 : Int) ≤ timeDiff d.time e.t2))
      (fun b =>
        match b.parentPort x with
        | some p =>
          let m : TimeMsg :=
            { msg := 2, domain := x, quality := d.quality, hops := b.get (F.TIM_DOM_STATE_HOPS x), epoch := e.sync.epoch
              wrap := e.sync.wrap, timeNs := 0, timeFrac := 0, incFrac := 0, incInt := 0, bound := 0, hash := 0 }
          (b.setDomain x { d with exch := some { e with t3 := some d.time } }).post (.link p) 3 (.time m)
        | none => b) b
  | none => b

/-- DELAY_REQ_SEND (R220). -/
def execDelayReqSend (x : Nat) (s : State) : Host.Outcome State Fault Refusal :=
  onHw (Instr.wf (.delayReqSend x)) s (delayReqSend x)

/-- DELAY_REQ_RX (R220): the parent takes t4 and answers with DELAY_RESP. -/
def delayReqRx (p : Nat) (m : TimeMsg) (b : Block) : Block :=
  whenDue (b.portActive p && m.msg == 2)
    (fun b =>
      let k := b.tstTime p
      if k.1 then k.2.2
      else
        let t4 := wrapTime ((b.domain m.domain).time + k.2.1)
        k.2.2.post (.link p) 3 (.time (k.2.2.timeMsg 3 m.domain m.epoch m.wrap t4))) b

/-- DELAY_REQ_RX (R220). -/
def execDelayReqRx (p : Nat) (m : TimeMsg) (s : State) : Host.Outcome State Fault Refusal :=
  onHw (Instr.wf (.delayReqRx p m)) s (delayReqRx p m)

/-- The full time that a message carries: its WRAP, or the next one where the time has passed a wrap since the epoch began. -/
def timeFull (m : TimeMsg) : Nat :=
  let w := if m.timeNs / 2 ^ 20 + 2048 < m.epoch then m.wrap + 1 else m.wrap
  (w % 2 ^ 16) * 2 ^ 64 + m.timeNs * 2 ^ 32 + m.timeFrac

/-- A DELAY_RESP completes a valid sync (R221). -/
def Block.validSync (b : Block) (p x : Nat) (m : TimeMsg) (e : Exchange) : Bool :=
  let d := b.domain x
  let last := (m.wrap * 4096 + m.epoch + 1) * 2 ^ 52
  b.parentPort x == some p && e.t3.isSome && e.sync.epoch == m.epoch && e.sync.wrap == m.wrap
    && (!d.established || decide (timeDiff d.time (last % 2 ^ 80) ≤ 0))
    && e.sync.quality != 7 && m.quality != 7 && decide (e.sync.hops ≤ 30) && b.hashOk x e.sync.hash

/-- What a valid sync gives (R222, R223, R226): offset and delay, HOPS, quality and bound; the domain is established, or its
correction waits for the next boundary, and the state becomes TRACK. -/
def Block.takeSync (b : Block) (p x : Nat) (m : TimeMsg) (e : Exchange) : Block :=
  let d := b.domain x
  let t3 := e.t3.getD 0
  let there := timeDiff e.t2 (timeFull e.sync)
  let back := timeDiff (timeFull m) t3
  let theta := divOpen (there - back - psRaw (signed 16 (b.get (F.TIM_ASYM p)))) 2
  let delay := divOpen (there + back) 2
  let inc : Int := (e.sync.incInt * 2 ^ 32 + e.sync.incFrac : Nat)
  let b1 := ((((b.put (F.TIM_DOM_OFFSET x) (unsigned 32 (satS 32 (rawPs theta)))).put (F.TIM_DOM_DELAY x)
    (satU 32 (rawPs delay).toNat)).put (F.TIM_DOM_STATE_HOPS x) (e.sync.hops + 1)).put (F.TIM_DOM_STATE_MISSED x) 0).bump
      (F.TIM_DOM_SYNC_CNT x)
  let b2 := if b.syncState x == syHoldover && d.syncPort != some p then b1.bump (F.TIM_DOM_REPARENT_CNT x) else b1
  let d1 := { d with
    exch := none, synced := true, followed := some e.sync.hash, parentQuality := e.sync.quality
    boundSync := satU 32 (e.sync.bound + 200), syncTick := b.tick, syncPort := some p }
  if !d.established then
    let t := wrapTime (d.time - theta)
    let base := clampInc (inc + Config.laneRate b.free)
    let d2 := { d1 with established := true, time := t, inc := base, baseInc := base, epochSeen := epochOf t }
    ((b2.drawn.setDomain x d2).setSync x syTrack).establishStamp x
  else
    let thr := nsRaw (b.get (F.TIM_DOM_SERVO_STEP_THR_NS x))
    let d2 := if decide (thr < theta.natAbs) && b.time.established && b.stampDom == x then
        { d1 with selfStep := some theta, pending := some (0, inc.toNat) }
      else { d1 with pending := some (theta, inc.toNat) }
    let b3 := b2.setDomain x d2
    if b.syncState x == syTrack then b3 else b3.setSync x syTrack

/-- DELAY_RESP_RX (R221, R222). -/
def delayRespRx (p : Nat) (m : TimeMsg) (b : Block) : Block :=
  match (b.domain m.domain).exch with
  | some e =>
    whenDue (b.portActive p && m.msg == 3 && b.validSync p m.domain m e)
      (fun b => b.retimed (b.takeSync p m.domain m e)) b
  | none => b

/-- DELAY_RESP_RX (R222). -/
def execDelayRespRx (p : Nat) (m : TimeMsg) (s : State) : Host.Outcome State Fault Refusal :=
  onHw (Instr.wf (.delayRespRx p m)) s (delayRespRx p m)

/-! ### A domain's own boundary (R223, R226) -/

/-- The increment that a valid sync gives (R223): base plus integral term, minus θ over 262 144 ticks, that part limited to
STEER_PPM (held inside 1 to 500) of the increment. (DEDUCED, log entry 37.) -/
def Block.steered (b : Block) (x base : Nat) (theta : Int) : Nat :=
  let ppm := clampN 1 500 (b.get (F.TIM_DOM_SERVO_STEER_PPM x))
  let lim : Int := divOpen (base * ppm : Nat) (10 ^ 6)
  clampInc (base + Config.servoIntegral b.free - clampI (-lim) lim (divOpen theta 262144))

/-- The hash bookkeeping of an epoch (R221): a different hash that was the only one offered for 8 epochs is followed. -/
def Domain.hashEpoch (d : Domain) : Domain :=
  let d1 := { d with sawOffered := false, sawFollowed := false }
  match d.offered with
  | some o =>
    if d.sawOffered && !d.sawFollowed then
      if 8 ≤ o.2 + 1 then { d1 with followed := some o.1, offered := none } else { d1 with offered := some (o.1, o.2 + 1) }
    else { d1 with offered := none }
  | none => d1

/-- The correction at a domain's boundary (R223): a pending one is applied, a larger offset than the threshold as a step, which waits
for the stamping time's boundary where the domain has become the stamping domain since; without one the increment is the base, frozen in FREERUN, and a master's is TIM_x_MINC. -/
def Block.correct (b : Block) (x : Nat) : Block :=
  let d := b.domain x
  let st := b.syncState x
  match d.pending with
  | some (theta, inc) =>
    let base := clampInc (inc + Config.laneRate b.free)
    let b1 := b.drawn
    if nsRaw (b.get (F.TIM_DOM_SERVO_STEP_THR_NS x)) < theta.natAbs && b.time.established && b.stampDom == x then
      b1.setDomain x { d with pending := none, baseInc := base, inc := base, selfStep := some theta }
    else if nsRaw (b.get (F.TIM_DOM_SERVO_STEP_THR_NS x)) < theta.natAbs then
      ((b1.setDomain x { d with pending := none, baseInc := base, inc := base }).stepTo x
        (wrapTime (d.time - theta))).bump (F.TIM_DOM_STEP_CNT x)
    else b1.setDomain x { d with pending := none, baseInc := base, inc := b.steered x base theta }
  | none =>
    if st == syMaster then
      b.setDomain x { d with inc := clampInc ((b.get (F.TIM_DOM_MINC_HI x) * 2 ^ 32 + b.get (F.TIM_DOM_MINC_LO x) : Nat) : Int) }
    else if st == syTrack || st == syHoldover then b.setDomain x { d with inc := d.baseInc }
    else b

/-- The count of an epoch that ended without a valid sync (R226). -/
def Block.countMissed (b : Block) (x : Nat) : Block :=
  let d := b.domain x
  let b1 := b.setDomain x { d with synced := false }
  if d.synced || b.syncState x == syMaster then b1
  else (b1.put (F.TIM_DOM_STATE_MISSED x) (satU 8 (b.get (F.TIM_DOM_STATE_MISSED x) + 1))).bump (F.TIM_DOM_MISS_CNT x)

/-- The states that an epoch without syncs leads to: HOLDOVER at 2 missed, FREERUN at quality 4 (R226). Time base asks Bamien
for a new parent. -/
def Block.decay (b : Block) (x : Nat) : Block :=
  let b1 :=
    if b.syncState x == syTrack && decide (2 ≤ b.get (F.TIM_DOM_STATE_MISSED x)) then
      ((b.setDomain x { b.domain x with inc := (b.domain x).baseInc }).setSync x syHoldover).reparentNext x
    else b.requality x
  if b1.syncState x == syHoldover && (b1.domain x).quality == 4 then b1.setSync x syFreerun else b1

/-- The step that a master's GO asks for at a boundary of its domain (R242); on the stamping domain it waits for the stamping
boundary, as R223 has it for a step there. -/
def Block.masterStep (b : Block) (x : Nat) : Block :=
  if b.flag (F.TIM_DOM_MSET_HI_GO x) && b.syncState x == syMaster then
    let d := b.domain x
    let t := b.get (F.TIM_DOM_MSET_HI_WRAP x) * 2 ^ 64 + b.get (F.TIM_DOM_MSET_LO x) * 2 ^ 32
    let b1 := b.put (F.TIM_DOM_MSET_HI_GO x) 0
    if b.time.established && b.stampDom == x then b1.setDomain x { d with selfStep := some (timeDiff d.time t) }
    else b1.stepTo x t
  else b

/-- A boundary of a domain's own time (R223): correction, MISSED, quality, sync state. -/
def Block.domainBoundary (b : Block) (x : Nat) : Block :=
  let d := b.domain x
  if epochOf d.time = d.epochSeen then b
  else
    let b1 := b.setDomain x { d.hashEpoch with epochSeen := epochOf d.time }
    let b2 := ((b1.countMissed x).correct x).masterStep x
    b.retimed (b2.decay x)

/-- DOMAIN_EPOCH_BOUNDARY (R223). -/
def domainEpochBoundary (x : Nat) (b : Block) : Block := whenDue b.phase.railsOn (fun b => b.domainBoundary x) b

/-- DOMAIN_EPOCH_BOUNDARY (R223). -/
def execDomainEpochBoundary (x : Nat) (s : State) : Host.Outcome State Fault Refusal :=
  onHw (Instr.wf (.domainEpochBoundary x)) s (domainEpochBoundary x)

/-! ### The stamping domain at a boundary (R228-R232) -/

/-- Consecutive boundaries, this one included, at which P was no worse than S (R228). -/
def Block.retNow (b : Block) : Nat :=
  if (b.domain 0).quality ≤ (b.domain 1).quality then b.time.retCount + 1 else 0

/-- The domain that SW_MODE and the qualities select (R228). -/
def Block.stampTarget (b : Block) : Nat :=
  let p := b.domain 0
  let s := b.domain 1
  match b.get F.TIM_CTRL_SW_MODE with
  | 1 => if p.established then 0 else b.stampDom
  | 2 => if s.established then 1 else b.stampDom
  | _ =>
    if b.stampDom = 0 then
      if !b.lost 1 && s.quality != 7 && (b.lost 0 || decide (s.quality < p.quality)) then 1 else 0
    else if !b.lost 0 && (decide (p.quality < s.quality) || decide (max 1 (b.get F.TIM_CTRL_RET_EPOCHS) ≤ b.retNow)) then 0
    else 1

/-- The largest |d| applied, in 2^-32 ns (R229); SW_MAXDIFF held inside 1 to 1 000 000. -/
def Block.maxDiff (b : Block) : Nat := nsRaw (1000 * clampN 1 1000000 (b.get F.TIM_SWLIM))

/-- A switch of the stamping time to a domain applied at this tick (R68, R231, R232). -/
def Block.applySwitch (b : Block) (x : Nat) : Block × SwitchNote :=
  let old := b.stampRaw
  let new := (b.domain x).time
  let d := timeDiff new old
  let b1 := ((b.put F.TIM_STAT_STAMP_DOM x).put F.TIM_STAT_SW_BLOCKED 0).setLevel 152 false 0
  if 0 < d then
    let wrapStart := (old / 2 ^ 64 + 1) * 2 ^ 64 % 2 ^ 80
    let rest := timeDiff new wrapStart
    let split := tsWrap new != tsWrap old && decide (0 < rest)
    let land := if split then wrapStart else new
    let b2 := { b1.put F.TIM_STAT_SLEWING 0 with time := { b1.time with
      dom := x == 1, held := none, resid := 0, secondPart := if split then some rest.toNat else none } }
    (b2.toutJump 2, ⟨(timeDiff land old + old % 2 ^ 22) / (2 ^ 22 : Nat), true, old, land, b.stampDom, x, 0⟩)
  else
    let b2 := { b1.putB F.TIM_STAT_SLEWING (decide (d < 0)) with time := { b1.time with
      dom := x == 1, held := none, resid := d.natAbs, secondPart := none } }
    (b2, ⟨(d + old % 2 ^ 22) / (2 ^ 22 : Nat), false, old, old, b.stampDom, x, d.natAbs⟩)

/-- A switch is tried: applied within SW_MAXDIFF, else blocked, on its own domain with the held offset (R229, R230). (DEDUCED, log entry 37.) -/
def Block.trySwitch (b : Block) (cur x : Nat) : Block × Option SwitchNote :=
  let d := timeDiff (b.domain x).time cur
  if b.maxDiff < d.natAbs then
    let b1 := (b.put F.TIM_STAT_SW_BLOCKED 1).setLevel 152 true
      (unsigned 32 (satS 32 (Int.tdiv d (nsRaw 1000 : Nat))))
    if x = b.stampDom then
      ({ b1.put F.TIM_STAT_SLEWING 0 with time := { b1.time with held := some (-d), resid := 0, secondPart := none } }, none)
    else (b1, none)
  else
    let r := b.applySwitch x
    (r.1, some r.2)

/-- The stepped counter of the stamping domain, where a step waits for this boundary (R223): the stamping time goes on
through a held offset until the switch that follows. -/
def Block.selfStepped (b : Block) : Block :=
  let x := b.stampDom
  let d := b.domain x
  match d.selfStep with
  | some theta =>
    let cur := b.stampRaw
    let b1 := (b.setDomain x { d with selfStep := none }).stepTo x (wrapTime (d.time - theta))
    let b2 := if b.syncState x == syMaster then b1 else b1.bump (F.TIM_DOM_STEP_CNT x)
    { b2 with time := { b2.time with
        held := some (timeDiff cur (b2.domain x).time), resid := 0, secondPart := none } }
  | none => b

/-- The stamping domain decided at a boundary (R228 to R232), and the switch applied, if any. At the boundary of a step, a blocked switch to
the other domain leaves the step's own switch; a held offset ends only with the domain that R228 selects (R230). -/
def Block.stampBoundary (b : Block) : Block × Option SwitchNote :=
  match b.time.secondPart with
  | some rest =>
    let old := b.stampRaw
    let b1 := { b with time := { b.time with secondPart := none } }
    (b1.toutJump 2, some ⟨(rest + old % 2 ^ 22 : Nat) / (2 ^ 22 : Nat), true, old, b1.stampRaw, b.stampDom, b.stampDom, 0⟩)
  | none =>
    let target := b.stampTarget
    let b0 := { b with time := { b.time with retCount := b.retNow } }
    let b1 := b0.selfStepped
    let cur := b1.stampRaw
    if target = b1.stampDom && b1.time.held.isNone then (b1, none)
    else
      let r := b1.trySwitch cur target
      if r.2.isNone && target != b1.stampDom && (b.domain b.stampDom).selfStep.isSome then r.1.trySwitch cur b1.stampDom else r

/-- SLEW_END (R231): the residual has reached 0. -/
def slewEnd (b : Block) : Block :=
  whenDue (b.flag F.TIM_STAT_SLEWING && b.time.resid == 0) (fun b => b.put F.TIM_STAT_SLEWING 0) b

/-- SLEW_END (R231). -/
def execSlewEnd (s : State) : Host.Outcome State Fault Refusal :=
  onHw (Instr.wf .slewEnd) s slewEnd

/-- A write of TIM_x_MSET_HI (R242): refused with GO on a module that is not the domain's master. (DEDUCED, log entry 37.) -/
def masterSetOp (x : Nat) (lo : Option Nat) (w : Nat) (b : Block) : Block × Status :=
  if bitAt w 31 && b.syncState x != syMaster then (b.bump F.TIM_REFUSE_CNT, .busyResource)
  else
    let b1 := match lo with
      | some v => b.put (F.TIM_DOM_MSET_LO x) v
      | none => b
    let b2 := b1.put (F.TIM_DOM_MSET_HI_WRAP x) (bitsOf w 15 0)
    (if bitAt w 31 then b2.put (F.TIM_DOM_MSET_HI_GO x) 1 else b2, .ok)

/-! ### TOUT (R236-R239) -/

/-- The program that a pin's registers give (R236 to R238). -/
def Block.toutProgram (b : Block) (i : Nat) : Tout :=
  let period := b.get (F.TOUT_PERIOD i)
  let width := clampN 8 1048576 (b.get (F.TOUT_WIDTH i))
  { dom := b.get (F.TOUT_CTRL_DOMAIN i)
    start := (b.get (F.TOUT_START_X_WRAP i) * 2 ^ 32 + b.get (F.TOUT_START_NS i)) * 16 + b.get (F.TOUT_START_X_FRAC16 i)
    width := if period = 0 then width else min width (period - 8)
    period := period, count := b.get (F.TOUT_CTRL_COUNT i), next := 0, waiting := none }

/-- A program armed (R236, R238): instances less than 2 µs after the arming write are not emitted; a single pulse is then
LATE and disarms. -/
def Block.toutArmed (b : Block) (i : Nat) : Block :=
  let t := b.toutProgram i
  let b1 := ((b.put (F.TOUT_CTRL_ARM i) 1).put (F.TOUT_CTRL_LATE i) 0).put (F.TOUT_EMITTED i) 0
  let n := t.passed (wrapTime (b.toutTime t.dom + nsRaw 2000 : Nat))
  if t.period = 0 && n != 0 then (b1.disarm i).put (F.TOUT_CTRL_LATE i) 1
  else if t.isOver n then b1.disarm i
  else { b1 with time := { b1.time with tout := insertKey b1.time.tout i { t with next := n } } }

/-- The fields of TOUT_CTRL_i beside ARM and LATE. -/
def Block.toutFields (b : Block) (i w : Nat) : Block :=
  ((b.put (F.TOUT_CTRL_DOMAIN i) (bitsOf w 29 28)).put (F.TOUT_CTRL_INVERT i) (bitsOf w 27 27)).put
    (F.TOUT_CTRL_COUNT i) (bitsOf w 23 0)

/-- A write of TOUT_CTRL_i (R236): ARM 1 arms, and is refused while armed; ARM 0 disarms at once. -/
def toutCtrlOp (i w : Nat) (b : Block) : Block × Status :=
  if bitAt w 31 then
    if b.flag (F.TOUT_CTRL_ARM i) then (b.bump F.TIM_REFUSE_CNT, .busyResource)
    else ((b.toutFields i w).toutArmed i, .ok)
  else ((b.disarm i).toutFields i w, .ok)

/-- TOUT_INSTANCE (R237): the domain has reached the next instance; the pin goes active, and the program counts on. (DEDUCED, log entry 38.) -/
def toutInstance (i : Nat) (b : Block) : Block :=
  match lookup b.time.tout i with
  | some t =>
    let at1 := t.instant t.next
    whenDue (t.waiting.isNone && decide (0 ≤ timeDiff (b.toutTime t.dom) at1))
      (fun b =>
        let b1 := b.bump (F.TOUT_EMITTED i)
        let b2 := { b1 with time := { b1.time with
          pulse := insertKey b1.time.pulse i (t.dom, wrapTime (at1 + nsRaw t.width : Nat)) } }
        let t1 := { t with next := t.next + 1 }
        if t1.isOver t1.next then b2.disarm i
        else { b2 with time := { b2.time with tout := insertKey b2.time.tout i t1 } }) b
  | none => b

/-- TOUT_INSTANCE (R237). -/
def execToutInstance (o : Nat) (s : State) : Host.Outcome State Fault Refusal :=
  onHw (Instr.wf (.toutInstance o)) s (toutInstance o)

/-- TOUT_PULSE_END (R237): WIDTH has passed; the pin returns. (DEDUCED, log entry 38.) -/
def toutPulseEnd (i : Nat) (b : Block) : Block :=
  match lookup b.time.pulse i with
  | some e =>
    whenDue (decide (0 ≤ timeDiff (b.toutTime e.1) e.2))
      (fun b => { b with time := { b.time with pulse := eraseKey b.time.pulse i } }) b
  | none => b

/-- TOUT_PULSE_END (R237). -/
def execToutPulseEnd (o : Nat) (s : State) : Host.Outcome State Fault Refusal :=
  onHw (Instr.wf (.toutPulseEnd o)) s (toutPulseEnd o)

end Sys2Proof.Machine
end

