-- ==== Sys2Proof/Machine/Image.lean ====
section
/-! DEFINITION. The LMIG container: its header, its sections, their entries, and what Verify accepts and refuses (R96 to R104,
R110, R111). -/

namespace Sys2Proof.Machine

open Sys2Proof

/-! ### Bytes of a payload (R5) -/

/-- The byte at an offset. -/
def u8 (p : List Nat) (o : Nat) : Nat := p.getD o 0 % 256

/-- The 16-bit, 32-bit and 64-bit integers at an offset. -/
def u16 (p : List Nat) (o : Nat) : Nat := leVal ((p.drop o).take 2)
def u32 (p : List Nat) (o : Nat) : Nat := leVal ((p.drop o).take 4)
def u64 (p : List Nat) (o : Nat) : Nat := leVal ((p.drop o).take 8)

/-- Bytes `o` to `o + n - 1` are zero. -/
def zeros (p : List Nat) (o n : Nat) : Bool := ((p.drop o).take n).all (· == 0)

/-- A payload cut into entries of `n` bytes; the last may be incomplete. -/
def chunksOf (n : Nat) : Nat → List Nat → List (List Nat)
  | 0, _ => []
  | k + 1, l => if l.isEmpty then [] else l.take n :: chunksOf n k (l.drop n)

/-- The entries of a section of fixed entry size. -/
def entriesOf (n : Nat) (p : List Nat) : List (List Nat) := chunksOf n (p.length / n + 1) p

/-- The first entry at fault of a section whose entries have `n` bytes, an incomplete one among them (R100). (DEDUCED, log entry 18.) -/
def entryFault (n : Nat) (bad : List (List Nat) → List Nat → Bool) (p : List Nat) : Option Nat :=
  let l := entriesOf n p
  (List.range l.length).find? fun i => (l.getD i []).length != n || bad (l.take i) (l.getD i [])

/-! ### Entries with heads (R300, R437) -/

/-- An entry of TRIGGER or BEAVER: its 8-byte head, its body; whether both lie within the section. -/
structure ImgEntry where
  head : List Nat
  body : List Nat
  whole : Bool
deriving DecidableEq, Repr

/-- LEN of an entry. -/
def ImgEntry.len (e : ImgEntry) : Nat := u32 e.head 4

/-- The entries of such a section. -/
def headed : Nat → List Nat → List ImgEntry
  | 0, _ => []
  | n + 1, l =>
    if l.isEmpty then []
    else
      let len := u32 l 4
      let e : ImgEntry := ⟨l.take 8, (l.drop 8).take len, decide (8 + len ≤ l.length)⟩
      e :: if e.whole then headed n (l.drop (8 + len)) else []

/-- The entries of a TRIGGER section, after its header. -/
def triggerEntries (p : List Nat) : List ImgEntry := headed p.length (p.drop 16)

/-- The entries of a BEAVER section. -/
def beaverEntries (p : List Nat) : List ImgEntry := headed p.length p

/-! ### The contents of sections -/

/-- The fault index of a fault that lies in no entry (R618). -/
abbrev noEntry : Nat := 0xFFFF

/-- MODULE (R469). -/
def moduleFault (p : List Nat) : Option Nat :=
  if p.length ≠ 16 ∨ 1 < u8 p 0 ∨ (4095 < u16 p 2 ∧ (u16 p 2 ≠ 0xFFFF ∨ u8 p 0 = 0)) ∨ !zeros p 4 12 then some noEntry else none

/-- Profile identifiers of the fast channels but OFF, of the precision channels but OFF, of the event builder, of the queues (R142, R177,
R365, R399). -/
def fastIds : List Nat := [0x0101, 0x0102, 0x0103, 0x0201, 0x0202, 0x0301]
def precIds : List Nat := [0x0401, 0x0402, 0x0403, 0x0404, 0x0411, 0x0412, 0x0421]
def evbIds : List Nat := [0x0901, 0x0902, 0x0903]
def egqIds : List Nat := [0x0C00, 0x0C01]

/-- An entry of PROFILES that is refused (R143, R176, R365, R399, R617). -/
def profileBad (e : List Nat) : Bool :=
  let first := u16 e 2
  let n := u16 e 4
  let id := u16 e 6
  let unit := u8 e 0
  u8 e 1 != 0 ||
    if decide (20 ≤ unit) && decide (unit ≤ 23) then
      !(id == 0 || fastIds.contains id || precIds.contains id)
        || (n != 0 && (decide (256 < first + n) || (fastIds.contains id && decide (240 < first + n)) || (precIds.contains id && decide (first < 240))))
    else if unit = 9 then decide (8 < first + n) || !evbIds.contains id
    else if unit = 12 then decide (8 < first + n) || !egqIds.contains id
    else true

/-- An entry of PINS that is refused (R240, R264). -/
def pinBad (e : List Nat) : Bool :=
  let i := u8 e 1
  match u8 e 0 with
  | 0x01 => i != 0
  | 0x02 => decide (3 < i) || u32 e 8 == 0 || decide (u32 e 8 ≤ u32 e 12)
  | 0x03 => decide (7 < i)
  | 0x10 => decide (7 < i) || (decide (3 < i) && u8 e 2 == 2)
  | 0x11 => decide (3 < i)
  | _ => true

/-- The key that a FABRIC entry must not repeat: PORT and TREE by index, ROUTE by DEST (R471). -/
def fabricKey (e : List Nat) : Option Nat :=
  match u8 e 0 with
  | 1 => some (0x10000 + u8 e 1)
  | 2 => some (0x20000 + u8 e 1)
  | 4 => some (0x40000 + u16 e 2)
  | _ => none

/-- An entry of FABRIC that is refused, after the entries before it (R471). -/
def fabricBad (before : List (List Nat)) (e : List Nat) : Bool :=
  let i := u8 e 1
  let kind : Bool := match u8 e 0 with
    | 1 => decide (7 < i) || (u8 e 2 == 2 && (bitAt (u8 e 3) 0 || (bitAt (u8 e 3) 2 && !bitAt (u8 e 3) 1)))
    | 2 => decide (2 < i) || (([2, 3, 4, 5] : List Nat).any fun k => decide (7 < u8 e k) && u8 e k != 15)
    | 3 => decide (7 < i)
    | 4 => i != 0
    | 5 => i != 0 || decide (u8 e 2 < 2) || decide (254 < u8 e 2)
    | _ => true
  kind || ((fabricKey e).isSome && before.any fun x => fabricKey x == fabricKey e)

/-- An entry of EQ_TABLE that is refused (R490). -/
def eqBad (before : List (List Nat)) (e : List Nat) : Bool :=
  decide (7 < u8 e 0) || (before.any fun x => u8 x 0 == u8 e 0) || decide (31 < u8 e 2 + u8 e 3)

/-- An entry of CALIB that is refused (R203). -/
def calibBad (e : List Nat) : Bool :=
  decide (63 < u8 e 0) || decide (5 < u8 e 1) || !zeros e 2 2 || decide (1 < u32 e 12)

/-- The words of a TRIGGER entry's KIND and its highest INDEX (R300). -/
def triggerKind (k : Nat) : Option (Nat × Nat) :=
  match k with
  | 1 => some (4, 1991)
  | 2 => some (8, 255)
  | 3 => some (8, 63)
  | 4 => some (1, 63)
  | _ => none

/-- An entry of TRIGGER that is refused under a header (R301). -/
def triggerBad (p : List Nat) (e : ImgEntry) : Bool :=
  !e.whole ||
    match triggerKind (u8 e.head 0) with
    | some (n, top) =>
      decide (top < u16 e.head 2) || e.len != 4 * n
        || (u8 e.head 0 == 3 && bitAt (u32 e.body 0) 31 && decide (1000 * u32 p 0 ≤ u32 e.body 4 + 1000 * u32 p 4))
    | none => true

/-- TRIGGER (R301): its header, its entries, its count of builders. -/
def triggerFault (p : List Nat) : Option Nat :=
  let l := triggerEntries p
  if p.length < 16 ∨ u32 p 0 < 100 ∨ 400000 < u32 p 0 then some noEntry
  else
    match (List.range l.length).find? fun i => triggerBad p (l.getD i ⟨[], [], false⟩) with
    | some i => some i
    | none => if u8 p 9 ≠ (l.filter fun e => u8 e.head 0 == 4).length then some noEntry else none

/-- The tile, slot and bank of a BEAVER entry. -/
def ImgEntry.place (e : ImgEntry) : Nat × Nat × Nat := (u8 e.head 1, u8 e.head 2, u8 e.head 3)

/-- PROG_LEN of a BANK entry. -/
def ImgEntry.progLen (e : ImgEntry) : Nat := u8 e.body 0 % 128

/-- NCOEF of a BANK entry. -/
def ImgEntry.ncoef (e : ImgEntry) : Nat := u32 e.body (4 + 8 * e.progLen)

/-- The registers of a bank from its entry (R437): operations, coefficients, those beyond NCOEF zero. -/
def Block.loadBank (b : Block) (e : ImgEntry) : Block :=
  let (t, s, k) := e.place
  let n := e.progLen
  let b1 := (b.put (F.BVR_S_BANK_PROG_LEN t s k) n).put (F.BVR_S_BANK_FORMAT t s k) (u8 e.body 0 / 128)
  let b2 := (List.range 64).foldl (fun c i =>
    let on : Bool := decide (i < n)
    (c.put (F.BVR_OP_LO t s k i) (if on then u32 e.body (4 + 8 * i) else 0)).put (F.BVR_OP_HI t s k i)
      (if on then u32 e.body (8 + 8 * i) else 0)) b1
  (List.range 256).foldl (fun c i =>
    c.put (F.BVR_COEF t s k i) (if i < e.ncoef then u32 e.body (8 + 8 * n + 4 * i) else 0)) b2

/-- The registers of a slot from its entry (R437). -/
def Block.loadSlot (b : Block) (e : ImgEntry) : Block :=
  let (t, s, _) := e.place
  (List.range 6).foldl (fun c i =>
    c.writeFields ((F.BVR_S_CFG_PACE_CH t s).addr + (if i = 0 then 0 else 0xC + 4 * i)) (u32 e.body (4 * i))) b

/-- An entry of BEAVER that is refused, AUTOSTART aside (R438). -/
def beaverBad (e : ImgEntry) : Bool :=
  let (t, s, k) := e.place
  !e.whole || decide (3 < t) || decide (3 < s) ||
    match u8 e.head 0 with
    | 1 =>
      decide (1 < k) || u32 e.body 0 / 256 != 0 || decide (256 < e.ncoef) || e.len != 8 + 8 * e.progLen + 4 * e.ncoef
        || !(Block.reset.loadBank e).bankValid t s k
    | 2 => k != 0 || e.len != 32 || !zeros e.body 24 8
    | _ => true

/-- BEAVER (R438): its entries; an AUTOSTART slot whose AUTO_BANK no entry loads. -/
def beaverFault (p : List Nat) : Option Nat :=
  let l := beaverEntries p
  (List.range l.length).find? fun i =>
    let e := l.getD i ⟨[], [], false⟩
    let (t, s, _) := e.place
    beaverBad e || (u8 e.head 0 == 2 && bitAt (u32 e.body 0) 16
      && !l.any fun x => u8 x.head 0 == 1 && x.place == (t, s, b2n (bitAt (u32 e.body 0) 17)))

/-- BUDGET (R518). -/
def budgetFault (p : List Nat) : Option Nat :=
  let lv := u8 p 0x0D
  let fast := u16 p 0x10
  let slow := u16 p 0x12
  if p.length ≠ 120 ∨ lv / 16 % 8 < lv % 8 ∨ 105 < u8 p 0x0C ∨ fast < 1 ∨ 720 < fast ∨ slow < 1 ∨ 720 < slow ∨ slow < fast
      ∨ 3 ≤ u8 p 0x0F ∨ u8 p 0x21 ≠ 0 ∨ !zeros p 0x70 8 then some noEntry
  else none

/-- The fault of a section's content, by its type: DETAIL_IDX (R100, R618). -/
def contentFault (typ : Nat) (p : List Nat) : Option Nat :=
  match typ with
  | 0x10 => moduleFault p
  | 0x11 => entryFault 8 (fun _ e => profileBad e) p
  | 0x12 => if p.length ≠ 4 then some noEntry else none
  | 0x13 => entryFault 16 (fun _ _ => false) p
  | 0x14 => entryFault 16 (fun _ e => pinBad e) p
  | 0x15 => entryFault 32 fabricBad p
  | 0x16 => entryFault 8 eqBad p
  | 0x17 => triggerFault p
  | 0x18 => beaverFault p
  | 0x19 => entryFault 16 (fun _ e => calibBad e) p
  | 0x1A => budgetFault p
  | _ => none

/-! ### The container (R96 to R101) -/

/-- A section as Verify read it: its index, its TYPE, the offset of its header, its payload unpacked. -/
structure Section where
  idx : Nat
  typ : Nat
  off : Nat
  payload : List Nat
deriving DecidableEq, Repr

/-- A refusal: CODE, DETAIL_SEC, DETAIL_IDX (R86, R87). -/
structure BootErr where
  code : Nat
  sec : Nat
  idx : Nat
deriving DecidableEq, Repr

/-- The word of SYS_BOOT_ERR: an index above 0xFFFE reads 0xFFFE, no entry 0xFFFF (R618). -/
def bootErr (code sec idx : Nat) : BootErr := ⟨code, sec % 256, if idx = noEntry then noEntry else min idx 0xFFFE⟩

/-- The cap on ULEN of a section type, of the known ones (R99). -/
def sectionCap (typ : Nat) : Option Nat :=
  match typ with
  | 0x01 => some (0x10000 + 128)
  | 0x02 => some (0x400000 + 128)
  | 0x10 => some 0x1000
  | 0x11 => some 0x10000
  | 0x12 => some 4
  | 0x13 => some 0x100000
  | 0x14 => some 0x1000
  | 0x15 => some 0x100000
  | 0x16 => some 0x1000
  | 0x17 => some 0x100000
  | 0x18 => some 0x40000
  | 0x19 => some 0x100000
  | 0x1A => some 0x4000
  | 0xF0 => some 96
  | _ => none

/-- The header is one that Verify accepts on this stepping (R96, R97). (DEDUCED, log entry 18.) -/
def headerOk (step : Nat) (d : List Nat) : Bool :=
  decide (64 ≤ d.length) && d.take 4 == [0x4C, 0x4D, 0x49, 0x47] && u16 d 4 == 1 && u16 d 6 == 64
    && u32 d 0x28 == crc32c (d.take 0x28) && u32 d 0x1C == 0x4C4D1024
    && decide (u8 d 0x20 ≤ step) && decide (step ≤ u8 d 0x21)

/-- The unpacked payload of a known section, or the CODE of its refusal and whether a decompression failed (R100, R101, R376, R378). -/
def unpackSection (packed : Bool) (stored : List Nat) (ulen cap : Nat) : Except (Nat × Bool) (List Nat) :=
  if packed then
    if 64 * stored.length < ulen ∨ cap < ulen then .error (8, true)
    else
      let r := lpsUnpack stored ulen cap
      match r.end_ with
      | .ok => .ok r.out
      | .limit => .error (8, true)
      | .short => .error (8, true)
      | _ => .error (7, true)
  else if ulen ≠ stored.length ∨ cap < ulen then .error (7, false)
  else .ok stored

/-- The sections read from an offset on, and the refusal that ended the reading (R98 to R101): the fields of a walk are the sections so
far, newest first, and whether OWNER_SIG has come. (DEDUCED, log entry 18.) -/
def walkSections (d : List Nat) (total : Nat) : Nat → Nat → List Section → Bool → List Section × Option (BootErr × Bool)
  | 0, _, acc, _ => (acc.reverse, none)
  | n + 1, pos, acc, sig =>
    let idx := acc.length
    let bad (code : Nat) (dec : Bool) : List Section × Option (BootErr × Bool) := (acc.reverse, some (bootErr code idx noEntry, dec))
    let limit := min total d.length
    if sig ∨ limit < pos + 16 then bad 7 false
    else
      let h := (d.drop pos).take 16
      let typ := u16 h 0
      let flags := u16 h 2
      let len := u32 h 4
      let stored := (d.drop (pos + 16)).take len
      let key := typ % 0x8000
      let isSig := typ == 0xF0
      let out := acc.any fun s => s.typ % 0x8000 == key || (!isSig && decide (key < s.typ % 0x8000))
      let next := pos + 16 + len + (8 - len % 8) % 8
      if limit < pos + 16 + len ∨ 1 < flags ∨ out ∨ (isSig && (flags == 1 || pos + 16 + len != total))
          ∨ ((sectionCap typ).isNone && typ < 0x8000) ∨ crc32c stored ≠ u32 h 12 then bad 7 false
      else
        match sectionCap typ with
        | none => walkSections d total n next (⟨idx, typ, pos, []⟩ :: acc) sig
        | some cap =>
          if isSig && len != 96 then bad 7 false
          else
            match unpackSection (flags == 1) stored (u32 h 8) cap with
            | .error e => bad e.1 e.2
            | .ok p => walkSections d total n next (⟨idx, typ, pos, p⟩ :: acc) isSig

/-- The section of a type, if it was read. -/
def findSection (l : List Section) (typ : Nat) : Option Section := l.find? fun s => s.typ == typ

/-- The payload of a section, empty where the container has none. -/
def sectionBytes (l : List Section) (typ : Nat) : List Nat := ((findSection l typ).map (·.payload)).getD []

/-! ### Verify (R87, R102, R103, R110, R111) -/

/-- The CODE with which a vendor code object is refused (R103, R110): KIND 1 the Owl, 2 the warren; its counter. -/
def codeFault (kind counter : Nat) (p : List Nat) : Option Nat :=
  let n := u32 p 0x0C
  if p.length < 128 ∨ u32 p 0 ≠ kind ∨ !zeros p 9 3 ∨ !zeros p 16 16 ∨ (if kind = 1 then 0x10000 else 0x400000) < n
      ∨ p.length ≠ 128 + n ∨ !sigOk Config.vendorKey (p.take (32 + n)) (p.drop (32 + n)) then some 4
  else if u8 p 8 < counter then some 5
  else none

/-- What Verify finds of a container: its sections, whether both code objects were accepted, the refusal, whether a decompression failed. -/
structure Verified where
  secs : List Section
  codeOk : Bool
  err : Option BootErr
  decFail : Bool
deriving DecidableEq, Repr

/-- The refusal of a code object that was read. -/
def codeErr (f : Fuses) (l : List Section) : Option BootErr :=
  (([(1, f.owl), (2, f.warren)] : List (Nat × Nat)).findSome? fun k =>
    (findSection l k.1).bind fun s => (codeFault k.1 k.2 s.payload).map fun c => bootErr c s.idx noEntry)

/-- The ACTIVE owner key of a slot (R111). -/
def Fuses.activeKey (f : Fuses) (slot : Nat) : Option (List Nat) :=
  match lookup f.keys slot with
  | some (false, k) => some k
  | _ => none

/-- The refusal of the owner's part (R87, R102, R110, R111). -/
def ownerErr (f : Fuses) (d : List Nat) (l : List Section) : Option BootErr :=
  match findSection l 0xF0 with
  | none => none
  | some s =>
    if f.keys.isEmpty then some (bootErr 0x0D 0 noEntry)
    else
      match f.activeKey (u8 d 0x22) with
      | none => some (bootErr 6 s.idx noEntry)
      | some k =>
        if !sigOk k (d.take s.off) s.payload then some (bootErr 4 s.idx noEntry)
        else if u8 d 0x14 < f.cfg then some (bootErr 5 0 noEntry)
        else l.findSome? fun x => (contentFault x.typ x.payload).map fun i => bootErr 7 x.idx i

/-- Verify of a container on a stepping, under the fuses (R80, R87, R96 to R104, R110, R111). (DEDUCED, log entry 18.) -/
def verify (step : Nat) (f : Fuses) (d : List Nat) : Verified :=
  if !headerOk step d then ⟨[], false, some (bootErr 3 0 noEntry), false⟩
  else
    let n := u16 d 0x16
    let w := walkSections d (u32 d 0x18) n 64 [] false
    let l := w.1
    let read := (findSection l 1).isSome && (findSection l 2).isSome
    match codeErr f l with
    | some e => ⟨l, false, some e, (w.2.map (·.2)).getD false⟩
    | none =>
      match w.2 with
      | some e => ⟨l, read, some e.1, e.2⟩
      | none =>
        if !read || (findSection l 0xF0).isNone then ⟨l, read, some (bootErr 7 n noEntry), false⟩
        else ⟨l, true, ownerErr f d l, false⟩

end Sys2Proof.Machine
end

