-- ==== Sys2Proof/Machine/Sections.lean ====
section
/-! DEFINITION. What the sections of an accepted image set, entry by entry in the order of Configure, and the conflicts that Configure
refuses (R105 to R107, R142, R148, R153, R177, R203, R206, R240, R256, R264, R300, R365, R399, R437, R470, R490, R518). -/

namespace Sys2Proof.Machine

open Sys2Proof

/-- One entry of a section as Configure applies it: its section, its index, the registers it names, its effect. -/
structure ConfStep where
  sec : Nat
  idx : Nat
  touch : List Nat
  act : Block → Block

/-- The steps of a section's entries. -/
def stepsOf {α : Type} (s : Section) (l : List α) (f : α → List Nat × (Block → Block)) : List ConfStep :=
  (List.range l.length).zipWith (fun i e => ⟨s.idx, i, (f e).1, (f e).2⟩) l

/-! ### MODULE, PINS, EQ_TABLE (R469, R240, R264, R490) -/

/-- MODULE: the node ID mode and the roles. -/
def Block.applyModule (b : Block) (p : List Nat) : Block :=
  let r := u8 p 1
  let b1 := ((b.put F.TRG_STAT_ROLE_MASTER (r / 4)).put F.TRG_STAT_ROLE_STANDBY (r / 8))
  { b1 with
    fab := { b1.fab with nodeMode := u8 p 0, imageNode := u16 p 2, roles := r }
    time := { b1.time with p := { b1.time.p with master := bitAt r 0 }, s := { b1.time.s with master := bitAt r 1 } } }

/-- A TOUT program that waits for quality 1 (R239). -/
def Block.applyTout (b : Block) (e : List Nat) : Block :=
  let i := u8 e 1
  let b1 := ((((b.put (F.TOUT_CTRL_DOMAIN i) (u8 e 2)).put (F.TOUT_CTRL_INVERT i) (u8 e 3)).put (F.TOUT_CTRL_COUNT i) 0).put (F.TOUT_CTRL_ARM i) 1)
  let b2 := (b1.put (F.TOUT_WIDTH i) (min (u32 e 4) (2 ^ 21 - 1))).put (F.TOUT_PERIOD i) (u32 e 8)
  { b2 with time := { b2.time with tout := insertKey b2.time.tout i { b2.toutProgram i with waiting := some (u32 e 12) } } }

/-- An entry of PINS: the registers it names and its effect. -/
def pinStep (e : List Nat) : List Nat × (Block → Block) :=
  let i := u8 e 1
  match u8 e 0 with
  | 0x01 => ([F.TIM_CTRL_REF_SEL.addr, F.TIM_SWLIM.addr], fun b =>
      (((b.put F.TIM_CTRL_REF_SEL (u8 e 2)).put F.TIM_CTRL_SW_MODE (u8 e 3)).put F.TIM_CTRL_RET_EPOCHS (min (u32 e 4) 0xFFFF)).put F.TIM_SWLIM
        (min (u32 e 8) 0xFFFFF))
  | 0x02 => ([(F.TOUT_CTRL_ARM i).addr], fun b => b.applyTout e)
  | 0x03 => ([(F.TIM_ASYM i).addr], fun b => b.put (F.TIM_ASYM i) (u32 e 4))
  | 0x10 => ([(F.TDC_PIN_CFG_FUNCTION i).addr], fun b =>
      let b1 := ((b.put (F.TDC_PIN_CFG_FUNCTION i) (u8 e 2)).put (F.TDC_PIN_CFG_INVERT i) (u8 e 3)).put (F.TDC_PIN_CFG_TRAIL_EN i) (u8 e 3 / 2)
      let b2 := (b1.put (F.TDC_PIN_CFG_HYST_MV i) (min (u32 e 4) 63)).put (F.TDC_PIN_CFG_HOLDOFF i) (min (u32 e 8) 4095)
      { b2 with tdc := { b2.tdc with userDly := insertKey b2.tdc.userDly (1024 + i) (u32 e 12 % 2 ^ 16) } })
  | _ => ([0x200120 + i * 0x40000, 0x200124 + i * 0x40000], fun b =>
      (b.writeFields (0x200120 + i * 0x40000) (u32 e 4)).writeFields (0x200124 + i * 0x40000) (u32 e 8))

/-- An entry of EQ_TABLE. -/
def eqStep (e : List Nat) : List Nat × (Block → Block) :=
  let p := u8 e 0
  ([(F.LNK_EQ_CTLE p).addr], fun b =>
    (((b.put (F.LNK_EQ_CTLE p) (u8 e 1)).put (F.LNK_EQ_AMP p) (u8 e 1 / 16)).put (F.LNK_EQ_PRE p) (u8 e 2)).put (F.LNK_EQ_POST p) (u8 e 3))

/-! ### PROFILES (R142, R177, R206, R365, R399) -/

/-- MODE, VGAIN, QRANGE, HP, LP, BLR, POLARITY, DUAL, THR_LO, THR_HI, HYST, HOLDOFF of a fast-channel profile; another identifier is OFF. -/
def fastProfile (id : Nat) : List Nat :=
  match id with
  | 0x0101 => [1, 2, 4, 0, 0, 1, 2, 1, 131, 262, 8, 500]
  | 0x0102 => [1, 2, 4, 3, 2, 1, 2, 1, 131, 262, 8, 250]
  | 0x0103 => [1, 2, 4, 0, 4, 1, 2, 1, 131, 262, 8, 250]
  | 0x0201 => [3, 0, 4, 5, 7, 2, 0, 0, 64, 2047, 4, 10]
  | 0x0202 => [3, 0, 7, 2, 3, 2, 0, 0, 64, 2047, 4, 50]
  | 0x0301 => [2, 0, 4, 0, 7, 1, 0, 0, 164, 2047, 4, 5]
  | _ => [0, 0, 4, 0, 7, 0, 3, 0, 2047, 2047, 2, 0]

/-- A fast-channel profile on a channel; BLR_TARGET −7 168 in charge mode, else 0; the Tier E fields stay. -/
def Block.applyFast (b : Block) (c id : Nat) : Block :=
  let v := fastProfile id
  let fs : List Field := [F.FCH_CFG_MODE c, F.FCH_CFG_VGAIN c, F.FCH_CFG_QRANGE c, F.FCH_SHAPE_HP c, F.FCH_SHAPE_LP c, F.FCH_SHAPE_BLR_MODE c,
    F.FCH_CFG_POLARITY c, F.FCH_CFG_DISC_DUAL c, F.FCH_THR_THR_LO c, F.FCH_THR_THR_HI c, F.FCH_DISC_HYST c, F.FCH_DISC_HOLDOFF c]
  let b1 := (List.zip fs v).foldl (fun x e => x.put e.1 e.2) b
  (b1.put (F.FCH_SHAPE_BLR_TARGET c) (if v.head? = some 3 then unsigned 14 (-7168) else 0)).put (F.FCH_CFG_PROFILE c) id

/-- INPUT_MODE, EXC_MODE, EXC_V, ILIM, RANGE, RANGE_AUTO, GUARD_MODE, BURNOUT; REF_SEL, ODR, FILTER, RECORD of a precision profile. -/
def precProfile (id : Nat) : List Nat :=
  match id with
  | 0x0401 => [3, 1, 4000, 15, 5, 0, 1, 1, 2, 9, 0, 1]
  | 0x0402 => [3, 2, 2500, 10, 5, 0, 1, 1, 2, 9, 0, 1]
  | 0x0403 => [3, 1, 5000, 8, 5, 0, 1, 1, 2, 9, 0, 1]
  | 0x0404 => [2, 1, 2500, 10, 5, 0, 1, 1, 2, 9, 0, 1]
  | 0x0411 => [1, 0, 0, 0, 0, 1, 1, 1, 0, 9, 0, 1]
  | 0x0412 => [1, 0, 0, 0, 0, 0, 1, 1, 0, 5, 1, 1]
  | 0x0421 => [1, 3, 0, 0, 0, 0, 0, 0, 0, 5, 1, 1]
  | _ => [0, 0, 2500, 10, 0, 0, 0, 0, 0, 9, 0, 0]

/-- A precision profile on a channel; EXC_V and the limit are left where the table gives none. -/
def Block.applyPrec (b : Block) (n id : Nat) : Block :=
  let v := precProfile id
  let fs : List Field := [F.PCH_IN_INPUT_MODE n, F.PCH_EXC_EXC_MODE n, F.PCH_EXC_EXC_V n, F.PCH_EXC_ILIM n, F.PCH_IN_RANGE n, F.PCH_IN_RANGE_AUTO n,
    F.PCH_IN_GUARD_MODE n, F.PCH_IN_BURNOUT n, F.PCV_CFG_REF_SEL n, F.PCV_CFG_ODR n, F.PCV_CFG_FILTER n, F.PCV_CFG_RECORD n]
  let skip (f : Field) : Bool := v.getD 2 0 == 0 && (f == F.PCH_EXC_EXC_V n || f == F.PCH_EXC_ILIM n)
  let b1 := (List.zip fs v).foldl (fun x e => if skip e.1 then x else x.put e.1 e.2) b
  let b2 := (((b1.put (F.PCH_CMW_CMW_LO n) (unsigned 16 (-2700))).put (F.PCH_CMW_CMW_HI n) 2700).put (F.PCH_AR n) 1024).put (F.PCH_REV n) 256
  let b3 := if id = 0 then b2 else b2.put (F.PCH_FAULT_FAULT_MODE n) 1
  let b4 := if id = 0x0411 then (b3.put (F.PCH_IN_AR_MIN_CODE n) 0).put (F.PCH_IN_AR_MAX_CODE n) 5 else b3
  (if id = 0x0421 then b4.put (F.PCH_DRV_DRV_ILIM n) 25 else b4).put (F.PCH_IN_PROFILE n) id

/-- An event-builder profile on a class. -/
def Block.applyEvb (b : Block) (k id : Nat) : Block :=
  let v : List Nat := match id with
    | 0x0902 => [2, 524, 32, 64, 0, 0]
    | 0x0903 => [1, 256, 0, 0, unsigned 14 (-7168), 1]
    | _ => [0, 524, 32, 64, 0, 0]
  (List.zip [F.EVB_ZS_MODE k, F.EVB_ZS_THR k, F.EVB_ZS_PRE k, F.EVB_ZS_POST k, F.EVB_ZSB k, F.EVB_ZS_HITS_PINS k] v).foldl
    (fun x e => x.put e.1 e.2) b

/-- The queues that EGQ-SHARE names: those whose last entry is that profile (R399). -/
def shareQueues (p : List Nat) : List Nat :=
  let l := (entriesOf 8 p).filter fun e => u8 e 0 == 12
  ([0, 1, 2, 3, 4, 5, 6, 7] : List Nat).filter fun q =>
    ((l.reverse.find? fun e => decide (u16 e 2 ≤ q) && decide (q < u16 e 2 + u16 e 4)).map fun e => u16 e 6 == 0x0C01).getD false

/-- An egress profile on a queue, among the queues that share (R399). -/
def Block.applyEgq (b : Block) (share : List Nat) (q id : Nat) : Block :=
  let size := 64 / share.length
  if id = 0x0C01 then
    ((b.put (F.EGQ_CFG_EN q) 1).put (F.EGQ_CFG_SIZE_64M q) size).put (F.EGQ_CFG_BASE_64M q) (size * (share.filter fun x => decide (x < q)).length)
  else (b.put (F.EGQ_CFG_EN q) 0).put (F.EGQ_CFG_SIZE_64M q) 0

/-- An entry of PROFILES on one channel, class or queue. -/
def Block.applyProfile (b : Block) (share : List Nat) (unit i id : Nat) : Block :=
  if unit = 9 then b.applyEvb i id
  else if unit = 12 then b.applyEgq share i id
  else if i < 240 then b.applyFast (240 * (unit - 20) + i) id
  else b.applyPrec (16 * (unit - 20) + i - 240) id

/-- An entry of PROFILES. -/
def profileStep (share : List Nat) (e : List Nat) : List Nat × (Block → Block) :=
  let l := (List.range (u16 e 4)).map (u16 e 2 + ·)
  let unit := u8 e 0
  let prec (i : Nat) : Nat := 16 * (unit - 20) + i - 240
  (if 20 ≤ unit then (l.filter (240 ≤ ·)).flatMap fun i => [(F.PCH_IN_INPUT_MODE (prec i)).addr, (F.PCH_EXC_EXC_MODE (prec i)).addr] else [],
    fun b => l.foldl (fun x i => x.applyProfile share unit i (u16 e 6)) b)

/-! ### EXPERT (R105) -/

/-- ADDRESS of an EXPERT entry, of which bits [39:0] are used. -/
def expertAddr (e : List Nat) : Nat := u64 e 0 % 2 ^ 40

/-- The word that an EXPERT entry writes: old is the present value of the RW fields, zero elsewhere. -/
def Block.expertWord (b : Block) (e : List Nat) : Nat :=
  let a := expertAddr e
  let mask := u32 e 12
  let old := match regRow a with
    | some r => (r.bits.map fun x => if x.acc == .rw then b.get (bitField a x) * 2 ^ x.lo else 0).sum
    | none => 0
  Nat.lor (Nat.land old (2 ^ 32 - 1 - mask)) (Nat.land (u32 e 8) mask)

/-- An EXPERT entry as the conflict checks see it: the register's fields take their values. -/
def expertStep (e : List Nat) : List Nat × (Block → Block) :=
  (if u32 e 12 = 0 then [] else [expertAddr e], fun b => b.writeFields (expertAddr e) (b.expertWord e))

/-! ### CALIB, BEAVER, FABRIC, TRIGGER, BUDGET (R203, R437, R470, R300, R518) -/

/-- An entry of CALIB: the pair, and CAL_VALID by its flag. -/
def calibStep (e : List Nat) : List Nat × (Block → Block) :=
  let n := u8 e 0
  let r := u8 e 1
  ([(F.PCV_CAL_GAIN n r).addr], fun b =>
    let b1 := (b.put (F.PCV_CAL_OFS n r) (u32 e 4)).put (F.PCV_CAL_GAIN n r) (u32 e 8)
    b1.put (F.PCV_CAL_VALID n) (setBit (b1.get (F.PCV_CAL_VALID n)) r (bitAt (u32 e 12) 0)))

/-- The address that stands for a bank. -/
def bankAddr (t s k : Nat) : Nat := (F.BVR_S_BANK_PROG_LEN t s k).addr

/-- An entry of BEAVER. -/
def beaverStep (e : ImgEntry) : List Nat × (Block → Block) :=
  let (t, s, k) := e.place
  if u8 e.head 0 = 1 then ([bankAddr t s k], fun b => b.loadBank e) else ([(F.BVR_S_CFG_PACE_CH t s).addr], fun b => b.loadSlot e)

/-- An entry of FABRIC. -/
def fabricStep (e : List Nat) : List Nat × (Block → Block) :=
  let i := u8 e 1
  match u8 e 0 with
  | 1 => ([(F.FAB_PORT_MODE i).addr], fun b =>
      let b1 := (b.put (F.FAB_PORT_MODE i) (u8 e 2)).put (F.FAB_PORT_X2 i) (u8 e 3)
      let b2 := ((b1.put (F.FAB_HOST_CFG_SPEED25 i) (u8 e 3 / 2)).put (F.FAB_HOST_CFG_FEC i) (u8 e 3 / 4)).put (F.FAB_HOST_CFG_HOST_UDP i) (u16 e 4)
      ([0, 1, 2, 3] : List Nat).foldl (fun c k => c.put (F.FAB_HOST_IP6 i k) (u32 e (10 + 4 * (3 - k)))) (b2.put (F.FAB_HOST_IP4 i) (u32 e 6)))
  | 2 => ([(F.FAB_TREE_CFG i).addr], fun b =>
      b.put (F.FAB_TREE_CFG i) (u8 e 2 % 16 * 4096 + u8 e 3 % 16 * 256 + u8 e 4 % 16 * 16 + u8 e 5 % 16))
  | 3 => ([(F.FAB_MCAST i).addr], fun b => b.put (F.FAB_MCAST i) (u32 e 2))
  | 4 => ([], fun b =>
      (routePinOp (u16 e 2 % 4096) (2 ^ 17 + (if u8 e 5 = 15 then 0 else 2 ^ 16 + u8 e 5 % 8 * 16) + 2 ^ 7 + u8 e 4 % 8) b).1)
  | _ => ([F.FAB_CTRL_HOP_MAX.addr], fun b =>
      (((b.put F.FAB_CTRL_HOP_MAX (u8 e 2)).put F.FAB_CTRL_DEPART_EPOCHS (min (u16 e 3) 255)).put F.FAB_REORDER (u16 e 5)).put F.FAB_CTRL_LOG_DST
        (u16 e 7))

/-- The words of a body written to registers from an address. -/
def Block.writeWords (b : Block) (a : Nat) (p : List Nat) (n : Nat) : Block :=
  (List.range n).foldl (fun c i => c.writeFields (a + 4 * i) (u32 p (4 * i))) b

/-- The header of TRIGGER. -/
def Block.applyTrigger (b : Block) (p : List Nat) : Block :=
  let b1 := ((b.put F.TRG_DEADLINE (u32 p 0)).put F.TRG_CTRL_DEADLINE_ACTION (u8 p 8)).put F.TRG_BUILDERS (u8 p 9)
  { b1 with master := { b1.master with collect := u32 p 4 } }

/-- An entry of TRIGGER. -/
def triggerStep (e : ImgEntry) : List Nat × (Block → Block) :=
  let i := u16 e.head 2
  match u8 e.head 0 with
  | 1 => ([0x76000 + 16 * i], fun b => b.writeWords (0x76000 + 16 * i) e.body 4)
  | 2 => ([0x71000 + 64 * i], fun b => b.writeWords (0x71000 + 64 * i) e.body 8)
  | 3 => ([0x70200 + 32 * i], fun b => b.writeWords (0x70200 + 32 * i) e.body 8)
  | _ => ([0x70A00 + 4 * i], fun b => b.put (F.TRG_BUILDER i) (u32 e.body 0))

/-- The choices that follow their settings where no step is shed (R514, R517, R521). -/
def Block.bdgSettle (b : Block) : Block :=
  let shed (r : Nat) : Bool := b.pwr.steps.any fun s => s.rung == r
  let pref := b.get F.BDG_LIMITS_STANDBY_PREF % 3
  let b1 := b.put F.BDG_CHOICE_STANDBY (if shed 4 then max pref 1 else pref)
  if shed 2 then b1 else b1.put F.BDG_CHOICE_SCRUB_H (b1.get F.BDG_SCRUB_SCRUB_FAST_H)

/-- BUDGET: the fields of the same names, the CONFIG votes. -/
def Block.applyBudget (b : Block) (p : List Nat) : Block :=
  let l : List (Field × Nat) := [(F.BDG_AVG_MW, u32 p 0), (F.BDG_AVG_WIN, min (u32 p 4) (2 ^ 17 - 1)), (F.BDG_PEAK_MW, u32 p 8),
    (F.BDG_LIMITS_TJ_CAP_C, u8 p 0x0C), (F.BDG_LIMITS_LEVEL_MIN, u8 p 0x0D), (F.BDG_LIMITS_LEVEL_MAX, u8 p 0x0D / 16),
    (F.BDG_LIMITS_RUNG_EN, u8 p 0x0E), (F.BDG_LIMITS_STANDBY_PREF, u8 p 0x0F), (F.BDG_SCRUB_SCRUB_FAST_H, u16 p 0x10),
    (F.BDG_SCRUB_SCRUB_SLOW_H, u16 p 0x12), (F.BDG_DWELL_SHED_EPOCHS, u16 p 0x14), (F.BDG_DWELL_RESTORE_EPOCHS, u16 p 0x16),
    (F.BDG_SHED_GRP_LO, u32 p 0x18), (F.BDG_SHED_GRP_HI, u32 p 0x1C), (F.BDG_SHED_X1, u8 p 0x20), (F.BDG_HYST, min (u16 p 0x22) 1023),
    (F.PWR_HIB_LANE, u32 p 0x28), (F.PWR_HIB_TIMER, min (u32 p 0x2C) (2 ^ 24 - 1))]
  let b1 := l.foldl (fun c e => c.put e.1 e.2) b
  let b2 := (List.range 64).foldl (fun c n => c.put (F.BDG_DUTY_MIN n) (u8 p (0x30 + n))) b1
  ((List.range 19).foldl (fun c d =>
    c.put (F.PWR_D_STAT_VOTES d) (setBit (c.get (F.PWR_D_STAT_VOTES d)) 6 (bitAt (u32 p 0x24) d))) b2).bdgSettle

/-! ### Configure's order (R106) -/

/-- The steps of one section type. -/
def typeSteps (l : List Section) (typ : Nat) : List ConfStep :=
  match findSection l typ with
  | none => []
  | some s =>
    let p := s.payload
    match typ with
    | 0x10 => [⟨s.idx, noEntry, [], fun b => b.applyModule p⟩]
    | 0x14 => stepsOf s (entriesOf 16 p) pinStep
    | 0x16 => stepsOf s (entriesOf 8 p) eqStep
    | 0x11 => stepsOf s (entriesOf 8 p) (profileStep (shareQueues p))
    | 0x13 => stepsOf s (entriesOf 16 p) expertStep
    | 0x19 => stepsOf s (entriesOf 16 p) calibStep
    | 0x18 => stepsOf s (beaverEntries p) beaverStep
    | 0x15 => stepsOf s (entriesOf 32 p) fabricStep
    | 0x17 => ⟨s.idx, noEntry, [], fun b => b.applyTrigger p⟩ :: stepsOf s (triggerEntries p) triggerStep
    | 0x1A => [⟨s.idx, noEntry, [], fun b => b.applyBudget p⟩]
    | _ => []

/-- MODULE, PINS, EQ_TABLE, PROFILES; then EXPERT; then CALIB, BEAVER, FABRIC, TRIGGER, BUDGET. -/
def stepsBefore (l : List Section) : List ConfStep := ([0x10, 0x14, 0x16, 0x11] : List Nat).flatMap (typeSteps l)
def stepsAfter (l : List Section) : List ConfStep := ([0x19, 0x18, 0x15, 0x17, 0x1A] : List Nat).flatMap (typeSteps l)

/-- All steps in Configure's order. -/
def allSteps (l : List Section) : List ConfStep := stepsBefore l ++ typeSteps l 0x13 ++ stepsAfter l

/-- Steps applied in order. (DEDUCED, log entry 20.) -/
def Block.applySteps (b : Block) (l : List ConfStep) : Block := l.foldl (fun c s => s.act c) b

/-! ### Conflicts (R107) -/

/-- The entry that conflicts: the last step that names one of the registers involved. -/
def blame (l : List ConfStep) (addrs : List Nat) : BootErr :=
  match l.reverse.find? fun s => s.touch.any addrs.contains with
  | some s => bootErr 9 s.sec s.idx
  | none => bootErr 9 0 noEntry

/-- The later of two entries of a section with the same key. -/
def repeated (s : Option Section) (n : Nat) (key : List Nat → Option Nat) : Option BootErr :=
  s.bind fun s =>
    let l := entriesOf n s.payload
    ((List.range l.length).find? fun i =>
      (key (l.getD i [])).isSome && (l.take i).any fun e => key e == key (l.getD i [])).map fun i => bootErr 9 s.idx i

/-- The key of a PINS entry of a KIND. -/
def pinKey (kind : Nat) (e : List Nat) : Option Nat := if u8 e 0 = kind then some (u8 e 1) else none

/-- A GATE or XEVT pin claimed by two functions (R107, R256, R264, R301). -/
def pinConflict (l : List Section) (steps : List ConfStep) (c : Block) : Option BootErr :=
  match repeated (findSection l 0x14) 16 (pinKey 0x10) with
  | some e => some e
  | none =>
    let gate := (([0, 1, 2, 3] : List Nat).flatMap fun t => ([0, 1, 2, 3] : List Nat).map fun g => (t, g)).find? fun x =>
      let sel := c.wordAt (0x200120 + x.1 * 0x40000) + 2 ^ 32 * c.wordAt (0x200124 + x.1 * 0x40000)
      c.get (F.TDC_PIN_CFG_FUNCTION x.2) != 2 && (List.range 15).any fun i => sel / 16 ^ i % 16 == 8 + x.2
    match gate with
    | some x => some (blame steps [0x200120 + x.1 * 0x40000, 0x200124 + x.1 * 0x40000, (F.TDC_PIN_CFG_FUNCTION x.2).addr])
    | none =>
      (([0, 1, 2, 3, 4, 5, 6, 7] : List Nat).find? fun i => c.flag (F.TRG_U_CFG_EN (1984 + i)) && c.get (F.TDC_PIN_CFG_FUNCTION i) != 3).map fun i =>
        blame steps [0x76000 + 16 * (1984 + i), (F.TDC_PIN_CFG_FUNCTION i).addr]

/-- A bridge input with DRIVE (R148). -/
def modeConflict (steps : List ConfStep) (c : Block) : Option BootErr :=
  ((List.range 64).find? fun n => decide (2 ≤ c.get (F.PCH_IN_INPUT_MODE n)) && c.get (F.PCH_EXC_EXC_MODE n) == 3).map fun n =>
    blame steps [(F.PCH_IN_INPUT_MODE n).addr, (F.PCH_EXC_EXC_MODE n).addr]

/-- The banks that the image loads with an OUT, with its channel. -/
def imageOuts (l : List Section) (c : Block) : List ((Nat × Nat × Nat) × Nat) :=
  ((beaverEntries (sectionBytes l 0x18)).filter fun e => u8 e.head 0 == 1).filterMap fun e =>
    (c.outChannel e.place.1 e.place.2.1 e.place.2.2).map fun n => (e.place, n)

/-- Two slots of a tile with OUT to one channel (R107, R157). -/
def outConflict (l : List Section) (steps : List ConfStep) (c : Block) : Option BootErr :=
  let outs := imageOuts l c
  (outs.findSome? fun x => (outs.find? fun y => x.2 == y.2 && x.1.2.1 != y.1.2.1).map fun y => (x.1, y.1)).map fun z =>
    blame steps [bankAddr z.1.1 z.1.2.1 z.1.2.2, bankAddr z.2.1 z.2.2.1 z.2.2.2]

/-- An OUT to a channel not in drive mode. -/
def driveConflict (l : List Section) (steps : List ConfStep) (c : Block) : Option BootErr :=
  ((imageOuts l c).find? fun x => c.get (F.PCH_EXC_EXC_MODE x.2) != 3).map fun x =>
    blame steps [bankAddr x.1.1 x.1.2.1 x.1.2.2, (F.PCH_EXC_EXC_MODE x.2).addr]

/-- A port in host mode that is a tree parent or alternate. -/
def treeConflict (steps : List ConfStep) (c : Block) : Option BootErr :=
  ((([0, 1, 2] : List Nat).flatMap fun x => ([0, 1, 2, 3] : List Nat).map fun k => (x, c.get (F.FAB_TREE_CFG x) / 16 ^ k % 16)).find? fun z =>
    decide (z.2 < 8) && c.get (F.FAB_PORT_MODE z.2) == 2).map fun z => blame steps [(F.FAB_TREE_CFG z.1).addr, (F.FAB_PORT_MODE z.2).addr]

/-- An EXPERT entry that meets a condition. -/
def expertConflict (l : List Section) (bad : Nat → Bool) : Option BootErr :=
  (findSection l 0x13).bind fun s =>
    let es := entriesOf 16 s.payload
    ((List.range es.length).find? fun i => bad (expertAddr (es.getD i []))).map fun i => bootErr 9 s.idx i

/-- The last step that takes the excitation above 4.0 W (R153). -/
def excConflict (steps : List ConfStep) (c0 : Block) : Option BootErr :=
  let r := steps.foldl (fun (a : Block × Option (Nat × Nat)) s =>
    let c := s.act a.1
    (c, if decide (4000000 < c.excSum) then (if decide (4000000 < a.1.excSum) then a.2 else some (s.sec, s.idx)) else none)) (c0, none)
  r.2.map fun x => bootErr 9 x.1 x.2

/-- The first conflict of an image, in the order of the table (R107). (DEDUCED, log entry 20.) -/
def imageConflict (l : List Section) : Option BootErr :=
  let steps := allSteps l
  let c := Block.reset.applySteps steps
  let mask := u32 (sectionBytes l 0x12) 0
  (pinConflict l steps c).or <| (modeConflict steps c).or <| (outConflict l steps c).or <| (driveConflict l steps c).or <|
    (repeated (findSection l 0x14) 16 (pinKey 0x02)).or <| (treeConflict steps c).or <|
    (expertConflict l fun a => !bitAt mask (unitOf a)).or <|
    (expertConflict l fun a => decide (a / 0x10000 = 0x11) || tierOAt a || (regRow a).isNone).or <|
    excConflict steps Block.reset

end Sys2Proof.Machine
end

