-- ==== Sys2Proof/Machine/Boot.lean ====
section
/-! DEFINITION. Verify: the flash, the slot records, slot choice, fall-back, recovery, and the entry of Safe-Config and Fault (R80 to R95). -/

namespace Sys2Proof.Machine

open Sys2Proof

/-! ### The flash (R88, R89) -/

/-- The byte of the flash at an offset. -/
def flashByte (f : Table Byte) (a : Nat) : Nat := (lookupD f a 0xFF#8).toNat

/-- `n` bytes of the flash. -/
def flashBytes (f : Table Byte) (a n : Nat) : List Nat := (List.range n).map fun i => flashByte f (a + i)

/-- An erase: a range reads 0xFF. (PRESUMED, log entry 26.) -/
def flashErase (f : Table Byte) (a n : Nat) : Table Byte := f.filter fun e => !(decide (a ≤ e.1) && decide (e.1 < a + n))

/-- A program: bits change from 1 to 0 only. (PRESUMED, log entry 26.) -/
def flashProgram (f : Table Byte) (a : Nat) (l : List Nat) : Table Byte :=
  flashPut f a ((List.range l.length).map fun i => Nat.land (flashByte f (a + i)) (l.getD i 0xFF % 256))

/-- The offsets of a slot's container and of its record. -/
def slotBase (slot : Nat) : Nat := slot % 2 * 0x1000000
def recordBase (slot : Nat) : Nat := slotBase slot + 0xFF0000

/-- The container in a slot, cut at its TOTAL_LEN and at the slot's region. -/
def slotContainer (f : Table Byte) (slot : Nat) : List Nat :=
  let h := flashBytes f (slotBase slot) 64
  if h.take 4 = [0x4C, 0x4D, 0x49, 0x47] then flashBytes f (slotBase slot) (max 64 (min (u32 h 0x18) 0xFF0000)) else h

/-! ### Slot records (R90, R91) -/

/-- A slot's state. -/
inductive SlotState where
  | trial | trialBooted | confirmed | rejected
deriving DecidableEq, Repr

/-- The code of a slot's state. -/
def SlotState.code : SlotState → Nat
  | .trial => 1 | .trialBooted => 2 | .confirmed => 3 | .rejected => 4

/-- A 16-byte entry. -/
def slotEntry (st : SlotState) (seq : Nat) : List Nat :=
  let l := leBytes 4 0x534C4F54 ++ leBytes 4 st.code ++ leBytes 4 seq
  l ++ leBytes 4 (crc32c l)

/-- The STATE and ENTRY_SEQ of a valid entry. -/
def readEntry (l : List Nat) : Option (SlotState × Nat) :=
  if u32 l 0 = 0x534C4F54 ∧ crc32c (l.take 12) = u32 l 12 then
    ([.trial, .trialBooted, .confirmed, .rejected] : List SlotState).find? (fun s => s.code == u32 l 4) |>.map fun s => (s, u32 l 8)
  else none

/-- The positions of a record that are not all 0xFF, lowest first: an erased byte is not listed. -/
def usedPositions (f : Table Byte) (slot : Nat) : List Nat :=
  ((f.filter fun e => decide (recordBase slot ≤ e.1) && decide (e.1 < recordBase slot + 0x10000)).map fun e => (e.1 - recordBase slot) / 16).eraseDups

/-- The valid entry with the highest ENTRY_SEQ; of equals the later position. -/
def slotLatest (f : Table Byte) (slot : Nat) : Option (SlotState × Nat) :=
  ((usedPositions f slot).filterMap fun p => readEntry (flashBytes f (recordBase slot + 16 * p) 16)).foldl (fun a e =>
    match a with
    | some x => if x.2 ≤ e.2 then some e else a
    | none => some e) none

/-- The state of a slot. (DEDUCED, log entry 19.) -/
def recordState (f : Table Byte) (slot : Nat) : Option SlotState := (slotLatest f slot).map (·.1)

/-- A new entry for a slot (R91): the first free position, ENTRY_SEQ one above the highest; a full record is erased first, the state in force
as entry 0. -/
def recordSlot (f : Table Byte) (slot : Nat) (st : SlotState) : Table Byte :=
  let used := usedPositions f slot
  let seq := match slotLatest f slot with
    | some x => x.2 + 1
    | none => 0
  match (List.range 4096).find? fun p => !used.contains p with
  | some p => flashProgram f (recordBase slot + 16 * p) (slotEntry st seq)
  | none =>
    let f1 := flashErase f (recordBase slot) 0x10000
    match slotLatest f slot with
    | some x => flashProgram f1 (recordBase slot) (slotEntry x.1 x.2 ++ slotEntry st seq)
    | none => flashProgram f1 (recordBase slot) (slotEntry st seq)

/-- The flash replaced. -/
def Block.setFlash (b : Block) (f : Table Byte) : Block := { b with boot := { b.boot with flash := f } }

/-! ### Errors, Safe-Config, Fault (R80 to R83, R86, R87) -/

/-- SYS_BOOT_ERR as a refusal gives it. -/
def Block.putErr (b : Block) (e : BootErr) : Block :=
  ((b.put F.SYS_BOOT_ERR_CODE e.code).put F.SYS_BOOT_ERR_DETAIL_SEC e.sec).put F.SYS_BOOT_ERR_DETAIL_IDX e.idx

/-- SYS_BOOT_ERR_B as the refusal of the other slot gives it. -/
def Block.putErrB (b : Block) (e : BootErr) : Block :=
  ((b.put F.SYS_BOOT_ERR_B_CODE e.code).put F.SYS_BOOT_ERR_B_DETAIL_SEC e.sec).put F.SYS_BOOT_ERR_B_DETAIL_IDX e.idx

/-- The module enters Fault with a refusal. -/
def Block.faultWith (b : Block) (e : BootErr) : Block := (b.toFault e.code).putErr e

/-- The ports of Safe-Config (R81): those that a usable FABRIC section names, or every port. (DEDUCED, log entry 21.) -/
def Block.safePorts (b : Block) (l : List Section) : Block :=
  match findSection l 0x15 with
  | none => b
  | some s =>
    if (contentFault 0x15 s.payload).isSome then b
    else
      let ports := (entriesOf 32 s.payload).filter fun e => u8 e 0 == 1
      let b1 := allPorts.foldl (fun c p => c.put (F.FAB_PORT_MODE p) 0) b
      ports.foldl (fun c e => (fabricStep e).2 c) b1

/-- The module enters Safe-Config (R81): ports up, the pass-through open for the slot that is not running. (DEDUCED, log entry 21.) -/
def Block.toSafe (b : Block) (e : BootErr) (l : List Section) : Block :=
  let b1 := ((b.putErr e).put F.SEC_NVM_CTRL_OPEN 1).put F.SEC_NVM_CTRL_SLOT (1 - b.get F.SYS_STATE_SLOT)
  { b1.safePorts l with phase := .safeConfig }.tryUpAll.settlePower

/-! ### Slot choice (R84, R92, R93) -/

/-- A slot to try; a last resort runs as confirmed. -/
structure Try where
  slot : Nat
  resort : Bool
deriving DecidableEq, Repr

/-- UPDATE_SEQ of a slot. -/
def updateSeq (f : Table Byte) (slot : Nat) : Nat := leVal (flashBytes f (slotBase slot + 0x10) 4)

/-- The slots to try, in order, by BOOT_SEL. (DEDUCED, log entry 19.) -/
def slotTries (f : Table Byte) (strap : Nat) : List Try :=
  if strap = 1 then [⟨0, false⟩]
  else if strap = 2 then [⟨1, false⟩]
  else
    let is (s : Nat) (p : Option SlotState → Bool) : Bool := p (recordState f s)
    let order := if updateSeq f 0 < updateSeq f 1 then [1, 0] else [0, 1]
    ((order.filter fun s => is s fun x => x == some .confirmed || x == some .trial).map fun s => ⟨s, false⟩)
      ++ ((([0, 1] : List Nat).filter fun s => is s Option.isNone).map fun s => ⟨s, true⟩)

/-- A try and what Verify found. -/
structure Tried where
  t : Try
  v : Verified
deriving DecidableEq, Repr

/-- The tries made, in order: those refused with a code that falls back, and the one that ended the choice (R87). (DEDUCED, log entry 19.) -/
def runTries (step : Nat) (fuses : Fuses) (f : Table Byte) : List Try → List Tried
  | [] => []
  | t :: l =>
    let v := verify step fuses (slotContainer f t.slot)
    let fall := match v.err with
      | some e => decide (3 ≤ e.code) && decide (e.code ≤ 8)
      | none => false
    ⟨t, v⟩ :: if fall then runTries step fuses f l else []

/-- The Owl boots a slot (R92, R93): its record, SYS_STATE.SLOT and TRIAL, the running container. -/
def Block.bootSlot (b : Block) (t : Try) : Block :=
  let f := b.boot.flash
  let d := slotContainer f t.slot
  let b1 := { b.put F.SYS_STATE_SLOT t.slot with boot := { b.boot with image := some d } }
  if t.resort then b1.setFlash (recordSlot f t.slot .confirmed)
  else if recordState f t.slot = some .trial then (b1.setFlash (recordSlot f t.slot .trialBooted)).put F.SYS_STATE_TRIAL 1
  else b1

/-- The refusal of the slot that does not run. -/
def Block.otherErr (b : Block) (l : List Tried) (slot : Nat) : Block :=
  match l.findSome? fun x => if x.t.slot = slot then none else x.v.err with
  | some e => b.putErrB e
  | none => b

/-- Decompressions that failed are counted (R394). -/
def Block.countDecFails (b : Block) (l : List Tried) : Block := b.bumpBy F.LPS_DEC_FAIL_CNT (l.filter fun x => x.v.decFail).length

/-- Verify ends with what its tries found (R80, R87, R92). -/
def Block.verified (b : Block) (l : List Tried) : Block :=
  match l.find? fun x => x.v.err.isNone with
  | some x =>
    let b1 := (b.bootSlot x.t).otherErr l x.t.slot
    { b1.put F.IDN_CFGGEN (u32 (slotContainer b.boot.flash x.t.slot) 0x0C) with phase := .configure }.settlePower
  | none =>
    match l.find? fun x => x.v.codeOk with
    | some x => ((b.bootSlot x.t).otherErr l x.t.slot).toSafe (x.v.err.getD ⟨0, 0, 0⟩) x.v.secs
    | none =>
      match l.getLast? with
      | some x => (b.otherErr l x.t.slot).faultWith (x.v.err.getD ⟨0, 0, 0⟩)
      | none => b.toFault 0

/-- A slot left at TRIAL_BOOTED by an earlier start is rejected (R93). -/
def rejectBooted (f : Table Byte) : Table Byte :=
  ([0, 1] : List Nat).foldl (fun g s => if recordState g s = some .trialBooted then recordSlot g s .rejected else g) f

/-- VERIFY_DONE (R80): `nvm` 0 the flash answers, 1 it does not, 2 its SFDP is no use. (DEDUCED, log entry 19.) -/
def verifyDone (nvm : Nat) (b : Block) : Block :=
  whenDue (b.phase == .verify && b.get F.SYS_STATE_BOOT_SEL != 3) (fun b =>
    if nvm = 1 then b.toFault 1
    else if nvm = 2 then b.toFault 2
    else
      let b1 := b.setFlash (rejectBooted b.boot.flash)
      let l := runTries (b1.get F.IDN_STEP_MODULE_STEP) b1.boot.fuses b1.boot.flash
        (slotTries b1.boot.flash (b1.get F.SYS_STATE_BOOT_SEL))
      (b1.countDecFails l).verified l) b

/-- VERIFY_DONE (R80). -/
def execVerifyDone (nvm : Nat) (s : State) : Host.Outcome State Fault Refusal :=
  onHw (Instr.wf (.verifyDone nvm)) s (verifyDone nvm)

/-- RECOVERY_LOAD (R95): a 32-bit length and a container on SVC_RX. -/
def recoveryLoad (bytes : List Byte) (b : Block) : Block :=
  let l := bytes.map (·.toNat)
  let d := (l.drop 4).take (u32 l 0)
  whenDue (b.phase == .verify && b.get F.SYS_STATE_BOOT_SEL == 3 && decide (4 + u32 l 0 ≤ l.length)) (fun b =>
    let v := verify (b.get F.IDN_STEP_MODULE_STEP) b.boot.fuses d
    let b1 := (b.countDecFails [⟨⟨0, false⟩, v⟩]).drawn
    let b2 := { b1.put F.SYS_STATE_SLOT (Config.recoverySlot b.free) with boot := { b1.boot with image := some d } }
    match v.err with
    | none => (b2.put F.IDN_CFGGEN (u32 d 0x0C)).toSafe ⟨0, 0, 0⟩ v.secs
    | some e => if v.codeOk then b2.toSafe e v.secs else b1.faultWith e) b

/-- RECOVERY_LOAD (R95). -/
def execRecoveryLoad (bytes : List Byte) (s : State) : Host.Outcome State Fault Refusal :=
  onHw (Instr.wf (.recoveryLoad bytes)) s (recoveryLoad bytes)

end Sys2Proof.Machine
end

