-- ==== Sys2Proof/Machine/Sec.lean ====
section
/-! DEFINITION. The commands of SEC: nonce, quote, confirmation, keys, debug, and the NVM pass-through (R94, R109 to R118). -/

namespace Sys2Proof.Machine

open Sys2Proof

/-! ### The arrays of SEC (R113) -/

/-- Words of SEC from an address. -/
def Block.secBytes (b : Block) (a n : Nat) : List Nat := wordBytes ((List.range n).map fun i => b.get ⟨a + 4 * i, 0, 32, 0⟩)

/-- Bytes put into words of SEC from an address. -/
def Block.putSec (b : Block) (a : Nat) (l : List Nat) : Block :=
  let w := leWords l
  (List.range w.length).foldl (fun c i => c.put ⟨a + 4 * i, 0, 32, 0⟩ (w.getD i 0)) b

/-- SEC_CMD_BUF. (DESIGN CHOICE, log entry 24.) -/
def Block.cmdBuf (b : Block) : List Nat := b.secBytes 0x110200 256

/-- The current nonce and SEC_NONCE. -/
def Block.setNonce (b : Block) (n : Option (List Nat)) : Block :=
  { b.putSec 0x110100 (n.getD (List.replicate 32 0)) with boot := { b.boot with nonce := n } }

/-- SYS_STATE.STATE of a phase (R86). -/
def Phase.stateCode : Phase → Nat
  | .fill => 1 | .verify => 2 | .configure => 3 | .join => 4 | .live => 5 | .safeConfig => 6 | .fault => 7 | _ => 0

/-- SYS_STATE at this tick (R86). -/
def Block.sysState (b : Block) : Nat := b.wordAt 0x10000 / 16 * 16 + b.phase.stateCode

/-- SEC_STATUS at this tick (R111, R113). -/
def Block.secStatus (b : Block) : Nat :=
  let f := b.boot.fuses
  (([0, 1, 2, 3] : List Nat).map fun i => match lookup f.keys i with
    | some (r, _) => (if r then 2 else 1) * 2 ^ (24 + 2 * i)
    | none => 0).sum + f.cfg * 2 ^ 16 + f.warren * 2 ^ 8 + f.owl

/-! ### Commands (R94, R109 to R118) -/

/-- The sections of the running container. -/
def Block.imageSecs (b : Block) : List Section :=
  let d := b.boot.image.getD []
  (walkSections d (u32 d 0x18) (u16 d 0x16) 64 [] false).1

/-- A command signature by an ACTIVE owner key (R111): over the command word, the arguments and the nonce. (DESIGN CHOICE, log entry 24.) -/
def Block.signedCmd (b : Block) (op : Nat) (args sig : List Nat) : Bool :=
  match b.boot.nonce with
  | some n => b.boot.fuses.keys.any fun k => !k.2.1 && sigOk k.2.2 (leBytes 4 op ++ args ++ n) sig
  | none => false

/-- NEW_NONCE (R113): 32 bytes. -/
def secNonce (b : Block) : Block × Nat := ((b.setNonce (some ((List.range 32).map fun i => Config.nonceByte b.free i % 256))).drawn, 0)

/-- A quote without its signature (R118). -/
def Block.quoteBody (b : Block) (nonce : List Nat) : List Nat :=
  let d := b.boot.image.getD []
  let l := b.imageSecs
  let owl := sectionBytes l 1
  let warren := sectionBytes l 2
  let sigAt := ((findSection l 0xF0).map (·.off)).getD d.length
  let w (n : Nat) := leBytes 4 n
  [76, 77, 65, 81] ++ leBytes 2 1 ++ leBytes 2 336 ++ leBytes 8 (b.get64 F.IDN_SERIAL_LO F.IDN_SERIAL_HI) ++ nonce ++ w b.stamp.ns ++ w b.stamp.w1
    ++ leBytes 2 (tsWrap b.stampRaw) ++ leBytes 2 (b.get F.IDN_NODE_NODE_ID + b.get F.IDN_NODE_NODE_VALID * 2 ^ 12) ++ w b.sysState ++ w (u32 owl 4)
    ++ w (u32 warren 4) ++ w (b.get F.IDN_CFGGEN) ++ w (u32 d 0x10) ++ w b.secStatus ++ w (b.get F.SEC_EXPERT) ++ w (b.get F.SEC_DEBUG)
    ++ w (b.get F.IDN_ACTIVE) ++ sha384 owl ++ sha384 warren ++ sha384 (d.take sigAt)

/-- QUOTE (R118). (DEDUCED, log entry 23.) -/
def secQuote (b : Block) : Block × Nat :=
  match b.boot.nonce with
  | none => (b, 2)
  | some n =>
    let q := b.quoteBody n
    ((b.putSec 0x110800 (q ++ beBytes 96 (Config.quoteSig q))).setNonce none, 0)

/-- The anti-rollback counters advance to the versions of a container (R94, R110): never back, never beyond 64. -/
def Fuses.advance (f : Fuses) (owl warren cfg : Nat) : Fuses :=
  { f with owl := min 64 (max f.owl owl), warren := min 64 (max f.warren warren), cfg := min 64 (max f.cfg cfg) }

/-- CONFIRM (R94). -/
def secConfirm (b : Block) : Block × Nat :=
  match b.boot.image with
  | none => (b, 2)
  | some d =>
    if b.get F.SYS_STATE_BOOT_SEL = 3 then (b, 2)
    else
      let l := b.imageSecs
      let slot := b.get F.SYS_STATE_SLOT
      let b1 := if b.flag F.SYS_STATE_TRIAL then
          (b.setFlash (recordSlot (recordSlot b.boot.flash slot .confirmed) (1 - slot) .rejected)).put F.SYS_STATE_TRIAL 0
        else b
      ({ b1 with boot := { b1.boot with
        fuses := b1.boot.fuses.advance (u8 (sectionBytes l 1) 8) (u8 (sectionBytes l 2) 8) (u8 d 0x14) } }, 0)

/-- OPEN_NVM (R114): one argument, the slot that is not running. (DESIGN CHOICE, log entry 24.) -/
def secOpenNvm (b : Block) : Block × Nat :=
  let buf := b.cmdBuf
  let args := buf.take 4
  let b1 := b.setNonce none
  if !b.signedCmd 4 args ((buf.drop 4).take 96) then (b1, 1)
  else if u32 args 0 ≠ 1 - b.get F.SYS_STATE_SLOT then (b1, 2)
  else ((b1.put F.SEC_NVM_CTRL_OPEN 1).put F.SEC_NVM_CTRL_SLOT (u32 args 0), 0)

/-- VERIFY_SLOT (R91, R117). -/
def secVerifySlot (b : Block) : Block × Nat :=
  if !b.flag F.SEC_NVM_CTRL_OPEN then (b, 2)
  else
    let slot := b.get F.SEC_NVM_CTRL_SLOT
    let v := verify (b.get F.IDN_STEP_MODULE_STEP) b.boot.fuses (slotContainer b.boot.flash slot)
    let b1 := if v.decFail then b.bump F.LPS_DEC_FAIL_CNT else b
    if v.err.isSome || (imageConflict v.secs).isSome then (b1, 4)
    else (b1.setFlash (flashProgram (flashErase b.boot.flash (recordBase slot) 0x10000) (recordBase slot) (slotEntry .trial 0)), 0)

/-- ADD_KEY (R111): a slot number and a key; without a signature for the first key only. (DESIGN CHOICE, log entry 24.) -/
def secAddKey (b : Block) : Block × Nat :=
  let buf := b.cmdBuf
  let args := buf.take 101
  let slot := u32 args 0
  let key := args.drop 4
  let unowned := b.boot.fuses.keys.isEmpty
  let b1 := if unowned then b else b.setNonce none
  if !unowned && !b.signedCmd 7 args ((buf.drop 104).take 96) then (b1, 1)
  else if 3 < slot ∨ (lookup b.boot.fuses.keys slot).isSome ∨ (keyPoint key).isNone then (b1, 2)
  else ({ b1 with boot := { b1.boot with fuses := { b1.boot.fuses with keys := insertKey b1.boot.fuses.keys slot (false, key) } } }, 0)

/-- REVOKE_KEY (R111): a slot number. -/
def secRevokeKey (b : Block) : Block × Nat :=
  let buf := b.cmdBuf
  let args := buf.take 4
  let slot := u32 args 0
  let b1 := b.setNonce none
  let keys := b.boot.fuses.keys
  if !b.signedCmd 8 args ((buf.drop 4).take 96) then (b1, 1)
  else
    match b.boot.fuses.activeKey slot with
    | none => (b1, 2)
    | some k =>
      if (keys.filter fun e => !e.2.1).length ≤ 1 then (b1, 3)
      else ({ b1 with boot := { b1.boot with fuses := { b1.boot.fuses with keys := insertKey keys slot (true, k) } } }, 0)

/-- DEBUG_OPEN (R112): a token of the nonce, the scope mask and a signature. -/
def secDebugOpen (b : Block) : Block × Nat :=
  let buf := b.cmdBuf
  let args := buf.take 36
  let b1 := b.setNonce none
  if b.boot.nonce ≠ some (args.take 32) ∨ !b.signedCmd 9 args ((buf.drop 36).take 96) then (b1, 1)
  else (b1.put F.SEC_DEBUG (u32 args 32), 0)

/-- What a SEC command does and the RESULT it ends with (R113). (DEDUCED, log entry 23.) -/
def secCommand (op : Nat) (b : Block) : Block × Nat :=
  match op with
  | 1 => secNonce b
  | 2 => secQuote b
  | 3 => secConfirm b
  | 4 => secOpenNvm b
  | 5 => (b.put F.SEC_NVM_CTRL_OPEN 0, 0)
  | 6 => secVerifySlot b
  | 7 => secAddKey b
  | 8 => secRevokeKey b
  | 9 => secDebugOpen b
  | _ => (b, 2)

/-- A command or a pass-through operation runs (R115). -/
def Block.secBusy (b : Block) : Bool := b.flag F.SEC_CMD_STAT_BUSY || b.flag F.SEC_NVM_CTRL_NVM_BUSY

/-- A write of SEC_CMD (R113, R115). (DEDUCED, log entry 23.) -/
def secCmdOp (w : Nat) (b : Block) : Block × Status :=
  if b.secBusy then (b, .busyResource)
  else
    let r := secCommand w b
    ({ r.1.put F.SEC_CMD_STAT_BUSY 1 with boot := { r.1.boot with run := some ⟨w, r.2⟩ } }, .ok)

/-- SEC_CMD_DONE (R113): source 216 carries RESULT. (DEDUCED, log entry 23.) -/
def secCmdDone (b : Block) : Block :=
  match b.boot.run with
  | some r =>
    whenDue b.ccOn (fun b =>
      let b1 := (b.put F.SEC_CMD_STAT_BUSY 0).put F.SEC_CMD_STAT_RESULT r.result
      ({ b1 with boot := { b1.boot with run := none } }.raise 216 r.result).settlePower) b
  | none => b

/-- SEC_CMD_DONE (R113). -/
def execSecCmdDone (s : State) : Host.Outcome State Fault Refusal :=
  onHw (Instr.wf .secCmdDone) s secCmdDone

/-! ### The pass-through (R114, R116) -/

/-- A range that no erase or program may touch: the running slot, the record of either slot, offsets beyond 0x01FF_FFFF (R114). -/
def nvmDenied (slot a n : Nat) : Bool :=
  let touches (x m : Nat) : Bool := decide (a < x + m) && decide (x < a + n)
  touches (slotBase (1 - slot)) 0xFF0000 || touches (recordBase 0) 0x10000 || touches (recordBase 1) 0x10000 || decide (0x2000000 < a + n)

/-- The offset from which an operation acts: an erase takes the sector of ADDR. -/
def NvmRun.at_ (r : NvmRun) : Nat := if r.op = 1 then r.addr / 0x10000 * 0x10000 else r.addr

/-- A write of SEC_NVM_CTRL.OP (R114, R116). (PRESUMED, log entry 26.) -/
def nvmOp (w : Nat) (b : Block) : Block × Status :=
  let op := w % 4
  if op = 0 then (b, .ok)
  else if b.flag F.SEC_NVM_CTRL_NVM_BUSY then (b, .busyResource)
  else if !b.flag F.SEC_NVM_CTRL_OPEN then (b.put F.SEC_NVM_CTRL_NVM_RESULT 2, .ok)
  else
    let r : NvmRun := ⟨op, b.get F.SEC_NVM_ADDR, b.secBytes 0x110600 64, b.tick⟩
    if op ≠ 3 ∧ nvmDenied (b.get F.SEC_NVM_CTRL_SLOT) r.at_ (if op = 1 then 0x10000 else 256) then
      (b.put F.SEC_NVM_CTRL_NVM_RESULT 1, .accessDenied)
    else ({ b.put F.SEC_NVM_CTRL_NVM_BUSY 1 with boot := { b.boot with nvm := some r } }, .ok)

/-- A pass-through operation ends with a result; a Hibernate entry that waited follows (R116, R503). -/
def Block.nvmEnd (b : Block) (result : Nat) : Block :=
  let b1 := (b.put F.SEC_NVM_CTRL_NVM_BUSY 0).put F.SEC_NVM_CTRL_NVM_RESULT result
  let b2 := { b1 with boot := { b1.boot with nvm := none } }
  if b2.pwr.hibWait then { b2 with pwr := { b2.pwr with hibWait := false } }.enterHibernate else b2.settlePower

/-- NVM_OP_DONE (R116): the flash has completed, or its status reports a failure of an erase or a program. (DESIGN CHOICE, log entry 25.) -/
def nvmOpDone (ok : Bool) (b : Block) : Block :=
  match b.boot.nvm with
  | some r =>
    if r.op = 3 then (b.putSec 0x110600 (flashBytes b.boot.flash r.addr 256)).nvmEnd 0
    else if !ok then ((b.setFlash (b.flashTorn r)).drawn).nvmEnd 3
    else if r.op = 1 then (b.setFlash (flashErase b.boot.flash r.at_ 0x10000)).nvmEnd 0
    else (b.setFlash (flashProgram b.boot.flash r.at_ r.data)).nvmEnd 0
  | none => b

/-- NVM_OP_DONE (R116). -/
def execNvmOpDone (ok : Bool) (s : State) : Host.Outcome State Fault Refusal :=
  onHw (Instr.wf (.nvmOpDone ok)) s (nvmOpDone ok)

/-- NVM_POLL_TIMEOUT (R116): 3 s for an erase, 5 ms for a page program. (DESIGN CHOICE, log entry 25.) -/
def nvmPollTimeout (b : Block) : Block :=
  match b.boot.nvm with
  | some r =>
    whenDue (r.op != 3 && decide (r.tick + (if r.op = 1 then 3 * sTicks else 5 * msTicks) ≤ b.tick)) (fun b =>
      ((b.setFlash (b.flashTorn r)).drawn).nvmEnd 4) b
  | none => b

/-- NVM_POLL_TIMEOUT (R116). -/
def execNvmPollTimeout (s : State) : Host.Outcome State Fault Refusal :=
  onHw (Instr.wf .nvmPollTimeout) s nvmPollTimeout

end Sys2Proof.Machine
end

