-- ==== Sys2Proof/Machine/Live.lean ====
section
/-! DEFINITION. The words of registers that the module computes at the tick of a read, and any register's word (R71). -/

namespace Sys2Proof.Machine

open Sys2Proof

/-- The live words of TIM (R241, R242). -/
def Block.timWord (b : Block) (addr : Nat) : Option Nat :=
  let t := b.stampRaw
  if addr = 0x50000 then some (b.wordAt addr + b.stampQuality * 2 ^ 20 + tsWrap t)
  else if addr = 0x50010 then some (tsNs t)
  else if addr = 0x50014 then some (tsFrac t * 2 ^ 22 + b.stampDom * 2 ^ 21 + b.stampQuality * 2 ^ 18 + tsWrap t)
  else if addr = 0x50018 then some (satU 32 (ceilDiv b.time.resid (2 ^ 32)))
  else if addr = 0x50020 then some (b.time.pllTicks % 2 ^ 32)
  else if addr = 0x50024 then some (b.time.pllTicks / 2 ^ 32)
  else if addr = 0x50030 then some (b.onHours * 2 ^ 16 + satU 16 b.time.warmSec)
  else if decide (0x50100 ≤ addr) && decide (addr < 0x50200) then
    let x := (addr - 0x50100) / 0x80
    let d := b.domain x
    match (addr - 0x50100) % 0x80 with
    | 0x00 => some (tsNs d.time)
    | 0x04 => some (tsFrac d.time * 2 ^ 22 + d.quality % 8 * 2 ^ 18 + tsWrap d.time)
    | 0x08 => some (d.inc % 2 ^ 32)
    | 0x0C => some (d.inc / 2 ^ 32 % 256)
    | 0x10 => some (b.wordAt addr + b2n (b.lost x) * 2 ^ 28)
    | 0x1C => some (b.boundOf x)
    | _ => none
  else none

/-- The live words of PWR: domains that are ON, votes and voters (R519, R520). (DEDUCED, log entry 29.) -/
def Block.pwrWord (b : Block) (addr : Nat) : Option Nat :=
  if addr = 0x20000 then
    some (b.wordAt addr + ((List.range 19).map fun d => b2n (b.get (F.PWR_D_STAT_STATE d) == 2) * 2 ^ d).sum)
  else if decide (0x20100 ≤ addr) && decide (addr < 0x20230) && addr % 16 == 0 then
    let d := (addr - 0x20100) / 16
    some (b.get (F.PWR_D_STAT_STATE d) * 2 ^ 29 + b.get (F.PWR_D_STAT_PENDING d) * 2 ^ 27
      + (b.pwr.voters.filter fun x => x.dom == d).length * 2 ^ 7 + b.votesOf d)
  else none

/-- Time to a port's next beacon in units of 10 ms (R494): in DETECT and SILENT, where it is not PARKED. (DEDUCED, log entry 29.) -/
def Block.nextBeacon (b : Block) (p : Nat) : Nat :=
  if (b.stage p == stDetect || b.stage p == stSilent) && !b.hostPort p && !b.flag (F.LNK_STAT_PARKED p) then
    satU 13 (((b.port p).beaconTick - b.tick) / (10 * msTicks))
  else 0

/-- The live words of SYS, SEC, FAB, LNK, ECC, PAIR, TST and CRC. (DEDUCED, log entry 29.) -/
def Block.stateWord (b : Block) (addr : Nat) : Option Nat :=
  if addr = 0x10000 then some b.sysState
  else if addr = 0x110000 then some b.secStatus
  else if decide (0x111000 ≤ addr) && decide (addr < 0x111800) then
    some (leVal (([0, 1, 2, 3] : List Nat).map fun i => Config.certByte (addr - 0x111000 + i) % 256))
  else if decide (0xd0020 ≤ addr) && decide (addr < 0xd0060) && addr % 8 == 0 then
    some (b.wordAt addr + b2n (b.portActive ((addr - 0xd0020) / 8)) * 2 ^ 28)
  else if decide (0xe0000 ≤ addr) && decide (addr < 0xe1000) && addr % 0x200 == 4 then
    some (b.wordAt addr + b.nextBeacon ((addr - 0xe0000) / 0x200))
  else if addr = 0xf0000 then some (b.wordAt addr + b2n (b.flag F.ECC_SCRUB_EN) * 2 ^ 30)
  else if addr = 0xf0008 then some (b.get F.ECC_SCRUB_EN * 2 ^ 31 + b.get F.BDG_CHOICE_SCRUB_H)
  else if addr = 0x100000 then
    some (b.wordAt addr + b2n b.sbEligible * 2 ^ 28 + b.get F.BDG_CHOICE_STANDBY * 2 ^ 26 + b.active)
  else if addr = 0x120000 then some (b.wordAt addr + b2n b.tstAuth * 2 ^ 31)
  else if decide (0xb0110 ≤ addr) && decide (addr < 0xb0300) && addr % 0x40 == 0x10 then
    some (2 ^ 32 - 1 - b.get (F.CRC_U_VAL ((addr - 0xb0110) / 0x40)))
  else none

/-- The word of a register that is computed when it is read; none where its fields stand in the register file. -/
def Block.liveWord (b : Block) (addr : Nat) : Option Nat :=
  ([Block.timWord, Block.pwrWord, Block.stateWord, Block.irqWord, Block.fastWord, Block.tdcWord, Block.ringWord, Block.loopWord,
    Block.precRegWord, Block.lpsWord, Block.egqWord, Block.evbWord, Block.wearWord] : List (Block → Nat → Option Nat)).findSome?
    fun f => f b addr

/-- The word that a register holds at this tick (R71). (DESIGN CHOICE, log entry 2.) -/
def Block.regWord (b : Block) (addr : Nat) : Nat := (b.liveWord addr).getD (b.wordAt addr)

end Sys2Proof.Machine
end

