-- ==== Sys2Proof/Machine/Standby.lean ====
section
/-! DEFINITION. The standby concentrator as its registers and DRAM are read through PAIR, and the writes of PAIR_CMD (R562, R566,
R573). -/

namespace Sys2Proof.Machine

open Sys2Proof

/-! ### The commands of PAIR_CMD and PAIR_WDOG (R562, R566, R574) -/

/-- The standby is lost or put out of service: its state, its domain, the votes (R562). -/
def Block.failStandby (b : Block) : Block := ((b.standbyDown 5).showStandby).settlePower

/-- A write of PAIR_CMD (R562, R566, R574): SWITCH with an eligible standby is answered before YIELD; host endpoints and the Owl
only. -/
def pairCmdOp (who : Requester) (w : Nat) (b : Block) : Block × Status :=
  if !(b.hostWho who || who == .owl) then (b, .accessDenied)
  else
    match w % 4 with
    | 1 => if b.sbEligible then ({ b with pair := { b.pair with switchDue := true } }, .ok) else (b, .busyResource)
    | 2 => (if b.get F.PAIR_STAT_SB_STATE = 5 then (b.put F.PAIR_STAT_SB_STATE 0).settlePower else b, .ok)
    | 3 => (if b.get F.PAIR_STAT_SB_STATE = 5 then b else b.failStandby, .ok)
    | _ => (b, .ok)

/-- A write of PAIR_WDOG: any value kicks the watchdog (R566, R574). -/
def wdogOp (b : Block) : Block × Status := ({ b with pair := { b.pair with wdogTick := b.tick } }, .ok)

/-! ### The standby's own state -/

/-- The pointers of an egress queue (R400): both concentrators know them (R61, R62, R411). -/
def queuePtr (a : Nat) : Bool :=
  decide (0xc0110 ≤ a) && decide (a < 0xc0500) && decide (0x10 ≤ (a - 0xc0100) % 0x80) && decide ((a - 0xc0100) % 0x80 < 0x38)

/-- What a concentrator knows of its own memory (R548, R557, R558): the fields of ECC but the self-test's results. -/
def ownEcc (k : Nat) : Bool := k / 32 / 0x10000 == 0xf && k / 32 != 0xf0004

/-- Fields that each concentrator keeps for itself: RW fields, counters and latched values of the resident blocks, and those of ECC (R23,
R562, R564); the others follow from the container and from the module's state, which both concentrators know. -/
def ownKey (k : Nat) : Bool :=
  ownEcc k || resident (k / 32) && !identityKey k && !queuePtr (k / 32) && (keyHas k (fun x => x.acc == .rw || x.acc == .rc || x.acc == .rl) || wideAt (k / 32) == .hi)

/-- One register file laid over another. -/
def overlay (under isOver : Table Nat) : Table Nat := isOver.foldl (fun t e => insertKey t e.1 e.2) under

/-- The standby as a module of its own, so that a register of it is read as one of the active is (R573): its own fields, its DRAM and
ring; the content that only a HOT standby builds (R563). (DEDUCED, log entry 61.) -/
def Block.standbyView (b : Block) : Block :=
  let hot := b.get F.PAIR_STAT_SB_STATE == 4
  { b with
    regs := overlay (b.regs.filter fun e => !ownKey e.1) (b.pair.sbRegs.filter fun e => ownKey e.1)
    dram := b.pair.sbDram
    poison := b.pair.sbPoison
    ring := b.pair.sbRing
    irq := ⟨[], [], [], none⟩
    evb := if hot then b.evb else Block.reset.evb
    lynx := if hot then b.lynx else LynxSt.reset
    egq := if hot then b.egq else []
    chk := ⟨[], none⟩
    ecc := ⟨[], [], []⟩ }

/-- The standby answers no access (R573): its domain is off by R22. -/
def Block.standbyOff (b : Block) : Bool := ([0, 5] : List Nat).contains (b.get F.PAIR_STAT_SB_STATE)

/-- The shadow of a requester for reads of the standby (R72, R573). -/
def Block.setSbShadow (b : Block) (who : Requester) (o : Option Shadow) : Block :=
  { b with pair := { b.pair with sbShadows := match o with
    | some s => insertKey b.pair.sbShadows who.code s
    | none => eraseKey b.pair.sbShadows who.code } }

/-- The RC fields of a standby register cleared by a completed read (R6, R573). -/
def Block.sbClearRc (b : Block) (addr : Nat) : Block :=
  match regRow addr with
  | some r =>
    { b with pair := { b.pair with sbRegs := r.bits.foldl (fun t x => if x.acc == .rc then eraseKey t (bitField addr x).key else t) b.pair.sbRegs } }
  | none => b

/-- A read of PAIR_SB_REG_DATA (R573): the standby's register at OFFSET, with its RC and RL behaviour. -/
def sbRegRead (who : Requester) (b : Block) : Block × Status × Nat :=
  let addr := b.get F.PAIR_SB_REG_ADDR
  if b.standbyOff then
    let r := offAccess (9 - b.activeDom) b
    (r.1, r.2, 0)
  else if !resident addr || (regRow addr).isNone then (b.bump F.SYS_BADADDR, .noReg, 0)
  else if who.isWarren && fenced addr then (b.fence who, .accessDenied, 0)
  else if tierOAt addr && !(who == .owl) then (b, .accessDenied, 0)
  else
    let v := b.standbyView
    let w := v.regWord addr
    match wideAt addr with
    | .lo => ((b.setSbShadow who (some ⟨addr, v.regWord (addr + 4)⟩)).sbClearRc addr, .ok, w)
    | .hi =>
      match lookup b.pair.sbShadows who.code with
      | some s => if s.addr + 4 = addr then (b.setSbShadow who none, .ok, s.high) else (b, .unlatched, w)
      | none => (b, .unlatched, w)
    | .no => (b.sbClearRc addr, .ok, w)

/-- The ranges that no window serves (R21). -/
def excluded (a : Nat) : Bool :=
  (decide (0x0500000000 ≤ a) && decide (a < 0x0680000000)) || (decide (0x068F000000 ≤ a) && decide (a < 0x06B0000000))

/-- The DRAM bulk window (R21). -/
def inWindow (a : Nat) : Bool := decide (0x0100000000 ≤ a) && decide (a < 0x0700000000)

/-- A read of the standby's DRAM through PAIR_SBW (R573). -/
def sbWindowRead (addr : Nat) (b : Block) : Block × Status × Nat :=
  if b.standbyOff then
    let r := offAccess (9 - b.activeDom) b
    (r.1, r.2, 0)
  else
    let a := b.get F.PAIR_SBW_BASE_LO + b.get F.PAIR_SBW_BASE_HI * 2 ^ 32 + (addr - 0x108000)
    if !inWindow a || excluded a then (b, .accessDenied, 0)
    else (b, if (lookup b.pair.sbPoison (a / 8)).isSome then .poisoned else .ok, leVal (readBytes b.pair.sbDram a 4))

/-- A write of PAIR_SBW_BASE (R74, R573, R574): bits [14:0] of the base read as zero. -/
def sbwBaseOp (lo : Option Nat) (w : Nat) (b : Block) : Block × Status :=
  let b1 := match lo with
    | some l => b.put F.PAIR_SBW_BASE_LO (l / 2 ^ 15 * 2 ^ 15)
    | none => b
  (b1.put F.PAIR_SBW_BASE_HI (w % 256), .ok)

end Sys2Proof.Machine
end

