-- ==== Sys2Proof/Machine/Bus.lean ====
section
/-! DEFINITION. Register and bulk accesses: what a write does at each address, one access of a word, requests of several words, the
TAG store, the mirrored writes, the bulk window (R21 to R25, R71 to R78, R404, R564, R575 to R584). -/

namespace Sys2Proof.Machine

open Sys2Proof

/-! ### Writes with an effect of their own -/

/-- What a write of a register does, once it has reached it: the held low word, the word (R6). -/
abbrev RegOp := Option Nat → Nat → Block → Block × Status

/-- A write whose register is not of a wide value. -/
def plainOp (f : Nat → Block → Block × Status) : RegOp := fun _ w b => f w b

/-- SYS_RESTART's key (R86). -/
abbrev restartKey : Nat := 0x5A5AC3A5

/-- A write of SYS_RESTART (R86, R115): the key is refused while a SEC or pass-through operation runs; any other value is ignored. (DEDUCED, log entry 15.) -/
def restartOp (w : Nat) (b : Block) : Block × Status := (b, if w = restartKey && b.secBusy then .busyResource else .ok)

/-- A write of SYS_SNAP (R76, R78). -/
def snapOp (w : Nat) (b : Block) : Block × Status :=
  let b1 := b.writeFields 0x10100 w
  (if bitAt w 31 then
      (((b1.put F.SYS_SNAP_STAT_DONE 0).put F.SYS_SNAP_STAT_OFF 0).put F.SYS_SNAP_STAT_CANCELLED 0).put F.SYS_SNAP_STAT_PENDING 1
    else b1, .ok)

/-- A write of PWR_d_CTRL (R510, R520). -/
def pwrCtrlOp (who : Requester) (d w : Nat) (b : Block) : Block × Status :=
  let r := forceOp who d (bitsOf w 30 29) b
  if r.2 == .ok then (r.1.put (F.PWR_D_CTRL_WAKE_ON_ACCESS d) (bitsOf w 31 31), .ok) else r

/-- A write of BDG (R514, R521): Squirrel's choices follow the settings where no step is shed. -/
def bdgOp (addr : Nat) : RegOp := fun lo w b => (((fieldsOp addr lo w b).1.bdgSettle).settlePower, .ok)

/-- A write of TIM_CTRL (R210, R228). -/
def timCtrlOp (w : Nat) (b : Block) : Block × Status := (((b.writeFields 0x50004 w).reselect).settlePower, .ok)

/-- A write of FAB_PIN (R446, R471): NODE, and with GO the pinning. -/
def fabPinOp (w : Nat) (b : Block) : Block × Status :=
  if bitAt w 31 then pinGoOp (w % 4096) b else (b.writeFields 0xd0018 w, .ok)

/-- The part of a write of LNK_p_CTRL that its ADMIN_DOWN bit makes (R484). -/
def lnkAdmin (p w : Nat) (b : Block) : Block × Status :=
  if bitAt w 29 == b.flag (F.LNK_CTRL_ADMIN_DOWN p) then (b, .ok) else if bitAt w 29 then lnkAdminDownOp p b else lnkAdminUp p b

/-- The part of a write of LNK_p_CTRL that its TEST field makes (R484, R491). -/
def lnkTest (p w : Nat) (b : Block) : Block × Status :=
  let v := bitsOf w 27 26
  if v = b.get (F.LNK_CTRL_TEST p) then (b, .ok) else if v = 1 then lnkTestPrbs p b else lnkTestOffOp p v b

/-- A write of LNK_p_CTRL (R484, R493, R494): RETRY, KNOCK and REJOIN where they are 1, then the two fields that keep a value. A KNOCK
that is refused drops the write. (DEDUCED, log entry 55.) -/
def lnkCtrlOp (p w : Nat) (b : Block) : Block × Status :=
  let b1 := if bitAt w 31 then (lnkRetryOp p b).1 else b
  let r := if bitAt w 30 then lnkKnockOp p b1 else (b1, .ok)
  if r.2 == .ok then
    let b2 := if bitAt w 28 then (lnkRejoinOp p r.1).1 else r.1
    lnkTest p w (lnkAdmin p w b2).1
  else (b.bump (F.LNK_REFUSE_CNT p), .busyResource)

/-- A write of LNK_p_EQ (R494). -/
def lnkEqOp (p w : Nat) (b : Block) : Block × Status := (lnkEqClamp p (b.writeFields (0xe0008 + 0x200 * p) w), .ok)

/-- The operation of a write at an offset in the registers of a tile (R22). -/
def tileOp (t o addr : Nat) : RegOp :=
  if o = 0x120 then plainOp fun w b => armOp addr w 8 b
  else if o = 0x124 then plainOp fun w b => armOp addr w 7 b
  else if decide (0x10000 ≤ o) && decide (o < 0x13c00) then plainOp fun w b => fchOp (240 * t + (o - 0x10000) / 64) addr w b
  else if decide (0x20000 ≤ o) && decide (o < 0x21000) then
    let n := 16 * t + (o - 0x20000) / 256
    let x := o % 256
    if x = 0x00 then plainOp (pchInOp n)
    else if x = 0x08 then plainOp (pchExcOp n)
    else if x = 0x18 then plainOp (pchFaultOp n)
    else if x = 0x20 then plainOp (pchDrvOp n)
    else if x = 0x80 then plainOp (pcvCfgOp n)
    else if decide (0x90 ≤ x) && decide (x < 0xc0) then
      if x % 8 = 0 then plainOp (calOfsOp n ((x - 0x90) / 8)) else plainOp (calGainOp n ((x - 0x90) / 8))
    else fieldsOp addr
  else if decide (0x30100 ≤ o) && decide (o < 0x30300) then
    let s := (o - 0x30100) / 0x80
    match (o - 0x30100) % 0x80 with
    | 0x00 => plainOp fun w b => bvrCmdOp t s w b
    | 0x04 => plainOp (bvrCfgOp t s)
    | 0x08 => bankOp t s 0 addr
    | 0x0C => bankOp t s 1 addr
    | _ => fieldsOp addr
  else if decide (0x31000 ≤ o) && decide (o < 0x35000) then bankOp t ((o - 0x31000) / 0x1000) ((o - 0x31000) % 0x1000 / 0x800) addr
  else fieldsOp addr

/-- The operation of a write in PWR, BDG, IRQ and TIM. -/
def aonOp (who : Requester) (addr : Nat) : RegOp :=
  if addr = 0x20010 then plainOp levelForceOp
  else if decide (0x20100 ≤ addr) && decide (addr < 0x20230) then
    let d := (addr - 0x20100) / 16
    match addr % 16 with
    | 4 => plainOp (voteOp who d)
    | 8 => plainOp (pwrCtrlOp who d)
    | _ => fieldsOp addr
  else if addr / 0x10000 = 3 then bdgOp addr
  else if addr = 0x40004 then plainOp irqAckOp
  else if addr = 0x40008 then plainOp (irqRaiseOp who)
  else if decide (0x40100 ≤ addr) && decide (addr < 0x40240) && (addr - 0x40100) % 0x40 == 8 then
    plainOp (irqPopOp who ((addr - 0x40100) / 0x40))
  else if addr = 0x50004 then plainOp timCtrlOp
  else if addr = 0x50124 then masterSetOp 0
  else if addr = 0x501a4 then masterSetOp 1
  else if decide (0x50300 ≤ addr) && decide (addr < 0x50380) && addr % 0x20 == 0 then plainOp (toutCtrlOp ((addr - 0x50300) / 0x20))
  else fieldsOp addr

/-- The operation of a write in TDC, TRG, LPS, CRC and EGQ. -/
def coreOp (who : Requester) (addr : Nat) : RegOp :=
  if addr = 0x60010 then plainOp tdcCalOp
  else if decide (0x60100 ≤ addr) && decide (addr < 0x60140) && addr % 8 == 0 then plainOp (pinCfgOp ((addr - 0x60100) / 8))
  else if decide (0x61000 ≤ addr) && decide (addr < 0x6120c) then plainOp (tdcWindowOp addr)
  else if decide (0x76000 ≤ addr) && decide (addr < 0x7dc80) && addr % 16 == 0 then plainOp (trgUnitOp ((addr - 0x76000) / 16))
  else if addr = 0xa011c then plainOp djOp
  else if decide (0xb0100 ≤ addr) && decide (addr < 0xb0300) then
    plainOp (crcOp who ((addr - 0xb0100) / 0x40) ((addr - 0xb0100) % 0x40))
  else if decide (0xc0100 ≤ addr) && decide (addr < 0xc0500) then
    let q := (addr - 0xc0100) / 0x80
    match (addr - 0xc0100) % 0x80 with
    | 0 => plainOp (egqCfgOp q)
    | 8 => plainOp (egqCmdOp who q)
    | _ => fieldsOp addr
  else fieldsOp addr

/-- The operation of a write in SYS, FAB, LNK, ECC, PAIR, SEC, TST and CNV. -/
def moduleOp (who : Requester) (addr : Nat) : RegOp :=
  if addr = 0x10010 then plainOp restartOp
  else if addr = 0x10100 then plainOp snapOp
  else if addr = 0xd0018 then plainOp fabPinOp
  else if decide (0xd8000 ≤ addr) && decide (addr < 0xe0000) && addr % 8 == 0 then plainOp (routePinOp ((addr - 0xd8000) / 8))
  else if decide (0xe0000 ≤ addr) && decide (addr < 0xe1000) then
    match addr % 0x200 with
    | 0 => plainOp (lnkCtrlOp ((addr - 0xe0000) / 0x200))
    | 8 => plainOp (lnkEqOp ((addr - 0xe0000) / 0x200))
    | _ => fieldsOp addr
  else if decide (0xf0100 ≤ addr) && decide (addr < 0xf0800) && addr % 16 == 8 then plainOp (eccThrOp ((addr - 0xf0100) / 16))
  else if addr = 0x100004 then plainOp (pairCmdOp who)
  else if addr = 0x10000c then plainOp fun _ b => wdogOp b
  else if addr = 0x100034 || (decide (0x108000 ≤ addr) && decide (addr < 0x110000)) then fun _ _ b => (b, .accessDenied)
  else if addr = 0x10003c then sbwBaseOp
  else if addr = 0x110010 then plainOp secCmdOp
  else if addr = 0x110024 then plainOp nvmOp
  else if addr = 0x120004 then plainOp tstArmOp
  else if addr = 0x130010 then plainOp calCmdOp
  else if addr = 0x130030 then plainOp odReqOp
  else if decide (0x130100 ≤ addr) && decide (addr < 0x130180) && addr % 16 == 12 then plainOp (odFreeOp ((addr - 0x130100) / 16))
  else fieldsOp addr

/-- The operation of a write at an address (R22). -/
def regOp (who : Requester) (addr : Nat) : RegOp :=
  match tileOf addr with
  | some t => tileOp t ((addr - 0x200000) % 0x40000) addr
  | none =>
    let k := addr / 0x10000
    if decide (2 ≤ k) && decide (k ≤ 5) then aonOp who addr
    else if decide (6 ≤ k) && decide (k ≤ 12) then coreOp who addr
    else moduleOp who addr

/-- Registers whose every writable field is locked for this requester: a write of one acts on nothing (R582). -/
def Block.allLocked_ (b : Block) (who : Requester) (addr : Nat) : Bool :=
  match regRow addr with
  | some r => (b.lockedBits who addr).length == (r.bits.filter fun x => x.acc != .ro && x.acc != .rl && x.acc != .rc).length
      && !(b.lockedBits who addr).isEmpty
  | none => false

/-! ### One access of a word -/

/-- The egress apertures (R22): the queue of an address. -/
def apertureAt (addr : Nat) : Option Nat :=
  if decide (0x1000000000 ≤ addr) && decide (addr < 0x1080000000) then some ((addr - 0x1000000000) / 0x10000000) else none

/-- A class 0 access of the bulk window or of an aperture (R21, R403): refused. (DEDUCED, log entry 28.) -/
def windowAccess (who : Requester) (addr : Nat) (b : Block) : Option (Block × Status) :=
  if inWindow addr || (apertureAt addr).isSome then
    if !b.authorised who then some (b.bump F.SYS_DENY_CNT, .accessDenied)
    else
      match apertureAt addr with
      | some q => some (b.bump (F.EGQ_DENY_CNT q), .accessDenied)
      | none => some (b, .accessDenied)
  else none

/-- The bits of a register's word that an uncorrected error inverted (R548). -/
def Block.flipsAt (b : Block) (addr : Nat) : Nat := lookupD b.ecc.flips (addr / 8) 0 / 2 ^ (32 * (addr / 4 % 2)) % 2 ^ 32

/-- A read of a word (R6, R24, R71, R551, R573, R581). -/
def readWord (who : Requester) (addr : Nat) (b : Block) : Block × Status × Nat :=
  match windowAccess who addr b with
  | some r => (r.1, r.2, 0)
  | none =>
    match b.refuse who addr false with
    | some r => (r.1, r.2, 0)
    | none =>
      if addr = 0x100034 then sbRegRead who b
      else if decide (0x108000 ≤ addr) && decide (addr < 0x110000) then sbWindowRead addr b
      else
        let b1 := b.checkRange addr 4
        let b2 := if decide (0xb0100 ≤ addr) && decide (addr < 0xb0300) then b1.touchCrc who ((addr - 0xb0100) / 0x40) else b1
        if b2.poisoned addr 4 then (b2.touched addr, .poisoned, Nat.xor (b2.regWord addr) (b2.flipsAt addr))
        else guardedRead who addr Block.regWord b2

/-- The stored bits of a register after a write: a write of all 64 bits of its word makes it whole (R550), and MEMERR may act
(R586). -/
def Block.rewritten (b : Block) (addr : Nat) (whole : Bool) : Block :=
  let b1 := if whole then
      { b with
        poison := clearPoison b.poison (addr - 4) 8
        ecc := { b.ecc with upsets := clearUpsets b.ecc.upsets (addr - 4) 8, flips := eraseKey b.ecc.flips (addr / 8) } }
    else b
  b1.memErr addr 4

/-- A write of a word (R6, R24, R74, R108, R582). -/
def writeWord (who : Requester) (addr w : Nat) (b : Block) : Block × Status :=
  match windowAccess who addr b with
  | some r => r
  | none =>
    let whole := wideAt addr == .hi && addr % 8 == 4 && (b.heldFor who addr).isSome
    let op : RegOp := if b.allLocked_ who addr then fun _ _ c => (c, .ok) else regOp who addr
    let r := guardedWrite who addr w Block.regWord op b
    if r.2 == .ok || r.2 == .tierLocked then (r.1.rewritten addr whole, r.2) else r

/-! ### Requests (R56, R576 to R580) -/

/-- The words read from ascending addresses, as far as the first status that is not OK (R577). -/
def readWords (who : Requester) (b : Block) (addr : Nat) : Nat → Block × Status × List Nat
  | 0 => (b, .ok, [])
  | n + 1 =>
    let r := readWord who addr b
    if r.2.1 == .ok then
      let l := readWords who r.1 (addr + 4) n
      (l.1, l.2.1, r.2.2 :: l.2.2)
    else (r.1, r.2.1, [r.2.2])

/-- The words written to ascending addresses, as far as the first status that is not OK, and their number (R577). -/
def writeAll (who : Requester) (b : Block) (addr : Nat) : List Nat → Block × Status × Nat
  | [] => (b, .ok, 0)
  | w :: l =>
    let r := writeWord who addr w b
    if r.2 == .ok then
      let x := writeAll who r.1 (addr + 4) l
      (x.1, x.2.1, x.2.2 + 1)
    else (r.1, r.2, 1)

/-- The answer leaves for its requester (R576): a core of the module takes it at once. (DEDUCED, log entry 67.) -/
def Block.answer (b : Block) (who : Requester) (cls : Nat) (m : Msg) : Block :=
  match who with
  | .node n => b.post (.node n) cls m
  | _ => b.post (.core who) cls m

/-- An answer kept with its TAG and sent (R579). -/
def Block.reply (b : Block) (a : Access) (x : Answer) : Block :=
  let b1 := match a.who with
    | .node n =>
      { b with access := { b.access with tags := modifyKey b.access.tags n [] fun l => ((a.tag, x) :: l).take 16 } }
    | _ => b
  b1.answer a.who 0 (.answer a.tag x)

/-- The stored answer of a TAG (R579). -/
def Block.stored (b : Block) (a : Access) : Option Answer :=
  match a.who with
  | .node n => ((lookupD b.access.tags n []).find? fun x => x.1 == a.tag).map (·.2)
  | _ => none

/-- Everything handed to Bamien leaves the module (R86, R566). -/
def Block.flushPosted (b : Block) : Nat → Block
  | 0 => b
  | n + 1 => if b.posted.isEmpty then b else (drainOne b).flushPosted n

/-- What an answered write brings about once its answer has left: the commanded restart, or YIELD (R86, R566). (DEDUCED, log entry 15.) -/
def Block.afterAnswer (b : Block) (addr done : Nat) (words : List Nat) : Block :=
  let i := (0x10010 - addr) / 4
  if decide (addr ≤ 0x10010) && decide (i < done) && words.getD i 0 == restartKey then
    (b.flushPosted (b.posted.length + 16)).toOff causeRestart false
  else if b.pair.switchDue then (b.flushPosted (b.posted.length + 16)).diagnose 8
  else b

/-- The registers whose RW fields are mirrored: those of the resident blocks but the decompressor's and the check-value units' (R380,
R564). (DEDUCED, log entry 27.) -/
def mirrorable (addr : Nat) : Bool :=
  resident addr && !(decide (0xa0100 ≤ addr) && decide (addr < 0xa0128)) && !(decide (0xb0100 ≤ addr) && decide (addr < 0xb0300))

/-- The RW fields of the written registers as the standby now knows them, and the release pointer that a command moved (R60, R564). -/
def Block.mirrorRegs (b : Block) (addrs : List Nat) : Block :=
  let copy (t : Table Nat) (f : Field) : Table Nat := putReg t f (b.get f)
  let one (t : Table Nat) (a : Nat) : Table Nat :=
    match regRow a with
    | some r => if mirrorable a then r.bits.foldl (fun t x => if x.acc == .rw then copy t (bitField a x) else t) t else t
    | none => t
  let rel (t : Table Nat) (a : Nat) : Table Nat :=
    if decide (0xc0100 ≤ a) && decide (a < 0xc0500) && (a - 0xc0100) % 0x80 == 8 then
      copy (copy t (F.EGQ_REL_LO ((a - 0xc0100) / 0x80))) (F.EGQ_REL_HI ((a - 0xc0100) / 0x80))
    else t
  let l := addrs.flatMap fun a => if wideAt a == .hi then [a - 4, a] else [a]
  { b with pair := { b.pair with sbRegs := l.foldl (fun t a => rel (one t a) a) b.pair.sbRegs } }

/-- A write carried out and answered (R577). -/
def Block.doWrite (b : Block) (a : Access) (addr : Nat) (words : List Nat) : Block :=
  let r := writeAll a.who b addr words
  let b1 := if r.1.mirrorUp then r.1.mirrorRegs ((List.range r.2.2).map fun i => addr + 4 * i) else r.1
  (b1.reply a ⟨2, addr, r.2.2, r.2.1, []⟩).afterAnswer addr (if r.2.1 == .ok then r.2.2 else r.2.2 - 1) words

/-- A word of a write that is mirrored before it acts: an RW field of a resident block, or a release (R409, R564). (DEDUCED, log entry 27.) -/
def mirrored (addr w : Nat) : Bool :=
  (mirrorable addr && hasRw addr && wideAt addr != .lo)
    || (decide (0xc0100 ≤ addr) && decide (addr < 0xc0500) && (addr - 0xc0100) % 0x80 == 8 && isRelease w)

/-- The write would be accepted at a word that is mirrored: it then waits for the mirror (R564). (DEDUCED, log entry 27.) -/
def Block.awaitsMirror (b : Block) (a : Access) (addr : Nat) (words : List Nat) : Bool :=
  b.mirrorUp &&
    let r := writeAll a.who b addr words
    (List.range r.2.2).any fun i => mirrored (addr + 4 * i) (words.getD i 0) && (decide (i + 1 < r.2.2) || r.2.1 == .ok || r.2.1 == .tierLocked)

/-! ### Bulk reads (R21, R321, R404, R584) -/

/-- How many bytes of the 64 at an address of the window hold stored data (R321). -/
def Block.windowBytes (b : Block) (a : Nat) : Nat :=
  if a < 0x0500000000 then
    let n := (a - 0x0100000000) / 4096
    let e := entryOf b.dram n
    if e.never then 0 else min 64 (b.ring.stored e.stream n e * itemSize e.stream - a % 4096)
  else 64

/-- One entry of the window (R404). -/
def Block.windowEntry (b : Block) (a : Nat) : Block × List Nat :=
  let b1 := b.checkRange a 64
  let n := b1.windowBytes a
  (b1, entryTag n false false false (decide (0 < n) && b1.poisoned a n) (if n = 0 then 2 else 0) 0x7F 0 a ++ entryData (b1.load a n))

/-- Up to `n` entries of the window, as far as an excluded range or its end (R21, R584). -/
def windowEntries (b : Block) (a : Nat) : Nat → Block × List (List Nat)
  | 0 => (b, [])
  | n + 1 =>
    if !inWindow a || excluded a then (b, [])
    else
      let e := b.windowEntry a
      let l := windowEntries e.1 (a + 64) n
      (l.1, e.2 :: l.2)

/-- A class 5 read (R21, R403 to R407, R584). -/
def bulkRead (who : Requester) (addr n : Nat) (b : Block) : Block × Status × List (List Nat) :=
  if !b.authorised who then (b.bump F.SYS_DENY_CNT, .accessDenied, [])
  else
    match apertureAt addr with
    | some q => apertureOp who q n b
    | none =>
      if !inWindow addr then (b.bump F.SYS_BADADDR, .noReg, [])
      else if addr % 64 ≠ 0 then (b.bump F.SYS_BADREQ_CNT, .badRequest, [])
      else if excluded addr then (b, .accessDenied, [])
      else if b.get (F.PWR_D_STAT_STATE (6 + b.active)) ≠ 2 then
        let r := offAccess (6 + b.active) b
        (r.1, r.2, [])
      else
        let l := windowEntries b addr (bulkCount n)
        (l.1, .ok, l.2)

/-! ### Requests in their order (R56, R564, R579, R583) -/

/-- Register requests are served: from Verify on, while the active concentrator runs. -/
def Block.serving (b : Block) : Bool :=
  b.ccOn && ([.verify, .configure, .join, .live, .safeConfig] : List Phase).contains b.phase

/-- A release of a queue waits for the mirror (R406, R409). -/
def Block.releasePending (b : Block) (q : Nat) : Bool :=
  b.pair.queue.any fun m =>
    match m.kind with
    | .request _ (.write addr words) =>
      let c := 0xc0108 + q * 0x80
      decide (addr ≤ c) && decide (c < addr + 4 * words.length) && isRelease (words.getD ((c - addr) / 4) 0)
    | _ => false

/-- The request of a requester follows one that has not been answered (R56). -/
def Block.behind (b : Block) (who : Requester) : Bool :=
  (b.access.waiting.any fun x => x.1.who == who)
    || b.pair.queue.any fun m =>
      match m.kind with
      | .request a _ => a.who == who
      | _ => false

/-- A request waits (R56, R583). -/
def Block.wait (b : Block) (a : Access) (r : Request) : Block :=
  { b with access := { b.access with waiting := b.access.waiting ++ [(a, r)] } }

/-- A request carried out and answered (R577 to R579, R584); a write may wait for the mirror instead. -/
def Block.perform (b : Block) (a : Access) (r : Request) : Block :=
  match r with
  | .bulk addr n =>
    let x := bulkRead a.who addr n b
    x.1.answer a.who 5 (.bulk a.tag ⟨addr, x.2.2.length, x.2.1, x.2.2⟩)
  | .bad op addr => (b.bump F.SYS_BADREQ_CNT).reply a ⟨op, addr, 0, .badRequest, []⟩
  | .read addr n =>
    let x := readWords a.who b addr n
    x.1.reply a ⟨1, addr, x.2.2.length, x.2.1, x.2.2⟩
  | .write addr words =>
    if b.awaitsMirror a addr words then b.mirror (.request a (.write addr words)) else b.doWrite a addr words

/-- A request that is not of class 5 and repeats a TAG is answered again (R579). -/
def Block.take (b : Block) (a : Access) (r : Request) : Block :=
  match r with
  | .bulk _ _ => b.perform a r
  | _ =>
    match b.stored a with
    | some x => b.answer a.who 0 (.answer a.tag x)
    | none => b.perform a r

/-- A request must wait: a gap, an earlier one of its requester, or a release of the queue it reads (R56, R406, R583). -/
def Block.mustWait (b : Block) (a : Access) (r : Request) : Bool :=
  b.pair.gap.isSome || b.behind a.who ||
    match r with
    | .bulk addr _ =>
      match apertureAt addr with
      | some q => b.releasePending q
      | none => false
    | _ => false

/-- A request reaches the module. -/
def Block.arrive (b : Block) (a : Access) (r : Request) : Block :=
  if !b.serving then b else if b.mustWait a r then b.wait a r else (b.take a r).actCritical b

/-- The requests that waited go on, in their order (R56, R583). -/
def Block.runWaiting (b : Block) : Block :=
  b.access.waiting.foldl (fun c x => c.arrive x.1 x.2) { b with access := { b.access with waiting := [] } }

/-! ### The mirror (R40, R44, R564) -/

/-- What a sync transfers: the RW fields of the resident blocks, and the release pointers (R572). -/
def syncKey (k : Nat) : Bool :=
  mirrorable (k / 32) && keyHas k (fun x => x.acc == .rw)
    || allQueues.any fun q => k == (F.EGQ_REL_LO q).key || k == (F.EGQ_REL_HI q).key

/-- What waits for an item's acknowledgement happens. (DEDUCED, log entry 27.) -/
def Block.mirrorDone (b : Block) (k : MirrorKind) : Block :=
  match k with
  | .request a (.write addr words) => if b.serving then (b.doWrite a addr words).actCritical b else b
  | .request _ _ => b
  | .decision m _ => b.ackDecision (ackOf m)
  | .entry e => b.modEpoch e fun x => { x with mirrored := true }
  | .sync l =>
    let own := b.pair.sbRegs.filter fun e => !syncKey e.1
    { b with pair := { b.pair with sbRegs := l.foldl (fun t e => insertKey t e.1 e.2) own } }

/-- Without a mirror, what waited for it acts at once, in its order (R40, R44, R564); a sync under way has no receiver. -/
def Block.flushMirror (b : Block) : Block :=
  if b.mirrorUp || b.pair.queue.isEmpty || b.pair.gap.isSome then b
  else
    let b1 := b.pair.queue.foldl (fun c m => match m.kind with
      | .sync _ => c
      | k => c.mirrorDone k) { b with pair := { b.pair with queue := [] } }
    b1.runWaiting

/-- A request of a requester, and what follows where it ends the mirror. -/
def submit (a : Access) (r : Request) (b : Block) : Block := (b.arrive a r).flushMirror

end Sys2Proof.Machine
end

