-- ==== Sys2Proof/Machine/Commands.lean ====
section
/-! DEFINITION. The commands that are register or bulk accesses of a requester: each is one request, and what it does is what the access
does (R576, R577, R584). -/

namespace Sys2Proof.Machine

open Sys2Proof

/-- A WRITE request by what its payload holds (R576, R578). -/
def writeRequest (addr count : Nat) (data : List Nat) (zeroOk : Bool) : Request :=
  if count = 0 || 64 < count || addr % 4 != 0 || data.length != count || !zeroOk then .bad 2 addr else .write addr data

/-- A READ request by what its payload holds (R576, R578). -/
def readRequest (addr count : Nat) : Request := if count = 0 || 64 < count || addr % 4 != 0 then .bad 1 addr else .read addr count

/-- The fields of LNK_p_CTRL that keep a value, as they stand (R494). -/
def Block.lnkKept (b : Block) (p : Nat) : Nat := b.get (F.LNK_CTRL_ADMIN_DOWN p) * 2 ^ 29 + b.get (F.LNK_CTRL_TEST p) * 2 ^ 26

/-! ### SYS and SEC (R78, R86, R113, R116) -/

/-- A write of SYS_RESTART: the restart key, answered before it acts, or any other value (R86). -/
def sysRestart (a : Access) (key : Word) (b : Block) : Block := submit a (.write 0x10010 [key.toNat]) b

/-- SYS_RESTART (R86). -/
def execSysRestart (a : Access) (key : Word) (s : State) : Host.Outcome State Fault Refusal :=
  onHw (Instr.wf (.sysRestart a key)) s (sysRestart a key)

/-- A write of SEC_CMD with the opcode of NEW_NONCE. -/
def newNonce (a : Access) (b : Block) : Block := submit a (.write 0x110010 [1]) b

/-- NEW_NONCE (R113). -/
def execNewNonce (a : Access) (s : State) : Host.Outcome State Fault Refusal :=
  onHw (Instr.wf (.newNonce a)) s (newNonce a)

/-- A write of SEC_CMD with the opcode of QUOTE (R118). -/
def quote (a : Access) (b : Block) : Block := submit a (.write 0x110010 [2]) b

/-- QUOTE (R118). -/
def execQuote (a : Access) (s : State) : Host.Outcome State Fault Refusal :=
  onHw (Instr.wf (.quote a)) s (quote a)

/-- A write of SEC_CMD with the opcode of CONFIRM (R94). -/
def confirm (a : Access) (b : Block) : Block := submit a (.write 0x110010 [3]) b

/-- CONFIRM (R94). -/
def execConfirm (a : Access) (s : State) : Host.Outcome State Fault Refusal :=
  onHw (Instr.wf (.confirm a)) s (confirm a)

/-- A write of SEC_CMD with the opcode of OPEN_NVM (R114). -/
def openNvm (a : Access) (b : Block) : Block := submit a (.write 0x110010 [4]) b

/-- OPEN_NVM (R114). -/
def execOpenNvm (a : Access) (s : State) : Host.Outcome State Fault Refusal :=
  onHw (Instr.wf (.openNvm a)) s (openNvm a)

/-- A write of SEC_CMD with the opcode of CLOSE_NVM. -/
def closeNvm (a : Access) (b : Block) : Block := submit a (.write 0x110010 [5]) b

/-- CLOSE_NVM (R113). -/
def execCloseNvm (a : Access) (s : State) : Host.Outcome State Fault Refusal :=
  onHw (Instr.wf (.closeNvm a)) s (closeNvm a)

/-- A write of SEC_CMD with the opcode of VERIFY_SLOT (R117). -/
def verifySlot (a : Access) (b : Block) : Block := submit a (.write 0x110010 [6]) b

/-- VERIFY_SLOT (R117). -/
def execVerifySlot (a : Access) (s : State) : Host.Outcome State Fault Refusal :=
  onHw (Instr.wf (.verifySlot a)) s (verifySlot a)

/-- A write of SEC_CMD with the opcode of ADD_KEY (R111). -/
def addKey (a : Access) (b : Block) : Block := submit a (.write 0x110010 [7]) b

/-- ADD_KEY (R111). -/
def execAddKey (a : Access) (s : State) : Host.Outcome State Fault Refusal :=
  onHw (Instr.wf (.addKey a)) s (addKey a)

/-- A write of SEC_CMD with the opcode of REVOKE_KEY (R111). -/
def revokeKey (a : Access) (b : Block) : Block := submit a (.write 0x110010 [8]) b

/-- REVOKE_KEY (R111). -/
def execRevokeKey (a : Access) (s : State) : Host.Outcome State Fault Refusal :=
  onHw (Instr.wf (.revokeKey a)) s (revokeKey a)

/-- A write of SEC_CMD with the opcode of DEBUG_OPEN (R112). -/
def debugOpen (a : Access) (b : Block) : Block := submit a (.write 0x110010 [9]) b

/-- DEBUG_OPEN (R112). -/
def execDebugOpen (a : Access) (s : State) : Host.Outcome State Fault Refusal :=
  onHw (Instr.wf (.debugOpen a)) s (debugOpen a)

/-- A write of SEC_NVM_CTRL with OP ERASE64K (R116). -/
def nvmErase64k (a : Access) (b : Block) : Block := submit a (.write 0x110024 [1]) b

/-- NVM_ERASE64K (R116). -/
def execNvmErase64k (a : Access) (s : State) : Host.Outcome State Fault Refusal :=
  onHw (Instr.wf (.nvmErase64k a)) s (nvmErase64k a)

/-- A write of SEC_NVM_CTRL with OP PROGRAM (R116). -/
def nvmProgram (a : Access) (b : Block) : Block := submit a (.write 0x110024 [2]) b

/-- NVM_PROGRAM (R116). -/
def execNvmProgram (a : Access) (s : State) : Host.Outcome State Fault Refusal :=
  onHw (Instr.wf (.nvmProgram a)) s (nvmProgram a)

/-- A write of SEC_NVM_CTRL with OP READ (R116). -/
def nvmRead (a : Access) (b : Block) : Block := submit a (.write 0x110024 [3]) b

/-- NVM_READ (R116). -/
def execNvmRead (a : Access) (s : State) : Host.Outcome State Fault Refusal :=
  onHw (Instr.wf (.nvmRead a)) s (nvmRead a)

/-- A write of SYS_SNAP with ARM = 1 (R78). -/
def snapArm (a : Access) (w : Word) (b : Block) : Block := submit a (.write 0x10100 [setBit w.toNat 31 true]) b

/-- SNAP_ARM (R78). -/
def execSnapArm (a : Access) (w : Word) (s : State) : Host.Outcome State Fault Refusal :=
  onHw (Instr.wf (.snapArm a w)) s (snapArm a w)

/-! ### Requests to any register (R72 to R74, R576 to R580) -/

/-- A WRITE request as its sender laid it down: ADDR, COUNT, the data words that the frame carries, whether its zero bytes are zero (R576, R578). -/
def registerWrite (a : Access) (addr count : Nat) (data : List Word) (zeroOk : Bool) (b : Block) : Block := submit a (writeRequest addr count (data.map (·.toNat)) zeroOk) b

/-- REGISTER_WRITE (R580). -/
def execRegisterWrite (a : Access) (addr count : Nat) (data : List Word) (zeroOk : Bool) (s : State) : Host.Outcome State Fault Refusal :=
  onHw (Instr.wf (.registerWrite a addr count data zeroOk)) s (registerWrite a addr count data zeroOk)

/-- A READ request from the address of an RC field (R6, R577). -/
def rcCounterRead (a : Access) (addr count : Nat) (b : Block) : Block := submit a (readRequest addr count) b

/-- RC_COUNTER_READ (R6). -/
def execRcCounterRead (a : Access) (addr count : Nat) (s : State) : Host.Outcome State Fault Refusal :=
  onHw (Instr.wf (.rcCounterRead a addr count)) s (rcCounterRead a addr count)

/-- A READ request from the address of a _LO register, as far as COUNT reaches (R72, R577). -/
def wideLoRead (a : Access) (addr count : Nat) (b : Block) : Block := submit a (readRequest addr count) b

/-- WIDE_LO_READ (R72). -/
def execWideLoRead (a : Access) (addr count : Nat) (s : State) : Host.Outcome State Fault Refusal :=
  onHw (Instr.wf (.wideLoRead a addr count)) s (wideLoRead a addr count)

/-- A READ of one word at the address of a _HI register (R72). -/
def wideHiRead (a : Access) (addr : Nat) (b : Block) : Block := submit a (readRequest addr 1) b

/-- WIDE_HI_READ (R72). -/
def execWideHiRead (a : Access) (addr : Nat) (s : State) : Host.Outcome State Fault Refusal :=
  onHw (Instr.wf (.wideHiRead a addr)) s (wideHiRead a addr)

/-- An access to an address whose domain is off (R22, R509). -/
def offDomainAccess (a : Access) (addr : Nat) (b : Block) : Block := submit a (readRequest addr 1) b

/-- OFF_DOMAIN_ACCESS (R509). -/
def execOffDomainAccess (a : Access) (addr : Nat) (s : State) : Host.Outcome State Fault Refusal :=
  onHw (Instr.wf (.offDomainAccess a addr)) s (offDomainAccess a addr)

/-- A WRITE of one word at the address of a _LO register (R74). -/
def wideLoWrite (a : Access) (addr : Nat) (w : Word) (b : Block) : Block := submit a (writeRequest addr 1 [w.toNat] true) b

/-- WIDE_LO_WRITE (R74). -/
def execWideLoWrite (a : Access) (addr : Nat) (w : Word) (s : State) : Host.Outcome State Fault Refusal :=
  onHw (Instr.wf (.wideLoWrite a addr w)) s (wideLoWrite a addr w)

/-- A WRITE of one word at the address of a _HI register (R74). -/
def wideHiWrite (a : Access) (addr : Nat) (w : Word) (b : Block) : Block := submit a (writeRequest addr 1 [w.toNat] true) b

/-- WIDE_HI_WRITE (R74). -/
def execWideHiWrite (a : Access) (addr : Nat) (w : Word) (s : State) : Host.Outcome State Fault Refusal :=
  onHw (Instr.wf (.wideHiWrite a addr w)) s (wideHiWrite a addr w)

/-! ### Trigger units, packing and check values (R275, R379, R391 to R393) -/

/-- A write of TRG_U_CFG of a pin unit with EN = 1 (R275). -/
def pinUnitEnable (a : Access) (u : Nat) (w : Word) (b : Block) : Block := submit a (.write (0x76000 + 0x10 * (1984 + u)) [setBit w.toNat 31 true]) b

/-- PIN_UNIT_ENABLE (R275). -/
def execPinUnitEnable (a : Access) (u : Nat) (w : Word) (s : State) : Host.Outcome State Fault Refusal :=
  onHw (Instr.wf (.pinUnitEnable a u w)) s (pinUnitEnable a u w)

/-- A write of LPS_DJ_CMD with GO = 1 (R379). -/
def lpsDjGo (a : Access) (b : Block) : Block := submit a (.write 0xa011c [2 ^ 31]) b

/-- LPS_DJ_GO (R379). -/
def execLpsDjGo (a : Access) (s : State) : Host.Outcome State Fault Refusal :=
  onHw (Instr.wf (.lpsDjGo a)) s (lpsDjGo a)

/-- A write of CRC_U_OWN with CLAIM = 1 (R391). -/
def crcClaim (a : Access) (u : Nat) (b : Block) : Block := submit a (.write (0xb0100 + 0x40 * u) [2 ^ 29]) b

/-- CRC_CLAIM (R391). -/
def execCrcClaim (a : Access) (u : Nat) (s : State) : Host.Outcome State Fault Refusal :=
  onHw (Instr.wf (.crcClaim a u)) s (crcClaim a u)

/-- A write of CRC_U_OWN with RELEASE = 1 (R391). -/
def crcRelease (a : Access) (u : Nat) (b : Block) : Block := submit a (.write (0xb0100 + 0x40 * u) [2 ^ 28]) b

/-- CRC_RELEASE (R391). -/
def execCrcRelease (a : Access) (u : Nat) (s : State) : Host.Outcome State Fault Refusal :=
  onHw (Instr.wf (.crcRelease a u)) s (crcRelease a u)

/-- A write of CRC_U_FEED (R392). -/
def crcFeed (a : Access) (u : Nat) (w : Word) (b : Block) : Block := submit a (.write (0xb010c + 0x40 * u) [w.toNat]) b

/-- CRC_FEED (R392). -/
def execCrcFeed (a : Access) (u : Nat) (w : Word) (s : State) : Host.Outcome State Fault Refusal :=
  onHw (Instr.wf (.crcFeed a u w)) s (crcFeed a u w)

/-- A write of CRC_U_VAL (R392). -/
def crcValWrite (a : Access) (u : Nat) (w : Word) (b : Block) : Block := submit a (.write (0xb0108 + 0x40 * u) [w.toNat]) b

/-- CRC_VAL_WRITE (R392). -/
def execCrcValWrite (a : Access) (u : Nat) (w : Word) (s : State) : Host.Outcome State Fault Refusal :=
  onHw (Instr.wf (.crcValWrite a u w)) s (crcValWrite a u w)

/-- A write of CRC_U_JOB with GO = 1 (R393). -/
def crcRangeGo (a : Access) (u : Nat) (b : Block) : Block := submit a (.write (0xb0120 + 0x40 * u) [2 ^ 31]) b

/-- CRC_RANGE_GO (R393). -/
def execCrcRangeGo (a : Access) (u : Nat) (s : State) : Host.Outcome State Fault Refusal :=
  onHw (Instr.wf (.crcRangeGo a u)) s (crcRangeGo a u)

/-- A write of CRC_U_JOB with ABORT = 1 (R393). -/
def crcRangeAbort (a : Access) (u : Nat) (b : Block) : Block := submit a (.write (0xb0120 + 0x40 * u) [2 ^ 30]) b

/-- CRC_RANGE_ABORT (R393). -/
def execCrcRangeAbort (a : Access) (u : Nat) (s : State) : Host.Outcome State Fault Refusal :=
  onHw (Instr.wf (.crcRangeAbort a u)) s (crcRangeAbort a u)

/-! ### Egress queues and the bulk window (R21, R397, R405, R408) -/

/-- A write of EGQ_q_CFG (R397). -/
def egqCfgWrite (a : Access) (q : Nat) (w : Word) (b : Block) : Block := submit a (.write (0xc0100 + 0x80 * q) [w.toNat]) b

/-- EGQ_CFG_WRITE (R397). -/
def execEgqCfgWrite (a : Access) (q : Nat) (w : Word) (s : State) : Host.Outcome State Fault Refusal :=
  onHw (Instr.wf (.egqCfgWrite a q w)) s (egqCfgWrite a q w)

/-- A class 5 read of an aperture (R405, R584). -/
def egqApertureRead (a : Access) (q n : Nat) (b : Block) : Block := submit a (.bulk (0x1000000000 + 0x10000000 * q) n) b

/-- EGQ_APERTURE_READ (R405). -/
def execEgqApertureRead (a : Access) (q n : Nat) (s : State) : Host.Outcome State Fault Refusal :=
  onHw (Instr.wf (.egqApertureRead a q n)) s (egqApertureRead a q n)

/-- A class 5 read of the bulk window (R21, R584). -/
def bulkWindowRead (a : Access) (addr n : Nat) (b : Block) : Block := submit a (.bulk addr n) b

/-- BULK_WINDOW_READ (R21). -/
def execBulkWindowRead (a : Access) (addr n : Nat) (s : State) : Host.Outcome State Fault Refusal :=
  onHw (Instr.wf (.bulkWindowRead a addr n)) s (bulkWindowRead a addr n)

/-- A write of EGQ_q_CMD with OP MARK (R408). -/
def egqMark (a : Access) (q : Nat) (b : Block) : Block := submit a (.write (0xc0108 + 0x80 * q) [1]) b

/-- EGQ_MARK (R408). -/
def execEgqMark (a : Access) (q : Nat) (s : State) : Host.Outcome State Fault Refusal :=
  onHw (Instr.wf (.egqMark a q)) s (egqMark a q)

/-- A write of EGQ_q_CMD with OP REWIND (R408). -/
def egqRewind (a : Access) (q : Nat) (b : Block) : Block := submit a (.write (0xc0108 + 0x80 * q) [2]) b

/-- EGQ_REWIND (R408). -/
def execEgqRewind (a : Access) (q : Nat) (s : State) : Host.Outcome State Fault Refusal :=
  onHw (Instr.wf (.egqRewind a q)) s (egqRewind a q)

/-- A write of EGQ_q_CMD with OP RELEASE (R408). -/
def egqRelease (a : Access) (q : Nat) (b : Block) : Block := submit a (.write (0xc0108 + 0x80 * q) [3]) b

/-- EGQ_RELEASE (R409). -/
def execEgqRelease (a : Access) (q : Nat) (s : State) : Host.Outcome State Fault Refusal :=
  onHw (Instr.wf (.egqRelease a q)) s (egqRelease a q)

/-- A write of EGQ_q_CMD with OP MARK_RELEASE (R408). -/
def egqMarkRelease (a : Access) (q : Nat) (b : Block) : Block := submit a (.write (0xc0108 + 0x80 * q) [4]) b

/-- EGQ_MARK_RELEASE (R409). -/
def execEgqMarkRelease (a : Access) (q : Nat) (s : State) : Host.Outcome State Fault Refusal :=
  onHw (Instr.wf (.egqMarkRelease a q)) s (egqMarkRelease a q)

/-! ### Beaver (R431, R434, R435, R440) -/

/-- A write of BVR_s_CMD with OP START and its bank (R431). -/
def bvrStart (a : Access) (t slot k : Nat) (b : Block) : Block := submit a (.write (0x230100 + 0x40000 * t + 0x80 * slot) [1 + 0x100 * k]) b

/-- BVR_START (R431). -/
def execBvrStart (a : Access) (t slot k : Nat) (s : State) : Host.Outcome State Fault Refusal :=
  onHw (Instr.wf (.bvrStart a t slot k)) s (bvrStart a t slot k)

/-- A write of BVR_s_CMD with OP SWITCH (R431). -/
def bvrSwitch (a : Access) (t slot : Nat) (b : Block) : Block := submit a (.write (0x230100 + 0x40000 * t + 0x80 * slot) [2]) b

/-- BVR_SWITCH (R431). -/
def execBvrSwitch (a : Access) (t slot : Nat) (s : State) : Host.Outcome State Fault Refusal :=
  onHw (Instr.wf (.bvrSwitch a t slot)) s (bvrSwitch a t slot)

/-- A write of BVR_s_CMD with OP STOP (R431). -/
def bvrStop (a : Access) (t slot : Nat) (b : Block) : Block := submit a (.write (0x230100 + 0x40000 * t + 0x80 * slot) [3]) b

/-- BVR_STOP (R431). -/
def execBvrStop (a : Access) (t slot : Nat) (s : State) : Host.Outcome State Fault Refusal :=
  onHw (Instr.wf (.bvrStop a t slot)) s (bvrStop a t slot)

/-- A write of BVR_s_CMD with OP FORCE_SAFE (R431). -/
def bvrForceSafe (a : Access) (t slot : Nat) (b : Block) : Block := submit a (.write (0x230100 + 0x40000 * t + 0x80 * slot) [4]) b

/-- BVR_FORCE_SAFE (R431). -/
def execBvrForceSafe (a : Access) (t slot : Nat) (s : State) : Host.Outcome State Fault Refusal :=
  onHw (Instr.wf (.bvrForceSafe a t slot)) s (bvrForceSafe a t slot)

/-- A write of BVR_s_CMD with OP INJ_GO (R434). -/
def bvrInjGo (a : Access) (t slot : Nat) (b : Block) : Block := submit a (.write (0x230100 + 0x40000 * t + 0x80 * slot) [5]) b

/-- BVR_INJ_GO (R434). -/
def execBvrInjGo (a : Access) (t slot : Nat) (s : State) : Host.Outcome State Fault Refusal :=
  onHw (Instr.wf (.bvrInjGo a t slot)) s (bvrInjGo a t slot)

/-- A write of BVR_s_CMD with OP INJ_STOP (R434). -/
def bvrInjStop (a : Access) (t slot : Nat) (b : Block) : Block := submit a (.write (0x230100 + 0x40000 * t + 0x80 * slot) [6]) b

/-- BVR_INJ_STOP (R434). -/
def execBvrInjStop (a : Access) (t slot : Nat) (s : State) : Host.Outcome State Fault Refusal :=
  onHw (Instr.wf (.bvrInjStop a t slot)) s (bvrInjStop a t slot)

/-- A write of BVR_s_CMD with OP CAP_ARM (R435). -/
def bvrCapArm (a : Access) (t slot : Nat) (b : Block) : Block := submit a (.write (0x230100 + 0x40000 * t + 0x80 * slot) [7]) b

/-- BVR_CAP_ARM (R435). -/
def execBvrCapArm (a : Access) (t slot : Nat) (s : State) : Host.Outcome State Fault Refusal :=
  onHw (Instr.wf (.bvrCapArm a t slot)) s (bvrCapArm a t slot)

/-- A write of BVR_s_CMD with OP CAP_STOP (R435). -/
def bvrCapStop (a : Access) (t slot : Nat) (b : Block) : Block := submit a (.write (0x230100 + 0x40000 * t + 0x80 * slot) [8]) b

/-- BVR_CAP_STOP (R435). -/
def execBvrCapStop (a : Access) (t slot : Nat) (s : State) : Host.Outcome State Fault Refusal :=
  onHw (Instr.wf (.bvrCapStop a t slot)) s (bvrCapStop a t slot)

/-- A write of a word of a bank: its operations, then its coefficients (R440). -/
def bvrBankWrite (a : Access) (t slot k n : Nat) (w : Word) (b : Block) : Block := submit a (.write (0x231000 + 0x40000 * t + 0x1000 * slot + 0x800 * k + 4 * n) [w.toNat]) b

/-- BVR_BANK_WRITE (R440). -/
def execBvrBankWrite (a : Access) (t slot k n : Nat) (w : Word) (s : State) : Host.Outcome State Fault Refusal :=
  onHw (Instr.wf (.bvrBankWrite a t slot k n w)) s (bvrBankWrite a t slot k n w)

/-! ### Woodpecker (R262) -/

/-- A write of TDC_CAL_CMD with GO = 1. -/
def tdcCalGo (a : Access) (w : Word) (b : Block) : Block := submit a (.write 0x60010 [setBit w.toNat 31 true]) b

/-- TDC_CAL_GO (R262). -/
def execTdcCalGo (a : Access) (w : Word) (s : State) : Host.Outcome State Fault Refusal :=
  onHw (Instr.wf (.tdcCalGo a w)) s (tdcCalGo a w)

/-- A write of TDC_CAL_CMD with ABORT = 1. -/
def tdcCalAbort (a : Access) (w : Word) (b : Block) : Block := submit a (.write 0x60010 [setBit w.toNat 30 true]) b

/-- TDC_CAL_ABORT (R262). -/
def execTdcCalAbort (a : Access) (w : Word) (s : State) : Host.Outcome State Fault Refusal :=
  onHw (Instr.wf (.tdcCalAbort a w)) s (tdcCalAbort a w)

/-- A write of TDC_CAL_INFO with LOAD = 1 (R260). -/
def tdcTableLoad (a : Access) (w : Word) (b : Block) : Block := submit a (.write 0x61200 [setBit w.toNat 31 true]) b

/-- TDC_TABLE_LOAD (R260). -/
def execTdcTableLoad (a : Access) (w : Word) (s : State) : Host.Outcome State Fault Refusal :=
  onHw (Instr.wf (.tdcTableLoad a w)) s (tdcTableLoad a w)

/-! ### Precision channels (R170, R171, R197, R200, R202) -/

/-- A write of PCH_IN, PCH_EXC or PCH_DRV (R171). -/
def pchCfgWrite (a : Access) (n r : Nat) (w : Word) (b : Block) : Block := submit a (.write (0x220000 + 0x40000 * (n / 16) + 0x100 * (n % 16) + (if r = 0 then 0 else if r = 1 then 8 else 0x20)) [w.toNat]) b

/-- PCH_CFG_WRITE (R171). -/
def execPchCfgWrite (a : Access) (n r : Nat) (w : Word) (s : State) : Host.Outcome State Fault Refusal :=
  onHw (Instr.wf (.pchCfgWrite a n r w)) s (pchCfgWrite a n r w)

/-- A write of PCH_FAULT (R170). -/
def faultClearWrite (a : Access) (n : Nat) (w : Word) (b : Block) : Block := submit a (.write (0x220000 + 0x40000 * (n / 16) + 0x100 * (n % 16) + 0x18) [w.toNat]) b

/-- FAULT_CLEAR_WRITE (R170). -/
def execFaultClearWrite (a : Access) (n : Nat) (w : Word) (s : State) : Host.Outcome State Fault Refusal :=
  onHw (Instr.wf (.faultClearWrite a n w)) s (faultClearWrite a n w)

/-- A write of CNV_OD_REQ (R197). -/
def odRequest (a : Access) (w : Word) (b : Block) : Block := submit a (.write 0x130030 [w.toNat]) b

/-- OD_REQUEST (R197). -/
def execOdRequest (a : Access) (w : Word) (s : State) : Host.Outcome State Fault Refusal :=
  onHw (Instr.wf (.odRequest a w)) s (odRequest a w)

/-- A write of CNV_OD_s_CTRL (R198). -/
def odSlotFree (a : Access) (slot : Nat) (w : Word) (b : Block) : Block := submit a (.write (0x13010c + 0x10 * slot) [w.toNat]) b

/-- OD_SLOT_FREE (R197). -/
def execOdSlotFree (a : Access) (slot : Nat) (w : Word) (s : State) : Host.Outcome State Fault Refusal :=
  onHw (Instr.wf (.odSlotFree a slot w)) s (odSlotFree a slot w)

/-- A write of CNV_CAL_CMD with GO = 1 (R200). -/
def calGo (a : Access) (w : Word) (b : Block) : Block := submit a (.write 0x130010 [setBit w.toNat 31 true]) b

/-- CAL_GO (R200). -/
def execCalGo (a : Access) (w : Word) (s : State) : Host.Outcome State Fault Refusal :=
  onHw (Instr.wf (.calGo a w)) s (calGo a w)

/-- A write of CNV_CAL_CMD with ABORT = 1 (R200). -/
def calAbort (a : Access) (w : Word) (b : Block) : Block := submit a (.write 0x130010 [setBit w.toNat 30 true]) b

/-- CAL_ABORT (R201). -/
def execCalAbort (a : Access) (w : Word) (s : State) : Host.Outcome State Fault Refusal :=
  onHw (Instr.wf (.calAbort a w)) s (calAbort a w)

/-- A write of PCV_CAL_OFS_r (R202). -/
def calOfsWrite (a : Access) (n r : Nat) (w : Word) (b : Block) : Block := submit a (.write (0x220000 + 0x40000 * (n / 16) + 0x100 * (n % 16) + 0x90 + 8 * r) [w.toNat]) b

/-- CAL_OFS_WRITE (R202). -/
def execCalOfsWrite (a : Access) (n r : Nat) (w : Word) (s : State) : Host.Outcome State Fault Refusal :=
  onHw (Instr.wf (.calOfsWrite a n r w)) s (calOfsWrite a n r w)

/-- A write of PCV_CAL_GAIN_r (R202). -/
def calGainWrite (a : Access) (n r : Nat) (w : Word) (b : Block) : Block := submit a (.write (0x220000 + 0x40000 * (n / 16) + 0x100 * (n % 16) + 0x94 + 8 * r) [w.toNat]) b

/-- CAL_GAIN_WRITE (R202). -/
def execCalGainWrite (a : Access) (n r : Nat) (w : Word) (s : State) : Host.Outcome State Fault Refusal :=
  onHw (Instr.wf (.calGainWrite a n r w)) s (calGainWrite a n r w)

/-! ### The time island (R236, R242) -/

/-- A write of TIM_x_MSET_HI with GO = 1 (R242). -/
def masterSetGo (a : Access) (x : Nat) (w : Word) (b : Block) : Block := submit a (.write (0x50124 + 0x80 * x) [setBit w.toNat 31 true]) b

/-- MASTER_SET_GO (R242). -/
def execMasterSetGo (a : Access) (x : Nat) (w : Word) (s : State) : Host.Outcome State Fault Refusal :=
  onHw (Instr.wf (.masterSetGo a x w)) s (masterSetGo a x w)

/-- A write of TOUT_CTRL_i with ARM = 1 (R236). -/
def toutArm (a : Access) (o : Nat) (w : Word) (b : Block) : Block := submit a (.write (0x50300 + 0x20 * o) [setBit w.toNat 31 true]) b

/-- TOUT_ARM (R236). -/
def execToutArm (a : Access) (o : Nat) (w : Word) (s : State) : Host.Outcome State Fault Refusal :=
  onHw (Instr.wf (.toutArm a o w)) s (toutArm a o w)

/-- A write of TOUT_CTRL_i with ARM = 0 (R236). -/
def toutDisarm (a : Access) (o : Nat) (w : Word) (b : Block) : Block := submit a (.write (0x50300 + 0x20 * o) [setBit w.toNat 31 false]) b

/-- TOUT_DISARM (R236). -/
def execToutDisarm (a : Access) (o : Nat) (w : Word) (s : State) : Host.Outcome State Fault Refusal :=
  onHw (Instr.wf (.toutDisarm a o w)) s (toutDisarm a o w)

/-! ### Fabric and lanes (R446, R460, R484, R487, R491, R493) -/

/-- A write of FAB_PIN with GO = 1 (R446). -/
def pinGo (a : Access) (w : Word) (b : Block) : Block := submit a (.write 0xd0018 [setBit w.toNat 31 true]) b

/-- PIN_GO (R446). -/
def execPinGo (a : Access) (w : Word) (s : State) : Host.Outcome State Fault Refusal :=
  onHw (Instr.wf (.pinGo a w)) s (pinGo a w)

/-- A write of FAB_RT_d_FWD (R460). -/
def routePinWrite (a : Access) (d : Nat) (w : Word) (b : Block) : Block := submit a (.write (0xd8000 + 8 * d) [w.toNat]) b

/-- ROUTE_PIN_WRITE (R460). -/
def execRoutePinWrite (a : Access) (d : Nat) (w : Word) (s : State) : Host.Outcome State Fault Refusal :=
  onHw (Instr.wf (.routePinWrite a d w)) s (routePinWrite a d w)

/-- A write of LNK_p_CTRL with RETRY = 1 (R484), its kept fields as they stand. -/
def lnkRetry (a : Access) (p : Nat) (b : Block) : Block := submit a (.write (0xe0000 + 0x200 * p) [2 ^ 31 + b.lnkKept p]) b

/-- LNK_RETRY (R484). -/
def execLnkRetry (a : Access) (p : Nat) (s : State) : Host.Outcome State Fault Refusal :=
  onHw (Instr.wf (.lnkRetry a p)) s (lnkRetry a p)

/-- A write of LNK_p_CTRL with KNOCK = 1 (R493), its kept fields as they stand. -/
def lnkKnock (a : Access) (p : Nat) (b : Block) : Block := submit a (.write (0xe0000 + 0x200 * p) [2 ^ 30 + b.lnkKept p]) b

/-- LNK_KNOCK (R493). -/
def execLnkKnock (a : Access) (p : Nat) (s : State) : Host.Outcome State Fault Refusal :=
  onHw (Instr.wf (.lnkKnock a p)) s (lnkKnock a p)

/-- A write of LNK_p_CTRL with REJOIN = 1 (R487), its kept fields as they stand. -/
def lnkRejoin (a : Access) (p : Nat) (b : Block) : Block := submit a (.write (0xe0000 + 0x200 * p) [2 ^ 28 + b.lnkKept p]) b

/-- LNK_REJOIN (R487). -/
def execLnkRejoin (a : Access) (p : Nat) (s : State) : Host.Outcome State Fault Refusal :=
  onHw (Instr.wf (.lnkRejoin a p)) s (lnkRejoin a p)

/-- A write of LNK_p_CTRL with ADMIN_DOWN = 1 (R484). -/
def lnkAdminDown (a : Access) (p : Nat) (b : Block) : Block := submit a (.write (0xe0000 + 0x200 * p) [setBit (b.lnkKept p) 29 true]) b

/-- LNK_ADMIN_DOWN (R484). -/
def execLnkAdminDown (a : Access) (p : Nat) (s : State) : Host.Outcome State Fault Refusal :=
  onHw (Instr.wf (.lnkAdminDown a p)) s (lnkAdminDown a p)

/-- A write of LNK_p_CTRL with TEST PRBS31 (R491). -/
def lnkTestPrbs31 (a : Access) (p : Nat) (b : Block) : Block := submit a (.write (0xe0000 + 0x200 * p) [b.lnkKept p / 2 ^ 28 * 2 ^ 28 + 2 ^ 26]) b

/-- LNK_TEST_PRBS31 (R491). -/
def execLnkTestPrbs31 (a : Access) (p : Nat) (s : State) : Host.Outcome State Fault Refusal :=
  onHw (Instr.wf (.lnkTestPrbs31 a p)) s (lnkTestPrbs31 a p)

/-- A write of LNK_p_CTRL with TEST OFF (R491). -/
def lnkTestOff (a : Access) (p : Nat) (b : Block) : Block := submit a (.write (0xe0000 + 0x200 * p) [b.lnkKept p / 2 ^ 28 * 2 ^ 28]) b

/-- LNK_TEST_OFF (R484). -/
def execLnkTestOff (a : Access) (p : Nat) (s : State) : Host.Outcome State Fault Refusal :=
  onHw (Instr.wf (.lnkTestOff a p)) s (lnkTestOff a p)

/-! ### Power (R507 to R511) -/

/-- A write of PWR_d_VOTE with OP CAST (R507, R508). -/
def voteCast (a : Access) (d : Nat) (w : Word) (b : Block) : Block := submit a (.write (0x20104 + 0x10 * d) [w.toNat / 4 * 4 + 1]) b

/-- VOTE_CAST (R507). -/
def execVoteCast (a : Access) (d : Nat) (w : Word) (s : State) : Host.Outcome State Fault Refusal :=
  onHw (Instr.wf (.voteCast a d w)) s (voteCast a d w)

/-- A write of PWR_d_VOTE with OP WITHDRAW (R507, R508). -/
def voteWithdraw (a : Access) (d : Nat) (w : Word) (b : Block) : Block := submit a (.write (0x20104 + 0x10 * d) [w.toNat / 4 * 4 + 2]) b

/-- VOTE_WITHDRAW (R507). -/
def execVoteWithdraw (a : Access) (d : Nat) (w : Word) (s : State) : Host.Outcome State Fault Refusal :=
  onHw (Instr.wf (.voteWithdraw a d w)) s (voteWithdraw a d w)

/-- A write of PWR_d_CTRL with FORCE NONE (R510), WAKE_ON_ACCESS as it stands. -/
def forceNone (a : Access) (d : Nat) (b : Block) : Block := submit a (.write (0x20108 + 0x10 * d) [b.get (F.PWR_D_CTRL_WAKE_ON_ACCESS d) * 2 ^ 31 + 0 * 2 ^ 29]) b

/-- FORCE_NONE (R510). -/
def execForceNone (a : Access) (d : Nat) (s : State) : Host.Outcome State Fault Refusal :=
  onHw (Instr.wf (.forceNone a d)) s (forceNone a d)

/-- A write of PWR_d_CTRL with FORCE ON (R510), WAKE_ON_ACCESS as it stands. -/
def forceOn (a : Access) (d : Nat) (b : Block) : Block := submit a (.write (0x20108 + 0x10 * d) [b.get (F.PWR_D_CTRL_WAKE_ON_ACCESS d) * 2 ^ 31 + 1 * 2 ^ 29]) b

/-- FORCE_ON (R510). -/
def execForceOn (a : Access) (d : Nat) (s : State) : Host.Outcome State Fault Refusal :=
  onHw (Instr.wf (.forceOn a d)) s (forceOn a d)

/-- A write of PWR_d_CTRL with FORCE OFF (R510), WAKE_ON_ACCESS as it stands. -/
def forceOff (a : Access) (d : Nat) (b : Block) : Block := submit a (.write (0x20108 + 0x10 * d) [b.get (F.PWR_D_CTRL_WAKE_ON_ACCESS d) * 2 ^ 31 + 2 * 2 ^ 29]) b

/-- FORCE_OFF (R510). -/
def execForceOff (a : Access) (d : Nat) (s : State) : Host.Outcome State Fault Refusal :=
  onHw (Instr.wf (.forceOff a d)) s (forceOff a d)

/-- A write of PWR_LEVEL_FORCE (R511). -/
def levelForceWrite (a : Access) (w : Word) (b : Block) : Block := submit a (.write 0x20010 [w.toNat]) b

/-- LEVEL_FORCE_WRITE (R510). -/
def execLevelForceWrite (a : Access) (w : Word) (s : State) : Host.Outcome State Fault Refusal :=
  onHw (Instr.wf (.levelForceWrite a w)) s (levelForceWrite a w)

/-! ### Event records and thresholds (R531 to R533, R559) -/

/-- A write of IRQ_ACK (R532). -/
def irqAck (a : Access) (w : Word) (b : Block) : Block := submit a (.write 0x40004 [w.toNat]) b

/-- IRQ_ACK (R532). -/
def execIrqAck (a : Access) (w : Word) (s : State) : Host.Outcome State Fault Refusal :=
  onHw (Instr.wf (.irqAck a w)) s (irqAck a w)

/-- A write of IRQ_RAISE (R533). -/
def irqRaise (a : Access) (w : Word) (b : Block) : Block := submit a (.write 0x40008 [w.toNat]) b

/-- IRQ_RAISE (R541). -/
def execIrqRaise (a : Access) (w : Word) (s : State) : Host.Outcome State Fault Refusal :=
  onHw (Instr.wf (.irqRaise a w)) s (irqRaise a w)

/-- A write of IRQ_t_POP (R531). -/
def irqPop (a : Access) (t : Nat) (w : Word) (b : Block) : Block := submit a (.write (0x40108 + 0x40 * t) [w.toNat]) b

/-- IRQ_POP (R537). -/
def execIrqPop (a : Access) (t : Nat) (w : Word) (s : State) : Host.Outcome State Fault Refusal :=
  onHw (Instr.wf (.irqPop a t w)) s (irqPop a t w)

/-- A write of IRQ_SRC_s (R527). -/
def irqSrcWrite (a : Access) (src : Nat) (w : Word) (b : Block) : Block := submit a (.write (0x41000 + 4 * src) [w.toNat]) b

/-- IRQ_SRC_WRITE (R531). -/
def execIrqSrcWrite (a : Access) (src : Nat) (w : Word) (s : State) : Host.Outcome State Fault Refusal :=
  onHw (Instr.wf (.irqSrcWrite a src w)) s (irqSrcWrite a src w)

/-- A write of ECC_r_THR (R559). -/
def eccThrWrite (a : Access) (r : Nat) (w : Word) (b : Block) : Block := submit a (.write (0xf0108 + 0x10 * r) [w.toNat]) b

/-- ECC_THR_WRITE (R559). -/
def execEccThrWrite (a : Access) (r : Nat) (w : Word) (s : State) : Host.Outcome State Fault Refusal :=
  onHw (Instr.wf (.eccThrWrite a r w)) s (eccThrWrite a r w)

/-! ### The concentrator pair (R562, R566, R573) -/

/-- A write of PAIR_WDOG (R566). -/
def watchdogKick (a : Access) (b : Block) : Block := submit a (.write 0x10000c [1]) b

/-- WATCHDOG_KICK (R566). -/
def execWatchdogKick (a : Access) (s : State) : Host.Outcome State Fault Refusal :=
  onHw (Instr.wf (.watchdogKick a)) s (watchdogKick a)

/-- A write of PAIR_CMD with OP SWITCH (R566). -/
def pairSwitch (a : Access) (b : Block) : Block := submit a (.write 0x100004 [1]) b

/-- PAIR_SWITCH (R566). -/
def execPairSwitch (a : Access) (s : State) : Host.Outcome State Fault Refusal :=
  onHw (Instr.wf (.pairSwitch a)) s (pairSwitch a)

/-- A write of PAIR_CMD with OP REINSTATE (R562). -/
def pairReinstate (a : Access) (b : Block) : Block := submit a (.write 0x100004 [2]) b

/-- PAIR_REINSTATE (R562). -/
def execPairReinstate (a : Access) (s : State) : Host.Outcome State Fault Refusal :=
  onHw (Instr.wf (.pairReinstate a)) s (pairReinstate a)

/-- A write of PAIR_CMD with OP RETIRE (R562). -/
def pairRetire (a : Access) (b : Block) : Block := submit a (.write 0x100004 [3]) b

/-- PAIR_RETIRE (R562). -/
def execPairRetire (a : Access) (s : State) : Host.Outcome State Fault Refusal :=
  onHw (Instr.wf (.pairRetire a)) s (pairRetire a)

/-- A read of PAIR_SB_REG_DATA (R573). -/
def standbyRegRead (a : Access) (b : Block) : Block := submit a (.read 0x100034 1) b

/-- STANDBY_REG_READ (R573). -/
def execStandbyRegRead (a : Access) (s : State) : Host.Outcome State Fault Refusal :=
  onHw (Instr.wf (.standbyRegRead a)) s (standbyRegRead a)

/-- A read of a word of PAIR_SBW (R573). -/
def standbyWindowRead (a : Access) (k : Nat) (b : Block) : Block := submit a (.read (0x108000 + 4 * k) 1) b

/-- STANDBY_WINDOW_READ (R573). -/
def execStandbyWindowRead (a : Access) (k : Nat) (s : State) : Host.Outcome State Fault Refusal :=
  onHw (Instr.wf (.standbyWindowRead a k)) s (standbyWindowRead a k)

/-! ### Test perturbation (R585) -/

/-- A write of TST_ARM that arms STRETCH (R586). -/
def tstArmStretch (a : Access) (b : Block) : Block := submit a (.write 0x120004 [1]) b

/-- TST_ARM_STRETCH (R586). -/
def execTstArmStretch (a : Access) (s : State) : Host.Outcome State Fault Refusal :=
  onHw (Instr.wf (.tstArmStretch a)) s (tstArmStretch a)

/-- A write of TST_ARM that arms BACKPRESS (R586). -/
def tstArmBackpress (a : Access) (b : Block) : Block := submit a (.write 0x120004 [2 ^ 1]) b

/-- TST_ARM_BACKPRESS (R586). -/
def execTstArmBackpress (a : Access) (s : State) : Host.Outcome State Fault Refusal :=
  onHw (Instr.wf (.tstArmBackpress a)) s (tstArmBackpress a)

/-- A write of TST_ARM that arms LANE (R586). -/
def tstArmLane (a : Access) (b : Block) : Block := submit a (.write 0x120004 [2 ^ 2]) b

/-- TST_ARM_LANE (R587). -/
def execTstArmLane (a : Access) (s : State) : Host.Outcome State Fault Refusal :=
  onHw (Instr.wf (.tstArmLane a)) s (tstArmLane a)

/-- A write of TST_ARM that arms TIME (R586). -/
def tstArmTime (a : Access) (b : Block) : Block := submit a (.write 0x120004 [2 ^ 3]) b

/-- TST_ARM_TIME (R587). -/
def execTstArmTime (a : Access) (s : State) : Host.Outcome State Fault Refusal :=
  onHw (Instr.wf (.tstArmTime a)) s (tstArmTime a)

/-- A write of TST_ARM that arms MEMERR (R586). -/
def tstArmMemerr (a : Access) (b : Block) : Block := submit a (.write 0x120004 [2 ^ 4]) b

/-- TST_ARM_MEMERR (R586). -/
def execTstArmMemerr (a : Access) (s : State) : Host.Outcome State Fault Refusal :=
  onHw (Instr.wf (.tstArmMemerr a)) s (tstArmMemerr a)

/-- A write of TST_ARM that arms RESIDUE (R586). -/
def tstArmResidue (a : Access) (b : Block) : Block := submit a (.write 0x120004 [2 ^ 5]) b

/-- TST_ARM_RESIDUE (R586). -/
def execTstArmResidue (a : Access) (s : State) : Host.Outcome State Fault Refusal :=
  onHw (Instr.wf (.tstArmResidue a)) s (tstArmResidue a)

/-- A write of TST_ARM with DISARM_ALL = 1 (R585). -/
def tstDisarmAll (a : Access) (b : Block) : Block := submit a (.write 0x120004 [2 ^ 31]) b

/-- TST_DISARM_ALL (R585). -/
def execTstDisarmAll (a : Access) (s : State) : Host.Outcome State Fault Refusal :=
  onHw (Instr.wf (.tstDisarmAll a)) s (tstDisarmAll a)

end Sys2Proof.Machine
end

