-- ==== Sys2Proof/Machine/Configure.lean ====
section
/-! DEFINITION. Configure: the image's sections applied in order, AUTOSTART, the calibration that ends it, and Join (R80, R105 to R107, R142,
R215, R261, R437, R572). -/

namespace Sys2Proof.Machine

open Sys2Proof

/-! ### EXPERT (R105) -/

/-- One EXPERT entry: a write by the Owl. A restart that it commands ends Configure (R86). -/
def Block.applyExpert (b : Block) (e : List Nat) : Block :=
  if b.phase != .configure then b
  else
    let w := b.expertWord e
    let r := writeWord .owl (expertAddr e) w b
    if expertAddr e = 0x10010 && w == restartKey && r.2 == .ok then r.1.toOff causeRestart false else r.1

/-- The _LO write that the Owl still holds at the end of the section takes effect, its _HI register unchanged (R105). -/
def Block.flushHeld (b : Block) : Block :=
  match lookup b.access.held Requester.owl.code with
  | some h => (writeWord .owl (h.addr + 4) (b.expertWord (leBytes 8 (h.addr + 4) ++ leBytes 8 0)) b).1
  | none => b

/-- The EXPERT section. (DEDUCED, log entry 20.) -/
def Block.expertSection (b : Block) (l : List Section) : Block :=
  ((entriesOf 16 (sectionBytes l 0x13)).foldl Block.applyExpert b).flushHeld

/-! ### What follows the sections (R137, R142, R437) -/

/-- The groups of a tile with a channel not OFF are requested (R142). -/
def Block.requestGroups (b : Block) (t : Nat) : Block :=
  b.put (F.FT_GROUP_REQ t) (((List.range 15).filter fun g => (groupChans (15 * t + g)).any fun c => b.flag (F.FCH_CFG_MODE c)).map (2 ^ ·)).sum

/-- The slots with AUTOSTART set start on AUTO_BANK (R437). -/
def Block.autostart (b : Block) (l : List (Nat × Nat)) : Block :=
  l.foldl (fun c (x : Nat × Nat) =>
    if c.flag (F.BVR_S_CFG_AUTOSTART x.1 x.2) then (bvrStartOp x.1 x.2 (c.get (F.BVR_S_CFG_AUTO_BANK x.1 x.2)) c).1 else c) b

/-- The sections of an accepted image, in order (R106). (DEDUCED, log entry 20.) -/
def Block.applyImage (b : Block) (l : List Section) : Block :=
  let b1 := ((b.put F.SEC_EXPERT (u32 (sectionBytes l 0x12) 0)).applySteps (stepsBefore l)).expertSection l
  let b2 := b1.applySteps (stepsAfter l)
  let b3 := (List.range 64).foldl Block.takeSettings (([0, 1, 2, 3] : List Nat).foldl Block.requestGroups b2)
  (b3.autostart allSlots).setGrant

/-! ### The calibration at the end of Configure, and Join (R261) -/

/-- The INTERNAL calibration of all sources: a source with counts takes their table where they are uniform; the others fail. -/
def Block.configureCal (b : Block) (cal : List (Nat × List Nat)) : Block :=
  allSources.foldl (fun c s =>
    if !((c.tdc.cal.map fun x => x.todo.contains s).getD false) then c
    else match cal.find? fun e => e.1 == s with
    | some e => if uniform e.2 then (c.install s (tableOf e.2)).calFinish s true else c.calFinish s false
    | none => c.calFinish s false) (b.startCal false allSources)

/-- What the standby lacks of the settings is sent: every RW field of the resident blocks, and the release pointers (R572). -/
def Block.syncFields (b : Block) : List (Nat × Nat) :=
  b.regs.filter fun e => syncKey e.1

/-- Mirror sync starts: to a standby in SYNC, once Configure has applied the image (R572). -/
def Block.startSync (b : Block) : Block :=
  if b.get F.PAIR_STAT_SB_STATE = 2 && b.mirrorUp && (b.phase == .join || b.phase == .live) then b.mirror (.sync b.syncFields) else b

/-- The domains of which the image makes the module master are established (R215, R226). -/
def Block.establishMasters (b : Block) : Block :=
  let b1 := if b.time.p.master then b.establishMaster 0 else b
  if b1.time.s.master then b1.establishMaster 1 else b1

/-- Join begins (R80). -/
def Block.enterJoin (b : Block) : Block :=
  { b.establishMasters.reselect with phase := .join }.tryUpAll.startSync.settlePower

/-- CONFIGURE_DONE (R106): the conflicts first, then SAFE_START, then the sections, the calibration and Join. (DEDUCED, log entry 7.) -/
def configureDone (cal : List (Nat × List Nat)) (b : Block) : Block :=
  whenDue (b.phase == .configure) (fun b =>
    let l := b.imageSecs
    match imageConflict l with
    | some e => b.toSafe e l
    | none =>
      if bitAt (u8 (b.boot.image.getD []) 0x15) 0 then b.toSafe ⟨0x0C, 0, noEntry⟩ l
      else
        let b1 := b.applyImage l
        if b1.phase == .configure then (b1.configureCal cal).enterJoin else b1) b

/-- CONFIGURE_DONE (R106). -/
def execConfigureDone (cal : List (Nat × List Nat)) (s : State) : Host.Outcome State Fault Refusal :=
  onHw (Instr.wf (.configureDone cal)) s (configureDone cal)

end Sys2Proof.Machine
end

