-- ==== Sys2Proof/Machine/Epoch.lean ====
section
/-! DEFINITION. The epoch boundary of the stamping time, and the completion of reseat (R29, R31, R46, R57, R77, R137, R228, R313, R314, R341,
R413, R513, R572). -/

namespace Sys2Proof.Machine

open Sys2Proof

/-! ### Snapshots (R76 to R78) -/

/-- The offsets that a row's dimensions give. -/
def dimOffsets : List (Nat × Nat) → List Nat
  | [] => [0]
  | (n, w) :: l => (List.range n).flatMap fun i => (dimOffsets l).map (i * w + ·)

/-- The counters of the selected blocks with their copies: counter, copy (R77, R141, R175). -/
def Block.snapPairs (b : Block) : List (Nat × Nat) :=
  let tiles := b.get F.SYS_SNAP_TILE_MASK
  let blocks := b.get F.SYS_SNAP_BLOCK_MASK
  let sel (a : Nat) : Bool := match tileOf a with
    | some t => bitAt tiles t
    | none => bitAt blocks (a / 0x10000)
  (snapRows.filter fun r => r.1 < 0x200000 && sel r.1 || decide (0x200000 ≤ r.1) && tiles != 0).flatMap fun r =>
    ((dimOffsets r.2.2).map fun o => (r.1 + o, r.2.1 + o)).filter fun x => sel x.1

/-- The domain of an address is on. -/
def Block.addrOn (b : Block) (a : Nat) : Bool :=
  match domainAt a with
  | some d => b.domainOn d
  | none => true

/-- A word stored in the fields of a register. -/
def Block.putWord (b : Block) (addr w : Nat) : Block :=
  match regRow addr with
  | some r => r.bits.foldl (fun c x => c.put (bitField addr x) (x.ofWord w)) b
  | none => b

/-- The snapshot that is PENDING, taken at the boundary that begins an epoch (R77). (DEDUCED, log entry 67.) -/
def Block.takeSnapshot (b : Block) (e : Nat) : Block :=
  if !b.flag F.SYS_SNAP_STAT_PENDING then b
  else
    let l := b.snapPairs
    let off := l.any fun x => !b.addrOn x.1
    let b1 := l.foldl (fun c x => if b.addrOn x.1 then c.putWord x.2 (b.regWord x.1) else c) b
    let b2 := (((b1.put F.SYS_SNAP_ARM 0).put F.SYS_SNAP_STAT_PENDING 0).put F.SYS_SNAP_STAT_DONE 1).putB F.SYS_SNAP_STAT_OFF off
    (b2.put F.SYS_SNAP_STAT_EPOCH (e % 4096)).put F.SYS_SNAP_STAT_WRAP (e / 4096)

/-! ### The groups in force (R137) -/

/-- FT_GROUP_ACT takes the groups requested and granted: a group that leaves stops its stream, one that comes settles (R124, R308). -/
def Block.groupsBoundary (b : Block) : Block :=
  let b0 := b.setGrant
  let old := b0.groupMask
  let new := Nat.land b0.groupReq b0.grantMask
  let b1 := ([0, 1, 2, 3] : List Nat).foldl (fun c t => c.put (F.FT_GROUP_ACT t) (new / 2 ^ (15 * t))) b0
  let gone := (List.range 60).filter fun g => bitAt old g && !bitAt new g
  let come := (List.range 60).filter fun g => !bitAt old g && bitAt new g
  let b2 := (gone.flatMap groupChans).foldl Block.dropDisc (if gone.isEmpty then b1 else b1.link (.stop gone))
  come.foldl (fun c g => if c.tileOn (g / 15) then c.enableGroup g else c) b2

/-! ### The log of an epoch (R31, R46 to R48) -/

/-- The effort cap that Squirrel has chosen: one less for each step of rung 1 (R382, R514). -/
def Block.effortChoice (b : Block) : Block :=
  let n := (b.pwr.steps.filter fun s => s.rung == 1).length
  b.put F.BDG_CHOICE_EFFORT_CAP (max (b.get F.LPS_EFFORT_FLOOR) (min 9 (b.get F.LPS_EFFORT_CAP) - n))

/-- The epoch in progress ends; the perturbations that were active in it stay with it (R588). (DEDUCED, log entry 16.) -/
def Block.closeEpoch (b : Block) : Block :=
  b.withEvb fun v => { v with epochs := v.epochs.map fun x =>
    if x.ended.isNone then { x with ended := some b.tick, perturbed := b.tst.epochMask } else x }

/-- The epoch that begins is logged with the settings and choices in force (R31, R48). (DEDUCED, log entry 16.) -/
def Block.newEpoch (b : Block) (k : Nat) (note : Option SwitchNote) : Block :=
  let cfg := b.liveCfg
  let old := match b.evb.epochs.getLast? with
    | some e => e.cfg
    | none => ⟨[], 0, 0⟩
  let counts := b.phase == .live && !b.reseat
  let e : EpochSt :=
    { key := k, cfg := cfg, raw := b.stampRaw, dom := b.stampDom, quality := b.stampQuality, resid := b.time.resid, note := note
      ended := none, counts := counts, seq := 0, exhausted := 0, term := none, mirrored := false, waited := 0, perturbed := b.tst.epochMask
      load := b.ringLoad, queues := b.queueMask, aligns := b.alignMask, merges := if counts then b.evb.lateNext else [] }
  (b.bumpBy F.TRG_BADCFG_CNT (badUnits old cfg).length).withEvb fun v =>
    { v with epochs := v.epochs ++ [e], lateNext := if counts then [] else v.lateNext }

/-- What the active concentrator does at the boundary that begins epoch `k`. -/
def Block.coreBoundary (b : Block) (k : Nat) (note : Option SwitchNote) : Block :=
  let b1 := (b.queuesBoundary.effortChoice.newEpoch k note).streamsBoundary k
  (b1.resolveEpochs.dropIdle.heartbeat).fabricEpoch

/-! ### The standby at a boundary (R562, R572) -/

/-- The past epochs that a ring holds whole, newest first (R316, R318, R572). -/
def RingSt.heldKeys (r : RingSt) : List Nat :=
  (r.past.reverse.foldl (fun (a : List Nat × Nat) e =>
    if a.2 + e.2 ≤ safeBlocks then (a.1 ++ [e.1], a.2 + e.2) else (a.1, safeBlocks + 1)) ([], r.count)).1

/-- The standby's ring holds every item of an epoch (R572): one that it received from its start, and has not overwritten. -/
def Block.sbHolds (b : Block) (k : Nat) : Bool :=
  match b.pair.sbFirst with
  | some f => keyLe f k && (((b.pair.sbRing.cur.map fun c => keyLe c k).getD true) || b.pair.sbRing.heldKeys.contains k)
  | none => false

/-- How far back in the log the `c` newest epochs lie that a queue received. -/
def reach (q : Nat) : Nat → List EpochSum → Nat
  | 0, _ => 0
  | _, [] => 0
  | c + 1, x :: l => 1 + reach q (if bitAt x.queues q then c else c + 1) l

/-- COMMIT records of a queue that are not released. -/
def Block.unreleasedCommits (b : Block) (q : Nat) : Nat :=
  if b.flag (F.EGQ_CFG_ACTIVE q) then ((b.queue q).ends.filter (·.2)).length else 0

/-- The committed epochs after the earliest release point of the enabled queues, newest first (R568, R572). -/
def Block.unreleasedEpochs (b : Block) : List EpochSum :=
  b.evb.history.take ((allQueues.map fun q => reach q (b.unreleasedCommits q) b.evb.history).foldl max 0)

/-- For every epoch after the earliest release point, the earliest epoch whose raw data its build needs (R320, R572). (DEDUCED, log entry 61.) -/
def Block.neededKeys (b : Block) : List Nat :=
  b.unreleasedEpochs.map (·.first)
    ++ (b.evb.epochs.filter fun e => e.counts && e.ended.isSome).map fun e => b.firstNeeded e.key (b.fragsOf e.key)

/-- The epochs that the member lacks (R572). -/
def Block.epochsLeft (b : Block) : Nat := (b.neededKeys.filter fun k => !b.sbHolds k).length

/-- A member in SYNC has all that R572 asks for. (DEDUCED, log entry 61.) -/
def Block.synced (b : Block) : Bool :=
  b.mirrorUp && (b.phase == .join || b.phase == .live) && b.epochsLeft == 0
    && !b.pair.queue.any fun m => match m.kind with
      | .sync _ => true
      | _ => false

/-- The standby's states at an epoch boundary (R562, R572). (DEDUCED, log entry 61.) -/
def Block.pairBoundary (b : Block) : Block :=
  let hot := b.get F.BDG_CHOICE_STANDBY == 0
  let b0 := if b.sbStores && b.pair.sbFirst.isNone then { b with pair := { b.pair with sbFirst := some b.epochNow } } else b
  match b0.get F.PAIR_STAT_SB_STATE with
  | 2 =>
    let b1 := b0.put F.PAIR_SYNC (satU 16 b0.epochsLeft)
    if b1.synced then ((b1.put F.PAIR_STAT_SB_STATE (if hot then 4 else 3)).showStandby).raise 210 (1 - b.active) else b1
  | 3 => { b0 with pair := { b0.pair with catching := hot } }
  | 4 => if hot then b0 else { b0.put F.PAIR_STAT_SB_STATE 3 with pair := { b0.pair with catching := false, held := [] } }
  | _ => b0

/-! ### EPOCH_BOUNDARY -/

/-- A new epoch of the stamping time is due: it differs from the epoch last acted on (R29). -/
def Block.boundaryDue (b : Block) : Bool := b.phase.railsOn && b.time.established && b.time.epochSeen != some b.epochNow

/-- The time island at the boundary: both domains' own boundaries at this tick, the stamping domain (R223, R228). -/
def Block.timeBoundary (b : Block) : Block × Option SwitchNote :=
  let b1 := (b.domainBoundary 0).domainBoundary 1
  let r := b1.stampBoundary
  (b1.retimed r.1, r.2)

/-- The boundary counted, its anchor written, the streams told (R29, R308, R313, R314). (DEDUCED, log entry 16.) -/
def Block.enterEpoch (b : Block) : Block :=
  let k := b.epochNow
  let b1 := { b with epochs := b.epochs + 1, time := { b.time with epochSeen := some k, anchors := 0 } }
  b1.anchor

/-- EPOCH_BOUNDARY (R29): every block acts on the boundary at its tick. (DEDUCED, log entry 16.) -/
def epochBoundary (b : Block) : Block :=
  whenDue b.boundaryDue (fun b =>
    let r := b.timeBoundary
    let b1 := r.1.enterEpoch
    let k := b1.epochNow
    let b2 := if b1.ccOn then b1.takeSnapshot k else b1
    let b3 := (b2.closeEpoch.groupsBoundary.link (.boundary k)).dutyBoundary
    let b4 := (if r.2.isSome then (List.range 64).foldl Block.closePage b3 else b3).tstBoundary
    let b5 := if b4.ccOn then b4.coreBoundary k r.2 else b4
    b5.squirrel.pairBoundary.settlePower.flushMirror) b

/-- EPOCH_BOUNDARY (R29). -/
def execEpochBoundary (s : State) : Host.Outcome State Fault Refusal :=
  onHw (Instr.wf .epochBoundary) s epochBoundary

/-! ### RESEAT_COMPLETE (R46, R57, R413) -/

/-- Reseat may complete: the generation matches, the stamping time has quality 1 or better, the node ID is final (R57, R70, R80). (DEDUCED, log entry 17.) -/
def Block.reseatReady (b : Block) : Bool :=
  (b.phase == .join || (b.phase == .live && b.reseat)) && b.ccOn && !b.flag F.FAB_STAT_QUAR && b.time.established
    && decide (b.stampQuality ≤ 1) && b.flag F.IDN_NODE_NODE_VALID

/-- Epochs up to the one in progress do not commit, and their fragments go (R46); the stale egress content is discarded (R413). -/
def Block.discardStale (b : Block) : Block :=
  b.clearQueues.withEvb fun v =>
    { v with
      epochs := v.epochs.map fun e => { e with counts := false }
      frags := v.frags.filter fun f => f.st == .committed
      lateNext := []
      caps := []
      history := [] }

/-- Live entry: correction windows start, the module named MASTER acts unless it has heard of a higher term (R297, R559). (DEDUCED, log entry 17.) -/
def Block.enterLive (b : Block) : Block :=
  let b1 := { b with phase := .live }.startWindows
  let acts := b1.flag F.TRG_STAT_ROLE_MASTER && !b1.flag F.TRG_STAT_TERM
  if acts then (b1.put F.TRG_STAT_ACTING 1).put F.TRG_STAT_MASTER_NODE b1.node else b1

/-- RESEAT_COMPLETE (R57): the module enters Live, or resumes opening fragments. (DEDUCED, log entry 17.) -/
def reseatComplete (b : Block) : Block :=
  whenDue b.reseatReady (fun b =>
    let b1 := { b.discardStale with reseat := false, master := { b.master with beat := b.tick } }
    (if b1.phase == .join then b1.enterLive else b1).settlePower) b

/-- RESEAT_COMPLETE (R57). -/
def execReseatComplete (s : State) : Host.Outcome State Fault Refusal :=
  onHw (Instr.wf .reseatComplete) s reseatComplete

end Sys2Proof.Machine
end

