-- ==== Sys2Proof/Machine/Takeover.lean ====
section
/-! DEFINITION. The switch-over of the concentrator pair: what the new active adopts, the records of the front slots, the end of the gap
(R60 to R63, R299, R320, R353, R380, R411, R488, R539, R564, R568 to R570, R585). -/

namespace Sys2Proof.Machine

open Sys2Proof

/-! ### Epochs that cannot be rebuilt (R63, R320, R363) -/

/-- A run of lost epochs: first and last, the queues affected, how many. -/
structure LossRun where
  first : Nat
  last : Nat
  queues : Nat
  count : Nat
deriving DecidableEq, Repr

/-- The queues in which an epoch is published and not released. -/
def Block.holders (b : Block) (k : Nat) : List Nat :=
  allQueues.filter fun q => (b.evb.history.take (reach q (b.unreleasedCommits q) b.evb.history)).any fun x => x.key == k && bitAt x.queues q

/-- The epochs that a warm takeover cannot rebuild, oldest first: the standby's ring does not hold their windows intact (R63, R320). -/
def Block.lostEpochs (b : Block) : List Nat :=
  ((b.unreleasedEpochs.filter fun x => !b.sbHolds x.first).map (·.key)).reverse

/-- Lost epochs as runs of epochs that were committed one after another. -/
def Block.lossRuns (b : Block) (lost : List Nat) : List LossRun :=
  (b.unreleasedEpochs.reverse.foldl (fun (a : List LossRun × Bool) x =>
    if lost.contains x.key then
      let m := ((b.holders x.key).map (2 ^ ·)).sum
      match a.1, a.2 with
      | r :: l, true => (⟨r.first, x.key, Nat.lor r.queues m, r.count + 1⟩ :: l, true)
      | l, _ => (⟨x.key, x.key, m, 1⟩ :: l, true)
    else (a.1, false)) ([], false)).1.reverse

/-- The LOSS record of a run (R363). -/
def LossRun.words (r : LossRun) (dom : Nat) : List Nat :=
  recordOf 0x0F false dom false [toEpochField r.first, toEpochField r.last, r.queues, r.count]

/-! ### The queues of the new active (R61, R363, R411) -/

/-- The unreleased records of a queue cut after each COMMIT: the offset at which each epoch's bytes begin, the ends of its records. -/
def cutEnds (start : Nat) (acc : List (Nat × Bool)) : List (Nat × Bool) → List (Nat × List (Nat × Bool))
  | [] => []
  | e :: l => if e.2 then (start, acc ++ [e]) :: cutEnds e.1 [] l else cutEnds start (acc ++ [e]) l

/-- The unreleased epochs of a queue, oldest first. -/
def Block.queueKeys (b : Block) (q : Nat) : List Nat :=
  (((b.evb.history.take (reach q (b.unreleasedCommits q) b.evb.history)).filter fun x => bitAt x.queues q).map (·.key)).reverse

/-- A queue without the epochs that are lost: what stays moves down to the released offset (R411). -/
def Block.dropLost (b : Block) (lost : List Nat) (q : Nat) : Block :=
  if (b.queueKeys q).all fun k => !lost.contains k then b
  else
    let keep := ((b.queueKeys q).zip (cutEnds (b.qRel q) [] (b.queue q).ends)).filter fun x => !lost.contains x.1
    let r := keep.foldl (fun (a : Block × Nat × List (Nat × Bool)) x =>
      let start := x.2.1
      let stop := ((x.2.2.getLast?).map (·.1)).getD start
      (a.1.qStore q a.2.1 (b.qLoad q start (stop - start)), a.2.1 + (stop - start),
        a.2.2 ++ x.2.2.map fun e => (a.2.1 + (e.1 - start), e.2))) (b, b.qRel q, [])
    ((r.1.put64 (F.EGQ_WR_LO q) (F.EGQ_WR_HI q) r.2.1).put64 (F.EGQ_PUB_LO q) (F.EGQ_PUB_HI q) r.2.1).setQueue q
      { r.1.queue q with ends := r.2.2 }

/-- The first epoch that a queue presents after a takeover: its oldest unreleased one that is not lost, else the next to commit (R363). -/
def Block.firstPresented (b : Block) (lost : List Nat) (q : Nat) : Nat :=
  match (b.queueKeys q).find? fun k => !lost.contains k with
  | some k => k
  | none => ((b.evb.epochs.find? (·.counts)).map (·.key)).getD b.epochNow

/-- The TAKEOVER record of a queue (R363). -/
def Block.takeoverRecord (b : Block) (new first q : Nat) : List Nat :=
  recordOf 0x0E false b.stampDom false
    [new + 2 * b2n b.pair.warm + 4 * q, b.pair.stamp.ns, b.pair.stamp.w1 / 2 ^ 18 * 2 ^ 18 + (2 ^ 18 - 1), toEpochField first]

/-- Every queue that presents records, enabled or not yet fully released, resets RD and MARK and fills its front slot (R50, R411, R568). -/
def Block.fillFronts (b : Block) (new : Nat) (lost : List Nat) (runs : List LossRun) : Block :=
  (allQueues.filter fun q => b.flag (F.EGQ_CFG_ACTIVE q) || b.qHolds q).foldl (fun c q =>
    (c.dropLost lost q).fillFront q (b.takeoverRecord new (b.firstPresented lost q) q) (runs.map fun r => r.words b.stampDom)) b

/-! ### What the new active adopts (R564, R568) -/

/-- A field that the new active takes from its own registers, or that reads its reset value after a takeover: those of the decompressor,
the check-value units (R380) and the perturbations (R585). -/
def adoptedKey (k : Nat) : Bool :=
  let a := k / 32
  ownKey k || (decide (0xa0100 ≤ a) && decide (a < 0xa0128)) || (decide (0xb0100 ≤ a) && decide (a < 0xb0300)) || a / 0x10000 == 0x12

/-- A field that no takeover carries over (R380, R585). -/
def clearedKey (k : Nat) : Bool :=
  let a := k / 32
  (decide (0xa0100 ≤ a) && decide (a < 0xa0128)) || (decide (0xb0100 ≤ a) && decide (a < 0xb0300)) || a / 0x10000 == 0x12

/-- An address of control space or DRAM that a concentrator holds. -/
def ccAddr (a : Nat) : Bool := resident a || decide (0x0100000000 ≤ a)

/-- Egress queue storage (R20). -/
def egressAddr (a : Nat) : Bool := decide (0x0580000000 ≤ a) && decide (a < 0x0680000000)

/-- DRAM of the new active: its own, with the queue storage that it has built (R62). -/
def Block.adoptDram (b : Block) : Table Byte :=
  (b.pair.sbDram.filter fun e => decide (e.1 < 0x0580000000)) ++ (b.dram.filter fun e => egressAddr e.1)
    ++ b.pair.sbDram.filter fun e => decide (0x0680000000 ≤ e.1)

/-- The last mirrored state adopted: configuration, commit log, release pointers, its own ring and buffers (R568 step 2). Nothing of the
former active's own work stays: shadows, tags, jobs, upsets, held sources (R75, R380, R539, R564, R579). (DEDUCED, log entry 62.) -/
def Block.adopt (b : Block) : Block :=
  { b with
    regs := overlay (b.regs.filter fun e => !adoptedKey e.1) (b.pair.sbRegs.filter fun e => ownKey e.1 && !clearedKey e.1)
    dram := b.adoptDram
    poison := (b.poison.filter fun e => !ccAddr (e.1 * 8)) ++ b.pair.sbPoison.filter fun e => !egressAddr (e.1 * 8)
    ring := b.pair.sbRing
    chk := ⟨[], none⟩
    tst := TstSt.reset
    ecc := { b.ecc with
      upsets := b.ecc.upsets.filter fun e => !ccAddr (e.1 * 8)
      flips := b.ecc.flips.filter fun e => !ccAddr (e.1 * 8)
      windows := [] }
    access := ⟨[], [], [], []⟩
    posted := b.posted.filter fun m =>
      match m.msg with
      | .answer _ _ => false
      | .bulk _ _ => false
      | _ => true }

/-- A decision that was not mirrored has had no effect: its fragments are as they were before it (R564). (DEDUCED, log entry 62.) -/
def Block.undoDecisions (b : Block) : Block :=
  b.pair.queue.reverse.foldl (fun c m =>
    match m.kind with
    | .decision _ l => l.foldl Block.setFrag c
    | _ => c) b

/-- The log without entries that were not mirrored (R44, R564): those epochs resolve again. (DEDUCED, log entry 62.) -/
def Block.undoEntries (b : Block) : Block :=
  let open_ := b.pair.queue.filterMap fun m =>
    match m.kind with
    | .entry k => some k
    | _ => none
  b.withEvb fun v => { v with epochs := v.epochs.map fun e => if open_.contains e.key then { e with term := none, mirrored := false } else e }

/-- What a WARM standby has not built: extracted windows, merge slots, merges not committed (R299, R353). -/
def Block.undoBuilds (b : Block) : Block :=
  let gone := (b.evb.epochs.flatMap (·.merges) ++ b.evb.lateNext).map fun d => d.slot.eventNo
  let b1 := b.withEvb fun v =>
    { v with
      frags := v.frags.map fun f => if f.st == .committed then f else { f with content := none, records := none }
      epochs := v.epochs.map fun e => { e with merges := [] }
      slots := []
      seen := v.seen.filter (·.done)
      merged := v.merged.filter fun x => !gone.contains x.1
      lateNext := [] }
  { b1.put F.PAIR_STAT_REBUILD 1 with lynx := { b1.lynx with instants := [], slow := [] } }

/-- The master's work that is not mirrored, and the role that is not resumed (R564, R569). -/
def Block.leaveMaster (b : Block) : Block :=
  { b.put F.TRG_STAT_ACTING 0 with master := { b.master with prims := [], out := [], announced := [], sealed := none } }

/-- The pair once the selector has switched: the former active is FAILED and out of the mirror (R562, R567). -/
def Block.leavePair (b : Block) (new : Nat) : Block :=
  let b1 := ((b.put F.IDN_ACTIVE new).bump F.PAIR_TKO_CNT).standbyDown 5
  { b1 with pair := { b1.pair with
    sbRegs := [], sbDram := [], sbPoison := [], sbRing := RingSt.reset, queue := [], yielded := none, residue := [], sbShadows := []
    held := b.pair.held } }

/-- The ports at the switch of the selector (R488, R570): a fabric port sends TAKEOVER and enters EXCHANGE, a host-mode port re-enters it. -/
def Block.switchPorts (b : Block) (new : Nat) : Block :=
  b.activePorts.foldl (fun c p => (if c.hostPort p then c else c.emit (.ordered p 3 new)).toExchange p) b

/-- A snapshot that waits is cancelled (R78). -/
def Block.cancelSnap (b : Block) : Block :=
  if b.flag F.SYS_SNAP_STAT_PENDING then
    ((b.put F.SYS_SNAP_STAT_PENDING 0).put F.SYS_SNAP_ARM 0).put F.SYS_SNAP_STAT_CANCELLED 1
  else b

/-- The event-record controller of the new active starts (R539, R568): IRQ_RESTART, PAIR_TAKEOVER, then a LOSS source for each run. -/
def Block.startController (b : Block) (new : Nat) (runs : List LossRun) : Block :=
  runs.foldl (fun c r => c.raise 162 r.count) ((b.startIrq 1).raise 208 (new + 2 * b2n b.pair.warm))

/-- TAKEOVER (R568 steps 1 to 4): YIELD has been asserted. (DEDUCED, log entry 62.) -/
def takeover (b : Block) : Block :=
  whenDue b.pair.yielded.isSome (fun b =>
    let new := 1 - b.active
    let lost := if b.pair.warm then b.lostEpochs else []
    let runs := b.lossRuns lost
    let b1 := (b.undoDecisions.undoEntries.fillFronts new lost runs).switchPorts new
    let b2 := if b.phase == .live then (b1.adopt.leavePair new).startWindows else b1.adopt.leavePair new
    let b3 := ((b2.cancelSnap.abortCal).leaveMaster).startController new runs
    (if b3.pair.warm then b3.undoBuilds else b3).chooseLevel.settlePower) b

/-- TAKEOVER (R568). -/
def execTakeover (s : State) : Host.Outcome State Fault Refusal :=
  onHw (Instr.wf .takeover) s takeover

/-- WARM_REBUILD_DONE (R568 step 4, R299): the last committed epoch is rebuilt; Lynx starts with every unit re-armed and every group window
empty. -/
def warmRebuildDone (b : Block) : Block :=
  whenDue (b.pair.gap.isSome && b.pair.yielded.isNone && b.flag F.PAIR_STAT_REBUILD) (fun b =>
    let b1 := b.put F.PAIR_STAT_REBUILD 0
    { b1 with lynx := { b1.lynx.restart with instants := [], slow := [] } }.chooseLevel) b

/-- WARM_REBUILD_DONE (R571). -/
def execWarmRebuildDone (s : State) : Host.Outcome State Fault Refusal :=
  onHw (Instr.wf .warmRebuildDone) s warmRebuildDone

/-- TAKEOVER_GAP_END (R568 step 5): the decisions that a HOT standby received directly are applied, requests are served again, commits go
on; the watchdog counts from here. (DEDUCED, log entry 7.) -/
def takeoverGapEnd (b : Block) : Block :=
  whenDue (b.pair.gap.isSome && b.pair.yielded.isNone && !b.flag F.PAIR_STAT_REBUILD) (fun b =>
    let held := b.pair.held
    let b1 := b.put F.PAIR_GAP (satU 32 (b.tick - b.pair.gap.getD b.tick))
    let b2 := { b1 with pair := { b1.pair with gap := none, warm := false, held := [], wdogTick := b.tick } }
    (((held.foldl Block.applyDecision b2).resolveEpochs).runWaiting).flushMirror.settlePower) b

/-- TAKEOVER_GAP_END (R568). -/
def execTakeoverGapEnd (s : State) : Host.Outcome State Fault Refusal :=
  onHw (Instr.wf .takeoverGapEnd) s takeoverGapEnd

end Sys2Proof.Machine
end

