-- ==== Sys2Proof/Machine/Pair.lean ====
section
/-! DEFINITION. The mirror link's events, the standby's states, and the causes of self-diagnosis (R562 to R567, R572). -/

namespace Sys2Proof.Machine

open Sys2Proof

/-! ### The mirror link (R564) -/

/-- MIRROR_ACK (R564): the standby acknowledges the oldest item; what waited for it happens. -/
def mirrorAck (b : Block) : Block :=
  match b.pair.queue with
  | [] => b
  | x :: l =>
    whenDue (b.mirrorUp && b.pair.gap.isNone) (fun b =>
      ((({ b with pair := { b.pair with queue := l } }).mirrorDone x.kind).runWaiting).flushMirror) b

/-- MIRROR_ACK (R564). -/
def execMirrorAck (s : State) : Host.Outcome State Fault Refusal :=
  onHw (Instr.wf .mirrorAck) s mirrorAck

/-- The oldest item has gone unacknowledged for 1 024 ticks (R564). -/
def Block.mirrorLate (b : Block) : Bool :=
  match b.pair.queue with
  | x :: _ => decide (x.tick + 1024 ≤ b.tick)
  | [] => false

/-- MIRROR_LOST (R562, R564): the link drops, or an item stays unacknowledged; the standby is back in SYNC, what waited acts at once. -/
def mirrorLost (drop : Bool) (b : Block) : Block :=
  whenDue (b.mirrorUp && b.pair.gap.isNone && (drop || b.mirrorLate)) (fun b =>
    let b1 := (b.bump F.PAIR_MIRROR_ERR_CNT).put F.PAIR_STAT_MIRROR_UP 0
    let b2 := if b1.sbEligible then b1.put F.PAIR_STAT_SB_STATE 2 else b1
    ({ b2 with pair := { b2.pair with held := [], catching := false } }).showStandby.flushMirror) b

/-- MIRROR_LOST (R564). -/
def execMirrorLost (drop : Bool) (s : State) : Host.Outcome State Fault Refusal :=
  onHw (Instr.wf (.mirrorLost drop)) s (mirrorLost drop)

/-- MIRROR_LINK_RESTORED (R564, R572): the link to a standby in SYNC acknowledges again, and mirror sync starts anew. -/
def mirrorLinkRestored (b : Block) : Block :=
  whenDue (!b.mirrorUp && b.get F.PAIR_STAT_SB_STATE == 2 && b.pair.gap.isNone) (fun b => (b.put F.PAIR_STAT_MIRROR_UP 1).startSync) b

/-- MIRROR_LINK_RESTORED (R572). -/
def execMirrorLinkRestored (s : State) : Host.Outcome State Fault Refusal :=
  onHw (Instr.wf .mirrorLinkRestored) s mirrorLinkRestored

/-! ### The standby's states (R562) -/

/-- The standby goes to FAILED on a cause of its own (R562, R566). -/
def Block.loseStandby (b : Block) : Block := b.failStandby.flushMirror

/-- STANDBY_FILL_DONE (R554, R562): Fill and self-test of a member that powered up. -/
def standbyFillDone (pass : Bool) (b : Block) : Block :=
  let cc := 1 - b.active
  whenDue (b.get F.PAIR_STAT_SB_STATE == 1 && b.phase != .fill && b.get (F.PWR_D_STAT_STATE (4 + cc)) == 2
      && b.get (F.PWR_D_STAT_STATE (6 + cc)) == 2) (fun b =>
    if pass then
      let b1 := (b.put F.PAIR_STAT_SB_STATE 2).put F.PAIR_STAT_MIRROR_UP 1
      ({ b1 with pair := { b1.pair with selfTick := insertKey b1.pair.selfTick cc b1.tick } }).startSync
    else b.loseStandby) b

/-- STANDBY_FILL_DONE (R562). -/
def execStandbyFillDone (pass : Bool) (s : State) : Host.Outcome State Fault Refusal :=
  onHw (Instr.wf (.standbyFillDone pass)) s (standbyFillDone pass)

/-- STANDBY_CAUGHT_UP (R562): a WARM standby whose mode is HOT has built every unreleased epoch. -/
def standbyCaughtUp (b : Block) : Block :=
  whenDue (b.get F.PAIR_STAT_SB_STATE == 3 && b.pair.catching && b.get F.BDG_CHOICE_STANDBY == 0) (fun b =>
    let b1 := b.put F.PAIR_STAT_SB_STATE 4
    { b1 with pair := { b1.pair with catching := false } }) b

/-- STANDBY_CAUGHT_UP (R562). -/
def execStandbyCaughtUp (s : State) : Host.Outcome State Fault Refusal :=
  onHw (Instr.wf .standbyCaughtUp) s standbyCaughtUp

/-! ### Causes (R565, R566) -/

/-- The standby works: in SYNC, WARM or HOT (R562). -/
def Block.sbWorks (b : Block) : Bool := b.sbStores && b.phase.railsOn && b.pair.gap.isNone

/-- A cause of R566 on one of the concentrators; while YIELD is asserted, another of its tick may have the lower code. (DEDUCED, log entry 60.) -/
def Block.causeOn (b : Block) (standby : Bool) (cause : Nat) : Block :=
  if standby then (if b.sbWorks then b.loseStandby else b)
  else if b.serving && (b.pair.gap.isNone || b.pair.yielded.isSome) then b.diagnose cause else b

/-- PERIODIC_SELFTEST (R565): every SELFTEST_H hours on each powered concentrator. (DEDUCED, log entry 60.) -/
def periodicSelftest (cc : Nat) (pass : Bool) (b : Block) : Block :=
  let h := b.get F.PAIR_DIAG_SELFTEST_H
  let powered := if cc = b.active then b.serving && b.pair.gap.isNone else b.sbWorks
  whenDue (h != 0 && powered && decide (lookupD b.pair.selfTick cc 0 + h * hTicks ≤ b.tick)) (fun b =>
    let b1 := { b with pair := { b.pair with selfTick := insertKey b.pair.selfTick cc b.tick } }
    if pass then b1 else (b1.bump F.PAIR_SELFTEST_FAIL_CNT).causeOn (cc != b.active) 6) b

/-- PERIODIC_SELFTEST (R565). -/
def execPeriodicSelftest (cc : Nat) (pass : Bool) (s : State) : Host.Outcome State Fault Refusal :=
  onHw (Instr.wf (.periodicSelftest cc pass)) s (periodicSelftest cc pass)

/-- The Owl has not kicked for WDOG_MS (R566, R574). -/
def Block.wdogDue (b : Block) : Bool := decide (b.pair.wdogTick + max 1 (b.get F.PAIR_DIAG_WDOG_MS) * msTicks ≤ b.tick)

/-- WATCHDOG_EXPIRE (R566, cause 0x3). (DEDUCED, log entry 60.) -/
def watchdogExpire (standby : Bool) (b : Block) : Block := whenDue (standby || b.wdogDue) (fun b => b.causeOn standby 3) b

/-- WATCHDOG_EXPIRE (R566). -/
def execWatchdogExpire (standby : Bool) (s : State) : Host.Outcome State Fault Refusal :=
  onHw (Instr.wf (.watchdogExpire standby)) s (watchdogExpire standby)

/-- LOCKSTEP_MISMATCH (R566, cause 0x1). -/
def lockstepMismatch (standby : Bool) (b : Block) : Block := b.causeOn standby 1

/-- LOCKSTEP_MISMATCH (R566). -/
def execLockstepMismatch (standby : Bool) (s : State) : Host.Outcome State Fault Refusal :=
  onHw (Instr.wf (.lockstepMismatch standby)) s (lockstepMismatch standby)

/-- CORE_STALL (R566, cause 0x4). -/
def coreStall (standby : Bool) (b : Block) : Block := b.causeOn standby 4

/-- CORE_STALL (R566). -/
def execCoreStall (standby : Bool) (s : State) : Host.Outcome State Fault Refusal :=
  onHw (Instr.wf (.coreStall standby)) s (coreStall standby)

/-- RAIL_FAULT (R566, R567, cause 0x7). -/
def railFault (standby : Bool) (b : Block) : Block := b.causeOn standby 7

/-- RAIL_FAULT (R566). -/
def execRailFault (standby : Bool) (s : State) : Host.Outcome State Fault Refusal :=
  onHw (Instr.wf (.railFault standby)) s (railFault standby)

/-! ### Hedgehog on every die (R556, R557) -/

/-- What the standby's Hedgehog finds in one of its own words (R548, R552, R557): its own registers say it, read through PAIR; an error in
its critical state is cause 2 of R566 on the standby itself. -/
def Block.standbyError (b : Block) (addr pos : Nat) (double : Bool) : Block :=
  let r := regionOf addr
  let w := addr / 8 * 8
  let count (t : Table Nat) (f : Field) : Table Nat := putReg t f (satU 32 (lookupD t f.key 0 + 1))
  let t := b.pair.sbRegs
  if double then
    let t1 := putReg (putReg (putReg (count t (F.ECC_R_UNC_CNT r)) F.ECC_STAT_LAST_UNC_REGION r) F.ECC_LAST_UNC_LO (w % 2 ^ 32)) F.ECC_LAST_UNC_HI
      (w / 2 ^ 32)
    let b1 := { b with pair := { b.pair with
      sbRegs := if critical r then putReg t1 F.ECC_STAT_CRITICAL 1 else t1
      sbPoison := insertKey b.pair.sbPoison (w / 8) () } }
    if critical r && b1.sbWorks then b1.loseStandby else b1
  else
    let t1 := putReg (putReg (count t (F.ECC_R_CORR_CNT r)) F.ECC_STAT_LAST_CORR_REGION r) F.ECC_LAST_CORR_LO (w % 2 ^ 32)
    let t2 := putReg (putReg (putReg t1 F.ECC_LAST_CORR_HI_ADDR_HI (w / 2 ^ 32)) F.ECC_LAST_CORR_HI_POSITION pos) F.ECC_LAST_CORR_HI_DRAM
      (b2n (decide (0x0100000000 ≤ w)))
    { b with
      pair := { b.pair with sbRegs := t2 }
      wear := if decide (1 ≤ r) && decide (r ≤ 5) then
          { b.wear with now := { b.wear.now with corr := modifyKey b.wear.now.corr (1 - b.active) 0 (· + 1) } }
        else b.wear }

/-- SCRUB_STEP (R556, R557): die 0 the active concentrator, 1 the standby, 2 to 5 tile 0 to 3, 6 the PT die. `addr` is the word on the
standby, a tile or the PT die; the active's is its own position. `pos` and `double` say what a particle left there. -/
def scrubStep (die addr : Nat) (upset double : Bool) (pos : Nat) (b : Block) : Block :=
  let u : Option Upset := if upset then some ⟨pos, double⟩ else none
  if die = 0 then
    whenDue (b.ccOn && b.flag F.ECC_SCRUB_EN && b.phase != .fill)
      (fun b => (((b.upset (b.scrubPos / 8) u).check (b.scrubPos / 8)).scrubNext).actCritical b) b
  else if die = 1 then
    whenDue (b.phase.railsOn && b.get (F.PWR_D_STAT_STATE (9 - b.activeDom)) == 2 && upset && (lookup b.pair.sbPoison (addr / 8)).isNone)
      (fun b => b.standbyError addr pos double) b
  else
    whenDue (b.phase.railsOn && (die == 6 || b.get (F.PWR_D_STAT_STATE (die - 2)) == 2)) (fun b => (b.upset (addr / 8) u).check (addr / 8)) b

/-- SCRUB_STEP (R556). -/
def execScrubStep (die addr : Nat) (upset double : Bool) (pos : Nat) (s : State) : Host.Outcome State Fault Refusal :=
  onHw (Instr.wf (.scrubStep die addr upset double pos)) s (scrubStep die addr upset double pos)

end Sys2Proof.Machine
end

