-- ==== Sys2Proof/Machine/Domains.lean ====
section
/-! DEFINITION. What a power domain loses as it turns off and regains as it turns on (R430, R501, R502, R511). -/

namespace Sys2Proof.Machine

open Sys2Proof

/-! ### Tiles (R138, R261, R308, R430, R501) -/

/-- A Beaver slot of a tile that is off (R430): STOPPED, no generator, no capture. -/
def Block.dropSlot (b : Block) (t s : Nat) : Block :=
  let b1 := ((b.capEnd t s).genStop t s).put (F.BVR_S_STAT_STATE t s) 0
  ((b1.setLoop t s LoopSt.reset).put (F.BVR_S_STAT_SAFE_CAUSE t s) 0).setLevel (128 + 4 * t + s) false 0

/-- The sources of a tile (R245). -/
def tileSources (t : Nat) : List Nat := (List.range 240).map fun i => 240 * t + i

/-- A table without the keys of a tile's sources. -/
def offTile {α : Type} (t : Nat) (m : Table α) : Table α := m.filter fun e => !(decide (240 * t ≤ e.1) && decide (e.1 < 240 * t + 240))

/-- A tile is off (R501): sampling, conversion, Woodpecker and Beaver of the tile stop; its streams stop. -/
def Block.tileDown (b : Block) (t : Nat) : Block :=
  let groups := ((List.range 15).map fun i => 15 * t + i).filter b.groupOn
  let b1 := ([0, 1, 2, 3] : List Nat).foldl (fun c s => c.dropSlot t s) (b.link (.stop (groups ++ [64 + t, 72 + t])))
  let b2 := { b1 with
    fast := { b1.fast with settle := offTile t b1.fast.settle, disc := offTile t b1.fast.disc, hold := offTile t b1.fast.hold }
    tdc := { b1.tdc with
      tables := offTile t b1.tdc.tables, lastEdge := offTile t b1.tdc.lastEdge, marks := offTile t b1.tdc.marks
      hits := b1.tdc.hits.filter fun h => !(tileSources t).contains h.source } }
  let b3 := (tileSources t).foldl (fun c s => if ((c.tdc.cal.map fun x => x.todo.contains s).getD false) then c.calFinish s false else c) b2
  (List.range 16).foldl (fun c i => (c.lookPrec (16 * t + i)).setLevel (16 * t + i) false 0) b3

/-- A field that a tile's return keeps or writes again (R137, R154, R430, R501): the RW registers but those of Beaver, the groups in
force, the duty granted. -/
def tileKeeps (k : Nat) : Bool :=
  let o := (k / 32 - 0x200000) % 0x40000
  (keyHas k (fun x => x.acc == .rw) && !(decide (0x30000 ≤ o) && decide (o < 0x38000)))
    || ([0, 1, 2, 3] : List Nat).any (fun t => k == (F.FT_GROUP_ACT t).key)
    || (List.range 64).any fun n => k == (F.PCH_DUTY_DUTY_GRANT n).key

/-- The entries of the BEAVER section for a tile, kept from Configure (R430). -/
def Block.tileLoops (b : Block) (t : Nat) : List ConfStep :=
  ((typeSteps b.imageSecs 0x18).zip (beaverEntries (sectionBytes b.imageSecs 0x18))).filterMap fun x =>
    if u8 x.2.head 1 = t then some x.1 else none

/-- A tile returns (R501): its RW registers from the copy, Beaver by R430, ideal tables with an INTERNAL calibration, settling. (DEDUCED, log entry 57.) -/
def Block.tileUp (b : Block) (t : Nat) : Block :=
  let b1 := { b with regs := b.regs.filter fun e => tileOf (e.1 / 32) != some t || tileKeeps e.1 }
  let b2 := (b1.applySteps (b1.tileLoops t)).autostart (([0, 1, 2, 3] : List Nat).map fun s => (t, s))
  let b3 := if b2.tdc.cal.isSome then b2 else b2.startCal false (tileSources t)
  let b4 := ((List.range 15).filter fun i => b3.groupOn (15 * t + i)).foldl (fun c i => c.enableGroup (15 * t + i)) b3
  (List.range 16).foldl (fun c i =>
    let n := 16 * t + i
    (c.setPch n { PrecCh.reset with slot := (c.pch n).slot, newPage := (c.pch n).newPage, done := (c.pch n).done }).takeSettings n) b4

/-! ### Concentrators (R195, R310, R501, R502) -/

/-- A DRAM stack is filled and its directory laid down (R310, R501): that of the active concentrator or of the standby. (DEDUCED, log entry 10.) -/
def Block.dramUp (b : Block) (x : Nat) : Block :=
  if x = b.active then
    { b with dram := [], poison := b.poison.filter fun e => !decide (0x0100000000 ≤ e.1 * 8), ring := RingSt.reset }
  else
    { b with pair := { b.pair with sbDram := [], sbPoison := [], sbRing := RingSt.reset, sbFirst := none } }

/-- Fields that the active concentrator loses while it is gated: its own, and what it had worked out in TRG, RING, EVB, LPS, CRC, EGQ and
TST. -/
def gatedKey (k : Nat) : Bool :=
  ownKey k || (([7, 8, 9, 0xa, 0xb, 0xc, 0x12] : List Nat).contains (k / 32 / 0x10000)
    && k != F.TRG_STAT_ROLE_MASTER.key && k != F.TRG_STAT_ROLE_STANDBY.key)

/-- What Fox has learned is forgotten; pins stay (R57). -/
def Block.forgetRoutes (b : Block) : Block :=
  let b1 := b.fab.routes.foldl (fun c e => c.setRoute e.1 Route.unknown) b
  { b1 with fab := { b1.fab with
    claims := [], seen := [], caps := [], routes := [], flows := [], outSeq := [], trees := [], primPort := [], delivered := [] } }

/-- The active concentrator is on again (R502): the den restored, reseat begins, the queues restart at offset 0. (DEDUCED, log entry 57.) -/
def Block.coreUp (b : Block) : Block :=
  match b.pwr.den with
  | none => b
  | some d =>
    let b1 := { b with
      regs := overlay (b.regs.filter fun e => !gatedKey e.1) d.regs
      evb := Block.reset.evb
      egq := []
      lynx := LynxSt.reset
      chk := ⟨[], none⟩
      tst := TstSt.reset
      access := ⟨[], [], [], []⟩
      master := { b.master with prims := [], out := [], announced := [], beat := b.tick, sealed := none }
      posted := []
      reseat := b.phase == Phase.live
      pair := { b.pair with wdogTick := b.tick, residue := [] }
      pwr := { b.pwr with den := none, denWake := false } }
    b1.forgetRoutes.clearQueues.tryUpAll

/-! ### Ports -/

/-- A port's domain is on again (R501): counters zero, its registers rewritten; the port tries to leave DOWN. (DEDUCED, log entry 57.) -/
def Block.portUp (b : Block) (p : Nat) : Block :=
  let mine (a : Nat) : Bool := decide (0xe0000 + 0x200 * p ≤ a) && decide (a < 0xe0200 + 0x200 * p)
  let st := b.get (F.LNK_STAT_STRETCH p)
  let b1 := { b with
    regs := b.regs.filter fun e => !mine (e.1 / 32) || keyHas e.1 fun x => x.acc == Acc.rw
    ports := eraseKey b.ports p }
  (b1.put (F.LNK_STAT_STRETCH p) st).tryUp p

/-! ### The transition (R511) -/

/-- What follows as a domain is ON (R501, R502, R562). -/
def Block.domainUp (b : Block) (d : Nat) : Block :=
  if d < 4 then b.tileUp d
  else if d < 6 then if d = b.activeDom then b.coreUp else if b.get F.PAIR_STAT_SB_STATE = 0 then b.put F.PAIR_STAT_SB_STATE 1 else b
  else if d < 8 then b.dramUp (d - 6)
  else if d < 16 then b.portUp (d - 8)
  else if d = 16 then b.lookAll
  else if d = 17 then b.reselect
  else b

/-- What follows as a domain is OFF (R212, R429, R501, R562). -/
def Block.domainDown (b : Block) (d : Nat) : Block :=
  if d < 4 then b.tileDown d
  else if d < 6 then
    if d = b.activeDom then b else { b with pair := { b.pair with sbRegs := [], sbShadows := [], sbFirst := none } }.flushMirror
  else if d < 8 then b.dramUp (d - 6)
  else if d < 16 then (lanesOf (d - 8)).foldl Block.darkLane b
  else if d = 16 then (allSlots.foldl (fun c x => c.tripSafe x.1 x.2 7) b).lookAll
  else if d = 17 then { b.put F.TIM_STAT_OVN_READY 0 with time := { b.time with warmSec := 0, warmTicks := 0 } }.reselect
  else b

/-- The pending request of a domain that has arrived at a state, unless it asks for that state (R511). -/
def Block.takePending (b : Block) (d : Nat) (on : Bool) : Block :=
  let p := b.get (F.PWR_D_STAT_PENDING d)
  let b1 := b.put (F.PWR_D_STAT_PENDING d) 0
  if p = 0 || (p == 1) == on then b1 else b1.request d (p == 1)

/-- DOMAIN_TRANSITION_DONE (R511): a transition completes; then the pending request. (DEDUCED, log entry 7.) -/
def domainTransitionDone (d : Nat) (b : Block) : Block :=
  let st := b.get (F.PWR_D_STAT_STATE d)
  if st = 1 then
    (((b.put (F.PWR_D_STAT_STATE d) 2).domainUp d).takePending d true).settlePower
  else if st = 3 then
    (((b.put (F.PWR_D_STAT_STATE d) 0).domainDown d).takePending d false).settlePower
  else b

/-- DOMAIN_TRANSITION_DONE (R511). -/
def execDomainTransitionDone (d : Nat) (s : State) : Host.Outcome State Fault Refusal :=
  onHw (Instr.wf (.domainTransitionDone d)) s (domainTransitionDone d)

/-! ### Departures (R55, R352, R459, R508) -/

/-- A node's HOST and REMOTE votes lapse (R508). -/
def Block.dropVoter (b : Block) (n : Nat) : Block :=
  { b with pwr := { b.pwr with voters := b.pwr.voters.filter fun x => x.node != n } }

/-- NODE_DEPART (R459): the entry has held HOPS 255 for DEPART_EPOCHS epochs. -/
def nodeDepart (d : Nat) (b : Block) : Block :=
  let r := b.route d
  whenDue (b.ccOn && r.hops == 255 && !r.departed && decide (max 1 (b.get F.FAB_CTRL_DEPART_EPOCHS) ≤ r.lostFor) && !b.isSelf d) (fun b =>
    let b1 := (b.setRoute d { r with departed := true }).raise 169 d
    (((b1.dropVoter d).reassign d).reannounce d).settlePower) b

/-- NODE_DEPART (R459). -/
def execNodeDepart (d : Nat) (s : State) : Host.Outcome State Fault Refusal :=
  onHw (Instr.wf (.nodeDepart d)) s (nodeDepart d)

end Sys2Proof.Machine
end

