-- ==== Sys2Proof/Machine/HostEther.lean ====
section
/-! DEFINITION. Ethernet frames at a host-mode port: ARP, neighbour solicitation, echo, and the datagrams that carry fabric frames (R467,
R468). -/

namespace Sys2Proof.Machine

open Sys2Proof

/-! ### Addresses (R467) -/

/-- The port MAC: 0x02, IDN_SERHASH most significant byte first, the port number (R467). -/
def Block.portMac (b : Block) (p : Nat) : List Nat := 2 :: beBytes 4 (b.get F.IDN_SERHASH) ++ [p]

/-- The link-local address formed from the port MAC by EUI-64 (R467, RFC 4291). -/
def Block.linkLocal (b : Block) (p : Nat) : List Nat :=
  let m := b.portMac p
  [0xFE, 0x80, 0, 0, 0, 0, 0, 0, Nat.xor (m.getD 0 0) 2] ++ ((m.drop 1).take 2) ++ [0xFF, 0xFE] ++ m.drop 3

/-- The configured IPv6 address; none where it is zero. -/
def Block.configured6 (b : Block) (p : Nat) : Option (List Nat) :=
  let a := ([0, 1, 2, 3] : List Nat).flatMap fun k => beBytes 4 (b.get (F.FAB_HOST_IP6 p k))
  if a.all (· == 0) then none else some a

/-- The configured IPv4 address; none where it is zero. -/
def Block.configured4 (b : Block) (p : Nat) : Option (List Nat) :=
  if b.flag (F.FAB_HOST_IP4 p) then some (beBytes 4 (b.get (F.FAB_HOST_IP4 p))) else none

/-- An IPv6 address of the port. -/
def Block.own6 (b : Block) (p : Nat) (a : List Nat) : Bool := a == b.linkLocal p || b.configured6 p == some a

/-- The solicited-node group of an address (RFC 4291). -/
def solicitedNode (a : List Nat) : List Nat := [0xFF, 2, 0, 0, 0, 0, 0, 0, 0, 0, 0, 1, 0xFF] ++ a.drop 13

/-- The all-nodes group (R468). -/
def allNodes : List Nat := [0xFF, 2, 0, 0, 0, 0, 0, 0, 0, 0, 0, 0, 0, 0, 0, 1]

/-! ### Checksums and headers -/

/-- The sum of 16-bit words, most significant byte first, an odd last byte padded. -/
def wordSum : List Nat → Nat
  | [] => 0
  | [a] => a % 256 * 256
  | a :: c :: l => a % 256 * 256 + c % 256 + wordSum l

/-- The Internet checksum over bytes: the complement of the ones' complement sum. -/
def inetSum (l : List Nat) : Nat :=
  let fold (v : Nat) : Nat := v % 65536 + v / 65536
  65535 - fold (fold (fold (wordSum l)))

/-- The pseudo-header of IPv6 (source, destination, length, next header) or of IPv4. -/
def pseudo (src dst : List Nat) (n next : Nat) : List Nat :=
  src ++ dst ++ if src.length = 16 then beBytes 4 n ++ [0, 0, 0, next] else [0, next] ++ beBytes 2 n

/-- An Ethernet frame from the port, padded to 60 bytes. (PRESUMED, log entry 54.) -/
def Block.etherOut (b : Block) (p : Nat) (dst : List Nat) (type : Nat) (body : List Nat) : Block :=
  let l := dst ++ b.portMac p ++ beBytes 2 type ++ body
  b.emit (.ether p (l ++ List.replicate (60 - l.length) 0))

/-- An IPv6 packet. -/
def packet6 (src dst : List Nat) (hop next : Nat) (body : List Nat) : List Nat :=
  [0x60, 0, 0, 0] ++ beBytes 2 body.length ++ [next, hop] ++ src ++ dst ++ body

/-- An ICMPv6 message with its checksum set. -/
def icmp6 (src dst : List Nat) (type : Nat) (rest : List Nat) : List Nat :=
  let l := [type, 0, 0, 0] ++ rest
  [type, 0] ++ beBytes 2 (inetSum (pseudo src dst l.length 58 ++ l)) ++ rest

/-- An IPv4 packet without options, DF set (R467). -/
def packet4 (src dst : List Nat) (proto : Nat) (body : List Nat) : List Nat :=
  let h (c : Nat) : List Nat := [0x45, 0] ++ beBytes 2 (20 + body.length) ++ [0, 0, 0x40, 0, 64, proto] ++ beBytes 2 c ++ src ++ dst
  h (inetSum (h 0)) ++ body

/-! ### What is received -/

/-- ARP: a request for the configured address is answered (R467). -/
def Block.arpIn (b : Block) (p : Nat) (l : List Nat) : Block :=
  match b.configured4 p with
  | some me =>
    if l.take 8 == [0, 1, 8, 0, 6, 4, 0, 1] && decide (28 ≤ l.length) && (l.drop 24).take 4 == me then
      b.etherOut p ((l.drop 8).take 6) 0x0806 ([0, 1, 8, 0, 6, 4, 0, 2] ++ b.portMac p ++ me ++ (l.drop 8).take 10)
    else b
  | none => b

/-- A datagram on HOST_UDP (R468): exactly one fabric frame; its sender is the peer once it is valid. -/
def Block.datagramIn (b : Block) (p : Nat) (src : List Nat) (srcPort : Nat) (l : List Nat) : Block :=
  let whole := decide (20 ≤ l.length) && l.length == (parseHeader l).len + 20
  if !whole then b.bump cBadFrame
  else
    let b1 := if checkFrame l == .good then { b with fab := { b.fab with peers := insertKey b.fab.peers p (src, srcPort) } } else b
    frameRx p (l.map (BitVec.ofNat 8)) b1

/-- UDP (R467): the length, the checksum, the port; IPv4 also accepts a zero checksum. (PRESUMED, log entry 54.) -/
def Block.udpIn (b : Block) (p : Nat) (src dst : List Nat) (l : List Nat) : Block :=
  let n := beVal ((l.drop 4).take 2)
  let body := l.take n
  let zero := beVal ((l.drop 6).take 2) == 0
  let good := if zero then src.length == 4 else inetSum (pseudo src dst n 17 ++ body) == 0
  if decide (8 ≤ n) && decide (n ≤ l.length) && good && beVal ((l.drop 2).take 2) == b.get (F.FAB_HOST_CFG_HOST_UDP p) then
    b.datagramIn p src (beVal (l.take 2)) (body.drop 8)
  else b

/-- ICMPv6 (R467): a neighbour solicitation for an address of the port, and echo. (PRESUMED, log entry 54.) -/
def Block.icmp6In (b : Block) (p : Nat) (mac src dst : List Nat) (hop : Nat) (l : List Nat) : Block :=
  if inetSum (pseudo src dst l.length 58 ++ l) != 0 || l.getD 1 0 != 0 then b
  else if l.getD 0 0 = 135 then
    let target := (l.drop 8).take 16
    if hop = 255 && b.own6 p target && (b.own6 p dst || dst == solicitedNode target) then
      let anon := src.all (· == 0)
      let to_ := if anon then allNodes else src
      let flags := if anon then 0x20 else 0x60
      b.etherOut p (if anon then [0x33, 0x33, 0, 0, 0, 1] else mac) 0x86DD
        (packet6 target to_ 255 58 (icmp6 target to_ 136 ([flags, 0, 0, 0] ++ target ++ [2, 1] ++ b.portMac p)))
    else b
  else if l.getD 0 0 = 128 && b.own6 p dst then
    b.etherOut p mac 0x86DD (packet6 dst src 64 58 (icmp6 dst src 129 (l.drop 4)))
  else b

/-- IPv6 without extension headers (R467). -/
def Block.ip6In (b : Block) (p : Nat) (mac l : List Nat) : Block :=
  let n := beVal ((l.drop 4).take 2)
  let src := (l.drop 8).take 16
  let dst := (l.drop 24).take 16
  let body := (l.drop 40).take n
  if l.getD 0 0 / 16 ≠ 6 || l.length < 40 + n then b
  else if l.getD 6 0 = 58 then b.icmp6In p mac src dst (l.getD 7 0) body
  else if l.getD 6 0 = 17 && (b.own6 p dst || dst == allNodes) then b.udpIn p src dst body
  else b

/-- IPv4 without options, not a fragment, to the configured address (R467). -/
def Block.ip4In (b : Block) (p : Nat) (mac l : List Nat) : Block :=
  match b.configured4 p with
  | none => b
  | some me =>
    let n := beVal ((l.drop 2).take 2)
    let src := (l.drop 12).take 4
    let dst := (l.drop 16).take 4
    let body := (l.take n).drop 20
    if l.getD 0 0 ≠ 0x45 || n < 20 || l.length < n || inetSum (l.take 20) ≠ 0 || beVal ((l.drop 6).take 2) % 2 ^ 14 ≠ 0 then b
    else if dst == me && l.getD 9 0 == 1 then
      if body.take 2 == [8, 0] && inetSum body == 0 then
        let e := [0, 0, 0, 0] ++ body.drop 4
        b.etherOut p mac 0x0800 (packet4 me src 1 ([0, 0] ++ beBytes 2 (inetSum e) ++ body.drop 4))
      else b
    else if l.getD 9 0 = 17 && (dst == me || dst == [255, 255, 255, 255]) then b.udpIn p src dst body
    else b

/-- The destination MAC reaches the port: its own, broadcast, or a group. -/
def Block.macIn (b : Block) (p : Nat) (dst : List Nat) : Bool := dst == b.portMac p || bitAt (dst.getD 0 0) 0

/-- HOST_ETHERNET_FRAME_RX (R467, R468): the frame from its destination to its payload, without the check sequence. Tagged and longer
frames, MAC control frames and other types are discarded. (PRESUMED, log entry 54.) -/
def hostEthernetFrameRx (p : Nat) (bytes : List Byte) (b : Block) : Block :=
  let l := bytes.map BitVec.toNat
  whenDue (b.hostPort p && (b.stage p == stExchange || b.stage p == stActive) && decide (14 ≤ l.length) && decide (l.length ≤ 9014)
      && b.macIn p (l.take 6)) (fun b =>
    let mac := (l.drop 6).take 6
    let type := beVal ((l.drop 12).take 2)
    let body := l.drop 14
    if type = 0x0806 then b.arpIn p body
    else if type = 0x86DD then b.ip6In p mac body
    else if type = 0x0800 then b.ip4In p mac body
    else b) b

/-- HOST_ETHERNET_FRAME_RX (R467). -/
def execHostEthernetFrameRx (p : Nat) (bytes : List Byte) (s : State) : Host.Outcome State Fault Refusal :=
  onHw (Instr.wf (.hostEthernetFrameRx p bytes)) s (hostEthernetFrameRx p bytes)

end Sys2Proof.Machine
end

