-- ==== Sys2Proof/Machine/Dispatch.lean ====
section
/-! DEFINITION. The dispatch: one arm per command, each one direct call of its meaning. -/

namespace Sys2Proof.Machine

open Sys2Proof

/-- The effect of a command on the module (R80 to R616, by the row's rule). -/
def exec (i : Instr) (s : State) : Host.Outcome State Fault Refusal :=
  match i with
  | .vinValid => Sys2Proof.Machine.execVinValid s
  | .vinCutoff => Sys2Proof.Machine.execVinCutoff s
  | .rstNReset lowNs => Sys2Proof.Machine.execRstNReset lowNs s
  | .fillDone r => Sys2Proof.Machine.execFillDone r s
  | .verifyDone nvm => Sys2Proof.Machine.execVerifyDone nvm s
  | .recoveryLoad bytes => Sys2Proof.Machine.execRecoveryLoad bytes s
  | .configureDone cal => Sys2Proof.Machine.execConfigureDone cal s
  | .reseatComplete => Sys2Proof.Machine.execReseatComplete s
  | .faultReport => Sys2Proof.Machine.execFaultReport s
  | .sysRestart a key => Sys2Proof.Machine.execSysRestart a key s
  | .newNonce a => Sys2Proof.Machine.execNewNonce a s
  | .quote a => Sys2Proof.Machine.execQuote a s
  | .confirm a => Sys2Proof.Machine.execConfirm a s
  | .openNvm a => Sys2Proof.Machine.execOpenNvm a s
  | .closeNvm a => Sys2Proof.Machine.execCloseNvm a s
  | .verifySlot a => Sys2Proof.Machine.execVerifySlot a s
  | .addKey a => Sys2Proof.Machine.execAddKey a s
  | .revokeKey a => Sys2Proof.Machine.execRevokeKey a s
  | .debugOpen a => Sys2Proof.Machine.execDebugOpen a s
  | .secCmdDone => Sys2Proof.Machine.execSecCmdDone s
  | .nvmErase64k a => Sys2Proof.Machine.execNvmErase64k a s
  | .nvmProgram a => Sys2Proof.Machine.execNvmProgram a s
  | .nvmRead a => Sys2Proof.Machine.execNvmRead a s
  | .nvmOpDone ok => Sys2Proof.Machine.execNvmOpDone ok s
  | .nvmPollTimeout => Sys2Proof.Machine.execNvmPollTimeout s
  | .registerWrite a addr count data zeroOk => Sys2Proof.Machine.execRegisterWrite a addr count data zeroOk s
  | .rcCounterRead a addr count => Sys2Proof.Machine.execRcCounterRead a addr count s
  | .wideLoRead a addr count => Sys2Proof.Machine.execWideLoRead a addr count s
  | .wideHiRead a addr => Sys2Proof.Machine.execWideHiRead a addr s
  | .wideLoWrite a addr w => Sys2Proof.Machine.execWideLoWrite a addr w s
  | .wideHiWrite a addr w => Sys2Proof.Machine.execWideHiWrite a addr w s
  | .snapArm a w => Sys2Proof.Machine.execSnapArm a w s
  | .epochBoundary => Sys2Proof.Machine.execEpochBoundary s
  | .squirrelEvalTimer => Sys2Proof.Machine.execSquirrelEvalTimer s
  | .powerSample mw tj => Sys2Proof.Machine.execPowerSample mw tj s
  | .epochCommit => Sys2Proof.Machine.execEpochCommit s
  | .gridInstantEval => Sys2Proof.Machine.execGridInstantEval s
  | .pinUnitEnable a u w => Sys2Proof.Machine.execPinUnitEnable a u w s
  | .decisionAccept viaTree m => Sys2Proof.Machine.execDecisionAccept viaTree m s
  | .decisionReject viaTree m => Sys2Proof.Machine.execDecisionReject viaTree m s
  | .decisionSupersede viaTree m => Sys2Proof.Machine.execDecisionSupersede viaTree m s
  | .decisionDeadline ident => Sys2Proof.Machine.execDecisionDeadline ident s
  | .emptyEpochDeadline => Sys2Proof.Machine.execEmptyEpochDeadline s
  | .fragmentBuilt ident => Sys2Proof.Machine.execFragmentBuilt ident s
  | .primitiveRx p m => Sys2Proof.Machine.execPrimitiveRx p m s
  | .primitiveDue => Sys2Proof.Machine.execPrimitiveDue s
  | .decisionRepeat ident kind => Sys2Proof.Machine.execDecisionRepeat ident kind s
  | .decisionAckRx m => Sys2Proof.Machine.execDecisionAckRx m s
  | .heartbeatRx viaTree m => Sys2Proof.Machine.execHeartbeatRx viaTree m s
  | .triggerStandbyTakeover => Sys2Proof.Machine.execTriggerStandbyTakeover s
  | .retroRx m => Sys2Proof.Machine.execRetroRx m s
  | .announceRx m => Sys2Proof.Machine.execAnnounceRx m s
  | .fragmentDataRx m => Sys2Proof.Machine.execFragmentDataRx m s
  | .mergeTimeout n => Sys2Proof.Machine.execMergeTimeout n s
  | .fragmentAckRx m => Sys2Proof.Machine.execFragmentAckRx m s
  | .fragmentResend ident => Sys2Proof.Machine.execFragmentResend ident s
  | .fragmentAbandon ident => Sys2Proof.Machine.execFragmentAbandon ident s
  | .mergeIdentityExpire ident => Sys2Proof.Machine.execMergeIdentityExpire ident s
  | .ringItemStore => Sys2Proof.Machine.execRingItemStore s
  | .packJobStart => Sys2Proof.Machine.execPackJobStart s
  | .packJobDone engine => Sys2Proof.Machine.execPackJobDone engine s
  | .lpsDjGo a => Sys2Proof.Machine.execLpsDjGo a s
  | .lpsDjDone => Sys2Proof.Machine.execLpsDjDone s
  | .crcClaim a u => Sys2Proof.Machine.execCrcClaim a u s
  | .crcRelease a u => Sys2Proof.Machine.execCrcRelease a u s
  | .crcClaimTimeout u => Sys2Proof.Machine.execCrcClaimTimeout u s
  | .crcFeed a u w => Sys2Proof.Machine.execCrcFeed a u w s
  | .crcValWrite a u w => Sys2Proof.Machine.execCrcValWrite a u w s
  | .crcRangeGo a u => Sys2Proof.Machine.execCrcRangeGo a u s
  | .crcRangeAbort a u => Sys2Proof.Machine.execCrcRangeAbort a u s
  | .crcRangeDone u => Sys2Proof.Machine.execCrcRangeDone u s
  | .egqCfgWrite a q w => Sys2Proof.Machine.execEgqCfgWrite a q w s
  | .egqApertureRead a q n => Sys2Proof.Machine.execEgqApertureRead a q n s
  | .bulkWindowRead a addr n => Sys2Proof.Machine.execBulkWindowRead a addr n s
  | .egqMark a q => Sys2Proof.Machine.execEgqMark a q s
  | .egqRewind a q => Sys2Proof.Machine.execEgqRewind a q s
  | .egqRelease a q => Sys2Proof.Machine.execEgqRelease a q s
  | .egqMarkRelease a q => Sys2Proof.Machine.execEgqMarkRelease a q s
  | .loopExecution t slot overrun => Sys2Proof.Machine.execLoopExecution t slot overrun s
  | .loopStall t slot m => Sys2Proof.Machine.execLoopStall t slot m s
  | .bvrStart a t slot k => Sys2Proof.Machine.execBvrStart a t slot k s
  | .bvrSwitch a t slot => Sys2Proof.Machine.execBvrSwitch a t slot s
  | .bvrStop a t slot => Sys2Proof.Machine.execBvrStop a t slot s
  | .bvrForceSafe a t slot => Sys2Proof.Machine.execBvrForceSafe a t slot s
  | .bvrInjGo a t slot => Sys2Proof.Machine.execBvrInjGo a t slot s
  | .bvrInjStop a t slot => Sys2Proof.Machine.execBvrInjStop a t slot s
  | .bvrCapArm a t slot => Sys2Proof.Machine.execBvrCapArm a t slot s
  | .bvrCapStop a t slot => Sys2Proof.Machine.execBvrCapStop a t slot s
  | .bvrBankWrite a t slot k n w => Sys2Proof.Machine.execBvrBankWrite a t slot k n w s
  | .tdcEdge src ev code => Sys2Proof.Machine.execTdcEdge src ev code s
  | .discHoldoffEnd c => Sys2Proof.Machine.execDiscHoldoffEnd c s
  | .hitRelease => Sys2Proof.Machine.execHitRelease s
  | .tdcCalGo a w => Sys2Proof.Machine.execTdcCalGo a w s
  | .tdcCalAbort a w => Sys2Proof.Machine.execTdcCalAbort a w s
  | .tdcCalSourceDone src counts => Sys2Proof.Machine.execTdcCalSourceDone src counts s
  | .tdcCalTimeout src => Sys2Proof.Machine.execTdcCalTimeout src s
  | .tdcTableLoad a w => Sys2Proof.Machine.execTdcTableLoad a w s
  | .settleCountEnd c => Sys2Proof.Machine.execSettleCountEnd c s
  | .precisionSampleDone n x => Sys2Proof.Machine.execPrecisionSampleDone n x s
  | .precBufferStore => Sys2Proof.Machine.execPrecBufferStore s
  | .precSettleEnd n => Sys2Proof.Machine.execPrecSettleEnd n s
  | .refSettled n internal => Sys2Proof.Machine.execRefSettled n internal s
  | .pcvCfgInForce n => Sys2Proof.Machine.execPcvCfgInForce n s
  | .pchCfgWrite a n r w => Sys2Proof.Machine.execPchCfgWrite a n r w s
  | .excReversal n => Sys2Proof.Machine.execExcReversal n s
  | .excDutyOn n => Sys2Proof.Machine.execExcDutyOn n s
  | .excDutyOff n => Sys2Proof.Machine.execExcDutyOff n s
  | .excLimitAssert n => Sys2Proof.Machine.execExcLimitAssert n s
  | .drvLimitAssert n => Sys2Proof.Machine.execDrvLimitAssert n s
  | .faultAssert n c => Sys2Proof.Machine.execFaultAssert n c s
  | .faultAutoClear n c => Sys2Proof.Machine.execFaultAutoClear n c s
  | .faultClearWrite a n w => Sys2Proof.Machine.execFaultClearWrite a n w s
  | .odRequest a w => Sys2Proof.Machine.execOdRequest a w s
  | .odDropTimeout slot => Sys2Proof.Machine.execOdDropTimeout slot s
  | .odSlotFree a slot w => Sys2Proof.Machine.execOdSlotFree a slot w s
  | .calGo a w => Sys2Proof.Machine.execCalGo a w s
  | .calAbort a w => Sys2Proof.Machine.execCalAbort a w s
  | .calComputeDone => Sys2Proof.Machine.execCalComputeDone s
  | .calOfsWrite a n r w => Sys2Proof.Machine.execCalOfsWrite a n r w s
  | .calGainWrite a n r w => Sys2Proof.Machine.execCalGainWrite a n r w s
  | .refinPresentSet => Sys2Proof.Machine.execRefinPresentSet s
  | .refinLost => Sys2Proof.Machine.execRefinLost s
  | .pllLock => Sys2Proof.Machine.execPllLock s
  | .ovnReady => Sys2Proof.Machine.execOvnReady s
  | .ovnLeaveBand => Sys2Proof.Machine.execOvnLeaveBand s
  | .domainEpochBoundary x => Sys2Proof.Machine.execDomainEpochBoundary x s
  | .syncSend x => Sys2Proof.Machine.execSyncSend x s
  | .syncRx p m => Sys2Proof.Machine.execSyncRx p m s
  | .delayReqSend x => Sys2Proof.Machine.execDelayReqSend x s
  | .delayReqRx p m => Sys2Proof.Machine.execDelayReqRx p m s
  | .delayRespRx p m => Sys2Proof.Machine.execDelayRespRx p m s
  | .masterSetGo a x w => Sys2Proof.Machine.execMasterSetGo a x w s
  | .slewEnd => Sys2Proof.Machine.execSlewEnd s
  | .toutArm a o w => Sys2Proof.Machine.execToutArm a o w s
  | .toutDisarm a o w => Sys2Proof.Machine.execToutDisarm a o w s
  | .toutInstance o => Sys2Proof.Machine.execToutInstance o s
  | .toutPulseEnd o => Sys2Proof.Machine.execToutPulseEnd o s
  | .claimRx p m => Sys2Proof.Machine.execClaimRx p m s
  | .claimHeld => Sys2Proof.Machine.execClaimHeld s
  | .idRetry => Sys2Proof.Machine.execIdRetry s
  | .pinGo a w => Sys2Proof.Machine.execPinGo a w s
  | .pinRx p m => Sys2Proof.Machine.execPinRx p m s
  | .pinNoTarget => Sys2Proof.Machine.execPinNoTarget s
  | .frameRx p bytes => Sys2Proof.Machine.execFrameRx p bytes s
  | .lackRx p m => Sys2Proof.Machine.execLackRx p m s
  | .lackSend p => Sys2Proof.Machine.execLackSend p s
  | .replayTimeout p => Sys2Proof.Machine.execReplayTimeout p s
  | .capRx p m => Sys2Proof.Machine.execCapRx p m s
  | .advertRx p entries => Sys2Proof.Machine.execAdvertRx p entries s
  | .routeExpire d => Sys2Proof.Machine.execRouteExpire d s
  | .nodeDepart d => Sys2Proof.Machine.execNodeDepart d s
  | .routePinWrite a d w => Sys2Proof.Machine.execRoutePinWrite a d w s
  | .reorderTimeout src dst mcast cls => Sys2Proof.Machine.execReorderTimeout src dst mcast cls s
  | .treeRx p m => Sys2Proof.Machine.execTreeRx p m s
  | .hostCapBeacon p => Sys2Proof.Machine.execHostCapBeacon p s
  | .logLineSend text => Sys2Proof.Machine.execLogLineSend text s
  | .beaconTimer p => Sys2Proof.Machine.execBeaconTimer p s
  | .silentBeacon p => Sys2Proof.Machine.execSilentBeacon p s
  | .signalDetect l => Sys2Proof.Machine.execSignalDetect l s
  | .cdrLock l inverted => Sys2Proof.Machine.execCdrLock l inverted s
  | .blockLock l fec swapped => Sys2Proof.Machine.execBlockLock l fec swapped s
  | .trainTimeout p => Sys2Proof.Machine.execTrainTimeout p s
  | .lockTimeout p => Sys2Proof.Machine.execLockTimeout p s
  | .exchangeTimeout p => Sys2Proof.Machine.execExchangeTimeout p s
  | .readyRx p arg => Sys2Proof.Machine.execReadyRx p arg s
  | .lossOfSignal l => Sys2Proof.Machine.execLossOfSignal l s
  | .losIdleEnd p => Sys2Proof.Machine.execLosIdleEnd p s
  | .laneLockLost l => Sys2Proof.Machine.execLaneLockLost l s
  | .laneRejoin p => Sys2Proof.Machine.execLaneRejoin p s
  | .downRx p arg => Sys2Proof.Machine.execDownRx p arg s
  | .takeoverOsRx p arg => Sys2Proof.Machine.execTakeoverOsRx p arg s
  | .tkoHoldExpire p => Sys2Proof.Machine.execTkoHoldExpire p s
  | .lnkRetry a p => Sys2Proof.Machine.execLnkRetry a p s
  | .lnkKnock a p => Sys2Proof.Machine.execLnkKnock a p s
  | .knockDone p => Sys2Proof.Machine.execKnockDone p s
  | .lnkRejoin a p => Sys2Proof.Machine.execLnkRejoin a p s
  | .lnkAdminDown a p => Sys2Proof.Machine.execLnkAdminDown a p s
  | .lnkTestPrbs31 a p => Sys2Proof.Machine.execLnkTestPrbs31 a p s
  | .lnkTestOff a p => Sys2Proof.Machine.execLnkTestOff a p s
  | .knockDetect l knock => Sys2Proof.Machine.execKnockDetect l knock s
  | .voteCast a d w => Sys2Proof.Machine.execVoteCast a d w s
  | .voteWithdraw a d w => Sys2Proof.Machine.execVoteWithdraw a d w s
  | .voteLeaseExpire d node => Sys2Proof.Machine.execVoteLeaseExpire d node s
  | .accessVoteExpire d => Sys2Proof.Machine.execAccessVoteExpire d s
  | .offDomainAccess a addr => Sys2Proof.Machine.execOffDomainAccess a addr s
  | .forceNone a d => Sys2Proof.Machine.execForceNone a d s
  | .forceOn a d => Sys2Proof.Machine.execForceOn a d s
  | .forceOff a d => Sys2Proof.Machine.execForceOff a d s
  | .levelForceWrite a w => Sys2Proof.Machine.execLevelForceWrite a w s
  | .domainTransitionDone d => Sys2Proof.Machine.execDomainTransitionDone d s
  | .levelTransitionDone => Sys2Proof.Machine.execLevelTransitionDone s
  | .wakeTimerExpire => Sys2Proof.Machine.execWakeTimerExpire s
  | .thermalTrip => Sys2Proof.Machine.execThermalTrip s
  | .irqClaim => Sys2Proof.Machine.execIrqClaim s
  | .irqAck a w => Sys2Proof.Machine.execIrqAck a w s
  | .irqRaise a w => Sys2Proof.Machine.execIrqRaise a w s
  | .irqPop a t w => Sys2Proof.Machine.execIrqPop a t w s
  | .irqSrcWrite a src w => Sys2Proof.Machine.execIrqSrcWrite a src w s
  | .notifyRepeat => Sys2Proof.Machine.execNotifyRepeat s
  | .scrubStep die addr upset double pos => Sys2Proof.Machine.execScrubStep die addr upset double pos s
  | .eccWindowEnd r => Sys2Proof.Machine.execEccWindowEnd r s
  | .eccThrWrite a r w => Sys2Proof.Machine.execEccThrWrite a r w s
  | .mirrorAck => Sys2Proof.Machine.execMirrorAck s
  | .mirrorLost drop => Sys2Proof.Machine.execMirrorLost drop s
  | .periodicSelftest cc pass => Sys2Proof.Machine.execPeriodicSelftest cc pass s
  | .watchdogKick a => Sys2Proof.Machine.execWatchdogKick a s
  | .watchdogExpire standby => Sys2Proof.Machine.execWatchdogExpire standby s
  | .lockstepMismatch standby => Sys2Proof.Machine.execLockstepMismatch standby s
  | .coreStall standby => Sys2Proof.Machine.execCoreStall standby s
  | .railFault standby => Sys2Proof.Machine.execRailFault standby s
  | .pairSwitch a => Sys2Proof.Machine.execPairSwitch a s
  | .pairReinstate a => Sys2Proof.Machine.execPairReinstate a s
  | .pairRetire a => Sys2Proof.Machine.execPairRetire a s
  | .takeover => Sys2Proof.Machine.execTakeover s
  | .takeoverGapEnd => Sys2Proof.Machine.execTakeoverGapEnd s
  | .warmRebuildDone => Sys2Proof.Machine.execWarmRebuildDone s
  | .standbyFillDone pass => Sys2Proof.Machine.execStandbyFillDone pass s
  | .standbyCaughtUp => Sys2Proof.Machine.execStandbyCaughtUp s
  | .standbyRegRead a => Sys2Proof.Machine.execStandbyRegRead a s
  | .standbyWindowRead a k => Sys2Proof.Machine.execStandbyWindowRead a k s
  | .tstArmStretch a => Sys2Proof.Machine.execTstArmStretch a s
  | .tstArmBackpress a => Sys2Proof.Machine.execTstArmBackpress a s
  | .tstArmLane a => Sys2Proof.Machine.execTstArmLane a s
  | .tstArmTime a => Sys2Proof.Machine.execTstArmTime a s
  | .tstArmMemerr a => Sys2Proof.Machine.execTstArmMemerr a s
  | .tstArmResidue a => Sys2Proof.Machine.execTstArmResidue a s
  | .tstDisarmAll a => Sys2Proof.Machine.execTstDisarmAll a s
  | .tstDurationEnd => Sys2Proof.Machine.execTstDurationEnd s
  | .tstBpToggle => Sys2Proof.Machine.execTstBpToggle s
  | .jtagBypass tdi => Sys2Proof.Machine.execJtagBypass tdi s
  | .jtagSamplePreload pins tdi => Sys2Proof.Machine.execJtagSamplePreload pins tdi s
  | .jtagExtest pins tdi => Sys2Proof.Machine.execJtagExtest pins tdi s
  | .jtagIdcode tdi => Sys2Proof.Machine.execJtagIdcode tdi s
  | .fastSampleInstant codes => Sys2Proof.Machine.execFastSampleInstant codes s
  | .hostEthernetFrameRx p bytes => Sys2Proof.Machine.execHostEthernetFrameRx p bytes s
  | .detectorArm => Sys2Proof.Machine.execDetectorArm s
  | .prbsLockGained l => Sys2Proof.Machine.execPrbsLockGained l s
  | .prbsLockLost l bits errs => Sys2Proof.Machine.execPrbsLockLost l bits errs s
  | .mirrorLinkRestored => Sys2Proof.Machine.execMirrorLinkRestored s
  | .tapReset => Sys2Proof.Machine.execTapReset s
  | .emBudgetAccumulate tj => Sys2Proof.Machine.execEmBudgetAccumulate tj s
  | .wearStoreUpdate => Sys2Proof.Machine.execWearStoreUpdate s

end Sys2Proof.Machine
end

