-- ==== Sys2Proof/Machine/Step.lean ====
section
/-! DEFINITION. One step of the module: the command at the front of the queue, or a tick. -/

namespace Sys2Proof.Machine

open Sys2Proof

/-- What happens where no command waits (DESIGN CHOICE, log entry 3): one tick of 4 ns passes (R11, R18), and Bamien takes over the
oldest message handed to it. -/
def idle (b : Block) : Block := drainOne (tickTime b)

/-- One step: the command at the front of the queue takes effect with the rest waiting, first in, first out; on an empty queue a tick
passes. (DESIGN CHOICE, log entry 3, DESIGN CHOICE, log entry 4.) -/
def step (s : State) : Host.Outcome State Fault Refusal :=
  match s.pending with
  | c :: l => exec c { s with pending := l }
  | [] => .next { s with hw := idle s.hw }

/-- The command that a table word spells put at the front of the queue: no row of the table has bits, so no word spells one. (DESIGN CHOICE, log entry 5.) -/
def State.withFetchWord (s : State) (nbits w : Nat) : State :=
  match decodeTableWord nbits w with
  | some c => { s with pending := c :: s.pending }
  | none => s

end Sys2Proof.Machine
end

