-- ==== Sys2Proof/Safety.lean ====
section
/-! DEFINITION. What counts as a safe state and a safe run of the module, when a register access acts at once, and how it ends, in the
terms that statements use. -/

namespace Sys2Proof.Machine

open Sys2Proof

/-- Every waiting command names units that the module has. -/
def State.queueWf (s : State) : Bool := s.pending.all Instr.wf

/-- Both concentrators' DRAM is in its canonical form, and the register files list each field once. -/
abbrev Block.canonical (b : Block) : Prop :=
  Memory.wf b.dram ∧ Memory.wf b.pair.sbDram ∧ keysRise b.regs = true ∧ keysRise b.pair.sbRegs = true

/-- An outcome is a next state: nothing stopped. -/
def completes (o : Host.Outcome State Fault Refusal) : Bool :=
  match o with
  | .next _ => true
  | .fault _ => false
  | .refused _ => false

/-- A request of the requester is taken up at once: registers are served, there is no gap, no earlier request of its requester is
unanswered, its TAG is new (R56, R579, R583). -/
def Block.takes (b : Block) (a : Access) : Bool :=
  b.serving && b.pair.gap.isNone && !b.behind a.who && (b.stored a).isNone

/-- The address is a register that the requester may access, on a domain that is on (R21, R24, R108, R575). -/
def Block.admits (b : Block) (a : Access) (addr : Nat) (wr : Bool) : Bool :=
  !inWindow addr && (apertureAt addr).isNone && (b.refuse a.who addr wr).isNone

/-- What a requester's write of a word brings to its register: the word with its locked fields left as they are, and whether it would have
changed one (R582). -/
def Block.unlockedWord (b : Block) (a : Access) (addr w : Nat) : Nat × Bool :=
  (b.touched addr).maskWord a.who addr ((b.touched addr).regWord addr) w

/-- A write of one word is taken up and reaches its register, which is no part of a wide value, and does not wait for the mirror (R74,
R564). -/
def Block.lands (b : Block) (a : Access) (addr w : Nat) : Bool :=
  b.takes a && b.admits a addr true && wideAt addr == .no && !(b.mirrorUp && mirrored addr w)

/-- A write of one word acts at once and whole: it lands, and it changes no locked field (R582). -/
def Block.acts (b : Block) (a : Access) (addr w : Nat) : Bool :=
  b.lands a addr w && !b.allLocked_ a.who addr && b.unlockedWord a addr w == (w, false)

/-- A read of one word answers at once: it is taken up, its register is admitted, is none of the standby's and of no check-value unit, and its
stored word holds no upset and no poison mark (R548, R551, R573). -/
def Block.reads (b : Block) (a : Access) (addr : Nat) : Bool :=
  b.takes a && b.admits a addr false && addr != 0x100034 && !(decide (0x108000 ≤ addr) && decide (addr < 0x110000))
    && !(decide (0xb0100 ≤ addr) && decide (addr < 0xb0300)) && (b.upsetsIn addr 4).isEmpty && !b.poisoned addr 4

/-- How a read of one word ends, from the block `c` that it left: the answer leaves and is kept with its TAG (R576, R579). `b` is the block
before the read. -/
def Block.readAnswered (b : Block) (a : Access) (addr : Nat) (c : Block) (st : Status) (w : Nat) : Block :=
  ((c.reply a ⟨1, addr, 1, st, [w]⟩).actCritical b).flushMirror

/-- How a write of one word ends once its register holds what it should: a standby learns the register's fields, the answer leaves and is
kept with its TAG, and what follows an answer follows (R564, R576, R579). `b` is the block before the write. -/
def Block.finished (b : Block) (a : Access) (addr w : Nat) (r : Block × Status) : Block :=
  let b2 := if r.1.mirrorUp then r.1.mirrorRegs [addr] else r.1
  (((b2.reply a ⟨2, addr, 1, r.2, []⟩).afterAnswer addr (if r.2 == .ok then 1 else 0) [w]).actCritical b).flushMirror

/-- How a write of one word that reached its register ends, from the block `r.1` that its operation left and its status `r.2`: an armed
MEMERR may meet the stored word (R586), then as `Block.finished`. -/
def Block.answered (b : Block) (a : Access) (addr w : Nat) (r : Block × Status) : Block :=
  b.finished a addr w (if r.2 == .ok || r.2 == .tierLocked then (r.1.rewritten addr false, r.2) else r)

end Sys2Proof.Machine
end

