-- ==== Sys2Proof/Certificates/Slice0/Obligations.lean ====
section
/-! DEFINITION. The statements for the provers. -/

open Sys2Proof Sys2Proof.Machine

/-- A step runs the command at the front of the queue. For every command c and state s, one step of s with c at the front of its queue is exec of c on s
with the rest of the queue. The queue is the model's own form of the commands that wait. (spec/opcode_table.json, spec/INDEX.md) -/
def Obligations.StepRunsFront : Prop :=
  ∀ (c : Instr) (s : State), step { s with pending := c :: s.pending } = exec c s

/-- On an empty queue a step is one tick (model's choice, log entry 3). With no command waiting a step answers a next state: one tick passes and Bamien
takes over the oldest message handed to it. At the tick the tick count rises by 1, registers, DRAM and waiting messages stay, and, while the rails are
on, each time domain's counter rises by its increment modulo 2^80 and a slew's residual falls. That a step on an empty queue is a tick is the model's
choice of log entry 3. (R11, R18, R213, spec/07_time_base.md) -/
def Obligations.IdleIsOneTick : Prop :=
  ∀ s : State, s.pending = [] →
    step s = .next { s with hw := drainOne (tickTime s.hw) } ∧
    (tickTime s.hw).tick = s.hw.tick + 1 ∧ (tickTime s.hw).dram = s.hw.dram ∧ (tickTime s.hw).regs = s.hw.regs ∧
    (tickTime s.hw).posted = s.hw.posted ∧ (tickTime s.hw).phase = s.hw.phase ∧
    (s.hw.phase.railsOn = true →
      (tickTime s.hw).time.p.time = (s.hw.time.p.time + s.hw.time.p.inc) % 2 ^ 80 ∧
      (tickTime s.hw).time.s.time = (s.hw.time.s.time + s.hw.time.s.inc) % 2 ^ 80 ∧
      (tickTime s.hw).time.resid = s.hw.time.resid - slewStep) ∧
    (s.hw.phase.railsOn = false → (tickTime s.hw).time.p = s.hw.time.p ∧ (tickTime s.hw).time.s = s.hw.time.s)

/-- A command whose operands name what the module has not stops, and no other command does. For every command and state, exec answers the fault noSuchUnit
where the operands are not well formed, and otherwise a next state with the same queue; it never refuses. That such operands stop the block is the
model's choice, log entry 1. (spec/opcode_table.json, spec/01_module_anatomy.md) -/
def Obligations.IllFormedCommandsStop : Prop :=
  ∀ (c : Instr) (s : State),
    if c.wf then ∃ t, exec c s = .next t ∧ t.pending = s.pending else exec c s = .fault .noSuchUnit

/-- Well-formed commands never stop the block: every step keeps the queue well formed and any number of steps completes. From every state whose waiting
commands are all well formed, each step answers a next state whose waiting commands are well formed again, and for every n the run of n steps answers
a next state whose queue is what is left of the first after n commands have been taken. (spec/opcode_table.json, spec/INDEX.md) -/
def Obligations.RunsToTheEnd : Prop :=
  (∀ s : State, s.queueWf = true → ∃ t, step s = .next t ∧ t.queueWf = true) ∧
  ∀ (n : Nat) (s : State), s.queueWf = true → ∃ t, Sys2Proof.core.run n s = .next t ∧ State.pending t = s.pending.drop n

/-- What reset leaves. After reset the module is in Off, no command waits, the stamping time is not established, DRAM lists nothing, no message waits and
nothing has left at the pins; every field of the register file reads its reset value (R8: the table's Reset column; a field without one, log entry 2).
(R8, R80, R26, R310, R554, spec/01_module_anatomy.md) -/
def Obligations.ResetState : Prop :=
  State.reset.pending = [] ∧ State.reset.hw.phase = .off ∧ State.reset.hw.reseat = true ∧ State.reset.hw.dram = [] ∧
  State.reset.hw.poison = [] ∧ State.reset.hw.posted = [] ∧ State.reset.hw.wire = [] ∧ State.reset.hw.time.established = false ∧
  ∀ f : Field, State.reset.hw.get f = f.reset

/-- Reset meets the canonical form of memory and registers. In State.reset both concentrators' DRAM lists addresses strictly rising and no byte that reads
as an unlisted one, and the register files list their fields once, in rising order. The canonical form is the model's own. (R20, R554,
spec/01_module_anatomy.md) -/
def Obligations.ResetIsCanonical : Prop :=
  State.reset.hw.canonical

/-- Every step keeps memory and the register files in canonical form. For every state in which the DRAM of the active and of the standby concentrator and
the two register files are in canonical form (keys strictly rising, no DRAM byte listed that reads as an unlisted one), if a step answers a next
state, they are in canonical form there too. Equal contents are thus equal data after any command, a takeover included. (R20, R310, R311, R554, R564,
R568, spec/10_raw_ring.md, spec/20_concentrator_pair.md) -/
def Obligations.StepsKeepCanonical : Prop :=
  ∀ s t : State, s.hw.canonical → step s = .next t → t.hw.canonical

/-- What RST_N and the cut-off leave of the registers. The cut-off of R497 (VIN_CUTOFF) and an RST_N pulse of at least 10 µs outside Off and Hibernate
leave the module in Off with empty queues and RESET_CAUSE 0 and 1; each kept field keeps its value through RST_N and reads its reset value after the
cut-off; every other field reads its reset value after both, but for RESET_CAUSE, the identity registers of R26 and, after RST_N, the state of D_OVN,
which goes on (R212). DRAM lists nothing; flash and fuses stand where no flash operation runs. (R505) -/
def Obligations.ResetsKeepOnlyKept : Prop :=
  ∀ (s : State) (lowNs : Nat), s.hw.phase ≠ .off → s.hw.phase ≠ .hibernate → 10000 ≤ lowNs → s.hw.boot.nvm = none →
    ∃ t u, exec .vinCutoff s = .next t ∧ exec (.rstNReset lowNs) s = .next u ∧
      t.pending = s.pending ∧ u.pending = s.pending ∧
      t.hw.phase = .off ∧ u.hw.phase = .off ∧ t.hw.get F.SYS_STATE_RESET_CAUSE = 0 ∧ u.hw.get F.SYS_STATE_RESET_CAUSE = 1 ∧
      t.hw.dram = [] ∧ u.hw.dram = [] ∧ t.hw.boot.flash = s.hw.boot.flash ∧ u.hw.boot.flash = s.hw.boot.flash ∧
      t.hw.boot.fuses = s.hw.boot.fuses ∧ u.hw.boot.fuses = s.hw.boot.fuses ∧
      ∀ f : Field, f.key ≠ F.SYS_STATE_RESET_CAUSE.key →
        (identityKey f.key = true → t.hw.get f = s.hw.get f ∧ u.hw.get f = s.hw.get f) ∧
        (identityKey f.key = false → t.hw.get f = f.reset) ∧
        (keptKey f.key = true → u.hw.get f = s.hw.get f) ∧
        (identityKey f.key = false → keptKey f.key = false → f.key ≠ (F.PWR_D_STAT_STATE 17).key → u.hw.get f = f.reset)

/-- The start-up states one after another. VIN in range takes Off to Fill with every domain on; the end of Fill samples the straps and shows the self-
test, and leads to Verify on the first concentrator that passed, or to Fault SELFTEST or FILL_FAIL; a flash that does not answer leads to Fault code
1; recovery verifies the container that follows its 32-bit length; Configure without conflict or SAFE_START applies the image, calibrates and enters
Join; with a conflict it enters Safe-Config; in Fault, one second after the last line, the line LMA FAULT cc leaves on SVC_TX. (R80, R83, R95, R106,
R554, R555, spec/03_startup_image_trust.md) -/
def Obligations.StartupPath : Prop :=
  (∀ s : State, s.hw.phase = .off →
    exec .vinValid s = .next { s with hw := ((((List.range 19).foldl (fun (c : Block) d => c.put (F.PWR_D_STAT_STATE d) 2) { s.hw with phase := .fill }).put F.FAB_STAT_BOOT (Config.bootDraw s.hw.free % 65535 + 1)).drawn.put F.PAIR_STAT_SB_STATE 1).showStandby.settlePower }) ∧
  (∀ (s : State) (r : FillResult), Instr.wf (.fillDone r) = true → s.hw.phase = .fill →
    let shown : Block :=
      let b1 := ((((s.hw.put F.ECC_BIST_DONE 1).put F.ECC_BIST_TILE_PASS r.tiles).putB F.ECC_BIST_PT_PASS r.pt).putB
        F.ECC_BIST_CCA_PASS (r.fillA && r.testA)).putB F.ECC_BIST_CCB_PASS (r.fillB && r.testB)
      let b2 := ((b1.put F.IDN_CAP_TILE_PRESENT r.tiles).put F.IDN_CAP_CC_PRESENT
        (b2n (r.fillA && r.testA) + 2 * b2n (r.fillB && r.testB))).put F.SYS_STATE_BOOT_SEL r.strap
      { b2 with prec := { b2.prec with fillTick := b2.tick }, pair := { b2.pair with wdogTick := b2.tick, selfTick := [(0, b2.tick), (1, b2.tick)] } }
    (r.pt = false → exec (.fillDone r) s = .next { s with hw := shown.toFault 0x0A }) ∧
    (r.pt = true → r.fillA = false → r.fillB = false → exec (.fillDone r) s = .next { s with hw := shown.toFault 0x0B }) ∧
    (r.pt = true → (r.fillA && r.testA) = true → (r.fillB && r.testB) = true →
      exec (.fillDone r) s = .next { s with hw := { ((shown.put F.IDN_ACTIVE 0).put F.PAIR_STAT_SB_STATE 2).putB F.PAIR_STAT_MIRROR_UP true with phase := .verify }.showStandby.settlePower }) ∧
    (r.pt = true → (r.fillA && r.testA) = false → (r.fillB && r.testB) = true →
      exec (.fillDone r) s = .next { s with hw := { ((shown.put F.IDN_ACTIVE 1).put F.PAIR_STAT_SB_STATE 5).putB F.PAIR_STAT_MIRROR_UP false with phase := .verify }.showStandby.settlePower })) ∧
  (∀ s : State, s.hw.phase = .verify → s.hw.get F.SYS_STATE_BOOT_SEL ≠ 3 →
    exec (.verifyDone 1) s = .next { s with hw := s.hw.toFault 1 } ∧
    (let b1 := s.hw.setFlash (rejectBooted s.hw.boot.flash)
     let l := runTries (b1.get F.IDN_STEP_MODULE_STEP) b1.boot.fuses b1.boot.flash (slotTries b1.boot.flash (b1.get F.SYS_STATE_BOOT_SEL))
     exec (.verifyDone 0) s = .next { s with hw := (b1.countDecFails l).verified l })) ∧
  (∀ (s : State) (bytes : List Byte), s.hw.phase = .verify → s.hw.get F.SYS_STATE_BOOT_SEL = 3 →
    let l := bytes.map (·.toNat)
    let d := (l.drop 4).take (u32 l 0)
    4 + u32 l 0 ≤ l.length →
      let v := verify (s.hw.get F.IDN_STEP_MODULE_STEP) s.hw.boot.fuses d
      ∃ c : Block, exec (.recoveryLoad bytes) s = .next { s with hw := match v.err with | none => c.toSafe ⟨0, 0, 0⟩ v.secs | some e => if v.codeOk then c.toSafe e v.secs else c.faultWith e } ∧
        (v.err = none → c.get F.IDN_CFGGEN = u32 d 0x0C % 2 ^ 32) ∧ (v.err = none ∨ v.codeOk = true → c.boot.image = some d)) ∧
  (∀ (s : State) (cal : List (Nat × List Nat)), Instr.wf (.configureDone cal) = true → s.hw.phase = .configure →
    (∀ e, imageConflict s.hw.imageSecs = some e → exec (.configureDone cal) s = .next { s with hw := s.hw.toSafe e s.hw.imageSecs }) ∧
    (imageConflict s.hw.imageSecs = none → bitAt (u8 (s.hw.boot.image.getD []) 0x15) 0 = false →
      (s.hw.applyImage s.hw.imageSecs).phase = .configure →
      exec (.configureDone cal) s = .next { s with hw := ((s.hw.applyImage s.hw.imageSecs).configureCal cal).enterJoin })) ∧
  (∀ s : State, s.hw.phase = .fault → s.hw.boot.reportTick.getD 0 + sTicks ≤ s.hw.tick → s.hw.get F.SYS_BOOT_ERR_CODE = 0x0A →
    exec .faultReport s = .next { s with hw := { s.hw.emit (.svc [76, 77, 65, 32, 70, 65, 85, 76, 84, 32, 48, 65]) with boot := { s.hw.boot with reportTick := some s.hw.tick } } })

/-- Reseat empties every queue and keeps its settings. Where reseat may complete (entering Live from Join, or in Live), RESEAT_COMPLETE answers a next
state in phase Live whose reseat has ended; every uncommitted fragment is gone and no epoch still in progress counts; the block before the power votes
are acted on has WR, PUB, RD, MARK and REL of every queue at 0 and an empty front slot, and enable, base, size, ALIGN and reader as they were. (R413) -/
def Obligations.ReseatEmptiesTheQueues : Prop :=
  ∀ s : State, s.hw.reseatReady = true →
    ∃ c : Block, exec .reseatComplete s = .next { s with hw := c.settlePower } ∧ c.phase = .live ∧ c.reseat = false ∧
      c.master.beat = s.hw.tick ∧ (∀ f ∈ c.evb.frags, f.st = .committed) ∧ (∀ e ∈ c.evb.epochs, e.counts = false) ∧
      ∀ q < 8,
        c.get64 (F.EGQ_WR_LO q) (F.EGQ_WR_HI q) = 0 ∧ c.get64 (F.EGQ_PUB_LO q) (F.EGQ_PUB_HI q) = 0 ∧
        c.get64 (F.EGQ_RD_LO q) (F.EGQ_RD_HI q) = 0 ∧ c.get64 (F.EGQ_MARK_LO q) (F.EGQ_MARK_HI q) = 0 ∧
        c.get64 (F.EGQ_REL_LO q) (F.EGQ_REL_HI q) = 0 ∧ (c.queue q).front = [] ∧
        c.get (F.EGQ_CFG_EN q) = s.hw.get (F.EGQ_CFG_EN q) ∧ c.get (F.EGQ_CFG_ACTIVE q) = s.hw.get (F.EGQ_CFG_ACTIVE q) ∧
        c.get (F.EGQ_CFG_BASE_64M q) = s.hw.get (F.EGQ_CFG_BASE_64M q) ∧ c.get (F.EGQ_CFG_SIZE_64M q) = s.hw.get (F.EGQ_CFG_SIZE_64M q) ∧
        c.get (F.EGQ_CFG_ALIGN q) = s.hw.get (F.EGQ_CFG_ALIGN q) ∧ c.get (F.EGQ_RDR_ANY q) = s.hw.get (F.EGQ_RDR_ANY q) ∧
        c.get (F.EGQ_RDR_NODE q) = s.hw.get (F.EGQ_RDR_NODE q)

/-- Each SEC command is taken, sets BUSY, has its effect and keeps its RESULT for the end. While no SEC command or pass-through operation runs, a write of
the nine command words to SEC_CMD that acts at once is answered OK with BUSY set and the result kept: NEW_NONCE draws 32 bytes; QUOTE without a nonce
ends BAD_ARG and with one puts the signed quote into SEC_QUOTE and consumes the nonce; CONFIRM of a running container outside recovery ends a trial
and advances the counters; OPEN_NVM, ADD_KEY, REVOKE_KEY and DEBUG_OPEN consume the nonce and with a bad signature end BAD_SIG, with a good one act;
CLOSE_NVM closes the pass-through; VERIFY_SLOT with the pass-through closed ends BAD_ARG, and with a container that Verify or the conflict check
refuses ends VERIFY_FAIL with the record unchanged. The layout of SEC_CMD_BUF and BAD_ARG where the spec names no code are the model's choices (log
entry 24). (R94, R109, R110, R111, R112, R113, R114, R117, R118, spec/03_startup_image_trust.md) -/
def Obligations.SecCommandsRun : Prop :=
  ∀ (a : Access) (s : State), a.wf = true → s.hw.secBusy = false →
    let taken (op : Nat) (c : Block) (result : Nat) : State :=
      { s with hw := s.hw.answered a 0x110010 op ({ c.put F.SEC_CMD_STAT_BUSY 1 with boot := { c.boot with run := some ⟨op, result⟩ } }, .ok) }
    let buf := s.hw.cmdBuf
    let noNonce := s.hw.setNonce none
    (s.hw.acts a 0x110010 1 = true →
      exec (.newNonce a) s = .next (taken 1 (s.hw.setNonce (some ((List.range 32).map fun i => Config.nonceByte s.hw.free i % 256))).drawn 0)) ∧
    (s.hw.acts a 0x110010 2 = true → s.hw.boot.nonce = none → exec (.quote a) s = .next (taken 2 s.hw 2)) ∧
    (∀ n, s.hw.acts a 0x110010 2 = true → s.hw.boot.nonce = some n →
      exec (.quote a) s = .next (taken 2
        ((s.hw.putSec 0x110800 (s.hw.quoteBody n ++ beBytes 96 (Config.quoteSig (s.hw.quoteBody n)))).setNonce none) 0)) ∧
    (∀ d, s.hw.acts a 0x110010 3 = true → s.hw.boot.image = some d → s.hw.get F.SYS_STATE_BOOT_SEL ≠ 3 → s.hw.flag F.SYS_STATE_TRIAL = true →
      let slot := s.hw.get F.SYS_STATE_SLOT
      let b1 := (s.hw.setFlash (recordSlot (recordSlot s.hw.boot.flash slot .confirmed) (1 - slot) .rejected)).put F.SYS_STATE_TRIAL 0
      let fuses := b1.boot.fuses.advance (u8 (sectionBytes s.hw.imageSecs 1) 8) (u8 (sectionBytes s.hw.imageSecs 2) 8) (u8 d 0x14)
      exec (.confirm a) s = .next (taken 3 { b1 with boot := { b1.boot with fuses := fuses } } 0)) ∧
    (s.hw.acts a 0x110010 4 = true → s.hw.signedCmd 4 (buf.take 4) ((buf.drop 4).take 96) = false →
      exec (.openNvm a) s = .next (taken 4 noNonce 1)) ∧
    (s.hw.acts a 0x110010 4 = true → s.hw.signedCmd 4 (buf.take 4) ((buf.drop 4).take 96) = true →
      u32 (buf.take 4) 0 = 1 - s.hw.get F.SYS_STATE_SLOT →
      exec (.openNvm a) s = .next (taken 4 ((noNonce.put F.SEC_NVM_CTRL_OPEN 1).put F.SEC_NVM_CTRL_SLOT (1 - s.hw.get F.SYS_STATE_SLOT)) 0)) ∧
    (s.hw.acts a 0x110010 5 = true → exec (.closeNvm a) s = .next (taken 5 (s.hw.put F.SEC_NVM_CTRL_OPEN 0) 0)) ∧
    (s.hw.acts a 0x110010 6 = true → s.hw.flag F.SEC_NVM_CTRL_OPEN = false → exec (.verifySlot a) s = .next (taken 6 s.hw 2)) ∧
    (s.hw.acts a 0x110010 6 = true → s.hw.flag F.SEC_NVM_CTRL_OPEN = true →
      let v := verify (s.hw.get F.IDN_STEP_MODULE_STEP) s.hw.boot.fuses (slotContainer s.hw.boot.flash (s.hw.get F.SEC_NVM_CTRL_SLOT))
      v.decFail = false →
      if v.err.isSome || (imageConflict v.secs).isSome then exec (.verifySlot a) s = .next (taken 6 s.hw 4)
      else exec (.verifySlot a) s = .next (taken 6 (s.hw.setFlash (flashProgram (flashErase s.hw.boot.flash
        (recordBase (s.hw.get F.SEC_NVM_CTRL_SLOT)) 0x10000) (recordBase (s.hw.get F.SEC_NVM_CTRL_SLOT)) (slotEntry .trial 0))) 0)) ∧
    (s.hw.acts a 0x110010 7 = true → s.hw.boot.fuses.keys = [] → u32 (buf.take 101) 0 ≤ 3 → (keyPoint ((buf.take 101).drop 4)).isSome = true →
      let fuses := { s.hw.boot.fuses with keys := [(u32 (buf.take 101) 0, false, (buf.take 101).drop 4)] }
      exec (.addKey a) s = .next (taken 7 { s.hw with boot := { s.hw.boot with fuses := fuses } } 0)) ∧
    (s.hw.acts a 0x110010 7 = true → s.hw.boot.fuses.keys ≠ [] → s.hw.signedCmd 7 (buf.take 101) ((buf.drop 104).take 96) = false →
      exec (.addKey a) s = .next (taken 7 noNonce 1)) ∧
    (∀ k, s.hw.acts a 0x110010 8 = true → s.hw.signedCmd 8 (buf.take 4) ((buf.drop 4).take 96) = true →
      s.hw.boot.fuses.activeKey (u32 (buf.take 4) 0) = some k →
      if (s.hw.boot.fuses.keys.filter fun e => !e.2.1).length ≤ 1 then exec (.revokeKey a) s = .next (taken 8 noNonce 3)
      else
        let fuses := { s.hw.boot.fuses with keys := insertKey s.hw.boot.fuses.keys (u32 (buf.take 4) 0) (true, k) }
        exec (.revokeKey a) s = .next (taken 8 { noNonce with boot := { noNonce.boot with fuses := fuses } } 0)) ∧
    (s.hw.acts a 0x110010 9 = true → s.hw.boot.nonce = some ((buf.take 36).take 32) →
      s.hw.signedCmd 9 (buf.take 36) ((buf.drop 36).take 96) = true →
      exec (.debugOpen a) s = .next (taken 9 (noNonce.put F.SEC_DEBUG (u32 (buf.take 36) 32)) 0)) ∧
    (s.hw.acts a 0x110010 9 = true → s.hw.boot.nonce ≠ some ((buf.take 36).take 32) →
      exec (.debugOpen a) s = .next (taken 9 noNonce 1))

/-- A running SEC command ends; pass-through operations start, are denied, and end. SEC_CMD_DONE clears BUSY, shows the kept RESULT and latches source 216
with it. An OP write with the pass-through open and its range allowed sets NVM_BUSY and keeps the operation; a denied erase or program is answered
ACCESS_DENIED with NVM_RESULT DENIED and nothing done; a read is never denied; with the pass-through closed NVM_RESULT reads CLOSED. At the end a read
leaves its 256 bytes in SEC_NVM_BUF, an erase and a program have changed the flash, a failure reads FLASH_ERR and a poll timeout TIMEOUT, with free
bytes in the range (log entry 25). (R113, R114, R116, R91, spec/03_startup_image_trust.md) -/
def Obligations.SecAndFlashOperationsEnd : Prop :=
  (∀ (s : State) (r : SecRun), s.hw.boot.run = some r → s.hw.ccOn = true →
    exec .secCmdDone s = .next { s with hw := ({ (s.hw.put F.SEC_CMD_STAT_BUSY 0).put F.SEC_CMD_STAT_RESULT r.result with boot := { s.hw.boot with run := none } }.raise 216 r.result).settlePower }) ∧
  (∀ (a : Access) (s : State), a.wf = true → s.hw.flag F.SEC_NVM_CTRL_NVM_BUSY = false →
    let started (op : Nat) : State :=
      let r : NvmRun := ⟨op, s.hw.get F.SEC_NVM_ADDR, s.hw.secBytes 0x110600 64, s.hw.tick⟩
      { s with hw := s.hw.answered a 0x110024 op ({ s.hw.put F.SEC_NVM_CTRL_NVM_BUSY 1 with boot := { s.hw.boot with nvm := some r } }, .ok) }
    let addr := s.hw.get F.SEC_NVM_ADDR
    (s.hw.flag F.SEC_NVM_CTRL_OPEN = false → s.hw.acts a 0x110024 3 = true →
      exec (.nvmRead a) s = .next { s with hw := s.hw.answered a 0x110024 3 (s.hw.put F.SEC_NVM_CTRL_NVM_RESULT 2, .ok) }) ∧
    (s.hw.flag F.SEC_NVM_CTRL_OPEN = true →
      (s.hw.acts a 0x110024 1 = true →
        if nvmDenied (s.hw.get F.SEC_NVM_CTRL_SLOT) (addr / 0x10000 * 0x10000) 0x10000 then
          exec (.nvmErase64k a) s = .next { s with hw := s.hw.answered a 0x110024 1 (s.hw.put F.SEC_NVM_CTRL_NVM_RESULT 1, .accessDenied) }
        else exec (.nvmErase64k a) s = .next (started 1)) ∧
      (s.hw.acts a 0x110024 2 = true →
        if nvmDenied (s.hw.get F.SEC_NVM_CTRL_SLOT) addr 256 then
          exec (.nvmProgram a) s = .next { s with hw := s.hw.answered a 0x110024 2 (s.hw.put F.SEC_NVM_CTRL_NVM_RESULT 1, .accessDenied) }
        else exec (.nvmProgram a) s = .next (started 2)) ∧
      (s.hw.acts a 0x110024 3 = true → exec (.nvmRead a) s = .next (started 3)))) ∧
  (∀ (s : State) (r : NvmRun), s.hw.boot.nvm = some r →
    (∀ ok, r.op = 3 → exec (.nvmOpDone ok) s = .next { s with hw := (s.hw.putSec 0x110600 (flashBytes s.hw.boot.flash r.addr 256)).nvmEnd 0 }) ∧
    (r.op = 1 → exec (.nvmOpDone true) s = .next { s with hw := (s.hw.setFlash (flashErase s.hw.boot.flash (r.addr / 0x10000 * 0x10000) 0x10000)).nvmEnd 0 }) ∧
    (r.op = 2 → exec (.nvmOpDone true) s = .next { s with hw := (s.hw.setFlash (flashProgram s.hw.boot.flash r.addr r.data)).nvmEnd 0 }) ∧
    (r.op ≠ 3 → exec (.nvmOpDone false) s = .next { s with hw := ((s.hw.setFlash (s.hw.flashTorn r)).drawn).nvmEnd 3 }) ∧
    (r.op = 1 → r.tick + 3 * sTicks ≤ s.hw.tick →
      exec .nvmPollTimeout s = .next { s with hw := ((s.hw.setFlash (s.hw.flashTorn r)).drawn).nvmEnd 4 }) ∧
    (r.op = 2 → r.tick + 5 * msTicks ≤ s.hw.tick →
      exec .nvmPollTimeout s = .next { s with hw := ((s.hw.setFlash (s.hw.flashTorn r)).drawn).nvmEnd 4 }))

/-- While a SEC or pass-through operation runs, commands and the restart key are refused and the operation goes on. While BUSY is 1 or a pass-through
operation is in progress, a SEC command and the restart key that act at once are answered BUSY_RESOURCE with nothing else changed, and an OP write
while NVM_BUSY is 1 likewise; else the key is answered OK and the restart follows the answer. (R86, R115, R116, spec/03_startup_image_trust.md) -/
def Obligations.RunningOperationsRefuseCommands : Prop :=
  ∀ (a : Access) (s : State), a.wf = true →
    (s.hw.secBusy = true →
      (∀ c : Instr × Nat, c ∈ [(.newNonce a, 1), (.quote a, 2), (.confirm a, 3), (.openNvm a, 4), (.closeNvm a, 5), (.verifySlot a, 6),
          (.addKey a, 7), (.revokeKey a, 8), (.debugOpen a, 9)] →
        s.hw.acts a 0x110010 c.2 = true → exec c.1 s = .next { s with hw := s.hw.answered a 0x110010 c.2 (s.hw, .busyResource) }) ∧
      (s.hw.acts a 0x10010 restartKey = true →
        exec (.sysRestart a (BitVec.ofNat 32 restartKey)) s = .next { s with hw := s.hw.answered a 0x10010 restartKey (s.hw, .busyResource) })) ∧
    (s.hw.flag F.SEC_NVM_CTRL_NVM_BUSY = true →
      ∀ c : Instr × Nat, c ∈ [(.nvmErase64k a, 1), (.nvmProgram a, 2), (.nvmRead a, 3)] →
        s.hw.acts a 0x110024 c.2 = true → exec c.1 s = .next { s with hw := s.hw.answered a 0x110024 c.2 (s.hw, .busyResource) }) ∧
    (s.hw.secBusy = false → s.hw.acts a 0x10010 restartKey = true →
      ∃ c : Block, exec (.sysRestart a (BitVec.ofNat 32 restartKey)) s = .next { s with hw := c } ∧
        c.phase = .off ∧ c.get F.SYS_STATE_RESET_CAUSE = 3 ∧ ∀ f : Field, f.key ≠ F.SYS_STATE_RESET_CAUSE.key →
          identityKey f.key = false → keptKey f.key = false → f.key ≠ (F.PWR_D_STAT_STATE 17).key → c.get f = f.reset)

/-- Register writes: the operation of the register, held low words, whole wide values, the snapshot's arming. A WRITE of one word that acts at once leaves
what the register's operation leaves of the module and is answered with its status (where no operation of its own stands at the address: each field by
its access code). A host's, a module's or the Owl's write that would change a locked Tier E field leaves that field as it is, does the rest, and is
answered TIER_LOCKED and counted; where every writable field is locked it does nothing else. A _LO write of an RW pair is held for its requester and
changes no register. The _HI write that follows applies both words at one tick and empties the hold. SYS_SNAP with ARM stores the masks and clears
DONE, OFF and CANCELLED. An enabled pin unit whose pin's FUNCTION is not TRIGGER is refused BUSY_RESOURCE and counted, otherwise its fields are
written. (R6, R7, R74, R76, R582, R78, R275, R576, R577, spec/21_register_access_and_test.md, spec/02_coherence_model.md) -/
def Obligations.RegisterWritesAct : Prop :=
  (∀ (a : Access) (addr : Nat) (w : Word) (s : State), a.wf = true → addr < 2 ^ 40 → addr % 4 = 0 → s.hw.acts a addr w.toNat = true →
    exec (.registerWrite a addr 1 [w] true) s =
      .next { s with hw := s.hw.answered a addr w.toNat (regOp a.who addr none w.toNat (s.hw.touched addr)) }) ∧
  (∀ (a : Access) (addr : Nat) (w : Word) (s : State), a.wf = true → addr < 2 ^ 40 → addr % 4 = 0 → s.hw.lands a addr w.toNat = true →
    a.who.isWarren = false →
    let c := s.hw.touched addr
    let v := s.hw.unlockedWord a addr w.toNat
    (s.hw.allLocked_ a.who addr = true → exec (.registerWrite a addr 1 [w] true) s =
      .next { s with hw := s.hw.answered a addr w.toNat (if v.2 = true then (c.bump F.SYS_TIERLOCK_CNT, .tierLocked) else (c, .ok)) }) ∧
    (s.hw.allLocked_ a.who addr = false → v.2 = true → (regOp a.who addr none v.1 c).2 = .ok → exec (.registerWrite a addr 1 [w] true) s =
      .next { s with hw := s.hw.answered a addr w.toNat ((regOp a.who addr none v.1 c).1.bump F.SYS_TIERLOCK_CNT, .tierLocked) })) ∧
  (∀ (a : Access) (w : Word) (s : State), a.wf = true → s.hw.acts a 0x10100 (setBit w.toNat 31 true) = true →
    let b1 := ((s.hw.writeFields 0x10100 (setBit w.toNat 31 true)).put F.SYS_SNAP_STAT_DONE 0).put F.SYS_SNAP_STAT_OFF 0
    let b2 := (b1.put F.SYS_SNAP_STAT_CANCELLED 0).put F.SYS_SNAP_STAT_PENDING 1
    exec (.snapArm a w) s = .next { s with hw := s.hw.answered a 0x10100 (setBit w.toNat 31 true) (b2, .ok) }) ∧
  (∀ (a : Access) (addr : Nat) (w : Word) (s : State), a.wf = true → addr < 2 ^ 40 → addr % 4 = 0 → s.hw.takes a = true →
    s.hw.admits a addr true = true → wideAt addr = .lo → hasRw addr = true → s.hw.lockedBits a.who addr = [] →
    exec (.wideLoWrite a addr w) s = .next { s with hw := s.hw.answered a addr w.toNat ((s.hw.touched addr).hold a.who addr w.toNat, .ok) } ∧
    ((s.hw.touched addr).hold a.who addr w.toNat).regs = s.hw.regs) ∧
  (∀ (a : Access) (addr lo : Nat) (w : Word) (s : State), a.wf = true → addr < 2 ^ 40 → addr % 8 = 4 → s.hw.takes a = true →
    s.hw.admits a addr true = true → wideAt addr = .hi → s.hw.lockedBits a.who addr = [] → s.hw.lockedBits a.who (addr - 4) = [] →
    s.hw.heldFor a.who addr = some lo → s.hw.mirrorUp = false → regOp a.who addr = fieldsOp addr →
    let b1 := (((s.hw.touched addr).dropHeld a.who).writeFields (addr - 4) lo).writeFields addr w.toNat
    exec (.wideHiWrite a addr w) s = .next { s with hw := s.hw.finished a addr w.toNat (b1.rewritten addr true, .ok) }) ∧
  (∀ (a : Access) (u : Nat) (w : Word) (s : State), a.wf = true → u < 8 →
    let addr := 0x76000 + 0x10 * (1984 + u)
    let v := setBit w.toNat 31 true
    s.hw.acts a addr v = true →
    (s.hw.pinFunction u ≠ 3 →
      exec (.pinUnitEnable a u w) s = .next { s with hw := s.hw.answered a addr v (s.hw.bump F.TRG_REFUSE_CNT, .busyResource) }) ∧
    (s.hw.pinFunction u = 3 →
      exec (.pinUnitEnable a u w) s = .next { s with hw := s.hw.answered a addr v (s.hw.writeFields addr v, .ok) }))

/-- Register reads: RC fields clear, a _LO read latches the high half, a _HI read takes it. A READ of one word of a register that is no part of a wide
value answers the word of this tick with OK and clears its RC fields after that. A _LO read answers its word, keeps the high half of the same tick in
its requester's shadow and clears its RC fields. A _HI read with the shadow of its register answers the shadow's half with OK and empties it; without
it, it answers the live half with UNLATCHED. None of them changes anything but what is named, the ACCESS vote's age and the answer. (R6, R71, R72,
R73, R576, R577, spec/21_register_access_and_test.md, spec/02_coherence_model.md) -/
def Obligations.ReadsLatchAndClear : Prop :=
  ∀ (a : Access) (addr : Nat) (s : State), a.wf = true → addr < 2 ^ 40 → addr % 4 = 0 → s.hw.reads a addr = true →
    let b := s.hw.touched addr
    (wideAt addr = .no →
      exec (.rcCounterRead a addr 1) s = .next { s with hw := s.hw.readAnswered a addr (b.clearRc addr) .ok (b.regWord addr) }) ∧
    (wideAt addr = .lo →
      exec (.wideLoRead a addr 1) s =
        .next { s with hw := s.hw.readAnswered a addr ((b.setShadow a.who addr (b.regWord (addr + 4))).clearRc addr) .ok (b.regWord addr) }) ∧
    (∀ sh, wideAt addr = .hi → lookup b.access.shadows a.who.code = some sh → sh.addr + 4 = addr →
      exec (.wideHiRead a addr) s = .next { s with hw := s.hw.readAnswered a addr (b.dropShadow a.who) .ok sh.high }) ∧
    (wideAt addr = .hi → (∀ sh, lookup b.access.shadows a.who.code = some sh → sh.addr + 4 ≠ addr) →
      exec (.wideHiRead a addr) s = .next { s with hw := s.hw.readAnswered a addr b .unlatched (b.regWord addr) })

/-- What a register write meets before its register. A request of one word that is taken up is answered, with no register's operation: ACCESS_DENIED and
counted in SYS_DENY_CNT for a requester that is not authorised, whatever the address; NO_REG and counted in SYS_BADADDR for an authorised host or
module at an address of no register and no domain; DOMAIN_OFF and counted in SYS_OFFACC at a tile whose domain is off with WAKE_ON_ACCESS 0. A WRITE
whose COUNT is 0 or above 64, whose address is unaligned or whose payload has another length is answered BAD_REQUEST with COUNT 0 and counted in
SYS_BADREQ_CNT, and nothing is written. (R21, R22, R24, R25, R108, R575, R578, R581, spec/21_register_access_and_test.md, spec/01_module_anatomy.md) -/
def Obligations.RefusedAccesses : Prop :=
  ∀ (a : Access) (addr : Nat) (w : Word) (s : State), a.wf = true → addr < 2 ^ 40 → s.hw.takes a = true → s.hw.mirrorUp = false →
    (addr % 4 = 0 → inWindow addr = false → apertureAt addr = none → s.hw.authorised a.who = false →
      exec (.registerWrite a addr 1 [w] true) s =
        .next { s with hw := s.hw.finished a addr w.toNat (s.hw.bump F.SYS_DENY_CNT, .accessDenied) }) ∧
    (addr % 4 = 0 → inWindow addr = false → apertureAt addr = none → s.hw.authorised a.who = true → a.who.isWarren = false →
      regRow addr = none → domainAt addr = none →
      exec (.registerWrite a addr 1 [w] true) s = .next { s with hw := s.hw.finished a addr w.toNat (s.hw.bump F.SYS_BADADDR, .noReg) }) ∧
    (∀ t, addr % 4 = 0 → tileOf addr = some t → s.hw.authorised a.who = true → a.who.isWarren = false → tierOAt addr = false →
      s.hw.get (F.PWR_D_STAT_STATE t) ≠ 2 → s.hw.flag (F.PWR_D_CTRL_WAKE_ON_ACCESS t) = false →
      exec (.registerWrite a addr 1 [w] true) s = .next { s with hw := s.hw.finished a addr w.toNat (s.hw.bump F.SYS_OFFACC, .domainOff) }) ∧
    (∀ (count : Nat) (data : List Word) (zeroOk : Bool), count < 256 →
      count = 0 ∨ 64 < count ∨ addr % 4 ≠ 0 ∨ data.length ≠ count ∨ zeroOk = false →
      exec (.registerWrite a addr count data zeroOk) s =
        .next { s with hw := (((s.hw.bump F.SYS_BADREQ_CNT).reply a ⟨2, addr, 0, .badRequest, []⟩).actCritical s.hw).flushMirror })

/-- A repeated TAG gets its stored answer and acts no second time; during a gap a request waits. For a register write of a node whose TAG is among its
stored answers, the stored answer leaves again and nothing else changes. During a switch-over gap, a request of a requester is kept at the end of the
waiting requests and nothing else changes. (R579, R56, R583, spec/21_register_access_and_test.md) -/
def Obligations.RepeatedTagsAreAnsweredAgain : Prop :=
  ∀ (n tag addr count : Nat) (data : List Word) (zeroOk : Bool) (s : State),
    let a : Access := ⟨.node n, tag⟩
    a.wf = true → addr < 2 ^ 40 → count < 256 → s.hw.serving = true →
    (∀ x, s.hw.pair.gap = none → s.hw.behind a.who = false → s.hw.stored a = some x → s.hw.pair.queue = [] →
      exec (.registerWrite a addr count data zeroOk) s = .next { s with hw := s.hw.post (.node n) 0 (.answer tag x) }) ∧
    (∀ t0, s.hw.pair.gap = some t0 →
      let later := s.hw.access.waiting ++ [(a, writeRequest addr count (data.map (·.toNat)) zeroOk)]
      exec (.registerWrite a addr count data zeroOk) s = .next { s with hw := { s.hw with access := { s.hw.access with waiting := later } } })

/-- A mirrored write changes no register before the standby acknowledges it, and then acts. With the mirror up, a write of one word to a register with an
RW field that the mirror carries, which the register would accept, is appended to the mirror's items at this tick and nothing else changes. When the
standby acknowledges that item as the oldest, the write is carried out and answered, the rest of the items standing. (R60, R564, R380, R409,
spec/20_concentrator_pair.md) -/
def Obligations.MirroredWritesWait : Prop :=
  (∀ (a : Access) (addr : Nat) (w : Word) (s : State), a.wf = true → addr < 2 ^ 40 → addr % 4 = 0 → s.hw.takes a = true →
    s.hw.mirrorUp = true → mirrored addr w.toNat = true → (writeWord a.who addr w.toNat s.hw).2 = .ok →
    let items := s.hw.pair.queue ++ [⟨s.hw.tick, .request a (.write addr [w.toNat])⟩]
    exec (.registerWrite a addr 1 [w] true) s = .next { s with hw := { s.hw with pair := { s.hw.pair with queue := items } } }) ∧
  (∀ (s : State) (x : MirrorItem) (l : List MirrorItem) (a : Access) (addr : Nat) (words : List Nat),
    s.hw.pair.queue = x :: l → x.kind = .request a (.write addr words) → s.hw.mirrorUp = true → s.hw.pair.gap = none → s.hw.serving = true →
    let b := { s.hw with pair := { s.hw.pair with queue := l } }
    exec .mirrorAck s = .next { s with hw := (((b.doWrite a addr words).actCritical b).runWaiting).flushMirror })

/-- Check-value units: claim, feed, running value, release, lapse, range jobs. A CLAIM of a free unit makes the writer its owner with VAL all ones; a unit
claimed by another refuses every write with BUSY_RESOURCE and counts it. The owner's writes keep its claim alive: FEED without a running job feeds
NBYTES bytes into VAL by CRC-32C, VAL replaces it, RELEASE frees the unit, GO starts a job over a range inside the DRAM window or ends it with
BAD_ARG, ABORT of a running job ends it ABORTED after a free number of bytes (log entry 31). A claim lapses 10 s after the owner's last access, and a
job that completes leaves its running value in VAL. (R389, R391, R392, R393, R395, spec/12_packing_and_check_values.md) -/
def Obligations.CheckUnitsAreClaimedFedAndFreed : Prop :=
  ∀ (a : Access) (u : Nat) (w : Word) (s : State), a.wf = true → u < 8 →
    let own := 0xb0100 + 0x40 * u
    let busy := s.hw.flag (F.CRC_U_STAT_BUSY u)
    let kept := s.hw.setCrcUnit u { s.hw.crcUnit u with last := s.hw.tick }
    (s.hw.flag (F.CRC_U_OWN_CLAIMED u) = false → s.hw.acts a own (2 ^ 29) = true →
      let c := ((s.hw.put (F.CRC_U_OWN_CLAIMED u) 1).put (F.CRC_U_OWN_LOCAL u) (crcOwner a.who).2).put (F.CRC_U_OWN_OWNER u) (crcOwner a.who).1
      exec (.crcClaim a u) s = .next { s with hw := s.hw.answered a own (2 ^ 29) ((c.put (F.CRC_U_VAL u) 0xFFFFFFFF).setCrcUnit u { s.hw.crcUnit u with last := s.hw.tick }, .ok) }) ∧
    (s.hw.flag (F.CRC_U_OWN_CLAIMED u) = true → s.hw.ownsCrc a.who u = false →
      let refused : Block × Status := (s.hw.bump F.CRC_REFUSE_CNT, .busyResource)
      (s.hw.acts a own (2 ^ 29) = true → exec (.crcClaim a u) s = .next { s with hw := s.hw.answered a own (2 ^ 29) refused }) ∧
      (s.hw.acts a own (2 ^ 28) = true → exec (.crcRelease a u) s = .next { s with hw := s.hw.answered a own (2 ^ 28) refused }) ∧
      (s.hw.acts a (0xb010c + 0x40 * u) w.toNat = true →
        exec (.crcFeed a u w) s = .next { s with hw := s.hw.answered a (0xb010c + 0x40 * u) w.toNat refused })) ∧
    (s.hw.flag (F.CRC_U_OWN_CLAIMED u) = true → s.hw.ownsCrc a.who u = true →
      (s.hw.acts a own (2 ^ 28) = true →
        exec (.crcRelease a u) s = .next { s with hw := s.hw.answered a own (2 ^ 28) (((kept.put (F.CRC_U_OWN_CLAIMED u) 0).put (F.CRC_U_OWN_LOCAL u) 0).put (F.CRC_U_OWN_OWNER u) 0, .ok) }) ∧
      (busy = false → s.hw.acts a (0xb010c + 0x40 * u) w.toNat = true →
        let v := (crc32Run (BitVec.ofNat 32 (kept.get (F.CRC_U_VAL u))) (leBytes (kept.crcBytes u) w.toNat)).toNat
        exec (.crcFeed a u w) s = .next { s with hw := s.hw.answered a (0xb010c + 0x40 * u) w.toNat (kept.put (F.CRC_U_VAL u) v, .ok) }) ∧
      (busy = false → s.hw.acts a (0xb0108 + 0x40 * u) w.toNat = true →
        exec (.crcValWrite a u w) s = .next { s with hw := s.hw.answered a (0xb0108 + 0x40 * u) w.toNat (kept.put (F.CRC_U_VAL u) w.toNat, .ok) }) ∧
      (busy = false → s.hw.acts a (0xb0120 + 0x40 * u) (2 ^ 31) = true →
        let from_ := kept.get (F.CRC_U_ADDR_LO u) + 2 ^ 32 * kept.get (F.CRC_U_ADDR_HI u)
        let n := kept.get (F.CRC_U_LEN u)
        let c := (kept.put (F.CRC_U_STAT_POISON u) 0).put (F.CRC_U_DONE u) 0
        if 0x0100000000 ≤ from_ ∧ from_ + n ≤ 0x0700000000 then
          exec (.crcRangeGo a u) s = .next { s with hw := s.hw.answered a (0xb0120 + 0x40 * u) (2 ^ 31) ((c.put (F.CRC_U_STAT_BUSY u) 1).setCrcUnit u { c.crcUnit u with job := some (from_, n) }, .ok) }
        else exec (.crcRangeGo a u) s = .next { s with hw := s.hw.answered a (0xb0120 + 0x40 * u) (2 ^ 31) (c.put (F.CRC_U_STAT_RESULT u) 2, .ok) }) ∧
      (∀ from_ n, (kept.crcUnit u).job = some (from_, n) → s.hw.acts a (0xb0120 + 0x40 * u) (2 ^ 30) = true →
        exec (.crcRangeAbort a u) s = .next { s with hw := s.hw.answered a (0xb0120 + 0x40 * u) (2 ^ 30) ((kept.crcEnd u from_ (Config.rangeDone s.hw.free % (n + 1)) 1).drawn, .ok) })) ∧
    (s.hw.ccOn = true → s.hw.flag (F.CRC_U_OWN_CLAIMED u) = true → (s.hw.crcUnit u).last + 10 * sTicks ≤ s.hw.tick →
      exec (.crcClaimTimeout u) s = .next { s with hw := ((s.hw.put (F.CRC_U_OWN_CLAIMED u) 0).put (F.CRC_U_OWN_LOCAL u) 0).put (F.CRC_U_OWN_OWNER u) 0 }) ∧
    (∀ from_ n, s.hw.ccOn = true → (s.hw.crcUnit u).job = some (from_, n) → s.hw.upsetsIn from_ n = [] →
      ∃ t, exec (.crcRangeDone u) s = .next t ∧ t.pending = s.pending ∧ t.hw.dram = s.hw.dram ∧
        t.hw.get (F.CRC_U_VAL u) = (crc32Run (BitVec.ofNat 32 (s.hw.get (F.CRC_U_VAL u))) (s.hw.load from_ n)).toNat ∧
        t.hw.get (F.CRC_U_DONE u) = n % 2 ^ 32 ∧ t.hw.get (F.CRC_U_STAT_BUSY u) = 0 ∧ t.hw.get (F.CRC_U_STAT_RESULT u) = 0 ∧
        t.hw.flag (F.CRC_U_STAT_POISON u) = s.hw.poisoned from_ n ∧ (t.hw.crcUnit u).job = none)

/-- A decompressor job is started, or refused while one runs, and its end stores what it wrote. GO keeps the job's ranges and sets BUSY; while a job runs,
and in Verify and Configure, it is refused BUSY_RESOURCE and counted. At the end a job whose ranges leave the decompressor area or overlap ends
BAD_ARG with no byte written; any other stores exactly the bytes that the decompressor gives from the source's bytes at DST, every other byte of DRAM
reading as before, shows the result and the output length, and frees the unit. (R376, R377, R379, R394, spec/12_packing_and_check_values.md) -/
def Obligations.DecompressorJobs : Prop :=
  (∀ (a : Access) (s : State), a.wf = true → s.hw.acts a 0xa011c (2 ^ 31) = true →
    if s.hw.flag F.LPS_DJ_STAT_BUSY = true ∨ s.hw.phase = .verify ∨ s.hw.phase = .configure then
      exec (.lpsDjGo a) s = .next { s with hw := s.hw.answered a 0xa011c (2 ^ 31) (s.hw.bump F.LPS_REFUSE_CNT, .busyResource) }
    else
      let job : DjJob := ⟨s.hw.get64 F.LPS_DJ_SRC_LO F.LPS_DJ_SRC_HI, s.hw.get F.LPS_DJ_LEN, s.hw.get64 F.LPS_DJ_DST_LO F.LPS_DJ_DST_HI,
        s.hw.get F.LPS_DJ_ULEN, s.hw.get F.LPS_DJ_CAP⟩
      exec (.lpsDjGo a) s = .next { s with hw := s.hw.answered a 0xa011c (2 ^ 31) ({ (s.hw.put F.LPS_DJ_STAT_BUSY 1).put F.LPS_DJ_OUT 0 with chk := { s.hw.chk with dj := some job } }, .ok) }) ∧
  (∀ (s : State) (j : DjJob), s.hw.ccOn = true → s.hw.chk.dj = some j → s.hw.upsetsIn j.src j.len = [] →
    s.hw.flag F.ECC_STAT_CRITICAL = false →
    let r := lpsUnpackPoison (s.hw.load j.src j.len) j.ulen (min j.cap (djTo - j.dst)) fun i => s.hw.poisoned (j.src + i) 1
    let out := if j.bad then [] else r.out
    ∃ t, exec .lpsDjDone s = .next t ∧ t.pending = s.pending ∧ t.hw.chk.dj = none ∧ t.hw.flag F.LPS_DJ_STAT_BUSY = false ∧
      t.hw.get F.LPS_DJ_STAT_RESULT = (if j.bad then LpsEnd.badArg else r.end_).code % 8 ∧ t.hw.get F.LPS_DJ_OUT = out.length % 2 ^ 32 ∧
      (∀ i (h : i < out.length), readByte t.hw.dram (j.dst + i) = out[i] % 256) ∧
      (∀ x, x < j.dst ∨ j.dst + out.length ≤ x → readByte t.hw.dram x = readByte s.hw.dram x))

/-- A queue's base, size and enable are written, or the whole write is refused. A write of EGQ_q_CFG that acts at once is refused BUSY_RESOURCE, counted
and changes nothing else where it moves base or size of a queue that is enabled, active or holds unreleased bytes, or onto another queue's units or
beyond the region, or sets EN with no size or over unreleased bytes; otherwise its fields are written and EN waits for the next epoch boundary
(ACTIVE, PUB, RD, MARK and REL stand). (R397, R398, R402, spec/13_egress_queue.md) -/
def Obligations.QueueConfigurationIsChecked : Prop :=
  ∀ (a : Access) (q : Nat) (w : Word) (s : State), a.wf = true → q < 8 → s.hw.acts a (0xc0100 + 0x80 * q) w.toNat = true →
    (let base := w.toNat / 2 ^ 8 % 2 ^ 6
     let size := w.toNat % 2 ^ 7
     let moves := base ≠ s.hw.get (F.EGQ_CFG_BASE_64M q) ∨ size ≠ s.hw.get (F.EGQ_CFG_SIZE_64M q)
     (moves ∧ (s.hw.flag (F.EGQ_CFG_EN q) = true ∨ s.hw.flag (F.EGQ_CFG_ACTIVE q) = true ∨ s.hw.qPub q ≠ s.hw.qRel q ∨ 64 < base + size)) ∨
       (bitAt w.toNat 31 = true ∧ size = 0) →
     exec (.egqCfgWrite a q w) s = .next { s with hw := s.hw.answered a (0xc0100 + 0x80 * q) w.toNat (s.hw.bump F.EGQ_REFUSE_CNT, .busyResource) }) ∧
    (s.hw.egqRefuses q w.toNat = false →
     exec (.egqCfgWrite a q w) s =
       .next { s with hw := s.hw.answered a (0xc0100 + 0x80 * q) w.toNat (s.hw.writeFields (0xc0100 + 0x80 * q) w.toNat, .ok) } ∧
     (s.hw.writeFields (0xc0100 + 0x80 * q) w.toNat).get (F.EGQ_CFG_EN q) = w.toNat / 2 ^ 31 % 2 ∧
     (s.hw.writeFields (0xc0100 + 0x80 * q) w.toNat).get (F.EGQ_CFG_SIZE_64M q) = w.toNat % 2 ^ 7 ∧
     (s.hw.writeFields (0xc0100 + 0x80 * q) w.toNat).get (F.EGQ_CFG_ACTIVE q) = s.hw.get (F.EGQ_CFG_ACTIVE q))

/-- MARK, REWIND, RELEASE and MARK_RELEASE of a reader. For a reader of the queue, MARK sets MARK to RD, REWIND sets RD to MARK and is counted, RELEASE
with MARK in queue space sets REL to the end of the last whole record at or before MARK (never back) and empties the front slot, with MARK inside the
front slot it changes nothing, and MARK_RELEASE does MARK and then RELEASE; a requester that is no reader is answered ACCESS_DENIED and counted.
Nothing else changes, DRAM included. (R400, R403, R408, R409, R60, spec/13_egress_queue.md) -/
def Obligations.MarkRewindRelease : Prop :=
  ∀ (a : Access) (q : Nat) (s : State), a.wf = true → q < 8 →
    let addr := 0xc0108 + 0x80 * q
    let x := s.hw.queue q
    let marked := (s.hw.put64 (F.EGQ_MARK_LO q) (F.EGQ_MARK_HI q) (s.hw.qRd q)).setQueue q { x with markFront := x.rdFront }
    let released (c : Block) : Block :=
      let y := c.queue q
      let rel := (y.ends.filter fun e => decide (e.1 ≤ c.qMark q)).foldl (fun r e => max r e.1) (c.qRel q)
      (c.put64 (F.EGQ_REL_LO q) (F.EGQ_REL_HI q) rel).setQueue q
        { y with ends := y.ends.filter (fun e => decide (rel < e.1)), front := [], rdFront := none }
    (s.hw.isReader a.who q = false → ∀ c : Instr × Nat, c ∈ [(.egqMark a q, 1), (.egqRewind a q, 2), (.egqRelease a q, 3), (.egqMarkRelease a q, 4)] →
      s.hw.acts a addr c.2 = true →
      exec c.1 s = .next { s with hw := s.hw.answered a addr c.2 (s.hw.bump (F.EGQ_DENY_CNT q), .accessDenied) }) ∧
    (s.hw.isReader a.who q = true →
      (s.hw.acts a addr 1 = true → exec (.egqMark a q) s = .next { s with hw := s.hw.answered a addr 1 (marked, .ok) }) ∧
      (s.hw.acts a addr 2 = true →
        exec (.egqRewind a q) s = .next { s with hw := s.hw.answered a addr 2 (((s.hw.put64 (F.EGQ_RD_LO q) (F.EGQ_RD_HI q) (s.hw.qMark q)).setQueue q { x with rdFront := x.markFront }).bump (F.EGQ_REWIND_CNT q), .ok) }) ∧
      (s.hw.acts a addr 3 = true → x.markFront = none →
        exec (.egqRelease a q) s = .next { s with hw := s.hw.answered a addr 3 (released s.hw, .ok) }) ∧
      (s.hw.acts a addr 3 = true → x.markFront.isSome = true →
        exec (.egqRelease a q) s = .next { s with hw := s.hw.answered a addr 3 (s.hw, .ok) }) ∧
      (s.hw.acts a addr 4 = true → x.rdFront = none →
        exec (.egqMarkRelease a q) s = .next { s with hw := s.hw.answered a addr 4 (released marked, .ok) }))

/-- Bulk reads of an aperture and of the DRAM window. A class 5 read of an aperture with N 1 by a reader takes the next entry from queue storage where RD
has reached no front slot: up to 64 bytes from RD up to PUB, tagged with their count, offset and ends, RD moves past them and READ_CNT counts the
entry; where nothing is readable it answers one empty entry. A requester that is no reader is denied and counted. A read of the bulk window at an
aligned address outside the excluded ranges, with the concentrator's DRAM on, answers the window's entries; an excluded address is answered
ACCESS_DENIED with no entry. DRAM and every queue's published content stand. (R21, R43, R403, R404, R405, R406, R584, spec/13_egress_queue.md,
spec/01_module_anatomy.md) -/
def Obligations.BulkReads : Prop :=
  ∀ (a : Access) (s : State), a.wf = true → s.hw.takes a = true → s.hw.authorised a.who = true → s.hw.ecc.upsets = [] →
    let ends (c : Block) (m : BulkAnswer) : State := { s with hw := ((c.answer a.who 5 (.bulk a.tag m)).actCritical s.hw).flushMirror }
    (∀ q < 8, s.hw.releasePending q = false →
      let addr := 0x1000000000 + 0x10000000 * q
      let rd := s.hw.qRd q
      let n := min 64 (s.hw.qPub q - rd)
      let x := s.hw.queue q
      (s.hw.isReader a.who q = false → ∀ k < 256,
        exec (.egqApertureRead a q k) s = .next (ends (s.hw.bump (F.EGQ_DENY_CNT q)) ⟨addr, 0, .accessDenied, []⟩)) ∧
      (s.hw.isReader a.who q = true → x.rdFront = none → rd < s.hw.qPub q → s.hw.qPoison q rd n = 0 →
        let first := ((s.hw.qRel q :: x.ends.map (·.1)).filter fun p => decide (rd ≤ p) && decide (p < rd + n)).head?
        let tag := entryTag n (x.ends.any fun e => e.1 == rd + n) (x.ends.any fun e => e.1 == rd + n && e.2) false false 0
          ((first.map (· - rd)).getD 0x7F) q rd
        exec (.egqApertureRead a q 1) s = .next (ends
          (((s.hw.bump64 (F.EGQ_READ_CNT_LO q) (F.EGQ_READ_CNT_HI q) 1).bumpBy (F.EGQ_POISON_CNT q) 0).put64 (F.EGQ_RD_LO q) (F.EGQ_RD_HI q) (rd + n))
          ⟨addr, 1, .ok, [tag ++ entryData (s.hw.qLoad q rd n)]⟩)) ∧
      (s.hw.isReader a.who q = true → x.rdFront = none → s.hw.qPub q ≤ rd → s.hw.flag (F.EGQ_CFG_ACTIVE q) = true → ∀ k < 256,
        exec (.egqApertureRead a q k) s = .next (ends s.hw
          ⟨addr, 1, .ok, [entryTag 0 false false false false 0 0x7F q rd ++ entryData []]⟩))) ∧
    (∀ addr k, addr < 2 ^ 40 → k < 256 → apertureAt addr = none → inWindow addr = true → addr % 64 = 0 →
      (excluded addr = true → exec (.bulkWindowRead a addr k) s = .next (ends s.hw ⟨addr, 0, .accessDenied, []⟩)) ∧
      (excluded addr = false → s.hw.get (F.PWR_D_STAT_STATE (6 + s.hw.active)) = 2 →
        let l := windowEntries s.hw addr (bulkCount k)
        exec (.bulkWindowRead a addr k) s = .next (ends l.1 ⟨addr, l.2.length, .ok, l.2⟩) ∧ 0 < l.2.length ∧ l.2.length ≤ 28))

/-- Beaver's slot commands. START of a valid bank whose OUT channel is in DRIVE and free or the slot's own, outside Safe-Config, lets another channel that
a SAFE slot holds go, takes ownership, selects the bank, enters RUNNING with a hand-over pending and clears the SAFE level; of an invalid bank it ends
RESULT 1; of a running slot it is refused. SWITCH of a RUNNING slot to a valid bank with the same OUT channel stops the generator and leaves a hand-
over pending. STOP ends generator and capture, drives 0 V, releases the channel and leaves STOPPED. FORCE_SAFE sends a running slot to SAFE with cause
FORCED. INJ_GO and INJ_STOP start and stop the generator, CAP_ARM starts a capture under the next CAPTURE_ID or is refused while one runs, CAP_STOP
ends one. A write of a bank's word is a register write of it (operation words are _LO and _HI halves). One that acts at once is refused and counted
for the active bank of a slot that is not STOPPED and writes the fields of a STOPPED slot's bank. That START enters RUNNING with the hand-over
pending, and that it lets another channel go, is the model's reading (log entry 40). (R157, R417, R429, R431, R432, R434, R435, R440,
spec/14_beaver_loops.md) -/
def Obligations.LoopSlotCommands : Prop :=
  ∀ (a : Access) (t slot k : Nat) (w : Word) (s : State), a.wf = true → t < 4 → slot < 4 → k < 2 →
    let addr := 0x230100 + 0x40000 * t + 0x80 * slot
    let b := s.hw.touched addr
    let refused := (b.bump (F.BVR_S_REFUSE_CNT t slot)).put (F.BVR_S_STAT_RESULT t slot) 2
    let result (c : Block) (r : Nat) : Block := c.put (F.BVR_S_STAT_RESULT t slot) r
    (s.hw.acts a addr (1 + 0x100 * k) = true →
      (b.slotRuns t slot = true →
        exec (.bvrStart a t slot k) s = .next { s with hw := s.hw.answered a addr (1 + 0x100 * k) (refused, .busyResource) }) ∧
      (b.slotRuns t slot = false → b.bankValid t slot k = false →
        exec (.bvrStart a t slot k) s = .next { s with hw := s.hw.answered a addr (1 + 0x100 * k) (result b 1, .ok) }) ∧
      (∀ n, b.slotRuns t slot = false → b.bankValid t slot k = true → b.outChannel t slot k = some n → b.get (F.PCH_EXC_EXC_MODE n) = 3 →
        (b.flag (F.PCH_DRV_OWNER_VALID n) = false ∨ b.get (F.PCH_DRV_OWNER n) = slot) → b.phase ≠ .safeConfig →
        let b0 := if b.outChannel t slot (b.bankOf t slot) = some n then b else b.letGo t slot
        let b1 := ((b0.put (F.PCH_DRV_OWNER_VALID n) 1).put (F.PCH_DRV_OWNER n) slot).put (F.BVR_S_STAT_BANK t slot) k
        let b2 := ((b1.put (F.BVR_S_STAT_STATE t slot) 1).put (F.BVR_S_STAT_SAFE_CAUSE t slot) 0).put (F.BVR_S_STAT_OVR_RUN t slot) 0
        let pace := b2.pch (16 * t + b2.get (F.BVR_S_CFG_PACE_CH t slot))
        let x := { b2.loop t slot with next := some k, paced := pace.done, loaded := [], fe := 0, start := b2.tick }
        exec (.bvrStart a t slot k) s = .next { s with hw := s.hw.answered a addr (1 + 0x100 * k) (result ((b2.setLoop t slot x).setLevel (128 + 4 * t + slot) false 0) 0, .ok) })) ∧
    (s.hw.acts a addr 2 = true →
      (b.slotState t slot ≠ 1 → exec (.bvrSwitch a t slot) s = .next { s with hw := s.hw.answered a addr 2 (refused, .busyResource) }) ∧
      (b.slotState t slot = 1 → b.bankValid t slot (1 - b.bankOf t slot) = true →
        b.outChannel t slot (1 - b.bankOf t slot) = b.outChannel t slot (b.bankOf t slot) →
        let b1 := (b.setLoop t slot { b.loop t slot with gen := none }).put (F.BVR_S_STAT_INJ_ON t slot) 0
        exec (.bvrSwitch a t slot) s = .next { s with hw := s.hw.answered a addr 2 (result (b1.setLoop t slot { b1.loop t slot with next := some (1 - b.bankOf t slot) }) 0, .ok) })) ∧
    (s.hw.acts a addr 3 = true → b.slotState t slot ≠ 0 →
      ∃ c : Block, exec (.bvrStop a t slot) s = .next { s with hw := s.hw.answered a addr 3 (result c 0, .ok) } ∧
        c.slotState t slot = 0 ∧ c.get (F.BVR_S_STAT_INJ_ON t slot) = 0 ∧ (c.loop t slot).gen = none ∧ (c.loop t slot).cap = none ∧
        (c.loop t slot).applied = 0 ∧ c.dram = s.hw.dram ∧
        ∀ n, b.outChannel t slot (b.bankOf t slot) = some n →
          c.get (F.PCH_DRV_DRV_VALUE n) = 0 ∧ c.get (F.PCH_DRV_OWNER_VALID n) = 0) ∧
    (s.hw.acts a addr 4 = true → b.slotRuns t slot = true →
      exec (.bvrForceSafe a t slot) s = .next { s with hw := s.hw.answered a addr 4 (result (b.tripSafe t slot 8) 0, .ok) }) ∧
    (s.hw.acts a addr 5 = true → (b.loop t slot).gen = none → b.flag (F.BVR_S_INJ_CFG_WITH_CAP t slot) = false →
      let g : Generator := ⟨0, 0, b.get (F.BVR_S_INJ_F0 t slot), 0x7fff⟩
      exec (.bvrInjGo a t slot) s = .next { s with hw := s.hw.answered a addr 5 (result ((b.setLoop t slot { b.loop t slot with gen := some g }).put (F.BVR_S_STAT_INJ_ON t slot) 1) 0, .ok) }) ∧
    (s.hw.acts a addr 5 = true → (b.loop t slot).gen ≠ none →
      exec (.bvrInjGo a t slot) s = .next { s with hw := s.hw.answered a addr 5 (refused, .busyResource) }) ∧
    (s.hw.acts a addr 6 = true →
      exec (.bvrInjStop a t slot) s = .next { s with hw := s.hw.answered a addr 6 (result ((b.setLoop t slot { b.loop t slot with gen := none }).put (F.BVR_S_STAT_INJ_ON t slot) 0) 0, .ok) }) ∧
    (s.hw.acts a addr 7 = true →
      ((b.loop t slot).cap.isSome = true → exec (.bvrCapArm a t slot) s = .next { s with hw := s.hw.answered a addr 7 (refused, .busyResource) }) ∧
      ((b.loop t slot).cap = none →
        let b1 := (b.setLoop t slot { b.loop t slot with cap := some ⟨0, 0⟩ }).put (F.BVR_S_STAT_CAP_ON t slot) 1
        exec (.bvrCapArm a t slot) s = .next { s with hw := s.hw.answered a addr 7 (result ((b1.put (F.BVR_S_CAP_ID t slot) (b.get (F.BVR_S_CAP_ID t slot) + 1)).put (F.BVR_S_CAP_PTS t slot) 0) 0, .ok) })) ∧
    (s.hw.acts a addr 8 = true →
      exec (.bvrCapStop a t slot) s = .next { s with hw := s.hw.answered a addr 8 (result (b.capEnd t slot) 0, .ok) }) ∧
    (∀ i < 512,
      let word := 0x231000 + 0x40000 * t + 0x1000 * slot + 0x800 * k + 4 * i
      exec (.bvrBankWrite a t slot k i w) s = exec (.registerWrite a word 1 [w] true) s ∧
      (s.hw.acts a word w.toNat = true →
      let c := s.hw.touched word
      ((c.slotState t slot ≠ 0 ∧ k = c.bankOf t slot) →
        exec (.bvrBankWrite a t slot k i w) s = .next { s with hw := s.hw.answered a word w.toNat (c.bump (F.BVR_S_REFUSE_CNT t slot), .busyResource) }) ∧
      (c.slotState t slot = 0 →
        exec (.bvrBankWrite a t slot k i w) s = .next { s with hw := s.hw.answered a word w.toNat (c.writeFields word w.toNat, .ok) })))

/-- One execution of a loop slot: applied, held or stalled. For a running slot whose pacing sample waits, with no poisoned or upset program word and no
residue injection: where a taken sample is SETTLING, REF_UNSETTLED or missing, the execution is held, HOLD_CNT rises and no output changes; otherwise,
without a pending hand-over and with no supervision cause, the program's operations run once on the samples and states, EXEC_CNT rises and the results
are applied: signals, states, and the drive code of the program's value at the OUT channel. A taken channel without a sample for 16 of its output
periods sends the slot to SAFE with cause 4. (R418, R420, R427, R428, R429, R432, R436, spec/14_beaver_loops.md) -/
def Obligations.LoopExecutionsAndStalls : Prop :=
  ∀ (t slot : Nat) (s : State), t < 4 → slot < 4 → s.hw.ecc.upsets = [] → bitAt (s.hw.get F.TST_STAT_MASK) 5 = false →
    let k := s.hw.bankOf t slot
    let l := s.hw.program t slot k
    let words := s.hw.execSamples t slot l
    let b := (s.hw.setLoop t slot { s.hw.loop t slot with paced := (s.hw.pch (16 * t + s.hw.get (F.BVR_S_CFG_PACE_CH t slot))).done }).put (F.BVR_S_STAT_OVR_RUN t slot) 0
    (∀ p : Nat × Nat × Nat × Nat, s.hw.pacing t slot = some p → (s.hw.loop t slot).next = none → b.progPoisoned t slot k = false →
      ((words.any fun w => holds w.2) = true → (b.bump (F.BVR_S_HOLD_CNT t slot)).execTrip t slot ≠ some 5 →
        exec (.loopExecution t slot false) s = .next { s with hw := (b.bump (F.BVR_S_HOLD_CNT t slot)).actCritical s.hw }) ∧
      ((words.any fun w => holds w.2) = false →
        let loaded : Table Nat := words.foldl (fun m w => insertKey m w.1 (w.2.getD 0)) []
        let inp : ExecIn := ⟨fun m => signed 24 (lookupD loaded m 0 / 256), b.genValue t slot, b.flag (F.BVR_S_STAT_AW t slot)⟩
        let r := runOps false inp (fun o i => b.coef t slot k o.osh (o.coef + i)) (64 * k) l
          ⟨b.signals t slot, (s.hw.loop t slot).ops, false, 0, none⟩
        let c := ((b.setLoop t slot { b.loop t slot with loaded := loaded }).bump64 (F.BVR_S_EXEC_CNT_LO t slot)
          (F.BVR_S_EXEC_CNT_HI t slot) 1).execApply t slot k r false false p.1 p.2.1 p.2.2.1 p.2.2.2
        c.execTrip t slot = none →
        exec (.loopExecution t slot false) s = .next { s with hw := c.actCritical s.hw })) ∧
    (∀ m < 16, s.hw.slotTakes t slot (16 * t + m) = true →
      let ch := s.hw.pch (16 * t + m)
      max (s.hw.loop t slot).start ((ch.last.map (·.2.2.2.2)).getD 0) + 16 * ceilDiv (decimation ch.odr * 15625) 256 ≤ s.hw.tick →
      exec (.loopStall t slot m) s = .next { s with hw := s.hw.tripSafe t slot 4 })

/-- Votes on a domain: cast, withdrawn, lapsed, and the ACCESS vote. A node's CAST keeps one REMOTE or HOST vote of it with its lease and acts on the
domain's target; a seventeenth voter is refused and counted. WITHDRAW removes only its own vote. A lease that ran out removes that vote alone; an
ACCESS vote without an access for 1 s is cleared. An access to a tile whose domain is off, with WAKE_ON_ACCESS 1, casts the ACCESS vote and is
answered DOMAIN_WAKING, with WAKE_ON_ACCESS 0 it casts nothing and is answered DOMAIN_OFF; both are counted. (R507, R508, R509, R22,
spec/17_power_and_budget.md) -/
def Obligations.PowerVotes : Prop :=
  (∀ (a : Access) (n d : Nat) (w : Word) (s : State), a.wf = true → a.who = .node n → d < 19 → bitAt w.toNat 2 = false →
    let addr := 0x20104 + 0x10 * d
    let rest := s.hw.pwr.voters.filter fun x => !(x.dom == d && x.node == n)
    (s.hw.acts a addr (w.toNat / 4 * 4 + 1) = true →
      let mine := s.hw.pwr.voters.any fun x => x.dom == d && x.node == n
      let full := !mine && decide (16 ≤ (s.hw.pwr.voters.filter fun x => x.dom == d).length)
      (full = true → exec (.voteCast a d w) s = .next { s with hw := s.hw.answered a addr (w.toNat / 4 * 4 + 1) (s.hw.bump F.PWR_REFUSE_CNT, .busyResource) }) ∧
      (full = false → exec (.voteCast a d w) s = .next { s with hw := s.hw.answered a addr (w.toNat / 4 * 4 + 1) ({ s.hw with pwr := { s.hw.pwr with voters := ⟨d, n, s.hw.isHost n, s.hw.tick, bitsOf w.toNat 15 8⟩ :: rest } }.settleDom d, .ok) })) ∧
    (s.hw.acts a addr (w.toNat / 4 * 4 + 2) = true →
      exec (.voteWithdraw a d w) s = .next { s with hw := s.hw.answered a addr (w.toNat / 4 * 4 + 2) ({ s.hw with pwr := { s.hw.pwr with voters := rest } }.settleDom d, .ok) })) ∧
  (∀ (d n : Nat) (x : Voter) (s : State), Instr.wf (.voteLeaseExpire d n) = true → s.hw.phase.railsOn = true → x ∈ s.hw.pwr.voters →
    x.dom = d → x.node = n → x.lease ≠ 0 → x.tick + x.lease * sTicks ≤ s.hw.tick →
    let left := s.hw.pwr.voters.filter fun y => !(y.dom == d && y.node == n && y.lease != 0 && decide (y.tick + y.lease * sTicks ≤ s.hw.tick))
    exec (.voteLeaseExpire d n) s = .next { s with hw := { s.hw with pwr := { s.hw.pwr with voters := left } }.settleDom d }) ∧
  (∀ (d : Nat) (s : State), d < 19 → s.hw.phase.railsOn = true → bitAt (s.hw.get (F.PWR_D_STAT_VOTES d)) 5 = true →
    let b1 := s.hw.put (F.PWR_D_STAT_VOTES d) (setBit (s.hw.get (F.PWR_D_STAT_VOTES d)) 5 false)
    (lookupD s.hw.pwr.accessTick d 0 + sTicks ≤ s.hw.tick → exec (.accessVoteExpire d) s = .next { s with hw := b1.settleDom d }) ∧
    (s.hw.tick < lookupD s.hw.pwr.accessTick d 0 + sTicks → exec (.accessVoteExpire d) s = .next s)) ∧
  (∀ (a : Access) (addr t : Nat) (s : State), a.wf = true → addr % 4 = 0 → tileOf addr = some t → s.hw.takes a = true →
    s.hw.authorised a.who = true → a.who.isWarren = false → tierOAt addr = false → s.hw.get (F.PWR_D_STAT_STATE t) ≠ 2 →
    let b1 := s.hw.bump F.SYS_OFFACC
    (s.hw.flag (F.PWR_D_CTRL_WAKE_ON_ACCESS t) = false →
      exec (.offDomainAccess a addr) s = .next { s with hw := s.hw.readAnswered a addr b1 .domainOff 0 }) ∧
    (s.hw.flag (F.PWR_D_CTRL_WAKE_ON_ACCESS t) = true →
      let b2 : Block := { b1.put (F.PWR_D_STAT_VOTES t) (setBit (s.hw.get (F.PWR_D_STAT_VOTES t)) 5 true) with pwr := { b1.pwr with accessTick := insertKey b1.pwr.accessTick t s.hw.tick } }
      exec (.offDomainAccess a addr) s = .next { s with hw := s.hw.readAnswered a addr (b2.settleDom t) .domainWaking 0 }))

/-- FORCE, the target of a domain, and its transitions. A domain that is not held off has target on under FORCE ON, off under FORCE OFF, and else on
exactly where some vote stands. A write of another FORCE value by a host or by Owl takes it and acts on the target; by any other requester it is
ACCESS_DENIED. FORCE OFF of a DRAM domain whose concentrator is not OFF is refused and counted. A domain that is on keeps its state while its target
is on and no transition is asked; one whose target turns off starts to turn off. When a transition of a domain completes, TURNING_ON becomes ON with
what the domain's return brings, TURNING_OFF becomes OFF with what its loss brings; then a request that was pending is acted on where it differs, and
the votes are acted on. In ON and OFF the command changes nothing. A request in the course of a transition waits as the one pending request, a further
one that differs is counted in PWR_COALESCED and replaces it. (R508, R510, R511, R555, R501, R429, R212, R22, spec/17_power_and_budget.md) -/
def Obligations.ForceAndTransitions : Prop :=
  ((∀ (b : Block) (d : Nat), b.heldOff d = false →
     (b.get (F.PWR_D_CTRL_FORCE d) = 1 → b.targetOn d = true) ∧ (b.get (F.PWR_D_CTRL_FORCE d) = 2 → b.targetOn d = false) ∧
     (b.get (F.PWR_D_CTRL_FORCE d) = 0 → b.targetOn d = decide (b.votesOf d ≠ 0))) ∧
   (∀ (a : Access) (d v : Nat) (s : State) (c : Instr), a.wf = true → d < 19 →
     (v, c) ∈ [(0, Instr.forceNone a d), (1, Instr.forceOn a d), (2, Instr.forceOff a d)] →
     let addr := 0x20108 + 0x10 * d
     let wake := s.hw.get (F.PWR_D_CTRL_WAKE_ON_ACCESS d)
     let w := wake * 2 ^ 31 + v * 2 ^ 29
     s.hw.acts a addr w = true → v ≠ s.hw.get (F.PWR_D_CTRL_FORCE d) →
     ((s.hw.hostWho a.who || a.who == .owl) = false →
       exec c s = .next { s with hw := s.hw.answered a addr w (s.hw, .accessDenied) }) ∧
     ((s.hw.hostWho a.who || a.who == .owl) = true →
       ((v = 2 ∧ (d = 6 ∨ d = 7) ∧ s.hw.get (F.PWR_D_STAT_STATE (d - 2)) ≠ 0) ∨ (d = 5 ∧ s.hw.phase = .fill) →
         exec c s = .next { s with hw := s.hw.answered a addr w (s.hw.bump F.PWR_REFUSE_CNT, .busyResource) }) ∧
       ((v ≠ 2 ∨ (d ≠ 6 ∧ d ≠ 7) ∨ s.hw.get (F.PWR_D_STAT_STATE (d - 2)) = 0) → ¬ (d = 5 ∧ s.hw.phase = .fill) →
         exec c s = .next { s with hw := s.hw.answered a addr w (((s.hw.put (F.PWR_D_CTRL_FORCE d) v).settleDom d).put (F.PWR_D_CTRL_WAKE_ON_ACCESS d) wake, .ok) }))) ∧
   (∀ (b : Block) (d : Nat), b.get (F.PWR_D_STAT_STATE d) = 2 →
     b.request d true = b ∧ b.request d false = (b.put (F.PWR_D_STAT_STATE d) 3).startOff d)) ∧
  ((∀ (d : Nat) (s : State), d < 19 →
     (s.hw.get (F.PWR_D_STAT_STATE d) = 1 → exec (.domainTransitionDone d) s =
       .next { s with hw := (((s.hw.put (F.PWR_D_STAT_STATE d) 2).domainUp d).takePending d true).settlePower }) ∧
     (s.hw.get (F.PWR_D_STAT_STATE d) = 3 → exec (.domainTransitionDone d) s =
       .next { s with hw := (((s.hw.put (F.PWR_D_STAT_STATE d) 0).domainDown d).takePending d false).settlePower }) ∧
     (s.hw.get (F.PWR_D_STAT_STATE d) = 0 ∨ s.hw.get (F.PWR_D_STAT_STATE d) = 2 → exec (.domainTransitionDone d) s = .next s)) ∧
   (∀ (b : Block) (d : Nat) (on : Bool), b.get (F.PWR_D_STAT_STATE d) = 1 ∨ b.get (F.PWR_D_STAT_STATE d) = 3 →
     let pend := b.get (F.PWR_D_STAT_PENDING d)
     let want := if on then 1 else 2
     (pend = 0 → (b.get (F.PWR_D_STAT_STATE d) = 1 ↔ on = true) → b.request d on = b) ∧
     (pend = 0 → ¬ (b.get (F.PWR_D_STAT_STATE d) = 1 ↔ on = true) → b.request d on = b.put (F.PWR_D_STAT_PENDING d) want) ∧
     (pend = want → b.request d on = b) ∧
     (pend = 3 - want → b.request d on = (b.bump F.PWR_COALESCED).put (F.PWR_D_STAT_PENDING d) want)))

/-- Operating levels, and power samples counted to the microjoule. A forced level below the ingest level of the sampled groups is refused and counted; any
other PWR_LEVEL_FORCE is taken, and the level chosen anew. When a level transition completes, the target is in force, LEVEL_BUSY falls, the gate
admits that level's rate, and a request that waited is acted on; without a transition nothing changes. The ingest level of G groups is the lowest
whose rate is at least 7 G + 1 Mflit/s, for every G up to 60. Outside Off, POWER_SAMPLE of mW over 1 ms answers a next state whose total energy in
microjoules (BDG_E_TOTAL in mJ and the kept remainder below 1 mJ) is higher by exactly the sample where the 64-bit counter does not wrap; P_NOW is the
sample, P_MAX the greater of itself and the sample, P_AVG the mean of the window, and Tj is kept within -128 to 127 °C. DRAM, queues, messages and
every field but these stay. In Off nothing changes. (R499, R500, R510, R511, R15, R512, spec/17_power_and_budget.md) -/
def Obligations.LevelsAndSamples : Prop :=
  ((∀ (a : Access) (w : Word) (s : State), a.wf = true → s.hw.acts a 0x20010 w.toNat = true →
     (bitAt w.toNat 31 = true → bitsOf w.toNat 2 0 < ingestLevel s.hw.groupCount →
       exec (.levelForceWrite a w) s = .next { s with hw := s.hw.answered a 0x20010 w.toNat (s.hw.bump F.PWR_REFUSE_CNT, .busyResource) }) ∧
     (bitAt w.toNat 31 = false ∨ ingestLevel s.hw.groupCount ≤ bitsOf w.toNat 2 0 →
       exec (.levelForceWrite a w) s = .next { s with hw := s.hw.answered a 0x20010 w.toNat (((s.hw.put F.PWR_LEVEL_FORCE_EN (bitsOf w.toNat 31 31)).put F.PWR_LEVEL_FORCE_LEVEL (bitsOf w.toNat 2 0)).chooseLevel, .ok) })) ∧
   (∀ s : State,
     (s.hw.phase.railsOn = true → s.hw.flag F.PWR_STAT_LEVEL_BUSY = true →
       let l := s.hw.get F.PWR_STAT_LEVEL_TGT
       let b1 := (s.hw.put F.PWR_STAT_LEVEL_NOW l).put F.PWR_STAT_LEVEL_BUSY 0
       let b2 : Block := { b1 with pwr := { b1.pwr with gate := l, levelPending := none } }
       (s.hw.pwr.levelPending = none → exec .levelTransitionDone s = .next { s with hw := b2 }) ∧
       (∀ n, s.hw.pwr.levelPending = some n → exec .levelTransitionDone s = .next { s with hw := b2.requestLevel n })) ∧
     (s.hw.flag F.PWR_STAT_LEVEL_BUSY = false → exec .levelTransitionDone s = .next s)) ∧
   (∀ g ≤ 60, 7 * g + 1 ≤ levelRate (ingestLevel g) ∧ ∀ l, 1 ≤ l → l < ingestLevel g → levelRate l < 7 * g + 1)) ∧
  (∀ (mw : Nat) (tj : Int) (s : State), mw < 2 ^ 24 →
     (s.hw.phase = .off → exec (.powerSample mw tj) s = .next s) ∧
     (s.hw.phase ≠ .off → s.hw.get F.BDG_P_MAX < 2 ^ 24 →
       ∃ t, exec (.powerSample mw tj) s = .next t ∧ t.pending = s.pending ∧ t.hw.dram = s.hw.dram ∧ t.hw.posted = s.hw.posted ∧
         t.hw.get F.BDG_P_NOW = mw ∧ t.hw.get F.BDG_P_MAX = max mw (s.hw.get F.BDG_P_MAX) ∧ t.hw.pwr.microJ < 1000 ∧
         (let e (b : Block) : Nat := 1000 * b.get64 F.BDG_E_TOTAL_LO F.BDG_E_TOTAL_HI + b.pwr.microJ
          e s.hw + mw < 1000 * 2 ^ 64 → e t.hw = e s.hw + mw) ∧
         t.hw.get F.BDG_P_AVG = t.hw.windowMean % 2 ^ 24 ∧ t.hw.tj = clampI (-128) 127 tj ∧ t.hw.pwr.peak = max s.hw.pwr.peak mw ∧
         t.hw.pwr.samples = (mw :: s.hw.pwr.samples).take 86400000 ∧
         (∀ f : Field, f.key ∉ [F.BDG_P_NOW.key, F.BDG_P_AVG.key, F.BDG_P_MAX.key, F.BDG_E_TOTAL_LO.key, F.BDG_E_TOTAL_HI.key, F.BDG_TJ.key] →
           t.hw.get f = s.hw.get f)))

/-- One evaluation of Squirrel moves at most one step. While the stamping time is not established, SQUIRREL_EVAL_TIMER does nothing before 262 144 ticks
have passed, and then is one evaluation of Squirrel with the votes acted on. An evaluation with Tj above its limit sets OVER_TJ, counts it and either
sheds one step or sets EXHAUSTED; with nothing over its limit no step is shed; it never sheds or gives back more than one step, and it changes no byte
of DRAM. A step shed is of the first enabled rung that is not exhausted. That at most one step moves per evaluation is the model's reading. (R513,
R514, R515, R516, spec/17_power_and_budget.md) -/
def Obligations.SquirrelShedsOneStep : Prop :=
  (∀ s : State, s.hw.phase.railsOn = true → s.hw.time.established = false →
    (s.hw.pwr.evalTick + 262144 ≤ s.hw.tick → exec .squirrelEvalTimer s = .next { s with hw := s.hw.squirrel.settlePower }) ∧
    (s.hw.tick < s.hw.pwr.evalTick + 262144 → exec .squirrelEvalTimer s = .next s)) ∧
  (∀ b : Block,
    let c := b.squirrel
    let hot := decide ((min 105 (b.get F.BDG_LIMITS_TJ_CAP_C) : Nat) < b.tj)
    let n := b.pwr.steps.length
    c.dram = b.dram ∧ c.get F.BDG_STAT_OVER_TJ = b2n hot ∧ c.pwr.evalTick = b.tick ∧ c.pwr.peak = 0 ∧
    n ≤ c.pwr.steps.length + 1 ∧ c.pwr.steps.length ≤ n + 1 ∧
    (hot = true → (c.pwr.steps.length = n + 1 ∨ c.get F.BDG_STAT_EXHAUSTED = 1) ∧ c.get F.BDG_TJ_CNT = satU 32 (b.get F.BDG_TJ_CNT + 1)) ∧
    (hot = false → b.window.1 ≤ b.get F.BDG_AVG_MW * b.window.2 ∨ b.get F.BDG_AVG_MW = 0 → b.pwr.peak ≤ b.get F.BDG_PEAK_MW ∨ b.get F.BDG_PEAK_MW = 0 →
      c.pwr.steps.length ≤ n)) ∧
  (∀ (b : Block) (r : Nat) (c : Block) (l : List (Nat × Nat)), 1 ≤ r → r ≤ 6 → bitAt (b.get F.BDG_LIMITS_RUNG_EN) (r - 1) = true →
    b.shedRung r = some (c, l) → (∀ k, 1 ≤ k → k < r → bitAt (b.get F.BDG_LIMITS_RUNG_EN) (k - 1) = true → b.shedRung k = none) →
    b.shed.pwr.steps = ⟨r, l⟩ :: c.pwr.steps ∧ b.shed.get F.BDG_STAT_RUNG = r)

/-- Entering and leaving Hibernate. With no pass-through operation under way, THERMAL_TRIP with the rails on enters Hibernate with cause THERMAL and every
domain but D_OVN off. In Hibernate the wake timer, once it ran out, wakes the module into Fill with cause TIMER or, after a thermal entry, THERMAL;
RST_N wakes it with cause 5; an armed detector wakes it on a knock in mode KNOCK and on either in mode ANY, with its lane in LANES, and on nothing in
mode 0; a wake leads to Fill with RESET_CAUSE 2, PWR_WAKE telling cause and lanes. Detectors arm 10 ms after entry. Keeping THERMAL on the timer's
wake is the model's reading. (R492, R503, R504, R506, R604, spec/17_power_and_budget.md, spec/16_lanes.md) -/
def Obligations.HibernateWakes : Prop :=
  (∀ s : State, s.hw.phase.railsOn = true → s.hw.flag F.SEC_NVM_CTRL_NVM_BUSY = false →
    ∃ t, exec .thermalTrip s = .next t ∧ t.hw.phase = .hibernate ∧ t.hw.get F.PWR_WAKE_CAUSE = 4 ∧ t.hw.pwr.thermal = true ∧
      t.hw.pwr.hibTick = s.hw.tick ∧ t.hw.pwr.armed = false ∧ t.hw.dram = s.hw.dram ∧ (∀ d < 17, t.hw.get (F.PWR_D_STAT_STATE d) = 0)) ∧
  (∀ s : State, s.hw.phase = .hibernate →
    (s.hw.pwr.wakeS ≠ 0 → s.hw.pwr.hibTick + s.hw.pwr.wakeS * sTicks ≤ s.hw.tick →
      exec .wakeTimerExpire s = .next { s with hw := s.hw.wake (if s.hw.pwr.thermal then 4 else 3) 0 }) ∧
    (s.hw.pwr.wakeS = 0 ∨ s.hw.tick < s.hw.pwr.hibTick + s.hw.pwr.wakeS * sTicks → exec .wakeTimerExpire s = .next s) ∧
    (s.hw.pwr.armed = false → s.hw.pwr.hibTick + 10 * msTicks ≤ s.hw.tick →
      exec .detectorArm s = .next { s with hw := { s.hw with pwr := { s.hw.pwr with armed := true } } }) ∧
    (∀ lowNs, 10000 ≤ lowNs → exec (.rstNReset lowNs) s = .next { s with hw := s.hw.wake 5 0 }) ∧
    (∀ l < 16, ∀ knock : Bool, s.hw.pwr.armed = true →
      let mode := s.hw.get F.PWR_HIB_LANE / 4 ^ l % 4
      (mode = 1 → knock = true → exec (.knockDetect l knock) s = .next { s with hw := s.hw.wake 1 (2 ^ l) }) ∧
      (mode = 1 → knock = false → exec (.knockDetect l knock) s = .next s) ∧
      (mode = 2 → exec (.knockDetect l knock) s = .next { s with hw := s.hw.wake 2 (2 ^ l) }) ∧
      (mode = 0 → exec (.knockDetect l knock) s = .next s))) ∧
  (∀ (b : Block) (cause lanes : Nat), cause < 16 → lanes < 2 ^ 16 →
    (b.wake cause lanes).phase = .fill ∧ (b.wake cause lanes).get F.SYS_STATE_RESET_CAUSE = 2 ∧
    (b.wake cause lanes).get F.PWR_WAKE_CAUSE = cause ∧ (b.wake cause lanes).get F.PWR_WAKE_LANES = lanes)

/-- A sample instant of the fast channels. With the rails on and at least 25 ticks after the last instant, FAST_SAMPLE_INSTANT puts one item of sixteen
words onto the tile links for each group that samples, in group order and with this tick's time, gives Lynx the instant while the active concentrator
is on, and changes no DRAM, no hit and no queue of events. Earlier nothing changes. A sample word is 0 for a channel that is off; else its low 14 bits
are the shaped signal held within the code range, bit 14 is SETTLING and bit 15 OVERRANGE. A settle count that has run to 0 ends at SETTLE_COUNT_END,
and no other does. (R121, R122, R123, R124, R138, R268, R307, spec/04_fast_channels.md) -/
def Obligations.FastSampleInstants : Prop :=
  (∀ (codes : List FastCode) (s : State), Instr.wf (.fastSampleInstant codes) = true → s.hw.phase.railsOn = true →
    ((∀ t, s.hw.fast.last = some t → t + 25 ≤ s.hw.tick) →
      ∃ t, exec (.fastSampleInstant codes) s = .next t ∧ t.pending = s.pending ∧ t.hw.dram = s.hw.dram ∧ t.hw.tdc = s.hw.tdc ∧
        t.hw.evb = s.hw.evb ∧ t.hw.posted = s.hw.posted ∧ t.hw.fast.last = some s.hw.tick ∧
        t.hw.links = s.hw.links ++ (s.hw.instantWords codes).map (fun e =>
          LinkItem.item e.1 s.hw.stampRaw s.hw.stampDom s.hw.stampQuality (e.2.flatMap (leBytes 2))) ∧
        t.hw.lynx.instants = s.hw.lynx.instants ++
          (if s.hw.ccOn then [⟨s.hw.time.pllTicks, s.hw.tick, s.hw.stampRaw, s.hw.stampDom, s.hw.stampQuality, s.hw.instantWords codes⟩] else [])) ∧
    (∀ t, s.hw.fast.last = some t → s.hw.tick < t + 25 → exec (.fastSampleInstant codes) s = .next s)) ∧
  (∀ (b : Block) (f : FastCode),
    (b.modeOn f.chan = false → b.sampleWord f = 0) ∧
    (b.modeOn f.chan = true → b.sampleWord f < 2 ^ 16 ∧ bitAt (b.sampleWord f) 15 = b.overrange f ∧
      bitAt (b.sampleWord f) 14 = b.settling f.chan ∧ signed 14 (b.sampleWord f % 2 ^ 14) = clampI (-8192) 8191 (b.shaped f))) ∧
  (∀ (c : Nat) (s : State), c < 960 →
    (lookup s.hw.fast.settle c = some 0 →
      exec (.settleCountEnd c) s = .next { s with hw := { s.hw with fast := { s.hw.fast with settle := eraseKey s.hw.fast.settle c } } }) ∧
    (lookup s.hw.fast.settle c ≠ some 0 → exec (.settleCountEnd c) s = .next s))

/-- Edges of a fast channel: hit, hold-off, dual threshold, dead time, full buffer, trailing edge. At a channel whose discriminator is live and inactive
and which is not in INTERNAL calibration, a crossing of THR_LO outside hold-off and without DISC_DUAL is a hit: FCH_HIT_CNT rises, the discriminator
is active, hold-off runs for HOLDOFF ticks, and the hit word is recorded where the source is past its dead time and its buffer has room; within 1.6 ns
it is counted as pile-up, on 16 buffered words as overflow, and the next word is marked. In hold-off the crossing is only counted. With DISC_DUAL it
waits for THR_HI, whose crossing passes it. The return makes the discriminator inactive and records a trailing word of a hit where its group's TRAIL
bit is set. At a channel that is off or not sampled nothing changes; at one that settles the output follows the signal and no hit is recorded. Hold-
off ends when its ticks have passed. (R125, R130, R131, R132, R138, R246, R249, R250, R252, R259, spec/08_woodpecker_tdc.md, spec/04_fast_channels.md) -/
def Obligations.DiscriminatorHits : Prop :=
  ∀ (c k : Nat) (s : State), c < 960 → k < 256 →
    let b := s.hw
    let x := b.crossing k
    let h := b.get (F.FCH_DISC_HOLDOFF c)
    let b1 := (b.bump64 (F.FCH_HIT_CNT_LO c) (F.FCH_HIT_CNT_HI c) 1).setDisc c ⟨true, none, true⟩
    let b2 := if h = 0 then b1 else { b1 with fast := { b1.fast with hold := insertKey b1.fast.hold c (b.tick + h) } }
    let words := (b.tdc.hits.filter fun y => y.source == c).length
    (b.discOn c = false → ∀ ev < 3, exec (.tdcEdge c ev k) s = .next s) ∧
    (b.discOn c = true → lookup b.fast.settle c ≠ none →
      ((b.discOf c).active = true → exec (.tdcEdge c 0 k) s = .next s) ∧
      ((b.discOf c).active = false → lookup b.fast.hold c = none → exec (.tdcEdge c 0 k) s = .next { s with hw := b.setDisc c ⟨true, none, false⟩ }) ∧
      ((b.discOf c).pend = none → exec (.tdcEdge c 1 k) s = .next s) ∧
      exec (.tdcEdge c 2 k) s = .next { s with hw := b.setDisc c ⟨false, none, false⟩ }) ∧
    (b.discLive c = true → b.calHas c false = false →
      ((b.discOf c).active = false → lookup b.fast.hold c = none → b.dual c = false →
        (b.inDeadTime c x = false → words < 16 → exec (.tdcEdge c 0 k) s = .next { s with hw := b2.record c false x }) ∧
        (b.inDeadTime c x = true → exec (.tdcEdge c 0 k) s =
          .next { s with hw := (b2.bump (F.FT_TDC_PILEUP_CNT (c / 240))).markSource c true false }) ∧
        (b.inDeadTime c x = false → 16 ≤ words → exec (.tdcEdge c 0 k) s =
          .next { s with hw := (b2.bump (F.FT_TDC_OVF_CNT (c / 240))).markSource c false true })) ∧
      ((b.discOf c).active = true → exec (.tdcEdge c 0 k) s = .next s) ∧
      ((b.discOf c).active = false → lookup b.fast.hold c ≠ none →
        exec (.tdcEdge c 0 k) s = .next { s with hw := (b.bump (F.FCH_HOLDOFF_CNT c)).setDisc c ⟨true, none, false⟩ }) ∧
      ((b.discOf c).active = false → lookup b.fast.hold c = none → b.dual c = true →
        exec (.tdcEdge c 0 k) s = .next { s with hw := b.setDisc c ⟨true, some x, false⟩ }) ∧
      (∀ y, (b.discOf c).pend = some y → b.inDeadTime c y = false → words < 16 →
        exec (.tdcEdge c 1 k) s = .next { s with hw := b2.record c false y }) ∧
      ((b.discOf c).pend = none → exec (.tdcEdge c 1 k) s = .next s) ∧
      (let b3 := b.setDisc c ⟨false, none, false⟩
       let trail := (b.discOf c).hit && bitAt (b.get (F.FT_TDC_TRAIL (c / 240))) (c % 240 / 16)
       (trail = false → exec (.tdcEdge c 2 k) s = .next { s with hw := b3 }) ∧
       (trail = true → b.inDeadTime c x = false → words < 16 → exec (.tdcEdge c 2 k) s = .next { s with hw := b3.record c true x }))) ∧
    (∀ e, lookup b.fast.hold c = some e →
      (e ≤ b.tick → exec (.discHoldoffEnd c) s =
        .next { s with hw := { b with fast := { b.fast with hold := eraseKey b.fast.hold c } } }) ∧
      (b.tick < e → exec (.discHoldoffEnd c) s = .next s))

/-- Edges of GATE and XEVT pins. A pin with FUNCTION NONE records nothing and changes nothing. A level that is the pin's present one, after INVERT,
changes nothing. An activation outside hold-off that is recorded sets LEVEL, counts the word and starts hold-off, and with FUNCTION ARM opens a window
at its time; in hold-off it is counted in TDC_PIN_HOLD_CNT and records nothing. A deactivation closes the window of an ARM pin and, with TRAIL_EN,
records a trailing word even in hold-off. ARM on an XEVT pin acts as STAMP. (R249, R251, R252, R254, R262, spec/08_woodpecker_tdc.md) -/
def Obligations.PinEdges : Prop :=
  ∀ (i k : Nat) (high : Bool) (s : State), i < 8 → k < 256 → s.hw.phase.railsOn = true →
    let b := s.hw
    let x := b.crossing k
    let on := high != b.flag (F.TDC_PIN_CFG_INVERT i)
    let b1 := b.putB (F.TDC_PIN_STAT i) on
    let src := 1024 + i
    let free := !b.inDeadTime src x && decide ((b.tdc.hits.filter fun y => y.source == src).length < 64)
    let ev := if high then 0 else 2
    (b.get (F.TDC_PIN_CFG_FUNCTION i) = 0 → exec (.tdcEdge src ev k) s = .next s) ∧
    (b.get (F.TDC_PIN_CFG_FUNCTION i) = 2 → 4 ≤ i → b.pinFunction i = 1) ∧
    (on = b.flag (F.TDC_PIN_STAT i) → exec (.tdcEdge src ev k) s = .next s) ∧
    (b.get (F.TDC_PIN_CFG_FUNCTION i) ≠ 0 → on ≠ b.flag (F.TDC_PIN_STAT i) → b.calHas src false = false →
      (on = true → (∀ t, lookup b.tdc.pinHold i = some t → t ≤ b.tick) → free = true →
        let b2 := b1.record src false x
        let b3 : Block := { b2 with tdc := { b2.tdc with pinHold := insertKey b2.tdc.pinHold i (b.tick + b.get (F.TDC_PIN_CFG_HOLDOFF i)) } }
        exec (.tdcEdge src ev k) s = .next { s with hw := if b.pinFunction i = 2 then b3.openWindow i (b.edgeTime src x) else b3 }) ∧
      (∀ t, on = true → lookup b.tdc.pinHold i = some t → b.tick < t →
        exec (.tdcEdge src ev k) s = .next { s with hw := b1.bump (F.TDC_PIN_HOLD_CNT i) }) ∧
      (on = false →
        let b2 := if b.pinFunction i = 2 then b1.closeWindow i (b.edgeTime src x) else b1
        (b.flag (F.TDC_PIN_CFG_TRAIL_EN i) = false → exec (.tdcEdge src ev k) s = .next { s with hw := b2 }) ∧
        (b.flag (F.TDC_PIN_CFG_TRAIL_EN i) = true → free = true → exec (.tdcEdge src ev k) s = .next { s with hw := b2.record src true x })))

/-- Release of hit words, 64 ticks after the edge and in order. The next word to be released is one of the waiting words, and none of them comes before it
in tick, then source, then leading before trailing. HIT_RELEASE before 64 ticks have passed since its edge changes nothing; after that the word leaves
the waiting words and goes onto the links where its group's arming admits its time; otherwise it is discarded and counted in FT_TDC_GATED_CNT. A
window admits a time at its leading edge's time and none at its trailing edge's. (R253, R254, R255, R257, R307, R308, spec/08_woodpecker_tdc.md) -/
def Obligations.HitsAreReleasedInOrder : Prop :=
  (∀ (l : List Hit) (h : Hit), nextHit l = some h → h ∈ l ∧ ∀ x ∈ l, x.before h = false) ∧
  (∀ s : State,
    (s.hw.tdc.hits = [] → exec .hitRelease s = .next s) ∧
    (∀ h, nextHit s.hw.tdc.hits = some h →
      let b1 : Block := { s.hw with tdc := { s.hw.tdc with hits := s.hw.tdc.hits.erase h } }
      (s.hw.tick < h.tick + 64 → exec .hitRelease s = .next s) ∧
      (h.tick + 64 ≤ s.hw.tick → s.hw.admitted h = true →
        ∃ t, exec .hitRelease s = .next t ∧ t.pending = s.pending ∧ t.hw.tdc = b1.tdc ∧ t.hw.links = s.hw.links ++ [h.item] ∧
          t.hw.dram = s.hw.dram ∧ (h.source < 960 → t.hw.regs = s.hw.regs) ∧
          (h.source < 960 → h.trail = false → s.hw.ccOn = true →
            t.hw.lynx.leads = s.hw.lynx.leads ++ [⟨h.source, h.time, h.ns, h.w1⟩])) ∧
      (h.tick + 64 ≤ s.hw.tick → s.hw.admitted h = false →
        exec .hitRelease s = .next { s with hw := b1.bump (F.FT_TDC_GATED_CNT (h.source / 240)) }))) ∧
  (∀ (w : GateWindow) (t at_ : Nat), w.lead < t → w.trail = some (t, at_) → w.admits w.lead = true ∧ w.admits t = false)

/-- Code-density calibration: start, abort, tables, timeouts, loads. A GO with MODE INTERNAL or LIVE and no calibration under way sets BUSY, clears the
counts and fails at once every source in scope whose die is off; while one runs a GO without ABORT is refused and counted and the run stands. ABORT
ends the run with RESULT ABORTED. A source that has its 2^LOG2_HITS edges gets its table installed at one tick where every count lies between a
quarter and four times the mean, and fails otherwise, its table standing. A LIVE source fails at TIMEOUT_S. With the last source finished BUSY falls
and RESULT is OK or NONUNIFORM. LOAD of an allowed source installs the staging copy. (R258, R259, R260, R261, R262, spec/08_woodpecker_tdc.md) -/
def Obligations.TdcCalibration : Prop :=
  (∀ (a : Access) (w : Word) (s : State), a.wf = true →
    (let v := setBit w.toNat 31 true
     s.hw.acts a 0x60010 v = true → bitAt v 30 = false →
     (s.hw.tdc.cal ≠ none →
       exec (.tdcCalGo a w) s = .next { s with hw := s.hw.answered a 0x60010 v (s.hw.bump F.TDC_REFUSE_CNT, .busyResource) }) ∧
     (s.hw.tdc.cal = none → bitsOf v 29 28 = 1 ∨ bitsOf v 29 28 = 2 →
       let scope := scopeSources (bitsOf v 27 26) (bitsOf v 10 0)
       let b1 := ((s.hw.put F.TDC_CAL_STAT_BUSY 1).put F.TDC_CAL_STAT_DONE 0).put F.TDC_CAL_STAT_FAILED 0
       let run : Block := { b1 with tdc := { b1.tdc with cal := some ⟨bitsOf v 29 28 == 2, s.hw.tick, scope, []⟩ } }
       exec (.tdcCalGo a w) s = .next { s with hw := s.hw.answered a 0x60010 v (((scope.filter fun x => !s.hw.sourceOn x).foldl (fun c x => c.calFinish x false) run).settleCal, .ok) })) ∧
    (∀ c, let v := setBit w.toNat 30 true
     s.hw.acts a 0x60010 v = true → bitAt v 31 = false → s.hw.tdc.cal = some c →
     let b1 := (s.hw.put F.TDC_CAL_STAT_BUSY 0).put F.TDC_CAL_STAT_RESULT 1
     exec (.tdcCalAbort a w) s = .next { s with hw := s.hw.answered a 0x60010 v ({ b1 with tdc := { b1.tdc with cal := none } }, .ok) }) ∧
    (let v := setBit w.toNat 31 true
     s.hw.acts a 0x61200 v = true → s.hw.windowRefuse = none →
     exec (.tdcTableLoad a w) s = .next { s with hw := s.hw.answered a 0x61200 v (s.hw.install s.hw.calSrc s.hw.stagingTable, .ok) })) ∧
  (∀ (src : Nat) (counts : List Nat) (c : CalRun) (s : State), Instr.wf (.tdcCalSourceDone src counts) = true → s.hw.tdc.cal = some c →
    src ∈ c.todo →
    let n := if c.live then c.countsOf src else counts
    (n.length = 256 → s.hw.calHits ≤ n.sum → c.live = true ∨ n.sum = s.hw.calHits →
      (uniform n = true → exec (.tdcCalSourceDone src counts) s =
        .next { s with hw := (s.hw.install src (tableOf n)).calFinish src true }) ∧
      (uniform n = false → exec (.tdcCalSourceDone src counts) s = .next { s with hw := s.hw.calFinish src false })) ∧
    (c.live = true → c.start + max 1 (s.hw.get F.TDC_CAL_CFG_TIMEOUT_S) * sTicks ≤ s.hw.tick →
      exec (.tdcCalTimeout src) s = .next { s with hw := s.hw.calFinish src false }) ∧
    (c.todo = [src] → ∀ ok : Bool, (s.hw.calFinish src ok).tdc.cal = none ∧ (s.hw.calFinish src ok).tdc.tables = s.hw.tdc.tables ∧
      (s.hw.calFinish src ok).get F.TDC_CAL_STAT_BUSY = 0 ∧
      ((s.hw.calFinish src ok).get F.TDC_CAL_STAT_RESULT = if ok = true ∧ s.hw.get F.TDC_CAL_STAT_FAILED = 0 then 0 else 2)))

/-- Writes of a precision channel's input, excitation, drive and fault registers. A write of PCH_IN that asks for a differential or ratiometric input of a
channel in DRIVE, a write of PCH_EXC that asks for DRIVE against such an input, that leaves DRIVE while a loop owns the drive, or that takes the
accounted sum above 4 W, and a write of PCH_DRV that takes it above 4 W are refused with BUSY_RESOURCE, counted in PCH_REFUSE_CNT, and change nothing
else. An accepted PCH_IN settles the channel where INPUT_MODE changes and applies the range asked for; an accepted PCH_EXC settles it where mode or
voltage change and, with another mode, drives 0 with polarity 0; an accepted PCH_DRV writes its fields. A write of PCH_FAULT clears the causes written
with 1, and a channel whose last cause clears leaves fault. (R149, R153, R156, R165, R170, R171, spec/05_precision_front_end.md) -/
def Obligations.FrontEndWrites : Prop :=
  ∀ (a : Access) (n : Nat) (w : Word) (s : State), a.wf = true → n < 64 →
    let base := 0x220000 + 0x40000 * (n / 16) + 0x100 * (n % 16)
    let v := w.toNat
    (s.hw.acts a base v = true →
      let b := s.hw.touched base
      let b1 := b.writeFields base v
      let b2 := if b1.get (F.PCH_IN_INPUT_MODE n) = b.get (F.PCH_IN_INPUT_MODE n) then b1 else b1.settleFull n
      (2 ≤ v % 4 → b.get (F.PCH_EXC_EXC_MODE n) = 3 →
        exec (.pchCfgWrite a n 0 w) s = .next { s with hw := s.hw.answered a base v (b.bump (F.PCH_REFUSE_CNT n), .busyResource) }) ∧
      (v % 4 < 2 ∨ b.get (F.PCH_EXC_EXC_MODE n) ≠ 3 →
        exec (.pchCfgWrite a n 0 w) s = .next { s with hw := s.hw.answered a base v (((b2.applyRange n (!b.flag (F.PCH_IN_RANGE_AUTO n))).lookPrec n).settlePower, .ok) })) ∧
    (s.hw.acts a (base + 8) v = true →
      let b := s.hw.touched (base + 8)
      let mode := bitsOf v 31 30
      let p := excPower mode (bitsOf v 12 0) (bitsOf v 20 16) (b.get (F.PCH_DRV_DRV_ILIM n))
      let bad := (mode = 3 ∧ 2 ≤ b.get (F.PCH_IN_INPUT_MODE n)) ∨ (mode ≠ 3 ∧ b.flag (F.PCH_DRV_OWNER_VALID n) = true) ∨ 4000000 < b.excSum - b.excPowerOf n + p
      let b1 := b.writeFields (base + 8) v
      let same := mode = b.get (F.PCH_EXC_EXC_MODE n)
      let b2 := if same ∧ b1.excV n = b.excV n then b1 else b1.settleFull n
      let b3 := ((b2.put (F.PCH_DRV_DRV_VALUE n) 0).put (F.PCH_STAT_POL n) 0).setPch n { b2.pch n with rev := 0 }
      (bad → exec (.pchCfgWrite a n 1 w) s = .next { s with hw := s.hw.answered a (base + 8) v (b.bump (F.PCH_REFUSE_CNT n), .busyResource) }) ∧
      (¬ bad → same → exec (.pchCfgWrite a n 1 w) s = .next { s with hw := s.hw.answered a (base + 8) v ((b2.lookPrec n).settlePower, .ok) }) ∧
      (¬ bad → ¬ same → exec (.pchCfgWrite a n 1 w) s = .next { s with hw := s.hw.answered a (base + 8) v ((b3.lookPrec n).settlePower, .ok) })) ∧
    (s.hw.acts a (base + 0x20) v = true →
      let b := s.hw.touched (base + 0x20)
      let p := excPower (b.get (F.PCH_EXC_EXC_MODE n)) (b.get (F.PCH_EXC_EXC_V n)) (b.get (F.PCH_EXC_ILIM n)) (bitsOf v 24 20)
      (4000000 < b.excSum - b.excPowerOf n + p →
        exec (.pchCfgWrite a n 2 w) s = .next { s with hw := s.hw.answered a (base + 0x20) v (b.bump (F.PCH_REFUSE_CNT n), .busyResource) }) ∧
      (b.excSum - b.excPowerOf n + p ≤ 4000000 →
        exec (.pchCfgWrite a n 2 w) s = .next { s with hw := s.hw.answered a (base + 0x20) v (b.writeFields (base + 0x20) v, .ok) })) ∧
    (s.hw.acts a (base + 0x18) v = true →
      let b := s.hw.touched (base + 0x18)
      let b1 := b.writeFields (base + 0x18) v
      (b.faultBits n ≠ 0 → b1.faultBits n = 0 → exec (.faultClearWrite a n w) s =
        .next { s with hw := s.hw.answered a (base + 0x18) v (((b1.put (F.PCH_STAT_SENSE_LOCAL n) 0).settleFull n).setLevel n false 0, .ok) }) ∧
      (b.faultBits n = 0 ∨ b1.faultBits n ≠ 0 → exec (.faultClearWrite a n w) s =
        .next { s with hw := s.hw.answered a (base + 0x18) v (b1, .ok) }))

/-- Precision faults: asserted, cleared, limited. On a tile that is on, a monitored pin out of its window sets its cause, counts it in PCH_FAULT_CNT,
marks the next sample, raises PCH_FAULT's level with the causes and sends the loops that take the channel to SAFE with cause 3; a pin of another mode
or a cause that is set changes nothing. EXC_LIMIT does the same where excitation is on and not in DRIVE. A drive limit sets DRV_LIMIT and latches its
event with the drive value; it is no fault. Under AUTO an absent cause clears, and the channel leaves fault with its last cause; under LATCH nothing
clears by itself. (R147, R151, R158, R160, R168, R169, R170, R502, spec/05_precision_front_end.md) -/
def Obligations.FaultsAndLimits : Prop :=
  ∀ (n c : Nat) (s : State), n < 64 → c < 4 →
    let b := s.hw
    let faulted (k : Nat) : Block :=
      let b1 := (b.put (faultField n k) 1).bump (F.PCH_FAULT_CNT n)
      b1.setPch n { b1.pch n with faultSeen := true }
    let done (d : Block) : Block := ((d.setLevel n true (d.faultPayload n)).tripTakers n 3).wakeCore
    (b.tileOn (n / 16) = true → b.monitored n c = true → b.flag (faultField n c) = false →
      (c < 2 ∨ b.flag (F.PCH_STAT_SENSE_LOCAL n) = true → exec (.faultAssert n c) s = .next { s with hw := done (faulted c) }) ∧
      (2 ≤ c → b.flag (F.PCH_STAT_SENSE_LOCAL n) = false →
        exec (.faultAssert n c) s = .next { s with hw := done (((faulted c).put (F.PCH_STAT_SENSE_LOCAL n) 1).settleFull n) })) ∧
    (b.tileOn (n / 16) = false ∨ b.monitored n c = false ∨ b.flag (faultField n c) = true → exec (.faultAssert n c) s = .next s) ∧
    (b.excOn n = true → b.get (F.PCH_EXC_EXC_MODE n) ≠ 3 → b.flag (F.PCH_FAULT_EXC_LIMIT n) = false →
      exec (.excLimitAssert n) s = .next { s with hw := done (faulted 4) }) ∧
    (b.excOn n = false → exec (.excLimitAssert n) s = .next s ∧ exec (.drvLimitAssert n) s = .next s) ∧
    (b.excOn n = true → b.get (F.PCH_EXC_EXC_MODE n) = 3 →
      exec (.drvLimitAssert n) s = .next { s with hw := (b.put (F.PCH_FAULT_DRV_LIMIT n) 1).raise (64 + n) (b.get (F.PCH_DRV_DRV_VALUE n)) }) ∧
    (∀ k < 5, b.tileOn (n / 16) = true → b.flag (faultField n k) = true →
      (b.flag (F.PCH_FAULT_FAULT_MODE n) = false → exec (.faultAutoClear n k) s = .next s) ∧
      (b.flag (F.PCH_FAULT_FAULT_MODE n) = true →
        let b1 := b.put (faultField n k) 0
        (b1.faultBits n ≠ 0 → exec (.faultAutoClear n k) s = .next { s with hw := b1 }) ∧
        (b1.faultBits n = 0 → exec (.faultAutoClear n k) s =
          .next { s with hw := ((b1.put (F.PCH_STAT_SENSE_LOCAL n) 0).settleFull n).setLevel n false 0 })))

/-- Reversal, duty, settling, reference, and a new rate in force. A reversing channel whose half-period of samples has passed exchanges its polarity,
starts a new half-period and settles; before that nothing changes. Under a grant other than 256 a duty period begins when the last has passed, with
excitation on unless the grant is 0, and its on-window ends after grant/256 of the period. A settling count ends at 0 only. A REF_SEL change has
settled when its wait has passed; the tile's internal reference settles for its sixteen channels. A new ODR or FILTER comes into force at the first
instant of the new grid at least 10 µs after the write, closes the page and settles the channel. (R152, R154, R165, R184, R187, R192,
spec/05_precision_front_end.md, spec/06_precision_conversion.md) -/
def Obligations.ExcitationAndSettling : Prop :=
  ∀ (n : Nat) (s : State), n < 64 →
    let b := s.hw
    let c := b.pch n
    let g := b.get (F.PCH_DUTY_DUTY_GRANT n)
    (b.tileOn (n / 16) = true →
      (b.get (F.PCH_EXC_EXC_MODE n) = 2 → max (b.get (F.PCH_REV n)) (6 * b.lenNow n) ≤ c.rev →
        let b1 := b.putB (F.PCH_STAT_POL n) (!b.flag (F.PCH_STAT_POL n))
        exec (.excReversal n) s = .next { s with hw := (b1.setPch n { b1.pch n with rev := 0 }).settleFull n }) ∧
      (b.get (F.PCH_EXC_EXC_MODE n) ≠ 2 ∨ c.rev < max (b.get (F.PCH_REV n)) (6 * b.lenNow n) → exec (.excReversal n) s = .next s) ∧
      (g ≠ 256 → c.dutyStart + b.dutyPeriod n ≤ b.tick → exec (.excDutyOn n) s =
        .next { s with hw := (b.setPch n { c with dutyStart := c.dutyStart + b.dutyPeriod n, dutyOn := decide (g ≠ 0) }).lookPrec n }) ∧
      (g ≠ 256 → c.dutyOn = true → c.dutyStart * 256 + b.dutyPeriod n * g ≤ b.tick * 256 → exec (.excDutyOff n) s =
        .next { s with hw := (b.setPch n { c with dutyOn := false }).lookPrec n }) ∧
      (g = 256 → exec (.excDutyOn n) s = .next s ∧ exec (.excDutyOff n) s = .next s) ∧
      (∀ t, c.refWait = some t →
        (t ≤ b.tick → exec (.refSettled n false) s = .next { s with hw := b.setPch n { c with refWait := none } }) ∧
        (b.tick < t → exec (.refSettled n false) s = .next s)) ∧
      (∃ t, exec (.refSettled n true) s = .next t ∧ t.hw.regs = b.regs ∧ t.hw.dram = b.dram ∧ t.pending = s.pending ∧
        ∀ m < 64, t.hw.pch m = if m / 16 = n / 16 then { b.pch m with refUp := false } else b.pch m) ∧
      (∀ t k, c.cfgTick = some t → b.blockAt (b.get (F.PCV_CFG_ODR n)) = some k →
        let b1 := b.closePage n
        let x : PrecCh := { b1.pch n with odr := b.get (F.PCV_CFG_ODR n), filter := b.get (F.PCV_CFG_FILTER n), cfgTick := none, block := k }
        (t + 2500 ≤ b.tick → exec (.pcvCfgInForce n) s = .next { s with hw := (b1.setPch n x).settleFull n }) ∧
        (b.tick < t + 2500 → exec (.pcvCfgInForce n) s = .next s))) ∧
    (c.settle = some 0 → exec (.precSettleEnd n) s = .next { s with hw := b.setPch n { c with settle := none } }) ∧
    (c.settle ≠ some 0 → exec (.precSettleEnd n) s = .next s)

/-- A precision sample: its word, its timestamp, where it goes. Where the decimation block of a converting channel completes at this tick and has not been
given, PRECISION_SAMPLE_DONE puts one item of the channel's word, this tick's time and its slot onto the tile links, shows the word in PCV_LAST,
appends the sample to what the buffers store, and advances slot, count and settling count; no byte of DRAM changes here. The word's upper 24 bits are
the value, held within 24 bits, then the range in force, SETTLING, FAULT, REF_UNSETTLED and CAL_VALID. A channel that does not convert, or no block
that completes, changes nothing. What the registers held of coefficients in error is reset first. (R180, R183, R189, R190, R192, R204, R307,
spec/06_precision_conversion.md) -/
def Obligations.PrecisionSamples : Prop :=
  (∀ (n k : Nat) (x : PrecInput) (s : State), n < 64 → s.hw.blockAt (s.hw.pch n).odr = some k → s.hw.converting n = true → (s.hw.pch n).block ≠ k →
    let b := ((s.hw.lookPrec n).precMeasures n x).coefCheck n (s.hw.pch n).range
    let c := b.pch n
    let settling := c.settle.getD 0 != 0
    let fault := c.faultSeen || b.faultBits n != 0
    let word := b.precWord n c.range (b.precClip n c.range x.raw).1 settling fault (b.refUnsettled n)
    c.range < 8 →
    let item := wordBytes [word, tsNs s.hw.stampRaw, word1 s.hw.stampRaw s.hw.stampDom s.hw.stampQuality (960 + n), c.slot % 2 ^ 32]
    ∃ t, exec (.precisionSampleDone n x) s = .next t ∧ t.pending = s.pending ∧ t.hw.dram = s.hw.dram ∧ t.hw.posted = s.hw.posted ∧
      t.hw.links = s.hw.links ++ [.item (72 + n / 16) s.hw.stampRaw s.hw.stampDom s.hw.stampQuality item] ∧
      t.hw.get (F.PCV_LAST n) = word ∧ (t.hw.pch n).slot = c.slot + 1 ∧ (t.hw.pch n).done = c.done + 1 ∧ (t.hw.pch n).block = k ∧
      t.hw.prec.store = b.prec.store ++
        [.sample n c.slot word s.hw.stampRaw s.hw.stampDom s.hw.stampQuality c.odr c.filter (s.hw.time.resid != 0)]) ∧
  (∀ (n : Nat) (x : PrecInput) (s : State), n < 64 → s.hw.blockAt (s.hw.pch n).odr = none ∨ s.hw.converting n = false →
    exec (.precisionSampleDone n x) s = .next s) ∧
  (∀ (b : Block) (n r : Nat) (raw : Int) (p q u : Bool), r < 8 →
    let v := (b.precClip n r raw).1
    let w := b.precWord n r v p q u
    w < 2 ^ 32 ∧ signed 24 (w / 256) = v ∧ w / 32 % 8 = r ∧ bitAt w 4 = p ∧ bitAt w 3 = q ∧ bitAt w 2 = u ∧
      bitAt w 1 = bitAt (b.get (F.PCV_CAL_VALID n)) r)

/-- The precision sample buffers: one slot, one tag, and the write count. While the active concentrator is on, PREC_BUFFER_STORE takes the oldest waiting
sample, writes its word into its channel's slot of DRAM, and sets CNV_WR_CNT to one past the slot; every byte outside that slot and the tag of its
page reads as before. A page that closes gets its tag, and CNV_WR_CNT the start of the next page. With nothing waiting nothing changes. (R191, R193,
R194, R20, spec/06_precision_conversion.md) -/
def Obligations.PrecisionBuffers : Prop :=
  (∀ s : State, s.hw.prec.store = [] → exec .precBufferStore s = .next s) ∧
  (∀ (s : State) (n slot word raw dom quality odr filter : Nat) (slew : Bool) (l : List PrecStore), n < 64 → slot < 2 ^ 63 → s.hw.ccOn = true →
    s.hw.prec.store = .sample n slot word raw dom quality odr filter slew :: l →
    let p : Page := (lookup s.hw.prec.pages n).getD ⟨slot, raw, dom, quality, odr, filter, slew, 0⟩
    let at_ := 0x0684000000 + n * 0x100000 + slot % 262144 * 4
    ∃ t, exec .precBufferStore s = .next t ∧ t.pending = s.pending ∧ t.hw.prec.store = l ∧
      t.hw.load at_ 4 = leBytes 4 word ∧
      (∀ x, (x < at_ ∨ at_ + 4 ≤ x) → (x < tagAddr n p.first ∨ tagAddr n p.first + 16 ≤ x) → readByte t.hw.dram x = readByte s.hw.dram x) ∧
      t.hw.get64 (F.CNV_WR_CNT_LO n) (F.CNV_WR_CNT_HI n) = slot + 1 ∧
      t.hw.posted = s.hw.posted ∧ t.hw.evb = s.hw.evb) ∧
  (∀ (s : State) (n : Nat) (p : Page) (l : List PrecStore), n < 64 → p.first + 256 < 2 ^ 64 → s.hw.ccOn = true →
    s.hw.prec.store = .close n :: l → lookup s.hw.prec.pages n = some p →
    ∃ t, exec .precBufferStore s = .next t ∧ t.hw.prec.store = l ∧ t.hw.load (tagAddr n p.first) 16 = p.tag n p.count ∧
      (∀ x, (x < tagAddr n p.first ∨ tagAddr n p.first + 16 ≤ x) → readByte t.hw.dram x = readByte s.hw.dram x) ∧
      t.hw.get64 (F.CNV_WR_CNT_LO n) (F.CNV_WR_CNT_HI n) = p.first + 256)

/-- On-demand reads, and system calibration. A request takes the lowest free result slot, keeps channel and URGENT there and clears DROPPED; with all
eight taken it is refused with BUSY_RESOURCE and counted. A request not served in its time (1 s, or for an urgent one an output period and 10 µs) ends
with DONE and DROPPED, counted, and its source's level. Writing 1 to DONE of a slot that is done frees it; of one that is not done it changes nothing.
GO of a step for a converting channel with no step under way sets BUSY and starts collecting in the range in force; while BUSY it is refused and
counted; for a channel that does not convert RESULT is 5. ABORT while collecting ends with RESULT 1 and releases the range. When collection has ended,
step 1 writes the mean as offset (a mean that is no whole code is rounded a way that Config leaves open); step 2 writes the gain and sets CAL_VALID of
the range where the deviation has the target's sign and lies within a factor of 2 of it, and otherwise ends with RESULT 3, the coefficients standing.
A written offset is held and changes no coefficient until the gain of the same channel and range is written, which applies both and sets CAL_VALID.
(R197, R198, R199, R200, R201, R202, spec/06_precision_conversion.md) -/
def Obligations.OnDemandAndCalibration : Prop :=
  ((∀ (a : Access) (w : Word) (s : State), a.wf = true → s.hw.acts a 0x130030 w.toNat = true →
     let b := s.hw
     ((∀ k < 8, bitAt (b.get F.CNV_OD_STAT) k = true) →
       exec (.odRequest a w) s = .next { s with hw := b.answered a 0x130030 w.toNat (b.bump F.CNV_OD_DROP, .busyResource) }) ∧
     (∀ k < 8, bitAt (b.get F.CNV_OD_STAT) k = false → (∀ j < k, bitAt (b.get F.CNV_OD_STAT) j = true) →
       let b1 := ((b.put (F.CNV_OD_CTRL_CHANNEL k) (w.toNat % 64)).put (F.CNV_OD_CTRL_URGENT k) (bitsOf w.toNat 31 31)).put (F.CNV_OD_CTRL_DROPPED k) 0
       let b2 := b1.put F.CNV_OD_STAT (setBit (b.get F.CNV_OD_STAT) k true)
       let b3 : Block := { b2 with prec := { b1.prec with od := insertKey b1.prec.od k b.tick } }
       exec (.odRequest a w) s = .next { s with hw := b.answered a 0x130030 w.toNat (b3, .ok) })) ∧
   (∀ (k t : Nat) (s : State), k < 8 → lookup s.hw.prec.od k = some t → s.hw.ccOn = true →
     let b := s.hw
     let n := b.get (F.CNV_OD_CTRL_CHANNEL k)
     let wait := if b.flag (F.CNV_OD_CTRL_URGENT k) then b.periodTicks n + 2500 else 250000000
     let b1 := ((b.put (F.CNV_OD_CTRL_DROPPED k) 1).put (F.CNV_OD_CTRL_DONE k) 1).bump F.CNV_OD_DROP
     let b2 : Block := { b1 with prec := { b1.prec with od := eraseKey b1.prec.od k } }
     (t + wait ≤ b.tick → exec (.odDropTimeout k) s =
       .next { s with hw := b2.setLevel (144 + k) true (3 * 2 ^ 30 + b.get (F.CNV_OD_CTRL_URGENT k) * 2 ^ 29 + n) }) ∧
     (b.tick < t + wait → exec (.odDropTimeout k) s = .next s)) ∧
   (∀ (a : Access) (k : Nat) (w : Word) (s : State), a.wf = true → k < 8 → s.hw.acts a (0x13010c + 0x10 * k) w.toNat = true →
     let b := s.hw
     let freed := ((b.put (F.CNV_OD_CTRL_DONE k) 0).put F.CNV_OD_STAT (setBit (b.get F.CNV_OD_STAT) k false)).setLevel (144 + k) false 0
     let done := bitAt w.toNat 31 && b.flag (F.CNV_OD_CTRL_DONE k)
     exec (.odSlotFree a k w) s = .next { s with hw := b.answered a (0x13010c + 0x10 * k) w.toNat (if done then freed else b, .ok) })) ∧
  ((∀ (a : Access) (w : Word) (s : State), a.wf = true →
     let b := s.hw
     (let v := setBit w.toNat 31 true
      let n := v % 64
      let step := bitsOf v 9 8
      b.acts a 0x130010 v = true → bitAt v 30 = false → step = 1 ∨ step = 2 →
      (b.flag F.CNV_CAL_STAT_BUSY = true →
        exec (.calGo a w) s = .next { s with hw := b.answered a 0x130010 v (b.bump F.CNV_REFUSE_CNT, .busyResource) }) ∧
      (b.flag F.CNV_CAL_STAT_BUSY = false →
        let b1 := ((b.put F.CNV_CAL_STAT_CHANNEL n).put F.CNV_CAL_STAT_STEP step).put F.CNV_CAL_STAT_RANGE (b.pch n).range
        let b2 := b1.put F.CNV_CAL_STAT_COUNT 0
        let b3 := b2.put F.CNV_CAL_STAT_BUSY 1
        (b.converting n = true → exec (.calGo a w) s = .next { s with hw := b.answered a 0x130010 v ({ b3 with prec := { b2.prec with cal := some ⟨n, step, max 1 (b.get F.CNV_CAL_AVG), 0, 0, false⟩ } }, .ok) }) ∧
        (b.converting n = false → exec (.calGo a w) s = .next { s with hw := b.answered a 0x130010 v (b2.put F.CNV_CAL_STAT_RESULT 5, .ok) }))) ∧
     (let v := setBit w.toNat 30 true
      b.acts a 0x130010 v = true → bitAt v 31 = false →
      (∀ x, b.prec.cal = some x → x.compute = false →
        exec (.calAbort a w) s = .next { s with hw := b.answered a 0x130010 v ((b.calEnd 1).applyRange x.chan false, .ok) }) ∧
      (b.prec.cal = none → exec (.calAbort a w) s = .next { s with hw := b.answered a 0x130010 v (b, .ok) }))) ∧
   (∀ (s : State) (x : CalStep), s.hw.prec.cal = some x → x.compute = true → s.hw.ccOn = true →
     let b := s.hw
     let r := (b.pch x.chan).range
     let m := divOpen x.sum x.count
     let d := m - signed 24 (b.get (F.PCV_CAL_OFS x.chan r))
     let t := signed 24 (b.get F.CNV_CAL_TARGET)
     let good := 0 < d * t ∧ d.natAbs ≤ 2 * t.natAbs ∧ t.natAbs ≤ 2 * d.natAbs
     let ends (c : Block) (res : Nat) : Block := (c.calEnd res).applyRange x.chan false
     (x.step = 1 → exec .calComputeDone s = .next { s with hw := ends (b.put (F.PCV_CAL_OFS x.chan r) (unsigned 24 m)) 0 }) ∧
     (x.step ≠ 1 → ¬ good → exec .calComputeDone s = .next { s with hw := ends b 3 }) ∧
     (x.step ≠ 1 → good →
       let gain := (divNearestAway (t.natAbs * (2 ^ 30 : Nat)) d.natAbs).toNat
       exec .calComputeDone s = .next { s with hw := ends ((b.put (F.PCV_CAL_GAIN x.chan r) gain).put (F.PCV_CAL_VALID x.chan) (setBit (b.get (F.PCV_CAL_VALID x.chan)) r true)) 0 })) ∧
   (∀ (a : Access) (n r : Nat) (w : Word) (s : State), a.wf = true → n < 64 → r < 6 →
     let base := 0x220000 + 0x40000 * (n / 16) + 0x100 * (n % 16)
     (s.hw.acts a (base + 0x90 + 8 * r) w.toNat = true →
       let b := s.hw.touched (base + 0x90 + 8 * r)
       exec (.calOfsWrite a n r w) s = .next { s with hw := s.hw.answered a (base + 0x90 + 8 * r) w.toNat ({ b with prec := { b.prec with ofsHeld := insertKey b.prec.ofsHeld (8 * n + r) (w.toNat % 2 ^ 24) } }, .ok) }) ∧
     (∀ v, s.hw.acts a (base + 0x94 + 8 * r) w.toNat = true → lookup s.hw.prec.ofsHeld (8 * n + r) = some v →
       let b := s.hw.touched (base + 0x94 + 8 * r)
       let b1 := (b.put (F.PCV_CAL_OFS n r) v).put (F.PCV_CAL_GAIN n r) w.toNat
       let b2 := b1.put (F.PCV_CAL_VALID n) (setBit (b.get (F.PCV_CAL_VALID n)) r true)
       exec (.calGainWrite a n r w) s = .next { s with hw := s.hw.answered a (base + 0x94 + 8 * r) w.toNat ({ b2 with prec := { b2.prec with ofsHeld := eraseKey b2.prec.ofsHeld (8 * n + r) } }, .ok) })))

/-- REFIN, PLL and oven; TOUT programs. With the rails on: REFIN's presence is set and REF_NOW and validity follow REF_SEL (AUTO takes REFIN while
present, else the oven crystal while D_OVN is on); where the reference selected is not valid PLL_LOCK falls, otherwise it stands. PLL_LOCK of a valid
reference sets PLL_LOCK and starts the count of ticks at 0, and does nothing else than that; without a valid reference it changes nothing. OVN_READY
rises only with D_OVN on and falls when the crystal leaves its band. No domain's time, no DRAM byte and no waiting message changes. Arming an armed
pin is refused with BUSY_RESOURCE and counted; arming another takes its fields and program, ARM set, LATE and EMITTED cleared; a single pulse less
than 2 µs ahead is LATE and disarms. Writing ARM 0 disarms at once and takes the fields. When the program's domain has reached the next instance, the
pulse begins, EMITTED rises, and the program counts on or, with no instance left, disarms; before that nothing changes. The pulse ends when its domain
has reached start plus width, and not before. (R210, R211, R212, R241, R244, R236, R237, R238, R243, spec/07_time_base.md) -/
def Obligations.ReferenceAndTimedOutputs : Prop :=
  (∀ s : State, s.hw.phase.railsOn = true →
     let b := s.hw
     let auto := 2 ≤ b.get F.TIM_CTRL_REF_SEL
     (∃ t, exec .refinPresentSet s = .next t ∧ t.pending = s.pending ∧ t.hw.get F.TIM_STAT_REFIN_PRESENT = 1 ∧
       t.hw.get F.TIM_STAT_REF_NOW = (if auto ∨ b.get F.TIM_CTRL_REF_SEL = 1 then 1 else 0) ∧
       t.hw.time = { b.time with refValid := if auto ∨ b.get F.TIM_CTRL_REF_SEL = 1 then true else b.domainOn 17 } ∧
       (t.hw.time.refValid = true → t.hw.get F.TIM_STAT_PLL_LOCK = b.get F.TIM_STAT_PLL_LOCK) ∧
       (t.hw.time.refValid = false → t.hw.get F.TIM_STAT_PLL_LOCK = 0) ∧ t.hw.dram = b.dram ∧ t.hw.posted = b.posted) ∧
     (∃ t, exec .refinLost s = .next t ∧ t.pending = s.pending ∧ t.hw.get F.TIM_STAT_REFIN_PRESENT = 0 ∧
       t.hw.get F.TIM_STAT_REF_NOW = (if b.get F.TIM_CTRL_REF_SEL = 1 then 1 else 0) ∧
       t.hw.time = { b.time with refValid := if b.get F.TIM_CTRL_REF_SEL = 1 then false else b.domainOn 17 } ∧
       (t.hw.time.refValid = true → t.hw.get F.TIM_STAT_PLL_LOCK = b.get F.TIM_STAT_PLL_LOCK) ∧
       (t.hw.time.refValid = false → t.hw.get F.TIM_STAT_PLL_LOCK = 0) ∧ t.hw.dram = b.dram ∧ t.hw.posted = b.posted) ∧
     (b.time.refValid = true → b.flag F.TIM_STAT_PLL_LOCK = false →
       exec .pllLock s = .next { s with hw := { b.put F.TIM_STAT_PLL_LOCK 1 with time := { b.time with pllTicks := 0 } } }) ∧
     (b.time.refValid = false → exec .pllLock s = .next s) ∧
     (b.domainOn 17 = true → exec .ovnReady s = .next { s with hw := b.put F.TIM_STAT_OVN_READY 1 }) ∧
     (b.domainOn 17 = false → exec .ovnReady s = .next s) ∧
     exec .ovnLeaveBand s = .next { s with hw := b.put F.TIM_STAT_OVN_READY 0 }) ∧
  ((∀ (a : Access) (o : Nat) (w : Word) (s : State), a.wf = true → o < 4 →
     let addr := 0x50300 + 0x20 * o
     let b := s.hw
     (let v := setBit w.toNat 31 true
      b.acts a addr v = true →
      let b1 := b.toutFields o v
      let p := b1.toutProgram o
      let b2 := ((b1.put (F.TOUT_CTRL_ARM o) 1).put (F.TOUT_CTRL_LATE o) 0).put (F.TOUT_EMITTED o) 0
      let skip := p.passed (wrapTime (b.toutTime p.dom + 2000 * 2 ^ 32 : Nat))
      (b.flag (F.TOUT_CTRL_ARM o) = true →
        exec (.toutArm a o w) s = .next { s with hw := b.answered a addr v (b.bump F.TIM_REFUSE_CNT, .busyResource) }) ∧
      (b.flag (F.TOUT_CTRL_ARM o) = false →
        (p.period = 0 → skip ≠ 0 → exec (.toutArm a o w) s = .next { s with hw := b.answered a addr v ((b2.disarm o).put (F.TOUT_CTRL_LATE o) 1, .ok) }) ∧
        (p.period ≠ 0 ∨ skip = 0 → p.isOver skip = true → exec (.toutArm a o w) s = .next { s with hw := b.answered a addr v (b2.disarm o, .ok) }) ∧
        (p.period ≠ 0 ∨ skip = 0 → p.isOver skip = false → exec (.toutArm a o w) s = .next { s with hw := b.answered a addr v ({ b2 with time := { b2.time with tout := insertKey b2.time.tout o { p with next := skip } } }, .ok) }))) ∧
     (let v := setBit w.toNat 31 false
      b.acts a addr v = true →
      exec (.toutDisarm a o w) s = .next { s with hw := b.answered a addr v ((b.disarm o).toutFields o v, .ok) } ∧
      lookup (b.disarm o).time.tout o = none ∧ (b.disarm o).get (F.TOUT_CTRL_ARM o) = 0)) ∧
   (∀ (o : Nat) (p : Tout) (s : State), o < 4 → lookup s.hw.time.tout o = some p → p.waiting = none →
     let b := s.hw
     let start := p.instant p.next
     let b1 := b.bump (F.TOUT_EMITTED o)
     let b2 : Block := { b1 with time := { b.time with pulse := insertKey b.time.pulse o (p.dom, wrapTime (start + p.width * 2 ^ 32 : Nat)) } }
     (timeDiff (b.toutTime p.dom) start < 0 → exec (.toutInstance o) s = .next s) ∧
     (0 ≤ timeDiff (b.toutTime p.dom) start →
       (p.isOver (p.next + 1) = true → exec (.toutInstance o) s = .next { s with hw := b2.disarm o }) ∧
       (p.isOver (p.next + 1) = false → exec (.toutInstance o) s =
         .next { s with hw := { b2 with time := { b2.time with tout := insertKey b.time.tout o { p with next := p.next + 1 } } } }))) ∧
   (∀ (o dom end_ : Nat) (s : State), o < 4 → lookup s.hw.time.pulse o = some (dom, end_) →
     (0 ≤ timeDiff (s.hw.toutTime dom) end_ →
       exec (.toutPulseEnd o) s = .next { s with hw := { s.hw with time := { s.hw.time with pulse := eraseKey s.hw.time.pulse o } } }) ∧
     (timeDiff (s.hw.toutTime dom) end_ < 0 → exec (.toutPulseEnd o) s = .next s)))

/-- SYNC, DELAY_REQ and DELAY_RESP of a domain. A domain sends SYNC once an epoch of its own, when its time has passed 262 144 ns into it, on each child
port in class 3, and not again. A child that hears SYNC on its parent port under the hash it follows keeps the message and takes t2 from its domain's
time; under another hash it only notes it. 131 072 ns after t2 it sends DELAY_REQ to its parent and takes t3, once. A parent answers every DELAY_REQ
of an active port with DELAY_RESP at its domain's time. A DELAY_RESP that completes a valid sync gives the offset and delay and ends the exchange; one
that does not changes nothing. These hold where TST TIME does not meddle with the port. (R218, R220, R221, R222, R586, spec/07_time_base.md) -/
def Obligations.TimeExchanges : Prop :=
  ∀ (s : State),
    let b := s.hw
    (∀ x < 2, b.phase.railsOn = true →
      let d := b.domain x
      let e := epochOf d.time
      let m := b.timeMsg 1 x (e % 4096) (e / 4096) d.time
      (262144 * 2 ^ 32 ≤ d.time % 2 ^ 52 → d.syncSent ≠ e + 1 →
        ∃ t, exec (.syncSend x) s = .next t ∧ t.hw = { b.setDomain x { d with syncSent := e + 1 } with posted := b.posted ++ (b.childPorts x).map fun p => ⟨.link p, 3, .time m, false⟩ } ∧ t.pending = s.pending) ∧
      (d.time % 2 ^ 52 < 262144 * 2 ^ 32 ∨ d.syncSent = e + 1 → exec (.syncSend x) s = .next s)) ∧
    (∀ (p : Nat) (m : TimeMsg), Instr.wf (.syncRx p m) = true → m.msg = 1 → b.portActive p = true → b.parentPort m.domain = some p →
      b.treeMaster m.domain = false → bitAt (b.get F.TST_STAT_MASK) 3 = false →
      let d := b.domain m.domain
      (b.hashOk m.domain m.hash = true → exec (.syncRx p m) s =
        .next { s with hw := b.setDomain m.domain { d with exch := some ⟨m, wrapTime d.time, none⟩, sawFollowed := true } }) ∧
      (b.hashOk m.domain m.hash = false → ∃ o, exec (.syncRx p m) s =
        .next { s with hw := b.setDomain m.domain { d with sawOffered := true, offered := o } })) ∧
    (∀ x < 2, ∀ (e : Exchange) (p : Nat), (b.domain x).exch = some e → b.parentPort x = some p →
      let d := b.domain x
      (e.t3 = none → (131072 * 2 ^ 32 : Int) ≤ timeDiff d.time e.t2 →
        ∃ m : TimeMsg, m.msg = 2 ∧ m.domain = x ∧ m.epoch = e.sync.epoch ∧ m.wrap = e.sync.wrap ∧ exec (.delayReqSend x) s =
          .next { s with hw := (b.setDomain x { d with exch := some { e with t3 := some d.time } }).post (.link p) 3 (.time m) }) ∧
      (e.t3 ≠ none ∨ timeDiff d.time e.t2 < 131072 * 2 ^ 32 → exec (.delayReqSend x) s = .next s)) ∧
    (∀ (p : Nat) (m : TimeMsg), Instr.wf (.delayReqRx p m) = true → m.msg = 2 → b.portActive p = true → bitAt (b.get F.TST_STAT_MASK) 3 = false →
      exec (.delayReqRx p m) s = .next { s with hw := b.post (.link p) 3 (.time (b.timeMsg 3 m.domain m.epoch m.wrap (wrapTime (b.domain m.domain).time))) }) ∧
    (∀ (p : Nat) (m : TimeMsg) (e : Exchange), Instr.wf (.delayRespRx p m) = true → m.msg = 3 → b.portActive p = true →
      (b.domain m.domain).exch = some e →
      (b.validSync p m.domain m e = true →
        exec (.delayRespRx p m) s = .next { s with hw := b.retimed (b.takeSync p m.domain m e) } ∧
        ((b.takeSync p m.domain m e).domain m.domain).exch = none ∧ ((b.takeSync p m.domain m e).domain m.domain).established = true ∧
        (b.takeSync p m.domain m e).get (F.TIM_DOM_STATE_MISSED m.domain) = 0 ∧
        (b.takeSync p m.domain m e).syncState m.domain = syTrack) ∧
      (b.validSync p m.domain m e = false → exec (.delayRespRx p m) s = .next s))

/-- A domain's own epoch boundary, a master's set time, the end of a slew. DOMAIN_EPOCH_BOUNDARY acts once in each epoch of a domain that is no master: a
correction within the step threshold leaves the counter and steers the increment, within 4.0 ns ± 500 ppm; a larger one steps the counter by the
offset and counts it, but of the stamping domain it waits for the stamping time's boundary; an epoch without a valid sync raises MISSED, one with a
valid sync leaves it; the other domain's counter stands. A GO of a master's set time is taken for the next boundary, on any other module it is refused
and counted. SLEWING clears when the residual has reached 0. (R213, R223, R226, R231, R242, spec/07_time_base.md) -/
def Obligations.DomainBoundaries : Prop :=
  (∀ (x : Nat) (s : State), x < 2 → s.hw.phase.railsOn = true →
    let b := s.hw
    let d := b.domain x
    (epochOf d.time = d.epochSeen → exec (.domainEpochBoundary x) s = .next s) ∧
    (epochOf d.time ≠ d.epochSeen → b.syncState x ≠ syMaster →
      ∃ t, exec (.domainEpochBoundary x) s = .next t ∧ t.pending = s.pending ∧ (t.hw.domain x).synced = false ∧ (t.hw.domain x).pending = none ∧
        (t.hw.domain (1 - x)).time = (b.domain (1 - x)).time ∧
        t.hw.get (F.TIM_DOM_STATE_MISSED x) = (if d.synced then b.get (F.TIM_DOM_STATE_MISSED x) else satU 8 (b.get (F.TIM_DOM_STATE_MISSED x) + 1)) ∧
        (∀ theta inc, d.pending = some (theta, inc) →
          (t.hw.domain x).inc ≤ 17188459118 ∧ 17171279250 ≤ (t.hw.domain x).inc ∧
          (theta.natAbs ≤ b.get (F.TIM_DOM_SERVO_STEP_THR_NS x) * 2 ^ 32 → (t.hw.domain x).time = d.time ∧ (t.hw.domain x).epochSeen = epochOf d.time) ∧
          (b.get (F.TIM_DOM_SERVO_STEP_THR_NS x) * 2 ^ 32 < theta.natAbs → ¬ (b.time.established = true ∧ b.stampDom = x) →
            (t.hw.domain x).time = wrapTime (d.time - theta) ∧ t.hw.get (F.TIM_DOM_STEP_CNT x) = satU 32 (b.get (F.TIM_DOM_STEP_CNT x) + 1)) ∧
          (b.get (F.TIM_DOM_SERVO_STEP_THR_NS x) * 2 ^ 32 < theta.natAbs → b.time.established = true → b.stampDom = x →
            (t.hw.domain x).time = d.time ∧ (t.hw.domain x).selfStep = some theta)) ∧
        (d.pending = none → (t.hw.domain x).time = d.time ∧ (t.hw.domain x).epochSeen = epochOf d.time))) ∧
  (∀ (a : Access) (x : Nat) (w : Word) (s : State), a.wf = true → x < 2 →
    let addr := 0x50124 + 0x80 * x
    let v := setBit w.toNat 31 true
    let b := s.hw
    b.takes a = true → b.admits a addr true = true → b.lockedBits a.who addr = [] → b.lockedBits a.who (addr - 4) = [] →
    (b.heldFor a.who addr = none →
      (b.syncState x ≠ syMaster →
        exec (.masterSetGo a x w) s = .next { s with hw := b.finished a addr v (b.bump F.TIM_REFUSE_CNT, .busyResource) }) ∧
      (b.syncState x = syMaster → exec (.masterSetGo a x w) s = .next { s with hw := b.answered a addr v ((b.put (F.TIM_DOM_MSET_HI_WRAP x) (bitsOf v 15 0)).put (F.TIM_DOM_MSET_HI_GO x) 1, .ok) })) ∧
    (∀ lo, b.heldFor a.who addr = some lo → b.syncState x = syMaster →
      let b1 := (((b.dropHeld a.who).put (F.TIM_DOM_MSET_LO x) lo).put (F.TIM_DOM_MSET_HI_WRAP x) (bitsOf v 15 0)).put (F.TIM_DOM_MSET_HI_GO x) 1
      exec (.masterSetGo a x w) s = .next { s with hw := b.finished a addr v (b1.rewritten addr true, .ok) })) ∧
  (∀ s : State,
    (s.hw.time.resid = 0 → s.hw.flag F.TIM_STAT_SLEWING = true →
      exec .slewEnd s = .next { s with hw := s.hw.put F.TIM_STAT_SLEWING 0 }) ∧
    (s.hw.time.resid ≠ 0 → exec .slewEnd s = .next s))

/-- A held ID stands; between pending claims PINNED beats FIXED beats CLAIM, then the lower serial number. After CLAIM_RX of any claim a module that held
a valid ID holds the same valid ID. Where the module's own claim for an ID is pending and a claim of another module for that ID, not held, arrives
new, the module's claim stands exactly where it wins: its kind is stronger (PINNED over FIXED over CLAIM), or the kinds are equal and its serial
number is not the higher one; otherwise it is refused: PINNED and FIXED claims end, a CLAIM starts anew. (R444) -/
def Obligations.ClaimsAreRanked : Prop :=
  (∀ (p : Nat) (m : ClaimMsg) (s : State), Instr.wf (.claimRx p m) = true → s.hw.flag F.IDN_NODE_NODE_VALID = true →
    ∃ t, exec (.claimRx p m) s = .next t ∧ t.pending = s.pending ∧ t.hw.flag F.IDN_NODE_NODE_VALID = true ∧
      t.hw.get F.IDN_NODE_NODE_ID = s.hw.get F.IDN_NODE_NODE_ID) ∧
  (∀ (p : Nat) (m : ClaimMsg) (c : OwnClaim) (s : State), Instr.wf (.claimRx p m) = true → m.kind < 3 → c.kind < 3 →
    s.hw.fab.claim = some c → m.held = false → m.node = c.node → m.serial ≠ s.hw.serial →
    s.hw.floodSeen m.serial m.node m.floodId = false →
    let wins := (m.kind = 2 ∧ c.kind ≠ 2) ∨ (m.kind = 0 ∧ c.kind = 1) ∨ (m.kind = c.kind ∧ m.serial < s.hw.serial)
    ∃ t, exec (.claimRx p m) s = .next t ∧ t.pending = s.pending ∧
      (¬ wins → t.hw.fab.claim = some c) ∧ (wins → c.kind ≠ 1 → t.hw.fab.claim = none) ∧
      (wins → c.kind = 1 → ∃ x, t.hw.fab.claim = some x ∧ x.kind = 1 ∧ x.sent = 0))

/-- Claims and pins: seen once, held after 16 epochs, retried, without a target. A claim or pin whose key was seen within 2 s changes nothing. A new PIN
is flooded on and, at the module with its serial number, begins a PINNED claim. A claim gives the module its ID 16 epochs after its first flood,
valid, with the claim's kind, and a pinned module in reseat; before that nothing changes. A refused FIXED module claims its image's ID again after 1
024 epochs. A GO while a pinning is pending is refused and counted; otherwise the PIN is flooded and RESULT is pending, or DONE at once where the
module pins itself to the ID it holds. After 64 epochs without a claim of the target RESULT reads 4. (R27, R443, R445, R446, R454,
spec/15_bamien_fabric.md) -/
def Obligations.NodeIdCommands : Prop :=
  ∀ (s : State),
    let b := s.hw
    (∀ (p : Nat) (m : ClaimMsg), Instr.wf (.claimRx p m) = true → b.floodSeen m.serial m.node m.floodId = true →
      exec (.claimRx p m) s = .next s) ∧
    (∀ (p : Nat) (m : PinMsg), Instr.wf (.pinRx p m) = true →
      (b.floodSeen m.serial m.node m.floodId = true → exec (.pinRx p m) s = .next s) ∧
      (b.floodSeen m.serial m.node m.floodId = false →
        let b1 := (b.remember m.serial m.node m.floodId).flood (some p) (.pin m)
        exec (.pinRx p m) s = .next { s with hw := if m.serial = b.serial then b1.pinned m.node else b1 })) ∧
    (∀ c, b.fab.claim = some c → c.node < 4096 → c.kind < 3 →
      (c.sent < 17 → exec .claimHeld s = .next s) ∧
      (17 ≤ c.sent → ∃ t, exec .claimHeld s = .next t ∧ t.pending = s.pending ∧ t.hw.get F.IDN_NODE_NODE_ID = c.node ∧
        t.hw.get F.IDN_NODE_NODE_VALID = 1 ∧ t.hw.get F.IDN_NODE_NODE_SRC = c.kind ∧ t.hw.get F.FAB_STAT_CLAIMING = 0 ∧
        t.hw.fab.claim = none ∧ t.hw.reseat = (b.reseat || c.kind == 2) ∧ t.hw.dram = b.dram)) ∧
    (b.phase = .join → b.flag F.FAB_STAT_ID_REFUSED = true → b.fab.claim = none → b.activePorts ≠ [] →
      (b.fab.refusedAt + 1024 ≤ b.epochs → exec .idRetry s =
        .next { s with hw := { b.put F.FAB_STAT_CLAIMING 1 with fab := { b.fab with claim := some ⟨0, b.fab.imageNode, 0, b.fab.floodId⟩ } } }) ∧
      (b.epochs < b.fab.refusedAt + 1024 → exec .idRetry s = .next s)) ∧
    (∀ (a : Access) (w : Word), a.wf = true →
      let v := setBit w.toNat 31 true
      b.acts a 0xd0018 v = true →
      (b.get F.FAB_PIN_RESULT = 1 → exec (.pinGo a w) s = .next { s with hw := b.answered a 0xd0018 v (b.bump cIdRefuse, .busyResource) }) ∧
      (b.get F.FAB_PIN_RESULT ≠ 1 → b.isSelf (v % 4096) = true → b.get64 F.FAB_PIN_SER_LO F.FAB_PIN_SER_HI = b.serial →
        ∃ c, exec (.pinGo a w) s = .next { s with hw := b.answered a 0xd0018 v (c, .ok) } ∧
          c.get F.FAB_PIN_NODE = v % 4096 ∧ c.get F.FAB_PIN_RESULT = 2 ∧ c.fab.pin = none ∧ c.dram = b.dram) ∧
      (b.get F.FAB_PIN_RESULT ≠ 1 → (b.isSelf (v % 4096) = false ∨ b.get64 F.FAB_PIN_SER_LO F.FAB_PIN_SER_HI ≠ b.serial) →
        ∃ c, exec (.pinGo a w) s = .next { s with hw := b.answered a 0xd0018 v (c, .ok) } ∧
        c.get F.FAB_PIN_NODE = v % 4096 ∧ c.get F.FAB_PIN_RESULT = 1 ∧ c.dram = b.dram ∧
        ∃ j, c.fab.pin = some j ∧ j.node = v % 4096 ∧ j.serial = b.get64 F.FAB_PIN_SER_LO F.FAB_PIN_SER_HI)) ∧
    (∀ j, b.fab.pin = some j →
      (64 ≤ j.epochs → j.heard = false →
        exec .pinNoTarget s = .next { s with hw := { b.put F.FAB_PIN_RESULT 4 with fab := { b.fab with pin := none } } }) ∧
      (j.epochs < 64 ∨ j.heard = true → exec .pinNoTarget s = .next s))

/-- Frames at an active port: checks, link sequence, acknowledgement, replay, reorder. HCRC of "123456789" is 0xF4. At an ACTIVE port a frame whose HCRC
is wrong is counted and asks for a NAK; one whose trailer is wrong is counted at its port and, not LINK, asks for a NAK; a good frame of another LSEQ
than expected asks for a NAK and is not delivered; a good one of the expected LSEQ raises it, and is dropped and counted as a bad frame where its
fields are wrong. A LINK frame is delivered on its port while its class has room, and counted and dropped otherwise. A LACK frees the acknowledged
frames, takes the limits and sends what has credit; a NAK replays. Frames are replayed after 4 096 ticks without progress, and not before. LACK_SEND
emits a LACK of the last accepted LSEQ. A flow whose held frame has waited skips to it. At a port that is not up nothing changes. (R448, R449, R450,
R451, R452, R453, R461, R462, R390, spec/15_bamien_fabric.md) -/
def Obligations.FramesAtAPort : Prop :=
  hcrc [49, 50, 51, 52, 53, 54, 55, 56, 57] = 0xF4 ∧
  ∀ (p : Nat) (s : State), p < 8 →
    let b := s.hw
    let x := b.port p
    (∀ bytes : List Byte,
      let l := bytes.map BitVec.toNat
      let h := parseHeader l
      let fields := h.version == 1 && h.cls != 7 && decide (h.len ≤ 2048) && h.zeros
      let f : Frame := ⟨h.cls, h.mcast, h.link, h.poison, h.alt, h.dst, h.src, h.len, h.seq, h.boot, h.ttl, .raw ((l.drop 16).take h.len)⟩
      (b.portActive p = false → b.stage p ≠ stExchange → exec (.frameRx p bytes) s = .next s) ∧
      (b.portActive p = true →
        (checkFrame l = .badHeader → exec (.frameRx p bytes) s = .next { s with hw := (b.bump cHcrc).nak p }) ∧
        (checkFrame l = .badTrailer → h.link = false → exec (.frameRx p bytes) s = .next { s with hw := (b.bump (F.CRC_RXBAD p)).nak p }) ∧
        (checkFrame l = .badTrailer → h.link = true → exec (.frameRx p bytes) s = .next { s with hw := b.bump (F.CRC_RXBAD p) }) ∧
        (checkFrame l = .good → h.link = true → fields = true →
          (b.linkHeld p h.cls < classBuffer h.cls → exec (.frameRx p bytes) s =
            .next { s with hw := { b with fab := { b.fab with delivered := b.fab.delivered ++ [(some p, f)] } } }) ∧
          (classBuffer h.cls ≤ b.linkHeld p h.cls → exec (.frameRx p bytes) s = .next { s with hw := b.bump cLinkDrop })) ∧
        (checkFrame l = .good → h.link = false → h.lseq ≠ x.lseqIn → exec (.frameRx p bytes) s = .next { s with hw := b.nak p }) ∧
        (checkFrame l = .good → h.link = false → h.lseq = x.lseqIn →
          let b1 := b.setPort p { x with lseqIn := (x.lseqIn + 1) % 4096, awaiting := false, acceptTick := x.acceptTick.or (some b.tick) }
          exec (.frameRx p bytes) s = .next { s with hw := if fields then b1.routeFrame p f else (b1.bump cBadFrame).free1 (some p) f }))) ∧
    (∀ m : LackMsg, Instr.wf (.lackRx p m) = true → b.portActive p = true →
      let left := ackReplay x.replay (if m.nak then (m.lseq + 4095) % 4096 else m.lseq)
      let b1 := b.setPort p { x with replay := left, limit := ([0, 1, 2, 5, 6] : List Nat).map fun k => (k, m.limits.getD k 0), progressTick := if left.length = x.replay.length then x.progressTick else b.tick }
      exec (.lackRx p m) s = .next { s with hw := (if m.nak then b1.replayFrom p m.lseq else b1).pump p }) ∧
    (∀ m : LackMsg, Instr.wf (.lackRx p m) = true → b.portActive p = false →
      exec (.lackRx p m) s = .next s ∧ exec (.lackSend p) s = .next s ∧ exec (.replayTimeout p) s = .next s) ∧
    (b.portActive p = true →
      (∃ t, exec (.lackSend p) s = .next t ∧ t.pending = s.pending ∧ t.hw.regs = b.regs ∧ t.hw.dram = b.dram ∧ (t.hw.port p).lackTick = b.tick ∧
        (t.hw.port p).replay = x.replay ∧ ∃ f : Frame, t.hw.wire = .frame p 0 f false :: b.wire ∧ f.link = true ∧
          f.body = .msg (.lack ⟨false, (x.lseqIn + 4095) % 4096, (List.range 8).map (b.limitNow p)⟩)) ∧
      (∀ r l, x.replay = r :: l →
        (x.progressTick + 4096 ≤ b.tick → exec (.replayTimeout p) s = .next { s with hw := b.replayFrom p r.1 } ∧
          (b.replayFrom p r.1).get cReplay = satU 32 (b.get cReplay + x.replay.length) ∧ ((b.replayFrom p r.1).port p).replay = x.replay) ∧
        (b.tick < x.progressTick + 4096 → exec (.replayTimeout p) s = .next s)) ∧
      (x.replay = [] → exec (.replayTimeout p) s = .next s)) ∧
    (∀ (src dst cls : Nat) (mcast : Bool) (v : Flow), src < 4096 → dst < 4096 → cls < 8 → b.flow ⟨src, dst, mcast, cls⟩ = some v →
      let ripe := v.held.any fun h => decide (h.tick + max 1 (b.get F.FAB_REORDER) * usTicks ≤ b.tick)
      let low := v.held.foldl (fun m h => min m ((h.seq + 2 ^ 16 - v.expected % 2 ^ 16) % 2 ^ 16)) 256
      let r := drainHeld (b.bump cSkip) { v with expected := (v.expected + low) % 2 ^ 16 } v.held.length
      (ripe = true → exec (.reorderTimeout src dst mcast cls) s = .next { s with hw := r.1.setFlow ⟨src, dst, mcast, cls⟩ r.2 }) ∧
      (ripe = false → exec (.reorderTimeout src dst mcast cls) s = .next s))

/-- Capabilities, adverts, routes, trees, host ports, log lines. A CAP of a port in EXCHANGE or ACTIVE is kept and shown in its port's fields. An ADVERT
at an ACTIVE fabric port is taken entry by entry, then what changed is advertised. A route whose primary is not ACTIVE or was not refreshed for 72
epochs fails over to its alternate, or becomes unreachable under the odd RGEN + 1 (that an odd RGEN stays is the model's reading). A node unreachable
for DEPART_EPOCHS epochs is declared departed once, with an event. Writing PINNED 1 takes the written ports, PINNED 0 returns the entry. A TREE
message is kept with its epoch. A host-mode port in EXCHANGE without a CAP sends its own; an ARP request for its configured IPv4 address is answered,
and a frame to another MAC address changes nothing. A log line goes to LOG_DST in class 6 only while LOG_EN is 1. (R455, R457, R458, R459, R460, R465,
R466, R467, R468, R450, spec/15_bamien_fabric.md) -/
def Obligations.RoutesTreesAndHosts : Prop :=
  ∀ (s : State),
    let b := s.hw
    (∀ (p : Nat) (m : CapMsg), Instr.wf (.capRx p m) = true → b.portActive p = true ∨ b.stage p = stExchange →
      ∃ t, exec (.capRx p m) s = .next t ∧ t.pending = s.pending ∧ lookup t.hw.fab.caps p = some m ∧ t.hw.dram = b.dram ∧
        t.hw.get (F.FAB_PORT_NBR_VALID p) = b2n m.nodeValid ∧ t.hw.get (F.FAB_NBR_SER p) = m.serhash % 2 ^ 32 ∧
        t.hw.get (F.FAB_PORT_CFG_MISMATCH p) = b2n (m.cfgGen != b.get F.IDN_CFGGEN)) ∧
    (∀ (p : Nat) (l : List AdvertEntry), Instr.wf (.advertRx p l) = true →
      (b.fabricPort p = true → b.portActive p = true →
        exec (.advertRx p l) s = .next { s with hw := (l.foldl (fun c e => c.advertEntry p e) b).triggeredAdvert }) ∧
      (b.fabricPort p = false ∨ b.portActive p = false → exec (.advertRx p l) s = .next s)) ∧
    (∀ d < 4096, ∀ q, (b.route d).primary = some q →
      let r := b.route d
      let gone := !b.portActive q || decide (72 ≤ r.age)
      (gone = false → exec (.routeExpire d) s = .next s) ∧
      (gone = true →
        (∀ a, r.alt = some a → exec (.routeExpire d) s = .next { s with hw := (b.setRoute d { r with primary := some a, hops := ((lookup r.offers a).map (·.1)).getD 255, alt := none, age := 0, changed := true }).triggeredAdvert }) ∧
        (r.alt = none → exec (.routeExpire d) s = .next { s with hw := (b.setRoute d { r with primary := none, hops := 255, rgen := if r.rgen % 2 = 1 then r.rgen else (r.rgen + 1) % 2 ^ 32, age := 0, changed := true }).triggeredAdvert }))) ∧
    (∀ d < 4096, b.ccOn = true → b.isSelf d = false →
      let r := b.route d
      let b1 := (b.setRoute d { r with departed := true }).raise 169 d
      (r.hops = 255 → r.departed = false → max 1 (b.get F.FAB_CTRL_DEPART_EPOCHS) ≤ r.lostFor →
        exec (.nodeDepart d) s = .next { s with hw := (((b1.dropVoter d).reassign d).reannounce d).settlePower }) ∧
      (r.hops ≠ 255 ∨ r.departed = true → exec (.nodeDepart d) s = .next s)) ∧
    (∀ (a : Access) (d : Nat) (w : Word), a.wf = true → d < 4096 →
      let addr := 0xd8000 + 8 * d
      let v := w.toNat
      b.acts a addr v = true →
      (bitAt v 17 = true → ∃ c, exec (.routePinWrite a d w) s = .next { s with hw := b.answered a addr v (c, .ok) } ∧
        c.get (F.FAB_RT_FWD_PINNED d) = 1 ∧ c.get (F.FAB_RT_FWD_PRIMARY d) = v % 8 ∧ c.get (F.FAB_RT_FWD_ALT d) = v / 16 % 8 ∧
        c.get (F.FAB_RT_FWD_P_VALID d) = v / 128 % 2 ∧ c.get (F.FAB_RT_FWD_A_VALID d) = v / 2 ^ 16 % 2 ∧ c.fab = b.fab) ∧
      (bitAt v 17 = false → exec (.routePinWrite a d w) s =
        .next { s with hw := b.answered a addr v ((b.put (F.FAB_RT_FWD_PINNED d) 0).setRoute d (b.route d), .ok) })) ∧
    (∀ (p : Nat) (m : TreeMsg), Instr.wf (.treeRx p m) = true → b.fabricPort p = true → b.portActive p = true →
      let t := b.tree m.tree
      exec (.treeRx p m) s = .next { s with hw := ((b.setTree m.tree { t with nbr := insertKey t.nbr p (m, b.epochs) }).refreshChildren m.tree).reparent m.tree }) ∧
    (∀ p < 8, b.hostPort p = true → b.stage p = stExchange →
      ((b.port p).capOk = false → exec (.hostCapBeacon p) s = .next { s with hw := b.linkSend p 4 (.cap (b.capOf p)) }) ∧
      ((b.port p).capOk = true → exec (.hostCapBeacon p) s = .next s)) ∧
    (∀ (p : Nat) (mac who me : List Nat) (bytes : List Byte), p < 8 → b.hostPort p = true → b.portActive p = true → b.configured4 p = some me →
      mac.length = 6 → who.length = 4 →
      bytes.map BitVec.toNat = [255, 255, 255, 255, 255, 255] ++ mac ++ [8, 6, 0, 1, 8, 0, 6, 4, 0, 1] ++ mac ++ who ++ [0, 0, 0, 0, 0, 0] ++ me →
      exec (.hostEthernetFrameRx p bytes) s = .next { s with hw := b.etherOut p mac 0x0806 ([0, 1, 8, 0, 6, 4, 0, 2] ++ b.portMac p ++ me ++ mac ++ who) }) ∧
    (∀ (p : Nat) (bytes : List Byte), p < 8 → b.macIn p ((bytes.map BitVec.toNat).take 6) = false →
      exec (.hostEthernetFrameRx p bytes) s = .next s) ∧
    (∀ text : List Byte,
      (b.flag F.FAB_CTRL_LOG_EN = true → exec (.logLineSend text) s =
        .next { s with hw := b.post (.node (b.get F.FAB_CTRL_LOG_DST)) 6 (.logLine ((text.map BitVec.toNat).take 2048)) }) ∧
      (b.flag F.FAB_CTRL_LOG_EN = false → exec (.logLineSend text) s = .next s))

/-- A port comes up: beacons, signal, locks, CAP and READY, and their timeouts. The stage a port enters is the one its event names: SIGNAL in DETECT or
SILENT leads to TRAIN, CDR lock in TRAIN to LOCK, block lock of all signalled lanes in LOCK to EXCHANGE, READY after a CAP in EXCHANGE to ACTIVE, x2
only where both CAPs and both READYs have it. TRAIN ends after 50 ms, LOCK after 10 ms and EXCHANGE after 5 ms without exit, counted, as a failed
attempt (LOCK with a locked lane goes on to EXCHANGE; a host-mode or TKO_HOLD port's EXCHANGE has no timeout), and no timeout acts earlier. The
sixteenth failed attempt leads to SILENT, an earlier one to DETECT. Beacons leave in DETECT and, unless PARKED, in SILENT at their instants only. A
lane without SIGNAL takes no lock. (R482, R483, R484, R485, R486, R487, R488, R489, R455, spec/16_lanes.md) -/
def Obligations.PortBringUp : Prop :=
  ∀ (p l : Nat) (s : State), p < 8 → l < 16 →
    let b := s.hw
    let x := b.port p
    let fails : Block := (b.bump (F.LNK_TMO_CNT p)).failAttempt p
    (b.stage p = stDetect → b.fabricPort p = true → x.losTick = none →
      (x.beaconTick ≤ b.tick → x.sigSeen = true → exec (.beaconTimer p) s = .next { s with hw := b.beacon p }) ∧
      (x.beaconTick ≤ b.tick → x.sigSeen = false →
        let b1 := b.countAttempt p
        exec (.beaconTimer p) s = .next { s with hw := if b1.get (F.LNK_STAT_ATTEMPTS p) = 16 then b1.toSilent p else b1.beacon p }) ∧
      (b.tick < x.beaconTick → exec (.beaconTimer p) s = .next s)) ∧
    (b.stage p = stSilent →
      (b.flag (F.LNK_STAT_PARKED p) = true → exec (.silentBeacon p) s = .next s) ∧
      (b.flag (F.LNK_STAT_PARKED p) = false → x.beaconTick ≤ b.tick → exec (.silentBeacon p) s = .next { s with hw := (b.emit (.beacon p)).setPort p { x with lastBeacon := b.tick, sigSeen := false, silentJ := x.silentJ + 1, beaconTick := b.tick + b.silentTicks p (x.silentJ + 1) } })) ∧
    (let q := l / 2
     let lit := (b.put (F.LNK_L_STAT_SIGNAL l) 1).setPort q { b.port q with sigSeen := true }
     (b.domainOn (8 + q) = false → exec (.signalDetect l) s = .next s) ∧
     (b.domainOn (8 + q) = true →
       ((b.stage q = stDetect ∧ (b.port q).losTick = none) ∨ b.stage q = stSilent → exec (.signalDetect l) s = .next { s with hw := lit.toTrain q }) ∧
       (b.stage q ≠ stDetect → b.stage q ≠ stSilent → exec (.signalDetect l) s = .next { s with hw := lit }))) ∧
    (∀ i : Bool, let q := l / 2
     let b1 := b.put (F.LNK_L_STAT_CDR_LOCK l) 1
     let fec := b.get (F.FAB_HOST_CFG_FEC q)
     (b.flag (F.LNK_L_STAT_SIGNAL l) = false → exec (.cdrLock l i) s = .next s) ∧
     (b.flag (F.LNK_L_STAT_SIGNAL l) = true →
       (b.stage q = stTrain → exec (.cdrLock l i) s = .next { s with hw := (((b1.putB (F.LNK_L_STAT_RX_INVERT l) i).put (F.LNK_L_STAT_TX_FEC (2 * q)) fec).put (F.LNK_L_STAT_TX_FEC (2 * q + 1)) fec).setStage q stLock }) ∧
       (b.stage q ≠ stTrain → exec (.cdrLock l i) s = .next { s with hw := b1 }))) ∧
    (∀ i j : Bool, let q := l / 2
     let b1 := ((b.put (F.LNK_L_STAT_BLOCK_LOCK l) 1).putB (F.LNK_L_STAT_RX_FEC l) i).putB (F.LNK_L_STAT_SWAPPED l) j
     (b.flag (F.LNK_L_STAT_SIGNAL l) = false → exec (.blockLock l i j) s = .next s) ∧
     (b.flag (F.LNK_L_STAT_SIGNAL l) = true →
       (b.stage q = stLock → b1.allLocked q = true → exec (.blockLock l i j) s = .next { s with hw := b1.toExchange q }) ∧
       (b.stage q ≠ stLock ∨ b1.allLocked q = false → exec (.blockLock l i j) s = .next { s with hw := b1 }))) ∧
    (b.stage p = stTrain → (x.stageTick + 12500000 ≤ b.tick → exec (.trainTimeout p) s = .next { s with hw := fails }) ∧
      (b.tick < x.stageTick + 12500000 → exec (.trainTimeout p) s = .next s)) ∧
    (b.stage p = stLock → (b.tick < x.stageTick + 2500000 → exec (.lockTimeout p) s = .next s) ∧
      (x.stageTick + 2500000 ≤ b.tick → (b.lockedLanes p ≠ 0 → exec (.lockTimeout p) s = .next { s with hw := b.toExchange p }) ∧
        (b.lockedLanes p = 0 → exec (.lockTimeout p) s = .next { s with hw := fails }))) ∧
    (b.stage p = stExchange →
      (x.stageTick + 1250000 ≤ b.tick → b.flag (F.LNK_STAT_TKO_HOLD p) = false → b.hostPort p = false →
        exec (.exchangeTimeout p) s = .next { s with hw := fails }) ∧
      (b.tick < x.stageTick + 1250000 ∨ b.flag (F.LNK_STAT_TKO_HOLD p) = true ∨ b.hostPort p = true → exec (.exchangeTimeout p) s = .next s) ∧
      (∀ (arg : Nat) (c : CapMsg), arg < 65536 → x.capOk = true → b.lockedLanes p ≠ 0 → lookup b.fab.caps p = some c →
        exec (.readyRx p arg) s = .next { s with hw := b.toActive p (b.flag (F.FAB_PORT_X2 p) && c.x2 && decide (b.lockedLanes p = 3) && decide (arg % 4 = 3)) }) ∧
      (∀ arg < 65536, x.capOk = false → exec (.readyRx p arg) s = .next s)) ∧
    (let b1 := b.countAttempt p
     b.failAttempt p = if b1.get (F.LNK_STAT_ATTEMPTS p) = 16 then b1.toSilent p else b1.toDetect p) ∧
    ((b.toTrain p).stage p = stTrain ∧ (b.toDetect p).stage p = stDetect ∧ (b.toSilent p).stage p = stSilent ∧
      (b.toExchange p).stage p = stExchange ∧ ∀ x2 : Bool, (b.toActive p x2).stage p = stActive)

/-- Loss of lanes, DOWN and TAKEOVER ordered sets, and the writes of LNK_p_CTRL. A lane's loss of signal is counted and clears its locks; with the other
lane lit an ACTIVE port drops the joined lane, with none left the port goes to DETECT with 500 µs of idle, or to SILENT at the sixteenth failed
attempt. Loss of block lock drops a joined lane of an ACTIVE port; after 64 epochs of lock, unless Squirrel runs the port x1, or on REJOIN, both lanes
pass through EXCHANGE again. DOWN with HIBERNATE parks a port in SILENT at ATTEMPTS 16, without it leads to DETECT. TAKEOVER holds the port in
EXCHANGE, counted, for at most 1.5 s. RETRY restarts a port that is neither DOWN nor in TEST. KNOCK is taken in DETECT, SILENT or DOWN by ADMIN_DOWN,
and refused elsewhere; 750 µs later the port restarts. ADMIN_DOWN goes DOWN. PRBS31 enters TEST with its counters at 0, TEST OFF leads to DETECT.
PRBS_LOCK rises in TEST only, and its loss adds bits and errors. (R484, R485, R486, R487, R488, R491, R493, R494, spec/16_lanes.md) -/
def Obligations.PortLossAndControl : Prop :=
  ∀ (p l : Nat) (s : State), p < 8 → l < 16 →
    let b := s.hw
    let q := l / 2
    let dark := (b.bump (F.LNK_L_LOS_CNT l)).darkLane l
    (b.flag (F.LNK_L_STAT_SIGNAL l) = false → exec (.lossOfSignal l) s = .next s) ∧
    (b.flag (F.LNK_L_STAT_SIGNAL l) = true →
      (b.stage q = stDown ∨ b.stage q = stTest → exec (.lossOfSignal l) s = .next { s with hw := dark }) ∧
      (b.stage q = stActive → b.flag (F.LNK_L_STAT_SIGNAL (otherLane l)) = true → b.flag (F.LNK_L_STAT_JOINED l) = true →
        exec (.lossOfSignal l) s = .next { s with hw := dark.dropLane l }) ∧
      (b.stage q = stActive → b.flag (F.LNK_L_STAT_SIGNAL (otherLane l)) = false →
        let c := dark.setStage q stDetect
        exec (.lossOfSignal l) s = .next { s with hw := c.setPort q { c.port q with losTick := some b.tick, sigSeen := false } })) ∧
    (∀ t, (b.port p).losTick = some t →
      (b.tick < t + 125000 → exec (.losIdleEnd p) s = .next s) ∧
      (t + 125000 ≤ b.tick → b.stage p = stDetect → (∀ k ∈ lanesOf p, b.flag (F.LNK_L_STAT_SIGNAL k) = false) →
        exec (.losIdleEnd p) s = .next { s with hw := (b.setPort p { b.port p with losTick := none }).beacon p }) ∧
      (∀ k ∈ lanesOf p, t + 125000 ≤ b.tick → b.stage p = stDetect → b.flag (F.LNK_L_STAT_SIGNAL k) = true →
        exec (.losIdleEnd p) s = .next { s with hw := ((b.setPort p { b.port p with losTick := none }).beacon p).toTrain p })) ∧
    (let b1 := b.put (F.LNK_L_STAT_BLOCK_LOCK l) 0
     (b.flag (F.LNK_L_STAT_BLOCK_LOCK l) = false → exec (.laneLockLost l) s = .next s) ∧
     (b.flag (F.LNK_L_STAT_BLOCK_LOCK l) = true →
       (b.portActive q = true → b.flag (F.LNK_L_STAT_JOINED l) = true → exec (.laneLockLost l) s = .next { s with hw := b1.dropLane l }) ∧
       (b.portActive q = false ∨ b.flag (F.LNK_L_STAT_JOINED l) = false → exec (.laneLockLost l) s = .next { s with hw := b1 }))) ∧
    (∀ k n, (b.port p).lostLane = some (k, n) → b.portActive p = true →
      let c := b.toExchange p
      (64 ≤ n → bitAt (b.get F.BDG_X1_NOW) p = false →
        exec (.laneRejoin p) s = .next { s with hw := c.setPort p { c.port p with lostLane := none } }) ∧
      (n < 64 ∨ bitAt (b.get F.BDG_X1_NOW) p = true → exec (.laneRejoin p) s = .next s)) ∧
    (∀ arg < 65536, b.stage p ≠ stDown → b.stage p ≠ stTest →
      (arg % 2 = 1 → exec (.downRx p arg) s = .next { s with hw := ((b.put (F.LNK_STAT_ATTEMPTS p) 16).put (F.LNK_STAT_PARKED p) 1).toSilent p }) ∧
      (arg % 2 = 0 → exec (.downRx p arg) s = .next { s with hw := b.toDetect p })) ∧
    (∀ arg < 65536,
      (b.stage p = stLock ∨ b.stage p = stExchange ∨ b.stage p = stActive → b.flag (F.LNK_STAT_TKO_HOLD p) = false →
        let c := ((b.toExchange p).put (F.LNK_STAT_TKO_HOLD p) 1).bump (F.LNK_TKO_CNT p)
        exec (.takeoverOsRx p arg) s = .next { s with hw := c.setPort p { c.port p with tkoTick := b.tick } }) ∧
      (b.stage p = stDown ∨ b.stage p = stDetect ∨ b.stage p = stTrain ∨ b.stage p = stSilent ∨ b.stage p = stTest →
        exec (.takeoverOsRx p arg) s = .next s)) ∧
    (b.flag (F.LNK_STAT_TKO_HOLD p) = true →
      ((b.port p).tkoTick + 375000000 ≤ b.tick → exec (.tkoHoldExpire p) s =
        .next { s with hw := (b.put (F.LNK_STAT_TKO_HOLD p) 0).setPort p { b.port p with stageTick := b.tick } }) ∧
      (b.tick < (b.port p).tkoTick + 375000000 → exec (.tkoHoldExpire p) s = .next s)) ∧
    (b.flag (F.LNK_STAT_KNOCKING p) = true →
      ((b.port p).knockTick + 187500 ≤ b.tick → exec (.knockDone p) s = .next { s with hw := (b.put (F.LNK_STAT_KNOCKING p) 0).restart p }) ∧
      (b.tick < (b.port p).knockTick + 187500 → exec (.knockDone p) s = .next s)) ∧
    ((b.stage q = stTest → exec (.prbsLockGained l) s = .next { s with hw := b.put (F.LNK_L_STAT_PRBS_LOCK l) 1 }) ∧
      (b.stage q ≠ stTest → exec (.prbsLockGained l) s = .next s)) ∧
    (∀ bits errs, b.flag (F.LNK_L_STAT_PRBS_LOCK l) = true → exec (.prbsLockLost l bits errs) s = .next { s with hw := ((b.bump64 (F.LNK_L_PRBS_BITS_LO l) (F.LNK_L_PRBS_BITS_HI l) bits).bump64 (F.LNK_L_PRBS_ERR_LO l) (F.LNK_L_PRBS_ERR_HI l) errs).put (F.LNK_L_STAT_PRBS_LOCK l) 0 }) ∧
    (∀ a : Access, a.wf = true → b.get (F.LNK_CTRL_ADMIN_DOWN p) < 2 → b.get (F.LNK_CTRL_TEST p) < 4 →
      let addr := 0xe0000 + 0x200 * p
      let c := b.touched addr
      let kept := b.lnkKept p
      (b.acts a addr (2 ^ 31 + kept) = true →
        (b.stage p = stDown ∨ b.stage p = stTest → exec (.lnkRetry a p) s = .next { s with hw := b.answered a addr (2 ^ 31 + kept) (c, .ok) }) ∧
        (b.stage p ≠ stDown → b.stage p ≠ stTest →
          exec (.lnkRetry a p) s = .next { s with hw := b.answered a addr (2 ^ 31 + kept) (c.restart p, .ok) })) ∧
      (b.acts a addr (2 ^ 30 + kept) = true →
        let ready := (b.stage p = stDetect ∨ b.stage p = stSilent ∨ (b.stage p = stDown ∧ b.flag (F.LNK_CTRL_ADMIN_DOWN p) = true)) ∧
          b.hostPort p = false ∧ b.flag (F.LNK_STAT_KNOCKING p) = false
        let d := ((c.emit (.knock p)).put (F.LNK_STAT_KNOCKING p) 1).bump (F.LNK_KNOCK_CNT p)
        (ready → exec (.lnkKnock a p) s = .next { s with hw := b.answered a addr (2 ^ 30 + kept) (d.setPort p { b.port p with knockTick := b.tick }, .ok) }) ∧
        (¬ ready → exec (.lnkKnock a p) s = .next { s with hw := b.answered a addr (2 ^ 30 + kept) (c.bump (F.LNK_REFUSE_CNT p), .busyResource) })) ∧
      (b.acts a addr (2 ^ 28 + kept) = true →
        (b.portActive p = true → (b.port p).lostLane ≠ none →
          exec (.lnkRejoin a p) s = .next { s with hw := b.answered a addr (2 ^ 28 + kept) (c.rejoin p, .ok) }) ∧
        (b.portActive p = false ∨ (b.port p).lostLane = none →
          exec (.lnkRejoin a p) s = .next { s with hw := b.answered a addr (2 ^ 28 + kept) (c, .ok) })) ∧
      (b.acts a addr (setBit kept 29 true) = true → b.get (F.LNK_CTRL_ADMIN_DOWN p) = 0 →
        exec (.lnkAdminDown a p) s = .next { s with hw := b.answered a addr (setBit kept 29 true) ((c.put (F.LNK_CTRL_ADMIN_DOWN p) 1).toDown p 0, .ok) }) ∧
      (b.acts a addr (kept / 2 ^ 28 * 2 ^ 28 + 2 ^ 26) = true → b.get (F.LNK_CTRL_TEST p) ≠ 1 → b.stage p ≠ stDown →
        ∃ d, exec (.lnkTestPrbs31 a p) s = .next { s with hw := b.answered a addr (kept / 2 ^ 28 * 2 ^ 28 + 2 ^ 26) (d, .ok) } ∧
          d.stage p = stTest ∧ d.get (F.LNK_CTRL_TEST p) = 1 ∧
          ∀ k ∈ lanesOf p, d.get64 (F.LNK_L_PRBS_BITS_LO k) (F.LNK_L_PRBS_BITS_HI k) = 0 ∧ d.get64 (F.LNK_L_PRBS_ERR_LO k) (F.LNK_L_PRBS_ERR_HI k) = 0) ∧
      (b.acts a addr (kept / 2 ^ 28 * 2 ^ 28) = true → b.get (F.LNK_CTRL_TEST p) ≠ 0 → b.stage p = stTest →
        ∃ d, exec (.lnkTestOff a p) s = .next { s with hw := b.answered a addr (kept / 2 ^ 28 * 2 ^ 28) (d, .ok) } ∧
          d.stage p = stDetect ∧ d.get (F.LNK_CTRL_TEST p) = 0 ∧ d.get (F.LNK_STAT_ATTEMPTS p) = 0 ∧
          ∀ k ∈ lanesOf p, d.get (F.LNK_L_STAT_PRBS_LOCK k) = 0))

/-- The event-record controller: claim, acknowledgement, soft sources, pop, notify. While the controller works, IRQ_CLAIM counts each source newly held by
full queues and then claims a source that is eligible, IRQ_RESTART before PAIR_TAKEOVER before every other, and among the others one whose priority no
eligible source exceeds: its record goes to the end of one enabled target's queue that has room, with that queue's SEQ, the source is in service with
COUNT 0, an edge source is no longer active, and the other queues stand. With none eligible nothing else changes, and nothing at all where the
controller does not work. An acknowledgement ends the service, or is counted as a bad one; RAISE latches a soft source, or is counted as bad below
256; POP takes the oldest record of a requester's own queue and, with AUTO_ACK, acknowledges the service it stands for; it is ACCESS_DENIED to
another. A source's settings are its written fields. The notify frame repeats after NOTIFY_MS with a record waiting. (R526, R527, R528, R529, R530,
R532, R533, R534, R535, R537, R541, spec/18_event_record_queue.md) -/
def Obligations.EventRecords : Prop :=
  ∀ (s : State),
    let b := s.hw
    let b1 := b.markFull
    (b.irqWorks = false → exec .irqClaim s = .next s) ∧
    (b.irqWorks = true → b1.claimed = none → exec .irqClaim s = .next { s with hw := b1 }) ∧
    (∀ n, b.irqWorks = true → b1.claimed = some n →
      b1.srcEligible n = true ∧
      (b1.srcEligible 224 = true → n = 224) ∧ (b1.srcEligible 208 = true → n = 208 ∨ n = 224) ∧
      (n ≠ 208 → n ≠ 224 → ∀ e ∈ b1.irq.src, b1.srcEligible e.1 = true → b1.get (F.IRQ_SRC_PRIORITY e.1) ≤ b1.get (F.IRQ_SRC_PRIORITY n)) ∧
      ∃ k t, k ∈ b1.openTargets n ∧ exec .irqClaim s = .next t ∧ t.pending = s.pending ∧ t.hw.dram = b.dram ∧
        (let seq := lookupD b.irq.seqs k 0
         t.hw.queueOf k = b.queueOf k ++ [⟨n, seq, eventWords n k seq (b1.source n)⟩] ∧
         lookupD t.hw.irq.seqs k 0 = (seq + 1) % 65536 ∧ (∀ j, j ≠ k → t.hw.queueOf j = b.queueOf j) ∧
         (t.hw.source n).inService = some (k, seq) ∧ (t.hw.source n).count = 0 ∧
         (t.hw.source n).active = ((b1.source n).active && irqIsLevel n))) ∧
    (∀ (a : Access) (w : Word), a.wf = true →
      let v := w.toNat
      (b.acts a 0x40004 v = true →
        let x := b.source (v % 512)
        let c := b.setSource (v % 512) { x with inService := none }
        (x.inService = none → exec (.irqAck a w) s = .next { s with hw := b.answered a 0x40004 v (b.bump F.IRQ_BADACK_CNT, .ok) }) ∧
        (x.inService ≠ none → exec (.irqAck a w) s = .next { s with hw := b.answered a 0x40004 v (if irqIsLevel (v % 512) && !x.active then c.bump F.IRQ_STALE_ACK else c, .ok) })) ∧
      (b.acts a 0x40008 v = true →
        (v % 512 < 256 → exec (.irqRaise a w) s = .next { s with hw := b.answered a 0x40008 v (b.bump F.IRQ_BADACK_CNT, .ok) }) ∧
        (256 ≤ v % 512 → exec (.irqRaise a w) s = .next { s with hw := b.answered a 0x40008 v (b.raise (v % 512) (softPayload a.who), .ok) })) ∧
      (∀ k < 5, b.acts a (0x40108 + 0x40 * k) v = true →
        (b.mayPop a.who k = false → exec (.irqPop a k w) s = .next { s with hw := b.answered a (0x40108 + 0x40 * k) v (b, .accessDenied) }) ∧
        (b.mayPop a.who k = true → v % 2 = 0 → exec (.irqPop a k w) s = .next { s with hw := b.answered a (0x40108 + 0x40 * k) v (b, .ok) }) ∧
        (b.mayPop a.who k = true → v % 2 = 1 →
          (b.queueOf k = [] → exec (.irqPop a k w) s = .next { s with hw := b.answered a (0x40108 + 0x40 * k) v (b.bump F.IRQ_BADACK_CNT, .ok) }) ∧
          (∀ r rest, b.queueOf k = r :: rest →
            let c : Block := { b with irq := { b.irq with queues := insertKey b.irq.queues k rest, notified := if k = 3 then none else b.irq.notified } }
            let x := b.source r.source
            let acked := c.setSource r.source { x with inService := none }
            let auto := b.flag (F.IRQ_SRC_AUTO_ACK r.source) && x.inService == some (k, r.seq)
            (auto = false → exec (.irqPop a k w) s = .next { s with hw := b.answered a (0x40108 + 0x40 * k) v (c, .ok) }) ∧
            (auto = true → exec (.irqPop a k w) s = .next { s with hw := b.answered a (0x40108 + 0x40 * k) v (if irqIsLevel r.source && !x.active then acked.bump F.IRQ_STALE_ACK else acked, .ok) })))) ∧
      (∀ n < 512, b.acts a (0x41000 + 4 * n) v = true →
        exec (.irqSrcWrite a n w) s = .next { s with hw := b.answered a (0x41000 + 4 * n) v (b.writeFields (0x41000 + 4 * n) v, .ok) })) ∧
    (∀ t, b.irq.notified = some t → b.irqWorks = true → b.flag (F.IRQ_TGT_CFG_EN 3) = true → b.queueOf 3 ≠ [] →
      b.get (F.IRQ_TGT_CFG_NOTIFY_MS 3) ≠ 0 →
      (t + b.get (F.IRQ_TGT_CFG_NOTIFY_MS 3) * 250000 ≤ b.tick → exec .notifyRepeat s = .next { s with hw := { b.post (.node (b.get (F.IRQ_TGT_CFG_NODE 3))) 0 (.notify b.notifyBody) with irq := { b.irq with notified := some b.tick } } }) ∧
      (b.tick < t + b.get (F.IRQ_TGT_CFG_NOTIFY_MS 3) * 250000 → exec .notifyRepeat s = .next s))

/-- Memory keeps what is written; the scrubber's step; correction windows. After bytes are stored at an address, each of them reads back there and every
byte outside them reads as before; a register field written reads back its low bits, every other field reads as before. A scrub step of the active
concentrator that meets a sound word only moves on; a single-bit upset is corrected and counted in its region, and no byte changes; a double-bit upset
of a region that is not critical is counted, its word marked poisoned, and no byte outside the word changes. With scrubbing off nothing changes. A
correction window begins anew when it ends, not before, and at a write of its threshold. (R20, R548, R550, R556, R557, R558, R559,
spec/19_memory_protection.md) -/
def Obligations.MemoryAndScrub : Prop :=
  (∀ (b : Block) (a : Nat) (v : List Nat) (x : Nat), readByte (b.store a v).dram x =
    if a ≤ x ∧ x < a + v.length then v.getD (x - a) 0 % 256 else readByte b.dram x) ∧
  (∀ (b : Block) (f g : Field) (v : Nat), (b.put f v).get f = v % 2 ^ f.width ∧ (f.key ≠ g.key → (b.put f v).get g = b.get g)) ∧
  (∀ (s : State) (addr pos : Nat) (double : Bool), addr < 2 ^ 40 → pos < 72 → s.hw.ccOn = true → s.hw.phase ≠ .fill →
    let b := s.hw
    let w := b.scrubPos / 8
    let r := regionOf (w * 8)
    (b.flag F.ECC_SCRUB_EN = false → exec (.scrubStep 0 addr false false pos) s = .next s) ∧
    (b.flag F.ECC_SCRUB_EN = true → lookup b.poison w = none → lookup b.ecc.upsets w = none →
      exec (.scrubStep 0 addr false double pos) s = .next { s with hw := b.scrubNext } ∧
      (∃ t, exec (.scrubStep 0 addr true false pos) s = .next t ∧ t.pending = s.pending ∧ t.hw.dram = b.dram ∧ t.hw.poison = b.poison ∧
        t.hw.get (F.ECC_R_CORR_CNT r) = satU 32 (b.get (F.ECC_R_CORR_CNT r) + 1)) ∧
      (critical r = false → ∃ t, exec (.scrubStep 0 addr true true pos) s = .next t ∧ t.pending = s.pending ∧
        lookup t.hw.poison w = some () ∧ t.hw.get (F.ECC_R_UNC_CNT r) = satU 32 (b.get (F.ECC_R_UNC_CNT r) + 1) ∧
        ∀ x, (x < w * 8 ∨ w * 8 + 8 ≤ x) → readByte t.hw.dram x = readByte b.dram x))) ∧
  (∀ (s : State) (r : Nat), Instr.wf (.eccWindowEnd r) = true →
    (∀ w, lookup s.hw.ecc.windows r = some w →
      (w.start + s.hw.windowTicks r ≤ s.hw.tick →
        exec (.eccWindowEnd r) s = .next { s with hw := s.hw.newWindow r (w.start + s.hw.windowTicks r) }) ∧
      (s.hw.tick < w.start + s.hw.windowTicks r → exec (.eccWindowEnd r) s = .next s)) ∧
    (lookup s.hw.ecc.windows r = none → exec (.eccWindowEnd r) s = .next s) ∧
    (∀ (a : Access) (w : Word), a.wf = true → s.hw.acts a (0xf0108 + 0x10 * r) w.toNat = true →
      let b1 := s.hw.writeFields (0xf0108 + 0x10 * r) w.toNat
      exec (.eccThrWrite a r w) s = .next { s with hw := s.hw.answered a (0xf0108 + 0x10 * r) w.toNat (if s.hw.ecc.windows = [] then b1 else b1.newWindow r s.hw.tick, .ok) }))

/-- What a decision, its deadline and the end of waiting make of a fragment and of an epoch. A decision for this module of a lower term, or for a fragment
unknown or committed, is counted as stale, acknowledged, and changes no fragment. One that is new for a speculative fragment of segment 0, with no
mirror, makes it ACCEPTED with its event number, term and builder, DISCARDED with its staging freed, or (SUPERSEDE, also of an accepted one) gives it
a window of NEW_PRE + NEW_POST samples to build anew; the highest term is remembered, DRAM and every other fragment but its segments stand. One for
another node goes down the tree by the port of its primitives. The passed deadline makes a speculative fragment ORPHANED, or DISCARDED as
DEADLINE_ACTION says. EMPTY_EPOCH_DEADLINE makes every epoch RESOLVED that R43 and R616 let, with the current term, and hands its entry to the mirror
where there is one. (R39, R40, R41, R43, R44, R282, R289, R334, R336, R616, spec/02_coherence_model.md, spec/11_event_building.md) -/
def Obligations.FragmentsTakeDecisions : Prop :=
  ∀ (s : State),
    let b := s.hw
    (∀ (viaTree : Bool) (m : DecisionMsg), m.wf = true → b.ccOn = true →
      let c : Instr := if m.kind = 1 then .decisionAccept viaTree m else if m.kind = 2 then .decisionReject viaTree m else .decisionSupersede viaTree m
      m.kind ∈ ([1, 2, 3] : List Nat) →
      let seen := (b.resolveEpochs.seeTerm m.term).seeEvno m.eventNo
      let taken (f : Frag) : Frag := { f with taken := f.taken ++ [(m.kind, m.term, m.eventNo)] }
      (b.isSelf (identNode m.ident) = true → b.pair.gap = none → b.get F.PAIR_STAT_SB_STATE ≠ 4 →
        (m.term < b.get F.TRG_STAT_TERM → exec c s = .next { s with hw := (b.bump F.EVB_STALE_DECISION).ackDecision (ackOf m) }) ∧
        (b.get F.TRG_STAT_TERM ≤ m.term → b.frag m.ident = none → exec c s = .next { s with hw := (seen.bump F.EVB_STALE_DECISION).ackDecision (ackOf m) }) ∧
        (∀ f, b.get F.TRG_STAT_TERM ≤ m.term → b.frag m.ident = some f →
          (f.st = .committed → exec c s = .next { s with hw := (seen.bump F.EVB_STALE_DECISION).ackDecision (ackOf m) }) ∧
          (f.desc.seg = 0 → f.taken.contains (m.kind, m.term, m.eventNo) = false → b.mirrorUp = false →
            (f.st = .speculative ∨ (f.st = .accepted ∧ m.kind = 3)) →
            ∃ t g, exec c s = .next t ∧ t.pending = s.pending ∧ t.hw.dram = b.dram ∧ t.hw.frag m.ident = some g ∧
              t.hw.get F.TRG_STAT_TERM = m.term ∧
              (∀ i, i ≠ m.ident → (∀ x ∈ b.segmentsOf f, x.desc.ident ≠ i) → t.hw.frag i = b.frag i) ∧
              (m.kind = 1 → g = { taken f with st := .accepted, builder := if m.noBuilder then none else some m.builder, orig := if m.noBuilder then 0 else m.builder, desc := { f.desc with eventNo := m.eventNo, term := m.term } }) ∧
              (m.kind = 2 → g = (taken f).discard) ∧
              (m.kind = 3 → g.st = f.st ∧ g.content = none ∧ g.records = none ∧ g.taken = (taken f).taken ∧
                (f.st = .accepted → g.desc.eventNo = m.eventNo) ∧
                (f.tail = none → retention (b.loadAt b.epochNow b.groupCount) = none →
                  chunksFor ((seen.cfgOf f.key).res f.desc.group f.desc.readout (m.newPre + m.newPost)) ≤ b.freeChunks + f.chunks →
                  g.desc.winLen = m.newPre + m.newPost ∧ g.start = f.tick - 25 * m.newPre))))) ∧
      (b.isSelf (identNode m.ident) = false → ∀ p, lookup b.fab.primPort (identNode m.ident) = some p →
        exec c s = .next { s with hw := if viaTree then seen.post (.hop p) 2 (.decision m) else seen })) ∧
    (∀ ident < 2 ^ 40,
      (b.frag ident = none → exec (.decisionDeadline ident) s = .next s) ∧
      (∀ f, b.frag ident = some f →
        ((f.st ≠ .speculative ∨ f.desc.seg ≠ 0 ∨ b.past ((f.trig + b.deadlineRaw : Nat) : Int) = false) → exec (.decisionDeadline ident) s = .next s) ∧
        (f.st = .speculative → f.desc.seg = 0 → b.past ((f.trig + b.deadlineRaw : Nat) : Int) = true → b.segmentsOf f = [] →
          ∃ t, exec (.decisionDeadline ident) s = .next t ∧ t.pending = s.pending ∧ t.hw.dram = b.dram ∧
            (b.get F.TRG_CTRL_DEADLINE_ACTION = 1 → t.hw.frag ident = some f.discard ∧
              t.hw.get F.EVB_DEADLINE_DISCARD = min (2 ^ 32 - 1) (b.get F.EVB_DEADLINE_DISCARD + 1)) ∧
            (b.get F.TRG_CTRL_DEADLINE_ACTION ≠ 1 → t.hw.frag ident = some { f with st := .orphaned } ∧ t.hw.regs = b.regs) ∧
            ∀ i, i ≠ ident → t.hw.frag i = b.frag i))) ∧
    (b.ccOn = true →
      exec .emptyEpochDeadline s = .next { s with hw := { b with evb := { b.evb with epochs := b.evb.epochs.map fun x => if b.evb.epochs.any (fun e => e.key == x.key && b.resolves e) then { x with term := some (b.get F.TRG_STAT_TERM), mirrored := !b.mirrorUp } else x }, pair := { b.pair with queue := b.pair.queue ++ if b.mirrorUp then (b.evb.epochs.filter b.resolves).map fun e => ⟨b.tick, .entry e.key⟩ else [] } } })

/-- Primitives, decisions and heartbeats at the master and on the way to it, the change of master, retro fragments. A primitive is held by the acting
master, or counted as late under a SEAL or as dropped with 262 144 held; elsewhere it goes to the parent. PRIMITIVE_DUE decides the first one once its
time has passed: with no rule met it is rejected with rule 0, with a rule met the whole set leaves, MATCH counts, and one match in PRESCALE takes the
next event number. A decision not acknowledged is sent again until its deadline has passed, an ACK ends it. A HEARTBEAT of a lower term is counted,
one of the master's own term changes nothing there, any other names the master, brings its term and SEAL, and ends the acting of a master of a lower
term. With no HEARTBEAT for DEC_DEADLINE the standby acts with the next term and an event number 2^24 − 1 higher. A RETRO opens one accepted fragment
in the current epoch where its group is enabled. (R36, R37, R39, R40, R290, R292, R293, R294, R295, R296, R297, R298) -/
def Obligations.TriggerTreeAndMaster : Prop :=
  ∀ (s : State),
    let b := s.hw
    (∀ (p : Nat) (m : PrimitiveMsg), p < 8 → m.wf = true → b.ccOn = true →
      let b1 := { b with fab := { b.fab with primPort := insertKey b.fab.primPort (identNode m.ident) p } }
      let counted := b1.bump F.TRG_M_PRIM_CNT
      let key := m.wrap * 4096 + m.ns / 2 ^ 20
      (b.acting = true → (∃ k, b.master.sealed = some k ∧ keyLe key k = true) → exec (.primitiveRx p m) s = .next { s with hw := counted.bump F.TRG_M_LATE_CNT }) ∧
      (b.acting = true → (∀ k, b.master.sealed = some k → keyLe key k = false) → 262144 ≤ b.master.prims.length →
        exec (.primitiveRx p m) s = .next { s with hw := counted.bump F.TRG_M_DROP_CNT }) ∧
      (b.acting = true → (∀ k, b.master.sealed = some k → keyLe key k = false) → b.master.prims.length < 262144 →
        exec (.primitiveRx p m) s = .next { s with hw := { counted with master := { b.master with prims := b.master.prims ++ [m] } } }) ∧
      (∀ q, b.acting = false → b.parentPort 2 = some q → exec (.primitiveRx p m) s = .next { s with hw := b1.post (.hop q) 2 (.primitive m) })) ∧
    (b.master.prims = [] → exec .primitiveDue s = .next s) ∧
    (∀ p, firstPrim b.master.prims = some p →
      let c := b.cfgOf b.epochNow
      let due := ((b.holdNs c * 1024 : Nat) : Int) < visibleDiff (visible b.stampRaw) (primTime p)
      (¬ due → exec .primitiveDue s = .next s) ∧
      (due → b.ccOn = true → b.acting = true →
        (∀ q, metRule c p b.master.prims = none → b.standbyNodes = [] → b.isSelf (identNode p.ident) = false →
          lookup b.fab.primPort (identNode p.ident) = some q →
          let d : DecisionMsg := ⟨2, b.get F.TRG_STAT_TERM, p.ident, true, 0, 0, 0, 0, 0⟩
          exec .primitiveDue s = .next { s with hw := { b with master := { b.master with prims := b.master.prims.filter (fun x => !([p] : List PrimitiveMsg).contains x), out := b.master.out ++ [(d, primTime p)] }, posted := b.posted ++ [⟨.hop q, 2, .decision d, false⟩] } }) ∧
        (∀ r, metRule c p b.master.prims = some r →
          let n := (b.get (F.TRG_RULE_MATCH r) + 1) % 2 ^ 32
          ∃ t, exec .primitiveDue s = .next t ∧ t.pending = s.pending ∧ t.hw.dram = b.dram ∧
            t.hw.get (F.TRG_RULE_MATCH r) = n ∧ (∀ q ∈ t.hw.master.prims, q ∉ ruleSet c r p b.master.prims) ∧
            (n % max 1 (c.get (F.TRG_RULE_PS_PRESCALE r)) = 0 →
              t.hw.get64 F.TRG_M_EVNO_LO F.TRG_M_EVNO_HI = (b.get64 F.TRG_M_EVNO_LO F.TRG_M_EVNO_HI + 1) % 2 ^ 48) ∧
            (n % max 1 (c.get (F.TRG_RULE_PS_PRESCALE r)) ≠ 0 →
              t.hw.get64 F.TRG_M_EVNO_LO F.TRG_M_EVNO_HI = b.get64 F.TRG_M_EVNO_LO F.TRG_M_EVNO_HI)))) ∧
    (∀ ident kind, ident < 2 ^ 40 → kind < 4 →
      let found := b.master.out.find? fun d => d.1.ident == ident && d.1.kind == kind
      (found = none → exec (.decisionRepeat ident kind) s = .next s) ∧
      (∀ d, found = some d → b.ccOn = true → b.acting = true →
        (b.past (((d.2 * 2 ^ 22 : Nat) : Int) + b.deadlineRaw) = true → exec (.decisionRepeat ident kind) s = .next { s with hw := b.masterAck (ackOf d.1) }) ∧
        (∀ q, b.past (((d.2 * 2 ^ 22 : Nat) : Int) + b.deadlineRaw) = false → b.isSelf (identNode d.1.ident) = false →
          lookup b.fab.primPort (identNode d.1.ident) = some q →
          exec (.decisionRepeat ident kind) s = .next { s with hw := b.post (.hop q) 2 (.decision d.1) }))) ∧
    (∀ m : DecisionAckMsg, m.wf = true → b.ccOn = true →
      (b.acting = true → exec (.decisionAckRx m) s = .next { s with hw := { b with master := { b.master with out := b.master.out.filter fun d => !(d.1.kind == m.kind && d.1.term == m.term && d.1.ident == m.ident) } } }) ∧
      (∀ q, b.acting = false → b.parentPort 2 = some q → exec (.decisionAckRx m) s = .next { s with hw := b.post (.hop q) 2 (.decisionAck m) })) ∧
    (∀ (viaTree : Bool) (m : HeartbeatMsg), m.wf = true → b.ccOn = true →
      (m.term < b.get F.TRG_STAT_TERM → exec (.heartbeatRx viaTree m) s = .next { s with hw := b.bump F.EVB_STALE_DECISION }) ∧
      (b.acting = true → m.term = b.get F.TRG_STAT_TERM → exec (.heartbeatRx viaTree m) s = .next s) ∧
      ((b.get F.TRG_STAT_TERM < m.term ∨ (b.acting = false ∧ m.term = b.get F.TRG_STAT_TERM)) →
        ∃ t, exec (.heartbeatRx viaTree m) s = .next t ∧ t.pending = s.pending ∧ t.hw.dram = b.dram ∧
          t.hw.get F.TRG_STAT_TERM = m.term ∧ t.hw.get F.TRG_STAT_MASTER_NODE = m.master ∧ t.hw.get F.TRG_STAT_ACTING = 0 ∧
          t.hw.master.beat = b.tick ∧ t.hw.evb.sealed = sealMax b.evb.sealed (m.sealedWrap * 4096 + m.sealedEpoch) ∧
          (b.acting = true → t.hw.master.prims = [] ∧ t.hw.get F.TRG_M_STEPDOWN_CNT = min (2 ^ 32 - 1) (b.get F.TRG_M_STEPDOWN_CNT + 1)) ∧
          (viaTree = false → t.hw.posted = b.posted))) ∧
    (let due := b.phase = .live ∧ b.acting = false ∧ (b.flag F.TRG_STAT_ROLE_STANDBY = true ∨ b.flag F.TRG_STAT_ROLE_MASTER = true) ∧
        b.master.beat + b.get F.TRG_DEADLINE * usTicks ≤ b.tick
     (¬ due → exec .triggerStandbyTakeover s = .next s) ∧
     (due → ∃ t, exec .triggerStandbyTakeover s = .next t ∧ t.pending = s.pending ∧ t.hw.dram = b.dram ∧
        t.hw.get F.TRG_STAT_TERM = (b.get F.TRG_STAT_TERM + 1) % 65536 ∧ t.hw.get F.TRG_STAT_ACTING = 1 ∧ t.hw.get F.TRG_STAT_MASTER_NODE = b.node % 4096 ∧
        t.hw.get64 F.TRG_M_EVNO_LO F.TRG_M_EVNO_HI = (b.get64 F.TRG_M_EVNO_LO F.TRG_M_EVNO_HI + 2 ^ 24 - 1) % 2 ^ 48 ∧
        t.hw.master.prims = [] ∧ t.hw.master.sealed = some b.epochNow ∧ (t.hw.source 156).active = true)) ∧
    (∀ (m : RetroMsg) (e : EpochSt), m.wf = true → b.phase = .live → b.reseat = false → b.flag F.FAB_STAT_QUAR = false →
      let b1 := (b.resolveEpochs.seeTerm m.term).seeEvno m.eventNo
      let c := b1.cfgOf b.epochNow
      b1.epochSt b.epochNow = some e → e.counts = true →
      (c.flag (F.TRG_G_CFG_EN m.group) = false → exec (.retroRx m) s = .next { s with hw := b1.bump F.TRG_RETRO_SKIP_CNT }) ∧
      (c.flag (F.TRG_G_CFG_EN m.group) = true →
        (65536 ≤ e.seq → exec (.retroRx m) s = .next { s with hw := b1.seqExhausted b.epochNow }) ∧
        (let w := clipWindow (retention (b1.loadAt b.epochNow (popCount c.groups 60))) (c.get (F.TRG_G_PRE m.group)) (c.get (F.TRG_G_POST m.group)) false
         e.seq < 65536 → chunksFor (c.res m.group (c.readout m.group) (w.1 + w.2.1)) ≤ b.freeChunks →
          ∃ t f, exec (.retroRx m) s = .next t ∧ t.pending = s.pending ∧ t.hw.dram = b.dram ∧ t.hw.evb.frags = b.evb.frags ++ [f] ∧
            t.hw.epochSt b.epochNow = some { e with seq := e.seq + 1 } ∧ f.st = .accepted ∧ f.key = b.epochNow ∧ f.builder = none ∧
            f.desc.ident = identOf b.node b.epochNow e.seq ∧ f.desc.cause = 128 ∧ f.desc.group = m.group ∧ f.desc.parent = m.ident ∧
            f.desc.eventNo = m.eventNo ∧ f.desc.term = m.term ∧ f.desc.evtNs = m.ns ∧ f.desc.evtW2 = m.w2 ∧ f.desc.winLen = w.1 + w.2.1)))

/-- Announcements, transfer frames, merge slots and acknowledgements at a builder and at its contributors. While the concentrator is on and the module not
quarantined, an ANNOUNCE of an event not merged and not open opens a slot with its contributor map unless nothing is to be waited for, and changes
nothing for a merged event; a fragment of one frame for an event neither open nor merged opens a slot that holds it whole, waiting for its ANNOUNCE,
or is counted where staging does not cover it; a fragment known already is a duplicate, acknowledged again once its merge has committed, and one whose
epoch ended 2 s ago is counted as late. The frame that makes every announced contributor whole completes the merge. FRAG_TIMEOUT completes a slot with
its whole fragments, PARTIAL where an announced contributor lacks. An ACK retires a committed fragment that waits for its builder; RESEND_US later, at
least 100 µs, an unacknowledged one is sent again; 2 s after its epoch it is retired and counted. An identity is forgotten 2 s after its epoch. DRAM
stands. (R35, R41, R53, R54, R345, R346, R347, R348, R349, R350, spec/11_event_building.md) -/
def Obligations.BuildersMergeFragments : Prop :=
  ∀ (s : State),
    let b := s.hw
    (∀ m : AnnounceMsg, m.wf = true → b.ccOn = true → b.flag F.FAB_STAT_QUAR = false →
      let slot : MergeSlot := ⟨m.eventNo, m.term, some m.map, b.tick, [], false, b.node, false⟩
      (b.mergedEvent m.eventNo = true → exec (.announceRx m) s = .next s) ∧
      (b.mergedEvent m.eventNo = false → (∀ x ∈ b.openSlots, x.eventNo ≠ m.eventNo) → (∃ i < 4096, bitAt m.map i = true) →
        exec (.announceRx m) s = .next { s with hw := { b with evb := { b.evb with slots := b.evb.slots ++ [slot] } } })) ∧
    (∀ m : DataMsg, m.wf = true → b.ccOn = true → b.flag F.FAB_STAT_QUAR = false →
      (∀ x, b.evb.seen.find? (fun y => y.ident == m.ident) = some x →
        (m.last = false → exec (.fragmentDataRx m) s = .next s) ∧
        (m.last = true → x.done = false → exec (.fragmentDataRx m) s = .next { s with hw := b.bump F.EVB_DUP_FRAGMENT }) ∧
        (m.last = true → x.done = true → exec (.fragmentDataRx m) s = .next { s with hw := (b.bump F.EVB_DUP_FRAGMENT).sendAck x.ack })) ∧
      (b.evb.seen.find? (fun y => y.ident == m.ident) = none →
        (b.resolved2s (b.identKey m.ident) = true → m.last = true → exec (.fragmentDataRx m) s = .next { s with hw := b.bump F.EVB_LATE_DROP }) ∧
        (b.resolved2s (b.identKey m.ident) = false → b.mergedEvent m.eventNo = false → m.index = 0 →
          let chunks := chunksFor (4 * m.total)
          let part : MergePart := ⟨m.ident, m.words, 1, m.total, chunks, m.poison, true⟩
          let empty : MergeSlot := ⟨m.eventNo, m.term, none, b.tick, [], m.reassigned, m.origBuilder, false⟩
          ((∀ x ∈ b.openSlots, x.eventNo ≠ m.eventNo) →
            (b.freeChunks < chunks → exec (.fragmentDataRx m) s =
              .next { s with hw := { b.bump F.EVB_MERGE_FULL_CNT with evb := { b.evb with slots := b.evb.slots ++ [empty] } } }) ∧
            (chunks ≤ b.freeChunks → m.last = true → m.words.length = m.total → exec (.fragmentDataRx m) s =
              .next { s with hw := { b with evb := { b.evb with slots := b.evb.slots ++ [{ empty with parts := [part] }] } } })) ∧
          (∀ x, b.openSlots.find? (fun y => y.eventNo == m.eventNo) = some x → (∀ p ∈ x.parts, p.ident ≠ m.ident) → chunks ≤ b.freeChunks →
            m.last = true → m.words.length = m.total →
            let whole : MergeSlot := { x with parts := x.parts ++ [part], reassigned := x.reassigned || m.reassigned, orig := if m.reassigned then m.origBuilder else x.orig }
            (whole.complete = true → exec (.fragmentDataRx m) s = .next { s with hw := b.completeSlot whole }) ∧
            (whole.complete = false → exec (.fragmentDataRx m) s = .next { s with hw := b.setSlot whole }))))) ∧
    (∀ n < 2 ^ 48,
      ((∀ x ∈ b.openSlots, x.eventNo ≠ n) → exec (.mergeTimeout n) s = .next s) ∧
      (∀ x, b.openSlots.find? (fun y => y.eventNo == n) = some x →
        (b.tick < x.opened + b.fragTimeout → exec (.mergeTimeout n) s = .next s) ∧
        (b.ccOn = true → x.opened + b.fragTimeout ≤ b.tick →
          ∃ t, exec (.mergeTimeout n) s = .next t ∧ t.pending = s.pending ∧ t.hw.dram = b.dram ∧ t.hw.regs = b.regs ∧ t.hw.evb.frags = b.evb.frags ∧
            (∀ y ∈ t.hw.evb.slots, y.eventNo = n → y.late = true) ∧ t.hw.mergedEvent n = true ∧
            (∀ p ∈ x.parts, p.whole = true → t.hw.evb.seen.any (fun y => y.ident == p.ident) = true) ∧
            ∀ e, b.epochSt b.epochNow = some e → t.hw.epochSt b.epochNow = some { e with merges := e.merges ++ [⟨{ x with parts := x.parts.filter (·.whole) }, x.contributors, !x.complete, x.map.isNone, b.stampRaw, false⟩] }))) ∧
    (∀ m : FragAckMsg, m.wf = true → b.ccOn = true →
      (b.frag m.ident = none → exec (.fragmentAckRx m) s = .next s) ∧
      (∀ f, b.frag m.ident = some f →
        ((f.st ≠ .committed ∨ f.builder = none) → exec (.fragmentAckRx m) s = .next s) ∧
        (f.st = .committed → f.builder.isSome = true → f.tail = none → exec (.fragmentAckRx m) s =
          .next { s with hw := { b with evb := { b.evb with frags := b.evb.frags.filter fun g => g.desc.ident != m.ident } } }))) ∧
    (∀ ident < 2 ^ 40,
      (b.frag ident = none → exec (.fragmentResend ident) s = .next s ∧ exec (.fragmentAbandon ident) s = .next s) ∧
      (∀ f, b.frag ident = some f →
        let gap := max 100 ((b.cfgOf b.epochNow).get F.EVB_RESEND) * usTicks
        ((f.st ≠ .committed ∨ f.builder = none ∨ b.tick < f.sent + gap) → exec (.fragmentResend ident) s = .next s) ∧
        (b.resolved2s f.key = false → exec (.fragmentAbandon ident) s = .next s) ∧
        (∀ n, b.ccOn = true → f.st = .committed → f.builder = some n →
          (f.sent + gap ≤ b.tick → b.resolved2s f.key = false → b.isSelf n = false → exec (.fragmentResend ident) s =
            .next { s with hw := { b.setFrag { f with sent := b.tick } with posted := b.posted ++ f.frames.map fun m => ⟨.node n, 1, .data m, false⟩ } }) ∧
          (b.resolved2s f.key = true → f.tail = none → exec (.fragmentAbandon ident) s =
            .next { s with hw := { b.bump F.EVB_ABANDON_CNT with evb := { b.evb with frags := b.evb.frags.filter fun g => g.desc.ident != ident } } }))) ∧
      ∃ t, exec (.mergeIdentityExpire ident) s = .next t ∧ t.pending = s.pending ∧ t.hw.dram = b.dram ∧ t.hw.regs = b.regs ∧
        t.hw.evb.frags = b.evb.frags ∧
        ∀ x : SeenFrag, x ∈ t.hw.evb.seen ↔ x ∈ b.evb.seen ∧ (x.ident ≠ ident ∨ b.resolved2s x.key = false))

/-- A grid instant evaluated, an item stored in the raw ring. TRG_LAG ticks (at least 250) after the oldest grid instant, GRID_INSTANT_EVAL takes it: it
is evaluated and leaves; with no group met nothing opens; with groups met the local trigger and each met group are counted and the windows of the met
groups are empty again; a trigger that may not open is counted as suppressed, one with the epoch's sequence exhausted counts there, and one that
staging covers opens the fragment of the lowest met group with the next SEQ of its epoch. Earlier the instant waits. RING_ITEM_STORE takes the oldest
thing off the tile links: an item goes to the next place of its stream's open block, or opens the block of the next SEQ, with GAP_BEFORE where no
block before it links; a boundary closes every block and begins the count of the new epoch; a stop ends the streams' links. Without a working ring it
is only taken off. (R34, R268, R276, R277, R279, R284, R308, R309, R310, R311, R313, R333) -/
def Obligations.GridInstantsAndTheRing : Prop :=
  ∀ (s : State),
    let b := s.hw
    (b.lynx.instants = [] → exec .gridInstantEval s = .next s) ∧
    (∀ i l, b.lynx.instants = i :: l →
      let c := b.cfgOf (epochOf i.raw)
      let k := epochOf i.raw
      let due := b.ccOn = true ∧ b.pair.gap = none ∧ i.tick + max 250 (c.get F.TRG_LAG) ≤ b.tick
      let gr := b.groupsAt c i (b.unitsAt c i).2
      let x : LocalTrigger := ⟨i, c, gr.2.1, gr.2.2⟩
      (b.tick < i.tick + max 250 (c.get F.TRG_LAG) → exec .gridInstantEval s = .next s) ∧
      (due →
        ∃ t, exec .gridInstantEval s = .next t ∧ t.pending = s.pending ∧ t.hw.dram = b.dram ∧ t.hw.lynx.instants = l ∧
          t.hw.lynx.done = some i.raw ∧ t.hw.lynx.units = (b.unitsAt c i).1 ∧ t.hw.lynx.groups = gr.1 ∧
          (gr.2.1 = [] → t.hw.regs = b.regs ∧ t.hw.evb.frags = b.evb.frags) ∧
          (gr.2.1 ≠ [] →
            t.hw.get64 F.TRG_TRIG_CNT_LO F.TRG_TRIG_CNT_HI = min (2 ^ 64 - 1) (b.get64 F.TRG_TRIG_CNT_LO F.TRG_TRIG_CNT_HI + 1) ∧
            (∀ g < 256, t.hw.get (F.TRG_G_CNT g) =
              if gr.2.1.contains g then min (2 ^ 32 - 1) (b.get (F.TRG_G_CNT g) + 1) else b.get (F.TRG_G_CNT g)) ∧
            (b.mayOpen c k = false → t.hw.evb.frags = b.evb.frags) ∧
            (∀ f e, x.primary = some f → b.mayOpen c k = true → b.epochSt k = some e →
              (65536 ≤ e.seq → t.hw.evb.frags = b.evb.frags ∧
                (t.hw.epochSt k).map (·.exhausted) = some (e.exhausted + 1)) ∧
              (let w := clipWindow (retention (b.loadAt k (popCount c.groups 60))) x.pre x.post false
               e.seq < 65536 → c.flag (F.TRG_G_CFG_STREAM x.group) = false →
                chunksFor (c.res x.group x.readout (w.1 + w.2.1)) ≤ b.freeChunks →
                ∃ g, g ∈ t.hw.evb.frags ∧ g.desc.ident = identOf b.node k e.seq ∧ g.key = k ∧ g.trig = i.raw ∧ g.desc.group = x.group ∧
                  g.desc.cause = x.cause ∧ g.desc.readout = x.readout ∧ g.desc.winLen = w.1 + w.2.1 ∧
                  (t.hw.epochSt k).map (·.seq) = some (e.seq + 1)))))) ∧
    (b.links = [] → exec .ringItemStore s = .next s) ∧
    (∀ x l, b.links = x :: l →
      (b.ccOn = false → b.sbStores = false → exec .ringItemStore s = .next { s with hw := { b with links := l } }) ∧
      (b.ccOn = true → b.sbStores = false →
        (∀ n raw dom quality bytes, x = .item n raw dom quality bytes →
          (∀ y, lookup b.ring.open_ n = some y → y.epoch = epochOf raw → y.count + 1 < blockItems n →
            exec .ringItemStore s = .next { s with hw := ({ b with links := l, ring := { b.ring with open_ := insertKey b.ring.open_ n { y with count := y.count + 1 } } }).store (0x0100000000 + y.n % 4194304 * 4096 + y.count * itemSize n) bytes }) ∧
          (lookup b.ring.open_ n = none →
            ∃ t, exec .ringItemStore s = .next t ∧ t.pending = s.pending ∧ t.hw.links = l ∧ t.hw.ring.alloc = b.ring.alloc + 1 ∧
              t.hw.ring.count = b.ring.count + 1 ∧ lookup t.hw.ring.last n = none ∧
              lookup t.hw.ring.open_ n = some ⟨b.ring.alloc, epochOf raw, raw, dom, quality, 1, (lookup b.ring.last n).isNone⟩)) ∧
        (∀ k, x = .boundary k →
          ∃ t, exec .ringItemStore s = .next t ∧ t.pending = s.pending ∧ t.hw.links = l ∧ t.hw.ring.alloc = b.ring.alloc ∧
            t.hw.ring.prev = b.ring.count ∧ t.hw.ring.count = 0 ∧ t.hw.ring.cur = some k ∧ ∀ n < 80, lookup t.hw.ring.open_ n = none) ∧
        (∀ g, x = .stop g →
          ∃ t, exec .ringItemStore s = .next t ∧ t.pending = s.pending ∧ t.hw.links = l ∧ t.hw.ring.alloc = b.ring.alloc ∧
            ∀ n ∈ g, lookup t.hw.ring.open_ n = none ∧ lookup t.hw.ring.last n = none)))

/-- Packing jobs start, end and leave built fragments. Once the windows that are stored have been extracted: PACK_JOB_START gives the payload that waits
longest the lowest idle engine, or, with too few pool buffers, lets it wait and counts that once. PACK_JOB_DONE of an engine stores the payload packed
where that is shorter and plain otherwise, and counts the job, its bytes in and its bytes out; after an armed residue mismatch the job runs again on
another engine. An idle engine's PACK_JOB_DONE changes nothing. FRAGMENT_BUILT gives a live fragment whose payloads are all stored its records and
frees the chunks that they do not need. (R327, R335, R357, R385, R386, R387, R388, spec/12_packing_and_check_values.md) -/
def Obligations.PackingJobs : Prop :=
  ∀ (s : State),
    let c := if s.hw.ccOn then s.hw.extractReady else s.hw
    (c.nextJob = none → exec .packJobStart s = .next { s with hw := c }) ∧
    (∀ f p, c.nextJob = some (f, p) →
      let size := clampN 256 8192 ((c.cfgOf f.key).get F.LPS_POOL_BUFFERS)
      (size < c.poolHeld + p.buffers →
        (p.job = .waiting false → exec .packJobStart s =
          .next { s with hw := (c.bump F.LPS_POOL_WAIT_CNT).setFrag (f.setPayload { p with job := .waiting true }) }) ∧
        (p.job = .waiting true → exec .packJobStart s = .next { s with hw := c })) ∧
      (c.poolHeld + p.buffers ≤ size → ∀ e < 16, c.busyEngines.contains e = false → (∀ i < e, c.busyEngines.contains i = true) →
        exec .packJobStart s = .next { s with hw := c.setFrag (f.setPayload { p with job := .running e }) })) ∧
    (∀ e < 16,
      let b := s.hw
      let runs (f : Frag) (p : Payload) : Prop :=
        f ∈ b.evb.frags ∧ f.alive = true ∧ (∃ x, f.content = some x ∧ p ∈ x.payloads) ∧ p.job = .running e
      ((∀ f p, ¬ runs f p) → exec (.packJobDone e) s = .next s) ∧
      (∀ f p, runs f p → (∀ g q, runs g q → g = f ∧ q = p) →
        (bitAt (b.get F.TST_STAT_MASK) 5 = false →
          let packed := lpsPack p.plain (b.cfgOf f.key).effort ((b.cfgOf f.key).get F.LPS_ORDER)
          let stored : PackState := if packed.length < p.plain.length then .stored true packed else .stored false p.plain
          let out := if packed.length < p.plain.length then packed.length else p.plain.length
          ∃ t, exec (.packJobDone e) s = .next t ∧ t.pending = s.pending ∧ t.hw.dram = b.dram ∧
            t.hw.evb = (b.setFrag (f.setPayload { p with job := stored })).evb ∧
            t.hw.get64 F.LPS_JOB_CNT_LO F.LPS_JOB_CNT_HI = satU 64 (b.get64 F.LPS_JOB_CNT_LO F.LPS_JOB_CNT_HI + 1) ∧
            t.hw.get64 F.LPS_IN_BYTES_LO F.LPS_IN_BYTES_HI = satU 64 (b.get64 F.LPS_IN_BYTES_LO F.LPS_IN_BYTES_HI + p.plain.length) ∧
            t.hw.get64 F.LPS_OUT_BYTES_LO F.LPS_OUT_BYTES_HI = satU 64 (b.get64 F.LPS_OUT_BYTES_LO F.LPS_OUT_BYTES_HI + out) ∧
            t.hw.get F.LPS_PLAIN_CNT = (if packed.length < p.plain.length then b.get F.LPS_PLAIN_CNT else satU 32 (b.get F.LPS_PLAIN_CNT + 1))) ∧
        (bitAt (b.get F.TST_STAT_MASK) 5 = true → bitAt b.tst.residue 1 = true →
          ∃ t j, exec (.packJobDone e) s = .next t ∧ t.pending = s.pending ∧
            t.hw.get F.LPS_JOB_CNT_LO = b.get F.LPS_JOB_CNT_LO ∧ t.hw.get F.LPS_RESIDUE_CNT = satU 32 (b.get F.LPS_RESIDUE_CNT + 1) ∧
            j ≠ .running e ∧ (∀ packed bytes, j ≠ .stored packed bytes) ∧ t.hw.evb = (b.setFrag (f.setPayload { p with job := j })).evb))) ∧
    (∀ ident < 2 ^ 40,
      (c.frag ident = none → exec (.fragmentBuilt ident) s = .next { s with hw := c }) ∧
      (∀ f x, c.frag ident = some f → f.content = some x → f.alive = true → f.records = none →
        (c.fragRecords f x = none → exec (.fragmentBuilt ident) s = .next { s with hw := c }) ∧
        (∀ r, c.fragRecords f x = some r → bitAt (c.get F.TST_STAT_MASK) 5 = false →
          exec (.fragmentBuilt ident) s = .next { s with hw := c.setFrag { f with records := some r, chunks := min f.chunks (ceilDiv (4 * (20 + wordsOf r)) 65536), content := some { x with payloads := [] } } })))

/-- What an epoch boundary does to the log, the snapshot and the queues, and how the oldest epoch commits. EPOCH_BOUNDARY acts once in each epoch of an
established stamping time, while the rails are on, and otherwise not at all. With the active concentrator on and not woken from its den it counts the
boundary, names the epoch k that begins, tells the ring streams, takes a pending snapshot under k, ends every epoch of the log and opens k, and EN of
each queue takes effect; Squirrel, the standby and the power votes act after that. EPOCH_COMMIT, outside a gap, drops from the log the ended epochs
that do not commit and then looks at the oldest: nothing more happens while it is not built; where a queue lacks space it waits, is counted once and
nothing is published; where every queue has space it leaves the log, EVB_STAT names it, and each of its queues is published to the end of its records
while the others stand. (R29, R31, R43, R44, R46, R47, R77, R308, R313, R339, R398, R400) -/
def Obligations.EpochBoundariesAndCommits : Prop :=
  ∀ (s : State),
    let b := s.hw
    (b.boundaryDue = false → exec .epochBoundary s = .next s) ∧
    (b.boundaryDue = true → b.ccOn = true → b.pwr.den = none →
      let k := b.timeBoundary.1.epochNow
      ∃ c : Block, exec .epochBoundary s = .next { s with hw := c.squirrel.pairBoundary.settlePower.flushMirror } ∧
        c.epochs = b.epochs + 1 ∧ c.time.epochSeen = some k ∧ LinkItem.boundary k ∈ c.links ∧
        (b.flag F.SYS_SNAP_STAT_PENDING = true → c.get F.SYS_SNAP_STAT_PENDING = 0 ∧ c.get F.SYS_SNAP_ARM = 0 ∧ c.get F.SYS_SNAP_STAT_DONE = 1 ∧
          c.get F.SYS_SNAP_STAT_EPOCH = k % 4096 ∧ c.get F.SYS_SNAP_STAT_WRAP = k / 4096 % 65536) ∧
        (∃ e ∈ c.evb.epochs, e.key = k ∧ e.ended = none ∧ e.counts = (b.phase == .live && !b.reseat)) ∧
        (∀ e ∈ c.evb.epochs, e.ended = none → e.key = k) ∧
        ∀ q < 8, c.get (F.EGQ_CFG_ACTIVE q) = b.get (F.EGQ_CFG_EN q) % 2) ∧
    ((b.ccOn = false ∨ b.pair.gap.isSome = true) → exec .epochCommit s = .next s) ∧
    (b.ccOn = true → b.pair.gap = none →
      let d := { b with evb := { b.evb with epochs := b.evb.epochs.filter fun e => e.counts || !b.evaluated e } }
      (d.evb.epochs = [] → exec .epochCommit s = .next { s with hw := d }) ∧
      (∀ e l, d.evb.epochs = e :: l →
        ((e.counts = false ∨ e.term = none ∨ (∃ f ∈ b.evb.frags, f.key = e.key ∧ f.commits = true ∧ f.records = none)) →
          exec .epochCommit s = .next { s with hw := d }) ∧
        (e.counts = true → d.epochReady e = true →
          let r := d.plan e
          let bytes (q : Nat) : Nat := 4 * wordsOf (r.1.queueRecords e r.2.1 q)
          ((∃ q < 8, bitAt e.queues q = true ∧ b.qFree q < bytes q) →
            ∃ t, exec .epochCommit s = .next t ∧ t.pending = s.pending ∧ e.key ∈ t.hw.evb.epochs.map (·.key) ∧ (∀ q < 8, t.hw.qPub q = b.qPub q) ∧
              t.hw.get F.EVB_PEND_QWAIT = (((List.range 8).filter fun q => bitAt e.queues q && decide (b.qFree q < bytes q)).map (2 ^ ·)).sum ∧
              (e.waited = 0 → t.hw.get F.EVB_QWAIT_CNT = satU 32 (b.get F.EVB_QWAIT_CNT + 1)) ∧
              (e.waited ≠ 0 → t.hw.get F.EVB_QWAIT_CNT = b.get F.EVB_QWAIT_CNT)) ∧
          ((∀ q < 8, bitAt e.queues q = true → bytes q ≤ b.qFree q) →
            ∃ c : Block, exec .epochCommit s = .next { s with hw := c.settlePower } ∧ (∀ x ∈ c.evb.epochs, x.key ≠ e.key) ∧
              c.get F.EVB_STAT_EPOCH = e.key % 4096 ∧ c.get F.EVB_STAT_WRAP = e.key / 4096 % 65536 ∧ c.get F.EVB_PEND_QWAIT = 0 ∧
              (∀ q < 8, bitAt e.queues q = true → c.qPub q = (b.qWr q + bytes q) % 2 ^ 64) ∧
              ∀ q < 8, bitAt e.queues q = false → c.qPub q = b.qPub q))))

/-- Self-diagnosis, the mirror link, the standby's states, the commands of PAIR and the switch-over. A cause on the serving active concentrator, the
watchdog's after its time only, asserts YIELD with it where the standby is WARM or HOT: the cause is recorded and the gap begins; without such a
standby it resets the module, recorded, but for a failed self-test, which is counted and leaves the pair DEGRADED. A cause on the working standby ends
it; one of a concentrator that does not serve changes nothing. A passed self-test only restarts its interval. A lost mirror puts an eligible standby
back into SYNC, a restored link starts mirror sync, a filled member enters SYNC or fails, a WARM standby that has caught up is HOT. SWITCH, REINSTATE,
RETIRE and the kick act for host endpoints and the Owl only, a switch only with an eligible standby. Reads of the standby answer its register and its
DRAM. TAKEOVER changes the active member, ends the mirror and adopts the standby's DRAM below queue storage and its own queue storage; the rebuild of
a warm one re-arms Lynx; the gap's end records its length. (R62, R299, R562, R564, R565, R566, R567, R568, R571, R572, R573, R574) -/
def Obligations.PairCausesAndSwitchOver : Prop :=
  ∀ (s : State),
    let b := s.hw
    let eligible := b.get F.PAIR_STAT_SB_STATE = 3 ∨ b.get F.PAIR_STAT_SB_STATE = 4
    let lost := (b.standbyDown 5).showStandby.settlePower.flushMirror
    let causes : List (Instr × Nat) := [(.lockstepMismatch false, 1), (.coreStall false, 4), (.railFault false, 7)]
      ++ if b.pair.wdogTick + max 1 (b.get F.PAIR_DIAG_WDOG_MS) * msTicks ≤ b.tick then [(.watchdogExpire false, 3)] else []
    let standbys : List Instr := [.lockstepMismatch true, .coreStall true, .railFault true, .watchdogExpire true]
    (∀ c ∈ causes,
      ((b.serving = false ∨ b.pair.gap ≠ none) → exec c.1 s = .next s) ∧
      (b.serving = true → b.pair.gap = none → b.pair.yielded = none →
        (eligible → ∃ t, exec c.1 s = .next t ∧ t.pending = s.pending ∧ t.hw.dram = b.dram ∧ t.hw.pair.yielded = some c.2 ∧
          t.hw.pair.gap = some b.tick ∧ t.hw.pair.warm = (b.get F.PAIR_STAT_SB_STATE == 3) ∧ t.hw.get F.PAIR_LAST_CAUSE = c.2 ∧
          t.hw.get F.PAIR_LAST_RESET = 0 ∧ t.hw.pair.sbDram = b.pair.sbDram) ∧
        (¬ eligible → ∃ t, exec c.1 s = .next t ∧ t.pending = s.pending ∧ t.hw.phase = .off ∧ t.hw.get F.SYS_STATE_RESET_CAUSE = 3 ∧
          t.hw.get F.PAIR_LAST_CAUSE = c.2 ∧ t.hw.get F.PAIR_LAST_RESET = 1 ∧ t.hw.dram = []))) ∧
    (b.pair.wdogTick + max 1 (b.get F.PAIR_DIAG_WDOG_MS) * msTicks > b.tick → exec (.watchdogExpire false) s = .next s) ∧
    (∀ c ∈ standbys, (b.sbWorks = false → exec c s = .next s) ∧ (b.sbWorks = true → exec c s = .next { s with hw := lost })) ∧
    (∀ cc < 2,
      let h := b.get F.PAIR_DIAG_SELFTEST_H
      let due := lookupD b.pair.selfTick cc 0 + h * hTicks ≤ b.tick
      let powered := if cc = b.active then b.serving && b.pair.gap.isNone else b.sbWorks
      let tested := { b with pair := { b.pair with selfTick := insertKey b.pair.selfTick cc b.tick } }
      (∀ pass, (h = 0 ∨ ¬ due ∨ powered = false) → exec (.periodicSelftest cc pass) s = .next s) ∧
      (h ≠ 0 → due → powered = true →
        exec (.periodicSelftest cc true) s = .next { s with hw := tested } ∧
        (cc = b.active → ¬ eligible → b.pair.yielded = none → exec (.periodicSelftest cc false) s =
          .next { s with hw := (tested.bump F.PAIR_SELFTEST_FAIL_CNT).put F.PAIR_STAT_DEGRADED 1 }))) ∧
    (∀ drop,
      let late := match b.pair.queue with
        | x :: _ => decide (x.tick + 1024 ≤ b.tick)
        | [] => false
      ((b.mirrorUp = false ∨ b.pair.gap ≠ none ∨ (drop = false ∧ late = false)) → exec (.mirrorLost drop) s = .next s) ∧
      (b.mirrorUp = true → b.pair.gap = none → (drop = true ∨ late = true) →
        ∃ c : Block, exec (.mirrorLost drop) s = .next { s with hw := c.flushMirror } ∧ c.get F.PAIR_STAT_MIRROR_UP = 0 ∧
          c.get F.PAIR_MIRROR_ERR_CNT = satU 32 (b.get F.PAIR_MIRROR_ERR_CNT + 1) ∧ c.pair.held = [] ∧ c.dram = b.dram ∧
          c.pair.queue = b.pair.queue ∧ (eligible → c.get F.PAIR_STAT_SB_STATE = 2) ∧ (¬ eligible → c.get F.PAIR_STAT_SB_STATE = b.get F.PAIR_STAT_SB_STATE))) ∧
    (let due := b.mirrorUp = false ∧ b.get F.PAIR_STAT_SB_STATE = 2 ∧ b.pair.gap = none
     let up := b.put F.PAIR_STAT_MIRROR_UP 1
     let synced := if b.phase = .join ∨ b.phase = .live then up.mirror (.sync up.syncFields) else up
     (due → exec .mirrorLinkRestored s = .next { s with hw := synced }) ∧ (¬ due → exec .mirrorLinkRestored s = .next s)) ∧
    (let due := b.get F.PAIR_STAT_SB_STATE = 1 ∧ b.phase ≠ .fill ∧ b.get (F.PWR_D_STAT_STATE (4 + (1 - b.active))) = 2 ∧
       b.get (F.PWR_D_STAT_STATE (6 + (1 - b.active))) = 2
     (∀ pass, ¬ due → exec (.standbyFillDone pass) s = .next s) ∧
       (due → exec (.standbyFillDone false) s = .next { s with hw := lost } ∧
         ∃ t, exec (.standbyFillDone true) s = .next t ∧ t.pending = s.pending ∧ t.hw.dram = b.dram ∧ t.hw.get F.PAIR_STAT_SB_STATE = 2 ∧
           t.hw.get F.PAIR_STAT_MIRROR_UP = 1 ∧ lookup t.hw.pair.selfTick (1 - b.active) = some b.tick)) ∧
    (b.get F.PAIR_STAT_SB_STATE = 3 → b.pair.catching = true → b.get F.BDG_CHOICE_STANDBY = 0 →
      exec .standbyCaughtUp s = .next { s with hw := { b.put F.PAIR_STAT_SB_STATE 4 with pair := { b.pair with catching := false } } }) ∧
    ((b.get F.PAIR_STAT_SB_STATE ≠ 3 ∨ b.pair.catching = false ∨ b.get F.BDG_CHOICE_STANDBY ≠ 0) → exec .standbyCaughtUp s = .next s) ∧
    (∀ a : Access, a.wf = true →
      let may := b.hostWho a.who || a.who == .owl
      (b.acts a 0x100004 1 = true →
        (may = false → exec (.pairSwitch a) s = .next { s with hw := b.answered a 0x100004 1 (b, .accessDenied) }) ∧
        (may = true → ¬ eligible → exec (.pairSwitch a) s = .next { s with hw := b.answered a 0x100004 1 (b, .busyResource) }) ∧
        (may = true → eligible → exec (.pairSwitch a) s =
          .next { s with hw := b.answered a 0x100004 1 ({ b with pair := { b.pair with switchDue := true } }, .ok) })) ∧
      (b.acts a 0x100004 2 = true → may = true → exec (.pairReinstate a) s = .next { s with hw := b.answered a 0x100004 2 (if b.get F.PAIR_STAT_SB_STATE = 5 then (b.put F.PAIR_STAT_SB_STATE 0).settlePower else b, .ok) }) ∧
      (b.acts a 0x100004 3 = true → may = true → exec (.pairRetire a) s = .next { s with hw := b.answered a 0x100004 3 (if b.get F.PAIR_STAT_SB_STATE = 5 then b else (b.standbyDown 5).showStandby.settlePower, .ok) }) ∧
      (b.acts a 0x10000c 1 = true →
        exec (.watchdogKick a) s = .next { s with hw := b.answered a 0x10000c 1 ({ b with pair := { b.pair with wdogTick := b.tick } }, .ok) }) ∧
      (b.takes a = true → b.standbyOff = false →
        let addr := b.get F.PAIR_SB_REG_ADDR
        (b.admits a 0x100034 false = true → resident addr = true → (regRow addr).isSome = true → a.who.isWarren = false → tierOAt addr = false →
          wideAt addr = .no →
          exec (.standbyRegRead a) s = .next { s with hw := b.readAnswered a 0x100034 (b.sbClearRc addr) .ok (b.standbyView.regWord addr) }) ∧
        (∀ k < 8192, b.admits a (0x108000 + 4 * k) false = true →
          let x := b.get F.PAIR_SBW_BASE_LO + b.get F.PAIR_SBW_BASE_HI * 2 ^ 32 + 4 * k
          ((inWindow x = false ∨ excluded x = true) →
            exec (.standbyWindowRead a k) s = .next { s with hw := b.readAnswered a (0x108000 + 4 * k) b .accessDenied 0 }) ∧
          (inWindow x = true → excluded x = false → lookup b.pair.sbPoison (x / 8) = none →
            exec (.standbyWindowRead a k) s = .next { s with hw := b.readAnswered a (0x108000 + 4 * k) b .ok (leVal (readBytes b.pair.sbDram x 4)) })))) ∧
    (b.pair.yielded = none → exec .takeover s = .next s) ∧
    (b.pair.yielded.isSome = true →
      ∃ c : Block, exec .takeover s = .next { s with hw := c.chooseLevel.settlePower } ∧ c.get F.IDN_ACTIVE = (1 - b.active) % 2 ∧
        c.get F.PAIR_STAT_SB_STATE = 5 ∧ c.get F.PAIR_STAT_MIRROR_UP = 0 ∧ c.get F.TRG_STAT_ACTING = 0 ∧ c.pair.yielded = none ∧
        c.pair.gap = b.pair.gap ∧ c.pair.queue = [] ∧ c.pair.sbDram = [] ∧ c.master.prims = [] ∧
        (b.pair.warm = true → c.get F.PAIR_STAT_REBUILD = 1) ∧
        (∀ x < 0x0580000000, lookup c.dram x = lookup b.pair.sbDram x) ∧
        (b.pair.warm = false → ∀ x, 0x0580000000 ≤ x → x < 0x0680000000 → lookup c.dram x = lookup b.dram x)) ∧
    (let due := b.pair.gap.isSome = true ∧ b.pair.yielded = none ∧ b.flag F.PAIR_STAT_REBUILD = true
     (¬ due → exec .warmRebuildDone s = .next s) ∧
       (due → ∃ c : Block, exec .warmRebuildDone s = .next { s with hw := c.chooseLevel } ∧ c.get F.PAIR_STAT_REBUILD = 0 ∧ c.lynx.units = [] ∧
         c.lynx.groups = [] ∧ c.lynx.ghold = [] ∧ c.lynx.instants = [] ∧ c.lynx.slow = [] ∧ c.dram = b.dram ∧ c.pair = b.pair)) ∧
    (let due := b.pair.gap.isSome = true ∧ b.pair.yielded = none ∧ b.flag F.PAIR_STAT_REBUILD = false
     (¬ due → exec .takeoverGapEnd s = .next s) ∧
       (due → b.access.waiting = [] → b.pair.held = [] →
         ∃ c : Block, exec .takeoverGapEnd s = .next { s with hw := c.flushMirror.settlePower } ∧ c.pair.gap = none ∧ c.pair.warm = false ∧
           c.pair.wdogTick = b.tick ∧ c.get F.PAIR_GAP = satU 32 (b.tick - b.pair.gap.getD b.tick) ∧ c.dram = b.dram))

/-- Arming and ending perturbations, the scan chain, wear. A write of TST_ARM that acts, with expert authority and debug open, arms the named perturbation
for DURATION epochs (0 as 1) and asserts TST_ACTIVE; without them it is ACCESS_DENIED; arming TIME on a module that leads time and LANE on a host-mode
port is refused and counted; DISARM_ALL and the end of the DURATION clear the mask. BACKPRESS changes between its two phases at the written lengths.
With the rails on, BYPASS puts one bit of 0 per die before what is shifted in, IDCODE the eight dies' codes from the one nearest TDO, SAMPLE/PRELOAD
and EXTEST the pins, keeping what is shifted in, which EXTEST drives; TRST_N selects IDCODE. Each powered minute adds each die's use at its
temperature to its budget, a minute to the bin of the hottest die and to the oven's where it is on; every 24 hours the store takes the values.
Registers but the ones named, DRAM and queues stand. (R14, R22, R585, R586, R587, R588, R591, R611, R612, spec/21_register_access_and_test.md,
spec/22_electrical_package_life.md) -/
def Obligations.PerturbationsScanChainAndWear : Prop :=
  ∀ (s : State),
    let b := s.hw
    let may := b.get F.SEC_EXPERT / 2 ^ 18 % 2 = 1 ∧ b.get F.SEC_DEBUG / 2 ^ 4 % 2 = 1
    let arms (a : Access) : List (Instr × Nat) := [(.tstArmStretch a, 0), (.tstArmBackpress a, 1), (.tstArmLane a, 2), (.tstArmTime a, 3),
      (.tstArmMemerr a, 4), (.tstArmResidue a, 5)]
    let blocked (i : Nat) : Prop := (i = 3 ∧ b.leadsTime = true) ∨ (i = 2 ∧ b.get (F.FAB_PORT_MODE (b.get F.TST_LANE_LANE / 2)) = 2)
    (∀ a : Access, a.wf = true → ∀ x ∈ arms a, b.acts a 0x120004 (2 ^ x.2) = true →
      (¬ may → exec x.1 s = .next { s with hw := b.answered a 0x120004 (2 ^ x.2) (b, .accessDenied) }) ∧
      (may → blocked x.2 → exec x.1 s = .next { s with hw := b.answered a 0x120004 (2 ^ x.2) (b.bump F.TST_REFUSE_CNT, .busyResource) }) ∧
      (may → ¬ blocked x.2 → ∃ c : Block, exec x.1 s = .next { s with hw := b.answered a 0x120004 (2 ^ x.2) (c, .ok) } ∧
        c.get F.TST_STAT_MASK = Nat.lor (b.get F.TST_STAT_MASK) (2 ^ x.2) % 64 ∧ c.get F.TST_DUR_REMAIN = max 1 (b.get F.TST_DUR_DURATION) % 2 ^ 16 ∧
        (c.source 232).active = true ∧ c.dram = b.dram ∧ (x.2 < 4 → bitAt c.tst.epochMask x.2 = true) ∧
        (x.2 = 1 → c.tst.bpOn = true ∧ c.tst.bpTick = b.tick) ∧ (x.2 = 5 → c.tst.residue = b.get F.TST_RES % 64))) ∧
    (∀ a : Access, a.wf = true → b.acts a 0x120004 (2 ^ 31) = true →
      (¬ may → exec (.tstDisarmAll a) s = .next { s with hw := b.answered a 0x120004 (2 ^ 31) (b, .accessDenied) }) ∧
      (may → ∃ c : Block, exec (.tstDisarmAll a) s = .next { s with hw := b.answered a 0x120004 (2 ^ 31) (c, .ok) } ∧
        c.get F.TST_STAT_MASK = 0 ∧ c.get F.TST_DUR_REMAIN = 0 ∧ (c.source 232).active = false ∧ c.tst.epochMask = b.tst.epochMask ∧ c.dram = b.dram)) ∧
    ((b.get F.TST_STAT_MASK = 0 ∨ b.get F.TST_DUR_REMAIN ≠ 0) → exec .tstDurationEnd s = .next s) ∧
    (b.get F.TST_STAT_MASK ≠ 0 → b.get F.TST_DUR_REMAIN = 0 →
      ∃ t, exec .tstDurationEnd s = .next t ∧ t.pending = s.pending ∧ t.hw.dram = b.dram ∧ t.hw.get F.TST_STAT_MASK = 0 ∧
        (t.hw.source 232).active = false ∧ t.hw.tst.epochMask = b.tst.epochMask ∧ ∀ f : Field, f.key ≠ F.TST_STAT_MASK.key →
          f.key ≠ F.TST_DUR_REMAIN.key → t.hw.get f = b.get f) ∧
    (let span := if b.tst.bpOn then b.get F.TST_BP_DUTY_ON_TICKS else max 1 (b.get F.TST_BP_DUTY_OFF_TICKS)
     (bitAt (b.get F.TST_STAT_MASK) 1 = true → b.tst.bpTick + span ≤ b.tick →
       exec .tstBpToggle s = .next { s with hw := { b with tst := { b.tst with bpOn := !b.tst.bpOn, bpTick := b.tick } } }) ∧
     ((bitAt (b.get F.TST_STAT_MASK) 1 = false ∨ b.tick < b.tst.bpTick + span) → exec .tstBpToggle s = .next s)) ∧
    (∀ pins tdi : List Bool,
      (b.phase.railsOn = false →
        ∀ c ∈ ([.jtagBypass tdi, .jtagIdcode tdi, .jtagSamplePreload pins tdi, .jtagExtest pins tdi] : List Instr), exec c s = .next s) ∧
      (b.phase.railsOn = true →
        exec (.jtagBypass tdi) s = .next { s with hw := { b with jtag := { b.jtag with ir := .bypass }, wire := .tdo ((List.replicate 8 false ++ tdi).take tdi.length) :: b.wire } } ∧
        exec (.jtagIdcode tdi) s = .next { s with hw := { b with jtag := { b.jtag with ir := .idcode }, wire := .tdo (((b.idcodes.reverse.flatMap wordBits) ++ tdi).take tdi.length) :: b.wire } } ∧
        exec (.jtagSamplePreload pins tdi) s = .next { s with hw := { b with jtag := ⟨.sample, tdi⟩, wire := .tdo ((pins ++ tdi).take tdi.length) :: b.wire } } ∧
        exec (.jtagExtest pins tdi) s = .next { s with hw := { b with jtag := ⟨.extest, tdi⟩, wire := .scan tdi :: .tdo ((pins ++ tdi).take tdi.length) :: .scan b.jtag.boundary :: b.wire } })) ∧
    exec .tapReset s = .next { s with hw := { b with jtag := { b.jtag with ir := .idcode } } } ∧
    (∀ tj : List Int, tj.length = 8 →
      (b.phase.railsOn = false → exec (.emBudgetAccumulate tj) s = .next s) ∧
      (b.phase.railsOn = true →
        ∃ t, exec (.emBudgetAccumulate tj) s = .next t ∧ t.pending = s.pending ∧ t.hw.regs = b.regs ∧ t.hw.dram = b.dram ∧
          t.hw.wear.store = b.wear.store ∧ t.hw.wear.now.minutes = b.wear.now.minutes + 1 ∧
          (∀ i < 8, lookupD t.hw.wear.now.em i 0 = lookupD b.wear.now.em i 0 + 182 * accelFactor (tj.getD i 0)) ∧
          (∀ k, lookupD t.hw.wear.now.bins k 0 = lookupD b.wear.now.bins k 0 + if k = tjBin (tj.foldl max (tj.headD 0)) then 1 else 0) ∧
          t.hw.wear.now.ovnMinutes = b.wear.now.ovnMinutes + (if b.domainOn 17 then 1 else 0))) ∧
    ((b.phase.railsOn = false ∨ b.wear.now.minutes < b.wear.store.minutes + 1440) → exec .wearStoreUpdate s = .next s) ∧
    (b.phase.railsOn = true → b.wear.store.minutes + 1440 ≤ b.wear.now.minutes →
      ∃ t, exec .wearStoreUpdate s = .next t ∧ t.pending = s.pending ∧ t.hw.regs = b.regs ∧ t.hw.dram = b.dram ∧ t.hw.wear.store = t.hw.wear.now ∧
        t.hw.wear.now.em = b.wear.now.em ∧ t.hw.wear.now.minutes = b.wear.now.minutes ∧ t.hw.wear.now.bins = b.wear.now.bins ∧
        t.hw.wear.now.corr = [] ∧ ∀ x < 2, lookupD t.hw.wear.now.corrDays x [] = (lookupD b.wear.now.corr x 0 :: lookupD b.wear.now.corrDays x []).take 60)
end

