-- ==== Sys2Proof/Laws/Map.lean ====
section
/-! SUPPORT. Tables: what a lookup gives after an insertion, an erasure, a filter, and that these keep the keys rising. -/

namespace Sys2Proof.Machine

variable {α : Type}

@[simp] theorem lookup_nil (k : Nat) : lookup ([] : Table α) k = none := rfl

theorem lookup_cons (k' : Nat) (v : α) (m : Table α) (k : Nat) :
    lookup ((k', v) :: m) k = if k' = k then some v else lookup m k := rfl

/-- A key that was set reads as it was set. -/
@[simp] theorem lookup_insertKey_same (m : Table α) (k : Nat) (v : α) : lookup (insertKey m k v) k = some v := by
  induction m with
  | nil => simp [insertKey, lookup]
  | cons c m ih =>
    obtain ⟨k', v'⟩ := c
    simp only [insertKey]
    split
    · simp [lookup]
    · split
      · simp [lookup]
      · rename_i h; simp [lookup, h, ih]

/-- Every other key reads as before. -/
theorem lookup_insertKey_other (m : Table α) (k j : Nat) (v : α) (h : j ≠ k) : lookup (insertKey m k v) j = lookup m j := by
  induction m with
  | nil => simp [insertKey, lookup, Ne.symm h]
  | cons c m ih =>
    obtain ⟨k', v'⟩ := c
    simp only [insertKey]
    split
    · simp [lookup, Ne.symm h]
    · split
      · subst k'; simp [lookup, Ne.symm h]
      · simp [lookup, ih]

@[simp] theorem lookup_eraseKey_same (m : Table α) (k : Nat) : lookup (eraseKey m k) k = none := by
  induction m with
  | nil => rfl
  | cons c m ih =>
    obtain ⟨k', v'⟩ := c
    simp only [eraseKey]
    split
    · exact ih
    · rename_i h; simp [lookup, h, ih]

theorem lookup_eraseKey_other (m : Table α) (k j : Nat) (h : j ≠ k) : lookup (eraseKey m k) j = lookup m j := by
  induction m with
  | nil => rfl
  | cons c m ih =>
    obtain ⟨k', v'⟩ := c
    simp only [eraseKey]
    split
    · subst k'; simp [lookup, Ne.symm h, ih]
    · simp [lookup, ih]

@[simp] theorem lookupD_insertKey_same (m : Table α) (k : Nat) (v d : α) : lookupD (insertKey m k v) k d = v := by
  simp [lookupD]

theorem lookupD_insertKey_other (m : Table α) (k j : Nat) (v d : α) (h : j ≠ k) :
    lookupD (insertKey m k v) j d = lookupD m j d := by
  simp [lookupD, lookup_insertKey_other m k j v h]

@[simp] theorem lookupD_modifyKey_same (m : Table α) (k : Nat) (d : α) (f : α → α) :
    lookupD (modifyKey m k d f) k d = f (lookupD m k d) := by
  simp [modifyKey]

theorem lookupD_modifyKey_other (m : Table α) (k j : Nat) (d e : α) (f : α → α) (h : j ≠ k) :
    lookupD (modifyKey m k d f) j e = lookupD m j e := by
  simp [modifyKey, lookupD_insertKey_other _ _ _ _ _ h]

/-! ### Rising keys -/

/-- Keys rise exactly where the keys of the pairs do. -/
theorem keysRise_iff (m : Table α) : keysRise m = true ↔ m.Pairwise fun x y => x.1 < y.1 := by
  induction m with
  | nil => simp [keysRise]
  | cons c m ih =>
    obtain ⟨k, v⟩ := c
    cases m with
    | nil => simp [keysRise]
    | cons d m =>
      obtain ⟨j, w⟩ := d
      simp only [keysRise, Bool.and_eq_true, decide_eq_true_eq, ih]
      constructor
      · rintro ⟨h, hp⟩
        refine List.pairwise_cons.2 ⟨?_, hp⟩
        intro x hx
        rcases List.mem_cons.1 hx with rfl | hx
        · exact h
        · exact Nat.lt_trans h ((List.pairwise_cons.1 hp).1 x hx)
      · intro hp
        have hp' := List.pairwise_cons.1 hp
        exact ⟨hp'.1 _ (List.mem_cons_self ..), hp'.2⟩

/-- What stands in a table after an insertion stood there before or is the new pair. -/
theorem mem_insertKey {m : Table α} {k : Nat} {v : α} {c : Nat × α} (h : c ∈ insertKey m k v) : c = (k, v) ∨ c ∈ m := by
  induction m with
  | nil => simpa [insertKey] using h
  | cons d m ih =>
    obtain ⟨k', v'⟩ := d
    simp only [insertKey] at h
    split at h
    · simpa using h
    · split at h
      · rcases List.mem_cons.1 h with h | h
        · exact .inl h
        · exact .inr (List.mem_cons_of_mem _ h)
      · rcases List.mem_cons.1 h with h | h
        · exact .inr (h ▸ List.mem_cons_self ..)
        · exact (ih h).imp_right (List.mem_cons_of_mem _)

theorem mem_eraseKey {m : Table α} {k : Nat} {c : Nat × α} (h : c ∈ eraseKey m k) : c ∈ m ∧ c.1 ≠ k := by
  induction m with
  | nil => simp [eraseKey] at h
  | cons d m ih =>
    obtain ⟨k', v'⟩ := d
    simp only [eraseKey] at h
    split at h
    · exact ⟨List.mem_cons_of_mem _ (ih h).1, (ih h).2⟩
    · rename_i hk
      rcases List.mem_cons.1 h with h | h
      · subst h; exact ⟨List.mem_cons_self .., hk⟩
      · exact ⟨List.mem_cons_of_mem _ (ih h).1, (ih h).2⟩

/-- An insertion keeps the keys rising. -/
theorem keysRise_insertKey {m : Table α} (h : keysRise m = true) (k : Nat) (v : α) : keysRise (insertKey m k v) = true := by
  rw [keysRise_iff] at *
  induction m with
  | nil => simp [insertKey]
  | cons c m ih =>
    obtain ⟨k', v'⟩ := c
    have hp := List.pairwise_cons.1 h
    simp only [insertKey]
    split
    · rename_i hk
      refine List.pairwise_cons.2 ⟨?_, h⟩
      intro x hx
      rcases List.mem_cons.1 hx with rfl | hx
      · exact hk
      · exact Nat.lt_trans hk (hp.1 x hx)
    · split
      · rename_i hk; subst hk; exact List.pairwise_cons.2 hp
      · refine List.pairwise_cons.2 ⟨?_, ih hp.2⟩
        intro x hx
        rcases mem_insertKey hx with rfl | hx
        · simp only; omega
        · exact hp.1 x hx

/-- An erasure keeps the keys rising. -/
theorem keysRise_eraseKey {m : Table α} (h : keysRise m = true) (k : Nat) : keysRise (eraseKey m k) = true := by
  rw [keysRise_iff] at *
  induction m with
  | nil => simp [eraseKey]
  | cons c m ih =>
    obtain ⟨k', v'⟩ := c
    have hp := List.pairwise_cons.1 h
    simp only [eraseKey]
    split
    · exact ih hp.2
    · exact List.pairwise_cons.2 ⟨fun x hx => hp.1 x (mem_eraseKey hx).1, ih hp.2⟩

/-- A filter keeps the keys rising. -/
theorem keysRise_filter {m : Table α} (h : keysRise m = true) (p : Nat × α → Bool) : keysRise (m.filter p) = true := by
  rw [keysRise_iff] at *
  exact h.filter p

end Sys2Proof.Machine
end

