-- ==== Sys2Proof/Laws/Ops.lean ====
section
/-! SUPPORT. What the shared operations over registers and memory do: a field reads as it was put, every other field as before; a
byte of memory reads as it was written, every other byte as before; memory keeps its canonical form. -/

namespace Sys2Proof.Machine

/-! ### Registers -/

theorem lookupD_putReg_same (r : Table Nat) (f : Field) (v : Nat) : lookupD (putReg r f v) f.key f.reset = v % 2 ^ f.width := by
  unfold putReg
  split
  · rename_i h; simp [lookupD, h]
  · simp

theorem lookup_putReg_other (r : Table Nat) (f : Field) (v k : Nat) (h : k ≠ f.key) : lookup (putReg r f v) k = lookup r k := by
  unfold putReg
  split
  · exact lookup_eraseKey_other _ _ _ h
  · exact lookup_insertKey_other _ _ _ _ h

/-- A field reads as the low bits of what was put. -/
@[simp] theorem Block.get_put_same (b : Block) (f : Field) (v : Nat) : (b.put f v).get f = v % 2 ^ f.width := by
  simp [Block.get, Block.put, lookupD_putReg_same]

/-- Every other field reads as before. -/
theorem Block.get_put_other (b : Block) (f g : Field) (v : Nat) (h : g.key ≠ f.key) : (b.put f v).get g = b.get g := by
  simp [Block.get, Block.put, lookupD, lookup_putReg_other _ _ _ _ h]

/-- A one-bit field put from a Bool reads as that Bool. -/
theorem Block.flag_putB_same (b : Block) (f : Field) (v : Bool) (h : 0 < f.width) : (b.putB f v).flag f = v := by
  have h2 : 2 ≤ 2 ^ f.width := Nat.le_self_pow (by omega) 2
  cases v
  · simp [Block.flag, Block.putB, b2n]
  · simp [Block.flag, Block.putB, b2n, Nat.mod_eq_of_lt h2]

theorem Block.get_bump_same (b : Block) (f : Field) : (b.bump f).get f = satU f.width (b.get f + 1) := by
  have h : satU f.width (b.get f + 1) < 2 ^ f.width := by
    unfold satU; split
    · assumption
    · have := Nat.two_pow_pos f.width; omega
  simp [Block.bump, Block.bumpBy, Nat.mod_eq_of_lt h]

/-! ### Memory -/

/-- A byte of memory reads as it was written. -/
@[simp] theorem readByte_writeByte_same (m : Table Byte) (a v : Nat) : readByte (writeByte m a v) a = v % 256 := by
  unfold readByte writeByte
  split
  · rename_i h
    have : blankByte a < 256 := by unfold blankByte; split <;> omega
    simp [lookupD, BitVec.toNat_ofNat, Nat.mod_eq_of_lt this, h]
  · simp

/-- Every other byte reads as before. -/
theorem readByte_writeByte_other (m : Table Byte) (a v j : Nat) (h : j ≠ a) : readByte (writeByte m a v) j = readByte m j := by
  unfold readByte writeByte
  split
  · simp [lookupD, lookup_eraseKey_other _ _ _ h]
  · simp [lookupD, lookup_insertKey_other _ _ _ _ h]

/-- Bytes outside a write read as before. -/
theorem readByte_writeBytes_outside (l : List Nat) (m : Table Byte) (a j : Nat) (h : j < a ∨ a + l.length ≤ j) :
    readByte (writeBytes m a l) j = readByte m j := by
  induction l generalizing m a with
  | nil => rfl
  | cons v l ih =>
    simp only [writeBytes]
    simp only [List.length_cons] at h
    rw [ih, readByte_writeByte_other]
    · omega
    · omega

/-- A written byte reads as it was written. -/
theorem readByte_writeBytes_inside (l : List Nat) (m : Table Byte) (a i : Nat) (h : i < l.length) :
    readByte (writeBytes m a l) (a + i) = l[i] % 256 := by
  induction l generalizing m a i with
  | nil => simp at h
  | cons v l ih =>
    simp only [writeBytes]
    cases i with
    | zero => rw [readByte_writeBytes_outside _ _ _ _ (by omega)]; simp
    | succ i =>
      have := ih (writeByte m a v) (a + 1) i (by simpa using h)
      simpa [Nat.add_assoc, Nat.add_comm 1] using this

/-- Writing a byte keeps memory in its canonical form. -/
theorem Memory.wf_writeByte {m : Table Byte} (h : Memory.wf m) (a v : Nat) : Memory.wf (writeByte m a v) := by
  unfold writeByte
  split
  · exact ⟨keysRise_eraseKey h.1 a, fun c hc => h.2 c (mem_eraseKey hc).1⟩
  · rename_i hv
    refine ⟨keysRise_insertKey h.1 _ _, fun c hc => ?_⟩
    rcases mem_insertKey hc with rfl | hc
    · simpa [BitVec.toNat_ofNat] using hv
    · exact h.2 c hc

/-- Writing bytes keeps memory in its canonical form. -/
theorem Memory.wf_writeBytes (l : List Nat) {m : Table Byte} (h : Memory.wf m) (a : Nat) : Memory.wf (writeBytes m a l) := by
  induction l generalizing m a with
  | nil => exact h
  | cons v l ih => exact ih (Memory.wf_writeByte h a v) (a + 1)

/-- Leaving bytes out keeps memory in its canonical form. -/
theorem Memory.wf_filter {m : Table Byte} (h : Memory.wf m) (p : Nat × Byte → Bool) : Memory.wf (m.filter p) :=
  ⟨keysRise_filter h.1 p, fun c hc => h.2 c (List.mem_of_mem_filter hc)⟩

/-- Empty memory is in its canonical form. -/
theorem Memory.wf_nil : Memory.wf [] := ⟨rfl, fun _ h => nomatch h⟩

/-! ### Meanings -/

/-- What a meaning can do: with operands that name what the module has, it answers a next state that differs in the hardware
alone. -/
theorem onHw_next (s : State) (f : Block → Block) : onHw true s f = .next { s with hw := f s.hw } := rfl

theorem onHw_fault (s : State) (f : Block → Block) : onHw false s f = .fault .noSuchUnit := rfl

@[simp] theorem whenDue_true (f : Block → Block) (b : Block) : whenDue true f b = f b := rfl

@[simp] theorem whenDue_false (f : Block → Block) (b : Block) : whenDue false f b = b := rfl

end Sys2Proof.Machine
end

