-- ==== Sys2Proof/Laws/State.lean ====
section
/-! SUPPORT. What each small update of the block leaves as it was, field by field; all by computation. -/

namespace Sys2Proof.Machine

/-! ### Block.put -/

@[simp] theorem Block.put_dram (b : Block) (f : Field) (v : Nat) : (b.put f v).dram = b.dram := rfl
@[simp] theorem Block.put_poison (b : Block) (f : Field) (v : Nat) : (b.put f v).poison = b.poison := rfl
@[simp] theorem Block.put_phase (b : Block) (f : Field) (v : Nat) : (b.put f v).phase = b.phase := rfl
@[simp] theorem Block.put_reseat (b : Block) (f : Field) (v : Nat) : (b.put f v).reseat = b.reseat := rfl
@[simp] theorem Block.put_tick (b : Block) (f : Field) (v : Nat) : (b.put f v).tick = b.tick := rfl
@[simp] theorem Block.put_epochs (b : Block) (f : Field) (v : Nat) : (b.put f v).epochs = b.epochs := rfl
@[simp] theorem Block.put_time (b : Block) (f : Field) (v : Nat) : (b.put f v).time = b.time := rfl
@[simp] theorem Block.put_fab (b : Block) (f : Field) (v : Nat) : (b.put f v).fab = b.fab := rfl
@[simp] theorem Block.put_ports (b : Block) (f : Field) (v : Nat) : (b.put f v).ports = b.ports := rfl
@[simp] theorem Block.put_fast (b : Block) (f : Field) (v : Nat) : (b.put f v).fast = b.fast := rfl
@[simp] theorem Block.put_tdc (b : Block) (f : Field) (v : Nat) : (b.put f v).tdc = b.tdc := rfl
@[simp] theorem Block.put_links (b : Block) (f : Field) (v : Nat) : (b.put f v).links = b.links := rfl
@[simp] theorem Block.put_ring (b : Block) (f : Field) (v : Nat) : (b.put f v).ring = b.ring := rfl
@[simp] theorem Block.put_prec (b : Block) (f : Field) (v : Nat) : (b.put f v).prec = b.prec := rfl
@[simp] theorem Block.put_loops (b : Block) (f : Field) (v : Nat) : (b.put f v).loops = b.loops := rfl
@[simp] theorem Block.put_lynx (b : Block) (f : Field) (v : Nat) : (b.put f v).lynx = b.lynx := rfl
@[simp] theorem Block.put_evb (b : Block) (f : Field) (v : Nat) : (b.put f v).evb = b.evb := rfl
@[simp] theorem Block.put_egq (b : Block) (f : Field) (v : Nat) : (b.put f v).egq = b.egq := rfl
@[simp] theorem Block.put_master (b : Block) (f : Field) (v : Nat) : (b.put f v).master = b.master := rfl
@[simp] theorem Block.put_irq (b : Block) (f : Field) (v : Nat) : (b.put f v).irq = b.irq := rfl
@[simp] theorem Block.put_access (b : Block) (f : Field) (v : Nat) : (b.put f v).access = b.access := rfl
@[simp] theorem Block.put_pwr (b : Block) (f : Field) (v : Nat) : (b.put f v).pwr = b.pwr := rfl
@[simp] theorem Block.put_boot (b : Block) (f : Field) (v : Nat) : (b.put f v).boot = b.boot := rfl
@[simp] theorem Block.put_ecc (b : Block) (f : Field) (v : Nat) : (b.put f v).ecc = b.ecc := rfl
@[simp] theorem Block.put_chk (b : Block) (f : Field) (v : Nat) : (b.put f v).chk = b.chk := rfl
@[simp] theorem Block.put_jtag (b : Block) (f : Field) (v : Nat) : (b.put f v).jtag = b.jtag := rfl
@[simp] theorem Block.put_wear (b : Block) (f : Field) (v : Nat) : (b.put f v).wear = b.wear := rfl
@[simp] theorem Block.put_tst (b : Block) (f : Field) (v : Nat) : (b.put f v).tst = b.tst := rfl
@[simp] theorem Block.put_pair (b : Block) (f : Field) (v : Nat) : (b.put f v).pair = b.pair := rfl
@[simp] theorem Block.put_posted (b : Block) (f : Field) (v : Nat) : (b.put f v).posted = b.posted := rfl
@[simp] theorem Block.put_wire (b : Block) (f : Field) (v : Nat) : (b.put f v).wire = b.wire := rfl
@[simp] theorem Block.put_free (b : Block) (f : Field) (v : Nat) : (b.put f v).free = b.free := rfl

/-! ### Block.putB -/

@[simp] theorem Block.putB_dram (b : Block) (f : Field) (v : Bool) : (b.putB f v).dram = b.dram := rfl
@[simp] theorem Block.putB_poison (b : Block) (f : Field) (v : Bool) : (b.putB f v).poison = b.poison := rfl
@[simp] theorem Block.putB_phase (b : Block) (f : Field) (v : Bool) : (b.putB f v).phase = b.phase := rfl
@[simp] theorem Block.putB_reseat (b : Block) (f : Field) (v : Bool) : (b.putB f v).reseat = b.reseat := rfl
@[simp] theorem Block.putB_tick (b : Block) (f : Field) (v : Bool) : (b.putB f v).tick = b.tick := rfl
@[simp] theorem Block.putB_epochs (b : Block) (f : Field) (v : Bool) : (b.putB f v).epochs = b.epochs := rfl
@[simp] theorem Block.putB_time (b : Block) (f : Field) (v : Bool) : (b.putB f v).time = b.time := rfl
@[simp] theorem Block.putB_fab (b : Block) (f : Field) (v : Bool) : (b.putB f v).fab = b.fab := rfl
@[simp] theorem Block.putB_ports (b : Block) (f : Field) (v : Bool) : (b.putB f v).ports = b.ports := rfl
@[simp] theorem Block.putB_fast (b : Block) (f : Field) (v : Bool) : (b.putB f v).fast = b.fast := rfl
@[simp] theorem Block.putB_tdc (b : Block) (f : Field) (v : Bool) : (b.putB f v).tdc = b.tdc := rfl
@[simp] theorem Block.putB_links (b : Block) (f : Field) (v : Bool) : (b.putB f v).links = b.links := rfl
@[simp] theorem Block.putB_ring (b : Block) (f : Field) (v : Bool) : (b.putB f v).ring = b.ring := rfl
@[simp] theorem Block.putB_prec (b : Block) (f : Field) (v : Bool) : (b.putB f v).prec = b.prec := rfl
@[simp] theorem Block.putB_loops (b : Block) (f : Field) (v : Bool) : (b.putB f v).loops = b.loops := rfl
@[simp] theorem Block.putB_lynx (b : Block) (f : Field) (v : Bool) : (b.putB f v).lynx = b.lynx := rfl
@[simp] theorem Block.putB_evb (b : Block) (f : Field) (v : Bool) : (b.putB f v).evb = b.evb := rfl
@[simp] theorem Block.putB_egq (b : Block) (f : Field) (v : Bool) : (b.putB f v).egq = b.egq := rfl
@[simp] theorem Block.putB_master (b : Block) (f : Field) (v : Bool) : (b.putB f v).master = b.master := rfl
@[simp] theorem Block.putB_irq (b : Block) (f : Field) (v : Bool) : (b.putB f v).irq = b.irq := rfl
@[simp] theorem Block.putB_access (b : Block) (f : Field) (v : Bool) : (b.putB f v).access = b.access := rfl
@[simp] theorem Block.putB_pwr (b : Block) (f : Field) (v : Bool) : (b.putB f v).pwr = b.pwr := rfl
@[simp] theorem Block.putB_boot (b : Block) (f : Field) (v : Bool) : (b.putB f v).boot = b.boot := rfl
@[simp] theorem Block.putB_ecc (b : Block) (f : Field) (v : Bool) : (b.putB f v).ecc = b.ecc := rfl
@[simp] theorem Block.putB_chk (b : Block) (f : Field) (v : Bool) : (b.putB f v).chk = b.chk := rfl
@[simp] theorem Block.putB_jtag (b : Block) (f : Field) (v : Bool) : (b.putB f v).jtag = b.jtag := rfl
@[simp] theorem Block.putB_wear (b : Block) (f : Field) (v : Bool) : (b.putB f v).wear = b.wear := rfl
@[simp] theorem Block.putB_tst (b : Block) (f : Field) (v : Bool) : (b.putB f v).tst = b.tst := rfl
@[simp] theorem Block.putB_pair (b : Block) (f : Field) (v : Bool) : (b.putB f v).pair = b.pair := rfl
@[simp] theorem Block.putB_posted (b : Block) (f : Field) (v : Bool) : (b.putB f v).posted = b.posted := rfl
@[simp] theorem Block.putB_wire (b : Block) (f : Field) (v : Bool) : (b.putB f v).wire = b.wire := rfl
@[simp] theorem Block.putB_free (b : Block) (f : Field) (v : Bool) : (b.putB f v).free = b.free := rfl

/-! ### Block.bumpBy -/

@[simp] theorem Block.bumpBy_dram (b : Block) (f : Field) (v : Nat) : (b.bumpBy f v).dram = b.dram := rfl
@[simp] theorem Block.bumpBy_poison (b : Block) (f : Field) (v : Nat) : (b.bumpBy f v).poison = b.poison := rfl
@[simp] theorem Block.bumpBy_phase (b : Block) (f : Field) (v : Nat) : (b.bumpBy f v).phase = b.phase := rfl
@[simp] theorem Block.bumpBy_reseat (b : Block) (f : Field) (v : Nat) : (b.bumpBy f v).reseat = b.reseat := rfl
@[simp] theorem Block.bumpBy_tick (b : Block) (f : Field) (v : Nat) : (b.bumpBy f v).tick = b.tick := rfl
@[simp] theorem Block.bumpBy_epochs (b : Block) (f : Field) (v : Nat) : (b.bumpBy f v).epochs = b.epochs := rfl
@[simp] theorem Block.bumpBy_time (b : Block) (f : Field) (v : Nat) : (b.bumpBy f v).time = b.time := rfl
@[simp] theorem Block.bumpBy_fab (b : Block) (f : Field) (v : Nat) : (b.bumpBy f v).fab = b.fab := rfl
@[simp] theorem Block.bumpBy_ports (b : Block) (f : Field) (v : Nat) : (b.bumpBy f v).ports = b.ports := rfl
@[simp] theorem Block.bumpBy_fast (b : Block) (f : Field) (v : Nat) : (b.bumpBy f v).fast = b.fast := rfl
@[simp] theorem Block.bumpBy_tdc (b : Block) (f : Field) (v : Nat) : (b.bumpBy f v).tdc = b.tdc := rfl
@[simp] theorem Block.bumpBy_links (b : Block) (f : Field) (v : Nat) : (b.bumpBy f v).links = b.links := rfl
@[simp] theorem Block.bumpBy_ring (b : Block) (f : Field) (v : Nat) : (b.bumpBy f v).ring = b.ring := rfl
@[simp] theorem Block.bumpBy_prec (b : Block) (f : Field) (v : Nat) : (b.bumpBy f v).prec = b.prec := rfl
@[simp] theorem Block.bumpBy_loops (b : Block) (f : Field) (v : Nat) : (b.bumpBy f v).loops = b.loops := rfl
@[simp] theorem Block.bumpBy_lynx (b : Block) (f : Field) (v : Nat) : (b.bumpBy f v).lynx = b.lynx := rfl
@[simp] theorem Block.bumpBy_evb (b : Block) (f : Field) (v : Nat) : (b.bumpBy f v).evb = b.evb := rfl
@[simp] theorem Block.bumpBy_egq (b : Block) (f : Field) (v : Nat) : (b.bumpBy f v).egq = b.egq := rfl
@[simp] theorem Block.bumpBy_master (b : Block) (f : Field) (v : Nat) : (b.bumpBy f v).master = b.master := rfl
@[simp] theorem Block.bumpBy_irq (b : Block) (f : Field) (v : Nat) : (b.bumpBy f v).irq = b.irq := rfl
@[simp] theorem Block.bumpBy_access (b : Block) (f : Field) (v : Nat) : (b.bumpBy f v).access = b.access := rfl
@[simp] theorem Block.bumpBy_pwr (b : Block) (f : Field) (v : Nat) : (b.bumpBy f v).pwr = b.pwr := rfl
@[simp] theorem Block.bumpBy_boot (b : Block) (f : Field) (v : Nat) : (b.bumpBy f v).boot = b.boot := rfl
@[simp] theorem Block.bumpBy_ecc (b : Block) (f : Field) (v : Nat) : (b.bumpBy f v).ecc = b.ecc := rfl
@[simp] theorem Block.bumpBy_chk (b : Block) (f : Field) (v : Nat) : (b.bumpBy f v).chk = b.chk := rfl
@[simp] theorem Block.bumpBy_jtag (b : Block) (f : Field) (v : Nat) : (b.bumpBy f v).jtag = b.jtag := rfl
@[simp] theorem Block.bumpBy_wear (b : Block) (f : Field) (v : Nat) : (b.bumpBy f v).wear = b.wear := rfl
@[simp] theorem Block.bumpBy_tst (b : Block) (f : Field) (v : Nat) : (b.bumpBy f v).tst = b.tst := rfl
@[simp] theorem Block.bumpBy_pair (b : Block) (f : Field) (v : Nat) : (b.bumpBy f v).pair = b.pair := rfl
@[simp] theorem Block.bumpBy_posted (b : Block) (f : Field) (v : Nat) : (b.bumpBy f v).posted = b.posted := rfl
@[simp] theorem Block.bumpBy_wire (b : Block) (f : Field) (v : Nat) : (b.bumpBy f v).wire = b.wire := rfl
@[simp] theorem Block.bumpBy_free (b : Block) (f : Field) (v : Nat) : (b.bumpBy f v).free = b.free := rfl

/-! ### Block.bump -/

@[simp] theorem Block.bump_dram (b : Block) (f : Field) : (b.bump f).dram = b.dram := rfl
@[simp] theorem Block.bump_poison (b : Block) (f : Field) : (b.bump f).poison = b.poison := rfl
@[simp] theorem Block.bump_phase (b : Block) (f : Field) : (b.bump f).phase = b.phase := rfl
@[simp] theorem Block.bump_reseat (b : Block) (f : Field) : (b.bump f).reseat = b.reseat := rfl
@[simp] theorem Block.bump_tick (b : Block) (f : Field) : (b.bump f).tick = b.tick := rfl
@[simp] theorem Block.bump_epochs (b : Block) (f : Field) : (b.bump f).epochs = b.epochs := rfl
@[simp] theorem Block.bump_time (b : Block) (f : Field) : (b.bump f).time = b.time := rfl
@[simp] theorem Block.bump_fab (b : Block) (f : Field) : (b.bump f).fab = b.fab := rfl
@[simp] theorem Block.bump_ports (b : Block) (f : Field) : (b.bump f).ports = b.ports := rfl
@[simp] theorem Block.bump_fast (b : Block) (f : Field) : (b.bump f).fast = b.fast := rfl
@[simp] theorem Block.bump_tdc (b : Block) (f : Field) : (b.bump f).tdc = b.tdc := rfl
@[simp] theorem Block.bump_links (b : Block) (f : Field) : (b.bump f).links = b.links := rfl
@[simp] theorem Block.bump_ring (b : Block) (f : Field) : (b.bump f).ring = b.ring := rfl
@[simp] theorem Block.bump_prec (b : Block) (f : Field) : (b.bump f).prec = b.prec := rfl
@[simp] theorem Block.bump_loops (b : Block) (f : Field) : (b.bump f).loops = b.loops := rfl
@[simp] theorem Block.bump_lynx (b : Block) (f : Field) : (b.bump f).lynx = b.lynx := rfl
@[simp] theorem Block.bump_evb (b : Block) (f : Field) : (b.bump f).evb = b.evb := rfl
@[simp] theorem Block.bump_egq (b : Block) (f : Field) : (b.bump f).egq = b.egq := rfl
@[simp] theorem Block.bump_master (b : Block) (f : Field) : (b.bump f).master = b.master := rfl
@[simp] theorem Block.bump_irq (b : Block) (f : Field) : (b.bump f).irq = b.irq := rfl
@[simp] theorem Block.bump_access (b : Block) (f : Field) : (b.bump f).access = b.access := rfl
@[simp] theorem Block.bump_pwr (b : Block) (f : Field) : (b.bump f).pwr = b.pwr := rfl
@[simp] theorem Block.bump_boot (b : Block) (f : Field) : (b.bump f).boot = b.boot := rfl
@[simp] theorem Block.bump_ecc (b : Block) (f : Field) : (b.bump f).ecc = b.ecc := rfl
@[simp] theorem Block.bump_chk (b : Block) (f : Field) : (b.bump f).chk = b.chk := rfl
@[simp] theorem Block.bump_jtag (b : Block) (f : Field) : (b.bump f).jtag = b.jtag := rfl
@[simp] theorem Block.bump_wear (b : Block) (f : Field) : (b.bump f).wear = b.wear := rfl
@[simp] theorem Block.bump_tst (b : Block) (f : Field) : (b.bump f).tst = b.tst := rfl
@[simp] theorem Block.bump_pair (b : Block) (f : Field) : (b.bump f).pair = b.pair := rfl
@[simp] theorem Block.bump_posted (b : Block) (f : Field) : (b.bump f).posted = b.posted := rfl
@[simp] theorem Block.bump_wire (b : Block) (f : Field) : (b.bump f).wire = b.wire := rfl
@[simp] theorem Block.bump_free (b : Block) (f : Field) : (b.bump f).free = b.free := rfl

/-! ### Block.put64 -/

@[simp] theorem Block.put64_dram (b : Block) (f g : Field) (v : Nat) : (b.put64 f g v).dram = b.dram := rfl
@[simp] theorem Block.put64_poison (b : Block) (f g : Field) (v : Nat) : (b.put64 f g v).poison = b.poison := rfl
@[simp] theorem Block.put64_phase (b : Block) (f g : Field) (v : Nat) : (b.put64 f g v).phase = b.phase := rfl
@[simp] theorem Block.put64_reseat (b : Block) (f g : Field) (v : Nat) : (b.put64 f g v).reseat = b.reseat := rfl
@[simp] theorem Block.put64_tick (b : Block) (f g : Field) (v : Nat) : (b.put64 f g v).tick = b.tick := rfl
@[simp] theorem Block.put64_epochs (b : Block) (f g : Field) (v : Nat) : (b.put64 f g v).epochs = b.epochs := rfl
@[simp] theorem Block.put64_time (b : Block) (f g : Field) (v : Nat) : (b.put64 f g v).time = b.time := rfl
@[simp] theorem Block.put64_fab (b : Block) (f g : Field) (v : Nat) : (b.put64 f g v).fab = b.fab := rfl
@[simp] theorem Block.put64_ports (b : Block) (f g : Field) (v : Nat) : (b.put64 f g v).ports = b.ports := rfl
@[simp] theorem Block.put64_fast (b : Block) (f g : Field) (v : Nat) : (b.put64 f g v).fast = b.fast := rfl
@[simp] theorem Block.put64_tdc (b : Block) (f g : Field) (v : Nat) : (b.put64 f g v).tdc = b.tdc := rfl
@[simp] theorem Block.put64_links (b : Block) (f g : Field) (v : Nat) : (b.put64 f g v).links = b.links := rfl
@[simp] theorem Block.put64_ring (b : Block) (f g : Field) (v : Nat) : (b.put64 f g v).ring = b.ring := rfl
@[simp] theorem Block.put64_prec (b : Block) (f g : Field) (v : Nat) : (b.put64 f g v).prec = b.prec := rfl
@[simp] theorem Block.put64_loops (b : Block) (f g : Field) (v : Nat) : (b.put64 f g v).loops = b.loops := rfl
@[simp] theorem Block.put64_lynx (b : Block) (f g : Field) (v : Nat) : (b.put64 f g v).lynx = b.lynx := rfl
@[simp] theorem Block.put64_evb (b : Block) (f g : Field) (v : Nat) : (b.put64 f g v).evb = b.evb := rfl
@[simp] theorem Block.put64_egq (b : Block) (f g : Field) (v : Nat) : (b.put64 f g v).egq = b.egq := rfl
@[simp] theorem Block.put64_master (b : Block) (f g : Field) (v : Nat) : (b.put64 f g v).master = b.master := rfl
@[simp] theorem Block.put64_irq (b : Block) (f g : Field) (v : Nat) : (b.put64 f g v).irq = b.irq := rfl
@[simp] theorem Block.put64_access (b : Block) (f g : Field) (v : Nat) : (b.put64 f g v).access = b.access := rfl
@[simp] theorem Block.put64_pwr (b : Block) (f g : Field) (v : Nat) : (b.put64 f g v).pwr = b.pwr := rfl
@[simp] theorem Block.put64_boot (b : Block) (f g : Field) (v : Nat) : (b.put64 f g v).boot = b.boot := rfl
@[simp] theorem Block.put64_ecc (b : Block) (f g : Field) (v : Nat) : (b.put64 f g v).ecc = b.ecc := rfl
@[simp] theorem Block.put64_chk (b : Block) (f g : Field) (v : Nat) : (b.put64 f g v).chk = b.chk := rfl
@[simp] theorem Block.put64_jtag (b : Block) (f g : Field) (v : Nat) : (b.put64 f g v).jtag = b.jtag := rfl
@[simp] theorem Block.put64_wear (b : Block) (f g : Field) (v : Nat) : (b.put64 f g v).wear = b.wear := rfl
@[simp] theorem Block.put64_tst (b : Block) (f g : Field) (v : Nat) : (b.put64 f g v).tst = b.tst := rfl
@[simp] theorem Block.put64_pair (b : Block) (f g : Field) (v : Nat) : (b.put64 f g v).pair = b.pair := rfl
@[simp] theorem Block.put64_posted (b : Block) (f g : Field) (v : Nat) : (b.put64 f g v).posted = b.posted := rfl
@[simp] theorem Block.put64_wire (b : Block) (f g : Field) (v : Nat) : (b.put64 f g v).wire = b.wire := rfl
@[simp] theorem Block.put64_free (b : Block) (f g : Field) (v : Nat) : (b.put64 f g v).free = b.free := rfl

/-! ### Block.bump64 -/

@[simp] theorem Block.bump64_dram (b : Block) (f g : Field) (v : Nat) : (b.bump64 f g v).dram = b.dram := rfl
@[simp] theorem Block.bump64_poison (b : Block) (f g : Field) (v : Nat) : (b.bump64 f g v).poison = b.poison := rfl
@[simp] theorem Block.bump64_phase (b : Block) (f g : Field) (v : Nat) : (b.bump64 f g v).phase = b.phase := rfl
@[simp] theorem Block.bump64_reseat (b : Block) (f g : Field) (v : Nat) : (b.bump64 f g v).reseat = b.reseat := rfl
@[simp] theorem Block.bump64_tick (b : Block) (f g : Field) (v : Nat) : (b.bump64 f g v).tick = b.tick := rfl
@[simp] theorem Block.bump64_epochs (b : Block) (f g : Field) (v : Nat) : (b.bump64 f g v).epochs = b.epochs := rfl
@[simp] theorem Block.bump64_time (b : Block) (f g : Field) (v : Nat) : (b.bump64 f g v).time = b.time := rfl
@[simp] theorem Block.bump64_fab (b : Block) (f g : Field) (v : Nat) : (b.bump64 f g v).fab = b.fab := rfl
@[simp] theorem Block.bump64_ports (b : Block) (f g : Field) (v : Nat) : (b.bump64 f g v).ports = b.ports := rfl
@[simp] theorem Block.bump64_fast (b : Block) (f g : Field) (v : Nat) : (b.bump64 f g v).fast = b.fast := rfl
@[simp] theorem Block.bump64_tdc (b : Block) (f g : Field) (v : Nat) : (b.bump64 f g v).tdc = b.tdc := rfl
@[simp] theorem Block.bump64_links (b : Block) (f g : Field) (v : Nat) : (b.bump64 f g v).links = b.links := rfl
@[simp] theorem Block.bump64_ring (b : Block) (f g : Field) (v : Nat) : (b.bump64 f g v).ring = b.ring := rfl
@[simp] theorem Block.bump64_prec (b : Block) (f g : Field) (v : Nat) : (b.bump64 f g v).prec = b.prec := rfl
@[simp] theorem Block.bump64_loops (b : Block) (f g : Field) (v : Nat) : (b.bump64 f g v).loops = b.loops := rfl
@[simp] theorem Block.bump64_lynx (b : Block) (f g : Field) (v : Nat) : (b.bump64 f g v).lynx = b.lynx := rfl
@[simp] theorem Block.bump64_evb (b : Block) (f g : Field) (v : Nat) : (b.bump64 f g v).evb = b.evb := rfl
@[simp] theorem Block.bump64_egq (b : Block) (f g : Field) (v : Nat) : (b.bump64 f g v).egq = b.egq := rfl
@[simp] theorem Block.bump64_master (b : Block) (f g : Field) (v : Nat) : (b.bump64 f g v).master = b.master := rfl
@[simp] theorem Block.bump64_irq (b : Block) (f g : Field) (v : Nat) : (b.bump64 f g v).irq = b.irq := rfl
@[simp] theorem Block.bump64_access (b : Block) (f g : Field) (v : Nat) : (b.bump64 f g v).access = b.access := rfl
@[simp] theorem Block.bump64_pwr (b : Block) (f g : Field) (v : Nat) : (b.bump64 f g v).pwr = b.pwr := rfl
@[simp] theorem Block.bump64_boot (b : Block) (f g : Field) (v : Nat) : (b.bump64 f g v).boot = b.boot := rfl
@[simp] theorem Block.bump64_ecc (b : Block) (f g : Field) (v : Nat) : (b.bump64 f g v).ecc = b.ecc := rfl
@[simp] theorem Block.bump64_chk (b : Block) (f g : Field) (v : Nat) : (b.bump64 f g v).chk = b.chk := rfl
@[simp] theorem Block.bump64_jtag (b : Block) (f g : Field) (v : Nat) : (b.bump64 f g v).jtag = b.jtag := rfl
@[simp] theorem Block.bump64_wear (b : Block) (f g : Field) (v : Nat) : (b.bump64 f g v).wear = b.wear := rfl
@[simp] theorem Block.bump64_tst (b : Block) (f g : Field) (v : Nat) : (b.bump64 f g v).tst = b.tst := rfl
@[simp] theorem Block.bump64_pair (b : Block) (f g : Field) (v : Nat) : (b.bump64 f g v).pair = b.pair := rfl
@[simp] theorem Block.bump64_posted (b : Block) (f g : Field) (v : Nat) : (b.bump64 f g v).posted = b.posted := rfl
@[simp] theorem Block.bump64_wire (b : Block) (f g : Field) (v : Nat) : (b.bump64 f g v).wire = b.wire := rfl
@[simp] theorem Block.bump64_free (b : Block) (f g : Field) (v : Nat) : (b.bump64 f g v).free = b.free := rfl

/-! ### Block.mark -/

@[simp] theorem Block.mark_regs (b : Block) (a : Nat) : (b.mark a).regs = b.regs := rfl
@[simp] theorem Block.mark_dram (b : Block) (a : Nat) : (b.mark a).dram = b.dram := rfl
@[simp] theorem Block.mark_phase (b : Block) (a : Nat) : (b.mark a).phase = b.phase := rfl
@[simp] theorem Block.mark_reseat (b : Block) (a : Nat) : (b.mark a).reseat = b.reseat := rfl
@[simp] theorem Block.mark_tick (b : Block) (a : Nat) : (b.mark a).tick = b.tick := rfl
@[simp] theorem Block.mark_epochs (b : Block) (a : Nat) : (b.mark a).epochs = b.epochs := rfl
@[simp] theorem Block.mark_time (b : Block) (a : Nat) : (b.mark a).time = b.time := rfl
@[simp] theorem Block.mark_fab (b : Block) (a : Nat) : (b.mark a).fab = b.fab := rfl
@[simp] theorem Block.mark_ports (b : Block) (a : Nat) : (b.mark a).ports = b.ports := rfl
@[simp] theorem Block.mark_fast (b : Block) (a : Nat) : (b.mark a).fast = b.fast := rfl
@[simp] theorem Block.mark_tdc (b : Block) (a : Nat) : (b.mark a).tdc = b.tdc := rfl
@[simp] theorem Block.mark_links (b : Block) (a : Nat) : (b.mark a).links = b.links := rfl
@[simp] theorem Block.mark_ring (b : Block) (a : Nat) : (b.mark a).ring = b.ring := rfl
@[simp] theorem Block.mark_prec (b : Block) (a : Nat) : (b.mark a).prec = b.prec := rfl
@[simp] theorem Block.mark_loops (b : Block) (a : Nat) : (b.mark a).loops = b.loops := rfl
@[simp] theorem Block.mark_lynx (b : Block) (a : Nat) : (b.mark a).lynx = b.lynx := rfl
@[simp] theorem Block.mark_evb (b : Block) (a : Nat) : (b.mark a).evb = b.evb := rfl
@[simp] theorem Block.mark_egq (b : Block) (a : Nat) : (b.mark a).egq = b.egq := rfl
@[simp] theorem Block.mark_master (b : Block) (a : Nat) : (b.mark a).master = b.master := rfl
@[simp] theorem Block.mark_irq (b : Block) (a : Nat) : (b.mark a).irq = b.irq := rfl
@[simp] theorem Block.mark_access (b : Block) (a : Nat) : (b.mark a).access = b.access := rfl
@[simp] theorem Block.mark_pwr (b : Block) (a : Nat) : (b.mark a).pwr = b.pwr := rfl
@[simp] theorem Block.mark_boot (b : Block) (a : Nat) : (b.mark a).boot = b.boot := rfl
@[simp] theorem Block.mark_ecc (b : Block) (a : Nat) : (b.mark a).ecc = b.ecc := rfl
@[simp] theorem Block.mark_chk (b : Block) (a : Nat) : (b.mark a).chk = b.chk := rfl
@[simp] theorem Block.mark_jtag (b : Block) (a : Nat) : (b.mark a).jtag = b.jtag := rfl
@[simp] theorem Block.mark_wear (b : Block) (a : Nat) : (b.mark a).wear = b.wear := rfl
@[simp] theorem Block.mark_tst (b : Block) (a : Nat) : (b.mark a).tst = b.tst := rfl
@[simp] theorem Block.mark_pair (b : Block) (a : Nat) : (b.mark a).pair = b.pair := rfl
@[simp] theorem Block.mark_posted (b : Block) (a : Nat) : (b.mark a).posted = b.posted := rfl
@[simp] theorem Block.mark_wire (b : Block) (a : Nat) : (b.mark a).wire = b.wire := rfl
@[simp] theorem Block.mark_free (b : Block) (a : Nat) : (b.mark a).free = b.free := rfl

/-! ### Block.post -/

@[simp] theorem Block.post_regs (b : Block) (d : Dest) (k : Nat) (m : Msg) : (b.post d k m).regs = b.regs := rfl
@[simp] theorem Block.post_dram (b : Block) (d : Dest) (k : Nat) (m : Msg) : (b.post d k m).dram = b.dram := rfl
@[simp] theorem Block.post_poison (b : Block) (d : Dest) (k : Nat) (m : Msg) : (b.post d k m).poison = b.poison := rfl
@[simp] theorem Block.post_phase (b : Block) (d : Dest) (k : Nat) (m : Msg) : (b.post d k m).phase = b.phase := rfl
@[simp] theorem Block.post_reseat (b : Block) (d : Dest) (k : Nat) (m : Msg) : (b.post d k m).reseat = b.reseat := rfl
@[simp] theorem Block.post_tick (b : Block) (d : Dest) (k : Nat) (m : Msg) : (b.post d k m).tick = b.tick := rfl
@[simp] theorem Block.post_epochs (b : Block) (d : Dest) (k : Nat) (m : Msg) : (b.post d k m).epochs = b.epochs := rfl
@[simp] theorem Block.post_time (b : Block) (d : Dest) (k : Nat) (m : Msg) : (b.post d k m).time = b.time := rfl
@[simp] theorem Block.post_fab (b : Block) (d : Dest) (k : Nat) (m : Msg) : (b.post d k m).fab = b.fab := rfl
@[simp] theorem Block.post_ports (b : Block) (d : Dest) (k : Nat) (m : Msg) : (b.post d k m).ports = b.ports := rfl
@[simp] theorem Block.post_fast (b : Block) (d : Dest) (k : Nat) (m : Msg) : (b.post d k m).fast = b.fast := rfl
@[simp] theorem Block.post_tdc (b : Block) (d : Dest) (k : Nat) (m : Msg) : (b.post d k m).tdc = b.tdc := rfl
@[simp] theorem Block.post_links (b : Block) (d : Dest) (k : Nat) (m : Msg) : (b.post d k m).links = b.links := rfl
@[simp] theorem Block.post_ring (b : Block) (d : Dest) (k : Nat) (m : Msg) : (b.post d k m).ring = b.ring := rfl
@[simp] theorem Block.post_prec (b : Block) (d : Dest) (k : Nat) (m : Msg) : (b.post d k m).prec = b.prec := rfl
@[simp] theorem Block.post_loops (b : Block) (d : Dest) (k : Nat) (m : Msg) : (b.post d k m).loops = b.loops := rfl
@[simp] theorem Block.post_lynx (b : Block) (d : Dest) (k : Nat) (m : Msg) : (b.post d k m).lynx = b.lynx := rfl
@[simp] theorem Block.post_evb (b : Block) (d : Dest) (k : Nat) (m : Msg) : (b.post d k m).evb = b.evb := rfl
@[simp] theorem Block.post_egq (b : Block) (d : Dest) (k : Nat) (m : Msg) : (b.post d k m).egq = b.egq := rfl
@[simp] theorem Block.post_master (b : Block) (d : Dest) (k : Nat) (m : Msg) : (b.post d k m).master = b.master := rfl
@[simp] theorem Block.post_irq (b : Block) (d : Dest) (k : Nat) (m : Msg) : (b.post d k m).irq = b.irq := rfl
@[simp] theorem Block.post_access (b : Block) (d : Dest) (k : Nat) (m : Msg) : (b.post d k m).access = b.access := rfl
@[simp] theorem Block.post_pwr (b : Block) (d : Dest) (k : Nat) (m : Msg) : (b.post d k m).pwr = b.pwr := rfl
@[simp] theorem Block.post_boot (b : Block) (d : Dest) (k : Nat) (m : Msg) : (b.post d k m).boot = b.boot := rfl
@[simp] theorem Block.post_ecc (b : Block) (d : Dest) (k : Nat) (m : Msg) : (b.post d k m).ecc = b.ecc := rfl
@[simp] theorem Block.post_chk (b : Block) (d : Dest) (k : Nat) (m : Msg) : (b.post d k m).chk = b.chk := rfl
@[simp] theorem Block.post_jtag (b : Block) (d : Dest) (k : Nat) (m : Msg) : (b.post d k m).jtag = b.jtag := rfl
@[simp] theorem Block.post_wear (b : Block) (d : Dest) (k : Nat) (m : Msg) : (b.post d k m).wear = b.wear := rfl
@[simp] theorem Block.post_tst (b : Block) (d : Dest) (k : Nat) (m : Msg) : (b.post d k m).tst = b.tst := rfl
@[simp] theorem Block.post_pair (b : Block) (d : Dest) (k : Nat) (m : Msg) : (b.post d k m).pair = b.pair := rfl
@[simp] theorem Block.post_wire (b : Block) (d : Dest) (k : Nat) (m : Msg) : (b.post d k m).wire = b.wire := rfl
@[simp] theorem Block.post_free (b : Block) (d : Dest) (k : Nat) (m : Msg) : (b.post d k m).free = b.free := rfl

/-! ### Block.emit -/

@[simp] theorem Block.emit_regs (b : Block) (w : Wire) : (b.emit w).regs = b.regs := rfl
@[simp] theorem Block.emit_dram (b : Block) (w : Wire) : (b.emit w).dram = b.dram := rfl
@[simp] theorem Block.emit_poison (b : Block) (w : Wire) : (b.emit w).poison = b.poison := rfl
@[simp] theorem Block.emit_phase (b : Block) (w : Wire) : (b.emit w).phase = b.phase := rfl
@[simp] theorem Block.emit_reseat (b : Block) (w : Wire) : (b.emit w).reseat = b.reseat := rfl
@[simp] theorem Block.emit_tick (b : Block) (w : Wire) : (b.emit w).tick = b.tick := rfl
@[simp] theorem Block.emit_epochs (b : Block) (w : Wire) : (b.emit w).epochs = b.epochs := rfl
@[simp] theorem Block.emit_time (b : Block) (w : Wire) : (b.emit w).time = b.time := rfl
@[simp] theorem Block.emit_fab (b : Block) (w : Wire) : (b.emit w).fab = b.fab := rfl
@[simp] theorem Block.emit_ports (b : Block) (w : Wire) : (b.emit w).ports = b.ports := rfl
@[simp] theorem Block.emit_fast (b : Block) (w : Wire) : (b.emit w).fast = b.fast := rfl
@[simp] theorem Block.emit_tdc (b : Block) (w : Wire) : (b.emit w).tdc = b.tdc := rfl
@[simp] theorem Block.emit_links (b : Block) (w : Wire) : (b.emit w).links = b.links := rfl
@[simp] theorem Block.emit_ring (b : Block) (w : Wire) : (b.emit w).ring = b.ring := rfl
@[simp] theorem Block.emit_prec (b : Block) (w : Wire) : (b.emit w).prec = b.prec := rfl
@[simp] theorem Block.emit_loops (b : Block) (w : Wire) : (b.emit w).loops = b.loops := rfl
@[simp] theorem Block.emit_lynx (b : Block) (w : Wire) : (b.emit w).lynx = b.lynx := rfl
@[simp] theorem Block.emit_evb (b : Block) (w : Wire) : (b.emit w).evb = b.evb := rfl
@[simp] theorem Block.emit_egq (b : Block) (w : Wire) : (b.emit w).egq = b.egq := rfl
@[simp] theorem Block.emit_master (b : Block) (w : Wire) : (b.emit w).master = b.master := rfl
@[simp] theorem Block.emit_irq (b : Block) (w : Wire) : (b.emit w).irq = b.irq := rfl
@[simp] theorem Block.emit_access (b : Block) (w : Wire) : (b.emit w).access = b.access := rfl
@[simp] theorem Block.emit_pwr (b : Block) (w : Wire) : (b.emit w).pwr = b.pwr := rfl
@[simp] theorem Block.emit_boot (b : Block) (w : Wire) : (b.emit w).boot = b.boot := rfl
@[simp] theorem Block.emit_ecc (b : Block) (w : Wire) : (b.emit w).ecc = b.ecc := rfl
@[simp] theorem Block.emit_chk (b : Block) (w : Wire) : (b.emit w).chk = b.chk := rfl
@[simp] theorem Block.emit_jtag (b : Block) (w : Wire) : (b.emit w).jtag = b.jtag := rfl
@[simp] theorem Block.emit_wear (b : Block) (w : Wire) : (b.emit w).wear = b.wear := rfl
@[simp] theorem Block.emit_tst (b : Block) (w : Wire) : (b.emit w).tst = b.tst := rfl
@[simp] theorem Block.emit_pair (b : Block) (w : Wire) : (b.emit w).pair = b.pair := rfl
@[simp] theorem Block.emit_posted (b : Block) (w : Wire) : (b.emit w).posted = b.posted := rfl
@[simp] theorem Block.emit_free (b : Block) (w : Wire) : (b.emit w).free = b.free := rfl

/-! ### Block.withEvb -/

@[simp] theorem Block.withEvb_regs (b : Block) (f : EvbSt → EvbSt) : (b.withEvb f).regs = b.regs := rfl
@[simp] theorem Block.withEvb_dram (b : Block) (f : EvbSt → EvbSt) : (b.withEvb f).dram = b.dram := rfl
@[simp] theorem Block.withEvb_poison (b : Block) (f : EvbSt → EvbSt) : (b.withEvb f).poison = b.poison := rfl
@[simp] theorem Block.withEvb_phase (b : Block) (f : EvbSt → EvbSt) : (b.withEvb f).phase = b.phase := rfl
@[simp] theorem Block.withEvb_reseat (b : Block) (f : EvbSt → EvbSt) : (b.withEvb f).reseat = b.reseat := rfl
@[simp] theorem Block.withEvb_tick (b : Block) (f : EvbSt → EvbSt) : (b.withEvb f).tick = b.tick := rfl
@[simp] theorem Block.withEvb_epochs (b : Block) (f : EvbSt → EvbSt) : (b.withEvb f).epochs = b.epochs := rfl
@[simp] theorem Block.withEvb_time (b : Block) (f : EvbSt → EvbSt) : (b.withEvb f).time = b.time := rfl
@[simp] theorem Block.withEvb_fab (b : Block) (f : EvbSt → EvbSt) : (b.withEvb f).fab = b.fab := rfl
@[simp] theorem Block.withEvb_ports (b : Block) (f : EvbSt → EvbSt) : (b.withEvb f).ports = b.ports := rfl
@[simp] theorem Block.withEvb_fast (b : Block) (f : EvbSt → EvbSt) : (b.withEvb f).fast = b.fast := rfl
@[simp] theorem Block.withEvb_tdc (b : Block) (f : EvbSt → EvbSt) : (b.withEvb f).tdc = b.tdc := rfl
@[simp] theorem Block.withEvb_links (b : Block) (f : EvbSt → EvbSt) : (b.withEvb f).links = b.links := rfl
@[simp] theorem Block.withEvb_ring (b : Block) (f : EvbSt → EvbSt) : (b.withEvb f).ring = b.ring := rfl
@[simp] theorem Block.withEvb_prec (b : Block) (f : EvbSt → EvbSt) : (b.withEvb f).prec = b.prec := rfl
@[simp] theorem Block.withEvb_loops (b : Block) (f : EvbSt → EvbSt) : (b.withEvb f).loops = b.loops := rfl
@[simp] theorem Block.withEvb_lynx (b : Block) (f : EvbSt → EvbSt) : (b.withEvb f).lynx = b.lynx := rfl
@[simp] theorem Block.withEvb_egq (b : Block) (f : EvbSt → EvbSt) : (b.withEvb f).egq = b.egq := rfl
@[simp] theorem Block.withEvb_master (b : Block) (f : EvbSt → EvbSt) : (b.withEvb f).master = b.master := rfl
@[simp] theorem Block.withEvb_irq (b : Block) (f : EvbSt → EvbSt) : (b.withEvb f).irq = b.irq := rfl
@[simp] theorem Block.withEvb_access (b : Block) (f : EvbSt → EvbSt) : (b.withEvb f).access = b.access := rfl
@[simp] theorem Block.withEvb_pwr (b : Block) (f : EvbSt → EvbSt) : (b.withEvb f).pwr = b.pwr := rfl
@[simp] theorem Block.withEvb_boot (b : Block) (f : EvbSt → EvbSt) : (b.withEvb f).boot = b.boot := rfl
@[simp] theorem Block.withEvb_ecc (b : Block) (f : EvbSt → EvbSt) : (b.withEvb f).ecc = b.ecc := rfl
@[simp] theorem Block.withEvb_chk (b : Block) (f : EvbSt → EvbSt) : (b.withEvb f).chk = b.chk := rfl
@[simp] theorem Block.withEvb_jtag (b : Block) (f : EvbSt → EvbSt) : (b.withEvb f).jtag = b.jtag := rfl
@[simp] theorem Block.withEvb_wear (b : Block) (f : EvbSt → EvbSt) : (b.withEvb f).wear = b.wear := rfl
@[simp] theorem Block.withEvb_tst (b : Block) (f : EvbSt → EvbSt) : (b.withEvb f).tst = b.tst := rfl
@[simp] theorem Block.withEvb_pair (b : Block) (f : EvbSt → EvbSt) : (b.withEvb f).pair = b.pair := rfl
@[simp] theorem Block.withEvb_posted (b : Block) (f : EvbSt → EvbSt) : (b.withEvb f).posted = b.posted := rfl
@[simp] theorem Block.withEvb_wire (b : Block) (f : EvbSt → EvbSt) : (b.withEvb f).wire = b.wire := rfl
@[simp] theorem Block.withEvb_free (b : Block) (f : EvbSt → EvbSt) : (b.withEvb f).free = b.free := rfl

/-! ### Block.drawn -/

@[simp] theorem Block.drawn_regs (b : Block) : (b.drawn).regs = b.regs := rfl
@[simp] theorem Block.drawn_dram (b : Block) : (b.drawn).dram = b.dram := rfl
@[simp] theorem Block.drawn_poison (b : Block) : (b.drawn).poison = b.poison := rfl
@[simp] theorem Block.drawn_phase (b : Block) : (b.drawn).phase = b.phase := rfl
@[simp] theorem Block.drawn_reseat (b : Block) : (b.drawn).reseat = b.reseat := rfl
@[simp] theorem Block.drawn_tick (b : Block) : (b.drawn).tick = b.tick := rfl
@[simp] theorem Block.drawn_epochs (b : Block) : (b.drawn).epochs = b.epochs := rfl
@[simp] theorem Block.drawn_time (b : Block) : (b.drawn).time = b.time := rfl
@[simp] theorem Block.drawn_fab (b : Block) : (b.drawn).fab = b.fab := rfl
@[simp] theorem Block.drawn_ports (b : Block) : (b.drawn).ports = b.ports := rfl
@[simp] theorem Block.drawn_fast (b : Block) : (b.drawn).fast = b.fast := rfl
@[simp] theorem Block.drawn_tdc (b : Block) : (b.drawn).tdc = b.tdc := rfl
@[simp] theorem Block.drawn_links (b : Block) : (b.drawn).links = b.links := rfl
@[simp] theorem Block.drawn_ring (b : Block) : (b.drawn).ring = b.ring := rfl
@[simp] theorem Block.drawn_prec (b : Block) : (b.drawn).prec = b.prec := rfl
@[simp] theorem Block.drawn_loops (b : Block) : (b.drawn).loops = b.loops := rfl
@[simp] theorem Block.drawn_lynx (b : Block) : (b.drawn).lynx = b.lynx := rfl
@[simp] theorem Block.drawn_evb (b : Block) : (b.drawn).evb = b.evb := rfl
@[simp] theorem Block.drawn_egq (b : Block) : (b.drawn).egq = b.egq := rfl
@[simp] theorem Block.drawn_master (b : Block) : (b.drawn).master = b.master := rfl
@[simp] theorem Block.drawn_irq (b : Block) : (b.drawn).irq = b.irq := rfl
@[simp] theorem Block.drawn_access (b : Block) : (b.drawn).access = b.access := rfl
@[simp] theorem Block.drawn_pwr (b : Block) : (b.drawn).pwr = b.pwr := rfl
@[simp] theorem Block.drawn_boot (b : Block) : (b.drawn).boot = b.boot := rfl
@[simp] theorem Block.drawn_ecc (b : Block) : (b.drawn).ecc = b.ecc := rfl
@[simp] theorem Block.drawn_chk (b : Block) : (b.drawn).chk = b.chk := rfl
@[simp] theorem Block.drawn_jtag (b : Block) : (b.drawn).jtag = b.jtag := rfl
@[simp] theorem Block.drawn_wear (b : Block) : (b.drawn).wear = b.wear := rfl
@[simp] theorem Block.drawn_tst (b : Block) : (b.drawn).tst = b.tst := rfl
@[simp] theorem Block.drawn_pair (b : Block) : (b.drawn).pair = b.pair := rfl
@[simp] theorem Block.drawn_posted (b : Block) : (b.drawn).posted = b.posted := rfl
@[simp] theorem Block.drawn_wire (b : Block) : (b.drawn).wire = b.wire := rfl

/-! ### Block.setSource -/

@[simp] theorem Block.setSource_regs (b : Block) (n : Nat) (x : SrcSt) : (b.setSource n x).regs = b.regs := rfl
@[simp] theorem Block.setSource_dram (b : Block) (n : Nat) (x : SrcSt) : (b.setSource n x).dram = b.dram := rfl
@[simp] theorem Block.setSource_poison (b : Block) (n : Nat) (x : SrcSt) : (b.setSource n x).poison = b.poison := rfl
@[simp] theorem Block.setSource_phase (b : Block) (n : Nat) (x : SrcSt) : (b.setSource n x).phase = b.phase := rfl
@[simp] theorem Block.setSource_reseat (b : Block) (n : Nat) (x : SrcSt) : (b.setSource n x).reseat = b.reseat := rfl
@[simp] theorem Block.setSource_tick (b : Block) (n : Nat) (x : SrcSt) : (b.setSource n x).tick = b.tick := rfl
@[simp] theorem Block.setSource_epochs (b : Block) (n : Nat) (x : SrcSt) : (b.setSource n x).epochs = b.epochs := rfl
@[simp] theorem Block.setSource_time (b : Block) (n : Nat) (x : SrcSt) : (b.setSource n x).time = b.time := rfl
@[simp] theorem Block.setSource_fab (b : Block) (n : Nat) (x : SrcSt) : (b.setSource n x).fab = b.fab := rfl
@[simp] theorem Block.setSource_ports (b : Block) (n : Nat) (x : SrcSt) : (b.setSource n x).ports = b.ports := rfl
@[simp] theorem Block.setSource_fast (b : Block) (n : Nat) (x : SrcSt) : (b.setSource n x).fast = b.fast := rfl
@[simp] theorem Block.setSource_tdc (b : Block) (n : Nat) (x : SrcSt) : (b.setSource n x).tdc = b.tdc := rfl
@[simp] theorem Block.setSource_links (b : Block) (n : Nat) (x : SrcSt) : (b.setSource n x).links = b.links := rfl
@[simp] theorem Block.setSource_ring (b : Block) (n : Nat) (x : SrcSt) : (b.setSource n x).ring = b.ring := rfl
@[simp] theorem Block.setSource_prec (b : Block) (n : Nat) (x : SrcSt) : (b.setSource n x).prec = b.prec := rfl
@[simp] theorem Block.setSource_loops (b : Block) (n : Nat) (x : SrcSt) : (b.setSource n x).loops = b.loops := rfl
@[simp] theorem Block.setSource_lynx (b : Block) (n : Nat) (x : SrcSt) : (b.setSource n x).lynx = b.lynx := rfl
@[simp] theorem Block.setSource_evb (b : Block) (n : Nat) (x : SrcSt) : (b.setSource n x).evb = b.evb := rfl
@[simp] theorem Block.setSource_egq (b : Block) (n : Nat) (x : SrcSt) : (b.setSource n x).egq = b.egq := rfl
@[simp] theorem Block.setSource_master (b : Block) (n : Nat) (x : SrcSt) : (b.setSource n x).master = b.master := rfl
@[simp] theorem Block.setSource_access (b : Block) (n : Nat) (x : SrcSt) : (b.setSource n x).access = b.access := rfl
@[simp] theorem Block.setSource_pwr (b : Block) (n : Nat) (x : SrcSt) : (b.setSource n x).pwr = b.pwr := rfl
@[simp] theorem Block.setSource_boot (b : Block) (n : Nat) (x : SrcSt) : (b.setSource n x).boot = b.boot := rfl
@[simp] theorem Block.setSource_ecc (b : Block) (n : Nat) (x : SrcSt) : (b.setSource n x).ecc = b.ecc := rfl
@[simp] theorem Block.setSource_chk (b : Block) (n : Nat) (x : SrcSt) : (b.setSource n x).chk = b.chk := rfl
@[simp] theorem Block.setSource_jtag (b : Block) (n : Nat) (x : SrcSt) : (b.setSource n x).jtag = b.jtag := rfl
@[simp] theorem Block.setSource_wear (b : Block) (n : Nat) (x : SrcSt) : (b.setSource n x).wear = b.wear := rfl
@[simp] theorem Block.setSource_tst (b : Block) (n : Nat) (x : SrcSt) : (b.setSource n x).tst = b.tst := rfl
@[simp] theorem Block.setSource_pair (b : Block) (n : Nat) (x : SrcSt) : (b.setSource n x).pair = b.pair := rfl
@[simp] theorem Block.setSource_posted (b : Block) (n : Nat) (x : SrcSt) : (b.setSource n x).posted = b.posted := rfl
@[simp] theorem Block.setSource_wire (b : Block) (n : Nat) (x : SrcSt) : (b.setSource n x).wire = b.wire := rfl
@[simp] theorem Block.setSource_free (b : Block) (n : Nat) (x : SrcSt) : (b.setSource n x).free = b.free := rfl

/-! ### Block.raise -/

@[simp] theorem Block.raise_regs (b : Block) (n x : Nat) : (b.raise n x).regs = b.regs := rfl
@[simp] theorem Block.raise_dram (b : Block) (n x : Nat) : (b.raise n x).dram = b.dram := rfl
@[simp] theorem Block.raise_poison (b : Block) (n x : Nat) : (b.raise n x).poison = b.poison := rfl
@[simp] theorem Block.raise_phase (b : Block) (n x : Nat) : (b.raise n x).phase = b.phase := rfl
@[simp] theorem Block.raise_reseat (b : Block) (n x : Nat) : (b.raise n x).reseat = b.reseat := rfl
@[simp] theorem Block.raise_tick (b : Block) (n x : Nat) : (b.raise n x).tick = b.tick := rfl
@[simp] theorem Block.raise_epochs (b : Block) (n x : Nat) : (b.raise n x).epochs = b.epochs := rfl
@[simp] theorem Block.raise_time (b : Block) (n x : Nat) : (b.raise n x).time = b.time := rfl
@[simp] theorem Block.raise_fab (b : Block) (n x : Nat) : (b.raise n x).fab = b.fab := rfl
@[simp] theorem Block.raise_ports (b : Block) (n x : Nat) : (b.raise n x).ports = b.ports := rfl
@[simp] theorem Block.raise_fast (b : Block) (n x : Nat) : (b.raise n x).fast = b.fast := rfl
@[simp] theorem Block.raise_tdc (b : Block) (n x : Nat) : (b.raise n x).tdc = b.tdc := rfl
@[simp] theorem Block.raise_links (b : Block) (n x : Nat) : (b.raise n x).links = b.links := rfl
@[simp] theorem Block.raise_ring (b : Block) (n x : Nat) : (b.raise n x).ring = b.ring := rfl
@[simp] theorem Block.raise_prec (b : Block) (n x : Nat) : (b.raise n x).prec = b.prec := rfl
@[simp] theorem Block.raise_loops (b : Block) (n x : Nat) : (b.raise n x).loops = b.loops := rfl
@[simp] theorem Block.raise_lynx (b : Block) (n x : Nat) : (b.raise n x).lynx = b.lynx := rfl
@[simp] theorem Block.raise_evb (b : Block) (n x : Nat) : (b.raise n x).evb = b.evb := rfl
@[simp] theorem Block.raise_egq (b : Block) (n x : Nat) : (b.raise n x).egq = b.egq := rfl
@[simp] theorem Block.raise_master (b : Block) (n x : Nat) : (b.raise n x).master = b.master := rfl
@[simp] theorem Block.raise_access (b : Block) (n x : Nat) : (b.raise n x).access = b.access := rfl
@[simp] theorem Block.raise_pwr (b : Block) (n x : Nat) : (b.raise n x).pwr = b.pwr := rfl
@[simp] theorem Block.raise_boot (b : Block) (n x : Nat) : (b.raise n x).boot = b.boot := rfl
@[simp] theorem Block.raise_ecc (b : Block) (n x : Nat) : (b.raise n x).ecc = b.ecc := rfl
@[simp] theorem Block.raise_chk (b : Block) (n x : Nat) : (b.raise n x).chk = b.chk := rfl
@[simp] theorem Block.raise_jtag (b : Block) (n x : Nat) : (b.raise n x).jtag = b.jtag := rfl
@[simp] theorem Block.raise_wear (b : Block) (n x : Nat) : (b.raise n x).wear = b.wear := rfl
@[simp] theorem Block.raise_tst (b : Block) (n x : Nat) : (b.raise n x).tst = b.tst := rfl
@[simp] theorem Block.raise_pair (b : Block) (n x : Nat) : (b.raise n x).pair = b.pair := rfl
@[simp] theorem Block.raise_posted (b : Block) (n x : Nat) : (b.raise n x).posted = b.posted := rfl
@[simp] theorem Block.raise_wire (b : Block) (n x : Nat) : (b.raise n x).wire = b.wire := rfl
@[simp] theorem Block.raise_free (b : Block) (n x : Nat) : (b.raise n x).free = b.free := rfl

/-! ### Block.setLevel -/

@[simp] theorem Block.setLevel_regs (b : Block) (n : Nat) (v : Bool) (x : Nat) : (b.setLevel n v x).regs = b.regs := rfl
@[simp] theorem Block.setLevel_dram (b : Block) (n : Nat) (v : Bool) (x : Nat) : (b.setLevel n v x).dram = b.dram := rfl
@[simp] theorem Block.setLevel_poison (b : Block) (n : Nat) (v : Bool) (x : Nat) : (b.setLevel n v x).poison = b.poison := rfl
@[simp] theorem Block.setLevel_phase (b : Block) (n : Nat) (v : Bool) (x : Nat) : (b.setLevel n v x).phase = b.phase := rfl
@[simp] theorem Block.setLevel_reseat (b : Block) (n : Nat) (v : Bool) (x : Nat) : (b.setLevel n v x).reseat = b.reseat := rfl
@[simp] theorem Block.setLevel_tick (b : Block) (n : Nat) (v : Bool) (x : Nat) : (b.setLevel n v x).tick = b.tick := rfl
@[simp] theorem Block.setLevel_epochs (b : Block) (n : Nat) (v : Bool) (x : Nat) : (b.setLevel n v x).epochs = b.epochs := rfl
@[simp] theorem Block.setLevel_time (b : Block) (n : Nat) (v : Bool) (x : Nat) : (b.setLevel n v x).time = b.time := rfl
@[simp] theorem Block.setLevel_fab (b : Block) (n : Nat) (v : Bool) (x : Nat) : (b.setLevel n v x).fab = b.fab := rfl
@[simp] theorem Block.setLevel_ports (b : Block) (n : Nat) (v : Bool) (x : Nat) : (b.setLevel n v x).ports = b.ports := rfl
@[simp] theorem Block.setLevel_fast (b : Block) (n : Nat) (v : Bool) (x : Nat) : (b.setLevel n v x).fast = b.fast := rfl
@[simp] theorem Block.setLevel_tdc (b : Block) (n : Nat) (v : Bool) (x : Nat) : (b.setLevel n v x).tdc = b.tdc := rfl
@[simp] theorem Block.setLevel_links (b : Block) (n : Nat) (v : Bool) (x : Nat) : (b.setLevel n v x).links = b.links := rfl
@[simp] theorem Block.setLevel_ring (b : Block) (n : Nat) (v : Bool) (x : Nat) : (b.setLevel n v x).ring = b.ring := rfl
@[simp] theorem Block.setLevel_prec (b : Block) (n : Nat) (v : Bool) (x : Nat) : (b.setLevel n v x).prec = b.prec := rfl
@[simp] theorem Block.setLevel_loops (b : Block) (n : Nat) (v : Bool) (x : Nat) : (b.setLevel n v x).loops = b.loops := rfl
@[simp] theorem Block.setLevel_lynx (b : Block) (n : Nat) (v : Bool) (x : Nat) : (b.setLevel n v x).lynx = b.lynx := rfl
@[simp] theorem Block.setLevel_evb (b : Block) (n : Nat) (v : Bool) (x : Nat) : (b.setLevel n v x).evb = b.evb := rfl
@[simp] theorem Block.setLevel_egq (b : Block) (n : Nat) (v : Bool) (x : Nat) : (b.setLevel n v x).egq = b.egq := rfl
@[simp] theorem Block.setLevel_master (b : Block) (n : Nat) (v : Bool) (x : Nat) : (b.setLevel n v x).master = b.master := rfl
@[simp] theorem Block.setLevel_access (b : Block) (n : Nat) (v : Bool) (x : Nat) : (b.setLevel n v x).access = b.access := rfl
@[simp] theorem Block.setLevel_pwr (b : Block) (n : Nat) (v : Bool) (x : Nat) : (b.setLevel n v x).pwr = b.pwr := rfl
@[simp] theorem Block.setLevel_boot (b : Block) (n : Nat) (v : Bool) (x : Nat) : (b.setLevel n v x).boot = b.boot := rfl
@[simp] theorem Block.setLevel_ecc (b : Block) (n : Nat) (v : Bool) (x : Nat) : (b.setLevel n v x).ecc = b.ecc := rfl
@[simp] theorem Block.setLevel_chk (b : Block) (n : Nat) (v : Bool) (x : Nat) : (b.setLevel n v x).chk = b.chk := rfl
@[simp] theorem Block.setLevel_jtag (b : Block) (n : Nat) (v : Bool) (x : Nat) : (b.setLevel n v x).jtag = b.jtag := rfl
@[simp] theorem Block.setLevel_wear (b : Block) (n : Nat) (v : Bool) (x : Nat) : (b.setLevel n v x).wear = b.wear := rfl
@[simp] theorem Block.setLevel_tst (b : Block) (n : Nat) (v : Bool) (x : Nat) : (b.setLevel n v x).tst = b.tst := rfl
@[simp] theorem Block.setLevel_pair (b : Block) (n : Nat) (v : Bool) (x : Nat) : (b.setLevel n v x).pair = b.pair := rfl
@[simp] theorem Block.setLevel_posted (b : Block) (n : Nat) (v : Bool) (x : Nat) : (b.setLevel n v x).posted = b.posted := rfl
@[simp] theorem Block.setLevel_wire (b : Block) (n : Nat) (v : Bool) (x : Nat) : (b.setLevel n v x).wire = b.wire := rfl
@[simp] theorem Block.setLevel_free (b : Block) (n : Nat) (v : Bool) (x : Nat) : (b.setLevel n v x).free = b.free := rfl

/-! ### Block.put and what is read -/

/-- An update that leaves the register file alone leaves every field alone. -/
theorem Block.get_of_regs {b c : Block} (h : c.regs = b.regs) (f : Field) : c.get f = b.get f := by
  simp [Block.get, h]

@[simp] theorem Block.get_setSource (b : Block) (n : Nat) (x : SrcSt) (f : Field) : (b.setSource n x).get f = b.get f := rfl
@[simp] theorem Block.get_raise (b : Block) (n x : Nat) (f : Field) : (b.raise n x).get f = b.get f := rfl
@[simp] theorem Block.get_setLevel (b : Block) (n : Nat) (v : Bool) (x : Nat) (f : Field) : (b.setLevel n v x).get f = b.get f := rfl
@[simp] theorem Block.get_post (b : Block) (d : Dest) (k : Nat) (m : Msg) (f : Field) : (b.post d k m).get f = b.get f := rfl
@[simp] theorem Block.get_emit (b : Block) (w : Wire) (f : Field) : (b.emit w).get f = b.get f := rfl
@[simp] theorem Block.get_mark (b : Block) (a : Nat) (f : Field) : (b.mark a).get f = b.get f := rfl
@[simp] theorem Block.get_withEvb (b : Block) (g : EvbSt → EvbSt) (f : Field) : (b.withEvb g).get f = b.get f := rfl
@[simp] theorem Block.get_drawn (b : Block) (f : Field) : b.drawn.get f = b.get f := rfl

/-- A source reads as it was set; every other source as before. -/
@[simp] theorem Block.source_setSource_same (b : Block) (n : Nat) (x : SrcSt) : (b.setSource n x).source n = x := by
  simp [Block.source, Block.setSource]

theorem Block.source_setSource_other (b : Block) (n k : Nat) (x : SrcSt) (h : k ≠ n) : (b.setSource n x).source k = b.source k := by
  simp [Block.source, Block.setSource, lookupD_insertKey_other _ _ _ _ _ h]

end Sys2Proof.Machine
end

