-- ==== Sys2Proof/Laws/Access.lean ====
section
/-! SUPPORT. A write of one word that acts at once: what it does is its register's operation, and the answer. -/

namespace Sys2Proof.Machine

open Sys2Proof

theorem Block.touched_regs (b : Block) (addr : Nat) : (b.touched addr).regs = b.regs := by
  unfold Block.touched Block.touchDom
  split
  · split <;> rfl
  · rfl

theorem Block.touched_access (b : Block) (addr : Nat) : (b.touched addr).access = b.access := by
  unfold Block.touched Block.touchDom
  split
  · split <;> rfl
  · rfl

/-- An address without a power domain of its own: an access to it keeps no ACCESS vote alive. -/
theorem Block.touched_of_none (b : Block) (addr : Nat) (h : domainAt addr = none) : b.touched addr = b := by
  simp [Block.touched, h]

theorem Block.lockedBits_touched (b : Block) (who : Requester) (addr : Nat) :
    (b.touched addr).lockedBits who addr = b.lockedBits who addr := by
  simp [Block.lockedBits, Block.unlocked, Block.get_of_regs (b.touched_regs addr)]

/-- A word that lands: its register's operation on the word without its locked fields, and the status of R582. -/
theorem writeWord_of_lands {b : Block} {a : Access} {addr w : Nat} (h : b.lands a addr w = true) :
    writeWord a.who addr w b =
      (let op : RegOp := if b.allLocked_ a.who addr then fun _ _ c => (c, .ok) else regOp a.who addr
       let v := b.unlockedWord a addr w
       let r := op none v.1 (b.touched addr)
       let r := if v.2 && r.2 == .ok then
         if a.who.isWarren then (r.1.fence a.who, .accessDenied) else (r.1.bump F.SYS_TIERLOCK_CNT, .tierLocked)
         else r
       if r.2 == .ok || r.2 == .tierLocked then (r.1.rewritten addr false, r.2) else r) := by
  simp only [Block.lands, Block.admits, Bool.and_eq_true, Bool.not_eq_true', Option.isNone_iff_eq_none, beq_iff_eq] at h
  obtain ⟨⟨⟨-, ⟨hw, hap⟩, hr⟩, hwide⟩, -⟩ := h
  have hwin : windowAccess a.who addr b = none := by simp [windowAccess, hw, hap]
  have hno : (Wide.no == Wide.hi) = false := rfl
  have hnl : (Wide.no == Wide.lo) = false := rfl
  simp [writeWord, hwin, hwide, guardedWrite, hr, hno, hnl, Block.unlockedWord]

/-- A word that acts at once meets its register's operation, and nothing else. -/
theorem writeWord_of_acts {b : Block} {a : Access} {addr w : Nat} (h : b.acts a addr w = true) :
    writeWord a.who addr w b =
      (let r := regOp a.who addr none w (b.touched addr)
       if r.2 == .ok || r.2 == .tierLocked then (r.1.rewritten addr false, r.2) else r) := by
  simp only [Block.acts, Bool.and_eq_true, Bool.not_eq_true', beq_iff_eq] at h
  obtain ⟨⟨hl, ha⟩, hu⟩ := h
  simp [writeWord_of_lands hl, ha, hu]

/-- A write of one word that lands is the write of that word, and then its answer. -/
theorem submit_of_lands {b : Block} {a : Access} {addr w : Nat} (h : b.lands a addr w = true) :
    submit a (.write addr [w]) b = b.finished a addr w (writeWord a.who addr w b) := by
  simp only [Block.lands, Block.takes, Bool.and_eq_true, Bool.not_eq_true', Option.isNone_iff_eq_none] at h
  obtain ⟨⟨⟨⟨⟨⟨hs, hgap⟩, hb⟩, hst⟩, -⟩, -⟩, hm⟩ := h
  have hmust : b.mustWait a (.write addr [w]) = false := by simp [Block.mustWait, hgap, hb]
  have hone : writeAll a.who b addr [w] = ((writeWord a.who addr w b).1, (writeWord a.who addr w b).2, 1) := by
    by_cases hk : (writeWord a.who addr w b).2 = .ok <;> simp [writeAll, hk]
  have haw : b.awaitsMirror a addr [w] = false := by
    rw [Bool.and_eq_false_iff] at hm
    unfold Block.awaitsMirror
    rcases hm with hm | hm
    · simp [hm]
    · rw [hone]; simp [hm]
  simp only [submit, Block.arrive, hs, hmust, Block.take, hst, Block.perform, haw, Block.doWrite, hone, Block.finished]
  simp [List.range_succ]

/-- A write of one word that acts at once is its register's operation on the block, and then its answer. -/
theorem submit_of_acts {b : Block} {a : Access} {addr w : Nat} (h : b.acts a addr w = true) :
    submit a (.write addr [w]) b = b.answered a addr w (regOp a.who addr none w (b.touched addr)) := by
  have hl : b.lands a addr w = true := by
    simp only [Block.acts, Bool.and_eq_true] at h; exact h.1.1
  rw [submit_of_lands hl, writeWord_of_acts h]
  dsimp only [Block.answered]

end Sys2Proof.Machine
end

