-- ==== Sys2Proof/Laws/Dispatch.lean ====
section
/-! SUPPORT. Every command as an act on the hardware: what `exec` can answer, said once for all commands. -/

namespace Sys2Proof.Machine

open Sys2Proof

/-- The act of a command on the hardware. -/
def act (c : Instr) : Block → Block :=
  match c with
  | .vinValid => vinValid
  | .vinCutoff => vinCutoff
  | .rstNReset lowNs => rstNReset lowNs
  | .fillDone r => fillDone r
  | .verifyDone nvm => verifyDone nvm
  | .recoveryLoad bytes => recoveryLoad bytes
  | .configureDone cal => configureDone cal
  | .reseatComplete => reseatComplete
  | .faultReport => faultReport
  | .sysRestart a key => sysRestart a key
  | .newNonce a => newNonce a
  | .quote a => quote a
  | .confirm a => confirm a
  | .openNvm a => openNvm a
  | .closeNvm a => closeNvm a
  | .verifySlot a => verifySlot a
  | .addKey a => addKey a
  | .revokeKey a => revokeKey a
  | .debugOpen a => debugOpen a
  | .secCmdDone => secCmdDone
  | .nvmErase64k a => nvmErase64k a
  | .nvmProgram a => nvmProgram a
  | .nvmRead a => nvmRead a
  | .nvmOpDone ok => nvmOpDone ok
  | .nvmPollTimeout => nvmPollTimeout
  | .registerWrite a addr count data zeroOk => registerWrite a addr count data zeroOk
  | .rcCounterRead a addr count => rcCounterRead a addr count
  | .wideLoRead a addr count => wideLoRead a addr count
  | .wideHiRead a addr => wideHiRead a addr
  | .wideLoWrite a addr w => wideLoWrite a addr w
  | .wideHiWrite a addr w => wideHiWrite a addr w
  | .snapArm a w => snapArm a w
  | .epochBoundary => epochBoundary
  | .squirrelEvalTimer => squirrelEvalTimer
  | .powerSample mw tj => powerSample mw tj
  | .epochCommit => epochCommit
  | .gridInstantEval => gridInstantEval
  | .pinUnitEnable a u w => pinUnitEnable a u w
  | .decisionAccept viaTree m => decisionAccept viaTree m
  | .decisionReject viaTree m => decisionReject viaTree m
  | .decisionSupersede viaTree m => decisionSupersede viaTree m
  | .decisionDeadline ident => decisionDeadline ident
  | .emptyEpochDeadline => emptyEpochDeadline
  | .fragmentBuilt ident => fragmentBuilt ident
  | .primitiveRx p m => primitiveRx p m
  | .primitiveDue => primitiveDue
  | .decisionRepeat ident kind => decisionRepeat ident kind
  | .decisionAckRx m => decisionAckRx m
  | .heartbeatRx viaTree m => heartbeatRx viaTree m
  | .triggerStandbyTakeover => triggerStandbyTakeover
  | .retroRx m => retroRx m
  | .announceRx m => announceRx m
  | .fragmentDataRx m => fragmentDataRx m
  | .mergeTimeout n => mergeTimeout n
  | .fragmentAckRx m => fragmentAckRx m
  | .fragmentResend ident => fragmentResend ident
  | .fragmentAbandon ident => fragmentAbandon ident
  | .mergeIdentityExpire ident => mergeIdentityExpire ident
  | .ringItemStore => ringItemStore
  | .packJobStart => packJobStart
  | .packJobDone engine => packJobDone engine
  | .lpsDjGo a => lpsDjGo a
  | .lpsDjDone => lpsDjDone
  | .crcClaim a u => crcClaim a u
  | .crcRelease a u => crcRelease a u
  | .crcClaimTimeout u => crcClaimTimeout u
  | .crcFeed a u w => crcFeed a u w
  | .crcValWrite a u w => crcValWrite a u w
  | .crcRangeGo a u => crcRangeGo a u
  | .crcRangeAbort a u => crcRangeAbort a u
  | .crcRangeDone u => crcRangeDone u
  | .egqCfgWrite a q w => egqCfgWrite a q w
  | .egqApertureRead a q n => egqApertureRead a q n
  | .bulkWindowRead a addr n => bulkWindowRead a addr n
  | .egqMark a q => egqMark a q
  | .egqRewind a q => egqRewind a q
  | .egqRelease a q => egqRelease a q
  | .egqMarkRelease a q => egqMarkRelease a q
  | .loopExecution t slot overrun => loopExecution t slot overrun
  | .loopStall t slot m => loopStall t slot m
  | .bvrStart a t slot k => bvrStart a t slot k
  | .bvrSwitch a t slot => bvrSwitch a t slot
  | .bvrStop a t slot => bvrStop a t slot
  | .bvrForceSafe a t slot => bvrForceSafe a t slot
  | .bvrInjGo a t slot => bvrInjGo a t slot
  | .bvrInjStop a t slot => bvrInjStop a t slot
  | .bvrCapArm a t slot => bvrCapArm a t slot
  | .bvrCapStop a t slot => bvrCapStop a t slot
  | .bvrBankWrite a t slot k n w => bvrBankWrite a t slot k n w
  | .tdcEdge src ev code => tdcEdge src ev code
  | .discHoldoffEnd c => discHoldoffEnd c
  | .hitRelease => hitRelease
  | .tdcCalGo a w => tdcCalGo a w
  | .tdcCalAbort a w => tdcCalAbort a w
  | .tdcCalSourceDone src counts => tdcCalSourceDone src counts
  | .tdcCalTimeout src => tdcCalTimeout src
  | .tdcTableLoad a w => tdcTableLoad a w
  | .settleCountEnd c => settleCountEnd c
  | .precisionSampleDone n x => precisionSampleDone n x
  | .precBufferStore => precBufferStore
  | .precSettleEnd n => precSettleEnd n
  | .refSettled n internal => refSettled n internal
  | .pcvCfgInForce n => pcvCfgInForce n
  | .pchCfgWrite a n r w => pchCfgWrite a n r w
  | .excReversal n => excReversal n
  | .excDutyOn n => excDutyOn n
  | .excDutyOff n => excDutyOff n
  | .excLimitAssert n => excLimitAssert n
  | .drvLimitAssert n => drvLimitAssert n
  | .faultAssert n c => faultAssert n c
  | .faultAutoClear n c => faultAutoClear n c
  | .faultClearWrite a n w => faultClearWrite a n w
  | .odRequest a w => odRequest a w
  | .odDropTimeout slot => odDropTimeout slot
  | .odSlotFree a slot w => odSlotFree a slot w
  | .calGo a w => calGo a w
  | .calAbort a w => calAbort a w
  | .calComputeDone => calComputeDone
  | .calOfsWrite a n r w => calOfsWrite a n r w
  | .calGainWrite a n r w => calGainWrite a n r w
  | .refinPresentSet => refinPresentSet
  | .refinLost => refinLost
  | .pllLock => pllLock
  | .ovnReady => ovnReady
  | .ovnLeaveBand => ovnLeaveBand
  | .domainEpochBoundary x => domainEpochBoundary x
  | .syncSend x => syncSend x
  | .syncRx p m => syncRx p m
  | .delayReqSend x => delayReqSend x
  | .delayReqRx p m => delayReqRx p m
  | .delayRespRx p m => delayRespRx p m
  | .masterSetGo a x w => masterSetGo a x w
  | .slewEnd => slewEnd
  | .toutArm a o w => toutArm a o w
  | .toutDisarm a o w => toutDisarm a o w
  | .toutInstance o => toutInstance o
  | .toutPulseEnd o => toutPulseEnd o
  | .claimRx p m => claimRx p m
  | .claimHeld => claimHeld
  | .idRetry => idRetry
  | .pinGo a w => pinGo a w
  | .pinRx p m => pinRx p m
  | .pinNoTarget => pinNoTarget
  | .frameRx p bytes => frameRx p bytes
  | .lackRx p m => lackRx p m
  | .lackSend p => lackSend p
  | .replayTimeout p => replayTimeout p
  | .capRx p m => capRx p m
  | .advertRx p entries => advertRx p entries
  | .routeExpire d => routeExpire d
  | .nodeDepart d => nodeDepart d
  | .routePinWrite a d w => routePinWrite a d w
  | .reorderTimeout src dst mcast cls => reorderTimeout src dst mcast cls
  | .treeRx p m => treeRx p m
  | .hostCapBeacon p => hostCapBeacon p
  | .logLineSend text => logLineSend text
  | .beaconTimer p => beaconTimer p
  | .silentBeacon p => silentBeacon p
  | .signalDetect l => signalDetect l
  | .cdrLock l inverted => cdrLock l inverted
  | .blockLock l fec swapped => blockLock l fec swapped
  | .trainTimeout p => trainTimeout p
  | .lockTimeout p => lockTimeout p
  | .exchangeTimeout p => exchangeTimeout p
  | .readyRx p arg => readyRx p arg
  | .lossOfSignal l => lossOfSignal l
  | .losIdleEnd p => losIdleEnd p
  | .laneLockLost l => laneLockLost l
  | .laneRejoin p => laneRejoin p
  | .downRx p arg => downRx p arg
  | .takeoverOsRx p _ => takeoverOsRx p
  | .tkoHoldExpire p => tkoHoldExpire p
  | .lnkRetry a p => lnkRetry a p
  | .lnkKnock a p => lnkKnock a p
  | .knockDone p => knockDone p
  | .lnkRejoin a p => lnkRejoin a p
  | .lnkAdminDown a p => lnkAdminDown a p
  | .lnkTestPrbs31 a p => lnkTestPrbs31 a p
  | .lnkTestOff a p => lnkTestOff a p
  | .knockDetect l knock => knockDetect l knock
  | .voteCast a d w => voteCast a d w
  | .voteWithdraw a d w => voteWithdraw a d w
  | .voteLeaseExpire d node => voteLeaseExpire d node
  | .accessVoteExpire d => accessVoteExpire d
  | .offDomainAccess a addr => offDomainAccess a addr
  | .forceNone a d => forceNone a d
  | .forceOn a d => forceOn a d
  | .forceOff a d => forceOff a d
  | .levelForceWrite a w => levelForceWrite a w
  | .domainTransitionDone d => domainTransitionDone d
  | .levelTransitionDone => levelTransitionDone
  | .wakeTimerExpire => wakeTimerExpire
  | .thermalTrip => thermalTrip
  | .irqClaim => irqClaim
  | .irqAck a w => irqAck a w
  | .irqRaise a w => irqRaise a w
  | .irqPop a t w => irqPop a t w
  | .irqSrcWrite a src w => irqSrcWrite a src w
  | .notifyRepeat => notifyRepeat
  | .scrubStep die addr upset double pos => scrubStep die addr upset double pos
  | .eccWindowEnd r => eccWindowEnd r
  | .eccThrWrite a r w => eccThrWrite a r w
  | .mirrorAck => mirrorAck
  | .mirrorLost drop => mirrorLost drop
  | .periodicSelftest cc pass => periodicSelftest cc pass
  | .watchdogKick a => watchdogKick a
  | .watchdogExpire standby => watchdogExpire standby
  | .lockstepMismatch standby => lockstepMismatch standby
  | .coreStall standby => coreStall standby
  | .railFault standby => railFault standby
  | .pairSwitch a => pairSwitch a
  | .pairReinstate a => pairReinstate a
  | .pairRetire a => pairRetire a
  | .takeover => takeover
  | .takeoverGapEnd => takeoverGapEnd
  | .warmRebuildDone => warmRebuildDone
  | .standbyFillDone pass => standbyFillDone pass
  | .standbyCaughtUp => standbyCaughtUp
  | .standbyRegRead a => standbyRegRead a
  | .standbyWindowRead a k => standbyWindowRead a k
  | .tstArmStretch a => tstArmStretch a
  | .tstArmBackpress a => tstArmBackpress a
  | .tstArmLane a => tstArmLane a
  | .tstArmTime a => tstArmTime a
  | .tstArmMemerr a => tstArmMemerr a
  | .tstArmResidue a => tstArmResidue a
  | .tstDisarmAll a => tstDisarmAll a
  | .tstDurationEnd => tstDurationEnd
  | .tstBpToggle => tstBpToggle
  | .jtagBypass tdi => jtagBypass tdi
  | .jtagSamplePreload pins tdi => jtagSamplePreload pins tdi
  | .jtagExtest pins tdi => jtagExtest pins tdi
  | .jtagIdcode tdi => jtagIdcode tdi
  | .fastSampleInstant codes => fastSampleInstant codes
  | .hostEthernetFrameRx p bytes => hostEthernetFrameRx p bytes
  | .detectorArm => detectorArm
  | .prbsLockGained l => prbsLockGained l
  | .prbsLockLost l bits errs => prbsLockLost l bits errs
  | .mirrorLinkRestored => mirrorLinkRestored
  | .tapReset => tapReset
  | .emBudgetAccumulate tj => emBudgetAccumulate tj
  | .wearStoreUpdate => wearStoreUpdate

/-- A command whose operands are well formed answers a next state that differs in the hardware alone, by its act; any other stops. -/
theorem exec_eq_act (c : Instr) (s : State) : exec c s = onHw c.wf s (act c) := by
  cases c <;> rfl

theorem exec_of_wf {c : Instr} (h : c.wf = true) (s : State) : exec c s = .next { s with hw := act c s.hw } := by
  rw [exec_eq_act, h]; rfl

theorem exec_of_not_wf {c : Instr} (h : c.wf = false) (s : State) : exec c s = .fault .noSuchUnit := by
  rw [exec_eq_act, h]; rfl

/-! ### One command at a time -/

theorem exec_vinValid (s : State) (h : Instr.wf .vinValid = true) :
    exec .vinValid s = .next { s with hw := vinValid s.hw } := exec_of_wf h s
theorem exec_vinCutoff (s : State) (h : Instr.wf .vinCutoff = true) :
    exec .vinCutoff s = .next { s with hw := vinCutoff s.hw } := exec_of_wf h s
theorem exec_rstNReset (lowNs : Nat) (s : State) (h : Instr.wf (.rstNReset lowNs) = true) :
    exec (.rstNReset lowNs) s = .next { s with hw := rstNReset lowNs s.hw } := exec_of_wf h s
theorem exec_fillDone (r : FillResult) (s : State) (h : Instr.wf (.fillDone r) = true) :
    exec (.fillDone r) s = .next { s with hw := fillDone r s.hw } := exec_of_wf h s
theorem exec_verifyDone (nvm : Nat) (s : State) (h : Instr.wf (.verifyDone nvm) = true) :
    exec (.verifyDone nvm) s = .next { s with hw := verifyDone nvm s.hw } := exec_of_wf h s
theorem exec_recoveryLoad (bytes : List Byte) (s : State) (h : Instr.wf (.recoveryLoad bytes) = true) :
    exec (.recoveryLoad bytes) s = .next { s with hw := recoveryLoad bytes s.hw } := exec_of_wf h s
theorem exec_configureDone (cal : List (Nat × List Nat)) (s : State) (h : Instr.wf (.configureDone cal) = true) :
    exec (.configureDone cal) s = .next { s with hw := configureDone cal s.hw } := exec_of_wf h s
theorem exec_reseatComplete (s : State) (h : Instr.wf .reseatComplete = true) :
    exec .reseatComplete s = .next { s with hw := reseatComplete s.hw } := exec_of_wf h s
theorem exec_faultReport (s : State) (h : Instr.wf .faultReport = true) :
    exec .faultReport s = .next { s with hw := faultReport s.hw } := exec_of_wf h s
theorem exec_sysRestart (a : Access) (key : Word) (s : State) (h : Instr.wf (.sysRestart a key) = true) :
    exec (.sysRestart a key) s = .next { s with hw := sysRestart a key s.hw } := exec_of_wf h s
theorem exec_newNonce (a : Access) (s : State) (h : Instr.wf (.newNonce a) = true) :
    exec (.newNonce a) s = .next { s with hw := newNonce a s.hw } := exec_of_wf h s
theorem exec_quote (a : Access) (s : State) (h : Instr.wf (.quote a) = true) :
    exec (.quote a) s = .next { s with hw := quote a s.hw } := exec_of_wf h s
theorem exec_confirm (a : Access) (s : State) (h : Instr.wf (.confirm a) = true) :
    exec (.confirm a) s = .next { s with hw := confirm a s.hw } := exec_of_wf h s
theorem exec_openNvm (a : Access) (s : State) (h : Instr.wf (.openNvm a) = true) :
    exec (.openNvm a) s = .next { s with hw := openNvm a s.hw } := exec_of_wf h s
theorem exec_closeNvm (a : Access) (s : State) (h : Instr.wf (.closeNvm a) = true) :
    exec (.closeNvm a) s = .next { s with hw := closeNvm a s.hw } := exec_of_wf h s
theorem exec_verifySlot (a : Access) (s : State) (h : Instr.wf (.verifySlot a) = true) :
    exec (.verifySlot a) s = .next { s with hw := verifySlot a s.hw } := exec_of_wf h s
theorem exec_addKey (a : Access) (s : State) (h : Instr.wf (.addKey a) = true) :
    exec (.addKey a) s = .next { s with hw := addKey a s.hw } := exec_of_wf h s
theorem exec_revokeKey (a : Access) (s : State) (h : Instr.wf (.revokeKey a) = true) :
    exec (.revokeKey a) s = .next { s with hw := revokeKey a s.hw } := exec_of_wf h s
theorem exec_debugOpen (a : Access) (s : State) (h : Instr.wf (.debugOpen a) = true) :
    exec (.debugOpen a) s = .next { s with hw := debugOpen a s.hw } := exec_of_wf h s
theorem exec_secCmdDone (s : State) (h : Instr.wf .secCmdDone = true) :
    exec .secCmdDone s = .next { s with hw := secCmdDone s.hw } := exec_of_wf h s
theorem exec_nvmErase64k (a : Access) (s : State) (h : Instr.wf (.nvmErase64k a) = true) :
    exec (.nvmErase64k a) s = .next { s with hw := nvmErase64k a s.hw } := exec_of_wf h s
theorem exec_nvmProgram (a : Access) (s : State) (h : Instr.wf (.nvmProgram a) = true) :
    exec (.nvmProgram a) s = .next { s with hw := nvmProgram a s.hw } := exec_of_wf h s
theorem exec_nvmRead (a : Access) (s : State) (h : Instr.wf (.nvmRead a) = true) :
    exec (.nvmRead a) s = .next { s with hw := nvmRead a s.hw } := exec_of_wf h s
theorem exec_nvmOpDone (ok : Bool) (s : State) (h : Instr.wf (.nvmOpDone ok) = true) :
    exec (.nvmOpDone ok) s = .next { s with hw := nvmOpDone ok s.hw } := exec_of_wf h s
theorem exec_nvmPollTimeout (s : State) (h : Instr.wf .nvmPollTimeout = true) :
    exec .nvmPollTimeout s = .next { s with hw := nvmPollTimeout s.hw } := exec_of_wf h s
theorem exec_registerWrite (a : Access) (addr count : Nat) (data : List Word) (zeroOk : Bool) (s : State) (h : Instr.wf (.registerWrite a addr count data zeroOk) = true) :
    exec (.registerWrite a addr count data zeroOk) s = .next { s with hw := registerWrite a addr count data zeroOk s.hw } := exec_of_wf h s
theorem exec_rcCounterRead (a : Access) (addr count : Nat) (s : State) (h : Instr.wf (.rcCounterRead a addr count) = true) :
    exec (.rcCounterRead a addr count) s = .next { s with hw := rcCounterRead a addr count s.hw } := exec_of_wf h s
theorem exec_wideLoRead (a : Access) (addr count : Nat) (s : State) (h : Instr.wf (.wideLoRead a addr count) = true) :
    exec (.wideLoRead a addr count) s = .next { s with hw := wideLoRead a addr count s.hw } := exec_of_wf h s
theorem exec_wideHiRead (a : Access) (addr : Nat) (s : State) (h : Instr.wf (.wideHiRead a addr) = true) :
    exec (.wideHiRead a addr) s = .next { s with hw := wideHiRead a addr s.hw } := exec_of_wf h s
theorem exec_wideLoWrite (a : Access) (addr : Nat) (w : Word) (s : State) (h : Instr.wf (.wideLoWrite a addr w) = true) :
    exec (.wideLoWrite a addr w) s = .next { s with hw := wideLoWrite a addr w s.hw } := exec_of_wf h s
theorem exec_wideHiWrite (a : Access) (addr : Nat) (w : Word) (s : State) (h : Instr.wf (.wideHiWrite a addr w) = true) :
    exec (.wideHiWrite a addr w) s = .next { s with hw := wideHiWrite a addr w s.hw } := exec_of_wf h s
theorem exec_snapArm (a : Access) (w : Word) (s : State) (h : Instr.wf (.snapArm a w) = true) :
    exec (.snapArm a w) s = .next { s with hw := snapArm a w s.hw } := exec_of_wf h s
theorem exec_epochBoundary (s : State) (h : Instr.wf .epochBoundary = true) :
    exec .epochBoundary s = .next { s with hw := epochBoundary s.hw } := exec_of_wf h s
theorem exec_squirrelEvalTimer (s : State) (h : Instr.wf .squirrelEvalTimer = true) :
    exec .squirrelEvalTimer s = .next { s with hw := squirrelEvalTimer s.hw } := exec_of_wf h s
theorem exec_powerSample (mw : Nat) (tj : Int) (s : State) (h : Instr.wf (.powerSample mw tj) = true) :
    exec (.powerSample mw tj) s = .next { s with hw := powerSample mw tj s.hw } := exec_of_wf h s
theorem exec_epochCommit (s : State) (h : Instr.wf .epochCommit = true) :
    exec .epochCommit s = .next { s with hw := epochCommit s.hw } := exec_of_wf h s
theorem exec_gridInstantEval (s : State) (h : Instr.wf .gridInstantEval = true) :
    exec .gridInstantEval s = .next { s with hw := gridInstantEval s.hw } := exec_of_wf h s
theorem exec_pinUnitEnable (a : Access) (u : Nat) (w : Word) (s : State) (h : Instr.wf (.pinUnitEnable a u w) = true) :
    exec (.pinUnitEnable a u w) s = .next { s with hw := pinUnitEnable a u w s.hw } := exec_of_wf h s
theorem exec_decisionAccept (viaTree : Bool) (m : DecisionMsg) (s : State) (h : Instr.wf (.decisionAccept viaTree m) = true) :
    exec (.decisionAccept viaTree m) s = .next { s with hw := decisionAccept viaTree m s.hw } := exec_of_wf h s
theorem exec_decisionReject (viaTree : Bool) (m : DecisionMsg) (s : State) (h : Instr.wf (.decisionReject viaTree m) = true) :
    exec (.decisionReject viaTree m) s = .next { s with hw := decisionReject viaTree m s.hw } := exec_of_wf h s
theorem exec_decisionSupersede (viaTree : Bool) (m : DecisionMsg) (s : State) (h : Instr.wf (.decisionSupersede viaTree m) = true) :
    exec (.decisionSupersede viaTree m) s = .next { s with hw := decisionSupersede viaTree m s.hw } := exec_of_wf h s
theorem exec_decisionDeadline (ident : Nat) (s : State) (h : Instr.wf (.decisionDeadline ident) = true) :
    exec (.decisionDeadline ident) s = .next { s with hw := decisionDeadline ident s.hw } := exec_of_wf h s
theorem exec_emptyEpochDeadline (s : State) (h : Instr.wf .emptyEpochDeadline = true) :
    exec .emptyEpochDeadline s = .next { s with hw := emptyEpochDeadline s.hw } := exec_of_wf h s
theorem exec_fragmentBuilt (ident : Nat) (s : State) (h : Instr.wf (.fragmentBuilt ident) = true) :
    exec (.fragmentBuilt ident) s = .next { s with hw := fragmentBuilt ident s.hw } := exec_of_wf h s
theorem exec_primitiveRx (p : Nat) (m : PrimitiveMsg) (s : State) (h : Instr.wf (.primitiveRx p m) = true) :
    exec (.primitiveRx p m) s = .next { s with hw := primitiveRx p m s.hw } := exec_of_wf h s
theorem exec_primitiveDue (s : State) (h : Instr.wf .primitiveDue = true) :
    exec .primitiveDue s = .next { s with hw := primitiveDue s.hw } := exec_of_wf h s
theorem exec_decisionRepeat (ident kind : Nat) (s : State) (h : Instr.wf (.decisionRepeat ident kind) = true) :
    exec (.decisionRepeat ident kind) s = .next { s with hw := decisionRepeat ident kind s.hw } := exec_of_wf h s
theorem exec_decisionAckRx (m : DecisionAckMsg) (s : State) (h : Instr.wf (.decisionAckRx m) = true) :
    exec (.decisionAckRx m) s = .next { s with hw := decisionAckRx m s.hw } := exec_of_wf h s
theorem exec_heartbeatRx (viaTree : Bool) (m : HeartbeatMsg) (s : State) (h : Instr.wf (.heartbeatRx viaTree m) = true) :
    exec (.heartbeatRx viaTree m) s = .next { s with hw := heartbeatRx viaTree m s.hw } := exec_of_wf h s
theorem exec_triggerStandbyTakeover (s : State) (h : Instr.wf .triggerStandbyTakeover = true) :
    exec .triggerStandbyTakeover s = .next { s with hw := triggerStandbyTakeover s.hw } := exec_of_wf h s
theorem exec_retroRx (m : RetroMsg) (s : State) (h : Instr.wf (.retroRx m) = true) :
    exec (.retroRx m) s = .next { s with hw := retroRx m s.hw } := exec_of_wf h s
theorem exec_announceRx (m : AnnounceMsg) (s : State) (h : Instr.wf (.announceRx m) = true) :
    exec (.announceRx m) s = .next { s with hw := announceRx m s.hw } := exec_of_wf h s
theorem exec_fragmentDataRx (m : DataMsg) (s : State) (h : Instr.wf (.fragmentDataRx m) = true) :
    exec (.fragmentDataRx m) s = .next { s with hw := fragmentDataRx m s.hw } := exec_of_wf h s
theorem exec_mergeTimeout (n : Nat) (s : State) (h : Instr.wf (.mergeTimeout n) = true) :
    exec (.mergeTimeout n) s = .next { s with hw := mergeTimeout n s.hw } := exec_of_wf h s
theorem exec_fragmentAckRx (m : FragAckMsg) (s : State) (h : Instr.wf (.fragmentAckRx m) = true) :
    exec (.fragmentAckRx m) s = .next { s with hw := fragmentAckRx m s.hw } := exec_of_wf h s
theorem exec_fragmentResend (ident : Nat) (s : State) (h : Instr.wf (.fragmentResend ident) = true) :
    exec (.fragmentResend ident) s = .next { s with hw := fragmentResend ident s.hw } := exec_of_wf h s
theorem exec_fragmentAbandon (ident : Nat) (s : State) (h : Instr.wf (.fragmentAbandon ident) = true) :
    exec (.fragmentAbandon ident) s = .next { s with hw := fragmentAbandon ident s.hw } := exec_of_wf h s
theorem exec_mergeIdentityExpire (ident : Nat) (s : State) (h : Instr.wf (.mergeIdentityExpire ident) = true) :
    exec (.mergeIdentityExpire ident) s = .next { s with hw := mergeIdentityExpire ident s.hw } := exec_of_wf h s
theorem exec_ringItemStore (s : State) (h : Instr.wf .ringItemStore = true) :
    exec .ringItemStore s = .next { s with hw := ringItemStore s.hw } := exec_of_wf h s
theorem exec_packJobStart (s : State) (h : Instr.wf .packJobStart = true) :
    exec .packJobStart s = .next { s with hw := packJobStart s.hw } := exec_of_wf h s
theorem exec_packJobDone (engine : Nat) (s : State) (h : Instr.wf (.packJobDone engine) = true) :
    exec (.packJobDone engine) s = .next { s with hw := packJobDone engine s.hw } := exec_of_wf h s
theorem exec_lpsDjGo (a : Access) (s : State) (h : Instr.wf (.lpsDjGo a) = true) :
    exec (.lpsDjGo a) s = .next { s with hw := lpsDjGo a s.hw } := exec_of_wf h s
theorem exec_lpsDjDone (s : State) (h : Instr.wf .lpsDjDone = true) :
    exec .lpsDjDone s = .next { s with hw := lpsDjDone s.hw } := exec_of_wf h s
theorem exec_crcClaim (a : Access) (u : Nat) (s : State) (h : Instr.wf (.crcClaim a u) = true) :
    exec (.crcClaim a u) s = .next { s with hw := crcClaim a u s.hw } := exec_of_wf h s
theorem exec_crcRelease (a : Access) (u : Nat) (s : State) (h : Instr.wf (.crcRelease a u) = true) :
    exec (.crcRelease a u) s = .next { s with hw := crcRelease a u s.hw } := exec_of_wf h s
theorem exec_crcClaimTimeout (u : Nat) (s : State) (h : Instr.wf (.crcClaimTimeout u) = true) :
    exec (.crcClaimTimeout u) s = .next { s with hw := crcClaimTimeout u s.hw } := exec_of_wf h s
theorem exec_crcFeed (a : Access) (u : Nat) (w : Word) (s : State) (h : Instr.wf (.crcFeed a u w) = true) :
    exec (.crcFeed a u w) s = .next { s with hw := crcFeed a u w s.hw } := exec_of_wf h s
theorem exec_crcValWrite (a : Access) (u : Nat) (w : Word) (s : State) (h : Instr.wf (.crcValWrite a u w) = true) :
    exec (.crcValWrite a u w) s = .next { s with hw := crcValWrite a u w s.hw } := exec_of_wf h s
theorem exec_crcRangeGo (a : Access) (u : Nat) (s : State) (h : Instr.wf (.crcRangeGo a u) = true) :
    exec (.crcRangeGo a u) s = .next { s with hw := crcRangeGo a u s.hw } := exec_of_wf h s
theorem exec_crcRangeAbort (a : Access) (u : Nat) (s : State) (h : Instr.wf (.crcRangeAbort a u) = true) :
    exec (.crcRangeAbort a u) s = .next { s with hw := crcRangeAbort a u s.hw } := exec_of_wf h s
theorem exec_crcRangeDone (u : Nat) (s : State) (h : Instr.wf (.crcRangeDone u) = true) :
    exec (.crcRangeDone u) s = .next { s with hw := crcRangeDone u s.hw } := exec_of_wf h s
theorem exec_egqCfgWrite (a : Access) (q : Nat) (w : Word) (s : State) (h : Instr.wf (.egqCfgWrite a q w) = true) :
    exec (.egqCfgWrite a q w) s = .next { s with hw := egqCfgWrite a q w s.hw } := exec_of_wf h s
theorem exec_egqApertureRead (a : Access) (q n : Nat) (s : State) (h : Instr.wf (.egqApertureRead a q n) = true) :
    exec (.egqApertureRead a q n) s = .next { s with hw := egqApertureRead a q n s.hw } := exec_of_wf h s
theorem exec_bulkWindowRead (a : Access) (addr n : Nat) (s : State) (h : Instr.wf (.bulkWindowRead a addr n) = true) :
    exec (.bulkWindowRead a addr n) s = .next { s with hw := bulkWindowRead a addr n s.hw } := exec_of_wf h s
theorem exec_egqMark (a : Access) (q : Nat) (s : State) (h : Instr.wf (.egqMark a q) = true) :
    exec (.egqMark a q) s = .next { s with hw := egqMark a q s.hw } := exec_of_wf h s
theorem exec_egqRewind (a : Access) (q : Nat) (s : State) (h : Instr.wf (.egqRewind a q) = true) :
    exec (.egqRewind a q) s = .next { s with hw := egqRewind a q s.hw } := exec_of_wf h s
theorem exec_egqRelease (a : Access) (q : Nat) (s : State) (h : Instr.wf (.egqRelease a q) = true) :
    exec (.egqRelease a q) s = .next { s with hw := egqRelease a q s.hw } := exec_of_wf h s
theorem exec_egqMarkRelease (a : Access) (q : Nat) (s : State) (h : Instr.wf (.egqMarkRelease a q) = true) :
    exec (.egqMarkRelease a q) s = .next { s with hw := egqMarkRelease a q s.hw } := exec_of_wf h s
theorem exec_loopExecution (t slot : Nat) (overrun : Bool) (s : State) (h : Instr.wf (.loopExecution t slot overrun) = true) :
    exec (.loopExecution t slot overrun) s = .next { s with hw := loopExecution t slot overrun s.hw } := exec_of_wf h s
theorem exec_loopStall (t slot m : Nat) (s : State) (h : Instr.wf (.loopStall t slot m) = true) :
    exec (.loopStall t slot m) s = .next { s with hw := loopStall t slot m s.hw } := exec_of_wf h s
theorem exec_bvrStart (a : Access) (t slot k : Nat) (s : State) (h : Instr.wf (.bvrStart a t slot k) = true) :
    exec (.bvrStart a t slot k) s = .next { s with hw := bvrStart a t slot k s.hw } := exec_of_wf h s
theorem exec_bvrSwitch (a : Access) (t slot : Nat) (s : State) (h : Instr.wf (.bvrSwitch a t slot) = true) :
    exec (.bvrSwitch a t slot) s = .next { s with hw := bvrSwitch a t slot s.hw } := exec_of_wf h s
theorem exec_bvrStop (a : Access) (t slot : Nat) (s : State) (h : Instr.wf (.bvrStop a t slot) = true) :
    exec (.bvrStop a t slot) s = .next { s with hw := bvrStop a t slot s.hw } := exec_of_wf h s
theorem exec_bvrForceSafe (a : Access) (t slot : Nat) (s : State) (h : Instr.wf (.bvrForceSafe a t slot) = true) :
    exec (.bvrForceSafe a t slot) s = .next { s with hw := bvrForceSafe a t slot s.hw } := exec_of_wf h s
theorem exec_bvrInjGo (a : Access) (t slot : Nat) (s : State) (h : Instr.wf (.bvrInjGo a t slot) = true) :
    exec (.bvrInjGo a t slot) s = .next { s with hw := bvrInjGo a t slot s.hw } := exec_of_wf h s
theorem exec_bvrInjStop (a : Access) (t slot : Nat) (s : State) (h : Instr.wf (.bvrInjStop a t slot) = true) :
    exec (.bvrInjStop a t slot) s = .next { s with hw := bvrInjStop a t slot s.hw } := exec_of_wf h s
theorem exec_bvrCapArm (a : Access) (t slot : Nat) (s : State) (h : Instr.wf (.bvrCapArm a t slot) = true) :
    exec (.bvrCapArm a t slot) s = .next { s with hw := bvrCapArm a t slot s.hw } := exec_of_wf h s
theorem exec_bvrCapStop (a : Access) (t slot : Nat) (s : State) (h : Instr.wf (.bvrCapStop a t slot) = true) :
    exec (.bvrCapStop a t slot) s = .next { s with hw := bvrCapStop a t slot s.hw } := exec_of_wf h s
theorem exec_bvrBankWrite (a : Access) (t slot k n : Nat) (w : Word) (s : State) (h : Instr.wf (.bvrBankWrite a t slot k n w) = true) :
    exec (.bvrBankWrite a t slot k n w) s = .next { s with hw := bvrBankWrite a t slot k n w s.hw } := exec_of_wf h s
theorem exec_tdcEdge (src ev code : Nat) (s : State) (h : Instr.wf (.tdcEdge src ev code) = true) :
    exec (.tdcEdge src ev code) s = .next { s with hw := tdcEdge src ev code s.hw } := exec_of_wf h s
theorem exec_discHoldoffEnd (c : Nat) (s : State) (h : Instr.wf (.discHoldoffEnd c) = true) :
    exec (.discHoldoffEnd c) s = .next { s with hw := discHoldoffEnd c s.hw } := exec_of_wf h s
theorem exec_hitRelease (s : State) (h : Instr.wf .hitRelease = true) :
    exec .hitRelease s = .next { s with hw := hitRelease s.hw } := exec_of_wf h s
theorem exec_tdcCalGo (a : Access) (w : Word) (s : State) (h : Instr.wf (.tdcCalGo a w) = true) :
    exec (.tdcCalGo a w) s = .next { s with hw := tdcCalGo a w s.hw } := exec_of_wf h s
theorem exec_tdcCalAbort (a : Access) (w : Word) (s : State) (h : Instr.wf (.tdcCalAbort a w) = true) :
    exec (.tdcCalAbort a w) s = .next { s with hw := tdcCalAbort a w s.hw } := exec_of_wf h s
theorem exec_tdcCalSourceDone (src : Nat) (counts : List Nat) (s : State) (h : Instr.wf (.tdcCalSourceDone src counts) = true) :
    exec (.tdcCalSourceDone src counts) s = .next { s with hw := tdcCalSourceDone src counts s.hw } := exec_of_wf h s
theorem exec_tdcCalTimeout (src : Nat) (s : State) (h : Instr.wf (.tdcCalTimeout src) = true) :
    exec (.tdcCalTimeout src) s = .next { s with hw := tdcCalTimeout src s.hw } := exec_of_wf h s
theorem exec_tdcTableLoad (a : Access) (w : Word) (s : State) (h : Instr.wf (.tdcTableLoad a w) = true) :
    exec (.tdcTableLoad a w) s = .next { s with hw := tdcTableLoad a w s.hw } := exec_of_wf h s
theorem exec_settleCountEnd (c : Nat) (s : State) (h : Instr.wf (.settleCountEnd c) = true) :
    exec (.settleCountEnd c) s = .next { s with hw := settleCountEnd c s.hw } := exec_of_wf h s
theorem exec_precisionSampleDone (n : Nat) (x : PrecInput) (s : State) (h : Instr.wf (.precisionSampleDone n x) = true) :
    exec (.precisionSampleDone n x) s = .next { s with hw := precisionSampleDone n x s.hw } := exec_of_wf h s
theorem exec_precBufferStore (s : State) (h : Instr.wf .precBufferStore = true) :
    exec .precBufferStore s = .next { s with hw := precBufferStore s.hw } := exec_of_wf h s
theorem exec_precSettleEnd (n : Nat) (s : State) (h : Instr.wf (.precSettleEnd n) = true) :
    exec (.precSettleEnd n) s = .next { s with hw := precSettleEnd n s.hw } := exec_of_wf h s
theorem exec_refSettled (n : Nat) (internal : Bool) (s : State) (h : Instr.wf (.refSettled n internal) = true) :
    exec (.refSettled n internal) s = .next { s with hw := refSettled n internal s.hw } := exec_of_wf h s
theorem exec_pcvCfgInForce (n : Nat) (s : State) (h : Instr.wf (.pcvCfgInForce n) = true) :
    exec (.pcvCfgInForce n) s = .next { s with hw := pcvCfgInForce n s.hw } := exec_of_wf h s
theorem exec_pchCfgWrite (a : Access) (n r : Nat) (w : Word) (s : State) (h : Instr.wf (.pchCfgWrite a n r w) = true) :
    exec (.pchCfgWrite a n r w) s = .next { s with hw := pchCfgWrite a n r w s.hw } := exec_of_wf h s
theorem exec_excReversal (n : Nat) (s : State) (h : Instr.wf (.excReversal n) = true) :
    exec (.excReversal n) s = .next { s with hw := excReversal n s.hw } := exec_of_wf h s
theorem exec_excDutyOn (n : Nat) (s : State) (h : Instr.wf (.excDutyOn n) = true) :
    exec (.excDutyOn n) s = .next { s with hw := excDutyOn n s.hw } := exec_of_wf h s
theorem exec_excDutyOff (n : Nat) (s : State) (h : Instr.wf (.excDutyOff n) = true) :
    exec (.excDutyOff n) s = .next { s with hw := excDutyOff n s.hw } := exec_of_wf h s
theorem exec_excLimitAssert (n : Nat) (s : State) (h : Instr.wf (.excLimitAssert n) = true) :
    exec (.excLimitAssert n) s = .next { s with hw := excLimitAssert n s.hw } := exec_of_wf h s
theorem exec_drvLimitAssert (n : Nat) (s : State) (h : Instr.wf (.drvLimitAssert n) = true) :
    exec (.drvLimitAssert n) s = .next { s with hw := drvLimitAssert n s.hw } := exec_of_wf h s
theorem exec_faultAssert (n c : Nat) (s : State) (h : Instr.wf (.faultAssert n c) = true) :
    exec (.faultAssert n c) s = .next { s with hw := faultAssert n c s.hw } := exec_of_wf h s
theorem exec_faultAutoClear (n c : Nat) (s : State) (h : Instr.wf (.faultAutoClear n c) = true) :
    exec (.faultAutoClear n c) s = .next { s with hw := faultAutoClear n c s.hw } := exec_of_wf h s
theorem exec_faultClearWrite (a : Access) (n : Nat) (w : Word) (s : State) (h : Instr.wf (.faultClearWrite a n w) = true) :
    exec (.faultClearWrite a n w) s = .next { s with hw := faultClearWrite a n w s.hw } := exec_of_wf h s
theorem exec_odRequest (a : Access) (w : Word) (s : State) (h : Instr.wf (.odRequest a w) = true) :
    exec (.odRequest a w) s = .next { s with hw := odRequest a w s.hw } := exec_of_wf h s
theorem exec_odDropTimeout (slot : Nat) (s : State) (h : Instr.wf (.odDropTimeout slot) = true) :
    exec (.odDropTimeout slot) s = .next { s with hw := odDropTimeout slot s.hw } := exec_of_wf h s
theorem exec_odSlotFree (a : Access) (slot : Nat) (w : Word) (s : State) (h : Instr.wf (.odSlotFree a slot w) = true) :
    exec (.odSlotFree a slot w) s = .next { s with hw := odSlotFree a slot w s.hw } := exec_of_wf h s
theorem exec_calGo (a : Access) (w : Word) (s : State) (h : Instr.wf (.calGo a w) = true) :
    exec (.calGo a w) s = .next { s with hw := calGo a w s.hw } := exec_of_wf h s
theorem exec_calAbort (a : Access) (w : Word) (s : State) (h : Instr.wf (.calAbort a w) = true) :
    exec (.calAbort a w) s = .next { s with hw := calAbort a w s.hw } := exec_of_wf h s
theorem exec_calComputeDone (s : State) (h : Instr.wf .calComputeDone = true) :
    exec .calComputeDone s = .next { s with hw := calComputeDone s.hw } := exec_of_wf h s
theorem exec_calOfsWrite (a : Access) (n r : Nat) (w : Word) (s : State) (h : Instr.wf (.calOfsWrite a n r w) = true) :
    exec (.calOfsWrite a n r w) s = .next { s with hw := calOfsWrite a n r w s.hw } := exec_of_wf h s
theorem exec_calGainWrite (a : Access) (n r : Nat) (w : Word) (s : State) (h : Instr.wf (.calGainWrite a n r w) = true) :
    exec (.calGainWrite a n r w) s = .next { s with hw := calGainWrite a n r w s.hw } := exec_of_wf h s
theorem exec_refinPresentSet (s : State) (h : Instr.wf .refinPresentSet = true) :
    exec .refinPresentSet s = .next { s with hw := refinPresentSet s.hw } := exec_of_wf h s
theorem exec_refinLost (s : State) (h : Instr.wf .refinLost = true) :
    exec .refinLost s = .next { s with hw := refinLost s.hw } := exec_of_wf h s
theorem exec_pllLock (s : State) (h : Instr.wf .pllLock = true) :
    exec .pllLock s = .next { s with hw := pllLock s.hw } := exec_of_wf h s
theorem exec_ovnReady (s : State) (h : Instr.wf .ovnReady = true) :
    exec .ovnReady s = .next { s with hw := ovnReady s.hw } := exec_of_wf h s
theorem exec_ovnLeaveBand (s : State) (h : Instr.wf .ovnLeaveBand = true) :
    exec .ovnLeaveBand s = .next { s with hw := ovnLeaveBand s.hw } := exec_of_wf h s
theorem exec_domainEpochBoundary (x : Nat) (s : State) (h : Instr.wf (.domainEpochBoundary x) = true) :
    exec (.domainEpochBoundary x) s = .next { s with hw := domainEpochBoundary x s.hw } := exec_of_wf h s
theorem exec_syncSend (x : Nat) (s : State) (h : Instr.wf (.syncSend x) = true) :
    exec (.syncSend x) s = .next { s with hw := syncSend x s.hw } := exec_of_wf h s
theorem exec_syncRx (p : Nat) (m : TimeMsg) (s : State) (h : Instr.wf (.syncRx p m) = true) :
    exec (.syncRx p m) s = .next { s with hw := syncRx p m s.hw } := exec_of_wf h s
theorem exec_delayReqSend (x : Nat) (s : State) (h : Instr.wf (.delayReqSend x) = true) :
    exec (.delayReqSend x) s = .next { s with hw := delayReqSend x s.hw } := exec_of_wf h s
theorem exec_delayReqRx (p : Nat) (m : TimeMsg) (s : State) (h : Instr.wf (.delayReqRx p m) = true) :
    exec (.delayReqRx p m) s = .next { s with hw := delayReqRx p m s.hw } := exec_of_wf h s
theorem exec_delayRespRx (p : Nat) (m : TimeMsg) (s : State) (h : Instr.wf (.delayRespRx p m) = true) :
    exec (.delayRespRx p m) s = .next { s with hw := delayRespRx p m s.hw } := exec_of_wf h s
theorem exec_masterSetGo (a : Access) (x : Nat) (w : Word) (s : State) (h : Instr.wf (.masterSetGo a x w) = true) :
    exec (.masterSetGo a x w) s = .next { s with hw := masterSetGo a x w s.hw } := exec_of_wf h s
theorem exec_slewEnd (s : State) (h : Instr.wf .slewEnd = true) :
    exec .slewEnd s = .next { s with hw := slewEnd s.hw } := exec_of_wf h s
theorem exec_toutArm (a : Access) (o : Nat) (w : Word) (s : State) (h : Instr.wf (.toutArm a o w) = true) :
    exec (.toutArm a o w) s = .next { s with hw := toutArm a o w s.hw } := exec_of_wf h s
theorem exec_toutDisarm (a : Access) (o : Nat) (w : Word) (s : State) (h : Instr.wf (.toutDisarm a o w) = true) :
    exec (.toutDisarm a o w) s = .next { s with hw := toutDisarm a o w s.hw } := exec_of_wf h s
theorem exec_toutInstance (o : Nat) (s : State) (h : Instr.wf (.toutInstance o) = true) :
    exec (.toutInstance o) s = .next { s with hw := toutInstance o s.hw } := exec_of_wf h s
theorem exec_toutPulseEnd (o : Nat) (s : State) (h : Instr.wf (.toutPulseEnd o) = true) :
    exec (.toutPulseEnd o) s = .next { s with hw := toutPulseEnd o s.hw } := exec_of_wf h s
theorem exec_claimRx (p : Nat) (m : ClaimMsg) (s : State) (h : Instr.wf (.claimRx p m) = true) :
    exec (.claimRx p m) s = .next { s with hw := claimRx p m s.hw } := exec_of_wf h s
theorem exec_claimHeld (s : State) (h : Instr.wf .claimHeld = true) :
    exec .claimHeld s = .next { s with hw := claimHeld s.hw } := exec_of_wf h s
theorem exec_idRetry (s : State) (h : Instr.wf .idRetry = true) :
    exec .idRetry s = .next { s with hw := idRetry s.hw } := exec_of_wf h s
theorem exec_pinGo (a : Access) (w : Word) (s : State) (h : Instr.wf (.pinGo a w) = true) :
    exec (.pinGo a w) s = .next { s with hw := pinGo a w s.hw } := exec_of_wf h s
theorem exec_pinRx (p : Nat) (m : PinMsg) (s : State) (h : Instr.wf (.pinRx p m) = true) :
    exec (.pinRx p m) s = .next { s with hw := pinRx p m s.hw } := exec_of_wf h s
theorem exec_pinNoTarget (s : State) (h : Instr.wf .pinNoTarget = true) :
    exec .pinNoTarget s = .next { s with hw := pinNoTarget s.hw } := exec_of_wf h s
theorem exec_frameRx (p : Nat) (bytes : List Byte) (s : State) (h : Instr.wf (.frameRx p bytes) = true) :
    exec (.frameRx p bytes) s = .next { s with hw := frameRx p bytes s.hw } := exec_of_wf h s
theorem exec_lackRx (p : Nat) (m : LackMsg) (s : State) (h : Instr.wf (.lackRx p m) = true) :
    exec (.lackRx p m) s = .next { s with hw := lackRx p m s.hw } := exec_of_wf h s
theorem exec_lackSend (p : Nat) (s : State) (h : Instr.wf (.lackSend p) = true) :
    exec (.lackSend p) s = .next { s with hw := lackSend p s.hw } := exec_of_wf h s
theorem exec_replayTimeout (p : Nat) (s : State) (h : Instr.wf (.replayTimeout p) = true) :
    exec (.replayTimeout p) s = .next { s with hw := replayTimeout p s.hw } := exec_of_wf h s
theorem exec_capRx (p : Nat) (m : CapMsg) (s : State) (h : Instr.wf (.capRx p m) = true) :
    exec (.capRx p m) s = .next { s with hw := capRx p m s.hw } := exec_of_wf h s
theorem exec_advertRx (p : Nat) (entries : List AdvertEntry) (s : State) (h : Instr.wf (.advertRx p entries) = true) :
    exec (.advertRx p entries) s = .next { s with hw := advertRx p entries s.hw } := exec_of_wf h s
theorem exec_routeExpire (d : Nat) (s : State) (h : Instr.wf (.routeExpire d) = true) :
    exec (.routeExpire d) s = .next { s with hw := routeExpire d s.hw } := exec_of_wf h s
theorem exec_nodeDepart (d : Nat) (s : State) (h : Instr.wf (.nodeDepart d) = true) :
    exec (.nodeDepart d) s = .next { s with hw := nodeDepart d s.hw } := exec_of_wf h s
theorem exec_routePinWrite (a : Access) (d : Nat) (w : Word) (s : State) (h : Instr.wf (.routePinWrite a d w) = true) :
    exec (.routePinWrite a d w) s = .next { s with hw := routePinWrite a d w s.hw } := exec_of_wf h s
theorem exec_reorderTimeout (src dst : Nat) (mcast : Bool) (cls : Nat) (s : State) (h : Instr.wf (.reorderTimeout src dst mcast cls) = true) :
    exec (.reorderTimeout src dst mcast cls) s = .next { s with hw := reorderTimeout src dst mcast cls s.hw } := exec_of_wf h s
theorem exec_treeRx (p : Nat) (m : TreeMsg) (s : State) (h : Instr.wf (.treeRx p m) = true) :
    exec (.treeRx p m) s = .next { s with hw := treeRx p m s.hw } := exec_of_wf h s
theorem exec_hostCapBeacon (p : Nat) (s : State) (h : Instr.wf (.hostCapBeacon p) = true) :
    exec (.hostCapBeacon p) s = .next { s with hw := hostCapBeacon p s.hw } := exec_of_wf h s
theorem exec_logLineSend (text : List Byte) (s : State) (h : Instr.wf (.logLineSend text) = true) :
    exec (.logLineSend text) s = .next { s with hw := logLineSend text s.hw } := exec_of_wf h s
theorem exec_beaconTimer (p : Nat) (s : State) (h : Instr.wf (.beaconTimer p) = true) :
    exec (.beaconTimer p) s = .next { s with hw := beaconTimer p s.hw } := exec_of_wf h s
theorem exec_silentBeacon (p : Nat) (s : State) (h : Instr.wf (.silentBeacon p) = true) :
    exec (.silentBeacon p) s = .next { s with hw := silentBeacon p s.hw } := exec_of_wf h s
theorem exec_signalDetect (l : Nat) (s : State) (h : Instr.wf (.signalDetect l) = true) :
    exec (.signalDetect l) s = .next { s with hw := signalDetect l s.hw } := exec_of_wf h s
theorem exec_cdrLock (l : Nat) (inverted : Bool) (s : State) (h : Instr.wf (.cdrLock l inverted) = true) :
    exec (.cdrLock l inverted) s = .next { s with hw := cdrLock l inverted s.hw } := exec_of_wf h s
theorem exec_blockLock (l : Nat) (fec swapped : Bool) (s : State) (h : Instr.wf (.blockLock l fec swapped) = true) :
    exec (.blockLock l fec swapped) s = .next { s with hw := blockLock l fec swapped s.hw } := exec_of_wf h s
theorem exec_trainTimeout (p : Nat) (s : State) (h : Instr.wf (.trainTimeout p) = true) :
    exec (.trainTimeout p) s = .next { s with hw := trainTimeout p s.hw } := exec_of_wf h s
theorem exec_lockTimeout (p : Nat) (s : State) (h : Instr.wf (.lockTimeout p) = true) :
    exec (.lockTimeout p) s = .next { s with hw := lockTimeout p s.hw } := exec_of_wf h s
theorem exec_exchangeTimeout (p : Nat) (s : State) (h : Instr.wf (.exchangeTimeout p) = true) :
    exec (.exchangeTimeout p) s = .next { s with hw := exchangeTimeout p s.hw } := exec_of_wf h s
theorem exec_readyRx (p arg : Nat) (s : State) (h : Instr.wf (.readyRx p arg) = true) :
    exec (.readyRx p arg) s = .next { s with hw := readyRx p arg s.hw } := exec_of_wf h s
theorem exec_lossOfSignal (l : Nat) (s : State) (h : Instr.wf (.lossOfSignal l) = true) :
    exec (.lossOfSignal l) s = .next { s with hw := lossOfSignal l s.hw } := exec_of_wf h s
theorem exec_losIdleEnd (p : Nat) (s : State) (h : Instr.wf (.losIdleEnd p) = true) :
    exec (.losIdleEnd p) s = .next { s with hw := losIdleEnd p s.hw } := exec_of_wf h s
theorem exec_laneLockLost (l : Nat) (s : State) (h : Instr.wf (.laneLockLost l) = true) :
    exec (.laneLockLost l) s = .next { s with hw := laneLockLost l s.hw } := exec_of_wf h s
theorem exec_laneRejoin (p : Nat) (s : State) (h : Instr.wf (.laneRejoin p) = true) :
    exec (.laneRejoin p) s = .next { s with hw := laneRejoin p s.hw } := exec_of_wf h s
theorem exec_downRx (p arg : Nat) (s : State) (h : Instr.wf (.downRx p arg) = true) :
    exec (.downRx p arg) s = .next { s with hw := downRx p arg s.hw } := exec_of_wf h s
theorem exec_takeoverOsRx (p arg : Nat) (s : State) (h : Instr.wf (.takeoverOsRx p arg) = true) :
    exec (.takeoverOsRx p arg) s = .next { s with hw := takeoverOsRx p s.hw } := exec_of_wf h s
theorem exec_tkoHoldExpire (p : Nat) (s : State) (h : Instr.wf (.tkoHoldExpire p) = true) :
    exec (.tkoHoldExpire p) s = .next { s with hw := tkoHoldExpire p s.hw } := exec_of_wf h s
theorem exec_lnkRetry (a : Access) (p : Nat) (s : State) (h : Instr.wf (.lnkRetry a p) = true) :
    exec (.lnkRetry a p) s = .next { s with hw := lnkRetry a p s.hw } := exec_of_wf h s
theorem exec_lnkKnock (a : Access) (p : Nat) (s : State) (h : Instr.wf (.lnkKnock a p) = true) :
    exec (.lnkKnock a p) s = .next { s with hw := lnkKnock a p s.hw } := exec_of_wf h s
theorem exec_knockDone (p : Nat) (s : State) (h : Instr.wf (.knockDone p) = true) :
    exec (.knockDone p) s = .next { s with hw := knockDone p s.hw } := exec_of_wf h s
theorem exec_lnkRejoin (a : Access) (p : Nat) (s : State) (h : Instr.wf (.lnkRejoin a p) = true) :
    exec (.lnkRejoin a p) s = .next { s with hw := lnkRejoin a p s.hw } := exec_of_wf h s
theorem exec_lnkAdminDown (a : Access) (p : Nat) (s : State) (h : Instr.wf (.lnkAdminDown a p) = true) :
    exec (.lnkAdminDown a p) s = .next { s with hw := lnkAdminDown a p s.hw } := exec_of_wf h s
theorem exec_lnkTestPrbs31 (a : Access) (p : Nat) (s : State) (h : Instr.wf (.lnkTestPrbs31 a p) = true) :
    exec (.lnkTestPrbs31 a p) s = .next { s with hw := lnkTestPrbs31 a p s.hw } := exec_of_wf h s
theorem exec_lnkTestOff (a : Access) (p : Nat) (s : State) (h : Instr.wf (.lnkTestOff a p) = true) :
    exec (.lnkTestOff a p) s = .next { s with hw := lnkTestOff a p s.hw } := exec_of_wf h s
theorem exec_knockDetect (l : Nat) (knock : Bool) (s : State) (h : Instr.wf (.knockDetect l knock) = true) :
    exec (.knockDetect l knock) s = .next { s with hw := knockDetect l knock s.hw } := exec_of_wf h s
theorem exec_voteCast (a : Access) (d : Nat) (w : Word) (s : State) (h : Instr.wf (.voteCast a d w) = true) :
    exec (.voteCast a d w) s = .next { s with hw := voteCast a d w s.hw } := exec_of_wf h s
theorem exec_voteWithdraw (a : Access) (d : Nat) (w : Word) (s : State) (h : Instr.wf (.voteWithdraw a d w) = true) :
    exec (.voteWithdraw a d w) s = .next { s with hw := voteWithdraw a d w s.hw } := exec_of_wf h s
theorem exec_voteLeaseExpire (d node : Nat) (s : State) (h : Instr.wf (.voteLeaseExpire d node) = true) :
    exec (.voteLeaseExpire d node) s = .next { s with hw := voteLeaseExpire d node s.hw } := exec_of_wf h s
theorem exec_accessVoteExpire (d : Nat) (s : State) (h : Instr.wf (.accessVoteExpire d) = true) :
    exec (.accessVoteExpire d) s = .next { s with hw := accessVoteExpire d s.hw } := exec_of_wf h s
theorem exec_offDomainAccess (a : Access) (addr : Nat) (s : State) (h : Instr.wf (.offDomainAccess a addr) = true) :
    exec (.offDomainAccess a addr) s = .next { s with hw := offDomainAccess a addr s.hw } := exec_of_wf h s
theorem exec_forceNone (a : Access) (d : Nat) (s : State) (h : Instr.wf (.forceNone a d) = true) :
    exec (.forceNone a d) s = .next { s with hw := forceNone a d s.hw } := exec_of_wf h s
theorem exec_forceOn (a : Access) (d : Nat) (s : State) (h : Instr.wf (.forceOn a d) = true) :
    exec (.forceOn a d) s = .next { s with hw := forceOn a d s.hw } := exec_of_wf h s
theorem exec_forceOff (a : Access) (d : Nat) (s : State) (h : Instr.wf (.forceOff a d) = true) :
    exec (.forceOff a d) s = .next { s with hw := forceOff a d s.hw } := exec_of_wf h s
theorem exec_levelForceWrite (a : Access) (w : Word) (s : State) (h : Instr.wf (.levelForceWrite a w) = true) :
    exec (.levelForceWrite a w) s = .next { s with hw := levelForceWrite a w s.hw } := exec_of_wf h s
theorem exec_domainTransitionDone (d : Nat) (s : State) (h : Instr.wf (.domainTransitionDone d) = true) :
    exec (.domainTransitionDone d) s = .next { s with hw := domainTransitionDone d s.hw } := exec_of_wf h s
theorem exec_levelTransitionDone (s : State) (h : Instr.wf .levelTransitionDone = true) :
    exec .levelTransitionDone s = .next { s with hw := levelTransitionDone s.hw } := exec_of_wf h s
theorem exec_wakeTimerExpire (s : State) (h : Instr.wf .wakeTimerExpire = true) :
    exec .wakeTimerExpire s = .next { s with hw := wakeTimerExpire s.hw } := exec_of_wf h s
theorem exec_thermalTrip (s : State) (h : Instr.wf .thermalTrip = true) :
    exec .thermalTrip s = .next { s with hw := thermalTrip s.hw } := exec_of_wf h s
theorem exec_irqClaim (s : State) (h : Instr.wf .irqClaim = true) :
    exec .irqClaim s = .next { s with hw := irqClaim s.hw } := exec_of_wf h s
theorem exec_irqAck (a : Access) (w : Word) (s : State) (h : Instr.wf (.irqAck a w) = true) :
    exec (.irqAck a w) s = .next { s with hw := irqAck a w s.hw } := exec_of_wf h s
theorem exec_irqRaise (a : Access) (w : Word) (s : State) (h : Instr.wf (.irqRaise a w) = true) :
    exec (.irqRaise a w) s = .next { s with hw := irqRaise a w s.hw } := exec_of_wf h s
theorem exec_irqPop (a : Access) (t : Nat) (w : Word) (s : State) (h : Instr.wf (.irqPop a t w) = true) :
    exec (.irqPop a t w) s = .next { s with hw := irqPop a t w s.hw } := exec_of_wf h s
theorem exec_irqSrcWrite (a : Access) (src : Nat) (w : Word) (s : State) (h : Instr.wf (.irqSrcWrite a src w) = true) :
    exec (.irqSrcWrite a src w) s = .next { s with hw := irqSrcWrite a src w s.hw } := exec_of_wf h s
theorem exec_notifyRepeat (s : State) (h : Instr.wf .notifyRepeat = true) :
    exec .notifyRepeat s = .next { s with hw := notifyRepeat s.hw } := exec_of_wf h s
theorem exec_scrubStep (die addr : Nat) (upset double : Bool) (pos : Nat) (s : State) (h : Instr.wf (.scrubStep die addr upset double pos) = true) :
    exec (.scrubStep die addr upset double pos) s = .next { s with hw := scrubStep die addr upset double pos s.hw } := exec_of_wf h s
theorem exec_eccWindowEnd (r : Nat) (s : State) (h : Instr.wf (.eccWindowEnd r) = true) :
    exec (.eccWindowEnd r) s = .next { s with hw := eccWindowEnd r s.hw } := exec_of_wf h s
theorem exec_eccThrWrite (a : Access) (r : Nat) (w : Word) (s : State) (h : Instr.wf (.eccThrWrite a r w) = true) :
    exec (.eccThrWrite a r w) s = .next { s with hw := eccThrWrite a r w s.hw } := exec_of_wf h s
theorem exec_mirrorAck (s : State) (h : Instr.wf .mirrorAck = true) :
    exec .mirrorAck s = .next { s with hw := mirrorAck s.hw } := exec_of_wf h s
theorem exec_mirrorLost (drop : Bool) (s : State) (h : Instr.wf (.mirrorLost drop) = true) :
    exec (.mirrorLost drop) s = .next { s with hw := mirrorLost drop s.hw } := exec_of_wf h s
theorem exec_periodicSelftest (cc : Nat) (pass : Bool) (s : State) (h : Instr.wf (.periodicSelftest cc pass) = true) :
    exec (.periodicSelftest cc pass) s = .next { s with hw := periodicSelftest cc pass s.hw } := exec_of_wf h s
theorem exec_watchdogKick (a : Access) (s : State) (h : Instr.wf (.watchdogKick a) = true) :
    exec (.watchdogKick a) s = .next { s with hw := watchdogKick a s.hw } := exec_of_wf h s
theorem exec_watchdogExpire (standby : Bool) (s : State) (h : Instr.wf (.watchdogExpire standby) = true) :
    exec (.watchdogExpire standby) s = .next { s with hw := watchdogExpire standby s.hw } := exec_of_wf h s
theorem exec_lockstepMismatch (standby : Bool) (s : State) (h : Instr.wf (.lockstepMismatch standby) = true) :
    exec (.lockstepMismatch standby) s = .next { s with hw := lockstepMismatch standby s.hw } := exec_of_wf h s
theorem exec_coreStall (standby : Bool) (s : State) (h : Instr.wf (.coreStall standby) = true) :
    exec (.coreStall standby) s = .next { s with hw := coreStall standby s.hw } := exec_of_wf h s
theorem exec_railFault (standby : Bool) (s : State) (h : Instr.wf (.railFault standby) = true) :
    exec (.railFault standby) s = .next { s with hw := railFault standby s.hw } := exec_of_wf h s
theorem exec_pairSwitch (a : Access) (s : State) (h : Instr.wf (.pairSwitch a) = true) :
    exec (.pairSwitch a) s = .next { s with hw := pairSwitch a s.hw } := exec_of_wf h s
theorem exec_pairReinstate (a : Access) (s : State) (h : Instr.wf (.pairReinstate a) = true) :
    exec (.pairReinstate a) s = .next { s with hw := pairReinstate a s.hw } := exec_of_wf h s
theorem exec_pairRetire (a : Access) (s : State) (h : Instr.wf (.pairRetire a) = true) :
    exec (.pairRetire a) s = .next { s with hw := pairRetire a s.hw } := exec_of_wf h s
theorem exec_takeover (s : State) (h : Instr.wf .takeover = true) :
    exec .takeover s = .next { s with hw := takeover s.hw } := exec_of_wf h s
theorem exec_takeoverGapEnd (s : State) (h : Instr.wf .takeoverGapEnd = true) :
    exec .takeoverGapEnd s = .next { s with hw := takeoverGapEnd s.hw } := exec_of_wf h s
theorem exec_warmRebuildDone (s : State) (h : Instr.wf .warmRebuildDone = true) :
    exec .warmRebuildDone s = .next { s with hw := warmRebuildDone s.hw } := exec_of_wf h s
theorem exec_standbyFillDone (pass : Bool) (s : State) (h : Instr.wf (.standbyFillDone pass) = true) :
    exec (.standbyFillDone pass) s = .next { s with hw := standbyFillDone pass s.hw } := exec_of_wf h s
theorem exec_standbyCaughtUp (s : State) (h : Instr.wf .standbyCaughtUp = true) :
    exec .standbyCaughtUp s = .next { s with hw := standbyCaughtUp s.hw } := exec_of_wf h s
theorem exec_standbyRegRead (a : Access) (s : State) (h : Instr.wf (.standbyRegRead a) = true) :
    exec (.standbyRegRead a) s = .next { s with hw := standbyRegRead a s.hw } := exec_of_wf h s
theorem exec_standbyWindowRead (a : Access) (k : Nat) (s : State) (h : Instr.wf (.standbyWindowRead a k) = true) :
    exec (.standbyWindowRead a k) s = .next { s with hw := standbyWindowRead a k s.hw } := exec_of_wf h s
theorem exec_tstArmStretch (a : Access) (s : State) (h : Instr.wf (.tstArmStretch a) = true) :
    exec (.tstArmStretch a) s = .next { s with hw := tstArmStretch a s.hw } := exec_of_wf h s
theorem exec_tstArmBackpress (a : Access) (s : State) (h : Instr.wf (.tstArmBackpress a) = true) :
    exec (.tstArmBackpress a) s = .next { s with hw := tstArmBackpress a s.hw } := exec_of_wf h s
theorem exec_tstArmLane (a : Access) (s : State) (h : Instr.wf (.tstArmLane a) = true) :
    exec (.tstArmLane a) s = .next { s with hw := tstArmLane a s.hw } := exec_of_wf h s
theorem exec_tstArmTime (a : Access) (s : State) (h : Instr.wf (.tstArmTime a) = true) :
    exec (.tstArmTime a) s = .next { s with hw := tstArmTime a s.hw } := exec_of_wf h s
theorem exec_tstArmMemerr (a : Access) (s : State) (h : Instr.wf (.tstArmMemerr a) = true) :
    exec (.tstArmMemerr a) s = .next { s with hw := tstArmMemerr a s.hw } := exec_of_wf h s
theorem exec_tstArmResidue (a : Access) (s : State) (h : Instr.wf (.tstArmResidue a) = true) :
    exec (.tstArmResidue a) s = .next { s with hw := tstArmResidue a s.hw } := exec_of_wf h s
theorem exec_tstDisarmAll (a : Access) (s : State) (h : Instr.wf (.tstDisarmAll a) = true) :
    exec (.tstDisarmAll a) s = .next { s with hw := tstDisarmAll a s.hw } := exec_of_wf h s
theorem exec_tstDurationEnd (s : State) (h : Instr.wf .tstDurationEnd = true) :
    exec .tstDurationEnd s = .next { s with hw := tstDurationEnd s.hw } := exec_of_wf h s
theorem exec_tstBpToggle (s : State) (h : Instr.wf .tstBpToggle = true) :
    exec .tstBpToggle s = .next { s with hw := tstBpToggle s.hw } := exec_of_wf h s
theorem exec_jtagBypass (tdi : List Bool) (s : State) (h : Instr.wf (.jtagBypass tdi) = true) :
    exec (.jtagBypass tdi) s = .next { s with hw := jtagBypass tdi s.hw } := exec_of_wf h s
theorem exec_jtagSamplePreload (pins tdi : List Bool) (s : State) (h : Instr.wf (.jtagSamplePreload pins tdi) = true) :
    exec (.jtagSamplePreload pins tdi) s = .next { s with hw := jtagSamplePreload pins tdi s.hw } := exec_of_wf h s
theorem exec_jtagExtest (pins tdi : List Bool) (s : State) (h : Instr.wf (.jtagExtest pins tdi) = true) :
    exec (.jtagExtest pins tdi) s = .next { s with hw := jtagExtest pins tdi s.hw } := exec_of_wf h s
theorem exec_jtagIdcode (tdi : List Bool) (s : State) (h : Instr.wf (.jtagIdcode tdi) = true) :
    exec (.jtagIdcode tdi) s = .next { s with hw := jtagIdcode tdi s.hw } := exec_of_wf h s
theorem exec_fastSampleInstant (codes : List FastCode) (s : State) (h : Instr.wf (.fastSampleInstant codes) = true) :
    exec (.fastSampleInstant codes) s = .next { s with hw := fastSampleInstant codes s.hw } := exec_of_wf h s
theorem exec_hostEthernetFrameRx (p : Nat) (bytes : List Byte) (s : State) (h : Instr.wf (.hostEthernetFrameRx p bytes) = true) :
    exec (.hostEthernetFrameRx p bytes) s = .next { s with hw := hostEthernetFrameRx p bytes s.hw } := exec_of_wf h s
theorem exec_detectorArm (s : State) (h : Instr.wf .detectorArm = true) :
    exec .detectorArm s = .next { s with hw := detectorArm s.hw } := exec_of_wf h s
theorem exec_prbsLockGained (l : Nat) (s : State) (h : Instr.wf (.prbsLockGained l) = true) :
    exec (.prbsLockGained l) s = .next { s with hw := prbsLockGained l s.hw } := exec_of_wf h s
theorem exec_prbsLockLost (l bits errs : Nat) (s : State) (h : Instr.wf (.prbsLockLost l bits errs) = true) :
    exec (.prbsLockLost l bits errs) s = .next { s with hw := prbsLockLost l bits errs s.hw } := exec_of_wf h s
theorem exec_mirrorLinkRestored (s : State) (h : Instr.wf .mirrorLinkRestored = true) :
    exec .mirrorLinkRestored s = .next { s with hw := mirrorLinkRestored s.hw } := exec_of_wf h s
theorem exec_tapReset (s : State) (h : Instr.wf .tapReset = true) :
    exec .tapReset s = .next { s with hw := tapReset s.hw } := exec_of_wf h s
theorem exec_emBudgetAccumulate (tj : List Int) (s : State) (h : Instr.wf (.emBudgetAccumulate tj) = true) :
    exec (.emBudgetAccumulate tj) s = .next { s with hw := emBudgetAccumulate tj s.hw } := exec_of_wf h s
theorem exec_wearStoreUpdate (s : State) (h : Instr.wf .wearStoreUpdate = true) :
    exec .wearStoreUpdate s = .next { s with hw := wearStoreUpdate s.hw } := exec_of_wf h s

end Sys2Proof.Machine
end

