-- ==== Sys2Proof/Laws/PerInstr.lean ====
section
/-! SUPPORT. Per command: the requester of a well-formed access command fits its place, and its TAG is one of 65 536 (R576, R579). -/

namespace Sys2Proof

/-- The access that a command is, where it is one. -/
def Instr.access : Instr → Option Access
  | .vinValid => none
  | .vinCutoff => none
  | .rstNReset _ => none
  | .fillDone _ => none
  | .verifyDone _ => none
  | .recoveryLoad _ => none
  | .configureDone _ => none
  | .reseatComplete => none
  | .faultReport => none
  | .sysRestart a _ => some a
  | .newNonce a => some a
  | .quote a => some a
  | .confirm a => some a
  | .openNvm a => some a
  | .closeNvm a => some a
  | .verifySlot a => some a
  | .addKey a => some a
  | .revokeKey a => some a
  | .debugOpen a => some a
  | .secCmdDone => none
  | .nvmErase64k a => some a
  | .nvmProgram a => some a
  | .nvmRead a => some a
  | .nvmOpDone _ => none
  | .nvmPollTimeout => none
  | .registerWrite a _ _ _ _ => some a
  | .rcCounterRead a _ _ => some a
  | .wideLoRead a _ _ => some a
  | .wideHiRead a _ => some a
  | .wideLoWrite a _ _ => some a
  | .wideHiWrite a _ _ => some a
  | .snapArm a _ => some a
  | .epochBoundary => none
  | .squirrelEvalTimer => none
  | .powerSample _ _ => none
  | .epochCommit => none
  | .gridInstantEval => none
  | .pinUnitEnable a _ _ => some a
  | .decisionAccept _ _ => none
  | .decisionReject _ _ => none
  | .decisionSupersede _ _ => none
  | .decisionDeadline _ => none
  | .emptyEpochDeadline => none
  | .fragmentBuilt _ => none
  | .primitiveRx _ _ => none
  | .primitiveDue => none
  | .decisionRepeat _ _ => none
  | .decisionAckRx _ => none
  | .heartbeatRx _ _ => none
  | .triggerStandbyTakeover => none
  | .retroRx _ => none
  | .announceRx _ => none
  | .fragmentDataRx _ => none
  | .mergeTimeout _ => none
  | .fragmentAckRx _ => none
  | .fragmentResend _ => none
  | .fragmentAbandon _ => none
  | .mergeIdentityExpire _ => none
  | .ringItemStore => none
  | .packJobStart => none
  | .packJobDone _ => none
  | .lpsDjGo a => some a
  | .lpsDjDone => none
  | .crcClaim a _ => some a
  | .crcRelease a _ => some a
  | .crcClaimTimeout _ => none
  | .crcFeed a _ _ => some a
  | .crcValWrite a _ _ => some a
  | .crcRangeGo a _ => some a
  | .crcRangeAbort a _ => some a
  | .crcRangeDone _ => none
  | .egqCfgWrite a _ _ => some a
  | .egqApertureRead a _ _ => some a
  | .bulkWindowRead a _ _ => some a
  | .egqMark a _ => some a
  | .egqRewind a _ => some a
  | .egqRelease a _ => some a
  | .egqMarkRelease a _ => some a
  | .loopExecution _ _ _ => none
  | .loopStall _ _ _ => none
  | .bvrStart a _ _ _ => some a
  | .bvrSwitch a _ _ => some a
  | .bvrStop a _ _ => some a
  | .bvrForceSafe a _ _ => some a
  | .bvrInjGo a _ _ => some a
  | .bvrInjStop a _ _ => some a
  | .bvrCapArm a _ _ => some a
  | .bvrCapStop a _ _ => some a
  | .bvrBankWrite a _ _ _ _ _ => some a
  | .tdcEdge _ _ _ => none
  | .discHoldoffEnd _ => none
  | .hitRelease => none
  | .tdcCalGo a _ => some a
  | .tdcCalAbort a _ => some a
  | .tdcCalSourceDone _ _ => none
  | .tdcCalTimeout _ => none
  | .tdcTableLoad a _ => some a
  | .settleCountEnd _ => none
  | .precisionSampleDone _ _ => none
  | .precBufferStore => none
  | .precSettleEnd _ => none
  | .refSettled _ _ => none
  | .pcvCfgInForce _ => none
  | .pchCfgWrite a _ _ _ => some a
  | .excReversal _ => none
  | .excDutyOn _ => none
  | .excDutyOff _ => none
  | .excLimitAssert _ => none
  | .drvLimitAssert _ => none
  | .faultAssert _ _ => none
  | .faultAutoClear _ _ => none
  | .faultClearWrite a _ _ => some a
  | .odRequest a _ => some a
  | .odDropTimeout _ => none
  | .odSlotFree a _ _ => some a
  | .calGo a _ => some a
  | .calAbort a _ => some a
  | .calComputeDone => none
  | .calOfsWrite a _ _ _ => some a
  | .calGainWrite a _ _ _ => some a
  | .refinPresentSet => none
  | .refinLost => none
  | .pllLock => none
  | .ovnReady => none
  | .ovnLeaveBand => none
  | .domainEpochBoundary _ => none
  | .syncSend _ => none
  | .syncRx _ _ => none
  | .delayReqSend _ => none
  | .delayReqRx _ _ => none
  | .delayRespRx _ _ => none
  | .masterSetGo a _ _ => some a
  | .slewEnd => none
  | .toutArm a _ _ => some a
  | .toutDisarm a _ _ => some a
  | .toutInstance _ => none
  | .toutPulseEnd _ => none
  | .claimRx _ _ => none
  | .claimHeld => none
  | .idRetry => none
  | .pinGo a _ => some a
  | .pinRx _ _ => none
  | .pinNoTarget => none
  | .frameRx _ _ => none
  | .lackRx _ _ => none
  | .lackSend _ => none
  | .replayTimeout _ => none
  | .capRx _ _ => none
  | .advertRx _ _ => none
  | .routeExpire _ => none
  | .nodeDepart _ => none
  | .routePinWrite a _ _ => some a
  | .reorderTimeout _ _ _ _ => none
  | .treeRx _ _ => none
  | .hostCapBeacon _ => none
  | .logLineSend _ => none
  | .beaconTimer _ => none
  | .silentBeacon _ => none
  | .signalDetect _ => none
  | .cdrLock _ _ => none
  | .blockLock _ _ _ => none
  | .trainTimeout _ => none
  | .lockTimeout _ => none
  | .exchangeTimeout _ => none
  | .readyRx _ _ => none
  | .lossOfSignal _ => none
  | .losIdleEnd _ => none
  | .laneLockLost _ => none
  | .laneRejoin _ => none
  | .downRx _ _ => none
  | .takeoverOsRx _ _ => none
  | .tkoHoldExpire _ => none
  | .lnkRetry a _ => some a
  | .lnkKnock a _ => some a
  | .knockDone _ => none
  | .lnkRejoin a _ => some a
  | .lnkAdminDown a _ => some a
  | .lnkTestPrbs31 a _ => some a
  | .lnkTestOff a _ => some a
  | .knockDetect _ _ => none
  | .voteCast a _ _ => some a
  | .voteWithdraw a _ _ => some a
  | .voteLeaseExpire _ _ => none
  | .accessVoteExpire _ => none
  | .offDomainAccess a _ => some a
  | .forceNone a _ => some a
  | .forceOn a _ => some a
  | .forceOff a _ => some a
  | .levelForceWrite a _ => some a
  | .domainTransitionDone _ => none
  | .levelTransitionDone => none
  | .wakeTimerExpire => none
  | .thermalTrip => none
  | .irqClaim => none
  | .irqAck a _ => some a
  | .irqRaise a _ => some a
  | .irqPop a _ _ => some a
  | .irqSrcWrite a _ _ => some a
  | .notifyRepeat => none
  | .scrubStep _ _ _ _ _ => none
  | .eccWindowEnd _ => none
  | .eccThrWrite a _ _ => some a
  | .mirrorAck => none
  | .mirrorLost _ => none
  | .periodicSelftest _ _ => none
  | .watchdogKick a => some a
  | .watchdogExpire _ => none
  | .lockstepMismatch _ => none
  | .coreStall _ => none
  | .railFault _ => none
  | .pairSwitch a => some a
  | .pairReinstate a => some a
  | .pairRetire a => some a
  | .takeover => none
  | .takeoverGapEnd => none
  | .warmRebuildDone => none
  | .standbyFillDone _ => none
  | .standbyCaughtUp => none
  | .standbyRegRead a => some a
  | .standbyWindowRead a _ => some a
  | .tstArmStretch a => some a
  | .tstArmBackpress a => some a
  | .tstArmLane a => some a
  | .tstArmTime a => some a
  | .tstArmMemerr a => some a
  | .tstArmResidue a => some a
  | .tstDisarmAll a => some a
  | .tstDurationEnd => none
  | .tstBpToggle => none
  | .jtagBypass _ => none
  | .jtagSamplePreload _ _ => none
  | .jtagExtest _ _ => none
  | .jtagIdcode _ => none
  | .fastSampleInstant _ => none
  | .hostEthernetFrameRx _ _ => none
  | .detectorArm => none
  | .prbsLockGained _ => none
  | .prbsLockLost _ _ _ => none
  | .mirrorLinkRestored => none
  | .tapReset => none
  | .emBudgetAccumulate _ => none
  | .wearStoreUpdate => none

namespace Laws.AccessFits

/-- The first of two conditions that hold. -/
theorem left {p q : Bool} (h : (p && q) = true) : p = true := (Bool.and_eq_true p q ▸ h).1

/-- A command that is no access has none. -/
theorem no_access {P : Prop} {x : Access} (h : (none : Option Access) = some x) : P := nomatch h

/-- A well-formed access: its requester exists and its TAG has 16 bits. -/
theorem one_access {a x : Access} (h : a.wf = true) (hx : some a = some x) : x.who.wf = true ∧ x.tag < 65536 := by
  cases hx
  simpa [Access.wf] using h

/-- A well-formed command that is an access names a requester that exists, and a TAG of 16 bits. -/
def Statement (i : Instr) : Prop := i.wf = true → ∀ a, i.access = some a → a.who.wf = true ∧ a.tag < 65536

theorem vinValid : Statement .vinValid := fun _ _ hx => no_access hx

theorem vinCutoff : Statement .vinCutoff := fun _ _ hx => no_access hx

theorem rstNReset (lowNs : Nat) : Statement (.rstNReset lowNs) := fun _ _ hx => no_access hx

theorem fillDone (r : FillResult) : Statement (.fillDone r) := fun _ _ hx => no_access hx

theorem verifyDone (nvm : Nat) : Statement (.verifyDone nvm) := fun _ _ hx => no_access hx

theorem recoveryLoad (bytes : List Byte) : Statement (.recoveryLoad bytes) := fun _ _ hx => no_access hx

theorem configureDone (cal : List (Nat × List Nat)) : Statement (.configureDone cal) := fun _ _ hx => no_access hx

theorem reseatComplete : Statement .reseatComplete := fun _ _ hx => no_access hx

theorem faultReport : Statement .faultReport := fun _ _ hx => no_access hx

theorem sysRestart (a : Access) (key : Word) : Statement (.sysRestart a key) := fun h _ hx => one_access h hx

theorem newNonce (a : Access) : Statement (.newNonce a) := fun h _ hx => one_access h hx

theorem quote (a : Access) : Statement (.quote a) := fun h _ hx => one_access h hx

theorem confirm (a : Access) : Statement (.confirm a) := fun h _ hx => one_access h hx

theorem openNvm (a : Access) : Statement (.openNvm a) := fun h _ hx => one_access h hx

theorem closeNvm (a : Access) : Statement (.closeNvm a) := fun h _ hx => one_access h hx

theorem verifySlot (a : Access) : Statement (.verifySlot a) := fun h _ hx => one_access h hx

theorem addKey (a : Access) : Statement (.addKey a) := fun h _ hx => one_access h hx

theorem revokeKey (a : Access) : Statement (.revokeKey a) := fun h _ hx => one_access h hx

theorem debugOpen (a : Access) : Statement (.debugOpen a) := fun h _ hx => one_access h hx

theorem secCmdDone : Statement .secCmdDone := fun _ _ hx => no_access hx

theorem nvmErase64k (a : Access) : Statement (.nvmErase64k a) := fun h _ hx => one_access h hx

theorem nvmProgram (a : Access) : Statement (.nvmProgram a) := fun h _ hx => one_access h hx

theorem nvmRead (a : Access) : Statement (.nvmRead a) := fun h _ hx => one_access h hx

theorem nvmOpDone (ok : Bool) : Statement (.nvmOpDone ok) := fun _ _ hx => no_access hx

theorem nvmPollTimeout : Statement .nvmPollTimeout := fun _ _ hx => no_access hx

theorem registerWrite (a : Access) (addr count : Nat) (data : List Word) (zeroOk : Bool) : Statement (.registerWrite a addr count data zeroOk) := fun h _ hx => one_access (left (left h)) hx

theorem rcCounterRead (a : Access) (addr count : Nat) : Statement (.rcCounterRead a addr count) := fun h _ hx => one_access (left (left h)) hx

theorem wideLoRead (a : Access) (addr count : Nat) : Statement (.wideLoRead a addr count) := fun h _ hx => one_access (left (left h)) hx

theorem wideHiRead (a : Access) (addr : Nat) : Statement (.wideHiRead a addr) := fun h _ hx => one_access (left h) hx

theorem wideLoWrite (a : Access) (addr : Nat) (w : Word) : Statement (.wideLoWrite a addr w) := fun h _ hx => one_access (left h) hx

theorem wideHiWrite (a : Access) (addr : Nat) (w : Word) : Statement (.wideHiWrite a addr w) := fun h _ hx => one_access (left h) hx

theorem snapArm (a : Access) (w : Word) : Statement (.snapArm a w) := fun h _ hx => one_access h hx

theorem epochBoundary : Statement .epochBoundary := fun _ _ hx => no_access hx

theorem squirrelEvalTimer : Statement .squirrelEvalTimer := fun _ _ hx => no_access hx

theorem powerSample (mw : Nat) (tj : Int) : Statement (.powerSample mw tj) := fun _ _ hx => no_access hx

theorem epochCommit : Statement .epochCommit := fun _ _ hx => no_access hx

theorem gridInstantEval : Statement .gridInstantEval := fun _ _ hx => no_access hx

theorem pinUnitEnable (a : Access) (u : Nat) (w : Word) : Statement (.pinUnitEnable a u w) := fun h _ hx => one_access (left h) hx

theorem decisionAccept (viaTree : Bool) (m : DecisionMsg) : Statement (.decisionAccept viaTree m) := fun _ _ hx => no_access hx

theorem decisionReject (viaTree : Bool) (m : DecisionMsg) : Statement (.decisionReject viaTree m) := fun _ _ hx => no_access hx

theorem decisionSupersede (viaTree : Bool) (m : DecisionMsg) : Statement (.decisionSupersede viaTree m) := fun _ _ hx => no_access hx

theorem decisionDeadline (ident : Nat) : Statement (.decisionDeadline ident) := fun _ _ hx => no_access hx

theorem emptyEpochDeadline : Statement .emptyEpochDeadline := fun _ _ hx => no_access hx

theorem fragmentBuilt (ident : Nat) : Statement (.fragmentBuilt ident) := fun _ _ hx => no_access hx

theorem primitiveRx (p : Nat) (m : PrimitiveMsg) : Statement (.primitiveRx p m) := fun _ _ hx => no_access hx

theorem primitiveDue : Statement .primitiveDue := fun _ _ hx => no_access hx

theorem decisionRepeat (ident kind : Nat) : Statement (.decisionRepeat ident kind) := fun _ _ hx => no_access hx

theorem decisionAckRx (m : DecisionAckMsg) : Statement (.decisionAckRx m) := fun _ _ hx => no_access hx

theorem heartbeatRx (viaTree : Bool) (m : HeartbeatMsg) : Statement (.heartbeatRx viaTree m) := fun _ _ hx => no_access hx

theorem triggerStandbyTakeover : Statement .triggerStandbyTakeover := fun _ _ hx => no_access hx

theorem retroRx (m : RetroMsg) : Statement (.retroRx m) := fun _ _ hx => no_access hx

theorem announceRx (m : AnnounceMsg) : Statement (.announceRx m) := fun _ _ hx => no_access hx

theorem fragmentDataRx (m : DataMsg) : Statement (.fragmentDataRx m) := fun _ _ hx => no_access hx

theorem mergeTimeout (n : Nat) : Statement (.mergeTimeout n) := fun _ _ hx => no_access hx

theorem fragmentAckRx (m : FragAckMsg) : Statement (.fragmentAckRx m) := fun _ _ hx => no_access hx

theorem fragmentResend (ident : Nat) : Statement (.fragmentResend ident) := fun _ _ hx => no_access hx

theorem fragmentAbandon (ident : Nat) : Statement (.fragmentAbandon ident) := fun _ _ hx => no_access hx

theorem mergeIdentityExpire (ident : Nat) : Statement (.mergeIdentityExpire ident) := fun _ _ hx => no_access hx

theorem ringItemStore : Statement .ringItemStore := fun _ _ hx => no_access hx

theorem packJobStart : Statement .packJobStart := fun _ _ hx => no_access hx

theorem packJobDone (engine : Nat) : Statement (.packJobDone engine) := fun _ _ hx => no_access hx

theorem lpsDjGo (a : Access) : Statement (.lpsDjGo a) := fun h _ hx => one_access h hx

theorem lpsDjDone : Statement .lpsDjDone := fun _ _ hx => no_access hx

theorem crcClaim (a : Access) (u : Nat) : Statement (.crcClaim a u) := fun h _ hx => one_access (left h) hx

theorem crcRelease (a : Access) (u : Nat) : Statement (.crcRelease a u) := fun h _ hx => one_access (left h) hx

theorem crcClaimTimeout (u : Nat) : Statement (.crcClaimTimeout u) := fun _ _ hx => no_access hx

theorem crcFeed (a : Access) (u : Nat) (w : Word) : Statement (.crcFeed a u w) := fun h _ hx => one_access (left h) hx

theorem crcValWrite (a : Access) (u : Nat) (w : Word) : Statement (.crcValWrite a u w) := fun h _ hx => one_access (left h) hx

theorem crcRangeGo (a : Access) (u : Nat) : Statement (.crcRangeGo a u) := fun h _ hx => one_access (left h) hx

theorem crcRangeAbort (a : Access) (u : Nat) : Statement (.crcRangeAbort a u) := fun h _ hx => one_access (left h) hx

theorem crcRangeDone (u : Nat) : Statement (.crcRangeDone u) := fun _ _ hx => no_access hx

theorem egqCfgWrite (a : Access) (q : Nat) (w : Word) : Statement (.egqCfgWrite a q w) := fun h _ hx => one_access (left h) hx

theorem egqApertureRead (a : Access) (q n : Nat) : Statement (.egqApertureRead a q n) := fun h _ hx => one_access (left (left h)) hx

theorem bulkWindowRead (a : Access) (addr n : Nat) : Statement (.bulkWindowRead a addr n) := fun h _ hx => one_access (left (left h)) hx

theorem egqMark (a : Access) (q : Nat) : Statement (.egqMark a q) := fun h _ hx => one_access (left h) hx

theorem egqRewind (a : Access) (q : Nat) : Statement (.egqRewind a q) := fun h _ hx => one_access (left h) hx

theorem egqRelease (a : Access) (q : Nat) : Statement (.egqRelease a q) := fun h _ hx => one_access (left h) hx

theorem egqMarkRelease (a : Access) (q : Nat) : Statement (.egqMarkRelease a q) := fun h _ hx => one_access (left h) hx

theorem loopExecution (t slot : Nat) (overrun : Bool) : Statement (.loopExecution t slot overrun) := fun _ _ hx => no_access hx

theorem loopStall (t slot m : Nat) : Statement (.loopStall t slot m) := fun _ _ hx => no_access hx

theorem bvrStart (a : Access) (t slot k : Nat) : Statement (.bvrStart a t slot k) := fun h _ hx => one_access (left (left (left h))) hx

theorem bvrSwitch (a : Access) (t slot : Nat) : Statement (.bvrSwitch a t slot) := fun h _ hx => one_access (left (left h)) hx

theorem bvrStop (a : Access) (t slot : Nat) : Statement (.bvrStop a t slot) := fun h _ hx => one_access (left (left h)) hx

theorem bvrForceSafe (a : Access) (t slot : Nat) : Statement (.bvrForceSafe a t slot) := fun h _ hx => one_access (left (left h)) hx

theorem bvrInjGo (a : Access) (t slot : Nat) : Statement (.bvrInjGo a t slot) := fun h _ hx => one_access (left (left h)) hx

theorem bvrInjStop (a : Access) (t slot : Nat) : Statement (.bvrInjStop a t slot) := fun h _ hx => one_access (left (left h)) hx

theorem bvrCapArm (a : Access) (t slot : Nat) : Statement (.bvrCapArm a t slot) := fun h _ hx => one_access (left (left h)) hx

theorem bvrCapStop (a : Access) (t slot : Nat) : Statement (.bvrCapStop a t slot) := fun h _ hx => one_access (left (left h)) hx

theorem bvrBankWrite (a : Access) (t slot k n : Nat) (w : Word) : Statement (.bvrBankWrite a t slot k n w) := fun h _ hx => one_access (left (left (left (left h)))) hx

theorem tdcEdge (src ev code : Nat) : Statement (.tdcEdge src ev code) := fun _ _ hx => no_access hx

theorem discHoldoffEnd (c : Nat) : Statement (.discHoldoffEnd c) := fun _ _ hx => no_access hx

theorem hitRelease : Statement .hitRelease := fun _ _ hx => no_access hx

theorem tdcCalGo (a : Access) (w : Word) : Statement (.tdcCalGo a w) := fun h _ hx => one_access h hx

theorem tdcCalAbort (a : Access) (w : Word) : Statement (.tdcCalAbort a w) := fun h _ hx => one_access h hx

theorem tdcCalSourceDone (src : Nat) (counts : List Nat) : Statement (.tdcCalSourceDone src counts) := fun _ _ hx => no_access hx

theorem tdcCalTimeout (src : Nat) : Statement (.tdcCalTimeout src) := fun _ _ hx => no_access hx

theorem tdcTableLoad (a : Access) (w : Word) : Statement (.tdcTableLoad a w) := fun h _ hx => one_access h hx

theorem settleCountEnd (c : Nat) : Statement (.settleCountEnd c) := fun _ _ hx => no_access hx

theorem precisionSampleDone (n : Nat) (x : PrecInput) : Statement (.precisionSampleDone n x) := fun _ _ hx => no_access hx

theorem precBufferStore : Statement .precBufferStore := fun _ _ hx => no_access hx

theorem precSettleEnd (n : Nat) : Statement (.precSettleEnd n) := fun _ _ hx => no_access hx

theorem refSettled (n : Nat) (internal : Bool) : Statement (.refSettled n internal) := fun _ _ hx => no_access hx

theorem pcvCfgInForce (n : Nat) : Statement (.pcvCfgInForce n) := fun _ _ hx => no_access hx

theorem pchCfgWrite (a : Access) (n r : Nat) (w : Word) : Statement (.pchCfgWrite a n r w) := fun h _ hx => one_access (left (left h)) hx

theorem excReversal (n : Nat) : Statement (.excReversal n) := fun _ _ hx => no_access hx

theorem excDutyOn (n : Nat) : Statement (.excDutyOn n) := fun _ _ hx => no_access hx

theorem excDutyOff (n : Nat) : Statement (.excDutyOff n) := fun _ _ hx => no_access hx

theorem excLimitAssert (n : Nat) : Statement (.excLimitAssert n) := fun _ _ hx => no_access hx

theorem drvLimitAssert (n : Nat) : Statement (.drvLimitAssert n) := fun _ _ hx => no_access hx

theorem faultAssert (n c : Nat) : Statement (.faultAssert n c) := fun _ _ hx => no_access hx

theorem faultAutoClear (n c : Nat) : Statement (.faultAutoClear n c) := fun _ _ hx => no_access hx

theorem faultClearWrite (a : Access) (n : Nat) (w : Word) : Statement (.faultClearWrite a n w) := fun h _ hx => one_access (left h) hx

theorem odRequest (a : Access) (w : Word) : Statement (.odRequest a w) := fun h _ hx => one_access h hx

theorem odDropTimeout (slot : Nat) : Statement (.odDropTimeout slot) := fun _ _ hx => no_access hx

theorem odSlotFree (a : Access) (slot : Nat) (w : Word) : Statement (.odSlotFree a slot w) := fun h _ hx => one_access (left h) hx

theorem calGo (a : Access) (w : Word) : Statement (.calGo a w) := fun h _ hx => one_access h hx

theorem calAbort (a : Access) (w : Word) : Statement (.calAbort a w) := fun h _ hx => one_access h hx

theorem calComputeDone : Statement .calComputeDone := fun _ _ hx => no_access hx

theorem calOfsWrite (a : Access) (n r : Nat) (w : Word) : Statement (.calOfsWrite a n r w) := fun h _ hx => one_access (left (left h)) hx

theorem calGainWrite (a : Access) (n r : Nat) (w : Word) : Statement (.calGainWrite a n r w) := fun h _ hx => one_access (left (left h)) hx

theorem refinPresentSet : Statement .refinPresentSet := fun _ _ hx => no_access hx

theorem refinLost : Statement .refinLost := fun _ _ hx => no_access hx

theorem pllLock : Statement .pllLock := fun _ _ hx => no_access hx

theorem ovnReady : Statement .ovnReady := fun _ _ hx => no_access hx

theorem ovnLeaveBand : Statement .ovnLeaveBand := fun _ _ hx => no_access hx

theorem domainEpochBoundary (x : Nat) : Statement (.domainEpochBoundary x) := fun _ _ hx => no_access hx

theorem syncSend (x : Nat) : Statement (.syncSend x) := fun _ _ hx => no_access hx

theorem syncRx (p : Nat) (m : TimeMsg) : Statement (.syncRx p m) := fun _ _ hx => no_access hx

theorem delayReqSend (x : Nat) : Statement (.delayReqSend x) := fun _ _ hx => no_access hx

theorem delayReqRx (p : Nat) (m : TimeMsg) : Statement (.delayReqRx p m) := fun _ _ hx => no_access hx

theorem delayRespRx (p : Nat) (m : TimeMsg) : Statement (.delayRespRx p m) := fun _ _ hx => no_access hx

theorem masterSetGo (a : Access) (x : Nat) (w : Word) : Statement (.masterSetGo a x w) := fun h _ hx => one_access (left h) hx

theorem slewEnd : Statement .slewEnd := fun _ _ hx => no_access hx

theorem toutArm (a : Access) (o : Nat) (w : Word) : Statement (.toutArm a o w) := fun h _ hx => one_access (left h) hx

theorem toutDisarm (a : Access) (o : Nat) (w : Word) : Statement (.toutDisarm a o w) := fun h _ hx => one_access (left h) hx

theorem toutInstance (o : Nat) : Statement (.toutInstance o) := fun _ _ hx => no_access hx

theorem toutPulseEnd (o : Nat) : Statement (.toutPulseEnd o) := fun _ _ hx => no_access hx

theorem claimRx (p : Nat) (m : ClaimMsg) : Statement (.claimRx p m) := fun _ _ hx => no_access hx

theorem claimHeld : Statement .claimHeld := fun _ _ hx => no_access hx

theorem idRetry : Statement .idRetry := fun _ _ hx => no_access hx

theorem pinGo (a : Access) (w : Word) : Statement (.pinGo a w) := fun h _ hx => one_access h hx

theorem pinRx (p : Nat) (m : PinMsg) : Statement (.pinRx p m) := fun _ _ hx => no_access hx

theorem pinNoTarget : Statement .pinNoTarget := fun _ _ hx => no_access hx

theorem frameRx (p : Nat) (bytes : List Byte) : Statement (.frameRx p bytes) := fun _ _ hx => no_access hx

theorem lackRx (p : Nat) (m : LackMsg) : Statement (.lackRx p m) := fun _ _ hx => no_access hx

theorem lackSend (p : Nat) : Statement (.lackSend p) := fun _ _ hx => no_access hx

theorem replayTimeout (p : Nat) : Statement (.replayTimeout p) := fun _ _ hx => no_access hx

theorem capRx (p : Nat) (m : CapMsg) : Statement (.capRx p m) := fun _ _ hx => no_access hx

theorem advertRx (p : Nat) (entries : List AdvertEntry) : Statement (.advertRx p entries) := fun _ _ hx => no_access hx

theorem routeExpire (d : Nat) : Statement (.routeExpire d) := fun _ _ hx => no_access hx

theorem nodeDepart (d : Nat) : Statement (.nodeDepart d) := fun _ _ hx => no_access hx

theorem routePinWrite (a : Access) (d : Nat) (w : Word) : Statement (.routePinWrite a d w) := fun h _ hx => one_access (left h) hx

theorem reorderTimeout (src dst : Nat) (mcast : Bool) (cls : Nat) : Statement (.reorderTimeout src dst mcast cls) := fun _ _ hx => no_access hx

theorem treeRx (p : Nat) (m : TreeMsg) : Statement (.treeRx p m) := fun _ _ hx => no_access hx

theorem hostCapBeacon (p : Nat) : Statement (.hostCapBeacon p) := fun _ _ hx => no_access hx

theorem logLineSend (text : List Byte) : Statement (.logLineSend text) := fun _ _ hx => no_access hx

theorem beaconTimer (p : Nat) : Statement (.beaconTimer p) := fun _ _ hx => no_access hx

theorem silentBeacon (p : Nat) : Statement (.silentBeacon p) := fun _ _ hx => no_access hx

theorem signalDetect (l : Nat) : Statement (.signalDetect l) := fun _ _ hx => no_access hx

theorem cdrLock (l : Nat) (inverted : Bool) : Statement (.cdrLock l inverted) := fun _ _ hx => no_access hx

theorem blockLock (l : Nat) (fec swapped : Bool) : Statement (.blockLock l fec swapped) := fun _ _ hx => no_access hx

theorem trainTimeout (p : Nat) : Statement (.trainTimeout p) := fun _ _ hx => no_access hx

theorem lockTimeout (p : Nat) : Statement (.lockTimeout p) := fun _ _ hx => no_access hx

theorem exchangeTimeout (p : Nat) : Statement (.exchangeTimeout p) := fun _ _ hx => no_access hx

theorem readyRx (p arg : Nat) : Statement (.readyRx p arg) := fun _ _ hx => no_access hx

theorem lossOfSignal (l : Nat) : Statement (.lossOfSignal l) := fun _ _ hx => no_access hx

theorem losIdleEnd (p : Nat) : Statement (.losIdleEnd p) := fun _ _ hx => no_access hx

theorem laneLockLost (l : Nat) : Statement (.laneLockLost l) := fun _ _ hx => no_access hx

theorem laneRejoin (p : Nat) : Statement (.laneRejoin p) := fun _ _ hx => no_access hx

theorem downRx (p arg : Nat) : Statement (.downRx p arg) := fun _ _ hx => no_access hx

theorem takeoverOsRx (p arg : Nat) : Statement (.takeoverOsRx p arg) := fun _ _ hx => no_access hx

theorem tkoHoldExpire (p : Nat) : Statement (.tkoHoldExpire p) := fun _ _ hx => no_access hx

theorem lnkRetry (a : Access) (p : Nat) : Statement (.lnkRetry a p) := fun h _ hx => one_access (left h) hx

theorem lnkKnock (a : Access) (p : Nat) : Statement (.lnkKnock a p) := fun h _ hx => one_access (left h) hx

theorem knockDone (p : Nat) : Statement (.knockDone p) := fun _ _ hx => no_access hx

theorem lnkRejoin (a : Access) (p : Nat) : Statement (.lnkRejoin a p) := fun h _ hx => one_access (left h) hx

theorem lnkAdminDown (a : Access) (p : Nat) : Statement (.lnkAdminDown a p) := fun h _ hx => one_access (left h) hx

theorem lnkTestPrbs31 (a : Access) (p : Nat) : Statement (.lnkTestPrbs31 a p) := fun h _ hx => one_access (left h) hx

theorem lnkTestOff (a : Access) (p : Nat) : Statement (.lnkTestOff a p) := fun h _ hx => one_access (left h) hx

theorem knockDetect (l : Nat) (knock : Bool) : Statement (.knockDetect l knock) := fun _ _ hx => no_access hx

theorem voteCast (a : Access) (d : Nat) (w : Word) : Statement (.voteCast a d w) := fun h _ hx => one_access (left h) hx

theorem voteWithdraw (a : Access) (d : Nat) (w : Word) : Statement (.voteWithdraw a d w) := fun h _ hx => one_access (left h) hx

theorem voteLeaseExpire (d node : Nat) : Statement (.voteLeaseExpire d node) := fun _ _ hx => no_access hx

theorem accessVoteExpire (d : Nat) : Statement (.accessVoteExpire d) := fun _ _ hx => no_access hx

theorem offDomainAccess (a : Access) (addr : Nat) : Statement (.offDomainAccess a addr) := fun h _ hx => one_access (left h) hx

theorem forceNone (a : Access) (d : Nat) : Statement (.forceNone a d) := fun h _ hx => one_access (left h) hx

theorem forceOn (a : Access) (d : Nat) : Statement (.forceOn a d) := fun h _ hx => one_access (left h) hx

theorem forceOff (a : Access) (d : Nat) : Statement (.forceOff a d) := fun h _ hx => one_access (left h) hx

theorem levelForceWrite (a : Access) (w : Word) : Statement (.levelForceWrite a w) := fun h _ hx => one_access h hx

theorem domainTransitionDone (d : Nat) : Statement (.domainTransitionDone d) := fun _ _ hx => no_access hx

theorem levelTransitionDone : Statement .levelTransitionDone := fun _ _ hx => no_access hx

theorem wakeTimerExpire : Statement .wakeTimerExpire := fun _ _ hx => no_access hx

theorem thermalTrip : Statement .thermalTrip := fun _ _ hx => no_access hx

theorem irqClaim : Statement .irqClaim := fun _ _ hx => no_access hx

theorem irqAck (a : Access) (w : Word) : Statement (.irqAck a w) := fun h _ hx => one_access h hx

theorem irqRaise (a : Access) (w : Word) : Statement (.irqRaise a w) := fun h _ hx => one_access h hx

theorem irqPop (a : Access) (t : Nat) (w : Word) : Statement (.irqPop a t w) := fun h _ hx => one_access (left h) hx

theorem irqSrcWrite (a : Access) (src : Nat) (w : Word) : Statement (.irqSrcWrite a src w) := fun h _ hx => one_access (left h) hx

theorem notifyRepeat : Statement .notifyRepeat := fun _ _ hx => no_access hx

theorem scrubStep (die addr : Nat) (upset double : Bool) (pos : Nat) : Statement (.scrubStep die addr upset double pos) := fun _ _ hx => no_access hx

theorem eccWindowEnd (r : Nat) : Statement (.eccWindowEnd r) := fun _ _ hx => no_access hx

theorem eccThrWrite (a : Access) (r : Nat) (w : Word) : Statement (.eccThrWrite a r w) := fun h _ hx => one_access (left h) hx

theorem mirrorAck : Statement .mirrorAck := fun _ _ hx => no_access hx

theorem mirrorLost (drop : Bool) : Statement (.mirrorLost drop) := fun _ _ hx => no_access hx

theorem periodicSelftest (cc : Nat) (pass : Bool) : Statement (.periodicSelftest cc pass) := fun _ _ hx => no_access hx

theorem watchdogKick (a : Access) : Statement (.watchdogKick a) := fun h _ hx => one_access h hx

theorem watchdogExpire (standby : Bool) : Statement (.watchdogExpire standby) := fun _ _ hx => no_access hx

theorem lockstepMismatch (standby : Bool) : Statement (.lockstepMismatch standby) := fun _ _ hx => no_access hx

theorem coreStall (standby : Bool) : Statement (.coreStall standby) := fun _ _ hx => no_access hx

theorem railFault (standby : Bool) : Statement (.railFault standby) := fun _ _ hx => no_access hx

theorem pairSwitch (a : Access) : Statement (.pairSwitch a) := fun h _ hx => one_access h hx

theorem pairReinstate (a : Access) : Statement (.pairReinstate a) := fun h _ hx => one_access h hx

theorem pairRetire (a : Access) : Statement (.pairRetire a) := fun h _ hx => one_access h hx

theorem takeover : Statement .takeover := fun _ _ hx => no_access hx

theorem takeoverGapEnd : Statement .takeoverGapEnd := fun _ _ hx => no_access hx

theorem warmRebuildDone : Statement .warmRebuildDone := fun _ _ hx => no_access hx

theorem standbyFillDone (pass : Bool) : Statement (.standbyFillDone pass) := fun _ _ hx => no_access hx

theorem standbyCaughtUp : Statement .standbyCaughtUp := fun _ _ hx => no_access hx

theorem standbyRegRead (a : Access) : Statement (.standbyRegRead a) := fun h _ hx => one_access h hx

theorem standbyWindowRead (a : Access) (k : Nat) : Statement (.standbyWindowRead a k) := fun h _ hx => one_access (left h) hx

theorem tstArmStretch (a : Access) : Statement (.tstArmStretch a) := fun h _ hx => one_access h hx

theorem tstArmBackpress (a : Access) : Statement (.tstArmBackpress a) := fun h _ hx => one_access h hx

theorem tstArmLane (a : Access) : Statement (.tstArmLane a) := fun h _ hx => one_access h hx

theorem tstArmTime (a : Access) : Statement (.tstArmTime a) := fun h _ hx => one_access h hx

theorem tstArmMemerr (a : Access) : Statement (.tstArmMemerr a) := fun h _ hx => one_access h hx

theorem tstArmResidue (a : Access) : Statement (.tstArmResidue a) := fun h _ hx => one_access h hx

theorem tstDisarmAll (a : Access) : Statement (.tstDisarmAll a) := fun h _ hx => one_access h hx

theorem tstDurationEnd : Statement .tstDurationEnd := fun _ _ hx => no_access hx

theorem tstBpToggle : Statement .tstBpToggle := fun _ _ hx => no_access hx

theorem jtagBypass (tdi : List Bool) : Statement (.jtagBypass tdi) := fun _ _ hx => no_access hx

theorem jtagSamplePreload (pins tdi : List Bool) : Statement (.jtagSamplePreload pins tdi) := fun _ _ hx => no_access hx

theorem jtagExtest (pins tdi : List Bool) : Statement (.jtagExtest pins tdi) := fun _ _ hx => no_access hx

theorem jtagIdcode (tdi : List Bool) : Statement (.jtagIdcode tdi) := fun _ _ hx => no_access hx

theorem fastSampleInstant (codes : List FastCode) : Statement (.fastSampleInstant codes) := fun _ _ hx => no_access hx

theorem hostEthernetFrameRx (p : Nat) (bytes : List Byte) : Statement (.hostEthernetFrameRx p bytes) := fun _ _ hx => no_access hx

theorem detectorArm : Statement .detectorArm := fun _ _ hx => no_access hx

theorem prbsLockGained (l : Nat) : Statement (.prbsLockGained l) := fun _ _ hx => no_access hx

theorem prbsLockLost (l bits errs : Nat) : Statement (.prbsLockLost l bits errs) := fun _ _ hx => no_access hx

theorem mirrorLinkRestored : Statement .mirrorLinkRestored := fun _ _ hx => no_access hx

theorem tapReset : Statement .tapReset := fun _ _ hx => no_access hx

theorem emBudgetAccumulate (tj : List Int) : Statement (.emBudgetAccumulate tj) := fun _ _ hx => no_access hx

theorem wearStoreUpdate : Statement .wearStoreUpdate := fun _ _ hx => no_access hx

end Laws.AccessFits

end Sys2Proof
end

