-- ==== Sys2Proof/Laws/Registers.lean ====
section
/-! SUPPORT. The operation behind each register with an effect of its own, by the address at which the table lays it (R22). -/

namespace Sys2Proof.Machine

open Sys2Proof

variable (who : Requester)

/-! ### Single registers -/

theorem regOp_sysRestart : regOp who 0x10010 = plainOp restartOp := by simp [regOp, tileOf, moduleOp]
theorem regOp_sysSnap : regOp who 0x10100 = plainOp snapOp := by simp [regOp, tileOf, moduleOp]
theorem regOp_secCmd : regOp who 0x110010 = plainOp secCmdOp := by simp [regOp, tileOf, moduleOp]
theorem regOp_nvm : regOp who 0x110024 = plainOp nvmOp := by simp [regOp, tileOf, moduleOp]
theorem regOp_dj : regOp who 0xa011c = plainOp djOp := by simp [regOp, tileOf, coreOp]
theorem regOp_tdcCal : regOp who 0x60010 = plainOp tdcCalOp := by simp [regOp, tileOf, coreOp]
theorem regOp_cal : regOp who 0x130010 = plainOp calCmdOp := by simp [regOp, tileOf, moduleOp]
theorem regOp_odReq : regOp who 0x130030 = plainOp odReqOp := by simp [regOp, tileOf, moduleOp]
theorem regOp_levelForce : regOp who 0x20010 = plainOp levelForceOp := by simp [regOp, tileOf, aonOp]
theorem regOp_irqAck : regOp who 0x40004 = plainOp irqAckOp := by simp [regOp, tileOf, aonOp]
theorem regOp_irqRaise : regOp who 0x40008 = plainOp (irqRaiseOp who) := by simp [regOp, tileOf, aonOp]
theorem regOp_fabPin : regOp who 0xd0018 = plainOp fabPinOp := by simp [regOp, tileOf, moduleOp]
theorem regOp_pairCmd : regOp who 0x100004 = plainOp (pairCmdOp who) := by simp [regOp, tileOf, moduleOp]
theorem regOp_wdog : regOp who 0x10000c = plainOp fun _ b => wdogOp b := by simp [regOp, tileOf, moduleOp]
theorem regOp_tstArm : regOp who 0x120004 = plainOp tstArmOp := by simp [regOp, tileOf, moduleOp]

/-! ### Registers by a small index -/

theorem regOp_masterSet {x : Nat} (h : x < 2) : regOp who (0x50124 + 0x80 * x) = masterSetOp x := by
  interval_cases x <;> simp [regOp, tileOf, aonOp]

theorem regOp_tout {o : Nat} (h : o < 4) : regOp who (0x50300 + 0x20 * o) = plainOp (toutCtrlOp o) := by
  interval_cases o <;> simp [regOp, tileOf, aonOp]

theorem regOp_vote {d : Nat} (h : d < 19) : regOp who (0x20104 + 0x10 * d) = plainOp (voteOp who d) := by
  interval_cases d <;> simp [regOp, tileOf, aonOp]

theorem regOp_pwrCtrl {d : Nat} (h : d < 19) : regOp who (0x20108 + 0x10 * d) = plainOp (pwrCtrlOp who d) := by
  interval_cases d <;> simp [regOp, tileOf, aonOp]

theorem regOp_irqPop {t : Nat} (h : t < 5) : regOp who (0x40108 + 0x40 * t) = plainOp (irqPopOp who t) := by
  interval_cases t <;> simp [regOp, tileOf, aonOp]

theorem regOp_crc {u : Nat} (h : u < 8) (off : Nat) (ho : off < 0x40) :
    regOp who (0xb0100 + 0x40 * u + off) = plainOp (crcOp who u off) := by
  have h1 : (0xb0100 + 0x40 * u + off) / 0x10000 = 11 := by omega
  have h2 : (0xb0100 + 0x40 * u + off - 0xb0100) / 0x40 = u := by omega
  have h3 : (0xb0100 + 0x40 * u + off - 0xb0100) % 0x40 = off := by omega
  have h4 : tileOf (0xb0100 + 0x40 * u + off) = none := by unfold tileOf; rw [if_neg]; simp; omega
  simp only [regOp, h4, h1, coreOp, h2, h3]
  simp; rw [if_neg (by omega), if_neg (by omega), if_neg (by omega), if_neg (by omega), if_neg (by omega)]
  rw [if_pos (by omega)]

theorem regOp_egqCfg {q : Nat} (h : q < 8) : regOp who (0xc0100 + 0x80 * q) = plainOp (egqCfgOp q) := by
  interval_cases q <;> simp [regOp, tileOf, coreOp]

theorem regOp_egqCmd {q : Nat} (h : q < 8) : regOp who (0xc0108 + 0x80 * q) = plainOp (egqCmdOp who q) := by
  interval_cases q <;> simp [regOp, tileOf, coreOp]

theorem regOp_lnkCtrl {p : Nat} (h : p < 8) : regOp who (0xe0000 + 0x200 * p) = plainOp (lnkCtrlOp p) := by
  interval_cases p <;> simp [regOp, tileOf, moduleOp]

theorem regOp_odFree {n : Nat} (h : n < 8) : regOp who (0x13010c + 0x10 * n) = plainOp (odFreeOp n) := by
  interval_cases n <;> simp [regOp, tileOf, moduleOp]

theorem regOp_pinUnit {u : Nat} (h : u < 8) : regOp who (0x76000 + 0x10 * (1984 + u)) = plainOp (trgUnitOp (1984 + u)) := by
  interval_cases u <;> simp [regOp, tileOf, coreOp]

theorem regOp_bvrCmd {t n : Nat} (ht : t < 4) (hn : n < 4) :
    regOp who (0x230100 + 0x40000 * t + 0x80 * n) = plainOp fun w b => bvrCmdOp t n w b := by
  interval_cases t <;> interval_cases n <;> simp [regOp, tileOf, tileOp]

/-! ### Registers by a wide index -/

theorem regOp_routePin {d : Nat} (h : d < 4096) : regOp who (0xd8000 + 8 * d) = plainOp (routePinOp d) := by
  have h1 : (0xd8000 + 8 * d) / 0x10000 = 13 := by omega
  have h2 : (0xd8000 + 8 * d - 0xd8000) / 8 = d := by omega
  have h4 : tileOf (0xd8000 + 8 * d) = none := by unfold tileOf; rw [if_neg]; simp; omega
  have h5 : (0xd8000 + 8 * d) % 8 = 0 := by omega
  simp only [regOp, h4, h1, moduleOp, h2, h5]
  simp; rw [if_neg (by omega), if_neg (by omega), if_neg (by omega)]
  rw [if_pos (by omega)]

theorem regOp_irqSrc {n : Nat} (h : n < 512) : regOp who (0x41000 + 4 * n) = fieldsOp (0x41000 + 4 * n) := by
  have h1 : (0x41000 + 4 * n) / 0x10000 = 4 := by omega
  have h4 : tileOf (0x41000 + 4 * n) = none := by unfold tileOf; rw [if_neg]; simp; omega
  simp only [regOp, h4, h1, aonOp]
  simp; rw [if_neg (by omega), if_neg (by omega), if_neg (by omega), if_neg (by omega), if_neg (by omega), if_neg (by omega), if_neg (by omega), if_neg (by omega), if_neg (by omega)]

theorem regOp_eccThr {r : Nat} (h : r < 0x70) : regOp who (0xf0108 + 0x10 * r) = plainOp (eccThrOp r) := by
  have h1 : (0xf0108 + 0x10 * r) / 0x10000 = 15 := by omega
  have h2 : (0xf0108 + 0x10 * r - 0xf0100) / 16 = r := by omega
  have h3 : (0xf0108 + 0x10 * r) % 16 = 8 := by omega
  have h4 : tileOf (0xf0108 + 0x10 * r) = none := by unfold tileOf; rw [if_neg]; simp; omega
  simp only [regOp, h4, h1, moduleOp, h2, h3]
  simp; rw [if_neg (by omega), if_neg (by omega), if_neg (by omega), if_neg (by omega), if_neg (by omega)]
  rw [if_pos (by omega)]

/-- The precision channel's registers. -/
theorem regOp_pch {n x : Nat} (hn : n < 64) (hx : x < 0x100) :
    regOp who (0x220000 + 0x40000 * (n / 16) + 0x100 * (n % 16) + x) =
      (if x = 0x00 then plainOp (pchInOp n) else if x = 0x08 then plainOp (pchExcOp n) else if x = 0x18 then plainOp (pchFaultOp n)
       else if x = 0x20 then plainOp (pchDrvOp n) else if x = 0x80 then plainOp (pcvCfgOp n)
       else if decide (0x90 ≤ x) && decide (x < 0xc0) then
         if x % 8 = 0 then plainOp (calOfsOp n ((x - 0x90) / 8)) else plainOp (calGainOp n ((x - 0x90) / 8))
       else fieldsOp (0x220000 + 0x40000 * (n / 16) + 0x100 * (n % 16) + x)) := by
  have h4 : tileOf (0x220000 + 0x40000 * (n / 16) + 0x100 * (n % 16) + x) = some (n / 16) := by
    unfold tileOf; rw [if_pos]
    · exact congrArg some (by omega)
    · simp; omega
  have h5 : (0x220000 + 0x40000 * (n / 16) + 0x100 * (n % 16) + x - 0x200000) % 0x40000 = 0x20000 + 0x100 * (n % 16) + x := by omega
  have h6 : (0x20000 + 0x100 * (n % 16) + x - 0x20000) / 256 = n % 16 := by omega
  have h7 : (0x20000 + 0x100 * (n % 16) + x) % 256 = x := by omega
  have h8 : 16 * (n / 16) + n % 16 = n := by omega
  simp only [regOp, h4, h5, tileOp, h6, h7, h8]
  rw [if_neg (by omega), if_neg (by omega), if_neg (by simp; omega), if_pos (by simp; omega)]

/-- A bank's operations and coefficients. -/
theorem regOp_bank {t n k j : Nat} (ht : t < 4) (hn : n < 4) (hk : k < 2) (hj : j < 512) :
    regOp who (0x231000 + 0x40000 * t + 0x1000 * n + 0x800 * k + 4 * j) =
      bankOp t n k (0x231000 + 0x40000 * t + 0x1000 * n + 0x800 * k + 4 * j) := by
  have h4 : tileOf (0x231000 + 0x40000 * t + 0x1000 * n + 0x800 * k + 4 * j) = some t := by
    unfold tileOf; rw [if_pos]
    · congr 1; omega
    · simp; omega
  have h5 : (0x231000 + 0x40000 * t + 0x1000 * n + 0x800 * k + 4 * j - 0x200000) % 0x40000 = 0x31000 + 0x1000 * n + 0x800 * k + 4 * j := by omega
  have h6 : (0x31000 + 0x1000 * n + 0x800 * k + 4 * j - 0x31000) / 0x1000 = n := by omega
  have h7 : (0x31000 + 0x1000 * n + 0x800 * k + 4 * j - 0x31000) % 0x1000 / 0x800 = k := by omega
  simp only [regOp, h4, h5, tileOp, h6, h7]
  rw [if_neg (by omega), if_neg (by omega), if_neg (by simp; omega), if_neg (by simp; omega), if_neg (by simp; omega), if_pos (by simp; omega)]

end Sys2Proof.Machine
end

