-- ==== Sys2Proof/Tests/Slice0.lean ====
section
/-! SUPPORT. Tests: one ill-formed term for each check of WellFormed, small checks of single commands against numbers of the spec, and for every
statement with hypotheses concrete states and operands that meet them (`meets_<statement>`). -/

namespace Sys2Proof.Tests

set_option Elab.async false

open Sys2Proof Sys2Proof.Machine

/-- A block in a phase with fields set, every domain on. -/
def block (p : Phase) (l : List (Field × Nat)) : Block :=
  ((List.range 19).map (fun d => (F.PWR_D_STAT_STATE d, 2)) ++ l).foldl (fun (b : Block) (x : Field × Nat) => b.put x.1 x.2) { Block.reset with phase := p }

/-- A block in Live. -/
abbrev live (l : List (Field × Nat)) : Block := block .live l

/-- The Owl's access. -/
abbrev owl : Access := ⟨.owl, 0⟩

/-- A state with no command waiting. -/
abbrev st (b : Block) : State := ⟨[], b⟩

/-- The block after a command that completes. -/
def after (c : Instr) (b : Block) : Block :=
  match exec c (st b) with
  | .next t => t.hw
  | .fault _ => Block.reset
  | .refused _ => Block.reset

/-! ### Ill-formed commands: one for each check -/

/-- A requester that no module has. -/
abbrev nobody : Access := ⟨.node 4096, 0⟩

theorem illFormed_access :
    (([⟨.node 4096, 0⟩, ⟨.warren 2, 0⟩, ⟨.owl, 65536⟩] : List Access).all fun a =>
      ([.sysRestart a 0, .newNonce a, .quote a, .confirm a, .openNvm a, .closeNvm a, .verifySlot a, .addKey a, .revokeKey a, .debugOpen a,
        .nvmErase64k a, .nvmProgram a, .nvmRead a, .registerWrite a 0 1 [0] true, .rcCounterRead a 0 1, .wideLoRead a 0 1, .wideHiRead a 4,
        .wideLoWrite a 0 0, .wideHiWrite a 4 0, .snapArm a 0, .pinUnitEnable a 0 0, .lpsDjGo a, .crcClaim a 0, .crcRelease a 0, .crcFeed a 0 0,
        .crcValWrite a 0 0, .crcRangeGo a 0, .crcRangeAbort a 0, .egqCfgWrite a 0 0, .egqApertureRead a 0 1, .bulkWindowRead a 0 1, .egqMark a 0,
        .egqRewind a 0, .egqRelease a 0, .egqMarkRelease a 0, .bvrStart a 0 0 0, .bvrSwitch a 0 0, .bvrStop a 0 0, .bvrForceSafe a 0 0,
        .bvrInjGo a 0 0, .bvrInjStop a 0 0, .bvrCapArm a 0 0, .bvrCapStop a 0 0, .bvrBankWrite a 0 0 0 0 0, .tdcCalGo a 0, .tdcCalAbort a 0,
        .tdcTableLoad a 0, .pchCfgWrite a 0 0 0, .faultClearWrite a 0 0, .odRequest a 0, .odSlotFree a 0 0, .calGo a 0, .calAbort a 0,
        .calOfsWrite a 0 0 0, .calGainWrite a 0 0 0, .masterSetGo a 0 0, .toutArm a 0 0, .toutDisarm a 0 0, .pinGo a 0, .routePinWrite a 0 0,
        .lnkRetry a 0, .lnkKnock a 0, .lnkRejoin a 0, .lnkAdminDown a 0, .lnkTestPrbs31 a 0, .lnkTestOff a 0, .voteCast a 0 0, .voteWithdraw a 0 0,
        .offDomainAccess a 0, .forceNone a 0, .forceOn a 0, .forceOff a 0, .levelForceWrite a 0, .irqAck a 0, .irqRaise a 0, .irqPop a 0 0,
        .irqSrcWrite a 0 0, .eccThrWrite a 1 0, .watchdogKick a, .pairSwitch a, .pairReinstate a, .pairRetire a, .standbyRegRead a,
        .standbyWindowRead a 0, .tstArmStretch a, .tstArmBackpress a, .tstArmLane a, .tstArmTime a, .tstArmMemerr a, .tstArmResidue a,
        .tstDisarmAll a] : List Instr).all fun i => !i.wf) = true := by decide +kernel

theorem illFormed_addresses :
    (([.registerWrite owl (2 ^ 40) 1 [0] true, .registerWrite owl 0 256 [] true, .rcCounterRead owl (2 ^ 40) 1, .rcCounterRead owl 0 256,
      .wideLoRead owl (2 ^ 40) 1, .wideLoRead owl 0 256, .wideHiRead owl (2 ^ 40), .wideLoWrite owl (2 ^ 40) 0, .wideHiWrite owl (2 ^ 40) 0,
      .egqApertureRead owl 8 1, .egqApertureRead owl 0 256, .bulkWindowRead owl (2 ^ 40) 1, .bulkWindowRead owl 0 256,
      .offDomainAccess owl (2 ^ 40), .standbyWindowRead owl 8192, .scrubStep 7 0 false false 0, .scrubStep 0 (2 ^ 40) false false 0,
      .scrubStep 0 0 false false 72] : List Instr).all fun i => !i.wf) = true := by decide +kernel

theorem illFormed_units :
    (([.pinUnitEnable owl 8 0, .crcClaim owl 8, .crcRelease owl 8, .crcClaimTimeout 8, .crcFeed owl 8 0, .crcValWrite owl 8 0, .crcRangeGo owl 8,
      .crcRangeAbort owl 8, .crcRangeDone 8, .egqCfgWrite owl 8 0, .egqMark owl 8, .egqRewind owl 8, .egqRelease owl 8, .egqMarkRelease owl 8,
      .packJobDone 16, .loopExecution 4 0 0, .loopExecution 0 4 0, .loopStall 4 0 0, .loopStall 0 4 0, .loopStall 0 0 16, .bvrStart owl 4 0 0,
      .bvrStart owl 0 4 0, .bvrStart owl 0 0 2, .bvrSwitch owl 4 0, .bvrSwitch owl 0 4, .bvrStop owl 4 0, .bvrStop owl 0 4,
      .bvrForceSafe owl 4 0, .bvrForceSafe owl 0 4, .bvrInjGo owl 4 0, .bvrInjGo owl 0 4, .bvrInjStop owl 4 0, .bvrInjStop owl 0 4,
      .bvrCapArm owl 4 0, .bvrCapArm owl 0 4, .bvrCapStop owl 4 0, .bvrCapStop owl 0 4, .bvrBankWrite owl 4 0 0 0 0, .bvrBankWrite owl 0 4 0 0 0,
      .bvrBankWrite owl 0 0 2 0 0, .bvrBankWrite owl 0 0 0 512 0, .domainEpochBoundary 2, .syncSend 2, .delayReqSend 2, .masterSetGo owl 2 0,
      .toutArm owl 4 0, .toutDisarm owl 4 0, .toutInstance 4, .toutPulseEnd 4, .voteCast owl 19 0, .voteWithdraw owl 19 0, .voteLeaseExpire 19 0,
      .voteLeaseExpire 0 4096, .accessVoteExpire 19, .forceNone owl 19, .forceOn owl 19, .forceOff owl 19, .domainTransitionDone 19,
      .irqPop owl 5 0, .irqSrcWrite owl 512 0, .eccWindowEnd 0, .eccThrWrite owl 6 0, .periodicSelftest 2 true, .powerSample (2 ^ 24) 0,
      .emBudgetAccumulate [40], .verifyDone 3, .fillDone ⟨true, true, true, true, true, 16, 0⟩, .fillDone ⟨true, true, true, true, true, 15, 4⟩] :
        List Instr).all fun i => !i.wf) = true := by decide +kernel

theorem illFormed_channels :
    (([.tdcEdge 960 0 0, .tdcEdge 1032 0 0, .tdcEdge 0 3 0, .tdcEdge 0 0 256, .discHoldoffEnd 960, .tdcCalSourceDone 960 [],
      .tdcCalSourceDone 0 [1], .tdcCalTimeout 1023, .settleCountEnd 960, .precisionSampleDone 64 ⟨0, 0, 0, 0, false⟩, .precSettleEnd 64,
      .refSettled 64 true, .pcvCfgInForce 64, .pchCfgWrite owl 64 0 0, .pchCfgWrite owl 0 3 0, .excReversal 64, .excDutyOn 64, .excDutyOff 64,
      .excLimitAssert 64, .drvLimitAssert 64, .faultAssert 64 0, .faultAssert 0 4, .faultAutoClear 64 0, .faultAutoClear 0 5,
      .faultClearWrite owl 64 0, .odDropTimeout 8, .odSlotFree owl 8 0, .calOfsWrite owl 64 0 0, .calOfsWrite owl 0 6 0, .calGainWrite owl 64 0 0,
      .calGainWrite owl 0 6 0, .fastSampleInstant [⟨960, 0, false, 0⟩], .configureDone [(960, List.replicate 256 4096)],
      .configureDone [(0, List.replicate 255 4096)], .configureDone [(0, List.replicate 256 0)]] : List Instr).all fun i => !i.wf) = true := by
  decide +kernel

theorem illFormed_ports :
    (([.frameRx 8 [], .lackSend 8, .replayTimeout 8, .hostCapBeacon 8, .beaconTimer 8, .silentBeacon 8, .signalDetect 16, .cdrLock 16 false,
      .blockLock 16 false false, .trainTimeout 8, .lockTimeout 8, .exchangeTimeout 8, .readyRx 8 0, .readyRx 0 65536, .lossOfSignal 16,
      .losIdleEnd 8, .laneLockLost 16, .laneRejoin 8, .downRx 8 0, .downRx 0 65536, .takeoverOsRx 8 0, .takeoverOsRx 0 65536, .tkoHoldExpire 8,
      .lnkRetry owl 8, .lnkKnock owl 8, .knockDone 8, .lnkRejoin owl 8, .lnkAdminDown owl 8, .lnkTestPrbs31 owl 8, .lnkTestOff owl 8,
      .knockDetect 16 true, .hostEthernetFrameRx 8 [], .prbsLockGained 16, .prbsLockLost 16 0 0, .routeExpire 4096, .nodeDepart 4096,
      .routePinWrite owl 4096 0, .reorderTimeout 4096 0 false 0, .reorderTimeout 0 4096 false 0, .reorderTimeout 0 0 false 8,
      .advertRx 8 [], .advertRx 0 [⟨4096, 0, 0⟩], .advertRx 0 [⟨0, 256, 0⟩], .advertRx 0 [⟨0, 0, 2 ^ 32⟩]] : List Instr).all
        fun i => !i.wf) = true := by decide +kernel

theorem illFormed_messages :
    (let t : TimeMsg := ⟨1, 0, 0, 0, 0, 0, 0, 0, 0, 0, 0, 0⟩
     let c : CapMsg := ⟨0, false, false, true, 0, 0, 0, 0, 0, List.replicate 8 0, 0⟩
     let k : ClaimMsg := ⟨0, false, 0, 0, 0, 0⟩
     let d : DecisionMsg := ⟨1, 0, 0, true, 0, 0, 0, 0, 0⟩
     let p : PrimitiveMsg := ⟨0, 0, 0, 0, false, false, 0, 0, 0, 0, 0⟩
     let x : DataMsg := ⟨true, false, 0, 0, 0, 0, 0, 0, [], false⟩
     ([.syncRx 8 t, .syncRx 0 { t with msg := 0 }, .delayReqRx 0 { t with msg := 4 }, .delayRespRx 0 { t with domain := 2 },
       .syncRx 0 { t with quality := 8 }, .syncRx 0 { t with hops := 32 }, .syncRx 0 { t with epoch := 4096 }, .syncRx 0 { t with wrap := 65536 },
       .syncRx 0 { t with timeNs := 2 ^ 32 }, .syncRx 0 { t with incInt := 256 }, .delayReqRx 8 t, .delayRespRx 8 t, .capRx 8 c,
       .capRx 0 { c with port := 8 }, .capRx 0 { c with node := 4096 }, .capRx 0 { c with boot := 65536 }, .capRx 0 { c with roles := 32 },
       .capRx 0 { c with bufs := [] }, .capRx 0 { c with step := 256 }, .claimRx 8 k, .claimRx 0 { k with kind := 3 },
       .claimRx 0 { k with node := 4096 }, .claimRx 0 { k with serial := 2 ^ 64 }, .pinRx 8 ⟨0, 0, 0, 0⟩, .pinRx 0 ⟨4096, 0, 0, 0⟩,
       .pinRx 0 ⟨0, 0, 0, 4096⟩, .lackRx 8 ⟨false, 0, List.replicate 8 0⟩, .lackRx 0 ⟨false, 4096, List.replicate 8 0⟩, .lackRx 0 ⟨false, 0, []⟩,
       .treeRx 8 ⟨0, 0, false, 0⟩, .treeRx 0 ⟨3, 0, false, 0⟩, .treeRx 0 ⟨0, 32, false, 0⟩, .decisionAccept true { d with kind := 2 },
       .decisionReject true d, .decisionSupersede true d, .decisionAccept true { d with term := 65536 }, .decisionAccept true { d with builder := 4096 },
       .decisionAccept true { d with eventNo := 2 ^ 48 }, .decisionAccept true { d with newPre := 2 ^ 24 }, .decisionDeadline (2 ^ 40),
       .fragmentBuilt (2 ^ 40), .primitiveRx 8 p, .primitiveRx 0 { p with cls := 8 }, .primitiveRx 0 { p with ident := 2 ^ 40 },
       .decisionRepeat (2 ^ 40) 1, .decisionRepeat 0 4, .decisionAckRx ⟨4, 0, 0⟩, .heartbeatRx true ⟨65536, 0, 0, 0, 0⟩,
       .heartbeatRx true ⟨0, 4096, 0, 0, 0⟩, .retroRx ⟨256, 0, 0, 0, 0, 0, 0⟩, .announceRx ⟨65536, 0, 0⟩, .announceRx ⟨0, 0, 2 ^ 4096⟩,
       .fragmentDataRx { x with words := List.replicate 507 0 }, .fragmentDataRx { x with total := 2 ^ 32 }, .mergeTimeout (2 ^ 48),
       .fragmentAckRx ⟨2 ^ 40, 0, 0, 0⟩, .fragmentResend (2 ^ 40), .fragmentAbandon (2 ^ 40), .mergeIdentityExpire (2 ^ 40)] : List Instr).all
         fun i => !i.wf) = true := by decide +kernel

/-- IllFormedCommandsStop: both sides of its case split. -/
theorem meets_IllFormedCommandsStop :
    (Instr.wf (.frameRx 7 []) = true ∧ Instr.wf (.frameRx 8 []) = false) ∧ exec (.frameRx 8 []) State.reset = .fault .noSuchUnit :=
  ⟨by decide +kernel, rfl⟩

/-! ### Start-up, security, access: the statements' hypotheses are met -/

/-- RunsToTheEnd and StepsKeepCanonical: a queue of two well-formed commands, and a canonical state that steps. -/
theorem meets_RunsToTheEnd :
    State.queueWf ⟨[.vinValid, .frameRx 7 []], Block.reset⟩ = true ∧ (State.mk [.vinValid] Block.reset).hw.canonical ∧
      completes (step ⟨[.vinValid], Block.reset⟩) = true := by decide +kernel

theorem meets_ResetsKeepOnlyKept :
    (live []).phase ≠ .off ∧ (live []).phase ≠ .hibernate ∧ 10000 ≤ 10000 ∧ (live []).boot.nvm = none := by decide +kernel

/-- A container with an EXPERT section of one entry, for a block that EXPERT_ENABLE does not name. -/
def expertImage : List Nat :=
  List.replicate 22 0 ++ [1, 0, 96, 0, 0, 0] ++ List.replicate 36 0 ++ [0x13, 0, 0, 0, 16, 0, 0, 0, 16, 0, 0, 0, 234, 154, 112, 66] ++
    List.replicate 16 0

theorem meets_StartupPath_fill :
    Block.reset.phase = .off ∧ (block .fill []).phase = .fill ∧
      (∀ r ∈ ([⟨true, true, true, true, false, 15, 0⟩, ⟨false, false, true, true, true, 15, 0⟩, ⟨true, true, true, true, true, 15, 0⟩,
        ⟨true, true, false, true, true, 0, 3⟩] : List FillResult), Instr.wf (.fillDone r) = true) := by decide +kernel

theorem meets_StartupPath_verify :
    (block .verify []).phase = .verify ∧ (block .verify []).get F.SYS_STATE_BOOT_SEL ≠ 3 ∧
      (block .verify [(F.SYS_STATE_BOOT_SEL, 3)]).get F.SYS_STATE_BOOT_SEL = 3 ∧ 4 + u32 [0, 0, 0, 0] 0 ≤ [0, 0, 0, 0].length := by decide +kernel

theorem meets_StartupPath_configure :
    let b := block .configure []
    let c := { b with boot := { b.boot with image := some expertImage } }
    Instr.wf (.configureDone []) = true ∧ Instr.wf (.configureDone [(1031, List.replicate 256 4096)]) = true ∧ b.phase = .configure ∧
      c.phase = .configure ∧ (imageConflict c.imageSecs).isSome = true ∧ imageConflict b.imageSecs = none ∧
      bitAt (u8 (b.boot.image.getD []) 0x15) 0 = false ∧ (b.applyImage b.imageSecs).phase = .configure := by decide +kernel

theorem meets_StartupPath_fault :
    let b := { block .fault [(F.SYS_BOOT_ERR_CODE, 10)] with tick := 250000000 }
    b.phase = .fault ∧ b.boot.reportTick.getD 0 + sTicks ≤ b.tick ∧ b.get F.SYS_BOOT_ERR_CODE = 10 := by decide +kernel

/-- A block whose stamping time is established at quality 1, with a final node ID. -/
def timed (p : Phase) (l : List (Field × Nat)) : Block :=
  { block p ([(F.IDN_NODE_NODE_VALID, 1), (F.IDN_NODE_NODE_ID, 5)] ++ l) with
    time := { TimeSt.reset with established := true, p := { Domain.reset with established := true, quality := 1, time := 5 * 2 ^ 52, inc := 4 * 2 ^ 32 } } }

theorem meets_ReseatEmptiesTheQueues : (timed .join []).reseatReady = true ∧ (timed .live []).reseatReady = true := by decide +kernel

/-- A point as an uncompressed key, and a signature: 97 and 96 bytes. -/
def keyBytes (x y : Nat) : List Nat := 4 :: beBytes 48 x ++ beBytes 48 y

/-- A block with a nonce 0 to 31, a command buffer and owner keys. -/
def secured (l : List (Field × Nat)) (buf : List Nat) (keys : Table (Bool × List Nat)) : Block :=
  let b := (live l).putSec 0x110200 buf
  { b with boot := { b.boot with nonce := some (List.range 32), image := some [], fuses := ⟨keys, 0, 0, 0⟩ } }

/-- Keys made so that a signature of a chosen form verifies over a command, its arguments and the nonce. -/
def key4 : List Nat := keyBytes
  0x8c246aa5e96daf58b065e76d99cf961188fde0700f06bedb320bb277d93f066a4822ee96bb850e1f9ba61b0505012884
  0x4f0e99760af442f3e5454bfe6e623fcd13ad580c29938df24fcc9bf36ed2fee5b1bb1d54bb93948612bf4d5de02902c7
def sig4 : List Nat :=
  beBytes 48 0x80d7829b518b8c0c8361dcffcaeed13c1192edbc3b6acec45575488fc4a45c34a4a8f52ec754c4ea5374ff62adba810c ++
    beBytes 48 0x2af280de7083d95981209effee4f9b1405dba49413ce44ec1c7c6d85418c1ebc36e2fc64ed1c41a37126ffcb8f3e2b04
def key8 : List Nat := keyBytes
  0x8280fd9bef3ccca01ae89a7dc489ed2f68da01a2f68a9d9da89c02ffc9b5cc50bf91114ea5a70ce8c5d82e43e5917f07
  0x53cd13b687f330e91d13712ff97965c9879103ec760622ea6d10551876387373efe7db13fc1cccdb3b465122be7b9eb1
def sig8 : List Nat :=
  beBytes 48 0x35b4e2961a494620f585922ec15c95bce0804be7c4e876ae09076212c2a216f91b7c4be460ed85b10d4a77672e707414 ++
    beBytes 48 0x40cf55b2e9d5e66dac4bab39b0c0f28951e53efb3b6999cb0d5f457fcf8cbee04e3d00dbeecf18406d9b8dce07d19dd3
def key9 : List Nat := keyBytes
  0x3521365fcad7451a3b073607bc2be6d35b85d4283f4afce89536a8410542b4b400f86896faa82253ed4fd7a5115e847c
  0x5ce061fa621a40cf55442b90decd03b8cb6ff1a443e85cd1b47de43418de6671b3e22b11a41623da63e7e7664100d5a6
def sig9 : List Nat :=
  beBytes 48 0x439f4bafd95801d040cc007a8b509d66042e8ee86a452c1019db3176f9f287e9e422aed54bfd604db057ed7b631c4e80 ++
    beBytes 48 0x439f4bafd95801d040cc007a8b509d66042e8ee86a452c1019db3176f9f287e9e422aed54bfd604db057ed7b631c4e80

/-- SHA-384 of "abc" (FIPS 180-4's example). -/
theorem test_sha384 : sha384 [0x61, 0x62, 0x63] = beBytes 48
    0xcb00753f45a35e8bb5a03d699ac65007272c32ab0eded1631a8b605a43ff5bed8086072ba1e7cc2358baeca134c825a7 := by decide +kernel

theorem meets_SecCommandsRun_plain :
    let b := secured [] [] []
    let c := { b with boot := { b.boot with nonce := none } }
    owl.wf = true ∧ b.secBusy = false ∧ c.secBusy = false ∧ b.acts owl 0x110010 1 = true ∧ b.acts owl 0x110010 2 = true ∧ b.boot.nonce ≠ none ∧
      c.acts owl 0x110010 2 = true ∧ c.boot.nonce = none ∧ b.acts owl 0x110010 5 = true ∧ b.acts owl 0x110010 6 = true ∧
      b.flag F.SEC_NVM_CTRL_OPEN = false := by decide +kernel

theorem meets_SecCommandsRun_confirm :
    let b := secured [(F.SYS_STATE_TRIAL, 1)] [] []
    b.secBusy = false ∧ b.acts owl 0x110010 3 = true ∧ b.boot.image = some [] ∧ b.get F.SYS_STATE_BOOT_SEL ≠ 3 ∧ b.flag F.SYS_STATE_TRIAL = true := by
  decide +kernel

theorem meets_SecCommandsRun_openNvm :
    let b := secured [] ([1, 0, 0, 0] ++ sig4) [(0, false, key4)]
    let c := secured [] [1, 0, 0, 0] [(0, false, key4)]
    b.secBusy = false ∧ b.acts owl 0x110010 4 = true ∧ b.signedCmd 4 (b.cmdBuf.take 4) ((b.cmdBuf.drop 4).take 96) = true ∧
      u32 (b.cmdBuf.take 4) 0 = 1 - b.get F.SYS_STATE_SLOT ∧ c.secBusy = false ∧ c.acts owl 0x110010 4 = true ∧
      c.signedCmd 4 (c.cmdBuf.take 4) ((c.cmdBuf.drop 4).take 96) = false := by decide +kernel

theorem meets_SecCommandsRun_verifySlot :
    let b := secured [(F.SEC_NVM_CTRL_OPEN, 1), (F.SEC_NVM_CTRL_SLOT, 1)] [] []
    b.secBusy = false ∧ b.acts owl 0x110010 6 = true ∧ b.flag F.SEC_NVM_CTRL_OPEN = true ∧
      (verify (b.get F.IDN_STEP_MODULE_STEP) b.boot.fuses (slotContainer b.boot.flash (b.get F.SEC_NVM_CTRL_SLOT))).decFail = false := by
  decide +kernel

theorem meets_SecCommandsRun_keys :
    let a := secured [] ([3, 0, 0, 0] ++ key4) []
    let b := secured [] [3, 0, 0, 0] [(0, false, key4)]
    let c := secured [] ([0, 0, 0, 0] ++ sig8) [(0, false, key8)]
    let d := secured [] ([0, 0, 0, 0] ++ sig8) [(0, false, key8), (1, false, key4)]
    (a.acts owl 0x110010 7 = true ∧ a.boot.fuses.keys = [] ∧ u32 (a.cmdBuf.take 101) 0 ≤ 3 ∧
      (keyPoint ((a.cmdBuf.take 101).drop 4)).isSome = true) ∧
    (b.acts owl 0x110010 7 = true ∧ b.boot.fuses.keys ≠ [] ∧ b.signedCmd 7 (b.cmdBuf.take 101) ((b.cmdBuf.drop 104).take 96) = false) ∧
    ∀ x ∈ [c, d], x.acts owl 0x110010 8 = true ∧ x.signedCmd 8 (x.cmdBuf.take 4) ((x.cmdBuf.drop 4).take 96) = true ∧
      x.boot.fuses.activeKey (u32 (x.cmdBuf.take 4) 0) = some key8 := by decide +kernel

theorem meets_SecCommandsRun_debug :
    let b := secured [] (List.range 32 ++ [5, 0, 0, 0] ++ sig9) [(0, false, key9)]
    let c := secured [] [1] [(0, false, key9)]
    (b.acts owl 0x110010 9 = true ∧ b.boot.nonce = some ((b.cmdBuf.take 36).take 32) ∧
      b.signedCmd 9 (b.cmdBuf.take 36) ((b.cmdBuf.drop 36).take 96) = true) ∧
    c.acts owl 0x110010 9 = true ∧ c.boot.nonce ≠ some ((c.cmdBuf.take 36).take 32) := by decide +kernel

theorem meets_SecAndFlashOperationsEnd :
    let b := live []
    let run := { b with boot := { b.boot with run := some ⟨4, 1⟩ } }
    let open_ := live [(F.SEC_NVM_CTRL_OPEN, 1), (F.SEC_NVM_CTRL_SLOT, 1)]
    let nvm (op tick : Nat) : Block := { b with tick := tick, boot := { b.boot with nvm := some ⟨op, 0, [], 0⟩ } }
    (run.boot.run = some ⟨4, 1⟩ ∧ run.ccOn = true) ∧
    (b.flag F.SEC_NVM_CTRL_NVM_BUSY = false ∧ b.flag F.SEC_NVM_CTRL_OPEN = false ∧ b.acts owl 0x110024 3 = true) ∧
    (open_.flag F.SEC_NVM_CTRL_NVM_BUSY = false ∧ open_.flag F.SEC_NVM_CTRL_OPEN = true ∧ open_.acts owl 0x110024 1 = true ∧
      open_.acts owl 0x110024 2 = true ∧ open_.acts owl 0x110024 3 = true ∧ nvmDenied 1 0 0x10000 = true ∧ nvmDenied 1 0x1000000 256 = false) ∧
    (∀ op ∈ ([1, 2, 3] : List Nat), (nvm op 0).boot.nvm = some ⟨op, 0, [], 0⟩) ∧ 0 + 3 * sTicks ≤ (nvm 1 750000000).tick ∧
    0 + 5 * msTicks ≤ (nvm 2 1250000).tick := by decide +kernel

theorem meets_RunningOperationsRefuseCommands :
    let b := live [(F.SEC_CMD_STAT_BUSY, 1)]
    let c := live [(F.SEC_NVM_CTRL_NVM_BUSY, 1)]
    let d := live []
    (b.secBusy = true ∧ (∀ n ∈ ([1, 2, 3, 4, 5, 6, 7, 8, 9] : List Nat), b.acts owl 0x110010 n = true) ∧ b.acts owl 0x10010 restartKey = true) ∧
    (c.flag F.SEC_NVM_CTRL_NVM_BUSY = true ∧ ∀ n ∈ ([1, 2, 3] : List Nat), c.acts owl 0x110024 n = true) ∧
    d.secBusy = false ∧ d.acts owl 0x10010 restartKey = true := by decide +kernel

/-! ### Register access -/

/-- A block that holds the _LO word 7 of 0xa0100 for the Owl. -/
def holding : Block := (live []).hold .owl 0xa0100 7

theorem meets_RegisterWritesAct :
    let b := live []
    let f (u : Nat) : Block := live [(F.TDC_PIN_CFG_FUNCTION u, 3)]
    b.acts owl 0xf0118 5 = true ∧ b.acts owl 0x10100 (setBit 0 31 true) = true ∧
      (b.takes owl = true ∧ b.admits owl 0xa0100 true = true ∧ wideAt 0xa0100 = .lo ∧ hasRw 0xa0100 = true ∧ b.lockedBits .owl 0xa0100 = []) ∧
      (holding.takes owl = true ∧ holding.admits owl 0xa0104 true = true ∧ wideAt 0xa0104 = .hi ∧ holding.lockedBits .owl 0xa0104 = [] ∧
        holding.lockedBits .owl 0xa0100 = [] ∧ holding.heldFor .owl 0xa0104 = some 7 ∧ holding.mirrorUp = false) ∧
      ∀ u ∈ ([0, 7] : List Nat), b.acts owl (0x76000 + 0x10 * (1984 + u)) (setBit 0 31 true) = true ∧ b.pinFunction u ≠ 3 ∧
        (f u).acts owl (0x76000 + 0x10 * (1984 + u)) (setBit 0 31 true) = true ∧ (f u).pinFunction u = 3 := by decide +kernel

theorem meets_RegisterWritesAct_locked :
    let b := live []
    (b.lands owl 0x231400 1 = true ∧ b.allLocked_ .owl 0x231400 = true ∧ (b.unlockedWord owl 0x231400 1).2 = true) ∧
    (b.lands owl 0x231400 0 = true ∧ (b.unlockedWord owl 0x231400 0).2 = false) ∧
    b.lands owl 0x20108 0xA0000000 = true ∧ b.allLocked_ .owl 0x20108 = false ∧ b.unlockedWord owl 0x20108 0xA0000000 = (0x20000000, true) ∧
      (regOp .owl 0x20108 none 0x20000000 (b.touched 0x20108)).2 = .ok := by decide +kernel

theorem meets_RegisterWritesAct_op : regOp .owl 0xa0104 = fieldsOp 0xa0104 := by simp [regOp, tileOf, coreOp]

theorem meets_ReadsLatchAndClear :
    let b := live []
    let c := b.setShadow .owl 0x70010 3
    (b.reads owl 0x10024 = true ∧ wideAt 0x10024 = .no) ∧ (b.reads owl 0x70010 = true ∧ wideAt 0x70010 = .lo) ∧
      (c.reads owl 0x70014 = true ∧ wideAt 0x70014 = .hi ∧ lookup (c.touched 0x70014).access.shadows owl.who.code = some ⟨0x70010, 3⟩) ∧
      b.reads owl 0x70014 = true ∧ lookup (b.touched 0x70014).access.shadows owl.who.code = none := by decide +kernel

theorem meets_RefusedAccesses :
    let b := live []
    let n : Access := ⟨.node 4095, 65535⟩
    let off := live [(F.PWR_D_STAT_STATE 3, 0)]
    (n.wf = true ∧ b.takes n = true ∧ b.mirrorUp = false ∧ inWindow 0x10024 = false ∧ apertureAt 0x10024 = none ∧ b.authorised n.who = false) ∧
    (b.takes owl = true ∧ b.authorised .owl = true ∧ (regRow 0x12ff00).isNone = true ∧ domainAt 0x12ff00 = none ∧ inWindow 0x12ff00 = false ∧
      apertureAt 0x12ff00 = none) ∧
    (off.takes owl = true ∧ off.mirrorUp = false ∧ tileOf 0x2c0120 = some 3 ∧ tierOAt 0x2c0120 = false ∧ off.get (F.PWR_D_STAT_STATE 3) ≠ 2 ∧
      off.flag (F.PWR_D_CTRL_WAKE_ON_ACCESS 3) = false) := by decide +kernel

theorem meets_RepeatedTagsAreAnsweredAgain :
    let a : Access := ⟨.node 5, 65535⟩
    let x : Answer := ⟨2, 0x10024, 1, .ok, []⟩
    let b := { live [] with access := ⟨[], [], [(5, [(65535, x)])], []⟩ }
    let c := { live [] with pair := { PairSt.reset with gap := some 0 } }
    (a.wf = true ∧ b.serving = true ∧ b.pair.gap = none ∧ b.behind a.who = false ∧ b.stored a = some x ∧ b.pair.queue = []) ∧
      c.serving = true ∧ c.pair.gap = some 0 := by decide +kernel

theorem meets_MirroredWritesWait :
    let b := live [(F.PAIR_STAT_MIRROR_UP, 1), (F.PAIR_STAT_SB_STATE, 4)]
    let x : MirrorItem := ⟨0, .request owl (.write 0xf0118 [5])⟩
    let c := { b with pair := { b.pair with queue := [x] } }
    (b.takes owl = true ∧ b.mirrorUp = true ∧ mirrored 0xf0118 5 = true ∧ (writeWord .owl 0xf0118 5 b).2 = .ok) ∧
      c.pair.queue = [x] ∧ c.mirrorUp = true ∧ c.pair.gap = none ∧ c.serving = true := by decide +kernel


/-! ### Check-value units, decompressor jobs, egress queues -/

theorem meets_CheckUnitsAreClaimedFedAndFreed : ∀ u ∈ ([0, 7] : List Nat),
    let own := 0xb0100 + 0x40 * u
    let free := live []
    let other := live [(F.CRC_U_OWN_CLAIMED u, 1), (F.CRC_U_OWN_OWNER u, 5)]
    let mine := live [(F.CRC_U_OWN_CLAIMED u, 1), (F.CRC_U_OWN_LOCAL u, 1)]
    let job := mine.setCrcUnit u ⟨0, some (0x0100000000, 4)⟩
    let late := { mine with tick := 10 * sTicks }
    (free.flag (F.CRC_U_OWN_CLAIMED u) = false ∧ free.acts owl own (2 ^ 29) = true) ∧
    (other.flag (F.CRC_U_OWN_CLAIMED u) = true ∧ other.ownsCrc .owl u = false ∧ other.acts owl own (2 ^ 29) = true ∧
      other.acts owl own (2 ^ 28) = true ∧ other.acts owl (0xb010c + 0x40 * u) 1 = true) ∧
    (mine.flag (F.CRC_U_OWN_CLAIMED u) = true ∧ mine.ownsCrc .owl u = true ∧ mine.flag (F.CRC_U_STAT_BUSY u) = false ∧
      mine.acts owl own (2 ^ 28) = true ∧ mine.acts owl (0xb010c + 0x40 * u) 1 = true ∧ mine.acts owl (0xb0108 + 0x40 * u) 1 = true ∧
      mine.acts owl (0xb0120 + 0x40 * u) (2 ^ 31) = true) ∧
    (job.ownsCrc .owl u = true ∧ (job.crcUnit u).job = some (0x0100000000, 4) ∧ job.acts owl (0xb0120 + 0x40 * u) (2 ^ 30) = true ∧
      job.ccOn = true ∧ job.upsetsIn 0x0100000000 4 = []) ∧
    late.ccOn = true ∧ late.flag (F.CRC_U_OWN_CLAIMED u) = true ∧ (late.crcUnit u).last + 10 * sTicks ≤ late.tick := by decide +kernel

theorem meets_DecompressorJobs :
    let idle := live []
    let busy := live [(F.LPS_DJ_STAT_BUSY, 1)]
    let run := { busy with chk := { busy.chk with dj := some ⟨0x0100000000, 4, 0x0500000000, 0, 0⟩ } }
    (idle.acts owl 0xa011c (2 ^ 31) = true ∧ ¬(idle.flag F.LPS_DJ_STAT_BUSY = true ∨ idle.phase = .verify ∨ idle.phase = .configure)) ∧
    (busy.acts owl 0xa011c (2 ^ 31) = true ∧ busy.flag F.LPS_DJ_STAT_BUSY = true) ∧
    run.ccOn = true ∧ run.chk.dj = some ⟨0x0100000000, 4, 0x0500000000, 0, 0⟩ ∧ run.upsetsIn 0x0100000000 4 = [] ∧
      run.flag F.ECC_STAT_CRITICAL = false := by decide +kernel

theorem meets_QueueConfigurationIsChecked : ∀ q ∈ ([0, 7] : List Nat),
    let b := live [(F.EGQ_CFG_EN 0, 0), (F.EGQ_CFG_ACTIVE 0, 0), (F.EGQ_CFG_SIZE_64M 0, 0)]
    let on := live [(F.EGQ_CFG_EN q, 1), (F.EGQ_CFG_SIZE_64M q, 1)]
    let addr := 0xc0100 + 0x80 * q
    (on.acts owl addr 0x80000002 = true ∧ 2 ≠ on.get (F.EGQ_CFG_SIZE_64M q) ∧ on.flag (F.EGQ_CFG_EN q) = true) ∧
    (b.acts owl addr 0x00003F02 = true ∧ 64 < 63 + 2) ∧ (b.acts owl addr 0x80000000 = true ∧ bitAt 0x80000000 31 = true) ∧
    (b.acts owl addr 0x80003F01 = true ∧ b.egqRefuses q 0x80003F01 = false) := by decide +kernel

/-- A queue with an unreleased record of 64 bytes that the Owl may read. -/
def filled (q : Nat) (rd mark : Option Nat) : Block :=
  (live [(F.EGQ_CFG_EN q, 1), (F.EGQ_CFG_ACTIVE q, 1), (F.EGQ_CFG_SIZE_64M q, 1), (F.EGQ_PUB_LO q, 64), (F.EGQ_WR_LO q, 64),
    (F.EGQ_RDR_LOCAL q, 1)]).setQueue q ⟨[(64, true)], [[0, 0, 0, 0]], rd, mark⟩

theorem meets_MarkRewindRelease : ∀ q ∈ ([0, 7] : List Nat),
    let addr := 0xc0108 + 0x80 * q
    let deny := live [(F.EGQ_RDR_ANY q, 0), (F.EGQ_RDR_NODE q, 9)]
    let b := filled q none none
    let m := filled q none (some 0)
    (deny.isReader .owl q = false ∧ ∀ n ∈ ([1, 2, 3, 4] : List Nat), deny.acts owl addr n = true) ∧
    (b.isReader .owl q = true ∧ (b.queue q).markFront = none ∧ (b.queue q).rdFront = none ∧
      ∀ n ∈ ([1, 2, 3, 4] : List Nat), b.acts owl addr n = true) ∧
    m.isReader .owl q = true ∧ m.acts owl addr 3 = true ∧ (m.queue q).markFront.isSome = true := by decide +kernel

theorem meets_BulkReads :
    let w := live []
    (∀ q ∈ ([0, 7] : List Nat),
      let deny := live [(F.EGQ_RDR_ANY q, 0), (F.EGQ_RDR_NODE q, 9)]
      let b := filled q none none
      let last := { b with regs := (b.put (F.EGQ_RD_LO q) 64).regs }
      (deny.takes owl = true ∧ deny.authorised .owl = true ∧ deny.ecc.upsets = [] ∧ deny.releasePending q = false ∧ deny.isReader .owl q = false) ∧
      (b.takes owl = true ∧ b.isReader .owl q = true ∧ (b.queue q).rdFront = none ∧ b.qRd q < b.qPub q ∧ b.qPoison q (b.qRd q) 64 = 0) ∧
      last.isReader .owl q = true ∧ (last.queue q).rdFront = none ∧ last.qPub q ≤ last.qRd q ∧ last.flag (F.EGQ_CFG_ACTIVE q) = true) ∧
    (∀ a ∈ ([0x0500000000, 0x067FFFFFC0] : List Nat), apertureAt a = none ∧ inWindow a = true ∧ a % 64 = 0 ∧ excluded a = true) ∧
    ∀ a ∈ ([0x0100000000, 0x04FFFFFFC0, 0x0680000000, 0x06FFFFFFC0] : List Nat),
      apertureAt a = none ∧ inWindow a = true ∧ a % 64 = 0 ∧ excluded a = false ∧ w.get (F.PWR_D_STAT_STATE (6 + w.active)) = 2 := by
  decide +kernel

/-! ### Beaver -/

/-- A block whose slot may run a program of one LOAD and one OUT on position 0, in both banks, with more fields set. -/
def looped (t slot : Nat) (l : List (Field × Nat)) : Block :=
  live ((([0, 1] : List Nat).flatMap fun k => [(F.BVR_OP_LO t slot k 0, 1), (F.BVR_OP_LO t slot k 1, 11), (F.BVR_S_BANK_PROG_LEN t slot k, 2)])
    ++ [(F.PCH_EXC_EXC_MODE (16 * t), 3), (F.SEC_EXPERT, 0xFFFFFFFF)] ++ l)

/-- The same with the slot RUNNING and a sample word waiting. -/
def running (t slot word : Nat) : Block :=
  (looped t slot [(F.BVR_S_STAT_STATE t slot, 1)]).setPch (16 * t) { PrecCh.reset with done := 1, last := some (word, 0, 0, 0, 0) }

theorem meets_LoopSlotCommands : ∀ x ∈ ([(0, 0), (3, 3)] : List (Nat × Nat)),
    let t := x.1
    let slot := x.2
    let addr := 0x230100 + 0x40000 * t + 0x80 * slot
    let b := looped t slot []
    let empty := live []
    let r := running t slot 0
    let inj := r.setLoop t slot { LoopSt.reset with gen := some ⟨0, 0, 0, 0⟩, cap := some ⟨0, 0⟩ }
    (∀ c ∈ [b, empty, r, inj], ∀ w ∈ ([1, 0x101, 2, 3, 4, 5, 6, 7, 8] : List Nat), c.acts owl addr w = true) ∧
    (∀ k ∈ ([0, 1] : List Nat), r.slotRuns t slot = true ∧ (empty.slotRuns t slot = false ∧ empty.bankValid t slot k = false) ∧
      b.slotRuns t slot = false ∧ b.bankValid t slot k = true ∧ b.outChannel t slot k = some (16 * t) ∧
      b.get (F.PCH_EXC_EXC_MODE (16 * t)) = 3 ∧ b.flag (F.PCH_DRV_OWNER_VALID (16 * t)) = false) ∧
    (b.slotState t slot ≠ 1 ∧ r.slotState t slot = 1 ∧ r.bankValid t slot (1 - r.bankOf t slot) = true ∧
      r.outChannel t slot (1 - r.bankOf t slot) = r.outChannel t slot (r.bankOf t slot)) ∧
    ((r.loop t slot).gen = none ∧ r.flag (F.BVR_S_INJ_CFG_WITH_CAP t slot) = false ∧ (inj.loop t slot).gen ≠ none ∧
      (inj.loop t slot).cap.isSome = true ∧ (r.loop t slot).cap = none) ∧
    ∀ i ∈ ([256, 511] : List Nat),
      let word := 0x231000 + 0x40000 * t + 0x1000 * slot + 4 * i
      r.acts owl word 1 = true ∧ 0 = r.bankOf t slot ∧ b.acts owl (word + 0x800) 1 = true ∧ b.slotState t slot = 0 := by decide +kernel

theorem meets_LoopExecutionsAndStalls : ∀ x ∈ ([(0, 0), (3, 3)] : List (Nat × Nat)),
    let t := x.1
    let slot := x.2
    let held := running t slot 16
    let r := running t slot 0
    let words (c : Block) : List (Nat × Option Nat) := c.execSamples t slot (c.program t slot 0)
    let late := { r with tick := 16 * ceilDiv (decimation 9 * 15625) 256 }
    (∀ c ∈ [held, r], c.ecc.upsets = [] ∧ bitAt (c.get F.TST_STAT_MASK) 5 = false ∧ c.pacing t slot = some (0, 0, 0, 0) ∧
      (c.loop t slot).next = none ∧ c.progPoisoned t slot 0 = false) ∧
    (((words held).any fun w => holds w.2) = true ∧ (held.bump (F.BVR_S_HOLD_CNT t slot)).execTrip t slot ≠ some 5) ∧
    (((words r).any fun w => holds w.2) = false ∧
      (after (.loopExecution t slot false) r).get (F.BVR_S_STAT_STATE t slot) = 1) ∧
    late.slotTakes t slot (16 * t) = true ∧
      max (late.loop t slot).start (((late.pch (16 * t)).last.map (·.2.2.2.2)).getD 0) + 16 * ceilDiv (decimation (late.pch (16 * t)).odr * 15625) 256
        ≤ late.tick := by decide +kernel

/-! ### Power -/

/-- An access of a node. -/
abbrev node (n : Nat) : Access := ⟨.node n, 0⟩

/-- A block that knows a neighbour of its own configuration. -/
def peered (n : Nat) (b : Block) : Block :=
  { b with fab := { b.fab with caps := [(0, ⟨0, false, false, true, n, 0, b.get F.IDN_CFGGEN, 0, 0, [], 0⟩)] } }

/-- A block with voters. -/
def votes (l : List Voter) : Block := peered 4095 { live [] with pwr := { (live []).pwr with voters := l } }

theorem meets_PowerVotes : ∀ d ∈ ([0, 18] : List Nat),
    let addr := 0x20104 + 0x10 * d
    let b := votes []
    let full := votes ((List.range 16).map fun i => ⟨d, i, false, 0, 0⟩)
    let lease := { votes [⟨d, 4095, false, 0, 1⟩] with tick := sTicks }
    let acc := (live [(F.PWR_D_STAT_VOTES d, 32)])
    let late := { acc with tick := sTicks }
    (∀ c ∈ [b, full], c.acts (node 4095) addr 1 = true ∧ c.acts (node 4095) addr 2 = true) ∧
    ((!full.pwr.voters.any fun x => x.dom == d && x.node == 4095) && decide (16 ≤ (full.pwr.voters.filter fun x => x.dom == d).length)) = true ∧
    (Instr.wf (.voteLeaseExpire d 4095) = true ∧ lease.phase.railsOn = true ∧ ⟨d, 4095, false, 0, 1⟩ ∈ lease.pwr.voters ∧
      0 + 1 * sTicks ≤ lease.tick) ∧
    (acc.phase.railsOn = true ∧ bitAt (acc.get (F.PWR_D_STAT_VOTES d)) 5 = true ∧ acc.tick < lookupD acc.pwr.accessTick d 0 + sTicks) ∧
    late.phase.railsOn = true ∧ bitAt (late.get (F.PWR_D_STAT_VOTES d)) 5 = true ∧
      lookupD late.pwr.accessTick d 0 + sTicks ≤ late.tick := by decide +kernel

theorem meets_PowerVotes_off : ∀ t ∈ ([0, 3] : List Nat),
    let addr := 0x200120 + 0x40000 * t
    let off (v : Nat) : Block := live [(F.PWR_D_STAT_STATE t, 0), (F.PWR_D_CTRL_WAKE_ON_ACCESS t, v)]
    ∀ v ∈ ([0, 1] : List Nat), addr % 4 = 0 ∧ tileOf addr = some t ∧ (off v).takes owl = true ∧ (off v).authorised .owl = true ∧
      tierOAt addr = false ∧ (off v).get (F.PWR_D_STAT_STATE t) ≠ 2 ∧
      (off v).flag (F.PWR_D_CTRL_WAKE_ON_ACCESS t) = (v == 1) := by decide +kernel

theorem meets_ForceAndTransitions : ∀ d ∈ ([0, 18] : List Nat),
    let b := peered 7 (live [])
    let forced (f : Nat) : Block := live [(F.IDN_CAP_TILE_PRESENT, 15), (F.PWR_D_CTRL_FORCE d, f)]
    let inState (n p : Nat) : Block := live [(F.PWR_D_STAT_STATE d, n), (F.PWR_D_STAT_PENDING d, p)]
    let w (v : Nat) : Nat := b.get (F.PWR_D_CTRL_WAKE_ON_ACCESS d) * 2 ^ 31 + v * 2 ^ 29
    (∀ f ∈ ([0, 1, 2] : List Nat), (forced f).heldOff d = false ∧ (forced f).get (F.PWR_D_CTRL_FORCE d) = f) ∧
    (∀ a ∈ [owl, node 7], ∀ v ∈ ([1, 2] : List Nat), b.acts a (0x20108 + 0x10 * d) (w v) = true ∧ v ≠ b.get (F.PWR_D_CTRL_FORCE d)) ∧
    ((forced 1).acts owl (0x20108 + 0x10 * d) (w 0) = true ∧ 0 ≠ (forced 1).get (F.PWR_D_CTRL_FORCE d)) ∧
    ((b.hostWho (.node 7) || Requester.node 7 == .owl) = false ∧ (b.hostWho .owl || Requester.owl == .owl) = true) ∧
    ∀ n ∈ ([0, 1, 2, 3] : List Nat), ∀ p ∈ ([0, 1, 2] : List Nat), (inState n p).get (F.PWR_D_STAT_STATE d) = n ∧
      (inState n p).get (F.PWR_D_STAT_PENDING d) = p := by decide +kernel

theorem meets_ForceAndTransitions_refused :
    let b := live []
    let fill := block .fill []
    (∀ d ∈ ([6, 7] : List Nat), b.acts owl (0x20108 + 0x10 * d) (b.get (F.PWR_D_CTRL_WAKE_ON_ACCESS d) * 2 ^ 31 + 2 * 2 ^ 29) = true ∧
      b.get (F.PWR_D_STAT_STATE (d - 2)) ≠ 0 ∧
      (live [(F.PWR_D_STAT_STATE (d - 2), 0)]).get (F.PWR_D_STAT_STATE (d - 2)) = 0) ∧
    fill.phase = .fill := by decide +kernel

theorem meets_LevelsAndSamples :
    let b := live [(F.FT_GROUP_ACT 0, 0x7FFF), (F.FT_GROUP_ACT 1, 0x7FFF), (F.FT_GROUP_ACT 2, 0x7FFF), (F.FT_GROUP_ACT 3, 0x7FFF)]
    let busy := live [(F.PWR_STAT_LEVEL_BUSY, 1)]
    let pend := { busy with pwr := { busy.pwr with levelPending := some 4 } }
    let off := Block.reset
    (b.acts owl 0x20010 0x80000001 = true ∧ bitAt 0x80000001 31 = true ∧ 1 < ingestLevel b.groupCount ∧ b.acts owl 0x20010 0x80000005 = true ∧
      ingestLevel b.groupCount ≤ 5 ∧ b.acts owl 0x20010 0 = true ∧ bitAt 0 31 = false) ∧
    (busy.phase.railsOn = true ∧ busy.flag F.PWR_STAT_LEVEL_BUSY = true ∧ busy.pwr.levelPending = none) ∧
    (pend.phase.railsOn = true ∧ pend.flag F.PWR_STAT_LEVEL_BUSY = true ∧ pend.pwr.levelPending = some 4) ∧
    b.flag F.PWR_STAT_LEVEL_BUSY = false ∧ off.phase = .off ∧ b.phase ≠ .off ∧ b.get F.BDG_P_MAX < 2 ^ 24 := by decide +kernel

theorem meets_SquirrelShedsOneStep :
    let b := live []
    let late := { b with tick := 262144 }
    let hot := live [(F.BDG_TJ, 106)]
    (b.phase.railsOn = true ∧ b.time.established = false ∧ b.tick < b.pwr.evalTick + 262144) ∧
    (late.phase.railsOn = true ∧ late.time.established = false ∧ late.pwr.evalTick + 262144 ≤ late.tick) ∧
    decide ((min 105 (hot.get F.BDG_LIMITS_TJ_CAP_C) : Nat) < hot.tj) = true ∧ decide ((min 105 (b.get F.BDG_LIMITS_TJ_CAP_C) : Nat) < b.tj) = false ∧
    (b.window.1 ≤ b.get F.BDG_AVG_MW * b.window.2 ∧ b.pwr.peak ≤ b.get F.BDG_PEAK_MW) ∧
    let c := live [(F.BDG_LIMITS_RUNG_EN, 63), (F.BDG_CHOICE_EFFORT_CAP, 3), (F.LPS_EFFORT_FLOOR, 1)]
    let d := live [(F.BDG_LIMITS_RUNG_EN, 62), (F.BDG_CHOICE_SCRUB_H, 4), (F.BDG_SCRUB_SCRUB_SLOW_H, 8)]
    (bitAt (c.get F.BDG_LIMITS_RUNG_EN) 0 = true ∧ (c.shedRung 1).isSome = true) ∧ bitAt (d.get F.BDG_LIMITS_RUNG_EN) 1 = true ∧
      bitAt (d.get F.BDG_LIMITS_RUNG_EN) 0 = false ∧ (d.shedRung 2).isSome = true := by decide +kernel

theorem meets_HibernateWakes :
    let b := live []
    let hib (m wakeS tick : Nat) (armed : Bool) : Block :=
      let c := block .hibernate [(F.PWR_HIB_LANE, m * 0x55555555)]
      { c with tick := tick, pwr := { c.pwr with wakeS := wakeS, armed := armed } }
    (b.phase.railsOn = true ∧ b.flag F.SEC_NVM_CTRL_NVM_BUSY = false) ∧
    ((hib 0 1 sTicks false).phase = .hibernate ∧ (hib 0 1 sTicks false).pwr.wakeS ≠ 0 ∧
      (hib 0 1 sTicks false).pwr.hibTick + (hib 0 1 sTicks false).pwr.wakeS * sTicks ≤ (hib 0 1 sTicks false).tick) ∧
    (hib 0 1 (sTicks - 1) false).tick < (hib 0 1 (sTicks - 1) false).pwr.hibTick + (hib 0 1 (sTicks - 1) false).pwr.wakeS * sTicks ∧
    ((hib 0 0 (10 * msTicks) false).pwr.armed = false ∧ (hib 0 0 (10 * msTicks) false).pwr.hibTick + 10 * msTicks ≤ (hib 0 0 (10 * msTicks) false).tick) ∧
    ∀ m ∈ ([0, 1, 2] : List Nat), ∀ l ∈ ([0, 15] : List Nat), (hib m 0 0 true).pwr.armed = true ∧
      (hib m 0 0 true).get F.PWR_HIB_LANE / 4 ^ l % 4 = m := by decide +kernel

/-! ### Fast channels and Woodpecker -/

/-- A block that samples every group, with fast channel `c` on and more fields set. -/
def sampling (c : Nat) (l : List (Field × Nat)) : Block :=
  live (([0, 1, 2, 3] : List Nat).map (fun t => (F.FT_GROUP_ACT t, 0x7FFF)) ++ [(F.FCH_CFG_MODE c, 1), (F.FCH_CFG_POLARITY c, 0)] ++ l)

theorem meets_FastSampleInstants :
    let b := sampling 0 []
    let c := { b with fast := { b.fast with last := some 0 } }
    let n := { b with fast := { b.fast with settle := [(0, 0), (959, 0)] } }
    (Instr.wf (.fastSampleInstant [⟨959, 0, false, 0⟩]) = true ∧ b.phase.railsOn = true ∧ b.fast.last = none) ∧
    (c.fast.last = some 0 ∧ c.tick < 0 + 25) ∧ ({ c with tick := 25 } : Block).tick = 25 ∧
    (b.modeOn 0 = true ∧ b.modeOn 1 = false) ∧
    ∀ k ∈ ([0, 959] : List Nat), lookup n.fast.settle k = some 0 ∧ lookup b.fast.settle k ≠ some 0 := by decide +kernel

theorem meets_DiscriminatorHits : ∀ c ∈ ([0, 959] : List Nat), ∀ k ∈ ([0, 255] : List Nat),
    let b := sampling c []
    let dual := sampling c [(F.FCH_CFG_DISC_DUAL c, 1), (F.FCH_THR_THR_LO c, 10), (F.FCH_THR_THR_HI c, 20)]
    let held := { b with fast := { b.fast with hold := [(c, 5)] } }
    let dead := { b with tdc := { b.tdc with lastEdge := [(c, 0)] } }
    let full := { b with tdc := { b.tdc with hits := (List.range 16).map fun i => ⟨c, i, false, 0, 0, 0, 0, 0, 0⟩ } }
    let pend := b.setDisc c ⟨true, some (b.crossing 0), false⟩
    let hit := (sampling c [(F.FT_TDC_TRAIL (c / 240), 0x7FFF)]).setDisc c ⟨true, none, true⟩
    let slow := { b with fast := { b.fast with settle := [(c, 3)] } }
    (live []).discOn c = false ∧ slow.discOn c = true ∧ lookup slow.fast.settle c ≠ none ∧ (slow.discOf c).active = false ∧ (slow.discOf c).pend = none ∧
    (∀ x ∈ [b, dual, held, full, pend, hit], x.discLive c = true ∧ x.calHas c false = false ∧ x.inDeadTime c (x.crossing k) = false) ∧
    (∀ x ∈ [b, full, dead], (x.discOf c).active = false ∧ lookup x.fast.hold c = none ∧ x.dual c = false) ∧
    dead.discLive c = true ∧ dead.inDeadTime c (dead.crossing 0) = true ∧ dead.inDeadTime c (dead.crossing 255) = false ∧
    (b.tdc.hits.filter fun y => y.source == c).length < 16 ∧ 16 ≤ (full.tdc.hits.filter fun y => y.source == c).length ∧
    (pend.discOf c).active = true ∧ lookup held.fast.hold c ≠ none ∧ dual.dual c = true ∧ (pend.discOf c).pend = some (b.crossing 0) ∧
    pend.inDeadTime c (b.crossing 0) = false ∧ (b.discOf c).pend = none ∧
    ((hit.discOf c).hit && bitAt (hit.get (F.FT_TDC_TRAIL (c / 240))) (c % 240 / 16)) = true ∧
    ((b.discOf c).hit && bitAt (b.get (F.FT_TDC_TRAIL (c / 240))) (c % 240 / 16)) = false ∧
    lookup held.fast.hold c = some 5 ∧ held.tick < 5 := by decide +kernel

theorem meets_PinEdges : ∀ i ∈ ([0, 7] : List Nat),
    let b (f : Nat) (l : List (Field × Nat)) : Block := live ((F.TDC_PIN_CFG_FUNCTION i, f) :: l)
    let held := { b 1 [] with tdc := { (b 1 []).tdc with pinHold := [(i, 1)] } }
    ((b 0 []).phase.railsOn = true ∧ (b 0 []).get (F.TDC_PIN_CFG_FUNCTION i) = 0) ∧
    ((b 2 []).get (F.TDC_PIN_CFG_FUNCTION i) = 2 ∧ (4 ≤ i → (b 2 []).pinFunction i = 1)) ∧
    ((false != (b 1 []).flag (F.TDC_PIN_CFG_INVERT i)) = (b 1 []).flag (F.TDC_PIN_STAT i)) ∧
    (∀ f ∈ ([1, 2, 3] : List Nat), (b f []).get (F.TDC_PIN_CFG_FUNCTION i) ≠ 0 ∧
      (true != (b f []).flag (F.TDC_PIN_CFG_INVERT i)) = true ∧ (b f []).flag (F.TDC_PIN_STAT i) = false ∧ (b f []).calHas (1024 + i) false = false ∧
      lookup (b f []).tdc.pinHold i = none ∧ (b f []).inDeadTime (1024 + i) ((b f []).crossing 255) = false ∧
      ((b f []).tdc.hits.filter fun y => y.source == 1024 + i).length < 64) ∧
    (lookup held.tdc.pinHold i = some 1 ∧ held.tick < 1) ∧
    ((false != (b 1 [(F.TDC_PIN_STAT i, 1)]).flag (F.TDC_PIN_CFG_INVERT i)) = false ∧ (b 1 [(F.TDC_PIN_STAT i, 1)]).flag (F.TDC_PIN_STAT i) = true ∧
      (b 1 [(F.TDC_PIN_STAT i, 1)]).flag (F.TDC_PIN_CFG_TRAIL_EN i) = false ∧
      (b 1 [(F.TDC_PIN_CFG_TRAIL_EN i, 1)]).flag (F.TDC_PIN_CFG_TRAIL_EN i) = true) := by decide +kernel

theorem meets_HitsAreReleasedInOrder :
    let h (c : Nat) : Hit := ⟨c, 0, false, 0, 0, 0, 0, 0, 0⟩
    let b (l : List (Field × Nat)) (c n : Nat) : Block := { live l with tick := n, tdc := { (live l).tdc with hits := [h c, ⟨c, 5, false, 5, 0, 0, 0, 0, 0⟩] } }
    let w : GateWindow := ⟨3, some (7, 0)⟩
    (live []).tdc.hits = [] ∧
    (∀ c ∈ ([0, 959, 1031] : List Nat), nextHit (b [] c 63).tdc.hits = some (h c) ∧ (b [] c 63).tick < (h c).tick + 64 ∧
      (h c).tick + 64 ≤ (b [] c 64).tick ∧ (b [] c 64).admitted (h c) = true) ∧
    (b [(F.FT_TDC_ARM0 0, 8)] 0 64).admitted (h 0) = false ∧ (b [] 0 64).ccOn = true ∧ w.lead < 7 ∧ w.trail = some (7, 0) := by decide +kernel

theorem meets_TdcCalibration :
    let b := live [(F.SEC_EXPERT, 0xFFFFFFFF), (F.TDC_CAL_CFG_LOG2_HITS, 16)]
    let run (live_ : Bool) (l : List Nat) : Block := { b with tdc := { b.tdc with cal := some ⟨live_, 0, l, []⟩ } }
    let tbl (f : Nat → Nat) : List Nat := (List.range 256).map f
    let late := { run true [5] with tick := sTicks * max 1 (b.get F.TDC_CAL_CFG_TIMEOUT_S) }
    let go := setBit 0x10000000 31 true
    (b.acts owl 0x60010 go = true ∧ bitAt go 30 = false ∧ b.tdc.cal = none ∧ bitsOf go 29 28 = 1) ∧
    ((run false [5]).acts owl 0x60010 go = true ∧ (run false [5]).tdc.cal ≠ none) ∧
    ((run false [5]).acts owl 0x60010 (setBit 0 30 true) = true ∧ bitAt (setBit 0 30 true) 31 = false) ∧
    (b.acts owl 0x61200 (setBit 0 31 true) = true ∧ b.windowRefuse = none) ∧
    (Instr.wf (.tdcCalSourceDone 1031 (tbl fun _ => 256)) = true ∧ (run false [1031]).tdc.cal = some ⟨false, 0, [1031], []⟩) ∧
    ((tbl fun _ => 2 ^ 8).length = 256 ∧ (run false [5]).calHits = (tbl fun _ => 2 ^ 8).sum ∧ uniform (tbl fun _ => 2 ^ 8) = true) ∧
    (let l := tbl fun i => if i = 0 then 0 else if i = 1 then 2 ^ 9 else 2 ^ 8
     (run false [5]).calHits = l.sum ∧ uniform l = false) ∧
    (late.tdc.cal = some ⟨true, 0, [5], []⟩ ∧ 0 + max 1 (late.get F.TDC_CAL_CFG_TIMEOUT_S) * sTicks ≤ late.tick) := by decide +kernel

/-! ### Precision channels -/

/-- A block at a tick with a precision channel's state replaced. -/
def prec (n tick : Nat) (f : PrecCh → PrecCh) (l : List (Field × Nat)) : Block := { (live l).setPch n (f PrecCh.reset) with tick := tick }

theorem meets_FrontEndWrites : ∀ n ∈ ([0, 63] : List Nat),
    let base := 0x220000 + 0x40000 * (n / 16) + 0x100 * (n % 16)
    let b := live []
    let drive := live [(F.PCH_EXC_EXC_MODE n, 3)]
    let owned := live [(F.PCH_DRV_OWNER_VALID n, 1)]
    let hot := live ((List.range 64).flatMap fun m => [(F.PCH_EXC_EXC_MODE m, 3), (F.PCH_DRV_DRV_ILIM m, if m < 24 then 13 else 12)])
    let fault := live [(F.PCH_FAULT_CM_INP n, 1)]
    let x1 := 2 ^ 30 + 5 * 2 ^ 16 + 1000
    (drive.acts owl base 2 = true ∧ drive.get (F.PCH_EXC_EXC_MODE n) = 3 ∧ b.acts owl base 2 = true ∧ b.get (F.PCH_EXC_EXC_MODE n) ≠ 3) ∧
    (owned.acts owl (base + 8) x1 = true ∧ owned.flag (F.PCH_DRV_OWNER_VALID n) = true ∧ b.acts owl (base + 8) x1 = true ∧
      b.excSum - b.excPowerOf n + excPower 1 1000 5 (b.get (F.PCH_DRV_DRV_ILIM n)) ≤ 4000000 ∧ b.flag (F.PCH_DRV_OWNER_VALID n) = false ∧
      b.get (F.PCH_EXC_EXC_MODE n) ≠ 1 ∧ (live [(F.PCH_EXC_EXC_MODE n, 1)]).acts owl (base + 8) x1 = true) ∧
    (hot.acts owl (base + 0x20) (25 * 2 ^ 20) = true ∧ 4000000 < hot.excSum - hot.excPowerOf n + excPower 3 0 0 25 ∧
      hot.excSum - hot.excPowerOf n + excPower 3 0 0 12 ≤ 4000000 ∧ b.acts owl (base + 0x20) (25 * 2 ^ 20) = true) ∧
    (fault.acts owl (base + 0x18) 1 = true ∧ fault.faultBits n ≠ 0 ∧
      ((fault.touched (base + 0x18)).writeFields (base + 0x18) 1).faultBits n = 0 ∧ b.acts owl (base + 0x18) 1 = true ∧ b.faultBits n = 0) := by
  decide +kernel

theorem meets_FaultsAndLimits : ∀ n ∈ ([0, 63] : List Nat),
    let b := live [(F.PCH_IN_INPUT_MODE n, 3)]
    let exc (m : Nat) : Block := live [(F.PCH_IN_INPUT_MODE n, 1), (F.PCH_EXC_EXC_MODE n, m)]
    let f (l : List Nat) (m : Nat) : Block := live (l.map (fun k => (faultField n k, 1)) ++ [(F.PCH_FAULT_FAULT_MODE n, m)])
    (∀ c ∈ ([0, 1, 2, 3] : List Nat), b.tileOn (n / 16) = true ∧ b.monitored n c = true ∧ b.flag (faultField n c) = false) ∧
    (b.flag (F.PCH_STAT_SENSE_LOCAL n) = false ∧ (live []).monitored n 0 = false) ∧
    ((exc 1).excOn n = true ∧ (exc 1).get (F.PCH_EXC_EXC_MODE n) ≠ 3 ∧ (exc 1).flag (F.PCH_FAULT_EXC_LIMIT n) = false) ∧
    (b.excOn n = false ∧ (exc 3).excOn n = true ∧ (exc 3).get (F.PCH_EXC_EXC_MODE n) = 3) ∧
    ∀ k ∈ ([0, 4] : List Nat), (f [k] 0).flag (faultField n k) = true ∧ (f [k] 0).flag (F.PCH_FAULT_FAULT_MODE n) = false ∧
      (f [k] 1).flag (F.PCH_FAULT_FAULT_MODE n) = true ∧ ((f [k] 1).put (faultField n k) 0).faultBits n = 0 ∧
      ((f [0, 1, 2, 3, 4] 1).put (faultField n k) 0).faultBits n ≠ 0 := by decide +kernel

theorem meets_ExcitationAndSettling : ∀ n ∈ ([0, 63] : List Nat),
    let rev (k : Nat) : Block := prec n 0 (fun c => { c with rev := k }) [(F.PCH_EXC_EXC_MODE n, 2), (F.PCH_REV n, 40)]
    let duty (g tick : Nat) (on : Bool) : Block := prec n tick (fun c => { c with dutyOn := on }) [(F.PCH_DUTY_DUTY_GRANT n, g), (F.PCH_DUTY_EXC_PERIOD n, 2)]
    let wait (tick : Nat) : Block := prec n tick (fun c => { c with refWait := some 9, settle := some 0 }) []
    let cfg (t : Nat) : Block := prec n 2500000 (fun c => { c with cfgTick := some t }) [(F.PCV_CFG_ODR n, 9)]
    ((rev 40).tileOn (n / 16) = true ∧ (rev 40).get (F.PCH_EXC_EXC_MODE n) = 2 ∧ max ((rev 40).get (F.PCH_REV n)) (6 * (rev 40).lenNow n) ≤ ((rev 40).pch n).rev) ∧
    ((rev 39).pch n).rev < max ((rev 39).get (F.PCH_REV n)) (6 * (rev 39).lenNow n) ∧
    ((duty 128 (2 * sTicks) true).get (F.PCH_DUTY_DUTY_GRANT n) ≠ 256 ∧
      ((duty 128 (2 * sTicks) true).pch n).dutyStart + (duty 128 (2 * sTicks) true).dutyPeriod n ≤ (duty 128 (2 * sTicks) true).tick) ∧
    (((duty 128 sTicks true).pch n).dutyOn = true ∧
      ((duty 128 sTicks true).pch n).dutyStart * 256 + (duty 128 sTicks true).dutyPeriod n * 128 ≤ (duty 128 sTicks true).tick * 256) ∧
    (duty 256 0 true).get (F.PCH_DUTY_DUTY_GRANT n) = 256 ∧
    (((wait 9).pch n).refWait = some 9 ∧ 9 ≤ (wait 9).tick ∧ (wait 8).tick < 9 ∧ ((wait 8).pch n).settle = some 0 ∧ ((cfg 0).pch n).settle ≠ some 0) ∧
    (((cfg 2497500).pch n).cfgTick = some 2497500 ∧ (cfg 2497500).blockAt ((cfg 2497500).get (F.PCV_CFG_ODR n)) = some 1 ∧
      2497500 + 2500 ≤ (cfg 2497500).tick ∧ (cfg 2497501).tick < 2497501 + 2500) := by decide +kernel

theorem meets_PrecisionSamples : ∀ n ∈ ([0, 63] : List Nat),
    let b := prec n 2500000 id [(F.PCH_IN_INPUT_MODE n, 1)]
    let x : PrecInput := ⟨5, 2500000, 0, 0, false⟩
    (b.blockAt (b.pch n).odr = some 1 ∧ b.converting n = true ∧ (b.pch n).block ≠ 1 ∧
      ((((b.lookPrec n).precMeasures n x).coefCheck n (b.pch n).range).pch n).range < 8) ∧
    (prec n 2500001 id [(F.PCH_IN_INPUT_MODE n, 1)]).blockAt 9 = none ∧ (live []).converting n = false := by decide +kernel

theorem meets_PrecisionBuffers :
    let b := live []
    let x (n : Nat) : PrecStore := .sample n 0 256 0 0 0 9 0 false
    let p : Page := ⟨0, 0, 0, 0, 9, 0, false, 1⟩
    let s (n : Nat) : Block := { b with prec := { b.prec with store := [x n] } }
    let c (n : Nat) : Block := { b with prec := { b.prec with store := [.close n], pages := [(n, p)] } }
    b.prec.store = [] ∧ ∀ n ∈ ([0, 63] : List Nat), ((s n).ccOn = true ∧ (s n).prec.store = x n :: []) ∧ (c n).ccOn = true ∧
      (c n).prec.store = .close n :: [] ∧ lookup (c n).prec.pages n = some p ∧ p.first + 256 < 2 ^ 64 := by decide +kernel

theorem meets_OnDemandAndCalibration_requests :
    let b (m : Nat) : Block := live [(F.CNV_OD_STAT, m)]
    let od (k u tick : Nat) : Block :=
      let c := live [(F.CNV_OD_CTRL_URGENT k, u), (F.PCV_CFG_ODR 0, 9)]
      { c with tick := tick, prec := { c.prec with od := [(k, 0)] } }
    ((b 255).acts owl 0x130030 63 = true ∧ ∀ k < 8, bitAt ((b 255).get F.CNV_OD_STAT) k = true) ∧
    (∀ k ∈ ([0, 7] : List Nat), (b (2 ^ k - 1)).acts owl 0x130030 63 = true ∧ bitAt ((b (2 ^ k - 1)).get F.CNV_OD_STAT) k = false ∧
      ∀ j < k, bitAt ((b (2 ^ k - 1)).get F.CNV_OD_STAT) j = true) ∧
    (∀ k ∈ ([0, 7] : List Nat), lookup (od k 0 250000000).prec.od k = some 0 ∧ (od k 0 250000000).ccOn = true ∧
      0 + 250000000 ≤ (od k 0 250000000).tick ∧ (od k 0 249999999).tick < 0 + 250000000 ∧
      0 + ((od k 1 9999999999).periodTicks 0 + 2500) ≤ (od k 1 9999999999).tick) ∧
    ∀ k ∈ ([0, 7] : List Nat), (live [(F.CNV_OD_CTRL_DONE k, 1)]).acts owl (0x13010c + 0x10 * k) 0x80000000 = true := by decide +kernel

theorem meets_OnDemandAndCalibration_steps :
    let go (step : Nat) : Nat := setBit (step * 256 + 63) 31 true
    let b := live [(F.SEC_EXPERT, 0xFFFFFFFF)]
    let on := live [(F.PCH_IN_INPUT_MODE 63, 1)]
    let busy := live [(F.CNV_CAL_STAT_BUSY, 1)]
    let run (x : CalStep) (l : List (Field × Nat)) : Block := { live l with prec := { (live l).prec with cal := some x } }
    let x (step : Nat) (sum : Int) : CalStep := ⟨63, step, 4, 4, sum, true⟩
    (∀ step ∈ ([1, 2] : List Nat), bitAt (go step) 30 = false ∧ bitsOf (go step) 9 8 = step ∧ on.acts owl 0x130010 (go step) = true ∧
      b.acts owl 0x130010 (go step) = true ∧ busy.acts owl 0x130010 (go step) = true) ∧
    (busy.flag F.CNV_CAL_STAT_BUSY = true ∧ on.flag F.CNV_CAL_STAT_BUSY = false ∧ on.converting 63 = true ∧ b.converting 63 = false) ∧
    (b.acts owl 0x130010 (setBit 0 30 true) = true ∧ bitAt (setBit 0 30 true) 31 = false ∧ b.prec.cal = none ∧
      (run ⟨63, 1, 4, 0, 0, false⟩ []).acts owl 0x130010 (setBit 0 30 true) = true) ∧
    (∀ y ∈ [x 1 40, x 2 40, x 2 4000], (run y [(F.CNV_CAL_TARGET, 10)]).prec.cal = some y ∧ y.compute = true ∧ (run y []).ccOn = true) ∧
    (divOpen 40 4 - signed 24 (b.get (F.PCV_CAL_OFS 63 0)) = 10 ∧ signed 24 ((run (x 2 40) [(F.CNV_CAL_TARGET, 10)]).get F.CNV_CAL_TARGET) = 10 ∧
      ¬(1000 : Int).natAbs ≤ 2 * (10 : Int).natAbs) ∧
    ∀ n ∈ ([0, 63] : List Nat), ∀ r ∈ ([0, 5] : List Nat),
      let base := 0x220000 + 0x40000 * (n / 16) + 0x100 * (n % 16)
      let held := { b with prec := { b.prec with ofsHeld := [(8 * n + r, 7)] } }
      b.acts owl (base + 0x90 + 8 * r) 7 = true ∧ held.acts owl (base + 0x94 + 8 * r) 0x40000000 = true ∧
        lookup held.prec.ofsHeld (8 * n + r) = some 7 := by decide +kernel

/-! ### Time -/

theorem meets_ReferenceAndTimedOutputs :
    let b := live []
    let ref (v : Bool) : Block := { b with time := { b.time with refValid := v } }
    (b.phase.railsOn = true ∧ (ref true).time.refValid = true ∧ (ref true).flag F.TIM_STAT_PLL_LOCK = false ∧ (ref false).time.refValid = false ∧
      b.domainOn 17 = true ∧ (live [(F.PWR_D_STAT_STATE 17, 0)]).domainOn 17 = false) ∧
    ∀ o ∈ ([0, 3] : List Nat),
      let addr := 0x50300 + 0x20 * o
      let v (dom count : Nat) : Nat := setBit (dom * 2 ^ 28 + count) 31 true
      let arm (l : List (Field × Nat)) (now dom count : Nat) : Block × Tout × Nat :=
        let c := live l
        let d := { c with time := { c.time with p := { c.time.p with time := now } } }
        let p := (d.toutFields o (v dom count)).toutProgram o
        (d, p, p.passed (wrapTime (d.toutTime p.dom + 2000 * 2 ^ 32 : Nat)))
      let single := arm [] 0 0 0
      let counted := arm [(F.TOUT_PERIOD o, 100)] 0 0 1
      let free := arm [(F.TOUT_PERIOD o, 100)] 0 0 0
      let p : Tout := ⟨0, 0, 8, 100, 2, 0, none⟩
      let t (p : Tout) (now : Nat) : Block :=
        { b with time := { b.time with tout := [(o, p)], pulse := [(o, (0, 2 ^ 35))], p := { b.time.p with time := now } } }
      (single.1.acts owl addr (v 0 0) = true ∧ single.1.flag (F.TOUT_CTRL_ARM o) = false ∧ single.2.1.period = 0 ∧ single.2.2 ≠ 0) ∧
      ((live [(F.TOUT_CTRL_ARM o, 1)]).acts owl addr (v 0 0) = true ∧ b.acts owl addr (setBit 0 31 false) = true) ∧
      (counted.1.acts owl addr (v 0 1) = true ∧ counted.2.1.period ≠ 0 ∧ counted.2.1.isOver counted.2.2 = true) ∧
      (free.1.acts owl addr (v 0 0) = true ∧ free.2.1.isOver free.2.2 = false) ∧
      (lookup (t p 0).time.tout o = some p ∧ p.waiting = none ∧ 0 ≤ timeDiff ((t p 0).toutTime 0) (p.instant 0) ∧ p.isOver 1 = false ∧
        ({ p with next := 1 } : Tout).isOver 2 = true ∧ timeDiff ((t p 0).toutTime 0) (p.instant 1) < 0) ∧
      lookup (t p 0).time.pulse o = some (0, 2 ^ 35) ∧ 0 ≤ timeDiff ((t p (2 ^ 35)).toutTime 0) (2 ^ 35) ∧
        timeDiff ((t p (2 ^ 35 - 1)).toutTime 0) (2 ^ 35) < 0 := by decide +kernel

theorem meets_TimeExchanges : ∀ x ∈ ([0, 1] : List Nat), ∀ p ∈ ([0, 7] : List Nat),
    let b := live [(F.LNK_STAT_STAGE p, 5), (F.FAB_TREE_STAT_PARENT_VALID x, 1), (F.FAB_TREE_STAT_PARENT_PORT x, p)]
    let at_ (t : Nat) : Block := b.setDomain x { b.domain x with time := t }
    let m (n : Nat) : TimeMsg := ⟨n, x, 1, 0, 0, 0, 0, 0, 0, 4, 0, 77⟩
    let other := b.setDomain x { b.domain x with followed := some 5, established := true }
    let e (t3 : Option Nat) : Exchange := ⟨m 1, 0, t3⟩
    let exch (t3 : Option Nat) (t : Nat) : Block := b.setDomain x { b.domain x with exch := some (e t3), time := t }
    (b.phase.railsOn = true ∧ 262144 * 2 ^ 32 ≤ ((at_ (2 ^ 50)).domain x).time % 2 ^ 52 ∧
      ((at_ (2 ^ 50)).domain x).syncSent ≠ epochOf ((at_ (2 ^ 50)).domain x).time + 1 ∧ ((at_ 0).domain x).time % 2 ^ 52 < 262144 * 2 ^ 32) ∧
    (Instr.wf (.syncRx p (m 1)) = true ∧ b.portActive p = true ∧ b.parentPort x = some p ∧ b.treeMaster x = false ∧
      bitAt (b.get F.TST_STAT_MASK) 3 = false ∧ b.hashOk x 77 = true ∧ other.hashOk x 77 = false) ∧
    (((exch none (2 ^ 49)).domain x).exch = some (e none) ∧ (exch none (2 ^ 49)).parentPort x = some p ∧
      (131072 * 2 ^ 32 : Int) ≤ timeDiff ((exch none (2 ^ 49)).domain x).time 0 ∧ timeDiff ((exch none (2 ^ 49 - 1)).domain x).time 0 < 131072 * 2 ^ 32) ∧
    (Instr.wf (.delayReqRx p (m 2)) = true ∧ Instr.wf (.delayRespRx p (m 3)) = true) ∧
    ((exch (some 3) 9).validSync p x (m 3) (e (some 3)) = true ∧ (exch none 9).validSync p x (m 3) (e none) = false) := by decide +kernel

theorem meets_DomainBoundaries : ∀ x ∈ ([0, 1] : List Nat),
    let b := live []
    let at_ (pend : Option (Int × Nat)) : Block := b.setDomain x { b.domain x with time := 2 ^ 52, pending := pend }
    let thr : Nat := b.get (F.TIM_DOM_SERVO_STEP_THR_NS x) * 2 ^ 32
    let addr := 0x50124 + 0x80 * x
    let master := live [(F.TIM_DOM_STATE_SYNC_STATE x, 4), (F.SEC_EXPERT, 0xFFFFFFFF)]
    let slave := live [(F.SEC_EXPERT, 0xFFFFFFFF)]
    let held := master.hold .owl (addr - 4) 9
    (b.phase.railsOn = true ∧ epochOf (b.domain x).time = (b.domain x).epochSeen ∧ epochOf ((at_ none).domain x).time ≠ ((at_ none).domain x).epochSeen ∧
      (at_ none).syncState x ≠ syMaster ∧ ((at_ none).domain x).pending = none) ∧
    ((Int.ofNat thr).natAbs ≤ thr ∧ thr < (Int.ofNat thr + 1).natAbs ∧ ((at_ (some (Int.ofNat thr + 1, 2 ^ 34))).domain x).pending = some (Int.ofNat thr + 1, 2 ^ 34)) ∧
    (b.time.established = false ∧ ({ b with time := { b.time with established := true, dom := x == 1 } } : Block).stampDom = x) ∧
    (∀ c ∈ [master, slave, held], c.takes owl = true ∧ c.admits owl addr true = true ∧ c.lockedBits .owl addr = [] ∧ c.lockedBits .owl (addr - 4) = []) ∧
    (slave.heldFor .owl addr = none ∧ slave.syncState x ≠ syMaster ∧ master.heldFor .owl addr = none ∧ master.syncState x = syMaster ∧
      held.heldFor .owl addr = some 9 ∧ held.syncState x = syMaster) ∧
    (b.time.resid = 0 ∧ (live [(F.TIM_STAT_SLEWING, 1)]).flag F.TIM_STAT_SLEWING = true ∧ ({ b.time with resid := 1 } : TimeSt).resid ≠ 0) := by
  decide +kernel

/-! ### Fox -/

theorem meets_ClaimsAreRanked :
    let b := live []
    let own (k serial : Nat) : Block :=
      let c := live [(F.IDN_SERIAL_LO, serial)]
      { c with fab := { c.fab with claim := some ⟨k, 9, 0, 0⟩ } }
    let m (k serial : Nat) : ClaimMsg := ⟨k, false, 9, serial, 0, 4⟩
    ((live [(F.IDN_NODE_NODE_VALID, 1)]).flag F.IDN_NODE_NODE_VALID = true ∧ Instr.wf (.claimRx 0 (m 1 5)) = true ∧ Instr.wf (.claimRx 7 (m 2 5)) = true) ∧
    (∀ k ∈ ([0, 1, 2] : List Nat), ∀ j ∈ ([0, 1, 2] : List Nat), (own k 6).fab.claim = some ⟨k, 9, 0, 0⟩ ∧ (m j 5).held = false ∧
      (m j 5).serial ≠ (own k 6).serial ∧ (own k 6).floodSeen 5 9 4 = false) ∧
    ((5 : Nat) < (own 1 6).serial ∧ ¬(5 : Nat) < (own 1 4).serial) ∧ b.fab.claim = none := by decide +kernel

theorem meets_NodeIdCommands :
    let b := live []
    let c : ClaimMsg := ⟨1, false, 9, 5, 0, 4⟩
    let p : PinMsg := ⟨9, 5, 4, 1⟩
    let seen := { b with fab := { b.fab with seen := [(5, 9, 4, 0)] } }
    let claim (n sent : Nat) : Block := { b with fab := { b.fab with claim := some ⟨2, n, sent, 0⟩ } }
    let join (e : Nat) : Block := { block .join [(F.FAB_STAT_ID_REFUSED, 1), (F.LNK_STAT_STAGE 0, 5)] with epochs := e }
    let job (e : Nat) (h : Bool) : Block := { b with fab := { b.fab with pin := some ⟨5, 9, 4, e, h⟩ } }
    (∀ q ∈ ([0, 7] : List Nat), Instr.wf (.claimRx q c) = true ∧ Instr.wf (.pinRx q p) = true) ∧
    (seen.floodSeen 5 9 4 = true ∧ b.floodSeen 5 9 4 = false ∧ (5 : Nat) ≠ b.serial) ∧
    (∀ n ∈ ([0, 4095] : List Nat), (claim n 17).fab.claim = some ⟨2, n, 17, 0⟩ ∧ (claim n 16).fab.claim = some ⟨2, n, 16, 0⟩) ∧
    ((join 1024).phase = .join ∧ (join 1024).flag F.FAB_STAT_ID_REFUSED = true ∧ (join 1024).fab.claim = none ∧ (join 1024).activePorts ≠ [] ∧
      (join 1024).fab.refusedAt + 1024 ≤ (join 1024).epochs ∧ (join 1023).epochs < (join 1023).fab.refusedAt + 1024) ∧
    (b.acts owl 0xd0018 (setBit 0 31 true) = true ∧ b.get F.FAB_PIN_RESULT ≠ 1 ∧
      (live [(F.IDN_NODE_NODE_VALID, 1)]).isSelf 0 = true ∧ (live []).get64 F.FAB_PIN_SER_LO F.FAB_PIN_SER_HI = (live []).serial ∧ b.isSelf 0 = false ∧
      (live [(F.FAB_PIN_RESULT, 1)]).acts owl 0xd0018 (setBit 0 31 true) = true ∧ (live [(F.FAB_PIN_RESULT, 1)]).get F.FAB_PIN_RESULT = 1) ∧
    ((job 64 false).fab.pin = some ⟨5, 9, 4, 64, false⟩ ∧ (job 63 false).fab.pin = some ⟨5, 9, 4, 63, false⟩) := by decide +kernel

/-- A frame of version 1 from node 5 to node 9, as bytes (R448, R449, R452). -/
def frame (cls flags lseq : Nat) (pay : List Nat) : List Nat :=
  let h := [16 + cls, flags, 9, 0, 5, 0, pay.length, 0, 0, 0, 0, 0, lseq, 0, 8]
  h ++ [hcrc h] ++ pay ++ leBytes 4 (crc32c pay)

theorem meets_FramesAtAPort : ∀ p ∈ ([0, 7] : List Nat),
    let b := live [(F.LNK_STAT_STAGE p, 5)]
    let idle := live []
    let x : Frame := ⟨1, false, false, false, false, 9, 5, 1, 0, 0, 8, .raw [1]⟩
    let full := { b with fab := { b.fab with delivered := List.replicate 8 (some p, { x with cls := 3, link := true }) } }
    let sent := { b.setPort p { PortSt.fresh with replay := [(0, x)] } with tick := 4096 }
    let m (nak : Bool) : LackMsg := ⟨nak, 0, [0, 0, 0, 0, 0, 0, 0, 0]⟩
    let k : FlowKey := ⟨5, 9, false, 1⟩
    let flow (t : Nat) : Block := { b with tick := t, fab := { b.fab with flows := [(k, ⟨0, 0, none, [⟨3, 0, x⟩], 0⟩)] } }
    (b.portActive p = true ∧ idle.portActive p = false ∧ idle.stage p ≠ stExchange) ∧
    (checkFrame ((frame 1 0 0 [7]).set 15 0) = .badHeader ∧ checkFrame ((frame 1 0 0 [7]).set 16 8) = .badTrailer ∧
      checkFrame ((frame 3 1 0 [7]).set 16 8) = .badTrailer ∧ (parseHeader (frame 3 1 0 [7])).link = true ∧
      checkFrame (frame 3 1 0 [7]) = .good ∧ checkFrame (frame 1 0 0 [7]) = .good ∧ (parseHeader (frame 1 0 0 [7])).link = false) ∧
    (let h := parseHeader (frame 3 1 0 [7])
     (h.version == 1 && h.cls != 7 && decide (h.len ≤ 2048) && h.zeros) = true) ∧
    (b.linkHeld p 3 < classBuffer 3 ∧ classBuffer 3 ≤ full.linkHeld p 3) ∧
    ((parseHeader (frame 1 0 9 [7])).lseq ≠ (b.port p).lseqIn ∧ (parseHeader (frame 1 0 0 [7])).lseq = (b.port p).lseqIn) ∧
    (Instr.wf (.lackRx p (m true)) = true ∧ Instr.wf (.lackRx p (m false)) = true) ∧
    ((sent.port p).replay = (0, x) :: [] ∧ (sent.port p).progressTick + 4096 ≤ sent.tick ∧ (b.port p).replay = []) ∧
    ((flow 0).flow k = some ⟨0, 0, none, [⟨3, 0, x⟩], 0⟩ ∧
      (∀ t ∈ ([0, max 1 (b.get F.FAB_REORDER) * usTicks] : List Nat),
        ((⟨0, 0, none, [⟨3, 0, x⟩], 0⟩ : Flow).held.any fun h => decide (h.tick + max 1 ((flow t).get F.FAB_REORDER) * usTicks ≤ (flow t).tick)) =
          (t != 0))) := by decide +kernel

/-- A block that knows a route. -/
def routed (d : Nat) (r : Route) (l : List (Field × Nat)) : Block := { live l with fab := { (live l).fab with routes := [(d, r)] } }

theorem meets_RoutesTreesAndHosts : ∀ p ∈ ([0, 7] : List Nat), ∀ d ∈ ([1, 4095] : List Nat),
    let b := live [(F.LNK_STAT_STAGE p, 5), (F.FAB_PORT_MODE p, 1)]
    let cap : CapMsg := ⟨p, false, false, true, d, 0, 0, 0, 0, [0, 0, 0, 0, 0, 0, 0, 0], 0⟩
    let r : Route := ⟨[], some p, 2, 4, none, 0, 0, false, false⟩
    let lost := routed d { r with primary := none, hops := 255, lostFor := 65535 } []
    (Instr.wf (.capRx p cap) = true ∧ b.portActive p = true) ∧
    (Instr.wf (.advertRx p [⟨d, 1, 2⟩]) = true ∧ b.fabricPort p = true ∧ (live []).portActive p = false) ∧
    (((routed d r [(F.LNK_STAT_STAGE p, 5)]).route d).primary = some p ∧ (routed d r [(F.LNK_STAT_STAGE p, 5)]).portActive p = true ∧
      ((routed d { r with age := 72 } []).route d).age = 72 ∧ ((routed d { r with age := 72, alt := some 3 } []).route d).alt = some 3) ∧
    (lost.ccOn = true ∧ lost.isSelf d = false ∧ (lost.route d).hops = 255 ∧ (lost.route d).departed = false ∧
      max 1 (lost.get F.FAB_CTRL_DEPART_EPOCHS) ≤ (lost.route d).lostFor ∧ ((routed d r []).route d).hops ≠ 255) ∧
    ((live [(F.SEC_EXPERT, 0xFFFFFFFF)]).acts owl (0xd8000 + 8 * d) 0x20083 = true ∧ bitAt 0x20083 17 = true ∧ b.acts owl (0xd8000 + 8 * d) 0 = true) ∧
    Instr.wf (.treeRx p ⟨2, 3, true, 5⟩) = true ∧
    (let host (st : Nat) (l : List (Field × Nat)) : Block := live ([(F.LNK_STAT_STAGE p, st), (F.FAB_PORT_MODE p, 2)] ++ l)
     (host 4 []).hostPort p = true ∧ (host 4 []).stage p = stExchange ∧ ((host 4 []).port p).capOk = false ∧
      (((host 4 []).setPort p { PortSt.fresh with capOk := true }).port p).capOk = true ∧ (host 5 []).portActive p = true ∧
      (host 5 [(F.FAB_HOST_IP4 p, 0x0A000001)]).configured4 p = some [10, 0, 0, 1] ∧ (host 5 []).macIn p [2, 0, 0, 0, 0, 1] = false) ∧
    (live [(F.FAB_CTRL_LOG_EN, 1)]).flag F.FAB_CTRL_LOG_EN = true ∧ b.flag F.FAB_CTRL_LOG_EN = false := by decide +kernel

/-! ### Lanes -/

/-- A port in a stage at a tick, with its state replaced and more fields set. -/
def port (p stage tick : Nat) (x : PortSt) (l : List (Field × Nat)) : Block :=
  { (live ([(F.LNK_STAT_STAGE p, stage), (F.FAB_PORT_MODE p, 1)] ++ l)).setPort p x with tick := tick }

theorem meets_PortBringUp : ∀ p ∈ ([0, 7] : List Nat), ∀ l ∈ ([2 * p, 2 * p + 1] : List Nat),
    let x := PortSt.fresh
    let q := l / 2
    ((port p 1 9 { x with beaconTick := 9, sigSeen := true } []).stage p = stDetect ∧ (port p 1 9 x []).fabricPort p = true ∧
      ((port p 1 9 { x with beaconTick := 9, sigSeen := true } []).port p).losTick = none ∧
      ((port p 1 9 { x with beaconTick := 9, sigSeen := false } []).port p).sigSeen = false ∧
      ((port p 1 9 { x with beaconTick := 9 } [(F.LNK_STAT_ATTEMPTS p, 15)]).countAttempt p).get (F.LNK_STAT_ATTEMPTS p) = 16 ∧
      ((port p 1 9 { x with beaconTick := 9 } [(F.LNK_STAT_ATTEMPTS p, 14)]).countAttempt p).get (F.LNK_STAT_ATTEMPTS p) ≠ 16 ∧
      (port p 1 8 { x with beaconTick := 9 } []).tick < 9) ∧
    ((port p 6 9 x []).stage p = stSilent ∧ (port p 6 9 x []).flag (F.LNK_STAT_PARKED p) = false ∧
      (port p 6 9 x [(F.LNK_STAT_PARKED p, 1)]).flag (F.LNK_STAT_PARKED p) = true ∧ ((port p 6 9 x []).port p).beaconTick ≤ 9) ∧
    ((port p 1 9 x []).domainOn (8 + q) = true ∧ (port p 1 9 x [(F.PWR_D_STAT_STATE (8 + q), 0)]).domainOn (8 + q) = false ∧
      (port p 5 9 x []).stage q ≠ stDetect ∧ (port p 5 9 x []).stage q ≠ stSilent ∧ (port p 1 9 x []).stage q = stDetect) := by decide +kernel

theorem meets_PortBringUp_stages : ∀ p ∈ ([0, 7] : List Nat), ∀ l ∈ ([2 * p, 2 * p + 1] : List Nat),
    let x := PortSt.fresh
    let q := l / 2
    let c : CapMsg := ⟨0, false, false, true, 9, 0, 0, 0, 0, [], 0⟩
    let cap (b : Block) : Block := { b with fab := { b.fab with caps := [(p, c)] } }
    let sig := (F.LNK_L_STAT_SIGNAL l, 1)
    let lock : List (Field × Nat) := [(F.LNK_L_STAT_BLOCK_LOCK (2 * p), 1), (F.LNK_L_STAT_BLOCK_LOCK (2 * p + 1), 1)]
    ((port p 2 9 x [sig]).flag (F.LNK_L_STAT_SIGNAL l) = true ∧ (port p 2 9 x [sig]).stage q = stTrain ∧ (port p 3 9 x [sig]).stage q ≠ stTrain ∧
      (port p 2 9 x []).flag (F.LNK_L_STAT_SIGNAL l) = false) ∧
    ((port p 3 9 x (sig :: lock)).stage q = stLock ∧ (port p 3 9 x (sig :: lock)).flag (F.LNK_L_STAT_SIGNAL l) = true ∧
      ((((port p 3 9 x (sig :: lock)).put (F.LNK_L_STAT_BLOCK_LOCK l) 1).putB (F.LNK_L_STAT_RX_FEC l) true).putB (F.LNK_L_STAT_SWAPPED l) true).allLocked q = true ∧
      ((((port p 3 9 x [sig, (F.LNK_L_STAT_SIGNAL (otherLane l), 1)]).put (F.LNK_L_STAT_BLOCK_LOCK l) 1).putB (F.LNK_L_STAT_RX_FEC l) true).putB (F.LNK_L_STAT_SWAPPED l) true).allLocked q = false) ∧
    ((port p 2 12500000 x []).stage p = stTrain ∧ x.stageTick + 12500000 ≤ 12500000 ∧ (12499999 : Nat) < x.stageTick + 12500000) ∧
    ((port p 3 2500000 x lock).stage p = stLock ∧ x.stageTick + 2500000 ≤ 2500000 ∧ (port p 3 2500000 x lock).lockedLanes p ≠ 0 ∧
      (port p 3 2500000 x []).lockedLanes p = 0) ∧
    ((port p 4 1250000 x []).stage p = stExchange ∧ x.stageTick + 1250000 ≤ 1250000 ∧ (port p 4 1250000 x []).flag (F.LNK_STAT_TKO_HOLD p) = false ∧
      (port p 4 1250000 x []).hostPort p = false) ∧
    (((cap (port p 4 0 { x with capOk := true } lock)).port p).capOk = true ∧ (cap (port p 4 0 { x with capOk := true } lock)).lockedLanes p ≠ 0 ∧
      lookup (cap (port p 4 0 x lock)).fab.caps p = some c ∧ ((port p 4 0 x []).port p).capOk = false) := by decide +kernel

theorem meets_PortLossAndControl : ∀ p ∈ ([0, 7] : List Nat), ∀ l ∈ ([2 * p, 2 * p + 1] : List Nat),
    let x := PortSt.fresh
    let q := l / 2
    let sig := (F.LNK_L_STAT_SIGNAL l, 1)
    let los (t : Nat) (y : List (Field × Nat)) : Block := port p 1 t { x with losTick := some 0 } y
    ((port p 1 0 x []).flag (F.LNK_L_STAT_SIGNAL l) = false ∧ (port p 0 0 x [sig]).stage q = stDown ∧ (port p 7 0 x [sig]).stage q = stTest ∧
      (port p 5 0 x [sig]).stage q = stActive ∧ (port p 5 0 x [sig]).flag (F.LNK_L_STAT_SIGNAL (otherLane l)) = false ∧
      (port p 5 0 x [sig, (F.LNK_L_STAT_SIGNAL (otherLane l), 1), (F.LNK_L_STAT_JOINED l, 1)]).flag (F.LNK_L_STAT_SIGNAL (otherLane l)) = true ∧
      (port p 5 0 x [sig, (F.LNK_L_STAT_JOINED l, 1)]).flag (F.LNK_L_STAT_JOINED l) = true) ∧
    (((los 125000 []).port p).losTick = some 0 ∧ (los 125000 []).stage p = stDetect ∧ 0 + 125000 ≤ (los 125000 []).tick ∧ (los 124999 []).tick < 0 + 125000 ∧
      (∀ k ∈ lanesOf p, (los 125000 []).flag (F.LNK_L_STAT_SIGNAL k) = false) ∧ l ∈ lanesOf p ∧ (los 125000 [sig]).flag (F.LNK_L_STAT_SIGNAL l) = true) ∧
    ((port p 5 0 x [(F.LNK_L_STAT_BLOCK_LOCK l, 1), (F.LNK_L_STAT_JOINED l, 1)]).flag (F.LNK_L_STAT_BLOCK_LOCK l) = true ∧
      (port p 5 0 x [(F.LNK_L_STAT_JOINED l, 1)]).flag (F.LNK_L_STAT_JOINED l) = true ∧ (port p 5 0 x []).portActive q = true ∧
      (port p 4 0 x []).portActive q = false ∧ (port p 5 0 x []).flag (F.LNK_L_STAT_BLOCK_LOCK l) = false) ∧
    ((∀ n ∈ ([63, 64] : List Nat), ((port p 5 0 { x with lostLane := some (l, n) } []).port p).lostLane = some (l, n)) ∧
      ((port p 5 0 { x with lostLane := some (l, 64) } []).portActive p = true ∧
        bitAt ((port p 5 0 { x with lostLane := some (l, 64) } []).get F.BDG_X1_NOW) p = false ∧
        bitAt ((port p 5 0 { x with lostLane := some (l, 64) } [(F.BDG_X1_NOW, 2 ^ p)]).get F.BDG_X1_NOW) p = true)) := by decide +kernel

theorem meets_PortLossAndControl_orders : ∀ p ∈ ([0, 7] : List Nat),
    let x := PortSt.fresh
    (∀ st ∈ ([1, 2, 3, 4, 5, 6] : List Nat), (port p st 0 x []).stage p ≠ stDown ∧ (port p st 0 x []).stage p ≠ stTest) ∧
    ((port p 3 0 x []).stage p = stLock ∧ (port p 4 0 x []).stage p = stExchange ∧ (port p 5 0 x []).flag (F.LNK_STAT_TKO_HOLD p) = false) ∧
    (let t (n : Nat) : Block := port p 4 n x [(F.LNK_STAT_TKO_HOLD p, 1), (F.LNK_STAT_KNOCKING p, 1)]
     (t 375000000).flag (F.LNK_STAT_TKO_HOLD p) = true ∧ ((t 375000000).port p).tkoTick + 375000000 ≤ (t 375000000).tick ∧
       (t 374999999).tick < ((t 374999999).port p).tkoTick + 375000000 ∧ (t 187500).flag (F.LNK_STAT_KNOCKING p) = true ∧
       ((t 187500).port p).knockTick + 187500 ≤ (t 187500).tick ∧ (t 187499).tick < ((t 187499).port p).knockTick + 187500) := by decide +kernel

theorem meets_PortLossAndControl_commands : ∀ p ∈ ([0, 7] : List Nat), ∀ l ∈ ([2 * p, 2 * p + 1] : List Nat),
    let x := PortSt.fresh
    let q := l / 2
    let addr := 0xe0000 + 0x200 * p
    let b (st : Nat) (y : List (Field × Nat)) : Block := port p st 0 x ((F.SEC_EXPERT, 0xFFFFFFFF) :: y)
    ((b 7 []).stage q = stTest ∧ (b 7 [(F.LNK_L_STAT_PRBS_LOCK l, 1)]).flag (F.LNK_L_STAT_PRBS_LOCK l) = true) ∧
    (∀ st ∈ ([0, 1, 5, 7] : List Nat), (b st []).acts owl addr (2 ^ 31 + (b st []).lnkKept p) = true ∧ (b st []).acts owl addr (2 ^ 30 + (b st []).lnkKept p) = true ∧
      (b st []).acts owl addr (2 ^ 28 + (b st []).lnkKept p) = true) ∧
    ((b 1 []).hostPort p = false ∧ (b 1 []).flag (F.LNK_STAT_KNOCKING p) = false ∧
      ((b 5 []).setPort p { x with lostLane := some (l, 0) }).acts owl addr (2 ^ 28 + (b 5 []).lnkKept p) = true) ∧
    ((b 5 [(F.LNK_CTRL_ADMIN_DOWN p, 0)]).acts owl addr (setBit ((b 5 [(F.LNK_CTRL_ADMIN_DOWN p, 0)]).lnkKept p) 29 true) = true) ∧
    ((b 5 []).acts owl addr ((b 5 []).lnkKept p / 2 ^ 28 * 2 ^ 28 + 2 ^ 26) = true ∧ (b 5 []).get (F.LNK_CTRL_TEST p) ≠ 1 ∧ (b 5 []).stage p ≠ stDown) ∧
    ((b 7 [(F.LNK_CTRL_TEST p, 1)]).acts owl addr ((b 7 [(F.LNK_CTRL_TEST p, 1)]).lnkKept p / 2 ^ 28 * 2 ^ 28) = true ∧
      (b 7 [(F.LNK_CTRL_TEST p, 1)]).get (F.LNK_CTRL_TEST p) ≠ 0 ∧ (b 7 [(F.LNK_CTRL_TEST p, 1)]).stage p = stTest) := by decide +kernel

/-! ### Event records, memory and scrubbing -/

/-- A source of event records with COUNT 1. -/
def source (active : Bool) (serving : Option (Nat × Nat)) : SrcSt := ⟨active, serving, 1, ⟨0, 0⟩, 7, false, false, false, none⟩

theorem meets_EventRecords :
    let b := live []
    let with_ (n : Nat) (x : SrcSt) (l : List (Field × Nat)) : Block :=
      let c := live l
      { c with irq := { c.irq with src := [(n, x)] } }
    let q (t : Nat) (l : List (Field × Nat)) : Block :=
      let c := live l
      { c with irq := { c.irq with queues := [(t, [⟨256, 0, [0, 0, 0, 0]⟩])] } }
    let ms (k : Nat) : Block :=
      let c := q 3 [(F.IRQ_TGT_CFG_EN 3, 1), (F.IRQ_TGT_CFG_NOTIFY_MS 3, 2), (F.IRQ_TGT_CFG_NODE 3, 9)]
      { c with tick := k, irq := { c.irq with notified := some 0 } }
    (Block.reset.irqWorks = false ∧ ({ b with irq := { b.irq with src := [] } } : Block).irqWorks = true ∧
      ({ b with irq := { b.irq with src := [] } } : Block).markFull.claimed = none) ∧
    (∀ v ∈ ([0, 256, 511] : List Nat), b.acts owl 0x40004 v = true ∧ b.acts owl 0x40008 v = true ∧ (b.source v).inService = none ∧
      ((with_ v (source false (some (0, 5))) []).source v).inService ≠ none ∧ (with_ v (source false (some (0, 5))) []).acts owl 0x40004 v = true) ∧
    (∀ k ∈ ([0, 4] : List Nat), (q k []).acts owl (0x40108 + 0x40 * k) 1 = true ∧ (q k []).mayPop .owl k = true ∧
      (q k []).queueOf k = ⟨256, 0, [0, 0, 0, 0]⟩ :: [] ∧ ((q k []).flag (F.IRQ_SRC_AUTO_ACK 256) && ((q k []).source 256).inService == some (k, 0)) = false ∧
      (let y := with_ 256 (source true (some (k, 0))) []
       (y.flag (F.IRQ_SRC_AUTO_ACK 256) && (y.source 256).inService == some (k, 0)) = true)) ∧
    (b.acts owl (0x40108 + 0x40) 1 = true ∧ b.mayPop .owl 1 = false ∧ b.mayPop .owl 4 = true ∧ b.queueOf 4 = []) ∧
    (∀ n ∈ ([0, 511] : List Nat), (live [(F.SEC_EXPERT, 0xFFFFFFFF)]).acts owl (0x41000 + 4 * n) 0 = true) ∧
    ((ms 500000).irq.notified = some 0 ∧ (ms 500000).irqWorks = true ∧ (ms 500000).flag (F.IRQ_TGT_CFG_EN 3) = true ∧ (ms 500000).queueOf 3 ≠ [] ∧
      (ms 500000).get (F.IRQ_TGT_CFG_NOTIFY_MS 3) ≠ 0 ∧ 0 + (ms 500000).get (F.IRQ_TGT_CFG_NOTIFY_MS 3) * 250000 ≤ (ms 500000).tick ∧
      (ms 499999).tick < 0 + (ms 499999).get (F.IRQ_TGT_CFG_NOTIFY_MS 3) * 250000) := by decide +kernel

theorem meets_EventRecords_claim : ∀ n ∈ ([0, 511] : List Nat),
    let c := live [(F.IRQ_SRC_PRIORITY n, 3), (F.IRQ_SRC_TARGETS n, 31), (F.IRQ_TGT_CFG_EN 0, 1)]
    let b := { c with irq := { c.irq with src := [(n, source true none)] } }
    b.irqWorks = true ∧ b.markFull.claimed = some n ∧ n ≠ 224 ∧ n ≠ 208 := by decide +kernel

theorem meets_EventRecords_restart : ∀ n ∈ ([208, 224] : List Nat),
    let c := live [(F.IRQ_SRC_PRIORITY n, 3), (F.IRQ_SRC_PRIORITY 0, 7), (F.IRQ_SRC_TARGETS n, 31), (F.IRQ_SRC_TARGETS 0, 31), (F.IRQ_TGT_CFG_EN 0, 1)]
    let b := { c with irq := { c.irq with src := [(0, source true none), (n, source true none)] } }
    b.irqWorks = true ∧ b.markFull.srcEligible 0 = true ∧ b.markFull.srcEligible n = true ∧ b.markFull.claimed = some n := by decide +kernel

theorem meets_MemoryAndScrub :
    let b := live [(F.ECC_SCRUB_EN, 1)]
    let at_ (p : Nat) : Block := live [(F.ECC_SCRUB_EN, 1), (F.ECC_SCRUB_POS_LO, p % 2 ^ 32), (F.ECC_SCRUB_POS_HI, p / 2 ^ 32)]
    (b.ccOn = true ∧ b.phase ≠ .fill ∧ (live [(F.ECC_SCRUB_EN, 0)]).flag F.ECC_SCRUB_EN = false) ∧
    (∀ p ∈ ([0, 0x0100000000, 0x06FFFFFFF8] : List Nat), (at_ p).flag F.ECC_SCRUB_EN = true ∧ lookup (at_ p).poison ((at_ p).scrubPos / 8) = none ∧
      lookup (at_ p).ecc.upsets ((at_ p).scrubPos / 8) = none) ∧
    (critical (regionOf ((at_ 0x0100000000).scrubPos / 8 * 8)) = false) ∧
    ∀ r ∈ ([1, 48] : List Nat),
      let w (t : Nat) : Block := { b with tick := t, ecc := { b.ecc with windows := [(r, ⟨0, 0, false⟩)] } }
      Instr.wf (.eccWindowEnd r) = true ∧ lookup (w 0).ecc.windows r = some ⟨0, 0, false⟩ ∧ 0 + (w ((w 0).windowTicks r)).windowTicks r ≤ (w ((w 0).windowTicks r)).tick ∧
        (w ((w 0).windowTicks r - 1)).tick < 0 + (w ((w 0).windowTicks r - 1)).windowTicks r ∧ lookup b.ecc.windows r = none ∧
        (live [(F.SEC_EXPERT, 0xFFFFFFFF)]).acts owl (0xf0108 + 0x10 * r) 5 = true := by decide +kernel

/-! ### Fragments, decisions, the trigger tree -/

/-- A fragment with an identity, a state and a builder. -/
def fragment (ident : Nat) (st : FragState) (builder : Option Nat) : Frag where
  desc := ⟨ident, 1, 0, 1, 0, 0, 0, 0, 0, 0, 0, 0, 10, 0, 0, 0, 0⟩
  key := 0
  trig := 0
  tick := 0
  start := 0
  cls := 0
  st := st
  builder := builder
  orig := 0
  reassigned := false
  taken := []
  chunks := 1
  content := none
  records := none
  hitsClip := false
  stageClip := false
  tail := none
  segs := 0
  nextTick := 0
  sent := 0

/-- A module of node 5 with fragments, at a stamping time. -/
def staged (time : Nat) (l : List Frag) (fields : List (Field × Nat)) : Block :=
  let b := live ([(F.IDN_NODE_NODE_VALID, 1), (F.IDN_NODE_NODE_ID, 5)] ++ fields)
  { b with evb := { b.evb with frags := l }, time := { b.time with p := { b.time.p with time := time } } }

theorem meets_FragmentsTakeDecisions :
    let id := identOf 5 0 3
    let m (k : Nat) : DecisionMsg := ⟨k, 1, id, false, 9, 4, 0, 100, 200⟩
    let far : DecisionMsg := { m 1 with ident := identOf 6 0 3 }
    let b (f : Frag) (l : List (Field × Nat)) : Block := staged 0 [f] l
    let f := fragment id .speculative none
    let late := (staged (2 ^ 60) [f] []).past ((f.trig + (staged (2 ^ 60) [f] []).deadlineRaw : Nat) : Int)
    (∀ k ∈ ([1, 2, 3] : List Nat), (m k).wf = true) ∧ far.wf = true ∧ (b f []).isSelf (identNode far.ident) = false ∧
    ((b f []).ccOn = true ∧ (b f []).isSelf (identNode id) = true ∧ (b f []).pair.gap = none ∧ (b f []).get F.PAIR_STAT_SB_STATE ≠ 4 ∧
      (b f []).get F.TRG_STAT_TERM ≤ 1 ∧ 1 < (b f [(F.TRG_STAT_TERM, 2)]).get F.TRG_STAT_TERM ∧ (live []).frag id = none ∧
      (b f []).frag id = some f ∧ f.desc.seg = 0 ∧ (∀ k ∈ ([1, 2, 3] : List Nat), f.taken.contains (k, 1, 4) = false) ∧ (b f []).mirrorUp = false) ∧
    ((b (fragment id .committed none) []).frag id = some (fragment id .committed none) ∧
      (b (fragment id .accepted none) []).frag id = some (fragment id .accepted none)) ∧
    (retention ((b f []).loadAt (b f []).epochNow (b f []).groupCount) = none ∧ chunksFor (((b f []).cfgOf 0).res 0 0 300) ≤ (b f []).freeChunks + 1) ∧
    (id < 2 ^ 40 ∧ (b f []).past ((f.trig + (b f []).deadlineRaw : Nat) : Int) = false ∧ late = true ∧ (b f []).segmentsOf f = []) ∧
    ({ b f [] with fab := { (b f []).fab with primPort := [(6, 2)] } } : Block).ccOn = true ∧ lookup [(6, 2)] (identNode far.ident) = some 2 := by
  decide +kernel

theorem meets_TriggerTreeAndMaster :
    let m (node cls : Nat) : PrimitiveMsg := ⟨cls, 0, 1, identOf node 0 3, false, false, 0, 0, 0, 0, 0⟩
    let acts (l : List (Field × Nat)) (prims : List PrimitiveMsg) (top : Option Nat) : Block :=
      let c := live ([(F.TRG_STAT_ACTING, 1)] ++ l)
      { c with master := { c.master with prims := prims, sealed := top }, fab := { c.fab with primPort := [(6, 2)] }, time := { c.time with p := { c.time.p with time := 2 ^ 60 } } }
    let idle := live [(F.FAB_TREE_STAT_PARENT_VALID 2, 1), (F.FAB_TREE_STAT_PARENT_PORT 2, 7)]
    let due (b : Block) : Bool :=
      decide (((b.holdNs (b.cfgOf b.epochNow) * 1024 : Nat) : Int) < visibleDiff (visible b.stampRaw) (primTime (m 6 3)))
    let b := acts [] [m 6 3] none
    let r := acts [(F.TRG_RULE_CFG_ENABLE 0, 1), (F.TRG_RULE_CFG_CLASS_MASK 0, 8), (F.TRG_RULE_CFG_MIN_MODULES 0, 1)] [m 6 3] none
    (∀ n ∈ ([0, 4095] : List Nat), (m n 7).wf = true) ∧
    (b.acting = true ∧ b.ccOn = true ∧ (acts [] [] (some 0)).master.sealed = some 0 ∧ keyLe 0 0 = true ∧ b.master.sealed = none ∧
      b.master.prims.length < 262144 ∧ idle.acting = false ∧ idle.parentPort 2 = some 7 ∧ idle.master.prims = []) ∧
    (firstPrim b.master.prims = some (m 6 3) ∧ due b = true ∧ metRule (b.cfgOf b.epochNow) (m 6 3) b.master.prims = none ∧ b.standbyNodes = [] ∧
      b.isSelf (identNode (m 6 3).ident) = false ∧ lookup b.fab.primPort (identNode (m 6 3).ident) = some 2) ∧
    (firstPrim r.master.prims = some (m 6 3) ∧ due r = true ∧ metRule (r.cfgOf r.epochNow) (m 6 3) r.master.prims = some 0) ∧
    (let early := { b with time := { b.time with p := { b.time.p with time := 0 } } }
     due early = false) := by decide +kernel

theorem meets_TriggerTreeAndMaster_full :
    let b := live [(F.TRG_STAT_ACTING, 1)]
    let m : PrimitiveMsg := ⟨0, 0, 1, 0, false, false, 0, 0, 0, 0, 0⟩
    let c := { b with master := { b.master with prims := List.replicate 262144 m } }
    262144 ≤ c.master.prims.length := by
  dsimp only; rw [List.length_replicate]

theorem meets_TriggerTreeAndMaster_out :
    let d : DecisionMsg := ⟨1, 1, identOf 6 0 3, false, 9, 4, 0, 0, 0⟩
    let b (time : Nat) (l : List (Field × Nat)) : Block :=
      let c := live l
      { c with master := { c.master with out := [(d, 0)] }, fab := { c.fab with primPort := [(6, 2)] }, time := { c.time with p := { c.time.p with time := time } } }
    let on := [(F.TRG_STAT_ACTING, 1)]
    let beat (t : Nat) : HeartbeatMsg := ⟨t, 9, 0, 0, 0⟩
    let sb (tick : Nat) : Block := { live [(F.TRG_STAT_ROLE_STANDBY, 1)] with tick := tick }
    (((b 0 on).master.out.find? fun x => x.1.ident == d.ident && x.1.kind == 1) = some (d, 0) ∧ (b 0 on).ccOn = true ∧ (b 0 on).acting = true ∧
      d.ident < 2 ^ 40 ∧ (b (2 ^ 60) on).past ((((0 * 2 ^ 22 : Nat) : Int) + (b (2 ^ 60) on).deadlineRaw)) = true ∧
      (b 0 on).past ((((0 * 2 ^ 22 : Nat) : Int) + (b 0 on).deadlineRaw)) = false ∧ (b 0 on).isSelf (identNode d.ident) = false ∧
      lookup (b 0 on).fab.primPort (identNode d.ident) = some 2 ∧ ((live on).master.out.find? fun x => x.1.ident == 0 && x.1.kind == 3) = none) ∧
    (ackOf d).wf = true ∧
    ((beat 1).wf = true ∧ 1 < (live [(F.TRG_STAT_TERM, 2)]).get F.TRG_STAT_TERM ∧ (live (on ++ [(F.TRG_STAT_TERM, 1)])).get F.TRG_STAT_TERM = 1 ∧
      (live []).get F.TRG_STAT_TERM < 1) ∧
    ((sb (10 ^ 12)).phase = .live ∧ (sb (10 ^ 12)).acting = false ∧ (sb (10 ^ 12)).flag F.TRG_STAT_ROLE_STANDBY = true ∧
      (sb (10 ^ 12)).master.beat + (sb (10 ^ 12)).get F.TRG_DEADLINE * usTicks ≤ (sb (10 ^ 12)).tick ∧
      ¬((sb 0).master.beat + (sb 0).get F.TRG_DEADLINE * usTicks ≤ (sb 0).tick)) := by decide +kernel

/-- An epoch that runs. -/
def epoch (key seq : Nat) (cfg : EpochCfg) : EpochSt where
  key := key
  cfg := cfg
  raw := 0
  dom := 0
  quality := 1
  resid := 0
  note := none
  ended := none
  counts := true
  seq := seq
  exhausted := 0
  term := none
  mirrored := true
  waited := 0
  perturbed := 0
  load := 0
  queues := 1
  aligns := 0
  merges := []

theorem meets_TriggerTreeAndMaster_retro :
    let m : RetroMsg := ⟨59, 0, identOf 6 0 3, 0, 0, 0, 4⟩
    let b (seq : Nat) (l : List (Field × Nat)) : Block :=
      let c := staged 0 [] l
      { c with reseat := false, evb := { c.evb with epochs := [epoch 0 seq c.liveCfg] } }
    let on := [(F.TRG_G_CFG_EN 59, 1)]
    let r (c : Block) : Block := (c.resolveEpochs.seeTerm m.term).seeEvno m.eventNo
    m.wf = true ∧ (∀ c ∈ [b 0 [], b 0 on, b 65536 on], c.phase = .live ∧ c.reseat = false ∧ c.flag F.FAB_STAT_QUAR = false ∧
      ((r c).epochSt c.epochNow).isSome = true ∧ (((r c).epochSt c.epochNow).map (·.counts)) = some true) ∧
    (((r (b 0 [])).cfgOf 0).flag (F.TRG_G_CFG_EN 59) = false ∧ ((r (b 0 on)).cfgOf 0).flag (F.TRG_G_CFG_EN 59) = true) ∧
    (((r (b 65536 on)).epochSt 0).map (·.seq) = some 65536 ∧ ((r (b 0 on)).epochSt 0).map (·.seq) = some 0 ∧
      chunksFor (((r (b 0 on)).cfgOf 0).res 59 0 100000) ≤ (b 0 on).freeChunks) := by decide +kernel

/-! ### Builders -/

theorem meets_BuildersMergeFragments :
    let b := live []
    let a : AnnounceMsg := ⟨0, 7, 2 ^ 4095⟩
    let ev (f : EvbSt → EvbSt) : Block := { b with evb := f b.evb }
    let id := identOf 4095 0 3
    let d (last : Bool) (n total : Nat) : DataMsg := ⟨last, false, 0, id, 7, 0, 0, total, List.replicate n 1, false⟩
    let seen (done : Bool) : Block := ev fun e => { e with seen := [⟨id, 0, done, ⟨id, 7, 0, 0⟩⟩] }
    let old := { b with time := { b.time with p := { b.time.p with time := 2000 * 2 ^ 52 } } }
    let slot (map : Option Nat) : MergeSlot := ⟨7, 0, map, 0, [], false, 0, false⟩
    let open_ (map : Option Nat) (tick : Nat) : Block := { ev (fun e => { e with slots := [slot map] }) with tick := tick }
    let big : MergePart := ⟨1, [], 0, 0, 32768, false, false⟩
    let full := ev fun e => { e with slots := [{ slot none with eventNo := 8, parts := [big] }] }
    let whole (x : MergeSlot) : MergeSlot := { x with parts := x.parts ++ [⟨id, [1, 1], 1, 2, 1, false, true⟩] }
    (a.wf = true ∧ b.ccOn = true ∧ b.flag F.FAB_STAT_QUAR = false ∧ (ev fun e => { e with merged := [(7, 0)] }).mergedEvent 7 = true ∧
      b.mergedEvent 7 = false ∧ b.openSlots = [] ∧ bitAt (2 ^ 4095) 4095 = true) ∧
    ((d true 2 2).wf = true ∧ (d false 2 9).wf = true ∧ (∀ x ∈ ([false, true] : List Bool), ((seen x).evb.seen.find? fun y => y.ident == id) =
      some ⟨id, 0, x, ⟨id, 7, 0, 0⟩⟩) ∧ (b.evb.seen.find? fun y => y.ident == id) = none ∧ old.resolved2s (old.identKey (identOf 4095 0 3)) = true ∧
      b.resolved2s (b.identKey id) = false) ∧
    (chunksFor (4 * 2) = 1 ∧ full.freeChunks < chunksFor (4 * 2) ∧ (∀ x ∈ full.openSlots, x.eventNo ≠ 7) ∧ chunksFor (4 * 2) ≤ b.freeChunks ∧
      (d true 2 2).words.length = 2) ∧
    ((open_ (some (2 ^ 4095)) 0).openSlots.find? (fun y => y.eventNo == 7) = some (slot (some (2 ^ 4095))) ∧ (slot none).parts = [] ∧
      (whole (slot (some (2 ^ 4095)))).complete = true ∧ (whole (slot none)).complete = false) ∧
    ((open_ none b.fragTimeout).ccOn = true ∧ (slot none).opened + (open_ none b.fragTimeout).fragTimeout ≤ (open_ none b.fragTimeout).tick ∧
      (open_ none 0).tick < (slot none).opened + (open_ none 0).fragTimeout) := by decide +kernel

theorem meets_BuildersMergeFragments_owner :
    let id := identOf 5 0 3
    let f := fragment id .committed (some 9)
    let b (time tick : Nat) (g : Frag) : Block := { staged time [g] [] with tick := tick }
    let gap := max 100 (((b 0 0 f).cfgOf 0).get F.EVB_RESEND) * usTicks
    ((⟨id, 7, 0, 0⟩ : FragAckMsg).wf = true ∧ (b 0 0 f).ccOn = true ∧ (live []).frag id = none ∧ (b 0 0 f).frag id = some f ∧ f.st = .committed ∧
      f.builder.isSome = true ∧ f.tail = none ∧ (fragment id .accepted none).st ≠ .committed) ∧
    (id < 2 ^ 40 ∧ f.builder = some 9 ∧ f.sent + gap ≤ (b 0 gap f).tick ∧ (b 0 (gap - 1) f).tick < f.sent + gap ∧
      (b 0 gap f).resolved2s f.key = false ∧ (b 0 gap f).isSelf 9 = false ∧ (b (2000 * 2 ^ 52) 0 f).resolved2s f.key = true) := by decide +kernel

/-! ### Grid instants, the ring, packing jobs -/

/-- Pin unit 1984 of group 0, and a grid instant with a word of that pin, in an epoch with settings. -/
def instantAt (fields : List (Field × Nat)) (seqs : List Nat) (now : Nat) : Block :=
  let b := live ([(F.TRG_CTRL_EN, 1), (F.TRG_U_CFG_EN 1984, 1), (F.TRG_U_CFG_KIND 1984, 6), (F.TRG_U_CFG_GA_EN 1984, 1),
    (F.TRG_G_CFG_EN 0, 1), (F.TRG_G_RD_LO 0, 1)] ++ fields)
  let at_ : Instant := ⟨0, 0, 2 ^ 33, 0, 0, []⟩
  { b with
    tick := now
    reseat := false
    lynx := { b.lynx with instants := [at_], slow := [⟨1024, 0, 0, false, false, 0, 0, 0⟩] }
    evb := { b.evb with epochs := seqs.map fun n => { epoch 0 n b.liveCfg with counts := true } } }

theorem meets_GridInstantsAndTheRing :
    let lag (b : Block) : Nat := max 250 ((b.cfgOf 0).get F.TRG_LAG)
    let met (b : Block) : LocalTrigger :=
      let i : Instant := ⟨0, 0, 2 ^ 33, 0, 0, []⟩
      let gr := b.groupsAt (b.cfgOf 0) i (b.unitsAt (b.cfgOf 0) i).2
      ⟨i, b.cfgOf 0, gr.2.1, gr.2.2⟩
    let b := instantAt [] [7] 100000
    let x := met b
    let f := instantAt [] [65536] 100000
    let none_ := instantAt [(F.TRG_U_CFG_EN 1984, 0)] [] 100000
    let idle := instantAt [] [] 100000
    let w := clipWindow (retention (b.loadAt 0 (popCount x.cfg.groups 60))) x.pre x.post false
    (live []).lynx.instants = [] ∧ lag (instantAt [] [] 0) ≠ 0 ∧ (b.ccOn = true ∧ b.pair.gap = none ∧ lag b ≤ b.tick) ∧
    ((met none_).groups = [] ∧ (met idle).groups = [0] ∧ idle.mayOpen (met idle).cfg 0 = false) ∧
    (x.groups = [0] ∧ (x.primary).isSome = true ∧ b.mayOpen x.cfg 0 = true ∧ (b.epochSt 0).map (·.seq) = some 7 ∧
      x.cfg.flag (F.TRG_G_CFG_STREAM x.group) = false ∧ chunksFor (x.cfg.res x.group x.readout (w.1 + w.2.1)) ≤ b.freeChunks) ∧
    ((met f).primary.isSome = true ∧ f.mayOpen (met f).cfg 0 = true ∧ (f.epochSt 0).map (·.seq) = some 65536) := by
  decide +kernel

theorem meets_GridInstantsAndTheRing_ring :
    let b := live []
    let y : OpenBlock := ⟨9, 0, 0, 0, 0, 1, true⟩
    let one := { b with links := [.item 3 0 0 0 [1, 2]], ring := { b.ring with open_ := [(3, y)] } }
    b.links = [] ∧ (b.ccOn = true ∧ b.sbStores = false) ∧ (block .off []).ccOn = false ∧
    (lookup one.ring.open_ 3 = some y ∧ y.epoch = epochOf 0 ∧ y.count + 1 < blockItems 3) ∧ lookup b.ring.open_ 3 = none := by
  decide +kernel

/-- A fragment with a payload whose packing stands at a state. -/
def packing (plain : List Nat) (jobs : List PackState) : Frag :=
  { fragment (identOf 5 0 3) .accepted none with
    content := some ⟨0, [], jobs.zipIdx.map fun x => ⟨x.2, false, [], plain, false, x.1⟩⟩ }

theorem meets_PackingJobs :
    let b (jobs : List PackState) : Block := staged 0 [packing [1, 2, 3, 4] jobs] []
    let wait := b [.running 0, .waiting false]
    let done := b [.stored false [1, 2, 3, 4]]
    let size (c : Block) : Nat := clampN 256 8192 ((c.cfgOf 0).get F.LPS_POOL_BUFFERS)
    (wait.ccOn = true ∧ wait.extractReady = wait ∧ (live []).nextJob = none ∧
      wait.nextJob.map (·.2.job) = some (.waiting false) ∧ (wait.poolHeld = 0 ∧ 0 ≤ size wait) ∧
      wait.busyEngines = [0]) ∧
    (wait.evb.frags.map (·.alive) = [true] ∧ bitAt (wait.get F.TST_STAT_MASK) 5 = false) ∧
    (let r := ({ staged 0 [packing [1] [.running 0]] [(F.TST_STAT_MASK, 32)] with tst := { wait.tst with residue := 2 } } : Block)
     bitAt (r.get F.TST_STAT_MASK) 5 = true ∧ bitAt r.tst.residue 1 = true) ∧
    (done.extractReady = done ∧ (done.frag (identOf 5 0 3)).isSome = true ∧
      (∀ f ∈ done.evb.frags, ∀ x ∈ f.content, f.records = none ∧ (done.fragRecords f x).isSome = true) ∧
      ∀ f ∈ wait.evb.frags, ∀ x ∈ f.content, wait.fragRecords f x = none) := by
  decide +kernel

/-- A module with one payload that waits. -/
def oneJob (l : List Nat) (counted : Bool) : Block := staged 0 [packing l [.waiting counted]] [(F.LPS_POOL_BUFFERS, 256)]

theorem oneJob_next (l : List Nat) (c : Bool) :
    (oneJob l c).extractReady.nextJob = some (packing l [.waiting c], ⟨0, false, [], l, false, .waiting c⟩) ∧
    clampN 256 8192 (((oneJob l c).extractReady.cfgOf 0).get F.LPS_POOL_BUFFERS) =
      clampN 256 8192 (((staged 0 [] [(F.LPS_POOL_BUFFERS, 256)]).cfgOf 0).get F.LPS_POOL_BUFFERS) := ⟨rfl, rfl⟩

theorem pool_size : clampN 256 8192 (((staged 0 [] [(F.LPS_POOL_BUFFERS, 256)]).cfgOf 0).get F.LPS_POOL_BUFFERS) ≤ 256 := by decide +kernel

/-- 300 buffers' bytes do not fit the pool. -/
theorem long_buffers (l : List Nat) (h : l.length = 19660800) (c : Bool) : Payload.buffers ⟨0, false, [], l, false, .waiting c⟩ = 299 := by
  simp [Payload.buffers, ceilDiv, h]

theorem meets_PackingJobs_full (c : Bool) : ∃ l f p, (oneJob l c).extractReady.nextJob = some (f, p) ∧ p.job = .waiting c ∧ f.key = 0 ∧
    clampN 256 8192 (((oneJob l c).extractReady.cfgOf 0).get F.LPS_POOL_BUFFERS) < (oneJob l c).extractReady.poolHeld + p.buffers := by
  obtain ⟨l, h⟩ : ∃ l : List Nat, l.length = 19660800 := ⟨List.replicate 19660800 0, List.length_replicate⟩
  refine ⟨l, _, _, (oneJob_next l c).1, rfl, rfl, ?_⟩
  rw [(oneJob_next l c).2, long_buffers l h]
  have := pool_size
  omega

/-! ### Epoch boundaries and commits -/

/-- A module whose log holds one epoch that has a term. -/
def resolved (e : EpochSt) (fields : List (Field × Nat)) : Block :=
  let b := live fields
  { b with evb := { b.evb with epochs := [{ e with cfg := b.liveCfg }] } }

theorem meets_EpochBoundariesAndCommits :
    let at_ (n : Option Nat) (set : Bool) : Block :=
      let b := live [(F.SYS_SNAP_STAT_PENDING, 1)]
      { b with time := { b.time with established := set, epochSeen := n } }
    let e : EpochSt := { epoch 5 0 (live []).liveCfg with term := some 1, ended := some 0, perturbed := 1 }
    let bytes (b : Block) (e : EpochSt) : Nat := 4 * wordsOf ((b.plan e).1.queueRecords e (b.plan e).2.1 0)
    let tight := resolved e [(F.EGQ_CFG_SIZE_64M 0, 0)]
    let roomy := resolved e [(F.EGQ_CFG_SIZE_64M 0, 1)]
    let waited := resolved { e with waited := 1 } [(F.EGQ_CFG_SIZE_64M 0, 0)]
    let idle := resolved { e with counts := false } []
    let open_ := resolved { e with term := none } []
    (at_ none false).boundaryDue = false ∧ ((at_ (some 7) true).boundaryDue = true ∧ (at_ (some 7) true).ccOn = true ∧
      (at_ (some 7) true).pwr.den = none ∧ (at_ (some 7) true).flag F.SYS_SNAP_STAT_PENDING = true) ∧
    ((block .off []).ccOn = false ∧ (∀ b ∈ [tight, roomy, waited, idle, open_], b.ccOn = true ∧ b.pair.gap = none ∧
      b.evb.epochs.all (fun e => e.counts || !b.evaluated e) = true)) ∧
    (live []).evb.epochs = [] ∧ (idle.evb.epochs.map (·.counts) = [false] ∧ open_.evb.epochs.map (·.term) = [none]) ∧
    (∀ b ∈ [tight, waited], ∀ e ∈ b.evb.epochs, e.counts = true ∧ b.epochReady e = true ∧ bitAt e.queues 0 = true ∧ b.qFree 0 < bytes b e) ∧
    (tight.evb.epochs.map (·.waited) = [0] ∧ waited.evb.epochs.map (·.waited) = [1]) ∧
    (∀ e ∈ roomy.evb.epochs, e.counts = true ∧ roomy.epochReady e = true ∧ bytes roomy e ≤ roomy.qFree 0 ∧
      (∀ q < 8, bitAt e.queues q = true → q = 0)) := by decide +kernel

/-! ### The pair -/

/-- A module whose standby is in a state, at a tick. -/
def paired (sb now : Nat) (fields : List (Field × Nat)) : Block := { peered 7 (live ([(F.PAIR_STAT_SB_STATE, sb)] ++ fields)) with tick := now }

/-- A tick later than every period of this block. -/
abbrev late : Nat := 10 ^ 20

theorem meets_PairCausesAndSwitchOver :
    let due (b : Block) : Bool := decide (b.pair.wdogTick + max 1 (b.get F.PAIR_DIAG_WDOG_MS) * msTicks ≤ b.tick)
    let hot := paired 4 late []
    let warm := paired 3 late []
    let alone := paired 0 late []
    let gap := { hot with pair := { hot.pair with gap := some 0 } }
    (∀ b ∈ [hot, warm, alone], b.serving = true ∧ b.pair.gap = none ∧ b.pair.yielded = none ∧ due b = true) ∧
    (hot.get F.PAIR_STAT_SB_STATE = 4 ∧ warm.get F.PAIR_STAT_SB_STATE = 3 ∧ alone.get F.PAIR_STAT_SB_STATE = 0) ∧
    ((block .off []).serving = false ∧ gap.pair.gap ≠ none ∧ due (paired 4 0 []) = false) ∧ (alone.sbWorks = false ∧ hot.sbWorks = true) ∧
    (∀ cc < 2, ∀ b ∈ [hot, alone], b.get F.PAIR_DIAG_SELFTEST_H ≠ 0 ∧
      lookupD b.pair.selfTick cc 0 + b.get F.PAIR_DIAG_SELFTEST_H * hTicks ≤ b.tick) ∧
    ((paired 4 0 [(F.PAIR_DIAG_SELFTEST_H, 0)]).get F.PAIR_DIAG_SELFTEST_H = 0 ∧ hot.active = 0) := by decide +kernel

theorem meets_PairCausesAndSwitchOver_mirror :
    let up := paired 4 late [(F.PAIR_STAT_MIRROR_UP, 1)]
    let old := { up with pair := { up.pair with queue := [⟨0, .entry 5⟩] } }
    let down := paired 2 0 []
    let fill := paired 1 0 []
    let catching := { paired 3 0 [] with pair := { (paired 3 0 []).pair with catching := true } }
    (up.mirrorUp = true ∧ up.pair.gap = none ∧ up.pair.queue = []) ∧
    (∃ x l, old.pair.queue = x :: l ∧ x.tick + 1024 ≤ old.tick) ∧
    (down.mirrorUp = false ∧ down.get F.PAIR_STAT_SB_STATE = 2 ∧ down.pair.gap = none) ∧
    (fill.get F.PAIR_STAT_SB_STATE = 1 ∧ fill.phase ≠ .fill ∧ fill.get (F.PWR_D_STAT_STATE (4 + (1 - fill.active))) = 2 ∧
      fill.get (F.PWR_D_STAT_STATE (6 + (1 - fill.active))) = 2) ∧
    (catching.get F.PAIR_STAT_SB_STATE = 3 ∧ catching.pair.catching = true ∧ catching.get F.BDG_CHOICE_STANDBY = 0) := by
  refine ⟨?_, ⟨⟨0, .entry 5⟩, [], rfl, ?_⟩, ?_⟩ <;> decide +kernel

theorem meets_PairCausesAndSwitchOver_registers :
    let hot := paired 4 0 [(F.PAIR_SB_REG_ADDR, 0x100008)]
    (∀ a ∈ [owl, node 7], ∀ w ∈ ([1, 2, 3] : List Nat), hot.acts a 0x100004 w = true ∧ hot.acts owl 0x10000c 1 = true) ∧
    ((hot.hostWho (.node 7) || Requester.node 7 == .owl) = false ∧ (hot.hostWho .owl || Requester.owl == .owl) = true) ∧
    (hot.takes owl = true ∧ hot.standbyOff = false ∧ hot.admits owl 0x100034 false = true ∧ hot.get F.PAIR_SB_REG_ADDR = 0x100008 ∧
      resident 0x100008 = true ∧ (regRow 0x100008).isSome = true ∧ tierOAt 0x100008 = false ∧ wideAt 0x100008 = .no) ∧
    (∀ k ∈ ([0, 8191] : List Nat), hot.admits owl (0x108000 + 4 * k) false = true ∧ inWindow (4 * k) = false ∧
      (let x := (paired 4 0 [(F.PAIR_SBW_BASE_HI, 1)]).get F.PAIR_SBW_BASE_LO + (paired 4 0 [(F.PAIR_SBW_BASE_HI, 1)]).get F.PAIR_SBW_BASE_HI * 2 ^ 32
       inWindow (x + 4 * k) = true ∧ excluded (x + 4 * k) = false)) := by decide +kernel

theorem meets_PairCausesAndSwitchOver_gap :
    let b (y g : Option Nat) (rebuild : Nat) : Block :=
      let c := paired 3 late [(F.PAIR_STAT_REBUILD, rebuild)]
      { c with pair := { c.pair with yielded := y, gap := g, warm := true } }
    (b none none 0).pair.yielded = none ∧ (b (some 1) (some 0) 0).pair.yielded.isSome = true ∧
    ((b none (some 0) 1).pair.gap.isSome = true ∧ (b none (some 0) 1).pair.yielded = none ∧ (b none (some 0) 1).flag F.PAIR_STAT_REBUILD = true) ∧
    ((b none (some 0) 0).pair.gap.isSome = true ∧ (b none (some 0) 0).flag F.PAIR_STAT_REBUILD = false ∧ (b none (some 0) 0).access.waiting = [] ∧
      (b none (some 0) 0).pair.held = []) := by decide +kernel

/-! ### Test perturbations, the scan chain, wear -/

theorem meets_PerturbationsScanChainAndWear :
    let keys := [(F.SEC_EXPERT, 2 ^ 18), (F.SEC_DEBUG, 2 ^ 4)]
    let open_ := live keys
    let shut := live [(F.SEC_EXPERT, 2 ^ 18)]
    let lead := { live keys with time := { (live keys).time with p := { (live keys).time.p with master := true } } }
    let host := live (keys ++ [(F.FAB_PORT_MODE 0, 2)])
    (∀ b ∈ [open_, shut], b.acts owl 0x120004 (2 ^ 31) = true ∧ ∀ x < 6, b.acts owl 0x120004 (2 ^ x) = true) ∧
    (open_.get F.SEC_EXPERT / 2 ^ 18 % 2 = 1 ∧ open_.get F.SEC_DEBUG / 2 ^ 4 % 2 = 1 ∧ shut.get F.SEC_DEBUG / 2 ^ 4 % 2 = 0) ∧
    (lead.acts owl 0x120004 8 = true ∧ lead.leadsTime = true ∧ open_.leadsTime = false) ∧
    (host.acts owl 0x120004 4 = true ∧ host.get (F.FAB_PORT_MODE (host.get F.TST_LANE_LANE / 2)) = 2 ∧
      open_.get (F.FAB_PORT_MODE (open_.get F.TST_LANE_LANE / 2)) ≠ 2) ∧
    ((live [(F.TST_STAT_MASK, 2), (F.TST_DUR_REMAIN, 0)]).get F.TST_STAT_MASK = 2 ∧ shut.get F.TST_STAT_MASK = 0) := by decide +kernel

theorem meets_PerturbationsScanChainAndWear_times :
    let b (now : Nat) : Block := { live [(F.TST_STAT_MASK, 2)] with tick := now }
    let span := max 1 ((b 0).get F.TST_BP_DUTY_OFF_TICKS)
    let worn : Block := { b 0 with wear := { (b 0).wear with now := { (b 0).wear.now with minutes := 1440 } } }
    (bitAt ((b 0).get F.TST_STAT_MASK) 1 = true ∧ (b 0).tst.bpOn = false ∧ (b 0).tst.bpTick + span ≤ (b (2 ^ 32)).tick ∧
      (b 0).tick < (b 0).tst.bpTick + span) ∧
    (Block.reset.phase.railsOn = false ∧ (b 0).phase.railsOn = true) ∧ ([0, 0, 0, 0, 0, 0, 0, 0] : List Int).length = 8 ∧
    ((b 0).wear.now.minutes < (b 0).wear.store.minutes + 1440 ∧ worn.wear.store.minutes + 1440 ≤ worn.wear.now.minutes) := by decide +kernel

/-! ### Numbers of the spec's own worked examples -/

/-- The ramp of the worked example of 12_packing_and_check_values.md, as bytes. -/
def ramp (n : Nat) : List Nat := (List.range n).flatMap fun i => leBytes 2 (16 + 2 * i)

/-- R389: the check value of the nine digits. R449: that of HCRC. -/
theorem test_checks : crc32c [0x31, 0x32, 0x33, 0x34, 0x35, 0x36, 0x37, 0x38, 0x39] = 0xE3069283 ∧
    hcrc [0x31, 0x32, 0x33, 0x34, 0x35, 0x36, 0x37, 0x38, 0x39] = 0xF4 := by decide +kernel

/-- 12: the short ramp does not get shorter, so it is stored plain. -/
theorem test_pack_short : 16 ≤ (lpsPack (ramp 8) 6 0).length ∧ (lpsPack (ramp 8) 6 0).length = 46 := by decide +kernel

/-- 08: T and word 1 of the armed pad channel. -/
theorem test_hit_word : fineNs (0x12345677 * 1024 + 433) = 0x12345677 ∧ fineW1 (0x12345677 * 1024 + 433) 0 0 580 = 0x6C400244 := by
  decide +kernel

/-- 09: both crossings, the crossing time, the identity. -/
theorem test_crossings : linearFrac 524 300 1200 = 64 ∧ linearFrac 1048 300 1200 = 213 ∧
    crossTime (705032100 * 1024) 102400 64 = 705032125 * 1024 ∧ identOf 0x803 672 5 = 0x8032A00005 := by decide +kernel

/-- 10: the retention at full acquisition, 636 014 µs. -/
theorem test_retention : (retention 6888).map (· / 10) = some 636014 := by decide +kernel

/-- 11: the reservation at open, 4 750 848 bytes or 73 chunks. -/
theorem test_reservation : (let b := live []
    (b.liveCfg).res 34 0x70000 22000 = 4750848 ∧ chunksFor 4750848 = 73) := by decide +kernel

/-- 01, 05, 06, 14: addresses of the channel and loop registers. -/
theorem test_addresses : (F.FCH_CFG_MODE 737).addr = 0x2D0440 ∧ (F.PCH_EXC_EXC_V 20).addr = 0x260408 ∧
    (F.PCH_CMW_CMW_LO 48).addr = 0x2E0014 ∧ (F.PCV_CAL_OFS 5 5).addr = 0x2205B8 ∧ (F.BVR_OP_LO 3 0 1 4).addr = 0x2F1820 := by
  decide +kernel

/-- 05: what bridges and drives account for, µW. -/
theorem test_accounts : excPower 1 4000 15 0 = 60000 ∧ excPower 1 5000 30 0 = 150000 ∧ excPower 3 0 0 25 = 125000 := by decide +kernel

/-- 13: tag low words of the first and the last entry, and of an empty queue. -/
theorem test_entry_tags :
    (entryTag 64 false false false false 0 0 1 0x123400).head? = some 0x01000081 ∧
    (entryTag 24 true true false false 0 0 1 0x125900).head? = some 0x01000331 ∧
    (entryTag 0 false false false false 0 0x7F 1 0x125918).head? = some 0x017F0000 ∧
    (entryTag 20 true false true false 0 0 1 0).head? = some 0x01000529 := by decide +kernel

/-- 14: operation 4 of the seismometer's program. -/
theorem test_loop_op : loopOp (0x00400C45 + 5 * 2 ^ 32) = ⟨5, 4, 3, 0, 1, 2, 1, 0⟩ := by decide +kernel

/-- 20: the TAKEOVER record of queue 1. -/
theorem test_takeover_record :
    (let b := live []
     ({ b with pair := { b.pair with stamp := ⟨708400000, 0⟩ } } : Block).takeoverRecord 1 674 1) =
      [0x38000005, 5, 0x2A395380, 0x3FFFF, 674 * 2 ^ 16] := by decide +kernel

/-- 22: the acceleration factor at 72 and 62 degrees. -/
theorem test_acceleration : accelFactor 72 / 1000 = 2974 ∧ (accelFactor 62 + 500) / 1000 = 1206 := by decide +kernel

end Sys2Proof.Tests
end

/-! SUPPORT. A register access of one word from its request to its answer: reads by the register's place in a wide value, writes that are
held, complete a held half, or meet locked fields; what one tick leaves as it was. -/

namespace Sys2Proof.Machine

open Sys2Proof

/-! ### A request of one word on its way to its register (R56, R576, R577) -/

theorem writeRequest_oneWord {addr : Nat} (h : addr % 4 = 0) (w : Nat) : writeRequest addr 1 [w] true = .write addr [w] := by
  simp [writeRequest, h]

theorem readRequest_oneWord {addr : Nat} (h : addr % 4 = 0) : readRequest addr 1 = .read addr 1 := by
  simp [readRequest, h]

/-- A WRITE of one word at a register's address is that request, submitted. -/
theorem exec_oneWordWrite {a : Access} {addr : Nat} (hwf : a.wf = true) (hrange : addr < 2 ^ 40) (halign : addr % 4 = 0) (w : Word)
    (s : State) : exec (.registerWrite a addr 1 [w] true) s = .next { s with hw := submit a (.write addr [w.toNat]) s.hw } := by
  rw [exec_registerWrite a addr 1 [w] true s (by simpa [Instr.wf, hwf] using hrange), registerWrite, List.map_singleton,
    writeRequest_oneWord halign]

/-- A request that is taken up and repeats no TAG is carried out. -/
theorem Block.arrive_of_takes {b : Block} {a : Access} (h : b.takes a = true) {r : Request} (hr : ∀ addr n, r ≠ .bulk addr n) :
    b.arrive a r = (b.perform a r).actCritical b := by
  simp only [Block.takes, Bool.and_eq_true, Bool.not_eq_true', Option.isNone_iff_eq_none] at h
  obtain ⟨⟨⟨hserving, hgap⟩, hbehind⟩, hstored⟩ := h
  cases r with
  | bulk addr n => exact absurd rfl (hr addr n)
  | _ => simp [Block.arrive, hserving, Block.mustWait, hgap, hbehind, Block.take, hstored]

/-- A register that the requester may access: the bulk window's check and the checks before a register let the access pass. -/
theorem Block.unrefused_of_admits {b : Block} {a : Access} {addr : Nat} {wr : Bool} (h : b.admits a addr wr = true) :
    windowAccess a.who addr b = none ∧ b.refuse a.who addr wr = none := by
  simp only [Block.admits, Bool.and_eq_true, Bool.not_eq_true', Option.isNone_iff_eq_none] at h
  obtain ⟨⟨hwindow, haperture⟩, hrefuse⟩ := h
  exact ⟨by simp [windowAccess, hwindow, haperture], hrefuse⟩

/-! ### Reads (R6, R71 to R73) -/

/-- A range without upsets is read as it stands. -/
theorem Block.checkRange_of_clean {b : Block} {addr n : Nat} (h : (b.upsetsIn addr n).isEmpty = true) : b.checkRange addr n = b := by
  rw [Block.checkRange, List.isEmpty_iff.1 h, List.foldl_nil]

theorem Block.takes_of_reads {b : Block} {a : Access} {addr : Nat} (h : b.reads a addr = true) : b.takes a = true := by
  simp only [Block.reads, Bool.and_eq_true] at h
  obtain ⟨⟨⟨⟨⟨⟨htakes, -⟩, -⟩, -⟩, -⟩, -⟩, -⟩ := h
  exact htakes

/-- A read that answers at once meets no check before its register, and no upset or poison mark of the stored word. -/
theorem readWord_of_reads {b : Block} {a : Access} {addr : Nat} (h : b.reads a addr = true) :
    readWord a.who addr b = guardedRead a.who addr Block.regWord b ∧ b.refuse a.who addr false = none := by
  simp only [Block.reads, Bool.and_eq_true, Bool.not_eq_true'] at h
  obtain ⟨⟨⟨⟨⟨⟨-, hadmits⟩, hsb⟩, hsbw⟩, hcrc⟩, hclean⟩, hpoison⟩ := h
  obtain ⟨hwindow, hrefuse⟩ := Block.unrefused_of_admits hadmits
  have hne : addr ≠ 0x100034 := by simpa using hsb
  refine ⟨?_, hrefuse⟩
  simp [readWord, hwindow, hrefuse, hne, hsbw, hcrc, Block.checkRange_of_clean hclean, hpoison]

/-- A READ of one word that answers at once is the read of that word, and then its answer. -/
theorem submit_readRequest {b : Block} {a : Access} {addr : Nat} (halign : addr % 4 = 0) (h : b.reads a addr = true)
    {r : Block × Status × Nat} (hr : readWord a.who addr b = r) :
    submit a (readRequest addr 1) b = b.readAnswered a addr r.1 r.2.1 r.2.2 := by
  have hone : readWords a.who b addr 1 = (r.1, r.2.1, [r.2.2]) := by
    by_cases hok : r.2.1 = .ok <;> simp [readWords, hr, hok]
  rw [readRequest_oneWord halign, submit, Block.arrive_of_takes (Block.takes_of_reads h) (by simp), Block.perform, hone]
  rfl

theorem readWord_of_plain {b : Block} {a : Access} {addr : Nat} (h : b.reads a addr = true) (hwide : wideAt addr = .no) :
    readWord a.who addr b = ((b.touched addr).clearRc addr, .ok, (b.touched addr).regWord addr) := by
  obtain ⟨hread, hrefuse⟩ := readWord_of_reads h
  simp [hread, guardedRead, hrefuse, hwide]

/-- A _LO register gives its word and latches the high half of the same tick (R72). -/
theorem readWord_of_lo {b : Block} {a : Access} {addr : Nat} (h : b.reads a addr = true) (hwide : wideAt addr = .lo) :
    readWord a.who addr b =
      (((b.touched addr).setShadow a.who addr ((b.touched addr).regWord (addr + 4))).clearRc addr, .ok, (b.touched addr).regWord addr) := by
  obtain ⟨hread, hrefuse⟩ := readWord_of_reads h
  simp [hread, guardedRead, hrefuse, hwide]

/-- A _HI register gives the half that its _LO register latched (R72). -/
theorem readWord_of_latched {b : Block} {a : Access} {addr : Nat} (h : b.reads a addr = true) (hwide : wideAt addr = .hi) {sh : Shadow}
    (hsh : lookup (b.touched addr).access.shadows a.who.code = some sh) (haddr : sh.addr + 4 = addr) :
    readWord a.who addr b = ((b.touched addr).dropShadow a.who, .ok, sh.high) := by
  obtain ⟨hread, hrefuse⟩ := readWord_of_reads h
  simp [hread, guardedRead, hrefuse, hwide, hsh, haddr]

/-- A _HI register without its shadow gives the live half, and says so (R73). -/
theorem readWord_of_unlatched {b : Block} {a : Access} {addr : Nat} (h : b.reads a addr = true) (hwide : wideAt addr = .hi)
    (hno : ∀ sh, lookup (b.touched addr).access.shadows a.who.code = some sh → sh.addr + 4 ≠ addr) :
    readWord a.who addr b = (b.touched addr, .unlatched, (b.touched addr).regWord addr) := by
  obtain ⟨hread, hrefuse⟩ := readWord_of_reads h
  cases hsh : lookup (b.touched addr).access.shadows a.who.code with
  | none => simp [hread, guardedRead, hrefuse, hwide, hsh]
  | some sh => simp [hread, guardedRead, hrefuse, hwide, hsh, hno sh hsh]

/-! ### Writes (R6, R7, R74, R582) -/

/-- A write whose word is not mirrored, or that has no mirror, does not wait for one. -/
theorem Block.awaitsMirror_eq_false {b : Block} {addr w : Nat} (a : Access) (h : b.mirrorUp = false ∨ mirrored addr w = false) :
    b.awaitsMirror a addr [w] = false := by
  rcases h with h | h
  · simp [Block.awaitsMirror, h]
  · by_cases hok : (writeWord a.who addr w b).2 = .ok <;> simp [Block.awaitsMirror, writeAll, hok, h]

/-- A write of one word that is taken up and does not wait is the write of that word, and then its answer. -/
theorem submit_write_of_takes {b : Block} {a : Access} {addr w : Nat} (h : b.takes a = true)
    (hm : b.mirrorUp = false ∨ mirrored addr w = false) :
    submit a (.write addr [w]) b = b.finished a addr w (writeWord a.who addr w b) := by
  have hone : writeAll a.who b addr [w] = ((writeWord a.who addr w b).1, (writeWord a.who addr w b).2, 1) := by
    by_cases hok : (writeWord a.who addr w b).2 = .ok <;> simp [writeAll, hok]
  rw [submit, Block.arrive_of_takes h (by simp), Block.perform, Block.awaitsMirror_eq_false a hm]
  simp [Block.doWrite, hone, Block.finished]

/-- The egress command registers are no part of a wide value. -/
theorem wideAt_egqCmd {q : Nat} (h : q < 8) : wideAt (0xc0108 + 0x80 * q) = .no := by
  interval_cases q <;> decide

/-- A _LO write is held, so it has nothing to mirror yet. -/
theorem mirrored_of_lo {addr : Nat} (h : wideAt addr = .lo) (w : Nat) : mirrored addr w = false := by
  have hno : (decide (0xc0100 ≤ addr) && decide (addr < 0xc0500) && (addr - 0xc0100) % 0x80 == 8) = false := by
    by_contra hcmd
    simp only [Bool.not_eq_false, Bool.and_eq_true, decide_eq_true_eq, beq_iff_eq] at hcmd
    have hq := wideAt_egqCmd (q := (addr - 0xc0108) / 0x80) (by omega)
    rw [show 0xc0108 + 0x80 * ((addr - 0xc0108) / 0x80) = addr by omega, h] at hq
    cases hq
  simp [mirrored, h, hno]

theorem Block.maskWord_of_unlocked {b : Block} {who : Requester} {addr : Nat} (h : b.lockedBits who addr = []) (cur w : Nat) :
    b.maskWord who addr cur w = (w, false) := by
  simp [Block.maskWord, h]

theorem Block.allLocked_of_unlocked {b : Block} {who : Requester} {addr : Nat} (h : b.lockedBits who addr = []) :
    b.allLocked_ who addr = false := by
  unfold Block.allLocked_
  split <;> simp [h]

/-- Holding or taking up a _LO word changes no register. -/
@[simp] theorem Block.hold_regs (b : Block) (who : Requester) (addr w : Nat) : (b.hold who addr w).regs = b.regs := rfl
@[simp] theorem Block.dropHeld_regs (b : Block) (who : Requester) : (b.dropHeld who).regs = b.regs := rfl

theorem Block.lockedBits_of_regs {b c : Block} (h : c.regs = b.regs) (who : Requester) (addr : Nat) :
    c.lockedBits who addr = b.lockedBits who addr := by
  simp [Block.lockedBits, Block.unlocked, Block.get_of_regs h]

theorem Block.heldFor_touched (b : Block) (who : Requester) (addr hi : Nat) : (b.touched addr).heldFor who hi = b.heldFor who hi := by
  simp [Block.heldFor, b.touched_access]

/-- A _LO write of a pair with an RW field is held for its requester (R74). -/
theorem writeWord_of_lo {b : Block} {a : Access} {addr : Nat} (hadmits : b.admits a addr true = true) (hwide : wideAt addr = .lo)
    (hrw : hasRw addr = true) (w : Nat) :
    writeWord a.who addr w b = (((b.touched addr).hold a.who addr w).rewritten addr false, .ok) := by
  obtain ⟨hwindow, hrefuse⟩ := Block.unrefused_of_admits hadmits
  have hnotHi : (Wide.lo == Wide.hi) = false := rfl
  simp [writeWord, hwindow, guardedWrite, hrefuse, hwide, hrw, hnotHi]

/-- A _HI write with its held _LO word and no locked field: the register's operation on both words at one tick (R74). -/
theorem writeWord_of_held {b : Block} {a : Access} {addr lo : Nat} (hadmits : b.admits a addr true = true) (hwide : wideAt addr = .hi)
    (haddr : addr % 8 = 4) (hheld : b.heldFor a.who addr = some lo) (hhi : b.lockedBits a.who addr = [])
    (hlo : b.lockedBits a.who (addr - 4) = []) (w : Nat) :
    writeWord a.who addr w b =
      (let r := regOp a.who addr (some lo) w ((b.touched addr).dropHeld a.who)
       if r.2 == .ok || r.2 == .tierLocked then (r.1.rewritten addr true, r.2) else r) := by
  obtain ⟨hwindow, hrefuse⟩ := Block.unrefused_of_admits hadmits
  have hregs : ((b.touched addr).dropHeld a.who).regs = b.regs := by rw [Block.dropHeld_regs, b.touched_regs]
  have hmaskHi := Block.maskWord_of_unlocked ((Block.lockedBits_of_regs hregs a.who addr).trans hhi)
  have hmaskLo := Block.maskWord_of_unlocked ((Block.lockedBits_of_regs hregs a.who (addr - 4)).trans hlo)
  simp [writeWord, hwindow, guardedWrite, hrefuse, hwide, hheld, haddr, Block.heldFor_touched, Block.allLocked_of_unlocked hhi,
    hmaskHi, hmaskLo]

/-- A node's or the Owl's write of a register whose every writable field is locked: no operation, and the status of R582. -/
theorem submit_of_allLocked {b : Block} {a : Access} {addr w : Nat} (h : b.lands a addr w = true) (hwarren : a.who.isWarren = false)
    (hlocked : b.allLocked_ a.who addr = true) :
    submit a (.write addr [w]) b = b.answered a addr w
      (if (b.unlockedWord a addr w).2 = true then ((b.touched addr).bump F.SYS_TIERLOCK_CNT, .tierLocked) else (b.touched addr, .ok)) := by
  rw [submit_of_lands h, writeWord_of_lands h, Block.answered]
  obtain ⟨rest, changed⟩ := b.unlockedWord a addr w
  cases changed <;> simp [hlocked, hwarren]

/-- A node's or the Owl's write that would change a locked field of a register with open fields: the operation on the rest (R582). -/
theorem submit_of_partlyLocked {b : Block} {a : Access} {addr w : Nat} (h : b.lands a addr w = true) (hwarren : a.who.isWarren = false)
    (hlocked : b.allLocked_ a.who addr = false) (hchanged : (b.unlockedWord a addr w).2 = true)
    (hok : (regOp a.who addr none (b.unlockedWord a addr w).1 (b.touched addr)).2 = .ok) :
    submit a (.write addr [w]) b = b.answered a addr w
      ((regOp a.who addr none (b.unlockedWord a addr w).1 (b.touched addr)).1.bump F.SYS_TIERLOCK_CNT, .tierLocked) := by
  rw [submit_of_lands h, writeWord_of_lands h, Block.answered]
  simp [hlocked, hwarren, hchanged, hok]

/-- A bit that was set reads as 1. -/
theorem bitAt_setBit_true (v i : Nat) : bitAt (setBit v i true) i = true := by
  have hpos : 0 < 2 ^ i := Nat.two_pow_pos i
  have hquot : setBit v i true / 2 ^ i = v / 2 ^ i - v / 2 ^ i % 2 + 1 := by
    rw [setBit, b2n, if_pos rfl, one_mul, Nat.add_div_right _ hpos, mul_comm, Nat.sub_mul_div]
  rw [bitAt, hquot, beq_iff_eq]
  omega

/-- SYS_SNAP with ARM: the masks are stored, and the snapshot is pending, with no result yet (R78). -/
theorem snapOp_armed (w : Nat) (b : Block) :
    snapOp (setBit w 31 true) b =
      (((((b.writeFields 0x10100 (setBit w 31 true)).put F.SYS_SNAP_STAT_DONE 0).put F.SYS_SNAP_STAT_OFF 0).put
        F.SYS_SNAP_STAT_CANCELLED 0).put F.SYS_SNAP_STAT_PENDING 1, .ok) := by
  rw [snapOp, bitAt_setBit_true, if_pos rfl]

/-- Enabling a pin unit: refused on a pin whose FUNCTION is not TRIGGER, otherwise its fields are written (R275). -/
theorem trgUnitOp_enabled (u w : Nat) (b : Block) :
    trgUnitOp (1984 + u) (setBit w 31 true) b =
      if b.pinFunction u ≠ 3 then (b.bump F.TRG_REFUSE_CNT, .busyResource)
      else (b.writeFields (0x76000 + 0x10 * (1984 + u)) (setBit w 31 true), .ok) := by
  simp [trgUnitOp, bitAt_setBit_true, Nat.mul_comm]

theorem domainAt_trgUnit {u : Nat} (h : u < 8) : domainAt (0x76000 + 0x10 * (1984 + u)) = none := by
  interval_cases u <;> rfl

/-! ### One tick (R18, R212, R213) -/

/-- The oven's on-time is all that `warmTick` changes. -/
theorem Block.warmTick_eq (b : Block) :
    ∃ sec ticks, b.warmTick = { b with time := { b.time with warmSec := sec, warmTicks := ticks } } := by
  unfold Block.warmTick
  split
  · exact ⟨_, _, rfl⟩
  · exact ⟨b.time.warmSec, b.time.warmTicks, rfl⟩

end Sys2Proof.Machine

/-! PROOFS. The idle step, the reset state, register writes and register reads. -/

namespace Sys2Proof.Proofs

open Sys2Proof Sys2Proof.Machine

/-- Settles O5, by computation: the reset block lists no register, so every field reads its reset value. -/
theorem resetState : Obligations.ResetState :=
  ⟨rfl, rfl, rfl, rfl, rfl, rfl, rfl, rfl, fun _ => rfl⟩

/-- Settles O2: on the empty queue `step` is `idle`; the tick moves the two domains and the residual while the rails are on. -/
theorem idleIsOneTick : Obligations.IdleIsOneTick := by
  intro s hempty
  obtain ⟨sec, ticks, hwarm⟩ := s.hw.warmTick_eq
  refine ⟨by rw [step, hempty]; rfl, ?_⟩
  cases hrails : s.hw.phase.railsOn <;> simp [tickTime, hwarm, hrails, Domain.tick]

/-- Settles O15: a read that answers at once is `readWord` and its answer, by the register's place in a wide value. -/
theorem readsLatchAndClear : Obligations.ReadsLatchAndClear := by
  intro a addr s hwf hrange halign hreads b
  refine ⟨fun hwide => ?_, fun hwide => ?_, fun sh hwide hsh haddr => ?_, fun hwide hno => ?_⟩
  · rw [exec_rcCounterRead a addr 1 s (by simpa [Instr.wf, hwf] using hrange), rcCounterRead,
      submit_readRequest halign hreads (readWord_of_plain hreads hwide)]
  · rw [exec_wideLoRead a addr 1 s (by simpa [Instr.wf, hwf] using hrange), wideLoRead,
      submit_readRequest halign hreads (readWord_of_lo hreads hwide)]
  · rw [exec_wideHiRead a addr s (by simpa [Instr.wf, hwf] using hrange), wideHiRead,
      submit_readRequest halign hreads (readWord_of_latched hreads hwide hsh haddr)]
  · rw [exec_wideHiRead a addr s (by simpa [Instr.wf, hwf] using hrange), wideHiRead,
      submit_readRequest halign hreads (readWord_of_unlatched hreads hwide hno)]

/-- Settles O14, by one lemma for each way a word meets its register: whole, with locked fields, held, or with its held half. -/
theorem registerWritesAct : Obligations.RegisterWritesAct := by
  refine ⟨fun a addr w s hwf hrange halign hacts => ?_, fun a addr w s hwf hrange halign hlands hwarren => ?_,
    fun a w s hwf hacts => ?_, fun a addr w s hwf hrange halign htakes hadmits hwide hrw _ => ?_,
    fun a addr lo w s hwf hrange halign htakes hadmits hwide hhi hlo hheld hmirror hop => ?_, fun a u w s hwf hu => ?_⟩
  · rw [exec_oneWordWrite hwf hrange halign, submit_of_acts hacts]
  · refine ⟨fun hlocked => ?_, fun hlocked hchanged hok => ?_⟩
    · rw [exec_oneWordWrite hwf hrange halign, submit_of_allLocked hlands hwarren hlocked]
    · rw [exec_oneWordWrite hwf hrange halign, submit_of_partlyLocked hlands hwarren hlocked hchanged hok]
  · rw [exec_snapArm a w s hwf, snapArm, submit_of_acts hacts, regOp_sysSnap, Block.touched_of_none _ _ rfl, plainOp, snapOp_armed]
  · refine ⟨?_, by rw [Block.hold_regs, Block.touched_regs]⟩
    rw [exec_wideLoWrite a addr w s (by simpa [Instr.wf, hwf] using hrange), wideLoWrite, writeRequest_oneWord halign,
      submit_write_of_takes htakes (.inr (mirrored_of_lo hwide _)), writeWord_of_lo hadmits hwide hrw]
    rfl
  · rw [exec_wideHiWrite a addr w s (by simpa [Instr.wf, hwf] using hrange), wideHiWrite, writeRequest_oneWord (by omega),
      submit_write_of_takes htakes (.inl hmirror), writeWord_of_held hadmits hwide halign hheld hhi hlo, hop]
    rfl
  · intro addr v hacts
    have hwrite : exec (.pinUnitEnable a u w) s = .next { s with hw := s.hw.answered a addr v (trgUnitOp (1984 + u) v s.hw) } := by
      rw [exec_pinUnitEnable a u w s (by simp [Instr.wf, hwf, hu]), pinUnitEnable, submit_of_acts hacts, regOp_pinUnit _ hu,
        Block.touched_of_none _ _ (domainAt_trgUnit hu), plainOp]
    rw [hwrite, trgUnitOp_enabled]
    exact ⟨fun hpin => by rw [if_pos hpin], fun hpin => by rw [if_neg (not_not.2 hpin)]⟩

end Sys2Proof.Proofs


/-! SUPPORT. Every operation of the module keeps memory and the register files in their canonical form: one lemma for each operation, in the
order of the model's files. A proof follows its definition: `h.put.bump` says that the form of `b` passes to `(b.put ..).bump ..`. -/

namespace Sys2Proof.Machine

open Sys2Proof

/-- The canonical form of a block, by its parts. -/
structure Block.Canon (b : Block) : Prop where
  dram : Memory.wf b.dram
  sbDram : Memory.wf b.pair.sbDram
  regs : keysRise b.regs = true
  sbRegs : keysRise b.pair.sbRegs = true

theorem Block.canon_iff (b : Block) : b.Canon ↔ b.canonical :=
  ⟨fun h => ⟨h.dram, h.sbDram, h.regs, h.sbRegs⟩, fun ⟨hd, hsd, hr, hsr⟩ => ⟨hd, hsd, hr, hsr⟩⟩

/-- What a change of any other part of a block leaves: the canonical form speaks of memory and the register files only. -/
theorem Block.Canon.frame {b : Block} (h : b.Canon)
    {poison phase reseat tick epochs time fab ports fast tdc links ring prec loops lynx evb egq master irq access pwr boot ecc chk jtag wear
    tst posted wire free} :
    (Block.mk b.regs b.dram poison phase reseat tick epochs time fab ports fast tdc links ring prec loops lynx evb egq master irq access pwr
      boot ecc chk jtag wear tst b.pair posted wire free).Canon :=
  ⟨h.dram, h.sbDram, h.regs, h.sbRegs⟩

/-- The same where the pair's state changes beside the standby's memory and register file. -/
theorem Block.Canon.framePair {b : Block} (h : b.Canon)
    {poison phase reseat tick epochs time fab ports fast tdc links ring prec loops lynx evb egq master irq access pwr boot ecc chk jtag wear
    tst posted wire free sbPoison sbRing queue yielded gap warm stamp switchDue held residue wdogTick selfTick sbFirst catching sbShadows} :
    (Block.mk b.regs b.dram poison phase reseat tick epochs time fab ports fast tdc links ring prec loops lynx evb egq master irq access pwr
      boot ecc chk jtag wear tst (PairSt.mk b.pair.sbRegs b.pair.sbDram sbPoison sbRing queue yielded gap warm stamp switchDue held residue
      wdogTick selfTick sbFirst catching sbShadows) posted wire free).Canon :=
  ⟨h.dram, h.sbDram, h.regs, h.sbRegs⟩

/-- A block that a definition names once and uses often: its form is shown once. -/
theorem Block.Canon.bind {b c : Block} (h : b.Canon) (k : b.Canon → c.Canon) : c.Canon := k h

theorem Block.Canon.ite {p : Prop} {inst : Decidable p} {b c : Block} (hb : b.Canon) (hc : c.Canon) :
    (if p then b else c).Canon := by
  split; exacts [hb, hc]

theorem Block.Canon.fst {α : Type} {b : Block} {x : α} (h : b.Canon) : (b, x).1.Canon := h

theorem Block.Canon.iteFst {α : Type} {p : Prop} {inst : Decidable p} {r s : Block × α} (hr : r.1.Canon) (hs : s.1.Canon) :
    (if p then r else s).1.Canon := by
  split; exacts [hr, hs]

theorem Block.Canon.foldl {α : Type} {l : List α} {f : Block → α → Block} {b : Block} (h : b.Canon)
    (hf : ∀ c, c.Canon → ∀ x, (f c x).Canon) : (l.foldl f b).Canon := by
  induction l generalizing b with
  | nil => exact h
  | cons x l ih => exact ih (hf b h x)

theorem Block.Canon.foldl_fst {α β : Type} {l : List α} {f : Block × β → α → Block × β} {r : Block × β} (h : r.1.Canon)
    (hf : ∀ r, r.1.Canon → ∀ x, (f r x).1.Canon) : (l.foldl f r).1.Canon := by
  induction l generalizing r with
  | nil => exact h
  | cons x l ih => exact ih (hf r h x)

theorem keysRise_putReg {r : Table Nat} (h : keysRise r = true) (f : Field) (v : Nat) : keysRise (putReg r f v) = true := by
  unfold putReg
  split
  · exact keysRise_eraseKey h _
  · exact keysRise_insertKey h _ _

/-- An optional block with something beside it is in its canonical form where there is one. -/
def CanonOpt {α : Type} (o : Option (Block × α)) : Prop := ∀ r ∈ o, r.1.Canon

theorem CanonOpt.none {α : Type} : CanonOpt (none : Option (Block × α)) := by
  simp [CanonOpt]

theorem CanonOpt.some {α : Type} {r : Block × α} (h : r.1.Canon) : CanonOpt (some r) := by
  rintro _ ⟨⟩; exact h

/-! ### The named operations over the register file, memory and the outputs, shared by every block -/

theorem Block.Canon.put {b : Block} {f : Field} {v : Nat} (h : b.Canon) : (b.put f v).Canon :=
  ⟨h.dram, h.sbDram, keysRise_putReg h.regs f v, h.sbRegs⟩

theorem Block.Canon.putB {b : Block} {f : Field} {v : Bool} (h : b.Canon) : (b.putB f v).Canon := h.put

theorem Block.Canon.bumpBy {b : Block} {f : Field} {n : Nat} (h : b.Canon) : (b.bumpBy f n).Canon := h.put

theorem Block.Canon.bump {b : Block} {f : Field} (h : b.Canon) : (b.bump f).Canon := h.bumpBy

theorem Block.Canon.put64 {b : Block} {lo hi : Field} {v : Nat} (h : b.Canon) : (b.put64 lo hi v).Canon := h.put.put

theorem Block.Canon.bump64 {b : Block} {lo hi : Field} {n : Nat} (h : b.Canon) : (b.bump64 lo hi n).Canon := h.put64

theorem Block.Canon.memErr {b : Block} {a n : Nat} (h : b.Canon) : (b.memErr a n).Canon := Canon.ite h.bump.frame h

theorem Block.Canon.store {b : Block} {a : Nat} {v : List Nat} (h : b.Canon) : (b.store a v).Canon :=
  Canon.memErr ⟨Memory.wf_writeBytes v h.dram a, h.sbDram, h.regs, h.sbRegs⟩

theorem Block.Canon.mark {b : Block} {a : Nat} (h : b.Canon) : (b.mark a).Canon := h.frame

theorem Block.Canon.post {b : Block} {d : Dest} {cls : Nat} {m : Msg} (h : b.Canon) : (b.post d cls m).Canon := h.frame

theorem Block.Canon.emit {b : Block} {w : Wire} (h : b.Canon) : (b.emit w).Canon := h.frame

theorem Block.Canon.withEvb {b : Block} {f : EvbSt → EvbSt} (h : b.Canon) : (b.withEvb f).Canon := h.frame

theorem Block.Canon.drawn {b : Block} (h : b.Canon) : b.drawn.Canon := h.frame

theorem Block.Canon.whenDue {due : Bool} {f : Block → Block} {b : Block} (hf : ∀ c, c.Canon → (f c).Canon) (h : b.Canon) :
    (whenDue due f b).Canon :=
  Canon.ite (hf _ h) h

/-! ### The stamping time and its timestamps -/

theorem Block.Canon.setDomain {b : Block} {x : Nat} {d : Domain} (h : b.Canon) : (b.setDomain x d).Canon := Canon.ite h.frame h.frame

theorem Block.Canon.warmTick {b : Block} (h : b.Canon) : b.warmTick.Canon := Canon.ite h.frame h

theorem Block.Canon.tickTime {c : Block} (h : c.Canon) : (tickTime c).Canon := Canon.ite h.warmTick.frame h.warmTick.frame

/-! ### How a block asserts an event-record source -/

theorem Block.Canon.setSource {b : Block} {s : Nat} {x : SrcSt} (h : b.Canon) : (b.setSource s x).Canon := h.frame

theorem Block.Canon.raise {b : Block} {s payload : Nat} (h : b.Canon) : (b.raise s payload).Canon := h.setSource

theorem Block.Canon.setLevel {b : Block} {s : Nat} {on : Bool} {payload : Nat} (h : b.Canon) : (b.setLevel s on payload).Canon :=
  h.setSource

/-! ### The shared operations of Bamien -/

theorem Block.Canon.setPort {b : Block} {p : Nat} {x : PortSt} (h : b.Canon) : (b.setPort p x).Canon := h.frame

theorem Block.Canon.free1 {b : Block} {o : Option Nat} {f : Frame} (h : b.Canon) : (b.free1 o f).Canon := by
  unfold Machine.Block.free1
  dsimp only
  split; exacts [h, h.setPort]

theorem Block.Canon.launch {b : Block} {p : Nat} {o : Option Nat} {f : Frame} (h : b.Canon) : (b.launch p o f).Canon :=
  Canon.ite ((Canon.ite h.setPort.free1.frame.bump h.setPort.free1.frame).emit) h.setPort.free1.emit

theorem Block.Canon.pumpClass {b : Block} {p k n : Nat} (h : b.Canon) : (pumpClass b p k n).Canon := by
  induction n generalizing b with
  | zero => exact h
  | succ n ih =>
    rw [Machine.pumpClass]
    split
    · exact h
    · split; exacts [ih h.setPort.launch, h]

theorem Block.Canon.pump {b : Block} {p : Nat} (h : b.Canon) : (b.pump p).Canon := Canon.ite (h.foldl fun _ h' _ => h'.pumpClass) h

theorem Block.Canon.portSend {b : Block} {p : Nat} {o : Option Nat} {f : Frame} (h : b.Canon) : (b.portSend p o f).Canon := h.setPort.pump

theorem Block.Canon.linkSend {b : Block} {p cls : Nat} {m : Msg} (h : b.Canon) : (b.linkSend p cls m).Canon := h.emit

theorem Block.Canon.setRoute {b : Block} {d : Nat} {r : Route} (h : b.Canon) : (b.setRoute d r).Canon :=
  Canon.ite h.frame.put.put h.frame.put.put.putB.put.putB.put

theorem Block.Canon.forward {b : Block} {arrival : Option Nat} {f : Frame} (h : b.Canon) : (b.forward arrival f).Canon := by
  unfold Machine.Block.forward
  dsimp only
  exact Canon.bind (Canon.ite h.bump h) fun hb1 => by
    split; exacts [hb1.portSend, (Canon.ite hb1 hb1.bump).free1]

theorem Block.Canon.setTree {b : Block} {x : Nat} {t : TreeSt} (h : b.Canon) : (b.setTree x t).Canon := h.frame

theorem Block.Canon.refreshChildren {b : Block} {x : Nat} (h : b.Canon) : (b.refreshChildren x).Canon := h.put

theorem Block.Canon.castTree {b : Block} {arrival : Option Nat} {f : Frame} (h : b.Canon) : (b.castTree arrival f).Canon :=
  h.foldl fun _ h' _ => h'.portSend

theorem Block.Canon.deliver {b : Block} {f : Frame} (h : b.Canon) : (b.deliver f).Canon := h.frame

theorem Block.Canon.setFlow {b : Block} {k : FlowKey} {v : Machine.Flow} (h : b.Canon) : (b.setFlow k v).Canon := h.frame

theorem Block.Canon.drainHeld {b : Block} {v : Flow} {n : Nat} (h : b.Canon) : (drainHeld b v n).1.Canon := by
  induction n generalizing b v with
  | zero => exact h
  | succ n ih =>
    rw [Machine.drainHeld]
    split; exacts [ih h.deliver, h]

theorem Block.Canon.flowFrame {b : Block} {k : FlowKey} {v : Machine.Flow} {f : Frame} (h : b.Canon) : (b.flowFrame k v f).Canon :=
  Canon.ite h.deliver.drainHeld.setFlow (Canon.ite (Canon.ite h.bump (Canon.ite h.bump h.setFlow))
    (Canon.ite h.bump h.deliver.bump.bumpBy.setFlow))

theorem Block.Canon.receive {b : Block} {f : Frame} (h : b.Canon) : (b.receive f).Canon := by
  unfold Machine.Block.receive
  dsimp only
  split; exacts [h.flowFrame, Canon.ite h.flowFrame (Canon.ite h.bump h.bump.flowFrame)]

theorem Block.Canon.nextSeq {b : Block} {k : FlowKey} (h : b.Canon) : (b.nextSeq k).2.Canon := by
  unfold Machine.Block.nextSeq
  dsimp only
  exact h.frame

theorem Block.Canon.originate {b : Block} {q : Posted} (h : b.Canon) : (b.originate q).Canon := by
  unfold Machine.Block.originate
  dsimp only
  refine Canon.ite h ?_
  split
  · exact h
  · exact Canon.ite h.linkSend h
  · exact Canon.ite h.nextSeq.receive h.nextSeq.forward
  · exact Canon.ite h.nextSeq.portSend h.bump
  · exact Canon.ite h.bump h.nextSeq.castTree

theorem Block.Canon.drainOne {b : Block} (h : b.Canon) : (drainOne b).Canon := by
  unfold Machine.drainOne
  dsimp only
  split; exacts [h.frame, h.frame.frame.originate]

theorem Block.Canon.dropOffers {b : Block} {p : Nat} (h : b.Canon) : (b.dropOffers p).Canon :=
  h.foldl fun _ h' _ => Canon.ite h'.setRoute h'

theorem Block.Canon.leaveActive {b : Block} {p : Nat} (h : b.Canon) : (b.leaveActive p).Canon :=
  (h.dropOffers.frame.setPort.foldl fun _ h' _ => Canon.ite h'.bump.free1 h'.free1.forward).foldl fun _ h' _ =>
    Canon.ite h'.bump.free1 h'.free1.forward

theorem Block.Canon.enterActive {b : Block} {p : Nat} (h : b.Canon) : (b.enterActive p).Canon := h.setPort.pump

theorem Block.Canon.flood {b : Block} {arrival : Option Nat} {m : Msg} (h : b.Canon) : (b.flood arrival m).Canon :=
  h.foldl fun _ h' _ => h'.post

theorem Block.Canon.remember {b : Block} {serial node id : Nat} (h : b.Canon) : (b.remember serial node id).Canon := h.frame

theorem Block.Canon.sendCaps {b : Block} (h : b.Canon) : b.sendCaps.Canon := h.foldl fun _ h' _ => h'.post

/-! ### The bring-up of a port -/

theorem Block.Canon.setStage {b : Block} {p st : Nat} (h : b.Canon) : (b.setStage p st).Canon :=
  (Canon.ite h.put.setPort.leaveActive.put h.put.setPort).setLevel

theorem Block.Canon.beacon {b : Block} {p : Nat} (h : b.Canon) : (b.beacon p).Canon := (Canon.ite h.emit h).setPort

theorem Block.Canon.toDetect {b : Block} {p : Nat} (h : b.Canon) : (b.toDetect p).Canon := h.setStage.beacon

theorem Block.Canon.toSilent {b : Block} {p : Nat} (h : b.Canon) : (b.toSilent p).Canon := h.setStage.bump.setPort

theorem Block.Canon.countAttempt {b : Block} {p : Nat} (h : b.Canon) : (b.countAttempt p).Canon := Canon.ite h h.put

theorem Block.Canon.failAttempt {b : Block} {p : Nat} (h : b.Canon) : (b.failAttempt p).Canon :=
  Canon.bind h.countAttempt fun hb1 => Canon.ite hb1.toSilent hb1.toDetect

theorem Block.Canon.restart {b : Block} {p : Nat} (h : b.Canon) : (b.restart p).Canon := h.put.put.toDetect

theorem Block.Canon.unjoin {b : Block} {p : Nat} (h : b.Canon) : (b.unjoin p).Canon := h.foldl fun _ h' _ => h'.put

theorem Block.Canon.darkLane {b : Block} {l : Nat} (h : b.Canon) : (b.darkLane l).Canon := h.put.put.put.put

theorem Block.Canon.toDown {b : Block} {p arg : Nat} (h : b.Canon) : (b.toDown p arg).Canon := (Canon.ite h.emit h).setStage.unjoin.setPort

theorem Block.Canon.tryUp {b : Block} {p : Nat} (h : b.Canon) : (b.tryUp p).Canon := Canon.ite h.put.toDetect h

theorem Block.Canon.tryUpAll {b : Block} (h : b.Canon) : b.tryUpAll.Canon := h.foldl fun _ h' _ => h'.tryUp

theorem Block.Canon.toTrain {b : Block} {p : Nat} (h : b.Canon) : (b.toTrain p).Canon := h.put.setStage.setPort

theorem Block.Canon.toExchange {b : Block} {p : Nat} (h : b.Canon) : (b.toExchange p).Canon := h.setStage.post

theorem Block.Canon.startClaim {b : Block} (h : b.Canon) : b.startClaim.Canon := Canon.ite h.put.frame h

theorem Block.Canon.toActive {b : Block} {p : Nat} {x2 : Bool} (h : b.Canon) : (b.toActive p x2).Canon :=
  h.put.bump.putB.put.put.putB.putB.setStage.enterActive.startClaim

theorem Block.Canon.signalOn {b : Block} {l : Nat} (h : b.Canon) : (b.signalOn l).Canon :=
  Canon.ite (Canon.ite h.put.setPort.toTrain h.put.setPort) h

theorem Block.Canon.dropLane {b : Block} {l : Nat} (h : b.Canon) : (b.dropLane l).Canon := Canon.ite h.put.toExchange.setPort h.put.setStage

/-! ### Power domains, votes, levels and Squirrel -/

theorem Block.Canon.standbyDown {b : Block} {st : Nat} (h : b.Canon) : (b.standbyDown st).Canon := h.put.put.put.setLevel.framePair

theorem Block.Canon.dozeActive {b : Block} (h : b.Canon) : b.dozeActive.Canon := (h.foldl fun _ h' _ => h'.toDown).frame

theorem Block.Canon.enterHibernate {b : Block} (h : b.Canon) : b.enterHibernate.Canon :=
  Canon.bind ((h.foldl fun _ h' _ => h'.toDown).foldl fun _ h' _ => h'.put.put) fun hb2 => (Canon.ite hb2 hb2.put.frame).frame

theorem Block.Canon.hibernateWhenFree {b : Block} (h : b.Canon) : b.hibernateWhenFree.Canon := Canon.ite h.frame h.enterHibernate

theorem Block.Canon.startOff {b : Block} {d : Nat} (h : b.Canon) : (b.startOff d).Canon :=
  Canon.ite h.hibernateWhenFree (Canon.ite h.dozeActive (Canon.ite (Canon.ite h h.standbyDown) (Canon.ite h.toDown h)))

theorem Block.Canon.request {b : Block} {d : Nat} {on : Bool} (h : b.Canon) : (b.request d on).Canon :=
  Canon.ite (Canon.ite h.put h) (Canon.ite (Canon.ite h h.put.startOff) (Canon.ite h ((Canon.ite h h.bump).put)))

theorem Block.Canon.settleDom {b : Block} {d : Nat} (h : b.Canon) : (b.settleDom d).Canon := h.put.put.request

theorem Block.Canon.wakeCore {b : Block} (h : b.Canon) : b.wakeCore.Canon := Canon.ite h.frame.settleDom h

theorem Block.Canon.settlePower {b : Block} (h : b.Canon) : b.settlePower.Canon :=
  Canon.ite (h.foldl fun _ h' _ => Canon.ite h'.settleDom h') h

theorem Block.Canon.voteOp {who : Requester} {d w : Nat} {b : Block} (h : b.Canon) : (voteOp who d w b).1.Canon := by
  unfold Machine.voteOp
  dsimp only
  split
  · split; exacts [Canon.ite h.put.settleDom h, h]
  · split
    · split
      · split; exacts [h.bump, h.frame.settleDom]
      · split; exacts [h.frame.settleDom, h]
    · exact Canon.ite h.put.settleDom h

theorem Block.Canon.forceOp {who : Requester} {d v : Nat} {b : Block} (h : b.Canon) : (forceOp who d v b).1.Canon := by
  unfold Machine.forceOp
  split
  · exact h
  · split
    · exact h
    · split; exacts [h.bump, h.put.settleDom]

theorem Block.Canon.offAccess {d : Nat} {b : Block} (h : b.Canon) : (offAccess d b).1.Canon := by
  unfold Machine.offAccess
  dsimp only
  split; exacts [h.bump.put.frame.settleDom, h.bump]

theorem Block.Canon.touchDom {b : Block} {d : Nat} (h : b.Canon) : (b.touchDom d).Canon := Canon.ite h.frame h

theorem Block.Canon.requestLevel {b : Block} {l : Nat} (h : b.Canon) : (b.requestLevel l).Canon :=
  Canon.ite (Canon.ite h ((Canon.ite h.bump h).frame)) (Canon.ite h h.put.put.frame)

theorem Block.Canon.chooseLevel {b : Block} (h : b.Canon) : b.chooseLevel.Canon := h.put.requestLevel

theorem Block.Canon.levelForceOp {w : Nat} {b : Block} (h : b.Canon) : (levelForceOp w b).1.Canon := by
  unfold Machine.levelForceOp
  split; exacts [h.bump, h.put.put.chooseLevel]

theorem Block.Canon.setGrant {b : Block} (h : b.Canon) : b.setGrant.Canon := h.put64

theorem Block.Canon.shedRung {b : Block} {r : Nat} (h : b.Canon) : CanonOpt (b.shedRung r) := by
  unfold Machine.Block.shedRung
  dsimp only
  split
  · split; exacts [.some h.put, .none]
  · split; exacts [.some h.put, .none]
  · split
    · exact .some (h.put.foldl fun _ h' _ => h'.put)
    · split; exacts [.some (Canon.ite h.put.dropLane h.put), .none]
  · split; exacts [.some h.put, .none]
  · split; exacts [.none, .some (h.foldl fun _ h' _ => h'.frame)]
  · split; exacts [.some h, .none]

theorem Block.Canon.shed {b : Block} (h : b.Canon) : b.shed.Canon := by
  unfold Machine.Block.shed
  dsimp only
  split
  next r b1 l hstep =>
    obtain ⟨k, -, hk⟩ := List.exists_of_findSome?_eq_some hstep
    obtain ⟨x, hx, hxe⟩ := Option.map_eq_some_iff.1 hk
    cases hxe
    exact (h.shedRung x hx).frame.put.put.bump.setGrant
  next => exact h.put

theorem Block.Canon.restore {b : Block} (h : b.Canon) : b.restore.Canon := by
  unfold Machine.Block.restore
  dsimp only
  split
  · exact h
  · refine Canon.ite (Canon.ite h.frame h) (Canon.setGrant (.bump (.put (.put (.put (.frame ?_))))))
    split
    · exact h.put
    · exact h.put
    · split; exacts [Canon.ite h.put.unjoin.toExchange.setPort h.put, h.put.foldl fun _ h' _ => h'.put]
    · exact h.put
    · exact h.foldl fun _ h' _ => h'.frame
    · exact h

theorem Block.Canon.squirrel {b : Block} (h : b.Canon) : b.squirrel.Canon :=
  Canon.bind h.putB.putB.putB fun hb1 => Canon.bind (Canon.ite hb1.bump hb1) fun hb2 => Canon.bind
    (Canon.ite hb2.bump hb2).setLevel.frame fun hb4 => (Canon.ite hb4.shed (Canon.ite hb4.restore hb4)).setLevel.chooseLevel

/-! ### What every register access meets before it reaches a register -/

theorem Block.Canon.fence {b : Block} {who : Requester} (h : b.Canon) : (b.fence who).Canon := h.bump.raise

theorem Block.Canon.refuse {b : Block} {who : Requester} {addr : Nat} {wr : Bool} (h : b.Canon) : CanonOpt (b.refuse who addr wr) := by
  unfold Machine.Block.refuse
  split; exact .some h.bump
  split; exact .some h.fence
  split; exact .some h
  split
  · split; exact .some h.offAccess
    split; exacts [.some h.bump, .none]
  · split; exacts [.some h.bump, .none]

theorem Block.Canon.touched {b : Block} {addr : Nat} (h : b.Canon) : (b.touched addr).Canon := by
  unfold Machine.Block.touched
  split; exacts [h.touchDom, h]

theorem Block.Canon.writeBit {b : Block} {addr w : Nat} {x : RegBit} (h : b.Canon) : (b.writeBit addr w x).Canon := by
  unfold Machine.Block.writeBit
  dsimp only
  split; exacts [h.put, h.put, h.put, h]

theorem Block.Canon.writeFields {b : Block} {addr w : Nat} (h : b.Canon) : (b.writeFields addr w).Canon := by
  unfold Machine.Block.writeFields
  split; exacts [h.foldl fun _ h' _ => h'.writeBit, h]

theorem Block.Canon.hold {b : Block} {who : Requester} {addr w : Nat} (h : b.Canon) : (b.hold who addr w).Canon := h.frame

theorem Block.Canon.dropHeld {b : Block} {who : Requester} (h : b.Canon) : (b.dropHeld who).Canon := h.frame

theorem Block.Canon.setShadow {b : Block} {who : Requester} {addr high : Nat} (h : b.Canon) : (b.setShadow who addr high).Canon := h.frame

theorem Block.Canon.dropShadow {b : Block} {who : Requester} (h : b.Canon) : (b.dropShadow who).Canon := h.frame

/-- A register's operation that keeps the canonical form. -/
def RegOp.Keeps (op : RegOp) : Prop := ∀ lo w b, b.Canon → (op lo w b).1.Canon

theorem Block.Canon.guardedWrite {who : Requester} {addr w : Nat} {value : Block → Nat → Nat} {op : RegOp} {b : Block} (h : b.Canon)
    (hop : op.Keeps) : (guardedWrite who addr w value op b).1.Canon := by
  unfold Machine.guardedWrite
  split
  next r hr => exact h.refuse r hr
  next =>
    exact Canon.iteFst (.fst h.touched.hold) <| Canon.bind (Canon.ite h.touched.dropHeld h.touched) fun h1 => Canon.bind (hop _ _ _ h1) fun hr =>
      Canon.iteFst (Canon.iteFst (.fst hr.fence) (.fst hr.bump)) hr

theorem Block.Canon.fieldsOp {addr : Nat} {lo : Option Nat} {w : Nat} {b : Block} (h : b.Canon) : (fieldsOp addr lo w b).1.Canon := by
  unfold Machine.fieldsOp
  exact Canon.writeFields (by split; exacts [h.writeFields, h])

theorem Block.Canon.clearRc {b : Block} {addr : Nat} (h : b.Canon) : (b.clearRc addr).Canon := by
  unfold Machine.Block.clearRc
  split; exacts [h.foldl fun _ h' _ => Canon.ite h'.put h', h]

theorem Block.Canon.guardedRead {who : Requester} {addr : Nat} {value : Block → Nat → Nat} {b : Block} (h : b.Canon) :
    (guardedRead who addr value b).1.Canon := by
  unfold Machine.guardedRead
  dsimp only
  split
  next c st hr => exact h.refuse _ hr
  next =>
    split
    · exact h.touched.setShadow.clearRc
    · split
      · split; exacts [h.touched.dropShadow, h.touched]
      · exact h.touched
    · exact h.touched.clearRc

/-! ### The event-record queue controller -/

theorem Block.Canon.markFull {b : Block} (h : b.Canon) : b.markFull.Canon :=
  h.foldl fun _ h' _ => Canon.ite (Canon.ite h' h'.setSource.bump) (Canon.ite h'.setSource h')

theorem Block.Canon.notify {b : Block} (h : b.Canon) : b.notify.Canon := h.post.frame

theorem Block.Canon.claim {b : Block} {s t : Nat} (h : b.Canon) : (b.claim s t).Canon :=
  Canon.bind h.setSource.frame.bump64.put fun hb3 => Canon.ite hb3.notify hb3

theorem Block.Canon.irqClaim {b : Block} (h : b.Canon) : (irqClaim b).Canon := by
  unfold Machine.irqClaim
  dsimp only
  refine Canon.whenDue (fun _ h' => ?_) h
  split
  · split; exacts [h'.markFull.claim, h'.markFull]
  · exact h'.markFull

theorem Block.Canon.ackSource {b : Block} {s : Nat} (h : b.Canon) : (b.ackSource s).Canon :=
  Canon.ite h.bump (Canon.ite h.setSource.bump h.setSource)

theorem Block.Canon.irqAckOp {w : Nat} {b : Block} (h : b.Canon) : (irqAckOp w b).1.Canon := by
  unfold Machine.irqAckOp
  exact h.ackSource

theorem Block.Canon.irqRaiseOp {who : Requester} {w : Nat} {b : Block} (h : b.Canon) : (irqRaiseOp who w b).1.Canon := by
  unfold Machine.irqRaiseOp
  split; exacts [h.bump, h.raise]

theorem Block.Canon.irqPopOp {who : Requester} {t w : Nat} {b : Block} (h : b.Canon) : (irqPopOp who t w b).1.Canon := by
  unfold Machine.irqPopOp
  split; exact h
  split; exact h
  split
  · exact h.bump
  · exact Canon.iteFst (.fst h.frame.ackSource) h.frame

theorem Block.Canon.notifyRepeat {b : Block} (h : b.Canon) : (notifyRepeat b).Canon := Canon.whenDue (fun _ h' => h'.notify) h

theorem Block.Canon.startIrq {b : Block} {payload : Nat} (h : b.Canon) : (b.startIrq payload).Canon := h.frame.raise

/-! ### A module reset -/

theorem Block.Canon.toOff {b : Block} {cause : Nat} {powerOn : Bool} (h : b.Canon) : (b.toOff cause powerOn).Canon :=
  Canon.put ⟨Memory.wf_nil, Memory.wf_nil, keysRise_filter h.regs _, rfl⟩

theorem Block.Canon.showStandby {b : Block} (h : b.Canon) : b.showStandby.Canon := h.setLevel

theorem Block.Canon.yield {b : Block} {cause : Nat} (h : b.Canon) : (b.yield cause).Canon := h.put.put.put.put.put.put.framePair

theorem Block.Canon.diagnose {b : Block} {cause : Nat} (h : b.Canon) : (b.diagnose cause).Canon := by
  unfold Machine.Block.diagnose
  split; exacts [Canon.ite h.put h, Canon.ite h.yield (Canon.ite h.put h.put.put.put.toOff)]

/-! ### Memory protection -/

theorem Block.Canon.countWindow {b : Block} {r : Nat} (h : b.Canon) : (b.countWindow r).Canon := by
  unfold Machine.Block.countWindow
  dsimp only
  split; exacts [h, Canon.ite h.frame.raise h.frame]

theorem Block.Canon.wearCorr {b : Block} {r : Nat} (h : b.Canon) : (b.wearCorr r).Canon := Canon.ite h.frame h

theorem Block.Canon.corrected {b : Block} {r a pos : Nat} (h : b.Canon) : (b.corrected r a pos).Canon :=
  h.wearCorr.bump.put.put.put.put.putB.countWindow

theorem Block.Canon.uncorrected {b : Block} {r a : Nat} (h : b.Canon) : (b.uncorrected r a).Canon :=
  Canon.bind h.bump.put.put.put.raise fun hb2 => Canon.ite hb2.put hb2

theorem Block.Canon.actCritical {b before : Block} (h : b.Canon) : (b.actCritical before).Canon := Canon.ite h.diagnose h

theorem Block.Canon.poisonWord {b : Block} {w : Nat} {u : Upset} (h : b.Canon) : (b.poisonWord w u).Canon :=
  Canon.mark (Canon.ite ⟨Memory.wf_writeBytes _ h.dram _, h.sbDram, h.regs, h.sbRegs⟩ h.frame)

theorem Block.Canon.check {b : Block} {w : Nat} (h : b.Canon) : (b.check w).Canon := by
  unfold Machine.Block.check
  dsimp only
  split; exacts [h, Canon.ite h.frame.poisonWord.uncorrected h.frame.corrected]

theorem Block.Canon.checkRange {b : Block} {a n : Nat} (h : b.Canon) : (b.checkRange a n).Canon := h.foldl fun _ h' _ => h'.check

theorem Block.Canon.residueMismatch {b : Block} (h : b.Canon) : b.residueMismatch.Canon :=
  Canon.bind h.bump.bump.countWindow.framePair.put fun hb2 => Canon.ite hb2.diagnose hb2

theorem Block.Canon.takeResidue {b : Block} {unit : Nat} (h : b.Canon) : (b.takeResidue unit).2.Canon := by
  unfold Machine.Block.takeResidue
  dsimp only
  split; exacts [h.frame.bump.residueMismatch, h]

theorem Block.Canon.scrubNext {b : Block} (h : b.Canon) : b.scrubNext.Canon := Canon.ite h.put.put.bump h.put.put

theorem Block.Canon.upset {b : Block} {w : Nat} {u : Option Upset} (h : b.Canon) : (b.upset w u).Canon := by
  unfold Machine.Block.upset
  dsimp only
  split; exacts [Canon.ite h h.frame, h]

theorem Block.Canon.newWindow {b : Block} {r t : Nat} (h : b.Canon) : (b.newWindow r t).Canon := h.frame

theorem Block.Canon.startWindows {b : Block} (h : b.Canon) : b.startWindows.Canon := h.foldl fun _ h' _ => h'.newWindow

theorem Block.Canon.eccWindowEnd {r : Nat} {b : Block} (h : b.Canon) : (eccWindowEnd r b).Canon := by
  unfold Machine.eccWindowEnd
  split; exacts [Canon.whenDue (fun _ h' => h'.newWindow) h, h]

theorem Block.Canon.eccThrOp {r w : Nat} {b : Block} (h : b.Canon) : (eccThrOp r w b).1.Canon := by
  unfold Machine.eccThrOp
  dsimp only
  exact Canon.ite h.writeFields h.writeFields.newWindow

/-! ### Fast channels -/

theorem Block.Canon.settle {b : Block} {c least : Nat} (h : b.Canon) : (b.settle c least).Canon := h.frame

theorem Block.Canon.enableGroup {b : Block} {g : Nat} (h : b.Canon) : (b.enableGroup g).Canon := h.foldl fun _ h' _ => h'.settle

theorem Block.Canon.dropDisc {b : Block} {c : Nat} (h : b.Canon) : (b.dropDisc c).Canon := h.frame

theorem Block.Canon.dropPend {b : Block} {c : Nat} (h : b.Canon) : (b.dropPend c).Canon := h.frame

theorem Block.Canon.fchOp {c addr w : Nat} {b : Block} (h : b.Canon) : (fchOp c addr w b).1.Canon := by
  unfold Machine.fchOp
  dsimp only
  exact Canon.bind (Canon.ite h.writeFields.settle h.writeFields) fun hb2 => Canon.bind (Canon.ite hb2.dropPend hb2) fun hb3 =>
    Canon.ite hb3 hb3.dropDisc

theorem Block.Canon.settleCountEnd {c : Nat} {b : Block} (h : b.Canon) : (settleCountEnd c b).Canon :=
  Canon.whenDue (fun _ h' => h'.frame) h

theorem Block.Canon.sampled {b : Block} {f : FastCode} (h : b.Canon) : (b.sampled f).Canon := by
  unfold Machine.Block.sampled
  dsimp only
  exact Canon.bind (Canon.ite (Canon.bind (Canon.ite h.putB.bump h.putB) fun hb3 => Canon.ite hb3.put hb3) h) fun hb1 => by
    split; exacts [hb1.frame, hb1]

theorem Block.Canon.link {b : Block} {x : LinkItem} (h : b.Canon) : (b.link x).Canon := h.frame

theorem Block.Canon.fastSampleInstant {codes : List FastCode} {b : Block} (h : b.Canon) : (fastSampleInstant codes b).Canon := by
  unfold Machine.fastSampleInstant
  exact Canon.whenDue (fun _ h' => ((h'.foldl fun _ h1 _ => h1.sampled).foldl fun _ h1 _ => h1.link).frame) h

/-! ### Woodpecker -/

theorem Block.Canon.calLost {b : Block} {s : Nat} (h : b.Canon) : (b.calLost s).Canon := Canon.ite h.bump h.bump

theorem Block.Canon.markSource {b : Block} {s : Nat} {pile lost : Bool} (h : b.Canon) : (b.markSource s pile lost).Canon := h.frame

theorem Block.Canon.countLive {b : Block} {s k : Nat} (h : b.Canon) : (b.countLive s k).Canon := by
  unfold Machine.Block.countLive
  dsimp only
  split; exacts [Canon.ite h.frame h, h]

theorem Block.Canon.record {b : Block} {s : Nat} {trail : Bool} {x : Crossing} (h : b.Canon) : (b.record s trail x).Canon :=
  Canon.bind (Canon.ite h.frame h.frame.bump) fun hb2 => Canon.ite hb2 hb2.countLive

theorem Block.Canon.convert {b : Block} {s : Nat} {trail : Bool} {x : Crossing} (h : b.Canon) : (b.convert s trail x).1.Canon := by
  unfold Machine.Block.convert
  split
  · exact (Canon.ite h.bump h.bump).markSource
  · split; exacts [(Canon.ite h.bump h.bump).markSource, h.record]

theorem Block.Canon.setDisc {b : Block} {c : Nat} {d : Disc} (h : b.Canon) : (b.setDisc c d).Canon := h.frame

theorem Block.Canon.passHit {b : Block} {c : Nat} {x : Crossing} (h : b.Canon) : (b.passHit c x).Canon :=
  Canon.bind (Canon.ite h.bump64.setDisc h.bump64.setDisc.frame) fun hb2 => Canon.ite hb2.calLost hb2.convert

theorem Block.Canon.crossLow {b : Block} {c k : Nat} (h : b.Canon) : (b.crossLow c k).Canon :=
  Canon.ite h (Canon.ite h.bump.setDisc (Canon.ite h.setDisc h.passHit))

theorem Block.Canon.crossHigh {b : Block} {c : Nat} (h : b.Canon) : (b.crossHigh c).Canon := by
  unfold Machine.Block.crossHigh
  split; exacts [h.passHit, h]

theorem Block.Canon.crossBack {b : Block} {c k : Nat} (h : b.Canon) : (b.crossBack c k).Canon :=
  Canon.ite (Canon.ite h.setDisc.calLost h.setDisc.convert) h.setDisc

theorem Block.Canon.follow {b : Block} {c ev : Nat} (h : b.Canon) : (b.follow c ev).Canon :=
  Canon.ite (Canon.ite h ((Canon.ite h.bump h).setDisc)) (Canon.ite (Canon.ite h.setDisc h) h.setDisc)

theorem Block.Canon.openWindow {b : Block} {g t : Nat} (h : b.Canon) : (b.openWindow g t).Canon := h.frame

theorem Block.Canon.closeWindow {b : Block} {g t : Nat} (h : b.Canon) : (b.closeWindow g t).Canon := by
  unfold Machine.Block.closeWindow
  dsimp only
  split; exacts [h.frame, h]

theorem Block.Canon.pinUp {b : Block} {i k : Nat} (h : b.Canon) : (b.pinUp i k).Canon :=
  Canon.ite h.calLost (Canon.ite h.bump (Canon.ite (Canon.ite h.convert.frame.openWindow h.convert.frame) h.convert))

theorem Block.Canon.pinDown {b : Block} {i k : Nat} (h : b.Canon) : (b.pinDown i k).Canon :=
  Canon.ite h.calLost (Canon.bind (Canon.ite h.closeWindow h) fun hb1 => Canon.ite hb1.convert hb1)

theorem Block.Canon.pinEdge {b : Block} {i : Nat} {high : Bool} {k : Nat} (h : b.Canon) : (b.pinEdge i high k).Canon :=
  Canon.ite h (Canon.ite h.putB.pinUp h.putB.pinDown)

theorem Block.Canon.tdcEdge {src ev code : Nat} {b : Block} (h : b.Canon) : (tdcEdge src ev code b).Canon :=
  Canon.ite (Canon.whenDue (fun _ h' => Canon.ite h'.follow (Canon.ite h'.crossLow (Canon.ite h'.crossHigh h'.crossBack))) h) (Canon.whenDue
    (fun _ h' => h'.pinEdge) h)

theorem Block.Canon.discHoldoffEnd {c : Nat} {b : Block} (h : b.Canon) : (discHoldoffEnd c b).Canon :=
  Canon.whenDue (fun _ h' => h'.frame) h

theorem Block.Canon.slowInput {b : Block} {x : SlowInput} (h : b.Canon) : (b.slowInput x).Canon := (Canon.ite h.bump h).frame

theorem Block.Canon.lynxHit {b : Block} {h : Hit} (hb : b.Canon) : (b.lynxHit h).Canon :=
  Canon.ite hb (Canon.ite hb.frame (Canon.ite hb.slowInput hb))

theorem Block.Canon.hitRelease {b : Block} (h : b.Canon) : (hitRelease b).Canon := by
  unfold Machine.hitRelease
  dsimp only
  split; exacts [h, Canon.whenDue (fun _ h' => Canon.ite h'.frame.link.lynxHit h'.frame.bump) h]

theorem Block.Canon.settleCal {b : Block} (h : b.Canon) : b.settleCal.Canon := by
  unfold Machine.Block.settleCal
  dsimp only
  split; exacts [Canon.ite h.put.put.frame h, h]

theorem Block.Canon.calFinish {b : Block} {s : Nat} {ok : Bool} (h : b.Canon) : (b.calFinish s ok).Canon := by
  unfold Machine.Block.calFinish
  dsimp only
  split; exacts [(Canon.ite h.put h.put).frame.settleCal, h]

theorem Block.Canon.startCal {b : Block} {live : Bool} {scope : List Nat} (h : b.Canon) : (b.startCal live scope).Canon :=
  (h.put.put.put.frame.foldl fun _ h' _ => h'.calFinish).settleCal

theorem Block.Canon.abortCal {b : Block} (h : b.Canon) : b.abortCal.Canon := by
  unfold Machine.Block.abortCal
  dsimp only
  split; exacts [h.put.put.frame, h]

theorem Block.Canon.tdcCalOp {w : Nat} {b : Block} (h : b.Canon) : (tdcCalOp w b).1.Canon := by
  have h1 : (if bitAt w 30 then b.abortCal else b).Canon := Canon.ite h.abortCal h
  unfold Machine.tdcCalOp
  dsimp only
  generalize (if bitAt w 30 then b.abortCal else b) = b1 at h1 ⊢
  split
  · split; exact h1.bump
    split; exacts [h1.startCal, h1]
  · exact h1

theorem Block.Canon.install {b : Block} {s : Nat} {t : CalTable} (h : b.Canon) : (b.install s t).Canon := h.frame

theorem Block.Canon.tdcCalSourceDone {src : Nat} {counts : List Nat} {b : Block} (h : b.Canon) : (tdcCalSourceDone src counts b).Canon := by
  unfold Machine.tdcCalSourceDone
  dsimp only
  split; exacts [h, Canon.whenDue (fun _ h' => Canon.ite h'.install.calFinish h'.calFinish) h]

theorem Block.Canon.tdcCalTimeout {src : Nat} {b : Block} (h : b.Canon) : (tdcCalTimeout src b).Canon := by
  unfold Machine.tdcCalTimeout
  split; exacts [h, Canon.whenDue (fun _ h' => h'.calFinish) h]

theorem Block.Canon.windowRefuse {b : Block} (h : b.Canon) : CanonOpt b.windowRefuse := by
  unfold Machine.Block.windowRefuse
  split; exact .some h.bump
  split
  · split; exacts [.some h.offAccess, .none]
  · exact .none

theorem Block.Canon.tdcWindowOp {addr w : Nat} {b : Block} (h : b.Canon) : (tdcWindowOp addr w b).1.Canon := by
  unfold Machine.tdcWindowOp
  dsimp only
  split
  next r hr => exact h.windowRefuse r hr
  next =>
    split; exact h.frame
    split; exact Canon.ite h.install h
    split; exacts [h.frame, h]

theorem Block.Canon.pinCfgOp {i w : Nat} {b : Block} (h : b.Canon) : (pinCfgOp i w b).1.Canon := by
  unfold Machine.pinCfgOp
  dsimp only
  split; exacts [h.bump, h.writeFields]

theorem Block.Canon.armOp {addr w n : Nat} {b : Block} (h : b.Canon) : (armOp addr w n b).1.Canon := by
  unfold Machine.armOp
  split; exacts [h.bump, h.writeFields]

/-! ### Node IDs, routes and trees -/

theorem Block.Canon.nextFlood {b : Block} (h : b.Canon) : b.nextFlood.2.Canon := by
  unfold Machine.Block.nextFlood
  dsimp only
  exact h.frame

theorem Block.Canon.pinMeets {b : Block} {m : ClaimMsg} (h : b.Canon) : (b.pinMeets m).Canon := by
  unfold Machine.Block.pinMeets
  dsimp only
  split; exacts [h, Canon.ite h.put.frame (Canon.ite h.frame h)]

theorem Block.Canon.floodClaim {b : Block} {kind node : Nat} {held : Bool} (h : b.Canon) : (b.floodClaim kind node held).Canon :=
  h.nextFlood.remember.flood.pinMeets

theorem Block.Canon.claimRefused {b : Block} {c : OwnClaim} (h : b.Canon) : (b.claimRefused c).Canon :=
  Canon.ite h.put.frame (Canon.ite h.put.put.bump.setLevel.frame h.frame)

theorem Block.Canon.pinned {b : Block} {node : Nat} (h : b.Canon) : (b.pinned node).Canon := by
  unfold Machine.Block.pinned
  dsimp only
  refine Canon.ite h.floodClaim ?_
  split; exacts [Canon.ite h h.put.frame, h.put.frame]

theorem Block.Canon.holdId {b : Block} {c : OwnClaim} (h : b.Canon) : (b.holdId c).Canon :=
  h.put.put.put.put.put.put.put.setLevel.frame.floodClaim.sendCaps

theorem Block.Canon.reQuarantine {b : Block} (h : b.Canon) : b.reQuarantine.Canon :=
  Canon.bind h.putB.setLevel fun hb1 => Canon.ite hb1 hb1.sendCaps

theorem Block.Canon.advertEntry {b : Block} {p : Nat} {e : AdvertEntry} (h : b.Canon) : (b.advertEntry p e).Canon :=
  Canon.ite h (Canon.ite h.setRoute h.setRoute)

theorem Block.Canon.triggeredAdvert {b : Block} (h : b.Canon) : b.triggeredAdvert.Canon :=
  Canon.ite h (h.frame.foldl fun _ h' _ => h'.foldl fun _ h1 _ => h1.post)

theorem Block.Canon.periodicAdvert {b : Block} (h : b.Canon) : b.periodicAdvert.Canon :=
  (Canon.ite h.frame h).frame.foldl fun _ h' _ => h'.post

theorem Block.Canon.failOver {b : Block} {d : Nat} (h : b.Canon) : (b.failOver d).Canon := h.setRoute.triggeredAdvert

theorem Block.Canon.ageRoutes {b : Block} (h : b.Canon) : b.ageRoutes.Canon := h.frame

theorem Block.Canon.setParent {b : Block} {x : Nat} {o : Option Nat} (h : b.Canon) : (b.setParent x o).Canon := by
  unfold Machine.Block.setParent
  cases o with
  | none =>
    exact Canon.bind (Canon.ite h.put.put.setTree.bump h.put.put.setTree) fun h3 => Canon.ite (Canon.ite h3 h3.setDomain).put h3
  | some p =>
    exact Canon.bind (Canon.ite h.put.put.put.setTree.bump h.put.put.put.setTree) fun h3 =>
      Canon.ite (Canon.ite h3 h3.setDomain).put.put h3

theorem Block.Canon.reparent {b : Block} {x : Nat} (h : b.Canon) : (b.reparent x).Canon := by
  unfold Machine.Block.reparent
  dsimp only
  refine Canon.ite h.setParent ?_
  split
  · refine Canon.ite ?_ h.setParent
    split; exacts [h.setParent, h.setParent]
  · exact h.setParent

theorem Block.Canon.reparentNext {b : Block} {x : Nat} (h : b.Canon) : (b.reparentNext x).Canon := by
  unfold Machine.Block.reparentNext
  split
  · split; exacts [h.setParent, h]
  · exact h.reparent

theorem Block.Canon.treeEpoch {b : Block} {x : Nat} (h : b.Canon) : (b.treeEpoch x).Canon :=
  h.setTree.refreshChildren.reparent.foldl fun _ h' _ => h'.post

theorem Block.Canon.claimEpoch {b : Block} (h : b.Canon) : b.claimEpoch.Canon := by
  unfold Machine.Block.claimEpoch
  cases b.fab.claim with
  | none =>
    dsimp only
    split; exacts [h.nextFlood.remember.flood.frame, h]
  | some c =>
    dsimp only
    split; exacts [Canon.frame (.flood (.remember (.nextFlood (.frame (Canon.ite h.floodClaim h))))), Canon.frame (Canon.ite h.floodClaim h)]

theorem Block.Canon.fabricEpoch {b : Block} (h : b.Canon) : b.fabricEpoch.Canon := by
  unfold Machine.Block.fabricEpoch
  dsimp only
  exact Canon.bind (h.ageRoutes.claimEpoch.foldl fun _ h' _ => h'.treeEpoch).periodicAdvert.triggeredAdvert fun hb3 => by
    exact ((Canon.ite hb3.sendCaps hb3).foldl fun _ h' _ => by split; exacts [h'.setPort, h']).reQuarantine

/-! ### The time island -/

theorem Block.Canon.sbStore {b : Block} {a : Nat} {v : List Nat} (h : b.Canon) : (b.sbStore a v).Canon :=
  ⟨h.dram, Memory.wf_writeBytes v h.sbDram a, h.regs, h.sbRegs⟩

theorem Block.Canon.bothStore {b : Block} {a : Nat} {v : List Nat} (h : b.Canon) : (b.bothStore a v).Canon :=
  Canon.ite h.store.sbStore h.store

theorem Block.Canon.anchor {b : Block} (h : b.Canon) : b.anchor.Canon := h.bothStore.frame

theorem Block.Canon.disarm {b : Block} {i : Nat} (h : b.Canon) : (b.disarm i).Canon := h.put.frame

theorem Block.Canon.toutJump {b : Block} {dom : Nat} (h : b.Canon) : (b.toutJump dom).Canon :=
  h.foldl fun _ h' _ => Canon.ite (Canon.ite h' (Canon.ite h'.bumpBy.disarm h'.bumpBy.frame)) h'

theorem Block.Canon.toutStart {b : Block} (h : b.Canon) : b.toutStart.Canon := by
  unfold Machine.Block.toutStart
  dsimp only
  exact h.foldl fun _ h' _ => by split; exacts [Canon.ite (Canon.ite h' h'.frame) h', h']

theorem Block.Canon.retimed {old new : Block} (hnew : new.Canon) : (Block.retimed old new).Canon :=
  Canon.bind (hnew.foldl fun _ h' _ => h'.setLevel) fun hb1 => Canon.bind (Canon.ite hb1.raise hb1) fun hb2 =>
    (Canon.ite hb2.anchor hb2).toutStart

theorem Block.Canon.requality {b : Block} {x : Nat} (h : b.Canon) : (b.requality x).Canon := h.setDomain

theorem Block.Canon.setSync {b : Block} {x st : Nat} (h : b.Canon) : (b.setSync x st).Canon := h.put.requality

theorem Block.Canon.establishStamp {b : Block} {x : Nat} (h : b.Canon) : (b.establishStamp x).Canon := Canon.ite h h.frame.put.put.frame

theorem Block.Canon.stepTo {b : Block} {x t : Nat} (h : b.Canon) : (b.stepTo x t).Canon := h.setDomain.toutJump

theorem Block.Canon.establishMaster {b : Block} {x : Nat} (h : b.Canon) : (b.establishMaster x).Canon :=
  h.setDomain.setSync.put.establishStamp

theorem Block.Canon.reselect {b : Block} (h : b.Canon) : b.reselect.Canon := Canon.ite h.putB.frame h.putB.frame.put

/-! ### The raw ring and its directory -/

theorem Block.Canon.sbTake {b : Block} {x : LinkItem} (h : b.Canon) : (b.sbTake x).Canon :=
  Canon.ite (h.framePair.foldl fun _ h' _ => h'.sbStore) h

theorem Block.Canon.ringTake {b : Block} {x : LinkItem} (h : b.Canon) : (b.ringTake x).Canon :=
  Canon.ite (h.frame.foldl fun _ h' _ => h'.store) h

theorem Block.Canon.ringItemStore {b : Block} (h : b.Canon) : (ringItemStore b).Canon := by
  unfold Machine.ringItemStore
  split; exacts [h, h.frame.ringTake.sbTake]

theorem Block.Canon.readBlock {b : Block} {s n : Nat} (h : b.Canon) : (b.readBlock s n).1.Canon := by
  unfold Machine.Block.readBlock
  dsimp only
  split
  · exact h.bump
  · split
    · exact h.checkRange.bump.bump
    · split; exacts [h.checkRange.bump, h.checkRange.checkRange]

theorem Block.Canon.nextStored {b : Block} {s n fuel : Nat} (h : b.Canon) : (nextStored b s n fuel).1.Canon := by
  induction fuel generalizing b n with
  | zero => exact h
  | succ fuel ih =>
    rw [Machine.nextStored]
    split; exact h
    split
    · split; exacts [h, ih h.bump]
    · exact ih h

theorem Block.Canon.readFrom {b : Block} {s e lo hi n fuel : Nat} (h : b.Canon) : (readFrom b s e lo hi n fuel).1.Canon := by
  induction fuel generalizing b n with
  | zero => exact h
  | succ fuel ih =>
    rw [Machine.readFrom]
    dsimp only
    split; exact h
    split; exact h
    split; exact ih h
    have h1 : (b.readBlock s n).1.Canon := h.readBlock
    split
    · split; exacts [ih h1, h1]
    · have h2 : (Machine.nextStored (b.readBlock s n).1 s (n + 1) ringBlocks).1.Canon := h1.nextStored
      split
      next hm => rw [hm] at h2; exact h2
      next hm => rw [hm] at h2; exact ih h2

theorem Block.Canon.readEpoch {b : Block} {s e lo hi : Nat} (h : b.Canon) : (b.readEpoch s e lo hi).1.Canon := by
  unfold Machine.Block.readEpoch
  split; exacts [h, h.readFrom]

/-! ### Beaver -/

theorem Block.Canon.setLoop {b : Block} {t s : Nat} {x : LoopSt} (h : b.Canon) : (b.setLoop t s x).Canon := h.frame

theorem Block.Canon.setPch {b : Block} {n : Nat} {x : PrecCh} (h : b.Canon) : (b.setPch n x).Canon := h.frame

theorem Block.Canon.putSignals {b : Block} {t s : Nat} {v : Table Int} (h : b.Canon) : (b.putSignals t s v).Canon :=
  h.foldl fun _ h' _ => h'.put

theorem Block.Canon.genStop {b : Block} {t s : Nat} (h : b.Canon) : (b.genStop t s).Canon := h.setLoop.put

theorem Block.Canon.genAdvance {b : Block} {t s : Nat} (h : b.Canon) : (b.genAdvance t s).Canon := by
  unfold Machine.Block.genAdvance
  dsimp only
  split; exacts [h, Canon.ite h.genStop h.setLoop]

theorem Block.Canon.capPoint {b : Block} {t s : Nat} {x y : Int} {flags raw dom quality : Nat} (h : b.Canon) :
    (b.capPoint t s x y flags raw dom quality).Canon :=
  h.link.put.frame

theorem Block.Canon.capEnd {b : Block} {t s : Nat} (h : b.Canon) : (b.capEnd t s).Canon := by
  unfold Machine.Block.capEnd
  dsimp only
  split; exacts [h, h.capPoint.setLoop.put]

theorem Block.Canon.capStart {b : Block} {t s : Nat} (h : b.Canon) : (b.capStart t s).Canon := h.setLoop.put.put.put

theorem Block.Canon.capTake {b : Block} {t s : Nat} {v : Int × Int} {ovr : Bool} {raw dom quality : Nat} (h : b.Canon) :
    (b.capTake t s v ovr raw dom quality).Canon := by
  unfold Machine.Block.capTake
  dsimp only
  split; exacts [h, Canon.ite (Canon.ite h.capPoint.setLoop.put h.capPoint.setLoop) h.setLoop]

theorem Block.Canon.drive {b : Block} {t s : Nat} {code : Int} (h : b.Canon) : (b.drive t s code).Canon := by
  unfold Machine.Block.drive
  dsimp only
  split; exacts [h.put.put, h.put]

theorem Block.Canon.tripSafe {b : Block} {t s cause : Nat} (h : b.Canon) : (b.tripSafe t s cause).Canon :=
  Canon.ite h.genStop.capEnd.bump.put.put.setLoop.drive.setLevel.wakeCore h

theorem Block.Canon.tripTakers {b : Block} {n cause : Nat} (h : b.Canon) : (b.tripTakers n cause).Canon :=
  h.foldl fun _ h' _ => Canon.ite h'.tripSafe h'

theorem Block.Canon.progCheck {b : Block} {t s k : Nat} (h : b.Canon) : (b.progCheck t s k).Canon := h.checkRange

theorem Block.Canon.execApply {b : Block} {t s k : Nat} {r : Run} {handing ovr : Bool} {raw dom quality tick : Nat} (h : b.Canon) :
    (b.execApply t s k r handing ovr raw dom quality tick).Canon := by
  unfold Machine.Block.execApply
  dsimp only
  exact Canon.bind (Canon.ite h.capEnd h).putSignals.put.put.setLoop.drive.putB fun h4 =>
    Canon.setLoop (.put (.genAdvance (by split; exacts [h4.capTake, h4])))

theorem Block.Canon.execute {b : Block} {t s : Nat} {ovr : Bool} {raw dom quality tick : Nat} (h : b.Canon) :
    (b.execute t s ovr raw dom quality tick).Canon := by
  unfold Machine.Block.execute
  dsimp only
  exact Canon.bind (Canon.ite h.bump.put h.put) fun hb1 => by
    exact Canon.bind hb1.progCheck fun hb2 => by
      refine Canon.ite ?_ ?_
      · split; exacts [Canon.ite hb1.bump.tripSafe hb1.bump, hb1.bump]
      · refine Canon.ite hb2.tripSafe ?_
        exact Canon.bind (Canon.ite hb2.takeResidue.bump hb2).setLoop.bump64.execApply fun hb5 => by
          split; exacts [hb5.tripSafe, hb5]

theorem Block.Canon.loopExecution {t s : Nat} {overrun : Bool} {b : Block} (h : b.Canon) : (loopExecution t s overrun b).Canon := by
  unfold Machine.loopExecution
  dsimp only
  split; exacts [h, h.setLoop.execute.actCritical]

theorem Block.Canon.loopStall {t s m : Nat} {b : Block} (h : b.Canon) : (loopStall t s m b).Canon := by
  unfold Machine.loopStall
  exact Canon.whenDue (fun _ h' => h'.tripSafe) h

theorem Block.Canon.loopRefuse {b : Block} {t s : Nat} (h : b.Canon) : (b.loopRefuse t s).1.Canon := by
  unfold Machine.Block.loopRefuse
  exact h.bump.put

theorem Block.Canon.loopResult {b : Block} {t s r : Nat} (h : b.Canon) : (b.loopResult t s r).1.Canon := by
  unfold Machine.Block.loopResult
  exact h.put

theorem Block.Canon.letGo {b : Block} {t s : Nat} (h : b.Canon) : (b.letGo t s).Canon := by
  unfold Machine.Block.letGo
  dsimp only
  refine Canon.ite h ?_
  split; exacts [h.drive.put.put, h.drive]

theorem Block.Canon.bvrStartOp {t s k : Nat} {b : Block} (h : b.Canon) : (bvrStartOp t s k b).1.Canon := by
  unfold Machine.bvrStartOp
  dsimp only
  split
  · exact h.loopRefuse
  · split
    · exact h.loopResult
    · split
      · exact h.loopResult
      · split; exacts [h.loopRefuse, (Canon.ite h h.letGo).put.put.put.put.put.put.setLoop.setLevel.loopResult]

theorem Block.Canon.bvrSwitchOp {t s : Nat} {b : Block} (h : b.Canon) : (bvrSwitchOp t s b).1.Canon := by
  unfold Machine.bvrSwitchOp
  dsimp only
  split
  · exact h.loopRefuse
  · split; exacts [h.genStop.setLoop.loopResult, h.loopResult]

theorem Block.Canon.loopStop {b : Block} {t s : Nat} (h : b.Canon) : (b.loopStop t s).Canon :=
  Canon.ite h h.genStop.capEnd.letGo.put.put.setLoop.setLevel

theorem Block.Canon.bvrInjGoOp {t s : Nat} {b : Block} (h : b.Canon) : (bvrInjGoOp t s b).1.Canon := by
  unfold Machine.bvrInjGoOp
  dsimp only
  split; exacts [h.loopRefuse, (Canon.ite h.setLoop.put.capStart h.setLoop.put).loopResult]

theorem Block.Canon.bvrCmdOp {t s w : Nat} {b : Block} (h : b.Canon) : (bvrCmdOp t s w b).1.Canon := by
  unfold Machine.bvrCmdOp
  split
  · exact h.bvrStartOp
  · exact h.bvrSwitchOp
  · exact h.loopStop.loopResult
  · exact h.tripSafe.loopResult
  · exact h.bvrInjGoOp
  · exact h.genStop.loopResult
  · split; exacts [h.loopRefuse, h.capStart.loopResult]
  · exact h.capEnd.loopResult
  · exact h

theorem Block.Canon.bankOp {t s k addr : Nat} {lo : Option Nat} {w : Nat} {b : Block} (h : b.Canon) : (bankOp t s k addr lo w b).1.Canon := by
  unfold Machine.bankOp
  dsimp only
  split; exacts [h.bump, h.fieldsOp]

theorem Block.Canon.bvrCfgOp {t s w : Nat} {b : Block} (h : b.Canon) : (bvrCfgOp t s w b).1.Canon := by
  unfold Machine.bvrCfgOp
  split; exacts [h.bump, h.writeFields]

/-! ### Precision channels -/

theorem Block.Canon.settlePrec {b : Block} {n k : Nat} (h : b.Canon) : (b.settlePrec n k).Canon := h.setPch

theorem Block.Canon.settleFull {b : Block} {n : Nat} (h : b.Canon) : (b.settleFull n).Canon := h.settlePrec

theorem Block.Canon.setRange {b : Block} {n r : Nat} (h : b.Canon) : (b.setRange n r).Canon := Canon.ite h h.bump.setPch.settlePrec

theorem Block.Canon.applyRange {b : Block} {n : Nat} {start : Bool} (h : b.Canon) : (b.applyRange n start).Canon := Canon.ite h h.setRange

theorem Block.Canon.autoRange {b : Block} {n mag : Nat} {clipped : Bool} (h : b.Canon) : (b.autoRange n mag clipped).Canon :=
  Canon.ite h (Canon.ite h.setPch.setRange (Canon.ite h.setPch.setRange (Canon.ite (Canon.ite h.setPch.setRange h.setPch) h.setPch)))

theorem Block.Canon.calEnd {b : Block} {r : Nat} (h : b.Canon) : (b.calEnd r).Canon := h.put.put.frame

theorem Block.Canon.calRelease {b : Block} {r : Nat} (h : b.Canon) : (b.calRelease r).Canon := by
  unfold Machine.Block.calRelease
  split; exacts [h.calEnd.applyRange, h]

theorem Block.Canon.closePage {b : Block} {n : Nat} (h : b.Canon) : (b.closePage n).Canon := Canon.ite h h.setPch.frame

theorem Block.Canon.lookPrec {b : Block} {n : Nat} (h : b.Canon) : (b.lookPrec n).Canon := by
  unfold Machine.Block.lookPrec
  dsimp only
  exact Canon.bind (Canon.ite h.settleFull h) fun hb1 => by
    exact Canon.bind (Canon.ite hb1.closePage hb1) fun hb2 => by
      exact Canon.bind (Canon.ite hb2 hb2.setPch) fun hb3 => by
        split; exacts [Canon.ite hb3.calRelease hb3, hb3]

theorem Block.Canon.lookAll {b : Block} (h : b.Canon) : b.lookAll.Canon := h.foldl fun _ h' _ => h'.lookPrec

theorem Block.Canon.assertFault {b : Block} {n c : Nat} (h : b.Canon) : (b.assertFault n c).Canon :=
  (Canon.ite h.put.bump.setPch.put.settleFull h.put.bump.setPch).setLevel.tripTakers.wakeCore

theorem Block.Canon.leaveFault {before : Nat} {b : Block} {n : Nat} (h : b.Canon) : (Block.leaveFault before b n).Canon :=
  Canon.ite h.put.settleFull.setLevel h

theorem Block.Canon.faultAssert {n c : Nat} {b : Block} (h : b.Canon) : (faultAssert n c b).Canon :=
  Canon.whenDue (fun _ h' => h'.assertFault) h

theorem Block.Canon.excLimitAssert {n : Nat} {b : Block} (h : b.Canon) : (excLimitAssert n b).Canon :=
  Canon.whenDue (fun _ h' => h'.assertFault) h

theorem Block.Canon.drvLimitAssert {n : Nat} {b : Block} (h : b.Canon) : (drvLimitAssert n b).Canon :=
  Canon.whenDue (fun _ h' => h'.put.raise) h

theorem Block.Canon.faultAutoClear {n c : Nat} {b : Block} (h : b.Canon) : (faultAutoClear n c b).Canon :=
  Canon.whenDue (fun _ h' => h'.put.leaveFault) h

theorem Block.Canon.pchFaultOp {n w : Nat} {b : Block} (h : b.Canon) : (pchFaultOp n w b).1.Canon := by
  unfold Machine.pchFaultOp
  exact h.writeFields.leaveFault

theorem Block.Canon.pchRefuse {b : Block} {n : Nat} (h : b.Canon) : (b.pchRefuse n).1.Canon := by
  unfold Machine.Block.pchRefuse
  exact h.bump

theorem Block.Canon.pchInOp {n w : Nat} {b : Block} (h : b.Canon) : (pchInOp n w b).1.Canon := by
  unfold Machine.pchInOp
  dsimp only
  split; exacts [h.pchRefuse, (Canon.ite h.writeFields h.writeFields.settleFull).applyRange.lookPrec.settlePower]

theorem Block.Canon.pchExcOp {n w : Nat} {b : Block} (h : b.Canon) : (pchExcOp n w b).1.Canon := by
  unfold Machine.pchExcOp
  dsimp only
  split
  · exact h.pchRefuse
  · exact Canon.bind (Canon.ite h.writeFields h.writeFields.settleFull) fun hb2 => (Canon.ite hb2 hb2.put.put.setPch).lookPrec.settlePower

theorem Block.Canon.pchDrvOp {n w : Nat} {b : Block} (h : b.Canon) : (pchDrvOp n w b).1.Canon := by
  unfold Machine.pchDrvOp
  dsimp only
  split; exacts [h.pchRefuse, h.writeFields]

theorem Block.Canon.excReversal {n : Nat} {b : Block} (h : b.Canon) : (excReversal n b).Canon :=
  Canon.whenDue (fun _ h' => h'.putB.setPch.settleFull) h

theorem Block.Canon.excDutyOn {n : Nat} {b : Block} (h : b.Canon) : (excDutyOn n b).Canon := by
  unfold Machine.excDutyOn
  exact Canon.whenDue (fun _ h' => h'.setPch.lookPrec) h

theorem Block.Canon.excDutyOff {n : Nat} {b : Block} (h : b.Canon) : (excDutyOff n b).Canon :=
  Canon.whenDue (fun _ h' => h'.setPch.lookPrec) h

theorem Block.Canon.dutyBoundary {b : Block} (h : b.Canon) : b.dutyBoundary.Canon :=
  h.foldl fun _ h' _ => Canon.ite h' h'.put.setPch.lookPrec

theorem Block.Canon.pcvCfgOp {n w : Nat} {b : Block} (h : b.Canon) : (pcvCfgOp n w b).1.Canon := by
  unfold Machine.pcvCfgOp
  dsimp only
  exact h.writeFields.setPch

theorem Block.Canon.pcvCfgInForce {n : Nat} {b : Block} (h : b.Canon) : (pcvCfgInForce n b).Canon := by
  unfold Machine.pcvCfgInForce
  dsimp only
  split; exacts [h, Canon.whenDue (fun _ h' => h'.closePage.setPch.settleFull) h]

theorem Block.Canon.takeSettings {b : Block} {n : Nat} (h : b.Canon) : (b.takeSettings n).Canon :=
  (Canon.ite h.setPch.settleFull h.setPch).lookPrec

theorem Block.Canon.refSettled {n : Nat} {internal : Bool} {b : Block} (h : b.Canon) : (refSettled n internal b).Canon :=
  Canon.ite (Canon.whenDue (fun _ h' => h'.foldl fun _ h1 _ => h1.setPch) h) (Canon.whenDue (fun _ h' => h'.setPch) h)

theorem Block.Canon.precSettleEnd {n : Nat} {b : Block} (h : b.Canon) : (precSettleEnd n b).Canon := Canon.whenDue (fun _ h' => h'.setPch) h

theorem Block.Canon.coefCheck {b : Block} {n r : Nat} (h : b.Canon) : (b.coefCheck n r).Canon :=
  Canon.ite h.checkRange.put.put.put.frame h.checkRange

theorem Block.Canon.odSample {b : Block} {n word raw : Nat} {marked : Bool} {s : Nat} (h : b.Canon) :
    (b.odSample n word raw marked s).Canon :=
  Canon.ite h (Canon.ite h ((Canon.ite h.put.bump h.put.put.put).put.frame.setLevel))

theorem Block.Canon.calSample {b : Block} {n : Nat} {raw : Int} {marked clipped : Bool} (h : b.Canon) :
    (b.calSample n raw marked clipped).Canon := by
  unfold Machine.Block.calSample
  dsimp only
  split; exacts [Canon.ite h (Canon.ite h.calRelease (Canon.ite h.calRelease ((Canon.ite h.put.put h.put).frame))), h]

theorem Block.Canon.lynxPrec {b : Block} {n r : Nat} {v : Int} {marked clipped : Bool} (h : b.Canon) :
    (b.lynxPrec n r v marked clipped).Canon :=
  Canon.ite h.slowInput h

theorem Block.Canon.precMeasures {b : Block} {n : Nat} {x : PrecInput} (h : b.Canon) : (b.precMeasures n x).Canon := h.put.put.put.putB

theorem Block.Canon.precSend {b : Block} {n word : Nat} (h : b.Canon) : (b.precSend n word).Canon := h.put.link.setPch.frame

theorem Block.Canon.precisionSampleDone {n : Nat} {x : PrecInput} {b0 : Block} (h : b0.Canon) : (precisionSampleDone n x b0).Canon := by
  unfold Machine.precisionSampleDone
  dsimp only
  split
  · exact h
  · exact Canon.whenDue (fun _ h' => Canon.bind h'.lookPrec.precMeasures.coefCheck fun hb => Canon.bind (Canon.ite hb.bump hb) fun hb1 =>
      (((Canon.ite hb1.bump hb1).setPch.precSend.foldl fun _ h1 _ => h1.odSample).calSample).lynxPrec.autoRange) h

theorem Block.Canon.putPair {b : Block} {f : Field} {v : Nat} (h : b.Canon) : (b.putPair f v).Canon :=
  have h1 : (if b.ccOn then b.put f v else b).Canon := Canon.ite h.put h
  Canon.ite ⟨h1.dram, h1.sbDram, h1.regs, keysRise_putReg h1.sbRegs f v⟩ h1

theorem Block.Canon.storePair {b : Block} {a : Nat} {v : List Nat} (h : b.Canon) : (b.storePair a v).Canon :=
  Canon.bind (Canon.ite h.store h) fun hb1 => Canon.ite hb1.sbStore hb1

theorem Block.Canon.setWrCnt {b : Block} {n v : Nat} (h : b.Canon) : (b.setWrCnt n v).Canon := h.putPair.putPair

theorem Block.Canon.endPage {b : Block} {n : Nat} (h : b.Canon) : (b.endPage n).Canon := by
  unfold Machine.Block.endPage
  dsimp only
  split; exacts [h.storePair.frame, h]

theorem Block.Canon.precBufferStore {b : Block} (h : b.Canon) : (precBufferStore b).Canon := by
  unfold Machine.precBufferStore
  dsimp only
  split
  · exact h
  · split; exacts [h.frame.endPage.setWrCnt, h.frame]
  · exact Canon.bind (Canon.ite h.frame.storePair h.frame) fun hb2 => (Canon.ite hb2.storePair.frame.endPage hb2.storePair.frame).setWrCnt

theorem Block.Canon.odReqOp {w : Nat} {b : Block} (h : b.Canon) : (odReqOp w b).1.Canon := by
  unfold Machine.odReqOp
  dsimp only
  split; exacts [h.bump, h.put.put.put.put.frame]

theorem Block.Canon.odDropTimeout {s : Nat} {b : Block} (h : b.Canon) : (odDropTimeout s b).Canon := by
  unfold Machine.odDropTimeout
  exact Canon.whenDue (fun _ h' => h'.put.put.bump.frame.setLevel) h

theorem Block.Canon.odFreeOp {s w : Nat} {b : Block} (h : b.Canon) : (odFreeOp s w b).1.Canon := by
  unfold Machine.odFreeOp
  split; exacts [h.put.put.setLevel, h]

theorem Block.Canon.calCmdOp {w : Nat} {b : Block} (h : b.Canon) : (calCmdOp w b).1.Canon := by
  unfold Machine.calCmdOp
  exact Canon.bind (Canon.ite h.calRelease h) fun h1 => Canon.iteFst (.fst h1) <| Canon.iteFst (.fst h1.bump) <| Canon.iteFst (.fst h1) <|
    Canon.iteFst (.fst h1.put.put.put.put.put.frame) (.fst h1.put.put.put.put.put)

theorem Block.Canon.calComputeDone {b : Block} (h : b.Canon) : (calComputeDone b).Canon := by
  unfold Machine.calComputeDone
  dsimp only
  split; exacts [h, Canon.whenDue (fun _ h' => Canon.ite h'.put.calRelease (Canon.ite h'.put.put.calRelease h'.calRelease)) h]

theorem Block.Canon.calOfsOp {n r w : Nat} {b : Block} (h : b.Canon) : (calOfsOp n r w b).1.Canon := by
  unfold Machine.calOfsOp
  dsimp only
  exact h.frame

theorem Block.Canon.calGainOp {n r w : Nat} {b : Block} (h : b.Canon) : (calGainOp n r w b).1.Canon := by
  unfold Machine.calGainOp
  refine Canon.frame (Canon.put (.put ?_))
  split; exacts [h.put, h]

/-! ### Lynx -/

theorem Block.Canon.evalInstant {b : Block} {i : Instant} (h : b.Canon) : (b.evalInstant i).1.Canon := by
  unfold Machine.Block.evalInstant
  dsimp only
  exact Canon.bind (h.frame.foldl fun _ h' _ => h'.bump) fun hb2 => by
    split; exacts [hb2, (Canon.ite hb2.bump64.bump hb2.bump64)]

theorem Block.Canon.trgUnitOp {u w : Nat} {b : Block} (h : b.Canon) : (trgUnitOp u w b).1.Canon := by
  unfold Machine.trgUnitOp
  split; exacts [h.bump, h.writeFields]

/-! ### The life of a fragment -/

theorem Block.Canon.setFrag {b : Block} {f : Frag} (h : b.Canon) : (b.setFrag f).Canon := h.frame

theorem Block.Canon.modEpoch {b : Block} {k : Nat} {f : EpochSt → EpochSt} (h : b.Canon) : (b.modEpoch k f).Canon := h.frame

theorem Block.Canon.seeTerm {b : Block} {term : Nat} (h : b.Canon) : (b.seeTerm term).Canon := Canon.ite h.put h

theorem Block.Canon.seeEvno {b : Block} {n : Nat} (h : b.Canon) : (b.seeEvno n).Canon := Canon.ite h.put64 h

theorem Block.Canon.masterTake {b : Block} {m : PrimitiveMsg} (h : b.Canon) : (b.masterTake m).Canon :=
  Canon.ite h.bump.bump (Canon.ite h.bump.bump h.bump.frame)

theorem Block.Canon.sendPrimitive {b : Block} {m : PrimitiveMsg} (h : b.Canon) : (b.sendPrimitive m).Canon := by
  unfold Machine.Block.sendPrimitive
  refine Canon.ite h.masterTake ?_
  split; exacts [h.post, h]

theorem Block.Canon.masterAck {b : Block} {m : DecisionAckMsg} (h : b.Canon) : (b.masterAck m).Canon := h.frame

theorem Block.Canon.ackDecision {b : Block} {m : DecisionAckMsg} (h : b.Canon) : (b.ackDecision m).Canon := by
  unfold Machine.Block.ackDecision
  refine Canon.ite h.masterAck ?_
  split; exacts [h.post, h]

theorem Block.Canon.mirror {b : Block} {k : MirrorKind} (h : b.Canon) : (b.mirror k).Canon := h.framePair

theorem Block.Canon.resolve {b : Block} {e : EpochSt} (h : b.Canon) : (b.resolve e).Canon := Canon.ite h.modEpoch.mirror h.modEpoch

theorem Block.Canon.resolveEpochs {b : Block} (h : b.Canon) : b.resolveEpochs.Canon := h.foldl fun _ h' _ => Canon.ite h'.resolve h'

theorem Block.Canon.deadlineOne {b : Block} {f : Frag} (h : b.Canon) : (b.deadlineOne f).Canon :=
  Canon.ite (Canon.ite h.setFrag.bump h.setFrag) h

theorem Block.Canon.deadlineFrag {b : Block} {f : Frag} (h : b.Canon) : (b.deadlineFrag f).Canon :=
  h.deadlineOne.foldl fun _ h' _ => h'.deadlineOne

theorem Block.Canon.sealEpochs {b : Block} (h : b.Canon) : b.sealEpochs.Canon := by
  unfold Machine.Block.sealEpochs
  exact h.foldl fun _ h' _ => by split; exacts [Canon.ite h'.bump.deadlineOne h', h']

theorem Block.Canon.stageFull {b : Block} (h : b.Canon) : b.stageFull.Canon := h.bump.raise

theorem Block.Canon.seqExhausted {b : Block} {k : Nat} (h : b.Canon) : (b.seqExhausted k).Canon := h.modEpoch.bump

theorem Block.Canon.placeFrag {b : Block} {f : Frag} {stream : Bool} {inputs : Nat} (h : b.Canon) : (b.placeFrag f stream inputs).Canon :=
  Canon.ite h.modEpoch.frame (Canon.ite h.modEpoch.frame.bump.deadlineOne h.modEpoch.frame.sendPrimitive)

theorem Block.Canon.openTrigger {b : Block} {t : LocalTrigger} {f : Firing} (h : b.Canon) : (b.openTrigger t f).Canon :=
  Canon.ite h.bump (Canon.ite h.seqExhausted (Canon.bind (Canon.ite h.bump h) fun hb1 => Canon.ite hb1.stageFull hb1.placeFrag))

theorem Block.Canon.gridInstantEval {b : Block} (h : b.Canon) : (gridInstantEval b).Canon := by
  unfold Machine.gridInstantEval
  split; exact h
  refine Canon.whenDue (fun c h' => Canon.resolveEpochs ?_) h
  split
  · split; exacts [h'.evalInstant.openTrigger, h'.evalInstant]
  · exact h'.evalInstant

theorem Block.Canon.openSegment {b : Block} {f : Frag} {k n : Nat} {last : Bool} (h : b.Canon) : (b.openSegment f k n last).Canon :=
  Canon.ite h (Canon.ite h.seqExhausted (Canon.ite h.stageFull h.placeFrag))

theorem Block.Canon.streamBoundary {b : Block} {k : Nat} {f : Frag} (h : b.Canon) : (b.streamBoundary k f).Canon := by
  unfold Machine.Block.streamBoundary
  dsimp only
  split; exacts [h, Canon.ite h.setFrag (Canon.ite h.setFrag h.setFrag.openSegment)]

theorem Block.Canon.streamsBoundary {b : Block} {k : Nat} (h : b.Canon) : (b.streamsBoundary k).Canon :=
  h.foldl fun _ h' _ => h'.streamBoundary

theorem Block.Canon.staleDecision {b : Block} {m : DecisionMsg} (h : b.Canon) : (b.staleDecision m).Canon := h.bump.ackDecision

theorem Block.Canon.ackApplied {b : Block} {m : DecisionMsg} {before : List Frag} (h : b.Canon) : (b.ackApplied m before).Canon :=
  Canon.ite h.mirror h.ackDecision

theorem Block.Canon.rewindow {b : Block} {f : Frag} {pre post : Nat} (h : b.Canon) : (b.rewindow f pre post).1.Canon := by
  unfold Machine.Block.rewindow
  refine Canon.iteFst (.fst (Canon.ite h.bump h)) ?_
  dsimp only
  split; exacts [.fst (Canon.ite h.bump h), .fst (Canon.ite h.bump h)]

theorem Block.Canon.transition {b : Block} {m : DecisionMsg} {f : Frag} (h : b.Canon) : CanonOpt (b.transition m f) := by
  unfold Machine.Block.transition
  dsimp only
  split; exacts [.some h, .some h, .some h.rewindow, .some h.rewindow, .none]

theorem Block.Canon.applyDecision {b : Block} {m : DecisionMsg} (h : b.Canon) : (b.applyDecision m).Canon := by
  have h1 : ((b.resolveEpochs.seeTerm m.term).seeEvno m.eventNo).Canon := h.resolveEpochs.seeTerm.seeEvno
  unfold Machine.Block.applyDecision
  dsimp only
  split; exact h.staleDecision
  split; exact h1.staleDecision
  split; exact h1.staleDecision
  split; exact h1.bump.ackDecision
  split; exact h1.ackDecision
  split; exact h1.staleDecision
  next r hr => exact ((h1.transition r hr).setFrag.foldl fun _ h' _ => h'.setFrag).ackApplied.resolveEpochs

theorem Block.Canon.holdDecision {b : Block} {m : DecisionMsg} (h : b.Canon) : (b.holdDecision m).Canon := Canon.ite h.framePair h

theorem Block.Canon.receiveDecision {b : Block} {m : DecisionMsg} (h : b.Canon) : (b.receiveDecision m).Canon :=
  Canon.ite (Canon.ite h h.holdDecision) (Canon.ite h.holdDecision.applyDecision h.applyDecision)

theorem Block.Canon.decisionRx {viaTree : Bool} {m : DecisionMsg} {b : Block} (h : b.Canon) : (decisionRx viaTree m b).Canon := by
  unfold Machine.decisionRx
  dsimp only
  refine Canon.ite h.receiveDecision ?_
  exact Canon.bind h.resolveEpochs.seeTerm.seeEvno fun hb1 => by
    refine Canon.ite ?_ hb1
    split; exacts [hb1.post, hb1]

theorem Block.Canon.decisionAccept {viaTree : Bool} {m : DecisionMsg} {b : Block} (h : b.Canon) : (decisionAccept viaTree m b).Canon :=
  Canon.whenDue (fun _ h' => h'.decisionRx) h

theorem Block.Canon.decisionReject {viaTree : Bool} {m : DecisionMsg} {b : Block} (h : b.Canon) : (decisionReject viaTree m b).Canon :=
  Canon.whenDue (fun _ h' => h'.decisionRx) h

theorem Block.Canon.decisionSupersede {viaTree : Bool} {m : DecisionMsg} {b : Block} (h : b.Canon) :
    (decisionSupersede viaTree m b).Canon :=
  Canon.whenDue (fun _ h' => h'.decisionRx) h

theorem Block.Canon.decisionDeadline {ident : Nat} {b : Block} (h : b.Canon) : (decisionDeadline ident b).Canon := by
  unfold Machine.decisionDeadline
  split; exacts [Canon.whenDue (fun _ h' => h'.deadlineFrag.resolveEpochs) h, h]

theorem Block.Canon.emptyEpochDeadline {b : Block} (h : b.Canon) : (emptyEpochDeadline b).Canon :=
  Canon.whenDue (fun _ h' => h'.resolveEpochs) h

theorem Block.Canon.retroRx {m : RetroMsg} {b : Block} (h : b.Canon) : (retroRx m b).Canon := by
  unfold Machine.retroRx
  dsimp only
  refine Canon.whenDue (fun _ h' => ?_) h
  exact Canon.bind h'.resolveEpochs.seeTerm.seeEvno fun hb1 => by
    split
    · exact hb1
    · exact Canon.ite hb1 (Canon.ite hb1.bump (Canon.ite hb1.seqExhausted (Canon.bind (Canon.ite hb1.bump hb1) fun hb2 =>
        Canon.ite hb2.stageFull hb2.placeFrag)))

/-! ### Building a fragment -/

theorem Block.Canon.readSpan {b : Block} {s lo hi : Nat} (h : b.Canon) : (b.readSpan s lo hi).1.Canon := by
  unfold Machine.Block.readSpan
  dsimp only
  exact Canon.foldl_fst h fun _ h' _ => h'.readEpoch

theorem Block.Canon.readWave {b : Block} {g lo hi : Nat} (h : b.Canon) : (b.readWave g lo hi).1.Canon := by
  unfold Machine.Block.readWave
  dsimp only
  exact h.readSpan

theorem Block.Canon.readHits {b : Block} {s lo hi : Nat} (h : b.Canon) : (b.readHits s lo hi).1.Canon := by
  unfold Machine.Block.readHits
  dsimp only
  exact h.readSpan

theorem Block.Canon.readWindow {b : Block} {f : Frag} (h : b.Canon) : (b.readWindow f).1.Canon := by
  unfold Machine.Block.readWindow
  exact .fst (Canon.foldl_fst (.fst (Canon.foldl_fst (.fst h) fun _ h' _ => .fst h'.readWave)) fun _ h' _ => .fst h'.readHits)

theorem Block.Canon.queuePayload {b : Block} {c : EpochCfg} {p : Payload} (h : b.Canon) : (b.queuePayload c p).1.Canon := by
  unfold Machine.Block.queuePayload
  split
  · exact h
  · split; exacts [h.bump, h]

theorem Block.Canon.extract {b : Block} {f : Frag} (h : b.Canon) : (b.extract f).Canon := by
  unfold Machine.Block.extract
  dsimp only
  generalize hr : (if f.desc.winLen = 0 then (b, WindowData.mk (f.desc.groupList.map fun g => (g, [])) [] f.start) else b.readWindow f) = r
  have h1 : r.1.Canon := by
    rw [← hr]; split; exacts [h, h.readWindow]
  exact Canon.setFrag (.frame (Canon.foldl_fst (.fst (Canon.ite h1.bump h1)) fun _ h' _ => .fst h'.queuePayload))

theorem Block.Canon.extractReady {b : Block} (h : b.Canon) : b.extractReady.Canon := h.foldl fun _ h' _ => Canon.ite h'.extract h'

theorem Block.Canon.packJobStart {b : Block} (h : b.Canon) : (packJobStart b).Canon := by
  unfold Machine.packJobStart
  dsimp only
  exact Canon.bind (Canon.ite h.extractReady h) fun hb1 => by
    split
    · exact hb1
    · refine Canon.ite ?_ ?_
      · split; exacts [hb1.bump.setFrag, hb1]
      · split; exacts [hb1.setFrag, hb1]

theorem Block.Canon.packJobDone {e : Nat} {b : Block} (h : b.Canon) : (packJobDone e b).Canon := by
  unfold Machine.packJobDone
  dsimp only
  split
  · exact h
  · exact Canon.ite h.takeResidue.bump.setFrag (Canon.bind h.takeResidue.bump64.bump64.bump64 fun hb1 => (Canon.ite hb1 hb1.bump).setFrag)

theorem Block.Canon.fragmentBuilt {ident : Nat} {b : Block} (h : b.Canon) : (fragmentBuilt ident b).Canon := by
  unfold Machine.fragmentBuilt
  dsimp only
  exact Canon.bind (Canon.ite h.extractReady h) fun hb1 => by
    split
    · exact hb1
    · split
      · exact hb1
      · refine Canon.ite hb1 ?_
        split; exacts [hb1, hb1.takeResidue.setFrag]

/-! ### Fabric builders and their contributors -/

theorem Block.Canon.setSlot {b : Block} {s : MergeSlot} (h : b.Canon) : (b.setSlot s).Canon := h.frame

theorem Block.Canon.completeSlot {b : Block} {s : MergeSlot} (h : b.Canon) : (b.completeSlot s).Canon := h.modEpoch.frame

theorem Block.Canon.checkSlot {b : Block} {s : MergeSlot} (h : b.Canon) : (b.checkSlot s).Canon := Canon.ite h.completeSlot h.setSlot

theorem Block.Canon.slotFor {b : Block} {n term orig : Nat} {reassigned : Bool} (h : b.Canon) :
    (b.slotFor n term orig reassigned).1.Canon := by
  unfold Machine.Block.slotFor
  dsimp only
  split; exacts [h, h.frame]

theorem Block.Canon.announce {b : Block} {m : AnnounceMsg} (h : b.Canon) : (b.announce m).Canon := Canon.ite h h.slotFor.checkSlot

theorem Block.Canon.announceRx {m : AnnounceMsg} {b : Block} (h : b.Canon) : (announceRx m b).Canon :=
  Canon.whenDue (fun _ h' => h'.announce) h

theorem Block.Canon.retire {b : Block} {f : Frag} (h : b.Canon) : (b.retire f).Canon := Canon.ite h.setFrag h.frame

theorem Block.Canon.takeAck {b : Block} {m : FragAckMsg} (h : b.Canon) : (b.takeAck m).Canon := by
  unfold Machine.Block.takeAck
  split; exacts [Canon.ite h.retire h, h]

theorem Block.Canon.sendAck {b : Block} {m : FragAckMsg} (h : b.Canon) : (b.sendAck m).Canon := Canon.ite h.takeAck h.post

theorem Block.Canon.fragmentAckRx {m : FragAckMsg} {b : Block} (h : b.Canon) : (fragmentAckRx m b).Canon :=
  Canon.whenDue (fun _ h' => h'.takeAck) h

theorem Block.Canon.lateTake {b : Block} {m : DataMsg} (h : b.Canon) : (b.lateTake m).Canon := by
  unfold Machine.Block.lateTake
  dsimp only
  split; exacts [h.bump.frame, Canon.ite h.frame h.frame]

theorem Block.Canon.takeData {b : Block} {m : DataMsg} (h : b.Canon) : (b.takeData m).Canon := by
  unfold Machine.Block.takeData
  dsimp only
  split
  · exact Canon.ite (Canon.ite h.bump.sendAck h.bump) h
  · refine Canon.ite (Canon.ite h.bump h) ?_
    refine Canon.ite h.lateTake ?_
    refine Canon.ite (Canon.ite h.slotFor.bump h.slotFor) ?_
    split; exacts [h.slotFor.bump, h.slotFor.checkSlot]

theorem Block.Canon.fragmentDataRx {m : DataMsg} {b : Block} (h : b.Canon) : (fragmentDataRx m b).Canon :=
  Canon.whenDue (fun _ h' => h'.takeData) h

theorem Block.Canon.mergeTimeout {n : Nat} {b : Block} (h : b.Canon) : (mergeTimeout n b).Canon := by
  unfold Machine.mergeTimeout
  split; exacts [Canon.whenDue (fun _ h' => h'.completeSlot) h, h]

theorem Block.Canon.mergeIdentityExpire {ident : Nat} {b : Block} (h : b.Canon) : (mergeIdentityExpire ident b).Canon := h.frame

theorem Block.Canon.sendFragment {b : Block} {f : Frag} (h : b.Canon) : (b.sendFragment f).Canon := by
  unfold Machine.Block.sendFragment
  dsimp only
  split; exacts [h, Canon.ite (h.setFrag.foldl fun _ h' _ => h'.takeData) (h.setFrag.foldl fun _ h' _ => h'.post)]

theorem Block.Canon.fragmentResend {ident : Nat} {b : Block} (h : b.Canon) : (fragmentResend ident b).Canon := by
  unfold Machine.fragmentResend
  dsimp only
  split; exacts [Canon.whenDue (fun _ h' => h'.sendFragment) h, h]

theorem Block.Canon.fragmentAbandon {ident : Nat} {b : Block} (h : b.Canon) : (fragmentAbandon ident b).Canon := by
  unfold Machine.fragmentAbandon
  split; exacts [Canon.whenDue (fun _ h' => h'.bump.retire) h, h]

theorem Block.Canon.reassign {b : Block} {d : Nat} (h : b.Canon) : (b.reassign d).Canon := by
  unfold Machine.Block.reassign
  dsimp only
  split; exacts [h, h.foldl fun _ h' _ => Canon.ite (Canon.ite h'.sendFragment h'.setFrag) h']

/-! ### The egress queues -/

theorem Block.Canon.setQueue {b : Block} {q : Nat} {x : QueueSt} (h : b.Canon) : (b.setQueue q x).Canon := h.frame

theorem Block.Canon.egqCfgOp {q w : Nat} {b : Block} (h : b.Canon) : (egqCfgOp q w b).1.Canon := by
  unfold Machine.egqCfgOp
  split; exacts [h.bump, h.writeFields]

theorem Block.Canon.clearQueue {b : Block} {q : Nat} (h : b.Canon) : (b.clearQueue q).Canon := h.put64.put64.put64.put64.put64.setQueue

theorem Block.Canon.clearQueues {b : Block} (h : b.Canon) : b.clearQueues.Canon := h.foldl fun _ h' _ => h'.clearQueue

theorem Block.Canon.queueBoundary {b : Block} {q : Nat} (h : b.Canon) : (b.queueBoundary q).Canon := (Canon.ite h.clearQueue h).put

theorem Block.Canon.queuesBoundary {b : Block} (h : b.Canon) : b.queuesBoundary.Canon := (h.foldl fun _ h' _ => h'.queueBoundary).put

theorem Block.Canon.qStore {b : Block} {q x : Nat} {v : List Nat} (h : b.Canon) : (b.qStore q x v).Canon := Canon.ite h.store h.store.store

theorem Block.Canon.publish {b : Block} {q : Nat} {recs : List (List Nat)} (h : b.Canon) : (b.publish q recs).Canon :=
  h.qStore.put64.put64.setQueue

theorem Block.Canon.frontEntry {b : Block} {q k : Nat} (h : b.Canon) : (b.frontEntry q k).1.Canon := by
  unfold Machine.Block.frontEntry
  dsimp only
  exact Canon.bind h.setQueue.bump64 fun hb1 => (Canon.ite hb1.put64 hb1)

theorem Block.Canon.queueEntry {b : Block} {q : Nat} (h : b.Canon) : (b.queueEntry q).1.Canon := by
  unfold Machine.Block.queueEntry
  dsimp only
  exact h.checkRange.checkRange.bump64.bumpBy.put64

theorem Block.Canon.readEntries {b : Block} {q n : Nat} (h : b.Canon) : (readEntries b q n).1.Canon := by
  induction n generalizing b with
  | zero => exact h
  | succ n ih =>
    rw [Machine.readEntries]
    split
    · exact ih h.frontEntry
    · split; exacts [ih h.queueEntry, h]

theorem Block.Canon.apertureOp {who : Requester} {q n : Nat} {b : Block} (h : b.Canon) : (apertureOp who q n b).1.Canon := by
  unfold Machine.apertureOp
  dsimp only
  split
  · exact h.bump
  · split; exacts [h.readEntries, h.readEntries]

theorem Block.Canon.markQueue {b : Block} {q : Nat} (h : b.Canon) : (b.markQueue q).Canon := h.put64.setQueue

theorem Block.Canon.rewindQueue {b : Block} {q : Nat} (h : b.Canon) : (b.rewindQueue q).Canon := h.put64.setQueue.bump

theorem Block.Canon.releaseQueue {b : Block} {q : Nat} (h : b.Canon) : (b.releaseQueue q).Canon := Canon.ite h h.put64.setQueue

theorem Block.Canon.egqCmdOp {who : Requester} {q w : Nat} {b : Block} (h : b.Canon) : (egqCmdOp who q w b).1.Canon := by
  unfold Machine.egqCmdOp
  split
  · exact h.bump
  · split; exacts [h.markQueue, h.rewindQueue, h.releaseQueue, h.markQueue.releaseQueue, h]

theorem Block.Canon.fillFront {b : Block} {q : Nat} {tko : List Nat} {loss : List (List Nat)} (h : b.Canon) :
    (b.fillFront q tko loss).Canon :=
  h.setQueue

/-! ### The epoch commit -/

theorem Block.Canon.precItems {b : Block} {k : Nat} (h : b.Canon) : (b.precItems k).1.Canon := by
  unfold Machine.Block.precItems
  dsimp only
  exact Canon.foldl_fst h fun _ h' _ => h'.readEpoch

theorem Block.Canon.plan {b : Block} {e : EpochSt} (h : b.Canon) : (b.plan e).1.Canon := by
  unfold Machine.Block.plan
  dsimp only
  exact h.precItems

theorem Block.Canon.showWait {b : Block} {l : List Nat} (h : b.Canon) : (b.showWait l).Canon := (h.foldl fun _ h' _ => h'.putB).put.setLevel

theorem Block.Canon.waitSpace {b : Block} {e : EpochSt} {l : List Nat} (h : b.Canon) : (b.waitSpace e l).Canon :=
  ((Canon.ite h.bump h).foldl fun _ h' _ => h'.bump).modEpoch.showWait

theorem Block.Canon.settleFrags {b : Block} {l : List Frag} (h : b.Canon) : (b.settleFrags l).Canon :=
  h.foldl fun _ h' _ => Canon.ite (Canon.ite h'.setFrag.sendFragment h'.setFrag.retire) (Canon.ite h' h'.frame)

theorem Block.Canon.ackMerge {b : Block} {d : MergeDone} (h : b.Canon) : (b.ackMerge d).Canon := h.foldl fun _ h' _ => h'.frame.sendAck

theorem Block.Canon.publishEpoch {b : Block} {e : EpochSt} {p : Plan} (h : b.Canon) : (b.publishEpoch e p).Canon :=
  h.foldl fun _ h' _ => h'.publish

theorem Block.Canon.commitEpoch {b : Block} {e : EpochSt} {p : Plan} {l : List Frag} (h : b.Canon) : (b.commitEpoch e p l).Canon :=
  (h.publishEpoch.showWait.put.put.bump64.bumpBy.framePair.settleFrags.foldl fun _ h' _ => h'.ackMerge).frame.settlePower

theorem Block.Canon.dropIdle {b : Block} (h : b.Canon) : b.dropIdle.Canon := h.frame

theorem Block.Canon.epochCommit {b : Block} (h : b.Canon) : (epochCommit b).Canon := by
  unfold Machine.epochCommit
  dsimp only
  refine Canon.whenDue (fun _ h' => ?_) h
  split; exacts [h'.dropIdle, Canon.ite (Canon.ite h'.dropIdle.plan.commitEpoch h'.dropIdle.waitSpace) h'.dropIdle]

/-! ### The trigger master, its standby and the trigger tree -/

theorem Block.Canon.primitiveRx {p : Nat} {m : PrimitiveMsg} {b : Block} (h : b.Canon) : (primitiveRx p m b).Canon :=
  Canon.whenDue (fun _ h' => h'.frame.sendPrimitive) h

theorem Block.Canon.deliverDecision {b : Block} {m : DecisionMsg} (h : b.Canon) : (b.deliverDecision m).Canon := by
  unfold Machine.Block.deliverDecision
  refine Canon.ite h.applyDecision ?_
  split; exacts [h.post, h.post]

theorem Block.Canon.sendDecision {b : Block} {m : DecisionMsg} {time : Nat} (h : b.Canon) : (b.sendDecision m time).Canon :=
  (h.frame.foldl fun _ h' _ => h'.post).deliverDecision

theorem Block.Canon.reject {b : Block} {rule : Nat} {p : PrimitiveMsg} (h : b.Canon) : (b.reject rule p).Canon := h.sendDecision

theorem Block.Canon.acceptOne {b : Block} {c : EpochCfg} {r n : Nat} {builder : Option Nat} {p : PrimitiveMsg} (h : b.Canon) :
    (b.acceptOne c r n builder p).Canon :=
  Canon.bind h.sendDecision fun hb1 => Canon.ite hb1 hb1.sendDecision

theorem Block.Canon.sendAnnounce {b : Block} {n : Nat} {m : AnnounceMsg} (h : b.Canon) : (b.sendAnnounce n m).Canon :=
  Canon.ite h.announce h.post

theorem Block.Canon.acceptSet {b : Block} {c : EpochCfg} {r : Nat} {l : List PrimitiveMsg} (h : b.Canon) : (b.acceptSet c r l).Canon := by
  unfold Machine.Block.acceptSet
  dsimp only
  generalize hb3 : List.foldl _ _ l = b3
  have h3 : b3.Canon := by
    rw [← hb3]
    refine Canon.foldl ?_ fun _ h' _ => h'.acceptOne
    split; exacts [h.put64.sendAnnounce.frame, h.put64]
  refine Canon.ite ?_ h3
  split; exacts [h3.post, h3]

theorem Block.Canon.dropPrims {b : Block} {l : List PrimitiveMsg} (h : b.Canon) : (b.dropPrims l).Canon := h.frame

theorem Block.Canon.decidePrim {b : Block} {c : EpochCfg} {p : PrimitiveMsg} (h : b.Canon) : (b.decidePrim c p).Canon := by
  unfold Machine.Block.decidePrim
  dsimp only
  split; exacts [h.dropPrims.reject, Canon.bind h.put.dropPrims fun hb1 => Canon.ite hb1.acceptSet (hb1.foldl fun _ h' _ => h'.reject)]

theorem Block.Canon.primitiveDue {b : Block} (h : b.Canon) : (primitiveDue b).Canon := by
  unfold Machine.primitiveDue
  dsimp only
  split; exacts [Canon.whenDue (fun _ h' => h'.decidePrim) h, h]

theorem Block.Canon.decisionRepeat {ident kind : Nat} {b : Block} (h : b.Canon) : (decisionRepeat ident kind b).Canon := by
  unfold Machine.decisionRepeat
  split; exacts [Canon.whenDue (fun _ h' => Canon.ite h'.masterAck h'.deliverDecision) h, h]

theorem Block.Canon.decisionAckRx {m : DecisionAckMsg} {b : Block} (h : b.Canon) : (decisionAckRx m b).Canon :=
  Canon.whenDue (fun _ h' => h'.ackDecision) h

theorem Block.Canon.takeSeal {b : Block} {k : Nat} (h : b.Canon) : (b.takeSeal k).Canon := h.frame.sealEpochs.resolveEpochs

theorem Block.Canon.heartbeatDown {b : Block} {m : HeartbeatMsg} (h : b.Canon) : (b.heartbeatDown m).Canon := h.foldl fun _ h' _ => h'.post

theorem Block.Canon.stepDown {b : Block} {term : Nat} (h : b.Canon) : (b.stepDown term).Canon := h.put.bump.raise.frame

theorem Block.Canon.heartbeatRx {viaTree : Bool} {m : HeartbeatMsg} {b : Block} (h : b.Canon) : (heartbeatRx viaTree m b).Canon :=
  Canon.whenDue (fun _ h' => Canon.ite h'.bump (Canon.ite h' (Canon.bind
    (Canon.ite h'.stepDown h').resolveEpochs.seeTerm.seeEvno.put.frame.takeSeal fun hb3 => Canon.ite hb3.heartbeatDown hb3))) h

theorem Block.Canon.heartbeat {b : Block} (h : b.Canon) : b.heartbeat.Canon :=
  Canon.ite h ((h.put.put.frame.heartbeatDown.foldl fun _ h' _ => h'.post).takeSeal)

theorem Block.Canon.triggerStandbyTakeover {b : Block} (h : b.Canon) : (triggerStandbyTakeover b).Canon :=
  Canon.whenDue (fun _ h' => h'.resolveEpochs.put.put64.put.put.raise.frame) h

theorem Block.Canon.reannounce {b : Block} {d : Nat} (h : b.Canon) : (b.reannounce d).Canon := by
  unfold Machine.Block.reannounce
  dsimp only
  split; exacts [h, Canon.ite h (h.frame.foldl fun _ h' _ => h'.sendAnnounce)]

/-! ### Supply, Fill, Hibernate, votes that lapse, levels and Squirrel's samples -/

theorem Block.Canon.beginFill {b : Block} (h : b.Canon) : b.beginFill.Canon :=
  (h.frame.foldl fun _ h' _ => h'.put).put.drawn.put.showStandby.settlePower

theorem Block.Canon.vinValid {b : Block} (h : b.Canon) : (vinValid b).Canon := Canon.whenDue (fun _ h' => h'.beginFill) h

theorem Block.Canon.vinCutoff {b : Block} (h : b.Canon) : (vinCutoff b).Canon := h.toOff

theorem Block.Canon.wake {b : Block} {cause lanes : Nat} (h : b.Canon) : (b.wake cause lanes).Canon := h.put.put.toOff.beginFill

theorem Block.Canon.rstNReset {lowNs : Nat} {b : Block} (h : b.Canon) : (rstNReset lowNs b).Canon :=
  Canon.whenDue (fun _ h' => Canon.ite h'.wake h'.toOff) h

theorem Block.Canon.toFault {b : Block} {code : Nat} (h : b.Canon) : (b.toFault code).Canon := h.put.put.frame.settlePower

theorem Block.Canon.fillDone {r : FillResult} {b : Block} (h : b.Canon) : (fillDone r b).Canon :=
  Canon.whenDue (fun _ h' => Canon.bind h'.put.put.putB.putB.putB.put.put.put.framePair fun hb3 => Canon.ite hb3.toFault
    (Canon.ite hb3.toFault hb3.put.put.putB.frame.showStandby.settlePower)) h

theorem Block.Canon.faultReport {b : Block} (h : b.Canon) : (faultReport b).Canon := Canon.whenDue (fun _ h' => h'.emit.frame) h

theorem Block.Canon.detectorArm {b : Block} (h : b.Canon) : (detectorArm b).Canon := Canon.whenDue (fun _ h' => h'.frame) h

theorem Block.Canon.knockDetect {l : Nat} {knock : Bool} {b : Block} (h : b.Canon) : (knockDetect l knock b).Canon :=
  Canon.whenDue (fun _ h' => h'.wake) h

theorem Block.Canon.wakeTimerExpire {b : Block} (h : b.Canon) : (wakeTimerExpire b).Canon := Canon.whenDue (fun _ h' => h'.wake) h

theorem Block.Canon.thermalTrip {b : Block} (h : b.Canon) : (thermalTrip b).Canon :=
  Canon.whenDue (fun _ h' => h'.put.frame.hibernateWhenFree) h

theorem Block.Canon.voteLeaseExpire {d node : Nat} {b : Block} (h : b.Canon) : (voteLeaseExpire d node b).Canon :=
  Canon.whenDue (fun _ h' => h'.frame.settleDom) h

theorem Block.Canon.accessVoteExpire {d : Nat} {b : Block} (h : b.Canon) : (accessVoteExpire d b).Canon :=
  Canon.whenDue (fun _ h' => h'.put.settleDom) h

theorem Block.Canon.levelTransitionDone {b : Block} (h : b.Canon) : (levelTransitionDone b).Canon := by
  unfold Machine.levelTransitionDone
  dsimp only
  refine Canon.whenDue (fun _ h' => ?_) h
  split; exacts [h'.put.put.frame.requestLevel, h'.put.put.frame]

theorem Block.Canon.powerSample {mw : Nat} {tj : Int} {b : Block} (h : b.Canon) : (powerSample mw tj b).Canon :=
  Canon.whenDue (fun _ h' => h'.put.put.put64.put.frame.put) h

theorem Block.Canon.squirrelEvalTimer {b : Block} (h : b.Canon) : (squirrelEvalTimer b).Canon :=
  Canon.whenDue (fun _ h' => h'.squirrel.settlePower) h

/-! ### Test perturbations -/

theorem Block.Canon.showTst {b : Block} (h : b.Canon) : b.showTst.Canon := h.setLevel

theorem Block.Canon.disarmTst {b : Block} (h : b.Canon) : b.disarmTst.Canon := h.put.put.frame.showTst

theorem Block.Canon.armOne {b : Block} {i : Nat} (h : b.Canon) : (b.armOne i).Canon := Canon.ite h.put.frame.emit.bump h.put.frame

theorem Block.Canon.tstArmOp {w : Nat} {b : Block} (h : b.Canon) : (tstArmOp w b).1.Canon := by
  unfold Machine.tstArmOp
  dsimp only
  split
  · exact h
  · split
    · exact h.bumpBy
    · exact Canon.bind (Canon.ite h.disarmTst h) fun hb1 => by
        split; exacts [hb1, (hb1.put.foldl fun _ h' _ => h'.armOne).showTst]

theorem Block.Canon.tstBoundary {b : Block} (h : b.Canon) : b.tstBoundary.Canon := h.put.frame

theorem Block.Canon.tstDurationEnd {b : Block} (h : b.Canon) : (tstDurationEnd b).Canon := Canon.whenDue (fun _ h' => h'.disarmTst) h

theorem Block.Canon.tstBpToggle {b : Block} (h : b.Canon) : (tstBpToggle b).Canon := Canon.whenDue (fun _ h' => h'.frame) h

theorem Block.Canon.shiftOut {b : Block} {held tdi : List Bool} (h : b.Canon) : (b.shiftOut held tdi).Canon := h.emit

theorem Block.Canon.jtagBypass {tdi : List Bool} {b : Block} (h : b.Canon) : (jtagBypass tdi b).Canon :=
  Canon.whenDue (fun _ h' => h'.frame.shiftOut) h

theorem Block.Canon.jtagIdcode {tdi : List Bool} {b : Block} (h : b.Canon) : (jtagIdcode tdi b).Canon :=
  Canon.whenDue (fun _ h' => h'.frame.shiftOut) h

theorem Block.Canon.jtagSamplePreload {pins tdi : List Bool} {b : Block} (h : b.Canon) : (jtagSamplePreload pins tdi b).Canon :=
  Canon.whenDue (fun _ h' => h'.frame.shiftOut) h

theorem Block.Canon.jtagExtest {pins tdi : List Bool} {b : Block} (h : b.Canon) : (jtagExtest pins tdi b).Canon :=
  Canon.whenDue (fun _ h' => h'.emit.frame.shiftOut.emit) h

theorem Block.Canon.tapReset {b : Block} (h : b.Canon) : (tapReset b).Canon := h.frame

/-! ### Service life and wear -/

theorem Block.Canon.measureAge {b : Block} (h : b.Canon) : b.measureAge.Canon := Canon.ite h.drawn.frame h

theorem Block.Canon.emBudgetAccumulate {tj : List Int} {b : Block} (h : b.Canon) : (emBudgetAccumulate tj b).Canon :=
  Canon.whenDue (fun _ h' => h'.frame.measureAge) h

theorem Block.Canon.wearStoreUpdate {b : Block} (h : b.Canon) : (wearStoreUpdate b).Canon := Canon.whenDue (fun _ h' => h'.frame) h

/-! ### The check-value units and the decompressor's jobs -/

theorem Block.Canon.setCrcUnit {b : Block} {u : Nat} {x : CrcUnit} (h : b.Canon) : (b.setCrcUnit u x).Canon := h.frame

theorem Block.Canon.touchCrc {b : Block} {who : Requester} {u : Nat} (h : b.Canon) : (b.touchCrc who u).Canon := Canon.ite h.setCrcUnit h

theorem Block.Canon.freeCrc {b : Block} {u : Nat} (h : b.Canon) : (b.freeCrc u).Canon := h.put.put.put

theorem Block.Canon.crcGo {b : Block} {u : Nat} (h : b.Canon) : (b.crcGo u).Canon := Canon.ite h.put.put.put.setCrcUnit h.put.put.put

theorem Block.Canon.crcEnd {b : Block} {u a n result : Nat} (h : b.Canon) : (b.crcEnd u a n result).Canon :=
  h.checkRange.put.put.put.put.putB.setCrcUnit

theorem Block.Canon.crcRefuse {b : Block} (h : b.Canon) : b.crcRefuse.1.Canon := by
  unfold Machine.Block.crcRefuse
  exact h.bump

theorem Block.Canon.crcOp {who : Requester} {u off w : Nat} {b : Block} (h : b.Canon) : (crcOp who u off w b).1.Canon := by
  unfold Machine.crcOp
  dsimp only
  split
  · split; exacts [h.put.put.put.put.setCrcUnit, h.crcRefuse]
  · split
    · exact h.crcRefuse
    · split
      · exact Canon.ite h.setCrcUnit.freeCrc h.setCrcUnit
      · exact h.setCrcUnit.put
      · split; exacts [h.setCrcUnit.crcRefuse, h.setCrcUnit.put]
      · split; exacts [h.setCrcUnit.crcRefuse, h.setCrcUnit.put]
      · exact h.setCrcUnit.put
      · exact h.setCrcUnit.put
      · exact h.setCrcUnit.put
      · split
        · split; exacts [h.setCrcUnit.crcRefuse, h.setCrcUnit.crcGo]
        · split
          · split; exacts [h.setCrcUnit.crcEnd.drawn, h.setCrcUnit]
          · exact h.setCrcUnit
      · exact h.setCrcUnit

theorem Block.Canon.crcClaimTimeout {u : Nat} {b : Block} (h : b.Canon) : (crcClaimTimeout u b).Canon :=
  Canon.whenDue (fun _ h' => h'.freeCrc) h

theorem Block.Canon.crcRangeDone {u : Nat} {b : Block} (h : b.Canon) : (crcRangeDone u b).Canon := by
  unfold Machine.crcRangeDone
  split; exacts [Canon.whenDue (fun _ h' => h'.crcEnd.actCritical) h, h]

theorem Block.Canon.djOp {w : Nat} {b : Block} (h : b.Canon) : (djOp w b).1.Canon := by
  unfold Machine.djOp
  dsimp only
  split
  · exact h
  · split; exacts [h.bump, h.put.put.frame]

theorem Block.Canon.djEnd {b : Block} {j : DjJob} {e : LpsEnd} {out : List Nat} (h : b.Canon) : (b.djEnd j e out).Canon :=
  Canon.bind h.store.put.put.put.frame fun hb2 => Canon.ite hb2 hb2.bump

theorem Block.Canon.lpsDjDone {b : Block} (h : b.Canon) : (lpsDjDone b).Canon := by
  unfold Machine.lpsDjDone
  dsimp only
  split; exacts [Canon.whenDue (fun _ h' => Canon.ite h'.djEnd h'.checkRange.djEnd.actCritical) h, h]

/-! ### The commands of the fabric -/

theorem Block.Canon.claimRx {p : Nat} {m : ClaimMsg} {b : Block} (h : b.Canon) : (claimRx p m b).Canon := by
  unfold Machine.claimRx
  dsimp only
  exact Canon.whenDue (fun c h' => Canon.bind h'.remember.flood fun h1 => Canon.bind (Canon.ite h1.floodClaim h1) fun h2 =>
    Canon.pinMeets (.frame (by split; exacts [Canon.ite h2.claimRefused h2, h2]))) h

theorem Block.Canon.claimHeld {b : Block} (h : b.Canon) : (claimHeld b).Canon := by
  unfold Machine.claimHeld
  split; exacts [Canon.whenDue (fun _ h' => h'.holdId) h, h]

theorem Block.Canon.idRetry {b : Block} (h : b.Canon) : (idRetry b).Canon := Canon.whenDue (fun _ h' => h'.put.frame) h

theorem Block.Canon.pinGoOp {node : Nat} {b : Block} (h : b.Canon) : (pinGoOp node b).1.Canon := by
  unfold Machine.pinGoOp
  dsimp only
  split; exacts [h.bump, Canon.bind h.put.put.nextFlood fun hn => Canon.ite hn.remember.flood.frame.pinned hn.remember.flood.frame]

theorem Block.Canon.pinRx {p : Nat} {m : PinMsg} {b : Block} (h : b.Canon) : (pinRx p m b).Canon :=
  Canon.whenDue (fun _ h' => Canon.bind h'.remember.flood fun hb1 => Canon.ite hb1.pinned hb1) h

theorem Block.Canon.pinNoTarget {b : Block} (h : b.Canon) : (pinNoTarget b).Canon := by
  unfold Machine.pinNoTarget
  dsimp only
  split; exacts [Canon.whenDue (fun _ h' => h'.put.frame) h, h]

theorem Block.Canon.nak {b : Block} {p : Nat} (h : b.Canon) : (b.nak p).Canon := Canon.ite h h.setPort.linkSend

theorem Block.Canon.routeFrame {b : Block} {p : Nat} {f : Frame} (h : b.Canon) : (b.routeFrame p f).Canon :=
  Canon.ite (Canon.bind (Canon.ite h.bump (Canon.ite (Canon.ite h h.bump) h.castTree)) fun hb1 => Canon.ite hb1.free1.receive hb1.free1)
    (Canon.ite h.free1.receive (Canon.ite h.bump.free1 h.forward))

theorem Block.Canon.frameRx {p : Nat} {bytes : List Byte} {b : Block} (h : b.Canon) : (frameRx p bytes b).Canon := by
  unfold Machine.frameRx
  dsimp only
  refine Canon.whenDue (fun _ h' => ?_) h
  split
  · exact h'.bump.nak
  · exact Canon.ite h'.bump h'.bump.nak
  · exact Canon.ite (Canon.ite h'.bump (Canon.ite h'.bump h'.frame)) (Canon.ite h' (Canon.ite h'.nak
      (Canon.ite h'.setPort.routeFrame h'.setPort.bump.free1)))

theorem Block.Canon.replayFrom {b : Block} {p lseq : Nat} (h : b.Canon) : (b.replayFrom p lseq).Canon :=
  (h.foldl fun _ h' _ => h'.emit).bumpBy.setPort

theorem Block.Canon.lackRx {p : Nat} {m : LackMsg} {b : Block} (h : b.Canon) : (lackRx p m b).Canon :=
  Canon.whenDue (fun _ h' => (Canon.ite h'.setPort.replayFrom h'.setPort).pump) h

theorem Block.Canon.sendLack {b : Block} {p : Nat} (h : b.Canon) : (b.sendLack p).Canon := h.setPort.linkSend

theorem Block.Canon.lackSend {p : Nat} {b : Block} (h : b.Canon) : (lackSend p b).Canon := Canon.whenDue (fun _ h' => h'.sendLack) h

theorem Block.Canon.replayTimeout {p : Nat} {b : Block} (h : b.Canon) : (replayTimeout p b).Canon :=
  Canon.whenDue (fun _ h' => h'.replayFrom) h

theorem Block.Canon.recordCap {b : Block} {p : Nat} {m : CapMsg} (h : b.Canon) : (b.recordCap p m).Canon :=
  h.putB.putB.putB.put.put.put.frame

theorem Block.Canon.hostRoute {b : Block} {p : Nat} {m : CapMsg} (h : b.Canon) : (b.hostRoute p m).Canon :=
  Canon.ite h.setRoute.triggeredAdvert h

theorem Block.Canon.capRx {p : Nat} {m : CapMsg} {b : Block} (h : b.Canon) : (capRx p m b).Canon :=
  Canon.whenDue (fun _ h' => Canon.bind (Canon.ite (Canon.ite h'.recordCap.restart h'.recordCap)
    (Canon.ite h'.recordCap.setPort.toActive h'.recordCap.setPort.emit)) fun hb2 => (Canon.ite hb2.put.hostRoute hb2).reQuarantine) h

theorem Block.Canon.advertRx {p : Nat} {entries : List AdvertEntry} {b : Block} (h : b.Canon) : (advertRx p entries b).Canon :=
  Canon.whenDue (fun _ h' => (h'.foldl fun _ h1 _ => h1.advertEntry).triggeredAdvert) h

theorem Block.Canon.routeExpire {d : Nat} {b : Block} (h : b.Canon) : (routeExpire d b).Canon := Canon.whenDue (fun _ h' => h'.failOver) h

theorem Block.Canon.routePinOp {d w : Nat} {b : Block} (h : b.Canon) : (routePinOp d w b).1.Canon := by
  unfold Machine.routePinOp
  split; exacts [h.put.put.put.put.put, h.put.setRoute]

theorem Block.Canon.reorderTimeout {src dst : Nat} {mcast : Bool} {cls : Nat} {b : Block} (h : b.Canon) :
    (reorderTimeout src dst mcast cls b).Canon := by
  unfold Machine.reorderTimeout
  dsimp only
  split; exacts [h, Canon.whenDue (fun _ h' => h'.bump.drainHeld.setFlow) h]

theorem Block.Canon.treeRx {p : Nat} {m : TreeMsg} {b : Block} (h : b.Canon) : (treeRx p m b).Canon :=
  Canon.whenDue (fun _ h' => h'.setTree.refreshChildren.reparent) h

theorem Block.Canon.hostCapBeacon {p : Nat} {b : Block} (h : b.Canon) : (hostCapBeacon p b).Canon :=
  Canon.whenDue (fun _ h' => h'.linkSend) h

theorem Block.Canon.logLineSend {text : List Byte} {b : Block} (h : b.Canon) : (logLineSend text b).Canon :=
  Canon.whenDue (fun _ h' => h'.post) h

/-! ### The commands of the serial lanes and ports -/

theorem Block.Canon.beaconTimer {p : Nat} {b : Block} (h : b.Canon) : (beaconTimer p b).Canon :=
  Canon.whenDue (fun _ h' => Canon.ite h'.beacon (Canon.bind h'.countAttempt fun hb1 => Canon.ite hb1.toSilent hb1.beacon)) h

theorem Block.Canon.silentBeacon {p : Nat} {b : Block} (h : b.Canon) : (silentBeacon p b).Canon :=
  Canon.whenDue (fun _ h' => h'.emit.setPort) h

theorem Block.Canon.signalDetect {l : Nat} {b : Block} (h : b.Canon) : (signalDetect l b).Canon := h.signalOn

theorem Block.Canon.cdrLock {l : Nat} {inverted : Bool} {b : Block} (h : b.Canon) : (cdrLock l inverted b).Canon :=
  Canon.whenDue (fun _ h' => Canon.ite h'.put.putB.put.put.setStage h'.put) h

theorem Block.Canon.blockLock {l : Nat} {fec swapped : Bool} {b : Block} (h : b.Canon) : (blockLock l fec swapped b).Canon :=
  Canon.whenDue (fun _ h' => Canon.bind h'.put.putB.putB fun hb1 => Canon.ite hb1.toExchange hb1) h

theorem Block.Canon.trainTimeout {p : Nat} {b : Block} (h : b.Canon) : (trainTimeout p b).Canon :=
  Canon.whenDue (fun _ h' => h'.bump.failAttempt) h

theorem Block.Canon.lockTimeout {p : Nat} {b : Block} (h : b.Canon) : (lockTimeout p b).Canon :=
  Canon.whenDue (fun _ h' => Canon.ite h'.toExchange h'.bump.failAttempt) h

theorem Block.Canon.exchangeTimeout {p : Nat} {b : Block} (h : b.Canon) : (exchangeTimeout p b).Canon :=
  Canon.whenDue (fun _ h' => h'.bump.failAttempt) h

theorem Block.Canon.readyRx {p arg : Nat} {b : Block} (h : b.Canon) : (readyRx p arg b).Canon := Canon.whenDue (fun _ h' => h'.toActive) h

theorem Block.Canon.lossOfSignal {l : Nat} {b : Block} (h : b.Canon) : (lossOfSignal l b).Canon :=
  Canon.whenDue (fun _ h' => Canon.bind h'.bump.darkLane fun hb1 => Canon.ite hb1 (Canon.ite (Canon.ite hb1.dropLane hb1) (Canon.bind
    (Canon.ite hb1 hb1.countAttempt) fun hb2 => (Canon.ite hb2.toSilent hb2.setStage).setPort))) h

theorem Block.Canon.losIdleEnd {p : Nat} {b : Block} (h : b.Canon) : (losIdleEnd p b).Canon := by
  unfold Machine.losIdleEnd
  dsimp only
  split; exacts [h, Canon.whenDue (fun _ h' => Canon.ite (Canon.ite h'.setPort.beacon.toTrain h'.setPort.beacon) h'.setPort) h]

theorem Block.Canon.laneLockLost {l : Nat} {b : Block} (h : b.Canon) : (laneLockLost l b).Canon :=
  Canon.whenDue (fun _ h' => Canon.ite h'.put.dropLane h'.put) h

theorem Block.Canon.rejoin {b : Block} {p : Nat} (h : b.Canon) : (b.rejoin p).Canon := h.toExchange.setPort

theorem Block.Canon.laneRejoin {p : Nat} {b : Block} (h : b.Canon) : (laneRejoin p b).Canon := by
  unfold Machine.laneRejoin
  split; exacts [Canon.whenDue (fun _ h' => h'.rejoin) h, h]

theorem Block.Canon.downRx {p arg : Nat} {b : Block} (h : b.Canon) : (downRx p arg b).Canon :=
  Canon.whenDue (fun _ h' => Canon.ite h'.put.put.toSilent h'.toDetect) h

theorem Block.Canon.takeoverOsRx {p : Nat} {b : Block} (h : b.Canon) : (takeoverOsRx p b).Canon :=
  Canon.whenDue (fun _ h' => Canon.ite (Canon.ite h' h'.toExchange) h'.toExchange.put.bump.setPort) h

theorem Block.Canon.tkoHoldExpire {p : Nat} {b : Block} (h : b.Canon) : (tkoHoldExpire p b).Canon :=
  Canon.whenDue (fun _ h' => h'.put.setPort) h

theorem Block.Canon.knockDone {p : Nat} {b : Block} (h : b.Canon) : (knockDone p b).Canon := Canon.whenDue (fun _ h' => h'.put.restart) h

theorem Block.Canon.prbsLockGained {l : Nat} {b : Block} (h : b.Canon) : (prbsLockGained l b).Canon := Canon.whenDue (fun _ h' => h'.put) h

theorem Block.Canon.prbsLockLost {l bits errs : Nat} {b : Block} (h : b.Canon) : (prbsLockLost l bits errs b).Canon :=
  Canon.whenDue (fun _ h' => h'.bump64.bump64.put) h

theorem Block.Canon.lnkRetryOp {p : Nat} {b : Block} (h : b.Canon) : (lnkRetryOp p b).1.Canon := by
  unfold Machine.lnkRetryOp
  exact Canon.ite h.restart h

theorem Block.Canon.lnkKnockOp {p : Nat} {b : Block} (h : b.Canon) : (lnkKnockOp p b).1.Canon := by
  unfold Machine.lnkKnockOp
  dsimp only
  split; exacts [h.emit.put.bump.setPort, h.bump]

theorem Block.Canon.lnkRejoinOp {p : Nat} {b : Block} (h : b.Canon) : (lnkRejoinOp p b).1.Canon := by
  unfold Machine.lnkRejoinOp
  exact Canon.ite h.rejoin h

theorem Block.Canon.lnkAdminDownOp {p : Nat} {b : Block} (h : b.Canon) : (lnkAdminDownOp p b).1.Canon := by
  unfold Machine.lnkAdminDownOp
  exact h.put.toDown

theorem Block.Canon.lnkAdminUp {p : Nat} {b : Block} (h : b.Canon) : (lnkAdminUp p b).1.Canon := by
  unfold Machine.lnkAdminUp
  exact h.put.tryUp

theorem Block.Canon.lnkTestPrbs {p : Nat} {b : Block} (h : b.Canon) : (lnkTestPrbs p b).1.Canon := by
  unfold Machine.lnkTestPrbs
  dsimp only
  split; exacts [h.put, h.put.setStage.unjoin.foldl fun _ h' _ => h'.put64.put64]

theorem Block.Canon.lnkTestOffOp {p v : Nat} {b : Block} (h : b.Canon) : (lnkTestOffOp p v b).1.Canon := by
  unfold Machine.lnkTestOffOp
  dsimp only
  split; exacts [h.put.put.toDetect.foldl fun _ h' _ => h'.put, h.put]

theorem Block.Canon.lnkEqClamp {p : Nat} {b : Block} (h : b.Canon) : (lnkEqClamp p b).Canon := h.putB

/-! ### The commands of the time base -/

theorem Block.Canon.refinPresentSet {b : Block} (h : b.Canon) : (refinPresentSet b).Canon := Canon.whenDue (fun _ h' => h'.put.reselect) h

theorem Block.Canon.refinLost {b : Block} (h : b.Canon) : (refinLost b).Canon := Canon.whenDue (fun _ h' => h'.put.reselect) h

theorem Block.Canon.pllLock {b : Block} (h : b.Canon) : (pllLock b).Canon := Canon.whenDue (fun _ h' => h'.put.frame) h

theorem Block.Canon.ovnReady {b : Block} (h : b.Canon) : (ovnReady b).Canon := Canon.whenDue (fun _ h' => h'.put) h

theorem Block.Canon.ovnLeaveBand {b : Block} (h : b.Canon) : (ovnLeaveBand b).Canon := Canon.whenDue (fun _ h' => h'.put) h

theorem Block.Canon.syncSend {x : Nat} {b : Block} (h : b.Canon) : (syncSend x b).Canon := by
  unfold Machine.syncSend
  exact Canon.whenDue (fun _ h' => h'.setDomain.foldl fun _ h1 _ => h1.post) h

theorem Block.Canon.tstTime {b : Block} {p : Nat} (h : b.Canon) : (b.tstTime p).2.2.Canon := by
  unfold Machine.Block.tstTime
  dsimp only
  split
  · split
    · exact h.bump
    · split; exacts [Canon.ite h.frame.bump h.frame, h]
  · exact h

theorem Block.Canon.syncRx {p : Nat} {m : TimeMsg} {b : Block} (h : b.Canon) : (syncRx p m b).Canon :=
  Canon.whenDue (fun _ h' => Canon.ite h'.tstTime (Canon.ite h'.tstTime.setDomain h'.tstTime.setDomain)) h

theorem Block.Canon.delayReqSend {x : Nat} {b : Block} (h : b.Canon) : (delayReqSend x b).Canon := by
  unfold Machine.delayReqSend
  dsimp only
  split
  · refine Canon.whenDue (fun _ h' => ?_) h
    split; exacts [h'.setDomain.post, h']
  · exact h

theorem Block.Canon.delayReqRx {p : Nat} {m : TimeMsg} {b : Block} (h : b.Canon) : (delayReqRx p m b).Canon :=
  Canon.whenDue (fun _ h' => Canon.ite h'.tstTime h'.tstTime.post) h

theorem Block.Canon.takeSync {b : Block} {p x : Nat} {m : TimeMsg} {e : Exchange} (h : b.Canon) : (b.takeSync p x m e).Canon :=
  Canon.bind h.put.put.put.put.bump fun hb1 => Canon.bind (Canon.ite hb1.bump hb1) fun hb2 =>
    Canon.ite hb2.drawn.setDomain.setSync.establishStamp (Canon.bind hb2.setDomain fun hb3 => Canon.ite hb3 hb3.setSync)

theorem Block.Canon.delayRespRx {p : Nat} {m : TimeMsg} {b : Block} (h : b.Canon) : (delayRespRx p m b).Canon := by
  unfold Machine.delayRespRx
  split; exacts [Canon.whenDue (fun _ h' => h'.takeSync.retimed) h, h]

theorem Block.Canon.correct {b : Block} {x : Nat} (h : b.Canon) : (b.correct x).Canon := by
  unfold Machine.Block.correct
  dsimp only
  split
  · exact Canon.ite h.drawn.setDomain (Canon.ite h.drawn.setDomain.stepTo.bump h.drawn.setDomain)
  · exact Canon.ite h.setDomain (Canon.ite h.setDomain h)

theorem Block.Canon.countMissed {b : Block} {x : Nat} (h : b.Canon) : (b.countMissed x).Canon := Canon.ite h.setDomain h.setDomain.put.bump

theorem Block.Canon.decay {b : Block} {x : Nat} (h : b.Canon) : (b.decay x).Canon :=
  Canon.bind (Canon.ite h.setDomain.setSync.reparentNext h.requality) fun hb1 => Canon.ite hb1.setSync hb1

theorem Block.Canon.masterStep {b : Block} {x : Nat} (h : b.Canon) : (b.masterStep x).Canon :=
  Canon.ite (Canon.ite h.put.setDomain h.put.stepTo) h

theorem Block.Canon.domainBoundary {b : Block} {x : Nat} (h : b.Canon) : (b.domainBoundary x).Canon :=
  Canon.ite h h.setDomain.countMissed.correct.masterStep.decay.retimed

theorem Block.Canon.domainEpochBoundary {x : Nat} {b : Block} (h : b.Canon) : (domainEpochBoundary x b).Canon :=
  Canon.whenDue (fun _ h' => h'.domainBoundary) h

theorem Block.Canon.applySwitch {b : Block} {x : Nat} (h : b.Canon) : (b.applySwitch x).1.Canon := by
  unfold Machine.Block.applySwitch
  dsimp only
  exact Canon.bind h.put.put.setLevel fun hb1 => by
    split; exacts [hb1.put.frame.toutJump, hb1.putB.frame]

theorem Block.Canon.trySwitch {b : Block} {cur x : Nat} (h : b.Canon) : (b.trySwitch cur x).1.Canon := by
  unfold Machine.Block.trySwitch
  exact Canon.iteFst (Canon.iteFst (.fst h.put.setLevel.put.frame) (.fst h.put.setLevel)) (.fst h.applySwitch)

theorem Block.Canon.selfStepped {b : Block} (h : b.Canon) : b.selfStepped.Canon := by
  unfold Machine.Block.selfStepped
  dsimp only
  split; exacts [Canon.bind h.setDomain.stepTo fun hb1 => (Canon.ite hb1 hb1.bump).frame, h]

theorem Block.Canon.stampBoundary {b : Block} (h : b.Canon) : b.stampBoundary.1.Canon := by
  unfold Machine.Block.stampBoundary
  dsimp only
  split
  · exact h.frame.toutJump
  · exact Canon.bind h.frame.selfStepped fun hb1 => by
      split
      · exact hb1
      · exact Canon.bind hb1.trySwitch fun hr => by
          split; exacts [hr.trySwitch, hr]

theorem Block.Canon.slewEnd {b : Block} (h : b.Canon) : (slewEnd b).Canon := Canon.whenDue (fun _ h' => h'.put) h

theorem Block.Canon.masterSetOp {x : Nat} {lo : Option Nat} {w : Nat} {b : Block} (h : b.Canon) : (masterSetOp x lo w b).1.Canon := by
  unfold Machine.masterSetOp
  dsimp only
  split
  · exact h.bump
  · exact Canon.bind (by split; exacts [h.put, h]) fun hb1 => Canon.ite hb1.put.put hb1.put

theorem Block.Canon.toutArmed {b : Block} {i : Nat} (h : b.Canon) : (b.toutArmed i).Canon :=
  Canon.ite h.put.put.put.disarm.put (Canon.ite h.put.put.put.disarm h.put.put.put.frame)

theorem Block.Canon.toutFields {b : Block} {i w : Nat} (h : b.Canon) : (b.toutFields i w).Canon := h.put.put.put

theorem Block.Canon.toutCtrlOp {i w : Nat} {b : Block} (h : b.Canon) : (toutCtrlOp i w b).1.Canon := by
  unfold Machine.toutCtrlOp
  split
  · split; exacts [h.bump, h.toutFields.toutArmed]
  · exact h.disarm.toutFields

theorem Block.Canon.toutInstance {i : Nat} {b : Block} (h : b.Canon) : (toutInstance i b).Canon := by
  unfold Machine.toutInstance
  dsimp only
  split; exacts [Canon.whenDue (fun _ h' => Canon.ite h'.bump.frame.disarm h'.bump.frame.frame) h, h]

theorem Block.Canon.toutPulseEnd {i : Nat} {b : Block} (h : b.Canon) : (toutPulseEnd i b).Canon := by
  unfold Machine.toutPulseEnd
  dsimp only
  split; exacts [Canon.whenDue (fun _ h' => h'.frame) h, h]

/-! ### The LMIG container -/

theorem Block.Canon.loadBank {b : Block} {e : ImgEntry} (h : b.Canon) : (b.loadBank e).Canon :=
  (h.put.put.foldl fun _ h' _ => h'.put.put).foldl fun _ h' _ => h'.put

theorem Block.Canon.loadSlot {b : Block} {e : ImgEntry} (h : b.Canon) : (b.loadSlot e).Canon := by
  unfold Machine.Block.loadSlot
  split; exacts [h.foldl fun _ h' _ => h'.writeFields]

/-! ### What the sections of an accepted image set, entry by entry in the order of Configure, and the conflicts that Configure refuses -/

/-- An entry of a section whose effect keeps the canonical form. -/
def ConfStep.Keeps (s : ConfStep) : Prop := ∀ b, b.Canon → (s.act b).Canon

theorem stepsOf_keep {α : Type} {s : Section} {l : List α} {f : α → List Nat × (Block → Block)}
    (hf : ∀ e b, b.Canon → ((f e).2 b).Canon) : ∀ x ∈ stepsOf s l f, x.Keeps := by
  intro x hx
  rw [stepsOf, ← List.map_uncurry_zip_eq_zipWith] at hx
  obtain ⟨⟨i, e⟩, -, rfl⟩ := List.mem_map.1 hx
  exact hf e

theorem Block.Canon.applyModule {b : Block} {p : List Nat} (h : b.Canon) : (b.applyModule p).Canon := h.put.put.frame

theorem Block.Canon.applyTout {b : Block} {e : List Nat} (h : b.Canon) : (b.applyTout e).Canon := h.put.put.put.put.put.put.frame

theorem Block.Canon.pinStep {e : List Nat} {b : Block} (h : b.Canon) : ((pinStep e).2 b).Canon := by
  unfold Machine.pinStep
  dsimp only
  split
  · exact h.put.put.put.put
  · exact h.applyTout
  · exact h.put
  · exact h.put.put.put.put.put.frame
  · exact h.writeFields.writeFields

theorem Block.Canon.eqStep {e : List Nat} {b : Block} (h : b.Canon) : ((eqStep e).2 b).Canon := h.put.put.put.put

theorem Block.Canon.applyFast {b : Block} {c id : Nat} (h : b.Canon) : (b.applyFast c id).Canon := (h.foldl fun _ h' _ => h'.put).put.put

theorem Block.Canon.applyPrec {b : Block} {n id : Nat} (h : b.Canon) : (b.applyPrec n id).Canon :=
  Canon.bind (h.foldl fun _ h' _ => Canon.ite h' h'.put).put.put.put.put fun hb2 => Canon.bind (Canon.ite hb2 hb2.put) fun hb3 => Canon.bind
    (Canon.ite hb3.put.put hb3) fun hb4 => (Canon.ite hb4.put hb4).put

theorem Block.Canon.applyEvb {b : Block} {k id : Nat} (h : b.Canon) : (b.applyEvb k id).Canon := h.foldl fun _ h' _ => h'.put

theorem Block.Canon.applyEgq {b : Block} {share : List Nat} {q id : Nat} (h : b.Canon) : (b.applyEgq share q id).Canon :=
  Canon.ite h.put.put.put h.put.put

theorem Block.Canon.applyProfile {b : Block} {share : List Nat} {unit i id : Nat} (h : b.Canon) : (b.applyProfile share unit i id).Canon :=
  Canon.ite h.applyEvb (Canon.ite h.applyEgq (Canon.ite h.applyFast h.applyPrec))

theorem Block.Canon.profileStep {share e : List Nat} {b : Block} (h : b.Canon) : ((profileStep share e).2 b).Canon :=
  h.foldl fun _ h' _ => h'.applyProfile

theorem Block.Canon.expertStep {e : List Nat} {b : Block} (h : b.Canon) : ((expertStep e).2 b).Canon := h.writeFields

theorem Block.Canon.calibStep {e : List Nat} {b : Block} (h : b.Canon) : ((calibStep e).2 b).Canon := h.put.put.put

theorem Block.Canon.beaverStep {e : ImgEntry} {b : Block} (h : b.Canon) : ((beaverStep e).2 b).Canon := by
  unfold Machine.beaverStep
  split
  split
  · dsimp only
    exact h.loadBank
  · dsimp only
    exact h.loadSlot

theorem Block.Canon.fabricStep {e : List Nat} {b : Block} (h : b.Canon) : ((fabricStep e).2 b).Canon := by
  unfold Machine.fabricStep
  dsimp only
  split
  · exact h.put.put.put.put.put.put.foldl fun _ h' _ => h'.put
  · exact h.put
  · exact h.put
  · exact h.routePinOp
  · exact h.put.put.put.put

theorem Block.Canon.writeWords {b : Block} {a : Nat} {p : List Nat} {n : Nat} (h : b.Canon) : (b.writeWords a p n).Canon :=
  h.foldl fun _ h' _ => h'.writeFields

theorem Block.Canon.applyTrigger {b : Block} {p : List Nat} (h : b.Canon) : (b.applyTrigger p).Canon := h.put.put.put.frame

theorem Block.Canon.triggerStep {e : ImgEntry} {b : Block} (h : b.Canon) : ((triggerStep e).2 b).Canon := by
  unfold Machine.triggerStep
  dsimp only
  split; exacts [h.writeWords, h.writeWords, h.writeWords, h.put]

theorem Block.Canon.bdgSettle {b : Block} (h : b.Canon) : b.bdgSettle.Canon := Canon.ite h.put h.put.put

theorem Block.Canon.applyBudget {b : Block} {p : List Nat} (h : b.Canon) : (b.applyBudget p).Canon :=
  (((h.foldl fun _ h' _ => h'.put).foldl fun _ h' _ => h'.put).foldl fun _ h' _ => h'.put).bdgSettle

theorem typeSteps_keep {l : List Section} {typ : Nat} : ∀ x ∈ typeSteps l typ, x.Keeps := by
  unfold typeSteps
  dsimp only
  split
  · exact nofun
  · split
    · exact List.forall_mem_singleton.2 fun _ h => h.applyModule
    · exact stepsOf_keep fun _ _ h => h.pinStep
    · exact stepsOf_keep fun _ _ h => h.eqStep
    · exact stepsOf_keep fun _ _ h => h.profileStep
    · exact stepsOf_keep fun _ _ h => h.expertStep
    · exact stepsOf_keep fun _ _ h => h.calibStep
    · exact stepsOf_keep fun _ _ h => h.beaverStep
    · exact stepsOf_keep fun _ _ h => h.fabricStep
    · exact List.forall_mem_cons.2 ⟨fun _ h => h.applyTrigger, stepsOf_keep fun _ _ h => h.triggerStep⟩
    · exact List.forall_mem_singleton.2 fun _ h => h.applyBudget
    · exact nofun

theorem flatMap_typeSteps_keep {l : List Section} {types : List Nat} : ∀ x ∈ types.flatMap (typeSteps l), x.Keeps := by
  intro x hx
  obtain ⟨typ, -, hmem⟩ := List.mem_flatMap.1 hx
  exact typeSteps_keep x hmem

theorem Block.Canon.applySteps {b : Block} {l : List ConfStep} (h : b.Canon) (hl : ∀ s ∈ l, s.Keeps) : (b.applySteps l).Canon := by
  induction l generalizing b with
  | nil => exact h
  | cons s l ih =>
    obtain ⟨hs, hl⟩ := List.forall_mem_cons.1 hl
    exact ih (hs b h) hl

/-! ### Verify -/

theorem Block.Canon.setFlash {b : Block} {f : Table Byte} (h : b.Canon) : (b.setFlash f).Canon := h.frame

theorem Block.Canon.putErr {b : Block} {e : BootErr} (h : b.Canon) : (b.putErr e).Canon := h.put.put.put

theorem Block.Canon.putErrB {b : Block} {e : BootErr} (h : b.Canon) : (b.putErrB e).Canon := h.put.put.put

theorem Block.Canon.faultWith {b : Block} {e : BootErr} (h : b.Canon) : (b.faultWith e).Canon := h.toFault.putErr

theorem Block.Canon.safePorts {b : Block} {l : List Section} (h : b.Canon) : (b.safePorts l).Canon := by
  unfold Machine.Block.safePorts
  dsimp only
  split
  · exact h
  · exact Canon.ite h ((h.foldl fun _ h' _ => h'.put).foldl fun _ h' _ => h'.fabricStep)

theorem Block.Canon.toSafe {b : Block} {e : BootErr} {l : List Section} (h : b.Canon) : (b.toSafe e l).Canon :=
  h.putErr.put.put.safePorts.frame.tryUpAll.settlePower

theorem Block.Canon.bootSlot {b : Block} {t : Try} (h : b.Canon) : (b.bootSlot t).Canon :=
  Canon.ite h.put.frame.setFlash (Canon.ite h.put.frame.setFlash.put h.put.frame)

theorem Block.Canon.otherErr {b : Block} {l : List Tried} {slot : Nat} (h : b.Canon) : (b.otherErr l slot).Canon := by
  unfold Machine.Block.otherErr
  split; exacts [h.putErrB, h]

theorem Block.Canon.countDecFails {b : Block} {l : List Tried} (h : b.Canon) : (b.countDecFails l).Canon := h.bumpBy

theorem Block.Canon.verified {b : Block} {l : List Tried} (h : b.Canon) : (b.verified l).Canon := by
  unfold Machine.Block.verified
  dsimp only
  split
  · exact h.bootSlot.otherErr.put.frame.settlePower
  · split
    · exact h.bootSlot.otherErr.toSafe
    · split; exacts [h.otherErr.faultWith, h.toFault]

theorem Block.Canon.verifyDone {nvm : Nat} {b : Block} (h : b.Canon) : (verifyDone nvm b).Canon :=
  Canon.whenDue (fun _ h' => Canon.ite h'.toFault (Canon.ite h'.toFault h'.setFlash.countDecFails.verified)) h

theorem Block.Canon.recoveryLoad {bytes : List Byte} {b : Block} (h : b.Canon) : (recoveryLoad bytes b).Canon := by
  unfold Machine.recoveryLoad
  dsimp only
  refine Canon.whenDue (fun _ h' => ?_) h
  exact Canon.bind h'.countDecFails.drawn fun hb1 => by
    exact Canon.bind hb1.put.frame fun hb2 => by
      split; exacts [hb2.put.toSafe, Canon.ite hb2.toSafe hb1.faultWith]

/-! ### The commands of SEC -/

theorem Block.Canon.putSec {b : Block} {a : Nat} {l : List Nat} (h : b.Canon) : (b.putSec a l).Canon := h.foldl fun _ h' _ => h'.put

theorem Block.Canon.setNonce {b : Block} {n : Option (List Nat)} (h : b.Canon) : (b.setNonce n).Canon := h.putSec.frame

theorem Block.Canon.secNonce {b : Block} (h : b.Canon) : (secNonce b).1.Canon := by
  unfold Machine.secNonce
  exact h.setNonce.drawn

theorem Block.Canon.secQuote {b : Block} (h : b.Canon) : (secQuote b).1.Canon := by
  unfold Machine.secQuote
  dsimp only
  split; exacts [h, h.putSec.setNonce]

theorem Block.Canon.secConfirm {b : Block} (h : b.Canon) : (secConfirm b).1.Canon := by
  unfold Machine.secConfirm
  dsimp only
  split
  · exact h
  · split; exacts [h, (Canon.ite h.setFlash.put h).frame]

theorem Block.Canon.secOpenNvm {b : Block} (h : b.Canon) : (secOpenNvm b).1.Canon := by
  unfold Machine.secOpenNvm
  dsimp only
  split
  · exact h.setNonce
  · split; exacts [h.setNonce, h.setNonce.put.put]

theorem Block.Canon.secVerifySlot {b : Block} (h : b.Canon) : (secVerifySlot b).1.Canon := by
  unfold Machine.secVerifySlot
  dsimp only
  split
  · exact h
  · exact Canon.bind (Canon.ite h.bump h) fun hb1 => by
      split; exacts [hb1, hb1.setFlash]

theorem Block.Canon.secAddKey {b : Block} (h : b.Canon) : (secAddKey b).1.Canon := by
  unfold Machine.secAddKey
  dsimp only
  split
  · exact Canon.ite h h.setNonce
  · split; exacts [(Canon.ite h h.setNonce), (Canon.ite h h.setNonce).frame]

theorem Block.Canon.secRevokeKey {b : Block} (h : b.Canon) : (secRevokeKey b).1.Canon := by
  unfold Machine.secRevokeKey
  dsimp only
  split
  · exact h.setNonce
  · split
    · exact h.setNonce
    · split; exacts [h.setNonce, h.setNonce.frame]

theorem Block.Canon.secDebugOpen {b : Block} (h : b.Canon) : (secDebugOpen b).1.Canon := by
  unfold Machine.secDebugOpen
  dsimp only
  split; exacts [h.setNonce, h.setNonce.put]

theorem Block.Canon.secCommand {op : Nat} {b : Block} (h : b.Canon) : (secCommand op b).1.Canon := by
  unfold Machine.secCommand
  split; exacts [h.secNonce, h.secQuote, h.secConfirm, h.secOpenNvm, h.put, h.secVerifySlot, h.secAddKey, h.secRevokeKey, h.secDebugOpen, h]

theorem Block.Canon.secCmdOp {w : Nat} {b : Block} (h : b.Canon) : (secCmdOp w b).1.Canon := by
  unfold Machine.secCmdOp
  dsimp only
  split; exacts [h, h.secCommand.put.frame]

theorem Block.Canon.secCmdDone {b : Block} (h : b.Canon) : (secCmdDone b).Canon := by
  unfold Machine.secCmdDone
  dsimp only
  split; exacts [Canon.whenDue (fun _ h' => h'.put.put.frame.raise.settlePower) h, h]

theorem Block.Canon.nvmOp {w : Nat} {b : Block} (h : b.Canon) : (nvmOp w b).1.Canon := by
  unfold Machine.nvmOp
  exact Canon.iteFst h <| Canon.iteFst h <| Canon.iteFst (.fst h.put) <| Canon.iteFst (.fst h.put) (.fst h.put.frame)

theorem Block.Canon.nvmEnd {b : Block} {result : Nat} (h : b.Canon) : (b.nvmEnd result).Canon :=
  Canon.ite h.put.put.frame.frame.enterHibernate h.put.put.frame.settlePower

theorem Block.Canon.nvmOpDone {ok : Bool} {b : Block} (h : b.Canon) : (nvmOpDone ok b).Canon := by
  unfold Machine.nvmOpDone
  split; exacts [Canon.ite h.putSec.nvmEnd (Canon.ite h.setFlash.drawn.nvmEnd (Canon.ite h.setFlash.nvmEnd h.setFlash.nvmEnd)), h]

theorem Block.Canon.nvmPollTimeout {b : Block} (h : b.Canon) : (nvmPollTimeout b).Canon := by
  unfold Machine.nvmPollTimeout
  split; exacts [Canon.whenDue (fun _ h' => h'.setFlash.drawn.nvmEnd) h, h]

/-! ### The standby concentrator -/

theorem Block.Canon.failStandby {b : Block} (h : b.Canon) : b.failStandby.Canon := h.standbyDown.showStandby.settlePower

theorem Block.Canon.pairCmdOp {who : Requester} {w : Nat} {b : Block} (h : b.Canon) : (pairCmdOp who w b).1.Canon := by
  unfold Machine.pairCmdOp
  dsimp only
  split
  · exact h
  · split
    · split; exacts [h.framePair, h]
    · exact Canon.ite h.put.settlePower h
    · exact Canon.ite h h.failStandby
    · exact h

theorem Block.Canon.wdogOp {b : Block} (h : b.Canon) : (wdogOp b).1.Canon := by
  unfold Machine.wdogOp
  dsimp only
  exact h.framePair

theorem keysRise_foldl_insertKey {l : List (Nat × Nat)} {r : Table Nat} (h : keysRise r = true) :
    keysRise (l.foldl (fun t e => insertKey t e.1 e.2) r) = true := by
  induction l generalizing r with
  | nil => exact h
  | cons e l ih => exact ih (keysRise_insertKey h _ _)

theorem keysRise_overlay {r o : Table Nat} (h : keysRise r = true) : keysRise (overlay r o) = true := keysRise_foldl_insertKey h

theorem Block.Canon.standbyView {b : Block} (h : b.Canon) : b.standbyView.Canon :=
  ⟨h.sbDram, h.sbDram, keysRise_overlay (keysRise_filter h.regs _), h.sbRegs⟩

theorem Block.Canon.setSbShadow {b : Block} {who : Requester} {o : Option Shadow} (h : b.Canon) : (b.setSbShadow who o).Canon := h.framePair

theorem keysRise_foldl {α : Type} {l : List α} {f : Table Nat → α → Table Nat} {r : Table Nat} (h : keysRise r = true)
    (hf : ∀ r, keysRise r = true → ∀ x, keysRise (f r x) = true) : keysRise (l.foldl f r) = true := by
  induction l generalizing r with
  | nil => exact h
  | cons x l ih => exact ih (hf r h x)

theorem Block.Canon.sbClearRc {b : Block} {addr : Nat} (h : b.Canon) : (b.sbClearRc addr).Canon := by
  unfold Machine.Block.sbClearRc
  split
  · refine ⟨h.dram, h.sbDram, h.regs, keysRise_foldl h.sbRegs fun t ht x => ?_⟩
    split; exacts [keysRise_eraseKey ht _, ht]
  · exact h

theorem Block.Canon.sbRegRead {who : Requester} {b : Block} (h : b.Canon) : (sbRegRead who b).1.Canon := by
  unfold Machine.sbRegRead
  dsimp only
  split; exact .fst h.offAccess
  split; exact .fst h.bump
  split; exact .fst h.fence
  split; exact h
  split
  · exact .fst h.setSbShadow.sbClearRc
  · split
    · split; exacts [.fst h.setSbShadow, h]
    · exact h
  · exact .fst h.sbClearRc

theorem Block.Canon.sbWindowRead {addr : Nat} {b : Block} (h : b.Canon) : (sbWindowRead addr b).1.Canon := by
  unfold Machine.sbWindowRead
  dsimp only
  split
  · exact h.offAccess
  · split; exacts [h, h]

theorem Block.Canon.sbwBaseOp {lo : Option Nat} {w : Nat} {b : Block} (h : b.Canon) : (sbwBaseOp lo w b).1.Canon := by
  unfold Machine.sbwBaseOp
  refine Canon.put ?_
  split; exacts [h.put, h]

/-! ### Register and bulk accesses -/

theorem RegOp.Keeps.plain {f : Nat → Block → Block × Status} (hf : ∀ w b, b.Canon → (f w b).1.Canon) : RegOp.Keeps (plainOp f) :=
  fun _ => hf

theorem RegOp.Keeps.fields {addr : Nat} : RegOp.Keeps (fieldsOp addr) := fun _ _ _ h => h.fieldsOp

theorem RegOp.Keeps.ite {p : Prop} {inst : Decidable p} {f g : RegOp} (hf : f.Keeps) (hg : g.Keeps) :
    RegOp.Keeps (if p then f else g) := by
  split; exacts [hf, hg]

theorem Block.Canon.restartOp {w : Nat} {b : Block} (h : b.Canon) : (restartOp w b).1.Canon := by
  unfold Machine.restartOp
  exact h

theorem Block.Canon.snapOp {w : Nat} {b : Block} (h : b.Canon) : (snapOp w b).1.Canon := by
  unfold Machine.snapOp
  dsimp only
  exact Canon.ite h.writeFields.put.put.put.put h.writeFields

theorem Block.Canon.pwrCtrlOp {who : Requester} {d w : Nat} {b : Block} (h : b.Canon) : (pwrCtrlOp who d w b).1.Canon := by
  unfold Machine.pwrCtrlOp
  dsimp only
  split; exacts [h.forceOp.put, h.forceOp]

theorem RegOp.Keeps.bdgOp {addr : Nat} : RegOp.Keeps (bdgOp addr) := fun _ _ _ h => h.fieldsOp.bdgSettle.settlePower

theorem Block.Canon.timCtrlOp {w : Nat} {b : Block} (h : b.Canon) : (timCtrlOp w b).1.Canon := by
  unfold Machine.timCtrlOp
  exact h.writeFields.reselect.settlePower

theorem Block.Canon.fabPinOp {w : Nat} {b : Block} (h : b.Canon) : (fabPinOp w b).1.Canon := by
  unfold Machine.fabPinOp
  split; exacts [h.pinGoOp, .fst h.writeFields]

theorem Block.Canon.lnkAdmin {p w : Nat} {b : Block} (h : b.Canon) : (lnkAdmin p w b).1.Canon := by
  unfold Machine.lnkAdmin
  split
  · exact h
  · split; exacts [h.lnkAdminDownOp, h.lnkAdminUp]

theorem Block.Canon.lnkTest {p w : Nat} {b : Block} (h : b.Canon) : (lnkTest p w b).1.Canon := by
  unfold Machine.lnkTest
  dsimp only
  split
  · exact h
  · split; exacts [h.lnkTestPrbs, h.lnkTestOffOp]

theorem Block.Canon.lnkCtrlOp {p w : Nat} {b : Block} (h : b.Canon) : (lnkCtrlOp p w b).1.Canon := by
  have h1 : (if bitAt w 31 then (Machine.lnkRetryOp p b).1 else b).Canon := Canon.ite h.lnkRetryOp h
  unfold Machine.lnkCtrlOp
  dsimp only
  generalize (if bitAt w 31 then (Machine.lnkRetryOp p b).1 else b) = b1 at h1 ⊢
  generalize hr : (if bitAt w 30 then Machine.lnkKnockOp p b1 else (b1, .ok)) = r
  have h2 : r.1.Canon := by
    rw [← hr]; split; exacts [h1.lnkKnockOp, h1]
  split
  · exact (Canon.ite h2.lnkRejoinOp h2).lnkAdmin.lnkTest
  · exact .fst h.bump

theorem Block.Canon.lnkEqOp {p w : Nat} {b : Block} (h : b.Canon) : (lnkEqOp p w b).1.Canon := by
  unfold Machine.lnkEqOp
  exact h.writeFields.lnkEqClamp

theorem RegOp.Keeps.bank {t s k addr : Nat} : RegOp.Keeps (bankOp t s k addr) := fun _ _ _ h => h.bankOp

theorem RegOp.Keeps.tileOp {t o addr : Nat} : RegOp.Keeps (tileOp t o addr) := by
  unfold Machine.tileOp
  refine .ite (.plain fun _ _ h => h.armOp) <| .ite (.plain fun _ _ h => h.armOp) <| .ite (.plain fun _ _ h => h.fchOp) <|
    .ite (.ite (.plain fun _ _ h => h.pchInOp) <| .ite (.plain fun _ _ h => h.pchExcOp) <| .ite (.plain fun _ _ h => h.pchFaultOp) <|
      .ite (.plain fun _ _ h => h.pchDrvOp) <| .ite (.plain fun _ _ h => h.pcvCfgOp) <|
      .ite (.ite (.plain fun _ _ h => h.calOfsOp) (.plain fun _ _ h => h.calGainOp)) .fields) <|
    .ite ?_ <| .ite .bank .fields
  dsimp only
  split; exacts [.plain fun _ _ h => h.bvrCmdOp, .plain fun _ _ h => h.bvrCfgOp, .bank, .bank, .fields]

theorem RegOp.Keeps.aonOp {who : Requester} {addr : Nat} : RegOp.Keeps (aonOp who addr) := by
  unfold Machine.aonOp
  refine .ite (.plain fun _ _ h => h.levelForceOp) <| .ite ?_ <| .ite .bdgOp <| .ite (.plain fun _ _ h => h.irqAckOp) <|
    .ite (.plain fun _ _ h => h.irqRaiseOp) <| .ite (.plain fun _ _ h => h.irqPopOp) <| .ite (.plain fun _ _ h => h.timCtrlOp) <|
    .ite (fun _ _ _ h => h.masterSetOp) <| .ite (fun _ _ _ h => h.masterSetOp) <| .ite (.plain fun _ _ h => h.toutCtrlOp) .fields
  dsimp only
  split; exacts [.plain fun _ _ h => h.voteOp, .plain fun _ _ h => h.pwrCtrlOp, .fields]

theorem RegOp.Keeps.coreOp {who : Requester} {addr : Nat} : RegOp.Keeps (coreOp who addr) := by
  unfold Machine.coreOp
  refine .ite (.plain fun _ _ h => h.tdcCalOp) <| .ite (.plain fun _ _ h => h.pinCfgOp) <| .ite (.plain fun _ _ h => h.tdcWindowOp) <|
    .ite (.plain fun _ _ h => h.trgUnitOp) <| .ite (.plain fun _ _ h => h.djOp) <| .ite (.plain fun _ _ h => h.crcOp) <| .ite ?_ .fields
  dsimp only
  split; exacts [.plain fun _ _ h => h.egqCfgOp, .plain fun _ _ h => h.egqCmdOp, .fields]

theorem RegOp.Keeps.moduleOp {who : Requester} {addr : Nat} : RegOp.Keeps (moduleOp who addr) := by
  unfold Machine.moduleOp
  refine .ite (.plain fun _ _ h => h.restartOp) <| .ite (.plain fun _ _ h => h.snapOp) <| .ite (.plain fun _ _ h => h.fabPinOp) <|
    .ite (.plain fun _ _ h => h.routePinOp) <| .ite ?_ <| .ite (.plain fun _ _ h => h.eccThrOp) <| .ite (.plain fun _ _ h => h.pairCmdOp) <|
    .ite (.plain fun _ _ h => h.wdogOp) <| .ite (fun _ _ _ h => h) <| .ite (fun _ _ _ h => h.sbwBaseOp) <|
    .ite (.plain fun _ _ h => h.secCmdOp) <| .ite (.plain fun _ _ h => h.nvmOp) <| .ite (.plain fun _ _ h => h.tstArmOp) <|
    .ite (.plain fun _ _ h => h.calCmdOp) <| .ite (.plain fun _ _ h => h.odReqOp) <| .ite (.plain fun _ _ h => h.odFreeOp) .fields
  split; exacts [.plain fun _ _ h => h.lnkCtrlOp, .plain fun _ _ h => h.lnkEqOp, .fields]

theorem RegOp.Keeps.regOp {who : Requester} {addr : Nat} : RegOp.Keeps (regOp who addr) := by
  unfold Machine.regOp
  split
  · exact .tileOp
  · exact .ite .aonOp (.ite .coreOp .moduleOp)

theorem Block.Canon.windowAccess {who : Requester} {addr : Nat} {b : Block} (h : b.Canon) : CanonOpt (windowAccess who addr b) := by
  unfold Machine.windowAccess
  split
  · split; exact .some h.bump
    split; exacts [.some h.bump, .some h]
  · exact .none

theorem Block.Canon.readWord {who : Requester} {addr : Nat} {b : Block} (h : b.Canon) : (readWord who addr b).1.Canon := by
  unfold Machine.readWord
  split
  next r hr => exact .fst (h.windowAccess r hr)
  next =>
    split
    next r hr => exact .fst (h.refuse r hr)
    next =>
      exact Canon.iteFst h.sbRegRead <| Canon.iteFst h.sbWindowRead <| Canon.bind (Canon.ite h.checkRange.touchCrc h.checkRange) fun h2 =>
        Canon.iteFst (.fst h2.touched) h2.guardedRead

theorem Block.Canon.rewritten {b : Block} {addr : Nat} {whole : Bool} (h : b.Canon) : (b.rewritten addr whole).Canon :=
  (Canon.ite h.frame h).memErr

theorem Block.Canon.writeWord {who : Requester} {addr w : Nat} {b : Block} (h : b.Canon) : (writeWord who addr w b).1.Canon := by
  have hop : RegOp.Keeps (if b.allLocked_ who addr then fun _ _ c => (c, .ok) else Machine.regOp who addr) :=
    .ite (fun _ _ _ h => h) .regOp
  unfold Machine.writeWord
  split
  next r hr => exact h.windowAccess r hr
  next => exact Canon.iteFst (.fst (h.guardedWrite hop).rewritten) (h.guardedWrite hop)

theorem Block.Canon.readWords {who : Requester} {b : Block} {addr n : Nat} (h : b.Canon) : (readWords who b addr n).1.Canon := by
  induction n generalizing b addr with
  | zero => exact h
  | succ n ih =>
    rw [Machine.readWords]
    dsimp only
    split; exacts [ih h.readWord, h.readWord]

theorem Block.Canon.writeAll {who : Requester} {b : Block} {addr : Nat} {l : List Nat} (h : b.Canon) : (writeAll who b addr l).1.Canon := by
  induction l generalizing b addr with
  | nil => exact h
  | cons w l ih =>
    rw [Machine.writeAll]
    dsimp only
    split; exacts [ih h.writeWord, h.writeWord]

theorem Block.Canon.answer {b : Block} {who : Requester} {cls : Nat} {m : Msg} (h : b.Canon) : (b.answer who cls m).Canon := by
  unfold Machine.Block.answer
  split; exacts [h.post, h.post]

theorem Block.Canon.reply {b : Block} {a : Access} {x : Answer} (h : b.Canon) : (b.reply a x).Canon := by
  unfold Machine.Block.reply
  refine Canon.answer ?_
  split; exacts [h.frame, h]

theorem Block.Canon.flushPosted {b : Block} {n : Nat} (h : b.Canon) : (b.flushPosted n).Canon := by
  induction n generalizing b with
  | zero => exact h
  | succ n ih => exact Canon.ite h (ih h.drainOne)

theorem Block.Canon.afterAnswer {b : Block} {addr done : Nat} {words : List Nat} (h : b.Canon) : (b.afterAnswer addr done words).Canon :=
  Canon.ite h.flushPosted.toOff (Canon.ite h.flushPosted.diagnose h)

theorem Block.Canon.mirrorRegs {b : Block} {addrs : List Nat} (h : b.Canon) : (b.mirrorRegs addrs).Canon := by
  refine ⟨h.dram, h.sbDram, h.regs, keysRise_foldl h.sbRegs fun t ht a => ?_⟩
  have hone : ∀ {t : Table Nat}, keysRise t = true → keysRise (match regRow a with
      | some r => if mirrorable a then r.bits.foldl (fun t x => if x.acc == .rw then putReg t (bitField a x) (b.get (bitField a x)) else t) t else t
      | none => t) = true := by
    intro t ht
    split
    · split
      · refine keysRise_foldl ht fun t ht x => ?_
        split; exacts [keysRise_putReg ht _ _, ht]
      · exact ht
    · exact ht
  dsimp only
  split; exacts [keysRise_putReg (keysRise_putReg (hone ht) _ _) _ _, hone ht]

theorem Block.Canon.doWrite {b : Block} {a : Access} {addr : Nat} {words : List Nat} (h : b.Canon) : (b.doWrite a addr words).Canon :=
  (Canon.ite h.writeAll.mirrorRegs h.writeAll).reply.afterAnswer

theorem Block.Canon.windowEntry {b : Block} {a : Nat} (h : b.Canon) : (b.windowEntry a).1.Canon := by
  unfold Machine.Block.windowEntry
  dsimp only
  exact h.checkRange

theorem Block.Canon.windowEntries {b : Block} {a n : Nat} (h : b.Canon) : (windowEntries b a n).1.Canon := by
  induction n generalizing b a with
  | zero => exact h
  | succ n ih =>
    rw [Machine.windowEntries]
    split; exacts [h, ih h.windowEntry]

theorem Block.Canon.bulkRead {who : Requester} {addr n : Nat} {b : Block} (h : b.Canon) : (bulkRead who addr n b).1.Canon := by
  unfold Machine.bulkRead
  dsimp only
  split; exact h.bump
  split; exact h.apertureOp
  split; exact h.bump
  split; exact h.bump
  split; exact h
  split
  · exact Canon.offAccess h
  · exact Canon.windowEntries h

theorem Block.Canon.wait {b : Block} {a : Access} {r : Request} (h : b.Canon) : (b.wait a r).Canon := h.frame

theorem Block.Canon.perform {b : Block} {a : Access} {r : Request} (h : b.Canon) : (b.perform a r).Canon := by
  unfold Machine.Block.perform
  dsimp only
  split; exacts [h.bulkRead.answer, h.bump.reply, h.readWords.reply, Canon.ite h.mirror h.doWrite]

theorem Block.Canon.take {b : Block} {a : Access} {r : Request} (h : b.Canon) : (b.take a r).Canon := by
  unfold Machine.Block.take
  split
  · exact h.perform
  · split; exacts [h.answer, h.perform]

theorem Block.Canon.arrive {b : Block} {a : Access} {r : Request} (h : b.Canon) : (b.arrive a r).Canon :=
  Canon.ite h (Canon.ite h.wait h.take.actCritical)

theorem Block.Canon.runWaiting {b : Block} (h : b.Canon) : b.runWaiting.Canon := h.frame.foldl fun _ h' _ => h'.arrive

theorem Block.Canon.mirrorDone {b : Block} {k : MirrorKind} (h : b.Canon) : (b.mirrorDone k).Canon := by
  unfold Machine.Block.mirrorDone
  split
  · exact Canon.ite h.doWrite.actCritical h
  · exact h
  · exact h.ackDecision
  · exact h.modEpoch
  · exact ⟨h.dram, h.sbDram, h.regs, keysRise_foldl_insertKey (keysRise_filter h.sbRegs _)⟩

theorem Block.Canon.flushMirror {b : Block} (h : b.Canon) : b.flushMirror.Canon := by
  unfold Machine.Block.flushMirror
  dsimp only
  refine Canon.ite h ?_
  exact (h.framePair.foldl fun _ h' _ => by split; exacts [h', h'.mirrorDone]).runWaiting

theorem Block.Canon.submit {a : Access} {r : Request} {b : Block} (h : b.Canon) : (submit a r b).Canon := h.arrive.flushMirror

/-! ### The commands that are register or bulk accesses of a requester -/

theorem Block.Canon.sysRestart {a : Access} {key : Word} {b : Block} (h : b.Canon) : (sysRestart a key b).Canon := h.submit

theorem Block.Canon.newNonce {a : Access} {b : Block} (h : b.Canon) : (newNonce a b).Canon := h.submit

theorem Block.Canon.quote {a : Access} {b : Block} (h : b.Canon) : (quote a b).Canon := h.submit

theorem Block.Canon.confirm {a : Access} {b : Block} (h : b.Canon) : (confirm a b).Canon := h.submit

theorem Block.Canon.openNvm {a : Access} {b : Block} (h : b.Canon) : (openNvm a b).Canon := h.submit

theorem Block.Canon.closeNvm {a : Access} {b : Block} (h : b.Canon) : (closeNvm a b).Canon := h.submit

theorem Block.Canon.verifySlot {a : Access} {b : Block} (h : b.Canon) : (verifySlot a b).Canon := h.submit

theorem Block.Canon.addKey {a : Access} {b : Block} (h : b.Canon) : (addKey a b).Canon := h.submit

theorem Block.Canon.revokeKey {a : Access} {b : Block} (h : b.Canon) : (revokeKey a b).Canon := h.submit

theorem Block.Canon.debugOpen {a : Access} {b : Block} (h : b.Canon) : (debugOpen a b).Canon := h.submit

theorem Block.Canon.nvmErase64k {a : Access} {b : Block} (h : b.Canon) : (nvmErase64k a b).Canon := h.submit

theorem Block.Canon.nvmProgram {a : Access} {b : Block} (h : b.Canon) : (nvmProgram a b).Canon := h.submit

theorem Block.Canon.nvmRead {a : Access} {b : Block} (h : b.Canon) : (nvmRead a b).Canon := h.submit

theorem Block.Canon.snapArm {a : Access} {w : Word} {b : Block} (h : b.Canon) : (snapArm a w b).Canon := h.submit

theorem Block.Canon.registerWrite {a : Access} {addr count : Nat} {data : List Word} {zeroOk : Bool} {b : Block} (h : b.Canon) :
    (registerWrite a addr count data zeroOk b).Canon :=
  h.submit

theorem Block.Canon.rcCounterRead {a : Access} {addr count : Nat} {b : Block} (h : b.Canon) : (rcCounterRead a addr count b).Canon :=
  h.submit

theorem Block.Canon.wideLoRead {a : Access} {addr count : Nat} {b : Block} (h : b.Canon) : (wideLoRead a addr count b).Canon := h.submit

theorem Block.Canon.wideHiRead {a : Access} {addr : Nat} {b : Block} (h : b.Canon) : (wideHiRead a addr b).Canon := h.submit

theorem Block.Canon.offDomainAccess {a : Access} {addr : Nat} {b : Block} (h : b.Canon) : (offDomainAccess a addr b).Canon := h.submit

theorem Block.Canon.wideLoWrite {a : Access} {addr : Nat} {w : Word} {b : Block} (h : b.Canon) : (wideLoWrite a addr w b).Canon := h.submit

theorem Block.Canon.wideHiWrite {a : Access} {addr : Nat} {w : Word} {b : Block} (h : b.Canon) : (wideHiWrite a addr w b).Canon := h.submit

theorem Block.Canon.pinUnitEnable {a : Access} {u : Nat} {w : Word} {b : Block} (h : b.Canon) : (pinUnitEnable a u w b).Canon := h.submit

theorem Block.Canon.lpsDjGo {a : Access} {b : Block} (h : b.Canon) : (lpsDjGo a b).Canon := h.submit

theorem Block.Canon.crcClaim {a : Access} {u : Nat} {b : Block} (h : b.Canon) : (crcClaim a u b).Canon := h.submit

theorem Block.Canon.crcRelease {a : Access} {u : Nat} {b : Block} (h : b.Canon) : (crcRelease a u b).Canon := h.submit

theorem Block.Canon.crcFeed {a : Access} {u : Nat} {w : Word} {b : Block} (h : b.Canon) : (crcFeed a u w b).Canon := h.submit

theorem Block.Canon.crcValWrite {a : Access} {u : Nat} {w : Word} {b : Block} (h : b.Canon) : (crcValWrite a u w b).Canon := h.submit

theorem Block.Canon.crcRangeGo {a : Access} {u : Nat} {b : Block} (h : b.Canon) : (crcRangeGo a u b).Canon := h.submit

theorem Block.Canon.crcRangeAbort {a : Access} {u : Nat} {b : Block} (h : b.Canon) : (crcRangeAbort a u b).Canon := h.submit

theorem Block.Canon.egqCfgWrite {a : Access} {q : Nat} {w : Word} {b : Block} (h : b.Canon) : (egqCfgWrite a q w b).Canon := h.submit

theorem Block.Canon.egqApertureRead {a : Access} {q n : Nat} {b : Block} (h : b.Canon) : (egqApertureRead a q n b).Canon := h.submit

theorem Block.Canon.bulkWindowRead {a : Access} {addr n : Nat} {b : Block} (h : b.Canon) : (bulkWindowRead a addr n b).Canon := h.submit

theorem Block.Canon.egqMark {a : Access} {q : Nat} {b : Block} (h : b.Canon) : (egqMark a q b).Canon := h.submit

theorem Block.Canon.egqRewind {a : Access} {q : Nat} {b : Block} (h : b.Canon) : (egqRewind a q b).Canon := h.submit

theorem Block.Canon.egqRelease {a : Access} {q : Nat} {b : Block} (h : b.Canon) : (egqRelease a q b).Canon := h.submit

theorem Block.Canon.egqMarkRelease {a : Access} {q : Nat} {b : Block} (h : b.Canon) : (egqMarkRelease a q b).Canon := h.submit

theorem Block.Canon.bvrStart {a : Access} {t slot k : Nat} {b : Block} (h : b.Canon) : (bvrStart a t slot k b).Canon := h.submit

theorem Block.Canon.bvrSwitch {a : Access} {t slot : Nat} {b : Block} (h : b.Canon) : (bvrSwitch a t slot b).Canon := h.submit

theorem Block.Canon.bvrStop {a : Access} {t slot : Nat} {b : Block} (h : b.Canon) : (bvrStop a t slot b).Canon := h.submit

theorem Block.Canon.bvrForceSafe {a : Access} {t slot : Nat} {b : Block} (h : b.Canon) : (bvrForceSafe a t slot b).Canon := h.submit

theorem Block.Canon.bvrInjGo {a : Access} {t slot : Nat} {b : Block} (h : b.Canon) : (bvrInjGo a t slot b).Canon := h.submit

theorem Block.Canon.bvrInjStop {a : Access} {t slot : Nat} {b : Block} (h : b.Canon) : (bvrInjStop a t slot b).Canon := h.submit

theorem Block.Canon.bvrCapArm {a : Access} {t slot : Nat} {b : Block} (h : b.Canon) : (bvrCapArm a t slot b).Canon := h.submit

theorem Block.Canon.bvrCapStop {a : Access} {t slot : Nat} {b : Block} (h : b.Canon) : (bvrCapStop a t slot b).Canon := h.submit

theorem Block.Canon.bvrBankWrite {a : Access} {t slot k n : Nat} {w : Word} {b : Block} (h : b.Canon) :
    (bvrBankWrite a t slot k n w b).Canon :=
  h.submit

theorem Block.Canon.tdcCalGo {a : Access} {w : Word} {b : Block} (h : b.Canon) : (tdcCalGo a w b).Canon := h.submit

theorem Block.Canon.tdcCalAbort {a : Access} {w : Word} {b : Block} (h : b.Canon) : (tdcCalAbort a w b).Canon := h.submit

theorem Block.Canon.tdcTableLoad {a : Access} {w : Word} {b : Block} (h : b.Canon) : (tdcTableLoad a w b).Canon := h.submit

theorem Block.Canon.pchCfgWrite {a : Access} {n r : Nat} {w : Word} {b : Block} (h : b.Canon) : (pchCfgWrite a n r w b).Canon := h.submit

theorem Block.Canon.faultClearWrite {a : Access} {n : Nat} {w : Word} {b : Block} (h : b.Canon) : (faultClearWrite a n w b).Canon :=
  h.submit

theorem Block.Canon.odRequest {a : Access} {w : Word} {b : Block} (h : b.Canon) : (odRequest a w b).Canon := h.submit

theorem Block.Canon.odSlotFree {a : Access} {slot : Nat} {w : Word} {b : Block} (h : b.Canon) : (odSlotFree a slot w b).Canon := h.submit

theorem Block.Canon.calGo {a : Access} {w : Word} {b : Block} (h : b.Canon) : (calGo a w b).Canon := h.submit

theorem Block.Canon.calAbort {a : Access} {w : Word} {b : Block} (h : b.Canon) : (calAbort a w b).Canon := h.submit

theorem Block.Canon.calOfsWrite {a : Access} {n r : Nat} {w : Word} {b : Block} (h : b.Canon) : (calOfsWrite a n r w b).Canon := h.submit

theorem Block.Canon.calGainWrite {a : Access} {n r : Nat} {w : Word} {b : Block} (h : b.Canon) : (calGainWrite a n r w b).Canon := h.submit

theorem Block.Canon.masterSetGo {a : Access} {x : Nat} {w : Word} {b : Block} (h : b.Canon) : (masterSetGo a x w b).Canon := h.submit

theorem Block.Canon.toutArm {a : Access} {o : Nat} {w : Word} {b : Block} (h : b.Canon) : (toutArm a o w b).Canon := h.submit

theorem Block.Canon.toutDisarm {a : Access} {o : Nat} {w : Word} {b : Block} (h : b.Canon) : (toutDisarm a o w b).Canon := h.submit

theorem Block.Canon.pinGo {a : Access} {w : Word} {b : Block} (h : b.Canon) : (pinGo a w b).Canon := h.submit

theorem Block.Canon.routePinWrite {a : Access} {d : Nat} {w : Word} {b : Block} (h : b.Canon) : (routePinWrite a d w b).Canon := h.submit

theorem Block.Canon.lnkRetry {a : Access} {p : Nat} {b : Block} (h : b.Canon) : (lnkRetry a p b).Canon := h.submit

theorem Block.Canon.lnkKnock {a : Access} {p : Nat} {b : Block} (h : b.Canon) : (lnkKnock a p b).Canon := h.submit

theorem Block.Canon.lnkRejoin {a : Access} {p : Nat} {b : Block} (h : b.Canon) : (lnkRejoin a p b).Canon := h.submit

theorem Block.Canon.lnkAdminDown {a : Access} {p : Nat} {b : Block} (h : b.Canon) : (lnkAdminDown a p b).Canon := h.submit

theorem Block.Canon.lnkTestPrbs31 {a : Access} {p : Nat} {b : Block} (h : b.Canon) : (lnkTestPrbs31 a p b).Canon := h.submit

theorem Block.Canon.lnkTestOff {a : Access} {p : Nat} {b : Block} (h : b.Canon) : (lnkTestOff a p b).Canon := h.submit

theorem Block.Canon.voteCast {a : Access} {d : Nat} {w : Word} {b : Block} (h : b.Canon) : (voteCast a d w b).Canon := h.submit

theorem Block.Canon.voteWithdraw {a : Access} {d : Nat} {w : Word} {b : Block} (h : b.Canon) : (voteWithdraw a d w b).Canon := h.submit

theorem Block.Canon.forceNone {a : Access} {d : Nat} {b : Block} (h : b.Canon) : (forceNone a d b).Canon := h.submit

theorem Block.Canon.forceOn {a : Access} {d : Nat} {b : Block} (h : b.Canon) : (forceOn a d b).Canon := h.submit

theorem Block.Canon.forceOff {a : Access} {d : Nat} {b : Block} (h : b.Canon) : (forceOff a d b).Canon := h.submit

theorem Block.Canon.levelForceWrite {a : Access} {w : Word} {b : Block} (h : b.Canon) : (levelForceWrite a w b).Canon := h.submit

theorem Block.Canon.irqAck {a : Access} {w : Word} {b : Block} (h : b.Canon) : (irqAck a w b).Canon := h.submit

theorem Block.Canon.irqRaise {a : Access} {w : Word} {b : Block} (h : b.Canon) : (irqRaise a w b).Canon := h.submit

theorem Block.Canon.irqPop {a : Access} {t : Nat} {w : Word} {b : Block} (h : b.Canon) : (irqPop a t w b).Canon := h.submit

theorem Block.Canon.irqSrcWrite {a : Access} {src : Nat} {w : Word} {b : Block} (h : b.Canon) : (irqSrcWrite a src w b).Canon := h.submit

theorem Block.Canon.eccThrWrite {a : Access} {r : Nat} {w : Word} {b : Block} (h : b.Canon) : (eccThrWrite a r w b).Canon := h.submit

theorem Block.Canon.watchdogKick {a : Access} {b : Block} (h : b.Canon) : (watchdogKick a b).Canon := h.submit

theorem Block.Canon.pairSwitch {a : Access} {b : Block} (h : b.Canon) : (pairSwitch a b).Canon := h.submit

theorem Block.Canon.pairReinstate {a : Access} {b : Block} (h : b.Canon) : (pairReinstate a b).Canon := h.submit

theorem Block.Canon.pairRetire {a : Access} {b : Block} (h : b.Canon) : (pairRetire a b).Canon := h.submit

theorem Block.Canon.standbyRegRead {a : Access} {b : Block} (h : b.Canon) : (standbyRegRead a b).Canon := h.submit

theorem Block.Canon.standbyWindowRead {a : Access} {k : Nat} {b : Block} (h : b.Canon) : (standbyWindowRead a k b).Canon := h.submit

theorem Block.Canon.tstArmStretch {a : Access} {b : Block} (h : b.Canon) : (tstArmStretch a b).Canon := h.submit

theorem Block.Canon.tstArmBackpress {a : Access} {b : Block} (h : b.Canon) : (tstArmBackpress a b).Canon := h.submit

theorem Block.Canon.tstArmLane {a : Access} {b : Block} (h : b.Canon) : (tstArmLane a b).Canon := h.submit

theorem Block.Canon.tstArmTime {a : Access} {b : Block} (h : b.Canon) : (tstArmTime a b).Canon := h.submit

theorem Block.Canon.tstArmMemerr {a : Access} {b : Block} (h : b.Canon) : (tstArmMemerr a b).Canon := h.submit

theorem Block.Canon.tstArmResidue {a : Access} {b : Block} (h : b.Canon) : (tstArmResidue a b).Canon := h.submit

theorem Block.Canon.tstDisarmAll {a : Access} {b : Block} (h : b.Canon) : (tstDisarmAll a b).Canon := h.submit

/-! ### Configure -/

theorem Block.Canon.applyExpert {b : Block} {e : List Nat} (h : b.Canon) : (b.applyExpert e).Canon :=
  Canon.ite h (Canon.ite h.writeWord.toOff h.writeWord)

theorem Block.Canon.flushHeld {b : Block} (h : b.Canon) : b.flushHeld.Canon := by
  unfold Machine.Block.flushHeld
  split; exacts [h.writeWord, h]

theorem Block.Canon.expertSection {b : Block} {l : List Section} (h : b.Canon) : (b.expertSection l).Canon :=
  (h.foldl fun _ h' _ => h'.applyExpert).flushHeld

theorem Block.Canon.requestGroups {b : Block} {t : Nat} (h : b.Canon) : (b.requestGroups t).Canon := h.put

theorem Block.Canon.autostart {b : Block} {l : List (Nat × Nat)} (h : b.Canon) : (b.autostart l).Canon :=
  h.foldl fun _ h' _ => Canon.ite h'.bvrStartOp h'

theorem Block.Canon.applyImage {b : Block} {l : List Section} (h : b.Canon) : (b.applyImage l).Canon :=
  (((((h.put.applySteps flatMap_typeSteps_keep).expertSection).applySteps flatMap_typeSteps_keep).foldl fun _ h' _ => h'.requestGroups).foldl
    fun _ h' _ => h'.takeSettings).autostart.setGrant

theorem Block.Canon.configureCal {b : Block} {cal : List (Nat × List Nat)} (h : b.Canon) : (b.configureCal cal).Canon := by
  unfold Machine.Block.configureCal
  exact h.startCal.foldl fun _ h' _ => Canon.ite h' (by split; exacts [Canon.ite h'.install.calFinish h'.calFinish, h'.calFinish])

theorem Block.Canon.startSync {b : Block} (h : b.Canon) : b.startSync.Canon := Canon.ite h.mirror h

theorem Block.Canon.establishMasters {b : Block} (h : b.Canon) : b.establishMasters.Canon :=
  Canon.bind (Canon.ite h.establishMaster h) fun hb1 => Canon.ite hb1.establishMaster hb1

theorem Block.Canon.enterJoin {b : Block} (h : b.Canon) : b.enterJoin.Canon :=
  h.establishMasters.reselect.frame.tryUpAll.startSync.settlePower

theorem Block.Canon.configureDone {cal : List (Nat × List Nat)} {b : Block} (h : b.Canon) : (configureDone cal b).Canon := by
  unfold Machine.configureDone
  dsimp only
  refine Canon.whenDue (fun _ h' => ?_) h
  split; exacts [h'.toSafe, Canon.ite h'.toSafe (Canon.ite h'.applyImage.configureCal.enterJoin h'.applyImage)]

/-! ### The epoch boundary of the stamping time, and the completion of reseat -/

theorem Block.Canon.putWord {b : Block} {addr w : Nat} (h : b.Canon) : (b.putWord addr w).Canon := by
  unfold Machine.Block.putWord
  split; exacts [h.foldl fun _ h' _ => h'.put, h]

theorem Block.Canon.takeSnapshot {b : Block} {e : Nat} (h : b.Canon) : (b.takeSnapshot e).Canon :=
  Canon.ite h ((h.foldl fun _ h' _ => Canon.ite h'.putWord h').put.put.put.putB.put.put)

theorem Block.Canon.groupsBoundary {b : Block} (h : b.Canon) : b.groupsBoundary.Canon :=
  Canon.bind (h.setGrant.foldl fun _ h' _ => h'.put) fun hb1 => ((Canon.ite hb1 hb1.link).foldl fun _ h' _ =>
    h'.dropDisc).foldl fun _ h' _ => Canon.ite h'.enableGroup h'

theorem Block.Canon.effortChoice {b : Block} (h : b.Canon) : b.effortChoice.Canon := h.put

theorem Block.Canon.closeEpoch {b : Block} (h : b.Canon) : b.closeEpoch.Canon := h.withEvb

theorem Block.Canon.newEpoch {b : Block} {k : Nat} {note : Option SwitchNote} (h : b.Canon) : (b.newEpoch k note).Canon := by
  unfold Machine.Block.newEpoch
  exact h.bumpBy.withEvb

theorem Block.Canon.coreBoundary {b : Block} {k : Nat} {note : Option SwitchNote} (h : b.Canon) : (b.coreBoundary k note).Canon := by
  unfold Machine.Block.coreBoundary
  exact h.queuesBoundary.effortChoice.newEpoch.streamsBoundary.resolveEpochs.dropIdle.heartbeat.fabricEpoch

theorem Block.Canon.pairBoundary {b : Block} (h : b.Canon) : b.pairBoundary.Canon := by
  unfold Machine.Block.pairBoundary
  dsimp only
  split
  · exact Canon.ite (Canon.ite h.framePair h).put.put.showStandby.raise (Canon.ite h.framePair h).put
  · exact (Canon.ite h.framePair h).framePair
  · exact Canon.ite (Canon.ite h.framePair h) (Canon.ite h.framePair h).put.framePair
  · exact Canon.ite h.framePair h

theorem Block.Canon.timeBoundary {b : Block} (h : b.Canon) : b.timeBoundary.1.Canon := by
  unfold Machine.Block.timeBoundary
  dsimp only
  exact h.domainBoundary.domainBoundary.stampBoundary.retimed

theorem Block.Canon.enterEpoch {b : Block} (h : b.Canon) : b.enterEpoch.Canon := h.frame.anchor

theorem Block.Canon.epochBoundary {b : Block} (h : b.Canon) : (epochBoundary b).Canon :=
  Canon.whenDue (fun _ h' => Canon.bind h'.timeBoundary.enterEpoch fun hb1 => Canon.bind
    (Canon.ite hb1.takeSnapshot hb1).closeEpoch.groupsBoundary.link.dutyBoundary fun hb3 => Canon.bind ((Canon.ite (hb3.foldl fun _ h1 _ =>
    h1.closePage) hb3).tstBoundary) fun hb4 => (Canon.ite hb4.coreBoundary hb4).squirrel.pairBoundary.settlePower.flushMirror) h

theorem Block.Canon.discardStale {b : Block} (h : b.Canon) : b.discardStale.Canon := h.clearQueues.withEvb

theorem Block.Canon.enterLive {b : Block} (h : b.Canon) : b.enterLive.Canon :=
  Canon.bind h.frame.startWindows fun hb1 => Canon.ite hb1.put.put hb1

theorem Block.Canon.reseatComplete {b : Block} (h : b.Canon) : (reseatComplete b).Canon :=
  Canon.whenDue (fun _ h' => Canon.bind h'.discardStale.frame fun hb1 => (Canon.ite hb1.enterLive hb1).settlePower) h

/-! ### The switch-over of the concentrator pair -/

theorem Block.Canon.dropLost {b : Block} {lost : List Nat} {q : Nat} (h : b.Canon) : (b.dropLost lost q).Canon :=
  Canon.ite h ((Canon.foldl_fst h fun _ h' _ => h'.qStore).put64.put64.setQueue)

theorem Block.Canon.fillFronts {b : Block} {new : Nat} {lost : List Nat} {runs : List LossRun} (h : b.Canon) :
    (b.fillFronts new lost runs).Canon := h.foldl fun _ h' _ => h'.dropLost.fillFront

theorem Block.adoptDram_wf {b : Block} (h : b.Canon) : Memory.wf b.adoptDram := by
  have hlow := (keysRise_iff _).1 (keysRise_filter h.sbDram.1 fun e => decide (e.1 < 0x0580000000))
  have hmid := (keysRise_iff _).1 (keysRise_filter h.dram.1 fun e => egressAddr e.1)
  have hhigh := (keysRise_iff _).1 (keysRise_filter h.sbDram.1 fun e => decide (0x0680000000 ≤ e.1))
  refine ⟨(keysRise_iff _).2 (List.pairwise_append.2 ⟨List.pairwise_append.2 ⟨hlow, hmid, ?_⟩, hhigh, ?_⟩), ?_⟩
  · intro x hx y hy
    simp only [List.mem_filter, decide_eq_true_eq, egressAddr, Bool.and_eq_true] at hx hy
    omega
  · intro x hx y hy
    simp only [List.mem_append, List.mem_filter, decide_eq_true_eq, egressAddr, Bool.and_eq_true] at hx hy
    omega
  · intro c hc
    simp only [Machine.Block.adoptDram, List.mem_append, List.mem_filter] at hc
    rcases hc with (⟨hc, -⟩ | ⟨hc, -⟩) | ⟨hc, -⟩
    exacts [h.sbDram.2 c hc, h.dram.2 c hc, h.sbDram.2 c hc]

theorem Block.Canon.adopt {b : Block} (h : b.Canon) : b.adopt.Canon :=
  ⟨Block.adoptDram_wf h, h.sbDram, keysRise_overlay (keysRise_filter h.regs _), h.sbRegs⟩

theorem Block.Canon.undoDecisions {b : Block} (h : b.Canon) : b.undoDecisions.Canon := by
  unfold Machine.Block.undoDecisions
  exact h.foldl fun _ h' _ => by split; exacts [h'.foldl fun _ h1 _ => h1.setFrag, h']

theorem Block.Canon.undoEntries {b : Block} (h : b.Canon) : b.undoEntries.Canon := by
  unfold Machine.Block.undoEntries
  exact h.withEvb

theorem Block.Canon.undoBuilds {b : Block} (h : b.Canon) : b.undoBuilds.Canon := h.withEvb.put.frame

theorem Block.Canon.leaveMaster {b : Block} (h : b.Canon) : b.leaveMaster.Canon := h.put.frame

theorem Block.Canon.leavePair {b : Block} {new : Nat} (h : b.Canon) : (b.leavePair new).Canon := by
  have h1 : (((b.put F.IDN_ACTIVE new).bump F.PAIR_TKO_CNT).standbyDown 5).Canon := h.put.bump.standbyDown
  exact ⟨h1.dram, Memory.wf_nil, h1.regs, rfl⟩

theorem Block.Canon.switchPorts {b : Block} {new : Nat} (h : b.Canon) : (b.switchPorts new).Canon :=
  h.foldl fun _ h' _ => (Canon.ite h' h'.emit).toExchange

theorem Block.Canon.cancelSnap {b : Block} (h : b.Canon) : b.cancelSnap.Canon := Canon.ite h.put.put.put h

theorem Block.Canon.startController {b : Block} {new : Nat} {runs : List LossRun} (h : b.Canon) : (b.startController new runs).Canon :=
  h.startIrq.raise.foldl fun _ h' _ => h'.raise

theorem Block.Canon.takeover {b : Block} (h : b.Canon) : (takeover b).Canon :=
  Canon.whenDue (fun _ h' => Canon.bind h'.undoDecisions.undoEntries.fillFronts.switchPorts fun hb1 => Canon.bind
    (Canon.ite hb1.adopt.leavePair.startWindows hb1.adopt.leavePair).cancelSnap.abortCal.leaveMaster.startController fun hb3 =>
    ((Canon.ite hb3.undoBuilds hb3).chooseLevel).settlePower) h

theorem Block.Canon.warmRebuildDone {b : Block} (h : b.Canon) : (warmRebuildDone b).Canon :=
  Canon.whenDue (fun _ h' => h'.put.frame.chooseLevel) h

theorem Block.Canon.takeoverGapEnd {b : Block} (h : b.Canon) : (takeoverGapEnd b).Canon :=
  Canon.whenDue (fun _ h' => ((((h'.put.framePair.foldl fun _ h1 _ =>
    h1.applyDecision).resolveEpochs).runWaiting).flushMirror).settlePower) h

/-! ### The mirror link's events, the standby's states, and the causes of self-diagnosis -/

theorem Block.Canon.mirrorAck {b : Block} (h : b.Canon) : (mirrorAck b).Canon := by
  unfold Machine.mirrorAck
  dsimp only
  split; exacts [h, Canon.whenDue (fun _ h' => h'.framePair.mirrorDone.runWaiting.flushMirror) h]

theorem Block.Canon.mirrorLost {drop : Bool} {b : Block} (h : b.Canon) : (mirrorLost drop b).Canon :=
  Canon.whenDue (fun _ h' => (Canon.ite h'.bump.put.put h'.bump.put).framePair.showStandby.flushMirror) h

theorem Block.Canon.mirrorLinkRestored {b : Block} (h : b.Canon) : (mirrorLinkRestored b).Canon :=
  Canon.whenDue (fun _ h' => h'.put.startSync) h

theorem Block.Canon.loseStandby {b : Block} (h : b.Canon) : b.loseStandby.Canon := h.failStandby.flushMirror

theorem Block.Canon.standbyFillDone {pass : Bool} {b : Block} (h : b.Canon) : (standbyFillDone pass b).Canon :=
  Canon.whenDue (fun _ h' => Canon.ite h'.put.put.framePair.startSync h'.loseStandby) h

theorem Block.Canon.standbyCaughtUp {b : Block} (h : b.Canon) : (standbyCaughtUp b).Canon := Canon.whenDue (fun _ h' => h'.put.framePair) h

theorem Block.Canon.causeOn {b : Block} {standby : Bool} {cause : Nat} (h : b.Canon) : (b.causeOn standby cause).Canon :=
  Canon.ite (Canon.ite h.loseStandby h) (Canon.ite h.diagnose h)

theorem Block.Canon.periodicSelftest {cc : Nat} {pass : Bool} {b : Block} (h : b.Canon) : (periodicSelftest cc pass b).Canon :=
  Canon.whenDue (fun _ h' => Canon.ite h'.framePair h'.framePair.bump.causeOn) h

theorem Block.Canon.watchdogExpire {standby : Bool} {b : Block} (h : b.Canon) : (watchdogExpire standby b).Canon :=
  Canon.whenDue (fun _ h' => h'.causeOn) h

theorem Block.Canon.lockstepMismatch {standby : Bool} {b : Block} (h : b.Canon) : (lockstepMismatch standby b).Canon := h.causeOn

theorem Block.Canon.coreStall {standby : Bool} {b : Block} (h : b.Canon) : (coreStall standby b).Canon := h.causeOn

theorem Block.Canon.railFault {standby : Bool} {b : Block} (h : b.Canon) : (railFault standby b).Canon := h.causeOn

theorem Block.Canon.withSbRegs {b : Block} {r : Table Nat} {p : Table Unit} (h : b.Canon) (hr : keysRise r = true) :
    { b with pair := { b.pair with sbRegs := r, sbPoison := p } }.Canon :=
  ⟨h.dram, h.sbDram, h.regs, hr⟩

theorem Block.Canon.standbyError {b : Block} {addr pos : Nat} {double : Bool} (h : b.Canon) : (b.standbyError addr pos double).Canon := by
  unfold Machine.Block.standbyError
  dsimp only
  split
  · refine Canon.bind (h.withSbRegs ?_) fun h1 => Canon.ite h1.loseStandby h1
    split
    · iterate 5 refine keysRise_putReg ?_ _ _
      exact h.sbRegs
    · iterate 4 refine keysRise_putReg ?_ _ _
      exact h.sbRegs
  · refine ⟨h.dram, h.sbDram, h.regs, ?_⟩
    dsimp only
    iterate 6 refine keysRise_putReg ?_ _ _
    exact h.sbRegs

theorem Block.Canon.scrubStep {die addr : Nat} {upset double : Bool} {pos : Nat} {b : Block} (h : b.Canon) :
    (scrubStep die addr upset double pos b).Canon :=
  Canon.ite (Canon.whenDue (fun _ h' => h'.upset.check.scrubNext.actCritical) h) (Canon.ite (Canon.whenDue (fun _ h' => h'.standbyError) h)
    (Canon.whenDue (fun _ h' => h'.upset.check) h))

/-! ### What a power domain loses -/

theorem Block.Canon.dropSlot {b : Block} {t s : Nat} (h : b.Canon) : (b.dropSlot t s).Canon := h.capEnd.genStop.put.setLoop.put.setLevel

theorem Block.Canon.tileDown {b : Block} {t : Nat} (h : b.Canon) : (b.tileDown t).Canon :=
  ((h.link.foldl fun _ h' _ => h'.dropSlot).frame.foldl fun _ h' _ => Canon.ite h'.calFinish h').foldl fun _ h' _ => h'.lookPrec.setLevel

theorem Block.Canon.filterRegs {b : Block} {p : Nat × Nat → Bool} (h : b.Canon) : { b with regs := b.regs.filter p }.Canon :=
  ⟨h.dram, h.sbDram, keysRise_filter h.regs p, h.sbRegs⟩

theorem tileLoops_keep {b : Block} {t : Nat} : ∀ x ∈ b.tileLoops t, x.Keeps := by
  intro x hx
  obtain ⟨y, hmem, hy⟩ := List.mem_filterMap.1 hx
  split at hy
  · cases hy
    exact typeSteps_keep _ (List.of_mem_zip hmem).1
  · cases hy

theorem Block.Canon.tileUp {b : Block} {t : Nat} (h : b.Canon) : (b.tileUp t).Canon := by
  unfold Machine.Block.tileUp
  dsimp only
  exact Canon.bind (Canon.autostart (Canon.applySteps h.filterRegs tileLoops_keep)) fun h2 =>
    ((Canon.ite h2 h2.startCal).foldl fun _ h' _ => h'.enableGroup).foldl fun _ h' _ => h'.setPch.takeSettings

theorem Block.Canon.dramUp {b : Block} {x : Nat} (h : b.Canon) : (b.dramUp x).Canon :=
  Canon.ite ⟨Memory.wf_nil, h.sbDram, h.regs, h.sbRegs⟩ ⟨h.dram, Memory.wf_nil, h.regs, h.sbRegs⟩

theorem Block.Canon.forgetRoutes {b : Block} (h : b.Canon) : b.forgetRoutes.Canon := (h.foldl fun _ h' _ => h'.setRoute).frame

theorem Block.Canon.coreUp {b : Block} (h : b.Canon) : b.coreUp.Canon := by
  unfold Machine.Block.coreUp
  split
  · exact h
  · exact Canon.tryUpAll (.clearQueues (.forgetRoutes ⟨h.dram, h.sbDram, keysRise_overlay (keysRise_filter h.regs _), h.sbRegs⟩))

theorem Block.Canon.portUp {b : Block} {p : Nat} (h : b.Canon) : (b.portUp p).Canon :=
  Canon.tryUp (.put ⟨h.dram, h.sbDram, keysRise_filter h.regs _, h.sbRegs⟩)

theorem Block.Canon.domainUp {b : Block} {d : Nat} (h : b.Canon) : (b.domainUp d).Canon :=
  Canon.ite h.tileUp (Canon.ite (Canon.ite h.coreUp (Canon.ite h.put h)) (Canon.ite h.dramUp (Canon.ite h.portUp (Canon.ite h.lookAll
    (Canon.ite h.reselect h)))))

theorem Block.Canon.domainDown {b : Block} {d : Nat} (h : b.Canon) : (b.domainDown d).Canon :=
  Canon.ite h.tileDown <| Canon.ite (Canon.ite h (Canon.flushMirror ⟨h.dram, h.sbDram, h.regs, rfl⟩)) <| Canon.ite h.dramUp <|
    Canon.ite (h.foldl fun _ h' _ => h'.darkLane) <| Canon.ite (h.foldl fun _ h' _ => h'.tripSafe).lookAll <|
    Canon.ite h.put.frame.reselect h

theorem Block.Canon.takePending {b : Block} {d : Nat} {on : Bool} (h : b.Canon) : (b.takePending d on).Canon :=
  Canon.ite h.put h.put.request

theorem Block.Canon.domainTransitionDone {d : Nat} {b : Block} (h : b.Canon) : (domainTransitionDone d b).Canon :=
  Canon.ite h.put.domainUp.takePending.settlePower (Canon.ite h.put.domainDown.takePending.settlePower h)

theorem Block.Canon.dropVoter {b : Block} {n : Nat} (h : b.Canon) : (b.dropVoter n).Canon := h.frame

theorem Block.Canon.nodeDepart {d : Nat} {b : Block} (h : b.Canon) : (nodeDepart d b).Canon :=
  Canon.whenDue (fun _ h' => h'.setRoute.raise.dropVoter.reassign.reannounce.settlePower) h

/-! ### Ethernet frames at a host-mode port -/

theorem Block.Canon.etherOut {b : Block} {p : Nat} {dst : List Nat} {type : Nat} {body : List Nat} (h : b.Canon) :
    (b.etherOut p dst type body).Canon :=
  h.emit

theorem Block.Canon.arpIn {b : Block} {p : Nat} {l : List Nat} (h : b.Canon) : (b.arpIn p l).Canon := by
  unfold Machine.Block.arpIn
  split; exacts [Canon.ite h.etherOut h, h]

theorem Block.Canon.datagramIn {b : Block} {p : Nat} {src : List Nat} {srcPort : Nat} {l : List Nat} (h : b.Canon) :
    (b.datagramIn p src srcPort l).Canon :=
  Canon.ite h.bump ((Canon.ite h.frame h).frameRx)

theorem Block.Canon.udpIn {b : Block} {p : Nat} {src dst l : List Nat} (h : b.Canon) : (b.udpIn p src dst l).Canon :=
  Canon.ite h.datagramIn h

theorem Block.Canon.icmp6In {b : Block} {p : Nat} {mac src dst : List Nat} {hop : Nat} {l : List Nat} (h : b.Canon) :
    (b.icmp6In p mac src dst hop l).Canon :=
  Canon.ite h (Canon.ite (Canon.ite h.etherOut h) (Canon.ite h.etherOut h))

theorem Block.Canon.ip6In {b : Block} {p : Nat} {mac l : List Nat} (h : b.Canon) : (b.ip6In p mac l).Canon :=
  Canon.ite h (Canon.ite h.icmp6In (Canon.ite h.udpIn h))

theorem Block.Canon.ip4In {b : Block} {p : Nat} {mac l : List Nat} (h : b.Canon) : (b.ip4In p mac l).Canon := by
  unfold Machine.Block.ip4In
  dsimp only
  split; exacts [h, Canon.ite h (Canon.ite (Canon.ite h.etherOut h) (Canon.ite h.udpIn h))]

theorem Block.Canon.hostEthernetFrameRx {p : Nat} {bytes : List Byte} {b : Block} (h : b.Canon) : (hostEthernetFrameRx p bytes b).Canon :=
  Canon.whenDue (fun _ h' => Canon.ite h'.arpIn (Canon.ite h'.ip6In (Canon.ite h'.ip4In h'))) h

/-! ### One step of the module -/

theorem Block.Canon.idle {b : Block} (h : b.Canon) : (idle b).Canon := h.tickTime.drainOne

/-- Every command keeps the canonical form. -/
theorem Block.Canon.act {b : Block} {c : Instr} (h : b.Canon) : (act c b).Canon := by
  cases c with
  | vinValid => exact h.vinValid
  | vinCutoff => exact h.vinCutoff
  | rstNReset => exact h.rstNReset
  | fillDone => exact h.fillDone
  | verifyDone => exact h.verifyDone
  | recoveryLoad => exact h.recoveryLoad
  | configureDone => exact h.configureDone
  | reseatComplete => exact h.reseatComplete
  | faultReport => exact h.faultReport
  | sysRestart => exact h.sysRestart
  | newNonce => exact h.newNonce
  | quote => exact h.quote
  | confirm => exact h.confirm
  | openNvm => exact h.openNvm
  | closeNvm => exact h.closeNvm
  | verifySlot => exact h.verifySlot
  | addKey => exact h.addKey
  | revokeKey => exact h.revokeKey
  | debugOpen => exact h.debugOpen
  | secCmdDone => exact h.secCmdDone
  | nvmErase64k => exact h.nvmErase64k
  | nvmProgram => exact h.nvmProgram
  | nvmRead => exact h.nvmRead
  | nvmOpDone => exact h.nvmOpDone
  | nvmPollTimeout => exact h.nvmPollTimeout
  | registerWrite => exact h.registerWrite
  | rcCounterRead => exact h.rcCounterRead
  | wideLoRead => exact h.wideLoRead
  | wideHiRead => exact h.wideHiRead
  | wideLoWrite => exact h.wideLoWrite
  | wideHiWrite => exact h.wideHiWrite
  | snapArm => exact h.snapArm
  | epochBoundary => exact h.epochBoundary
  | squirrelEvalTimer => exact h.squirrelEvalTimer
  | powerSample => exact h.powerSample
  | epochCommit => exact h.epochCommit
  | gridInstantEval => exact h.gridInstantEval
  | pinUnitEnable => exact h.pinUnitEnable
  | decisionAccept => exact h.decisionAccept
  | decisionReject => exact h.decisionReject
  | decisionSupersede => exact h.decisionSupersede
  | decisionDeadline => exact h.decisionDeadline
  | emptyEpochDeadline => exact h.emptyEpochDeadline
  | fragmentBuilt => exact h.fragmentBuilt
  | primitiveRx => exact h.primitiveRx
  | primitiveDue => exact h.primitiveDue
  | decisionRepeat => exact h.decisionRepeat
  | decisionAckRx => exact h.decisionAckRx
  | heartbeatRx => exact h.heartbeatRx
  | triggerStandbyTakeover => exact h.triggerStandbyTakeover
  | retroRx => exact h.retroRx
  | announceRx => exact h.announceRx
  | fragmentDataRx => exact h.fragmentDataRx
  | mergeTimeout => exact h.mergeTimeout
  | fragmentAckRx => exact h.fragmentAckRx
  | fragmentResend => exact h.fragmentResend
  | fragmentAbandon => exact h.fragmentAbandon
  | mergeIdentityExpire => exact h.mergeIdentityExpire
  | ringItemStore => exact h.ringItemStore
  | packJobStart => exact h.packJobStart
  | packJobDone => exact h.packJobDone
  | lpsDjGo => exact h.lpsDjGo
  | lpsDjDone => exact h.lpsDjDone
  | crcClaim => exact h.crcClaim
  | crcRelease => exact h.crcRelease
  | crcClaimTimeout => exact h.crcClaimTimeout
  | crcFeed => exact h.crcFeed
  | crcValWrite => exact h.crcValWrite
  | crcRangeGo => exact h.crcRangeGo
  | crcRangeAbort => exact h.crcRangeAbort
  | crcRangeDone => exact h.crcRangeDone
  | egqCfgWrite => exact h.egqCfgWrite
  | egqApertureRead => exact h.egqApertureRead
  | bulkWindowRead => exact h.bulkWindowRead
  | egqMark => exact h.egqMark
  | egqRewind => exact h.egqRewind
  | egqRelease => exact h.egqRelease
  | egqMarkRelease => exact h.egqMarkRelease
  | loopExecution => exact h.loopExecution
  | loopStall => exact h.loopStall
  | bvrStart => exact h.bvrStart
  | bvrSwitch => exact h.bvrSwitch
  | bvrStop => exact h.bvrStop
  | bvrForceSafe => exact h.bvrForceSafe
  | bvrInjGo => exact h.bvrInjGo
  | bvrInjStop => exact h.bvrInjStop
  | bvrCapArm => exact h.bvrCapArm
  | bvrCapStop => exact h.bvrCapStop
  | bvrBankWrite => exact h.bvrBankWrite
  | tdcEdge => exact h.tdcEdge
  | discHoldoffEnd => exact h.discHoldoffEnd
  | hitRelease => exact h.hitRelease
  | tdcCalGo => exact h.tdcCalGo
  | tdcCalAbort => exact h.tdcCalAbort
  | tdcCalSourceDone => exact h.tdcCalSourceDone
  | tdcCalTimeout => exact h.tdcCalTimeout
  | tdcTableLoad => exact h.tdcTableLoad
  | settleCountEnd => exact h.settleCountEnd
  | precisionSampleDone => exact h.precisionSampleDone
  | precBufferStore => exact h.precBufferStore
  | precSettleEnd => exact h.precSettleEnd
  | refSettled => exact h.refSettled
  | pcvCfgInForce => exact h.pcvCfgInForce
  | pchCfgWrite => exact h.pchCfgWrite
  | excReversal => exact h.excReversal
  | excDutyOn => exact h.excDutyOn
  | excDutyOff => exact h.excDutyOff
  | excLimitAssert => exact h.excLimitAssert
  | drvLimitAssert => exact h.drvLimitAssert
  | faultAssert => exact h.faultAssert
  | faultAutoClear => exact h.faultAutoClear
  | faultClearWrite => exact h.faultClearWrite
  | odRequest => exact h.odRequest
  | odDropTimeout => exact h.odDropTimeout
  | odSlotFree => exact h.odSlotFree
  | calGo => exact h.calGo
  | calAbort => exact h.calAbort
  | calComputeDone => exact h.calComputeDone
  | calOfsWrite => exact h.calOfsWrite
  | calGainWrite => exact h.calGainWrite
  | refinPresentSet => exact h.refinPresentSet
  | refinLost => exact h.refinLost
  | pllLock => exact h.pllLock
  | ovnReady => exact h.ovnReady
  | ovnLeaveBand => exact h.ovnLeaveBand
  | domainEpochBoundary => exact h.domainEpochBoundary
  | syncSend => exact h.syncSend
  | syncRx => exact h.syncRx
  | delayReqSend => exact h.delayReqSend
  | delayReqRx => exact h.delayReqRx
  | delayRespRx => exact h.delayRespRx
  | masterSetGo => exact h.masterSetGo
  | slewEnd => exact h.slewEnd
  | toutArm => exact h.toutArm
  | toutDisarm => exact h.toutDisarm
  | toutInstance => exact h.toutInstance
  | toutPulseEnd => exact h.toutPulseEnd
  | claimRx => exact h.claimRx
  | claimHeld => exact h.claimHeld
  | idRetry => exact h.idRetry
  | pinGo => exact h.pinGo
  | pinRx => exact h.pinRx
  | pinNoTarget => exact h.pinNoTarget
  | frameRx => exact h.frameRx
  | lackRx => exact h.lackRx
  | lackSend => exact h.lackSend
  | replayTimeout => exact h.replayTimeout
  | capRx => exact h.capRx
  | advertRx => exact h.advertRx
  | routeExpire => exact h.routeExpire
  | nodeDepart => exact h.nodeDepart
  | routePinWrite => exact h.routePinWrite
  | reorderTimeout => exact h.reorderTimeout
  | treeRx => exact h.treeRx
  | hostCapBeacon => exact h.hostCapBeacon
  | logLineSend => exact h.logLineSend
  | beaconTimer => exact h.beaconTimer
  | silentBeacon => exact h.silentBeacon
  | signalDetect => exact h.signalDetect
  | cdrLock => exact h.cdrLock
  | blockLock => exact h.blockLock
  | trainTimeout => exact h.trainTimeout
  | lockTimeout => exact h.lockTimeout
  | exchangeTimeout => exact h.exchangeTimeout
  | readyRx => exact h.readyRx
  | lossOfSignal => exact h.lossOfSignal
  | losIdleEnd => exact h.losIdleEnd
  | laneLockLost => exact h.laneLockLost
  | laneRejoin => exact h.laneRejoin
  | downRx => exact h.downRx
  | takeoverOsRx => exact h.takeoverOsRx
  | tkoHoldExpire => exact h.tkoHoldExpire
  | lnkRetry => exact h.lnkRetry
  | lnkKnock => exact h.lnkKnock
  | knockDone => exact h.knockDone
  | lnkRejoin => exact h.lnkRejoin
  | lnkAdminDown => exact h.lnkAdminDown
  | lnkTestPrbs31 => exact h.lnkTestPrbs31
  | lnkTestOff => exact h.lnkTestOff
  | knockDetect => exact h.knockDetect
  | voteCast => exact h.voteCast
  | voteWithdraw => exact h.voteWithdraw
  | voteLeaseExpire => exact h.voteLeaseExpire
  | accessVoteExpire => exact h.accessVoteExpire
  | offDomainAccess => exact h.offDomainAccess
  | forceNone => exact h.forceNone
  | forceOn => exact h.forceOn
  | forceOff => exact h.forceOff
  | levelForceWrite => exact h.levelForceWrite
  | domainTransitionDone => exact h.domainTransitionDone
  | levelTransitionDone => exact h.levelTransitionDone
  | wakeTimerExpire => exact h.wakeTimerExpire
  | thermalTrip => exact h.thermalTrip
  | irqClaim => exact h.irqClaim
  | irqAck => exact h.irqAck
  | irqRaise => exact h.irqRaise
  | irqPop => exact h.irqPop
  | irqSrcWrite => exact h.irqSrcWrite
  | notifyRepeat => exact h.notifyRepeat
  | scrubStep => exact h.scrubStep
  | eccWindowEnd => exact h.eccWindowEnd
  | eccThrWrite => exact h.eccThrWrite
  | mirrorAck => exact h.mirrorAck
  | mirrorLost => exact h.mirrorLost
  | periodicSelftest => exact h.periodicSelftest
  | watchdogKick => exact h.watchdogKick
  | watchdogExpire => exact h.watchdogExpire
  | lockstepMismatch => exact h.lockstepMismatch
  | coreStall => exact h.coreStall
  | railFault => exact h.railFault
  | pairSwitch => exact h.pairSwitch
  | pairReinstate => exact h.pairReinstate
  | pairRetire => exact h.pairRetire
  | takeover => exact h.takeover
  | takeoverGapEnd => exact h.takeoverGapEnd
  | warmRebuildDone => exact h.warmRebuildDone
  | standbyFillDone => exact h.standbyFillDone
  | standbyCaughtUp => exact h.standbyCaughtUp
  | standbyRegRead => exact h.standbyRegRead
  | standbyWindowRead => exact h.standbyWindowRead
  | tstArmStretch => exact h.tstArmStretch
  | tstArmBackpress => exact h.tstArmBackpress
  | tstArmLane => exact h.tstArmLane
  | tstArmTime => exact h.tstArmTime
  | tstArmMemerr => exact h.tstArmMemerr
  | tstArmResidue => exact h.tstArmResidue
  | tstDisarmAll => exact h.tstDisarmAll
  | tstDurationEnd => exact h.tstDurationEnd
  | tstBpToggle => exact h.tstBpToggle
  | jtagBypass => exact h.jtagBypass
  | jtagSamplePreload => exact h.jtagSamplePreload
  | jtagExtest => exact h.jtagExtest
  | jtagIdcode => exact h.jtagIdcode
  | fastSampleInstant => exact h.fastSampleInstant
  | hostEthernetFrameRx => exact h.hostEthernetFrameRx
  | detectorArm => exact h.detectorArm
  | prbsLockGained => exact h.prbsLockGained
  | prbsLockLost => exact h.prbsLockLost
  | mirrorLinkRestored => exact h.mirrorLinkRestored
  | tapReset => exact h.tapReset
  | emBudgetAccumulate => exact h.emBudgetAccumulate
  | wearStoreUpdate => exact h.wearStoreUpdate

/-- Every step keeps the canonical form: a command by its act, a tick by `idle`. -/
theorem Block.Canon.afterStep {s t : State} (h : s.hw.Canon) (hstep : step s = .next t) : t.hw.Canon := by
  unfold step at hstep
  split at hstep
  next c l =>
    rw [exec_eq_act, onHw] at hstep
    split at hstep
    · cases hstep; exact h.act
    · cases hstep
  next => cases hstep; exact h.idle

end Sys2Proof.Machine

/-! PROOFS. The canonical form at reset and after every step. -/

namespace Sys2Proof.Proofs

open Sys2Proof Sys2Proof.Machine

/-- Settles O6, by computation: nothing is listed after reset. -/
theorem resetIsCanonical : Obligations.ResetIsCanonical := ⟨Memory.wf_nil, Memory.wf_nil, rfl, rfl⟩

/-- Settles O7: every command's act and the tick keep the canonical form, by one lemma for each operation of the model. -/
theorem stepsKeepCanonical : Obligations.StepsKeepCanonical := fun s t h hstep =>
  t.hw.canon_iff.1 (((s.hw.canon_iff).2 h).afterStep hstep)

end Sys2Proof.Proofs

/-! SUPPORT. A register write that is refused before it reaches its register, and a WRITE that is none. -/

namespace Sys2Proof.Machine

open Sys2Proof

/-- A write that the checks before a register refuse does nothing but what the refusal does. -/
theorem writeWord_of_refused {b : Block} {who : Requester} {addr : Nat} {r : Block × Status} (hwindow : inWindow addr = false)
    (haperture : apertureAt addr = none) (hrefuse : b.refuse who addr true = some r) (hok : (r.2 == .ok || r.2 == .tierLocked) = false)
    (w : Nat) : writeWord who addr w b = r := by
  have hpass : windowAccess who addr b = none := by simp [windowAccess, hwindow, haperture]
  simp [writeWord, hpass, guardedWrite, hrefuse, hok]

/-- A WRITE of one word that is taken up and refused: the refusal's effect and status, answered. -/
theorem exec_oneWordWrite_of_refused {a : Access} {addr : Nat} {s : State} {r : Block × Status} (hwf : a.wf = true) (hrange : addr < 2 ^ 40)
    (halign : addr % 4 = 0) (htakes : s.hw.takes a = true) (hmirror : s.hw.mirrorUp = false) (hwindow : inWindow addr = false)
    (haperture : apertureAt addr = none) (hrefuse : s.hw.refuse a.who addr true = some r)
    (hok : (r.2 == .ok || r.2 == .tierLocked) = false) (w : Word) :
    exec (.registerWrite a addr 1 [w] true) s = .next { s with hw := s.hw.finished a addr w.toNat r } := by
  rw [exec_oneWordWrite hwf hrange halign, submit_write_of_takes htakes (.inl hmirror),
    writeWord_of_refused hwindow haperture hrefuse hok]

theorem Block.refuse_of_unauthorised {b : Block} {who : Requester} (h : b.authorised who = false) (addr : Nat) :
    b.refuse who addr true = some (b.bump F.SYS_DENY_CNT, .accessDenied) := by
  simp [Block.refuse, h]

/-- An address of no register, outside every gated domain. -/
theorem Block.refuse_of_unmapped {b : Block} {who : Requester} {addr : Nat} (hauth : b.authorised who = true) (hwarren : who.isWarren = false)
    (hrow : regRow addr = none) (hdomain : domainAt addr = none) (wr : Bool) :
    b.refuse who addr wr = some (b.bump F.SYS_BADADDR, .noReg) := by
  simp [Block.refuse, hauth, hwarren, tierOAt, hrow, hdomain]

theorem offAccess_of_asleep {b : Block} {d : Nat} (h : b.flag (F.PWR_D_CTRL_WAKE_ON_ACCESS d) = false) :
    offAccess d b = (b.bump F.SYS_OFFACC, .domainOff) := by
  simp [offAccess, h]

/-- A tile whose domain is off and does not wake on access. -/
theorem Block.refuse_of_tileOff {b : Block} {who : Requester} {addr t : Nat} (hauth : b.authorised who = true) (hwarren : who.isWarren = false)
    (htierO : tierOAt addr = false) (htile : tileOf addr = some t) (hoff : b.get (F.PWR_D_STAT_STATE t) ≠ 2)
    (hwake : b.flag (F.PWR_D_CTRL_WAKE_ON_ACCESS t) = false) (wr : Bool) :
    b.refuse who addr wr = some (b.bump F.SYS_OFFACC, .domainOff) := by
  simp [Block.refuse, hauth, hwarren, htierO, domainAt, htile, hoff, offAccess_of_asleep hwake]

/-- The tiles' registers lie below the bulk window and the egress apertures (R22). -/
theorem tile_outside_windows {addr t : Nat} (h : tileOf addr = some t) : inWindow addr = false ∧ apertureAt addr = none := by
  have hbelow : addr < 0x300000 := by
    by_contra hge
    simp [tileOf, show ¬addr < 0x300000 from hge] at h
  constructor
  · simp [inWindow]; omega
  · simp [apertureAt]; omega

/-- A WRITE that R578 refuses is answered BAD_REQUEST with COUNT 0 and counted. -/
theorem submit_badWrite {b : Block} {a : Access} (h : b.takes a = true) (addr : Nat) :
    submit a (.bad 2 addr) b = (((b.bump F.SYS_BADREQ_CNT).reply a ⟨2, addr, 0, .badRequest, []⟩).actCritical b).flushMirror := by
  rw [submit, Block.arrive_of_takes h (by simp), Block.perform]

theorem writeRequest_bad {addr count : Nat} {data : List Nat} {zeroOk : Bool}
    (h : count = 0 ∨ 64 < count ∨ addr % 4 ≠ 0 ∨ data.length ≠ count ∨ zeroOk = false) :
    writeRequest addr count data zeroOk = .bad 2 addr := by
  rw [writeRequest, if_pos]
  simpa [or_assoc] using h

end Sys2Proof.Machine

namespace Sys2Proof.Proofs

open Sys2Proof Sys2Proof.Machine

/-- Settles O16: the first check that refuses a write gives its whole effect; a malformed WRITE reaches no check. -/
theorem refusedAccesses : Obligations.RefusedAccesses := by
  intro a addr w s hwf hrange htakes hmirror
  refine ⟨fun halign hwindow haperture hauth => ?_, fun halign hwindow haperture hauth hwarren hrow hdomain => ?_,
    fun t halign htile hauth hwarren htierO hoff hwake => ?_, fun count data zeroOk hcount hbad => ?_⟩
  · exact exec_oneWordWrite_of_refused hwf hrange halign htakes hmirror hwindow haperture (Block.refuse_of_unauthorised hauth addr) rfl w
  · exact exec_oneWordWrite_of_refused hwf hrange halign htakes hmirror hwindow haperture
      (Block.refuse_of_unmapped hauth hwarren hrow hdomain true) rfl w
  · obtain ⟨hwindow, haperture⟩ := tile_outside_windows htile
    exact exec_oneWordWrite_of_refused hwf hrange halign htakes hmirror hwindow haperture
      (Block.refuse_of_tileOff hauth hwarren htierO htile hoff hwake true) rfl w
  · rw [exec_registerWrite a addr count data zeroOk s (by simpa [Instr.wf, hwf] using ⟨hrange, hcount⟩), registerWrite,
      writeRequest_bad (by simpa using hbad), submit_badWrite htakes]

end Sys2Proof.Proofs

/-! SUPPORT. What the scrubber's step, the error records and a store leave of memory and of the counters. -/

namespace Sys2Proof.Machine

open Sys2Proof

@[simp] theorem Block.memErr_dram (b : Block) (a n : Nat) : (b.memErr a n).dram = b.dram := by
  unfold Block.memErr; dsimp only; split <;> rfl

/-- A byte reads back what the last store over it wrote there. -/
theorem Block.readByte_store (b : Block) (a : Nat) (v : List Nat) (x : Nat) :
    readByte (b.store a v).dram x = if a ≤ x ∧ x < a + v.length then v.getD (x - a) 0 % 256 else readByte b.dram x := by
  simp only [Block.store, Block.memErr_dram]
  split
  case isTrue h =>
    have hlt : x - a < v.length := by omega
    have hin := readByte_writeBytes_inside v b.dram a (x - a) hlt
    rw [show a + (x - a) = x by omega] at hin
    rw [hin, List.getD_eq_getElem _ _ hlt]
  case isFalse h => exact readByte_writeBytes_outside v b.dram a x (by omega)

/-! ### The scrubber moves on -/

@[simp] theorem Block.scrubNext_dram (b : Block) : b.scrubNext.dram = b.dram := by
  unfold Block.scrubNext; dsimp only; split_ifs <;> rfl

@[simp] theorem Block.scrubNext_poison (b : Block) : b.scrubNext.poison = b.poison := by
  unfold Block.scrubNext; dsimp only; split_ifs <;> rfl

/-- Only the scrubber's position and its count of passes change. -/
theorem Block.get_scrubNext_other {b : Block} {f : Field} (hlo : f.key ≠ F.ECC_SCRUB_POS_LO.key) (hhi : f.key ≠ F.ECC_SCRUB_POS_HI.key)
    (hpasses : f.key ≠ F.ECC_SCRUB_PASSES.key) : b.scrubNext.get f = b.get f := by
  unfold Block.scrubNext
  generalize b.scrubPos + 8 = a
  dsimp only
  generalize (if a = sramEnd then dramBase else a) = a1
  split
  · rw [Block.bump, Block.bumpBy, Block.get_put_other _ _ _ _ hpasses, Block.get_put_other _ _ _ _ hhi, Block.get_put_other _ _ _ _ hlo]
  · rw [Block.get_put_other _ _ _ _ hhi, Block.get_put_other _ _ _ _ hlo]

/-- A word with no upset passes the check as it is. -/
theorem Block.check_of_sound {b : Block} {w : Nat} (h : lookup b.ecc.upsets w = none) : b.check w = b := by
  simp [Block.check, h]

/-- A word that is sound and not poisoned takes the upset it meets. -/
theorem Block.upset_of_sound {b : Block} {w : Nat} (hpoison : lookup b.poison w = none) (hsound : lookup b.ecc.upsets w = none) (u : Upset) :
    b.upset w (some u) = { b with ecc := { b.ecc with upsets := insertKey b.ecc.upsets w u } } := by
  simp [Block.upset, hpoison, hsound, modifyKey]

/-- No act on a failure that is not new. -/
theorem Block.actCritical_of_same {b before : Block} (h : b.get F.ECC_STAT_CRITICAL = before.get F.ECC_STAT_CRITICAL) :
    b.actCritical before = b := by
  have hflag : b.flag F.ECC_STAT_CRITICAL = before.flag F.ECC_STAT_CRITICAL := by simp only [Block.flag, h]
  simp [Block.actCritical, hflag]

/-! ### A corrected error -/

@[simp] theorem Block.wearCorr_regs (b : Block) (r : Nat) : (b.wearCorr r).regs = b.regs := by unfold Block.wearCorr; split <;> rfl
@[simp] theorem Block.wearCorr_dram (b : Block) (r : Nat) : (b.wearCorr r).dram = b.dram := by unfold Block.wearCorr; split <;> rfl
@[simp] theorem Block.wearCorr_poison (b : Block) (r : Nat) : (b.wearCorr r).poison = b.poison := by unfold Block.wearCorr; split <;> rfl

@[simp] theorem Block.countWindow_regs (b : Block) (r : Nat) : (b.countWindow r).regs = b.regs := by
  unfold Block.countWindow; dsimp only; split <;> [rfl; split <;> rfl]
@[simp] theorem Block.countWindow_dram (b : Block) (r : Nat) : (b.countWindow r).dram = b.dram := by
  unfold Block.countWindow; dsimp only; split <;> [rfl; split <;> rfl]
@[simp] theorem Block.countWindow_poison (b : Block) (r : Nat) : (b.countWindow r).poison = b.poison := by
  unfold Block.countWindow; dsimp only; split <;> [rfl; split <;> rfl]

@[simp] theorem Block.corrected_dram (b : Block) (r a pos : Nat) : (b.corrected r a pos).dram = b.dram := by simp [Block.corrected]
@[simp] theorem Block.corrected_poison (b : Block) (r a pos : Nat) : (b.corrected r a pos).poison = b.poison := by simp [Block.corrected]

/-- The keys of the error status fields: below every region's counters. -/
theorem eccStatus_key_lt : ∀ f ∈ [F.ECC_STAT_CRITICAL, F.ECC_STAT_LAST_UNC_REGION, F.ECC_STAT_LAST_CORR_REGION, F.ECC_SCRUB_POS_LO,
    F.ECC_SCRUB_POS_HI, F.ECC_SCRUB_PASSES, F.ECC_LAST_CORR_LO, F.ECC_LAST_CORR_HI_DRAM, F.ECC_LAST_CORR_HI_POSITION,
    F.ECC_LAST_CORR_HI_ADDR_HI, F.ECC_LAST_UNC_LO, F.ECC_LAST_UNC_HI], f.key < 0xf0100 * 32 := by decide

theorem corrCnt_key_ge (r : Nat) : 0xf0100 * 32 ≤ (F.ECC_R_CORR_CNT r).key := by simp [Field.key]; omega
theorem uncCnt_key_ge (r : Nat) : 0xf0100 * 32 ≤ (F.ECC_R_UNC_CNT r).key := by simp [Field.key]; omega

/-- What a corrected error writes besides its region's counter are status fields. -/
theorem Block.get_corrected {b : Block} {r a pos : Nat} {f : Field}
    (h : ∀ g ∈ [F.ECC_STAT_LAST_CORR_REGION, F.ECC_LAST_CORR_LO, F.ECC_LAST_CORR_HI_DRAM, F.ECC_LAST_CORR_HI_POSITION,
      F.ECC_LAST_CORR_HI_ADDR_HI], f.key ≠ g.key) : (b.corrected r a pos).get f = (b.bump (F.ECC_R_CORR_CNT r)).get f := by
  simp only [List.forall_mem_cons] at h
  obtain ⟨hregion, hlo, hdram, hposition, haddr, -⟩ := h
  have hwear : ((b.wearCorr r).bump (F.ECC_R_CORR_CNT r)).get f = (b.bump (F.ECC_R_CORR_CNT r)).get f := by
    simp [Block.get, Block.bump, Block.bumpBy, Block.put]
  rw [Block.corrected, Block.get_of_regs (Block.countWindow_regs _ _), Block.putB, Block.get_put_other _ _ _ _ hdram,
    Block.get_put_other _ _ _ _ hposition, Block.get_put_other _ _ _ _ haddr, Block.get_put_other _ _ _ _ hlo,
    Block.get_put_other _ _ _ _ hregion, hwear]

/-! ### An uncorrected error in a region that is not critical -/

/-- The word is marked poisoned; its bytes are the only ones that change. -/
theorem Block.readByte_poisonWord {b : Block} {w : Nat} {u : Upset} {x : Nat} (h : x < w * 8 ∨ w * 8 + 8 ≤ x) :
    readByte (b.poisonWord w u).dram x = readByte b.dram x := by
  unfold Block.poisonWord
  dsimp only [Block.mark]
  split
  · exact readByte_writeBytes_outside _ _ _ _ (by simpa [leBytes] using h)
  · rfl

theorem Block.lookup_poison_poisonWord (b : Block) (w : Nat) (u : Upset) : lookup (b.poisonWord w u).poison w = some () := by
  simp [Block.poisonWord, Block.mark]

@[simp] theorem Block.poisonWord_regs (b : Block) (w : Nat) (u : Upset) : (b.poisonWord w u).regs = b.regs := by
  unfold Block.poisonWord; dsimp only [Block.mark]; split <;> rfl

@[simp] theorem Block.uncorrected_dram (b : Block) (r a : Nat) : (b.uncorrected r a).dram = b.dram := by
  unfold Block.uncorrected; dsimp only; split <;> rfl
@[simp] theorem Block.uncorrected_poison (b : Block) (r a : Nat) : (b.uncorrected r a).poison = b.poison := by
  unfold Block.uncorrected; dsimp only; split <;> rfl

/-- What an uncorrected error writes besides its region's counter are status fields, CRITICAL not among them. -/
theorem Block.get_uncorrected {b : Block} {r a : Nat} {f : Field} (hcritical : critical r = false)
    (h : ∀ g ∈ [F.ECC_STAT_LAST_UNC_REGION, F.ECC_LAST_UNC_LO, F.ECC_LAST_UNC_HI], f.key ≠ g.key) :
    (b.uncorrected r a).get f = (b.bump (F.ECC_R_UNC_CNT r)).get f := by
  simp only [List.forall_mem_cons] at h
  obtain ⟨hregion, hlo, hhi, -⟩ := h
  simp only [Block.uncorrected, hcritical, Bool.false_eq_true, if_false]
  rw [Block.get_of_regs (Block.raise_regs _ _ _), Block.get_put_other _ _ _ _ hhi, Block.get_put_other _ _ _ _ hlo,
    Block.get_put_other _ _ _ _ hregion]

/-! ### One step of the active concentrator's scrubber -/

/-- The word under the scrubber, with the upset found there. -/
def Block.scrubbed (b : Block) (u : Option Upset) : Block := (b.upset (b.scrubPos / 8) u).check (b.scrubPos / 8)

theorem exec_scrubStep_active {s : State} {addr pos : Nat} (haddr : addr < 2 ^ 40) (hpos : pos < 72) (hon : s.hw.ccOn = true)
    (hphase : s.hw.phase ≠ .fill) (hen : s.hw.flag F.ECC_SCRUB_EN = true) (upset double : Bool) :
    exec (.scrubStep 0 addr upset double pos) s = .next { s with hw :=
      (s.hw.scrubbed (if upset then some ⟨pos, double⟩ else none)).scrubNext.actCritical s.hw } := by
  have hdue : (s.hw.ccOn && s.hw.flag F.ECC_SCRUB_EN && s.hw.phase != .fill) = true := by simp [hon, hen, hphase]
  rw [exec_scrubStep _ _ _ _ _ _ (by simp [Instr.wf]; omega), scrubStep, if_pos rfl, hdue, whenDue_true]
  rfl

theorem exec_scrubStep_off {s : State} {addr pos : Nat} (haddr : addr < 2 ^ 40) (hpos : pos < 72) (hen : s.hw.flag F.ECC_SCRUB_EN = false)
    (upset double : Bool) : exec (.scrubStep 0 addr upset double pos) s = .next s := by
  have hdue : (s.hw.ccOn && s.hw.flag F.ECC_SCRUB_EN && s.hw.phase != .fill) = false := by simp [hen]
  rw [exec_scrubStep _ _ _ _ _ _ (by simp [Instr.wf]; omega), scrubStep, if_pos rfl, hdue, whenDue_false]

/-- The word under the scrubber without its upset, which the check takes out before it acts on it. -/
theorem Block.scrubbed_single {b : Block} (hpoison : lookup b.poison (b.scrubPos / 8) = none)
    (hsound : lookup b.ecc.upsets (b.scrubPos / 8) = none) (pos : Nat) :
    ∃ c : Block, b.scrubbed (some ⟨pos, false⟩) = c.corrected (regionOf (b.scrubPos / 8 * 8)) (b.scrubPos / 8 * 8) pos ∧
      c.regs = b.regs ∧ c.dram = b.dram ∧ c.poison = b.poison := by
  refine ⟨{ b with ecc := { b.ecc with
    upsets := eraseKey (insertKey b.ecc.upsets (b.scrubPos / 8) ⟨pos, false⟩) (b.scrubPos / 8) } }, ?_, rfl, rfl, rfl⟩
  rw [Block.scrubbed, Block.upset_of_sound hpoison hsound, Block.check, lookup_insertKey_same]
  rfl

theorem Block.scrubbed_double {b : Block} (hpoison : lookup b.poison (b.scrubPos / 8) = none)
    (hsound : lookup b.ecc.upsets (b.scrubPos / 8) = none) (pos : Nat) :
    ∃ c : Block, b.scrubbed (some ⟨pos, true⟩) =
        (c.poisonWord (b.scrubPos / 8) ⟨pos, true⟩).uncorrected (regionOf (b.scrubPos / 8 * 8)) (b.scrubPos / 8 * 8) ∧
      c.regs = b.regs ∧ c.dram = b.dram := by
  refine ⟨{ b with ecc := { b.ecc with
    upsets := eraseKey (insertKey b.ecc.upsets (b.scrubPos / 8) ⟨pos, true⟩) (b.scrubPos / 8) } }, ?_, rfl, rfl⟩
  rw [Block.scrubbed, Block.upset_of_sound hpoison hsound, Block.check, lookup_insertKey_same]
  rfl

end Sys2Proof.Machine

namespace Sys2Proof.Machine

open Sys2Proof

/-- Field keys of two rows at different places. -/
theorem corrCnt_key_ne {r : Nat} {g : Field} (h : g.key < 0xf0100 * 32) : (F.ECC_R_CORR_CNT r).key ≠ g.key := by
  have := corrCnt_key_ge r
  omega

theorem uncCnt_key_ne {r : Nat} {g : Field} (h : g.key < 0xf0100 * 32) : (F.ECC_R_UNC_CNT r).key ≠ g.key := by
  have := uncCnt_key_ge r
  omega

theorem Block.get_bump_other {b : Block} {f g : Field} (h : g.key ≠ f.key) : (b.bump f).get g = b.get g :=
  Block.get_put_other _ _ _ _ h

/-- With no upset the scrubber only moves on. -/
theorem exec_scrubStep_sound {s : State} {addr pos : Nat} (haddr : addr < 2 ^ 40) (hpos : pos < 72) (hon : s.hw.ccOn = true)
    (hphase : s.hw.phase ≠ .fill) (hen : s.hw.flag F.ECC_SCRUB_EN = true) (hsound : lookup s.hw.ecc.upsets (s.hw.scrubPos / 8) = none)
    (double : Bool) : exec (.scrubStep 0 addr false double pos) s = .next { s with hw := s.hw.scrubNext } := by
  have hsame : s.hw.scrubbed none = s.hw := Block.check_of_sound hsound
  rw [exec_scrubStep_active haddr hpos hon hphase hen, if_neg Bool.false_ne_true, hsame,
    Block.actCritical_of_same (Block.get_scrubNext_other (by decide) (by decide) (by decide))]

theorem exec_scrubStep_single {s : State} {addr pos : Nat} (haddr : addr < 2 ^ 40) (hpos : pos < 72) (hon : s.hw.ccOn = true)
    (hphase : s.hw.phase ≠ .fill) (hen : s.hw.flag F.ECC_SCRUB_EN = true) (hpoison : lookup s.hw.poison (s.hw.scrubPos / 8) = none)
    (hsound : lookup s.hw.ecc.upsets (s.hw.scrubPos / 8) = none) :
    ∃ c, exec (.scrubStep 0 addr true false pos) s = .next { s with hw := c } ∧ c.dram = s.hw.dram ∧ c.poison = s.hw.poison ∧
      c.get (F.ECC_R_CORR_CNT (regionOf (s.hw.scrubPos / 8 * 8))) =
        satU 32 (s.hw.get (F.ECC_R_CORR_CNT (regionOf (s.hw.scrubPos / 8 * 8))) + 1) := by
  obtain ⟨c, hstep, hregs, hdram, hpoison'⟩ := Block.scrubbed_single hpoison hsound pos
  have hkeys := eccStatus_key_lt
  simp only [List.forall_mem_cons] at hkeys
  obtain ⟨hcritical, hunc, hcorr, hlo, hhi, hpasses, hclo, hcdram, hcpos, hchi, -⟩ := hkeys
  generalize regionOf (s.hw.scrubPos / 8 * 8) = r at *
  have hcrit : (c.corrected r (s.hw.scrubPos / 8 * 8) pos).scrubNext.get F.ECC_STAT_CRITICAL = s.hw.get F.ECC_STAT_CRITICAL := by
    rw [Block.get_scrubNext_other (by decide) (by decide) (by decide), Block.get_corrected (by decide),
      Block.get_bump_other (corrCnt_key_ne hcritical).symm, Block.get_of_regs hregs]
  refine ⟨(c.corrected r (s.hw.scrubPos / 8 * 8) pos).scrubNext, ?_, by simpa using hdram, by simpa using hpoison', ?_⟩
  · rw [exec_scrubStep_active haddr hpos hon hphase hen, if_pos rfl, hstep, Block.actCritical_of_same hcrit]
  · have hstatus : ∀ g ∈ [F.ECC_STAT_LAST_CORR_REGION, F.ECC_LAST_CORR_LO, F.ECC_LAST_CORR_HI_DRAM, F.ECC_LAST_CORR_HI_POSITION,
        F.ECC_LAST_CORR_HI_ADDR_HI], (F.ECC_R_CORR_CNT r).key ≠ g.key := fun g hg =>
      corrCnt_key_ne (eccStatus_key_lt g (by revert g; decide))
    rw [Block.get_scrubNext_other (corrCnt_key_ne hlo) (corrCnt_key_ne hhi) (corrCnt_key_ne hpasses),
      Block.get_corrected hstatus, Block.get_bump_same, Block.get_of_regs hregs]

theorem exec_scrubStep_double {s : State} {addr pos : Nat} (haddr : addr < 2 ^ 40) (hpos : pos < 72) (hon : s.hw.ccOn = true)
    (hphase : s.hw.phase ≠ .fill) (hen : s.hw.flag F.ECC_SCRUB_EN = true) (hpoison : lookup s.hw.poison (s.hw.scrubPos / 8) = none)
    (hsound : lookup s.hw.ecc.upsets (s.hw.scrubPos / 8) = none) (hregion : critical (regionOf (s.hw.scrubPos / 8 * 8)) = false) :
    ∃ c, exec (.scrubStep 0 addr true true pos) s = .next { s with hw := c } ∧ lookup c.poison (s.hw.scrubPos / 8) = some () ∧
      c.get (F.ECC_R_UNC_CNT (regionOf (s.hw.scrubPos / 8 * 8))) =
        satU 32 (s.hw.get (F.ECC_R_UNC_CNT (regionOf (s.hw.scrubPos / 8 * 8))) + 1) ∧
      ∀ x, (x < s.hw.scrubPos / 8 * 8 ∨ s.hw.scrubPos / 8 * 8 + 8 ≤ x) → readByte c.dram x = readByte s.hw.dram x := by
  obtain ⟨c, hstep, hregs, hdram⟩ := Block.scrubbed_double hpoison hsound pos
  have hkeys := eccStatus_key_lt
  simp only [List.forall_mem_cons] at hkeys
  obtain ⟨hcritical, hunc, hcorr, hlo, hhi, hpasses, -⟩ := hkeys
  generalize regionOf (s.hw.scrubPos / 8 * 8) = r at *
  generalize hp : c.poisonWord (s.hw.scrubPos / 8) ⟨pos, true⟩ = p at *
  have hpregs : p.regs = s.hw.regs := by rw [← hp, Block.poisonWord_regs, hregs]
  have hcrit : (p.uncorrected r (s.hw.scrubPos / 8 * 8)).scrubNext.get F.ECC_STAT_CRITICAL = s.hw.get F.ECC_STAT_CRITICAL := by
    rw [Block.get_scrubNext_other (by decide) (by decide) (by decide), Block.get_uncorrected hregion (by decide),
      Block.get_bump_other (uncCnt_key_ne hcritical).symm, Block.get_of_regs hpregs]
  refine ⟨(p.uncorrected r (s.hw.scrubPos / 8 * 8)).scrubNext, ?_, ?_, ?_, fun x hx => ?_⟩
  · rw [exec_scrubStep_active haddr hpos hon hphase hen, if_pos rfl, hstep, Block.actCritical_of_same hcrit]
  · rw [Block.scrubNext_poison, Block.uncorrected_poison, ← hp, Block.lookup_poison_poisonWord]
  · have hstatus : ∀ g ∈ [F.ECC_STAT_LAST_UNC_REGION, F.ECC_LAST_UNC_LO, F.ECC_LAST_UNC_HI], (F.ECC_R_UNC_CNT r).key ≠ g.key :=
      fun g hg => uncCnt_key_ne (eccStatus_key_lt g (by revert g; decide))
    rw [Block.get_scrubNext_other (uncCnt_key_ne hlo) (uncCnt_key_ne hhi) (uncCnt_key_ne hpasses),
      Block.get_uncorrected hregion hstatus, Block.get_bump_same, Block.get_of_regs hpregs]
  · rw [Block.scrubNext_dram, Block.uncorrected_dram, ← hp, Block.readByte_poisonWord hx, hdram]

/-! ### A write of a region's threshold -/

theorem eccWindow_region_lt {r : Nat} (h : Instr.wf (.eccWindowEnd r) = true) : r < 0x70 := by
  simp [Instr.wf] at h
  omega

theorem domainAt_eccThr {r : Nat} (h : r < 0x70) : domainAt (0xf0108 + 0x10 * r) = none := by
  have htile : tileOf (0xf0108 + 0x10 * r) = none := by rw [tileOf, if_neg (by simp; omega)]
  simp [domainAt, htile]
  omega

@[simp] theorem Block.writeBit_ecc (b : Block) (addr w : Nat) (x : RegBit) : (b.writeBit addr w x).ecc = b.ecc := by
  unfold Block.writeBit; dsimp only; split <;> rfl

@[simp] theorem Block.writeFields_ecc (b : Block) (addr w : Nat) : (b.writeFields addr w).ecc = b.ecc := by
  unfold Block.writeFields
  split
  · exact List.foldlRecOn (motive := fun c : Block => c.ecc = b.ecc) _ _ rfl fun c hc x _ => (c.writeBit_ecc addr w x).trans hc
  · rfl

/-- Besides the fields, a threshold's write begins its region's window anew where windows run at all. -/
theorem eccThrOp_eq (r w : Nat) (b : Block) : eccThrOp r w b =
    (if b.ecc.windows = [] then b.writeFields (0xf0108 + 0x10 * r) w else (b.writeFields (0xf0108 + 0x10 * r) w).newWindow r b.tick, .ok) := by
  simp [eccThrOp, Nat.mul_comm]

end Sys2Proof.Machine

namespace Sys2Proof.Proofs

open Sys2Proof Sys2Proof.Machine

/-- Settles O52: the store and the registers by their tables' rules, the scrubber's step by what its word holds, the windows by their bounds. -/
theorem memoryAndScrub : Obligations.MemoryAndScrub := by
  refine ⟨Block.readByte_store, fun b f g v => ⟨Block.get_put_same b f v, fun h => Block.get_put_other b f g v h.symm⟩,
    fun s addr pos double haddr hpos hon hphase => ⟨fun hen => exec_scrubStep_off haddr hpos hen _ _, fun hen hpoison hsound =>
      ⟨exec_scrubStep_sound haddr hpos hon hphase hen hsound double, ?_, fun hregion => ?_⟩⟩,
    fun s r hwf => ⟨fun w hw => ⟨fun hdue => ?_, fun hdue => ?_⟩, fun hw => ?_, fun a w hawf hacts => ?_⟩⟩
  · obtain ⟨c, hexec, hc⟩ := exec_scrubStep_single haddr hpos hon hphase hen hpoison hsound
    exact ⟨_, hexec, rfl, hc⟩
  · obtain ⟨c, hexec, hc⟩ := exec_scrubStep_double haddr hpos hon hphase hen hpoison hsound hregion
    exact ⟨_, hexec, rfl, hc⟩
  · rw [exec_eccWindowEnd r s hwf, eccWindowEnd, hw]
    simp only [decide_eq_true hdue, whenDue_true]
  · rw [exec_eccWindowEnd r s hwf, eccWindowEnd, hw]
    simp only [decide_eq_false (not_le.2 hdue), whenDue_false]
  · rw [exec_eccWindowEnd r s hwf, eccWindowEnd, hw]
  · rw [exec_eccThrWrite a r w s (by simpa [Instr.wf, hawf] using hwf), eccThrWrite, submit_of_acts hacts,
      regOp_eccThr _ (eccWindow_region_lt hwf), Block.touched_of_none _ _ (domainAt_eccThr (eccWindow_region_lt hwf)), plainOp, eccThrOp_eq]

end Sys2Proof.Proofs

/-! SUPPORT. Floods, claims and pins: what they leave of the registers, the memory and the claims. -/

namespace Sys2Proof.Machine

open Sys2Proof

/-- A value that fits its field reads back as it was put. -/
theorem Block.get_put_of_lt {b : Block} {f : Field} {v : Nat} (h : v < 2 ^ f.width) : (b.put f v).get f = v := by
  rw [Block.get_put_same, Nat.mod_eq_of_lt h]

/-! ### Posting on every port -/

/-- What no posted message changes, a message posted on each port of a list does not change. -/
theorem foldl_post_keep {β : Type} {g : Block → β} (hg : ∀ b d k m, g (b.post d k m) = g b) (msg : Block → Nat → Msg) (l : List Nat)
    (b : Block) : g (l.foldl (fun c p => c.post (.link p) 4 (msg c p)) b) = g b :=
  List.foldlRecOn (motive := fun c : Block => g c = g b) _ _ rfl fun c hc _ _ => (hg c _ _ _).trans hc

@[simp] theorem Block.flood_regs (b : Block) (p : Option Nat) (m : Msg) : (b.flood p m).regs = b.regs :=
  foldl_post_keep (g := Block.regs) (fun _ _ _ _ => rfl) _ _ b
@[simp] theorem Block.flood_fab (b : Block) (p : Option Nat) (m : Msg) : (b.flood p m).fab = b.fab :=
  foldl_post_keep (g := Block.fab) (fun _ _ _ _ => rfl) _ _ b
@[simp] theorem Block.flood_dram (b : Block) (p : Option Nat) (m : Msg) : (b.flood p m).dram = b.dram :=
  foldl_post_keep (g := Block.dram) (fun _ _ _ _ => rfl) _ _ b
@[simp] theorem Block.flood_reseat (b : Block) (p : Option Nat) (m : Msg) : (b.flood p m).reseat = b.reseat :=
  foldl_post_keep (g := Block.reseat) (fun _ _ _ _ => rfl) _ _ b
@[simp] theorem Block.flood_get (b : Block) (p : Option Nat) (m : Msg) (f : Field) : (b.flood p m).get f = b.get f :=
  Block.get_of_regs (b.flood_regs p m) f

@[simp] theorem Block.sendCaps_regs (b : Block) : b.sendCaps.regs = b.regs :=
  foldl_post_keep (g := Block.regs) (fun _ _ _ _ => rfl) (fun c p => .cap (c.capOf p)) _ b
@[simp] theorem Block.sendCaps_fab (b : Block) : b.sendCaps.fab = b.fab :=
  foldl_post_keep (g := Block.fab) (fun _ _ _ _ => rfl) (fun c p => .cap (c.capOf p)) _ b
@[simp] theorem Block.sendCaps_dram (b : Block) : b.sendCaps.dram = b.dram :=
  foldl_post_keep (g := Block.dram) (fun _ _ _ _ => rfl) (fun c p => .cap (c.capOf p)) _ b
@[simp] theorem Block.sendCaps_reseat (b : Block) : b.sendCaps.reseat = b.reseat :=
  foldl_post_keep (g := Block.reseat) (fun _ _ _ _ => rfl) (fun c p => .cap (c.capOf p)) _ b
@[simp] theorem Block.sendCaps_get (b : Block) (f : Field) : b.sendCaps.get f = b.get f := Block.get_of_regs b.sendCaps_regs f

/-! ### A claim meets a pending pin -/

@[simp] theorem Block.pinMeets_dram (b : Block) (m : ClaimMsg) : (b.pinMeets m).dram = b.dram := by
  unfold Block.pinMeets; split <;> [rfl; (split_ifs <;> rfl)]
@[simp] theorem Block.pinMeets_reseat (b : Block) (m : ClaimMsg) : (b.pinMeets m).reseat = b.reseat := by
  unfold Block.pinMeets; split <;> [rfl; (split_ifs <;> rfl)]
@[simp] theorem Block.pinMeets_claim (b : Block) (m : ClaimMsg) : (b.pinMeets m).fab.claim = b.fab.claim := by
  unfold Block.pinMeets; split <;> [rfl; (split_ifs <;> rfl)]

/-- RESULT is the only field that a claim changes at the module that waits for it. -/
theorem Block.get_pinMeets {b : Block} {m : ClaimMsg} {f : Field} (h : f.key ≠ F.FAB_PIN_RESULT.key) :
    (b.pinMeets m).get f = b.get f := by
  unfold Block.pinMeets
  split
  case h_1 => rfl
  case h_2 j _ =>
    split_ifs
    · exact Block.get_put_other b _ _ 2 h
    · exact Block.get_put_other b _ _ 3 h
    · rfl
    · rfl

/-- The target's HELD claim of the ID pinned to it ends the pinning. -/
theorem Block.pinMeets_of_target {b : Block} {m : ClaimMsg} {j : PinJob} (hpin : b.fab.pin = some j) (hheld : m.held = true)
    (hnode : m.node = j.node) (hserial : m.serial = j.serial) :
    b.pinMeets m = { b.put F.FAB_PIN_RESULT 2 with fab := { b.fab with pin := none } } := by
  simp [Block.pinMeets, hpin, hheld, hnode, hserial]

@[simp] theorem Block.floodClaim_dram (b : Block) (kind node : Nat) (held : Bool) : (b.floodClaim kind node held).dram = b.dram := by
  simp [Block.floodClaim, Block.remember, Block.nextFlood]
@[simp] theorem Block.floodClaim_reseat (b : Block) (kind node : Nat) (held : Bool) : (b.floodClaim kind node held).reseat = b.reseat := by
  simp [Block.floodClaim, Block.remember, Block.nextFlood]
@[simp] theorem Block.floodClaim_claim (b : Block) (kind node : Nat) (held : Bool) :
    (b.floodClaim kind node held).fab.claim = b.fab.claim := by
  simp [Block.floodClaim, Block.remember, Block.nextFlood]
theorem Block.get_floodClaim {b : Block} {kind node : Nat} {held : Bool} {f : Field} (h : f.key ≠ F.FAB_PIN_RESULT.key) :
    (b.floodClaim kind node held).get f = b.get f := by
  rw [Block.floodClaim, Block.get_pinMeets h, Block.flood_get]
  rfl

/-- The own HELD claim of the ID pinned to this module ends the pinning here. -/
theorem Block.floodClaim_of_target {b : Block} {kind node : Nat} {j : PinJob} (hpin : b.fab.pin = some j) (hnode : node = j.node)
    (hserial : b.serial = j.serial) : (b.floodClaim kind node true).get F.FAB_PIN_RESULT = 2 ∧ (b.floodClaim kind node true).fab.pin = none := by
  rw [Block.floodClaim, Block.pinMeets_of_target (j := j) (by simpa [Block.remember, Block.nextFlood] using hpin) rfl hnode hserial]
  exact ⟨Block.get_put_same (Block.flood _ none (.claim _)) F.FAB_PIN_RESULT 2, rfl⟩

/-! ### A claim is held -/

/-- The routes' FWD_SELF bits lie above the identity and the fabric's status. -/
theorem fwdSelf_key_ne {d : Nat} {g : Field} (h : g.key < 0xd8000 * 32) : g.key ≠ (F.FAB_RT_FWD_SELF d).key := by
  simp [Field.key] at *
  omega

/-- What a claim's success leaves: the ID, valid and with the claim's kind, and no claim. -/
theorem Block.get_holdId {b : Block} {c : OwnClaim} {f : Field} (h : f.key ≠ F.FAB_PIN_RESULT.key) :
    (b.holdId c).get f = (((((((b.put (F.FAB_RT_FWD_SELF (b.get F.IDN_NODE_NODE_ID)) 0).put F.IDN_NODE_NODE_ID c.node).put
      F.IDN_NODE_NODE_VALID 1).put F.IDN_NODE_NODE_SRC c.kind).put (F.FAB_RT_FWD_SELF c.node) 1).put F.FAB_STAT_CLAIMING 0).put
      F.FAB_STAT_ID_REFUSED 0).get f := by
  rw [Block.holdId, Block.sendCaps_get, Block.get_floodClaim h]
  rfl

theorem Block.holdId_holds (b : Block) {c : OwnClaim} (hnode : c.node < 4096) (hkind : c.kind < 3) :
    (b.holdId c).get F.IDN_NODE_NODE_ID = c.node ∧ (b.holdId c).get F.IDN_NODE_NODE_VALID = 1 ∧
      (b.holdId c).get F.IDN_NODE_NODE_SRC = c.kind ∧ (b.holdId c).get F.FAB_STAT_CLAIMING = 0 := by
  have hroute (g : Field) (hg : g.key < 0xd8000 * 32) (e : Block) (d v : Nat) : (e.put (F.FAB_RT_FWD_SELF d) v).get g = e.get g :=
    Block.get_put_other _ _ _ _ (fwdSelf_key_ne hg)
  have hother (e : Block) (f g : Field) (v : Nat) (h : g.key ≠ f.key) : (e.put f v).get g = e.get g := Block.get_put_other e f g v h
  rw [Block.get_holdId (by decide), Block.get_holdId (by decide), Block.get_holdId (by decide), Block.get_holdId (by decide)]
  refine ⟨?_, ?_, ?_, ?_⟩
  · rw [hother _ _ _ _ (by decide), hother _ _ _ _ (by decide), hroute _ (by decide), hother _ _ _ _ (by decide),
      hother _ _ _ _ (by decide), Block.get_put_of_lt hnode]
  · rw [hother _ _ _ _ (by decide), hother _ _ _ _ (by decide), hroute _ (by decide), hother _ _ _ _ (by decide),
      Block.get_put_of_lt (by decide)]
  · rw [hother _ _ _ _ (by decide), hother _ _ _ _ (by decide), hroute _ (by decide),
      Block.get_put_of_lt (by simp; omega)]
  · rw [hother _ _ _ _ (by decide), Block.get_put_of_lt (by decide)]

@[simp] theorem Block.holdId_claim (b : Block) (c : OwnClaim) : (b.holdId c).fab.claim = none := by simp [Block.holdId]
@[simp] theorem Block.holdId_reseat (b : Block) (c : OwnClaim) : (b.holdId c).reseat = (b.reseat || c.kind == 2) := by simp [Block.holdId]
@[simp] theorem Block.holdId_dram (b : Block) (c : OwnClaim) : (b.holdId c).dram = b.dram := by simp [Block.holdId]

/-! ### A GO of FAB_PIN -/

@[simp] theorem Block.pinned_dram (b : Block) (node : Nat) : (b.pinned node).dram = b.dram := by
  unfold Block.pinned
  split_ifs
  · exact b.floodClaim_dram _ _ _
  · split <;> [(split_ifs <;> rfl); rfl]

/-- At a module that does not hold the ID, a pin changes no field but CLAIMING. -/
theorem Block.get_pinned_of_not_self {b : Block} {node : Nat} {f : Field} (hself : b.isSelf node = false)
    (h : f.key ≠ F.FAB_STAT_CLAIMING.key) : (b.pinned node).get f = b.get f := by
  rw [Block.pinned, hself, if_neg Bool.false_ne_true]
  split
  case h_1 c _ => split_ifs <;> [rfl; exact Block.get_put_other b _ _ 1 h]
  case h_2 => exact Block.get_put_other b _ _ 1 h

/-- A pin begins a claim and leaves the pinning that this module waits for. -/
theorem Block.pinned_pin_of_not_self {b : Block} {node : Nat} (hself : b.isSelf node = false) : (b.pinned node).fab.pin = b.fab.pin := by
  rw [Block.pinned, hself, if_neg Bool.false_ne_true]
  split
  case h_1 c _ => split_ifs <;> rfl
  case h_2 => rfl

/-- The pinning under way after a GO: NODE and RESULT written, the PIN flooded, the wait begun. -/
def Block.pinSent (b : Block) (node : Nat) : Block :=
  let ser := b.get64 F.FAB_PIN_SER_LO F.FAB_PIN_SER_HI
  let b1 := (b.put F.FAB_PIN_NODE node).put F.FAB_PIN_RESULT 1
  let n := b1.nextFlood
  let b2 := (n.2.remember ser node n.1).flood none (.pin ⟨node, ser, n.1, n.2.get F.IDN_NODE_NODE_ID⟩)
  { b2 with fab := { b2.fab with pin := some ⟨ser, node, n.1, 0, false⟩ } }

theorem pinGoOp_eq (node : Nat) (b : Block) : pinGoOp node b =
    if b.get F.FAB_PIN_RESULT = 1 then (b.bump cIdRefuse, .busyResource)
    else (if b.get64 F.FAB_PIN_SER_LO F.FAB_PIN_SER_HI = b.serial then (b.pinSent node).pinned node else b.pinSent node, .ok) := rfl

theorem Block.get_pinSent (b : Block) (node : Nat) (f : Field) :
    (b.pinSent node).get f = ((b.put F.FAB_PIN_NODE node).put F.FAB_PIN_RESULT 1).get f :=
  Block.flood_get _ none _ f

@[simp] theorem Block.pinSent_dram (b : Block) (node : Nat) : (b.pinSent node).dram = b.dram := Block.flood_dram _ none _

theorem Block.pinSent_pin (b : Block) (node : Nat) :
    (b.pinSent node).fab.pin = some ⟨b.get64 F.FAB_PIN_SER_LO F.FAB_PIN_SER_HI, node, b.fab.floodId, 0, false⟩ := rfl

/-- Neither NODE nor RESULT is part of the identity. -/
theorem Block.get_pinSent_other {b : Block} {node : Nat} {f : Field} (hnode : f.key ≠ F.FAB_PIN_NODE.key)
    (hresult : f.key ≠ F.FAB_PIN_RESULT.key) : (b.pinSent node).get f = b.get f := by
  rw [Block.get_pinSent, Block.get_put_other _ _ _ _ hresult, Block.get_put_other _ _ _ _ hnode]

theorem Block.isSelf_pinSent (b : Block) (node n : Nat) : (b.pinSent node).isSelf n = b.isSelf n := by
  rw [Block.isSelf, Block.flag, Block.get_pinSent_other (by decide) (by decide), Block.get_pinSent_other (by decide) (by decide)]
  rfl

theorem Block.serial_pinSent (b : Block) (node : Nat) : (b.pinSent node).serial = b.serial := by
  rw [Block.serial, Block.get64, Block.get_pinSent_other (by decide) (by decide), Block.get_pinSent_other (by decide) (by decide)]
  rfl

theorem Block.pinSent_node {b : Block} {node : Nat} (h : node < 4096) : (b.pinSent node).get F.FAB_PIN_NODE = node := by
  rw [Block.get_pinSent, Block.get_put_other _ _ _ _ (by decide), Block.get_put_of_lt h]

theorem Block.pinSent_result (b : Block) (node : Nat) : (b.pinSent node).get F.FAB_PIN_RESULT = 1 := by
  rw [Block.get_pinSent, Block.get_put_of_lt (by decide)]

/-- The module pins itself to the ID it holds: its own HELD claim ends the pinning at once. -/
theorem Block.pinned_self {b : Block} {node : Nat} (hnode : node < 4096) (hself : b.isSelf node = true)
    (hserial : b.get64 F.FAB_PIN_SER_LO F.FAB_PIN_SER_HI = b.serial) :
    ((b.pinSent node).pinned node).get F.FAB_PIN_NODE = node ∧ ((b.pinSent node).pinned node).get F.FAB_PIN_RESULT = 2 ∧
      ((b.pinSent node).pinned node).fab.pin = none := by
  rw [Block.pinned, Block.isSelf_pinSent, if_pos hself]
  obtain ⟨hresult, hpin⟩ := Block.floodClaim_of_target (kind := (b.pinSent node).ownKind) (b.pinSent_pin node) rfl
    ((b.serial_pinSent node).trans hserial.symm)
  exact ⟨by rw [Block.get_floodClaim (by decide), Block.pinSent_node hnode], hresult, hpin⟩

/-- A write of FAB_PIN with GO is the pinning's GO, with no domain to touch. -/
theorem exec_pinGo_of_acts {a : Access} {w : Word} {s : State} (hwf : a.wf = true)
    (hacts : s.hw.acts a 0xd0018 (setBit w.toNat 31 true) = true) :
    exec (.pinGo a w) s = .next { s with
      hw := s.hw.answered a 0xd0018 (setBit w.toNat 31 true) (pinGoOp (setBit w.toNat 31 true % 4096) s.hw) } := by
  rw [exec_pinGo a w s hwf, pinGo, submit_of_acts hacts, regOp_fabPin, Block.touched_of_none _ _ (by decide), plainOp, fabPinOp,
    bitAt_setBit_true, if_pos rfl]

/-- A pin of an ID that this module does not hold, or of another module, leaves the pinning pending. -/
theorem Block.pinSent_pending {b : Block} {node : Nat} (hnode : node < 4096)
    (hother : b.isSelf node = false ∨ b.get64 F.FAB_PIN_SER_LO F.FAB_PIN_SER_HI ≠ b.serial) :
    let c := if b.get64 F.FAB_PIN_SER_LO F.FAB_PIN_SER_HI = b.serial then (b.pinSent node).pinned node else b.pinSent node
    c.get F.FAB_PIN_NODE = node ∧ c.get F.FAB_PIN_RESULT = 1 ∧ c.dram = b.dram ∧ c.fab.pin = (b.pinSent node).fab.pin := by
  intro c
  by_cases hserial : b.get64 F.FAB_PIN_SER_LO F.FAB_PIN_SER_HI = b.serial
  case pos =>
    have hself : (b.pinSent node).isSelf node = false := by
      rw [Block.isSelf_pinSent]
      exact hother.resolve_right (not_not.2 hserial)
    have hc : c = (b.pinSent node).pinned node := if_pos hserial
    rw [hc, Block.get_pinned_of_not_self hself (by decide), Block.get_pinned_of_not_self hself (by decide), Block.pinned_dram,
      Block.pinSent_dram, Block.pinned_pin_of_not_self hself]
    exact ⟨Block.pinSent_node hnode, b.pinSent_result node, rfl, rfl⟩
  case neg =>
    have hc : c = b.pinSent node := if_neg hserial
    rw [hc]
    exact ⟨Block.pinSent_node hnode, b.pinSent_result node, b.pinSent_dram node, rfl⟩

end Sys2Proof.Machine

namespace Sys2Proof.Proofs

open Sys2Proof Sys2Proof.Machine

/-- Settles O46: each command by its own condition; a GO by whether a pinning is pending and whether the module pins itself. -/
theorem nodeIdCommands : Obligations.NodeIdCommands := by
  intro s
  refine ⟨fun p m hwf hseen => ?_, fun p m hwf => ⟨fun hseen => ?_, fun hseen => ?_⟩,
    fun c hclaim hnode hkind => ⟨fun hsent => ?_, fun hsent => ?_⟩,
    fun hphase hrefused hclaim hports => ⟨fun hdue => ?_, fun hdue => ?_⟩, fun a w hwf => ?_,
    fun j hpin => ⟨fun hepochs hheard => ?_, fun hwait => ?_⟩⟩
  · rw [exec_claimRx p m s hwf, claimRx, hseen, Bool.not_true, Bool.false_and, whenDue_false]
  · rw [exec_pinRx p m s hwf, pinRx, hseen, Bool.not_true, whenDue_false]
  · have hserial : ((s.hw.remember m.serial m.node m.floodId).flood (some p) (.pin m)).serial = s.hw.serial := by
      simp only [Block.serial, Block.get64, Block.flood_get]
      rfl
    rw [exec_pinRx p m s hwf, pinRx, hseen, Bool.not_false, whenDue_true]
    dsimp only
    rw [hserial]
  · rw [exec_claimHeld s rfl, claimHeld, hclaim]
    simp only [decide_eq_false (not_le.2 hsent), whenDue_false]
  · obtain ⟨hid, hvalid, hsrc, hclaiming⟩ := s.hw.holdId_holds hnode hkind
    refine ⟨{ s with hw := s.hw.holdId c }, ?_, rfl, hid, hvalid, hsrc, hclaiming, by simp, by simp, by simp⟩
    rw [exec_claimHeld s rfl, claimHeld, hclaim]
    simp only [decide_eq_true hsent, whenDue_true]
  · have hcond : (s.hw.phase == .join && s.hw.flag F.FAB_STAT_ID_REFUSED && s.hw.fab.claim.isNone
        && decide (s.hw.fab.refusedAt + 1024 ≤ s.hw.epochs) && !s.hw.activePorts.isEmpty) = true := by
      simpa [hphase, hrefused, hclaim, hdue] using hports
    rw [exec_idRetry s rfl, idRetry, hcond, whenDue_true]
  · have hcond : (s.hw.phase == .join && s.hw.flag F.FAB_STAT_ID_REFUSED && s.hw.fab.claim.isNone
        && decide (s.hw.fab.refusedAt + 1024 ≤ s.hw.epochs) && !s.hw.activePorts.isEmpty) = false := by
      simp [not_le.2 hdue]
    rw [exec_idRetry s rfl, idRetry, hcond, whenDue_false]
  · intro v hacts
    have hnode : v % 4096 < 4096 := Nat.mod_lt _ (by decide)
    refine ⟨fun hpending => ?_, fun hfree hself hserial => ?_, fun hfree hother => ?_⟩
    · rw [exec_pinGo_of_acts hwf hacts, pinGoOp_eq, if_pos hpending]
    · obtain ⟨hn, hresult, hpin⟩ := Block.pinned_self hnode hself hserial
      refine ⟨_, ?_, hn, hresult, hpin, by simp⟩
      rw [exec_pinGo_of_acts hwf hacts, pinGoOp_eq, if_neg hfree, if_pos hserial]
    · obtain ⟨hn, hresult, hdram, hpin⟩ := Block.pinSent_pending hnode hother
      refine ⟨_, ?_, hn, hresult, hdram, _, hpin, rfl, rfl⟩
      rw [exec_pinGo_of_acts hwf hacts, pinGoOp_eq, if_neg hfree]
  · rw [exec_pinNoTarget s rfl, pinNoTarget, hpin]
    simp [hepochs, hheard]
  · rw [exec_pinNoTarget s rfl, pinNoTarget, hpin]
    have hdue : (decide (64 ≤ j.epochs) && !j.heard) = false := by
      rcases hwait with hbefore | hheard
      · simp [not_le.2 hbefore]
      · simp [hheard]
    simp only [hdue, whenDue_false]

end Sys2Proof.Proofs

/-! SUPPORT. Bulk reads: when they are carried out, and what an aperture and the window answer. -/

namespace Sys2Proof.Machine

open Sys2Proof

/-- A bulk read that waits for no release is carried out and answered at once. -/
theorem submit_bulk_of_takes {b c : Block} {a : Access} {addr n : Nat} {st : Status} {l : List (List Nat)} (h : b.takes a = true)
    (hwait : ∀ q, apertureAt addr = some q → b.releasePending q = false) (hread : bulkRead a.who addr n b = (c, st, l)) :
    submit a (.bulk addr n) b = ((c.answer a.who 5 (.bulk a.tag ⟨addr, l.length, st, l⟩)).actCritical b).flushMirror := by
  simp only [Block.takes, Bool.and_eq_true, Bool.not_eq_true', Option.isNone_iff_eq_none] at h
  obtain ⟨⟨⟨hserving, hgap⟩, hbehind⟩, -⟩ := h
  have hgo : b.mustWait a (.bulk addr n) = false := by
    rw [Block.mustWait, hgap, hbehind]
    cases haperture : apertureAt addr with
    | none => simp
    | some q => simp [hwait q haperture]
  rw [submit, Block.arrive, hserving, hgo, Block.take, Block.perform, hread]
  rfl

/-! ### The aperture of a queue (R403 to R405) -/

theorem apertureAt_queue {q : Nat} (h : q < 8) : apertureAt (0x1000000000 + 0x10000000 * q) = some q := by
  simp [apertureAt]
  omega

theorem bulkCount_bounds (k : Nat) : 1 ≤ bulkCount k ∧ bulkCount k ≤ 28 := by
  unfold bulkCount clampN
  split_ifs <;> omega

theorem exec_egqApertureRead_of_takes {a : Access} {q k m : Nat} {s : State} {c : Block} {st : Status} {l : List (List Nat)} (hwf : a.wf = true)
    (hq : q < 8) (hk : k < 256) (htakes : s.hw.takes a = true) (hauth : s.hw.authorised a.who = true)
    (hwait : s.hw.releasePending q = false) (hread : apertureOp a.who q k s.hw = (c, st, l)) (hlen : l.length = m) :
    exec (.egqApertureRead a q k) s = .next { s with
      hw := ((c.answer a.who 5 (.bulk a.tag ⟨0x1000000000 + 0x10000000 * q, m, st, l⟩)).actCritical s.hw).flushMirror } := by
  have hbulk : bulkRead a.who (0x1000000000 + 0x10000000 * q) k s.hw = (c, st, l) := by
    simp only [bulkRead, hauth, apertureAt_queue hq, Bool.not_true, Bool.false_eq_true, if_false, hread]
  have hnone : ∀ p, apertureAt (0x1000000000 + 0x10000000 * q) = some p → s.hw.releasePending p = false := by
    intro p hp
    rw [apertureAt_queue hq, Option.some.injEq] at hp
    exact hp ▸ hwait
  rw [exec_egqApertureRead a q k s (by simp [Instr.wf, hwf, hq, hk]), egqApertureRead, submit_bulk_of_takes htakes hnone hbulk, hlen]

theorem apertureOp_of_stranger {b : Block} {who : Requester} {q : Nat} (h : b.isReader who q = false) (k : Nat) :
    apertureOp who q k b = (b.bump (F.EGQ_DENY_CNT q), .accessDenied, []) := by
  simp [apertureOp, h]

/-- With no word in error a range is read as it stands. -/
theorem Block.checkRange_of_noUpsets {b : Block} (h : b.ecc.upsets = []) (addr n : Nat) : b.checkRange addr n = b :=
  Block.checkRange_of_clean (by simp [Block.upsetsIn, h])

/-- The entry at RD, with its tag, where storage holds no error. -/
theorem Block.queueEntry_of_sound {b : Block} {q : Nat} (hsound : b.ecc.upsets = [])
    (hpoison : b.qPoison q (b.qRd q) (min 64 (b.qPub q - b.qRd q)) = 0) :
    b.queueEntry q =
      let rd := b.qRd q
      let n := min 64 (b.qPub q - rd)
      let x := b.queue q
      let first := ((b.qRel q :: x.ends.map (·.1)).filter fun p => decide (rd ≤ p) && decide (p < rd + n)).head?
      ((((b.bump64 (F.EGQ_READ_CNT_LO q) (F.EGQ_READ_CNT_HI q) 1).bumpBy (F.EGQ_POISON_CNT q) 0).put64 (F.EGQ_RD_LO q) (F.EGQ_RD_HI q) (rd + n)),
        entryTag n (x.ends.any fun e => e.1 == rd + n) (x.ends.any fun e => e.1 == rd + n && e.2) false false 0
          ((first.map (· - rd)).getD 0x7F) q rd ++ entryData (b.qLoad q rd n)) := by
  unfold Block.queueEntry
  simp only [Block.checkRange_of_noUpsets hsound, hpoison, Nat.lt_irrefl, decide_false]

theorem readEntries_one {b : Block} {q : Nat} (hfront : (b.queue q).rdFront = none) (hready : b.qRd q < b.qPub q) :
    readEntries b q 1 = ((b.queueEntry q).1, [(b.queueEntry q).2]) := by
  simp [readEntries, hfront, hready]

theorem readEntries_of_empty {b : Block} {q n : Nat} (hfront : (b.queue q).rdFront = none) (hempty : b.qPub q ≤ b.qRd q) (hn : 1 ≤ n) :
    readEntries b q n = (b, []) := by
  cases n with
  | zero => omega
  | succ n => simp [readEntries, hfront, not_lt.2 hempty]

theorem apertureOp_one {b : Block} {who : Requester} {q : Nat} (hreader : b.isReader who q = true) (hfront : (b.queue q).rdFront = none)
    (hready : b.qRd q < b.qPub q) : apertureOp who q 1 b = ((b.queueEntry q).1, .ok, [(b.queueEntry q).2]) := by
  have hcount : bulkCount 1 = 1 := by decide
  simp [apertureOp, hreader, hcount, readEntries_one hfront hready]

theorem apertureOp_of_empty {b : Block} {who : Requester} {q : Nat} (hreader : b.isReader who q = true) (hfront : (b.queue q).rdFront = none)
    (hempty : b.qPub q ≤ b.qRd q) (hactive : b.flag (F.EGQ_CFG_ACTIVE q) = true) (k : Nat) :
    apertureOp who q k b = (b, .ok, [entryTag 0 false false false false 0 0x7F q (b.qRd q) ++ entryData []]) := by
  simp [apertureOp, hreader, readEntries_of_empty hfront hempty (bulkCount_bounds k).1, hactive]

/-! ### The window of the concentrator's memory (R584) -/

theorem exec_bulkWindowRead_of_takes {a : Access} {addr k m : Nat} {s : State} {c : Block} {st : Status} {l : List (List Nat)} (hwf : a.wf = true)
    (haddr : addr < 2 ^ 40) (hk : k < 256) (htakes : s.hw.takes a = true) (hnone : apertureAt addr = none)
    (hread : bulkRead a.who addr k s.hw = (c, st, l)) (hlen : l.length = m) :
    exec (.bulkWindowRead a addr k) s = .next { s with
      hw := ((c.answer a.who 5 (.bulk a.tag ⟨addr, m, st, l⟩)).actCritical s.hw).flushMirror } := by
  rw [exec_bulkWindowRead a addr k s (by simpa [Instr.wf, hwf, hk] using haddr), bulkWindowRead,
    submit_bulk_of_takes htakes (by simp [hnone]) hread, hlen]

theorem bulkRead_excluded {b : Block} {who : Requester} {addr : Nat} (hauth : b.authorised who = true) (hnone : apertureAt addr = none)
    (hwindow : inWindow addr = true) (halign : addr % 64 = 0) (hexcluded : excluded addr = true) (k : Nat) :
    bulkRead who addr k b = (b, .accessDenied, []) := by
  simp [bulkRead, hauth, hnone, hwindow, halign, hexcluded]

theorem bulkRead_window {b : Block} {who : Requester} {addr : Nat} (hauth : b.authorised who = true) (hnone : apertureAt addr = none)
    (hwindow : inWindow addr = true) (halign : addr % 64 = 0) (hopen : excluded addr = false)
    (hdram : b.get (F.PWR_D_STAT_STATE (6 + b.active)) = 2) (k : Nat) :
    bulkRead who addr k b = ((windowEntries b addr (bulkCount k)).1, .ok, (windowEntries b addr (bulkCount k)).2) := by
  simp [bulkRead, hauth, hnone, hwindow, halign, hopen, hdram]

theorem windowEntries_length_le (b : Block) (addr n : Nat) : (windowEntries b addr n).2.length ≤ n := by
  induction n generalizing b addr with
  | zero => simp [windowEntries]
  | succ n ih =>
    unfold windowEntries
    split
    · simp
    · simpa using ih (b.windowEntry addr).1 (addr + 64)

theorem windowEntries_length_pos {b : Block} {addr n : Nat} (hwindow : inWindow addr = true) (hopen : excluded addr = false) (hn : 1 ≤ n) :
    0 < (windowEntries b addr n).2.length := by
  cases n with
  | zero => omega
  | succ n => simp [windowEntries, hwindow, hopen]

end Sys2Proof.Machine

namespace Sys2Proof.Proofs

open Sys2Proof Sys2Proof.Machine

/-- Settles O23: a bulk read that waits for no release answers what its aperture or the window reads. -/
theorem bulkReads : Obligations.BulkReads := by
  intro a s hwf htakes hauth hsound ends
  refine ⟨fun q hq hwait => ?_, fun addr k haddr hk hnone hwindow halign => ⟨fun hexcluded => ?_, fun hopen hdram => ?_⟩⟩
  · intro addr rd n x
    refine ⟨fun hstranger k hk => ?_, fun hreader hfront hready hpoison => ?_, fun hreader hfront hempty hactive k hk => ?_⟩
    · exact exec_egqApertureRead_of_takes hwf hq hk htakes hauth hwait (apertureOp_of_stranger hstranger k) rfl
    · refine exec_egqApertureRead_of_takes hwf hq (by decide) htakes hauth hwait ?_ rfl
      rw [apertureOp_one hreader hfront hready, Block.queueEntry_of_sound hsound hpoison]
    · exact exec_egqApertureRead_of_takes hwf hq hk htakes hauth hwait (apertureOp_of_empty hreader hfront hempty hactive k) rfl
  · exact exec_bulkWindowRead_of_takes hwf haddr hk htakes hnone (bulkRead_excluded hauth hnone hwindow halign hexcluded k) rfl
  · obtain ⟨hpos, hle⟩ := bulkCount_bounds k
    exact ⟨exec_bulkWindowRead_of_takes hwf haddr hk htakes hnone (bulkRead_window hauth hnone hwindow halign hopen hdram k) rfl,
      windowEntries_length_pos hwindow hopen hpos, (windowEntries_length_le s.hw addr _).trans hle⟩

end Sys2Proof.Proofs

/-! SUPPORT. Perturbations armed and ended, the scan chain's shifts, the wear counters. -/

namespace Sys2Proof.Machine

open Sys2Proof

/-! ### Bits of a word -/

theorem lor_one (q : Nat) : q ||| 1 = q - q % 2 + 1 := by
  have hdiv : (q ||| 1) / 2 ^ 1 = q / 2 := by rw [Nat.or_div_two_pow]; simp
  have hmod : (q ||| 1) % 2 ^ 1 = 1 := by
    rw [Nat.or_mod_two_pow]
    rcases Nat.mod_two_eq_zero_or_one q with h | h <;> simp [h]
  have := Nat.div_add_mod (q ||| 1) (2 ^ 1)
  omega

/-- Setting a bit is an OR with it. -/
theorem setBit_true_eq_lor (v i : Nat) : setBit v i true = Nat.lor v (2 ^ i) := by
  have hpos : 0 < 2 ^ i := Nat.two_pow_pos i
  have hdiv : (v ||| 2 ^ i) / 2 ^ i = v / 2 ^ i - v / 2 ^ i % 2 + 1 := by
    rw [Nat.or_div_two_pow, Nat.div_self hpos, lor_one]
  have hmod : (v ||| 2 ^ i) % 2 ^ i = v % 2 ^ i := by rw [Nat.or_mod_two_pow, Nat.mod_self, Nat.or_zero]
  have hv := Nat.div_add_mod v (2 ^ i)
  have hle : v / 2 ^ i % 2 * 2 ^ i ≤ v / 2 ^ i * 2 ^ i := Nat.mul_le_mul_right _ (Nat.mod_le _ _)
  calc setBit v i true = v - v / 2 ^ i % 2 * 2 ^ i + 2 ^ i := by simp [setBit, b2n]
    _ = 2 ^ i * (v / 2 ^ i - v / 2 ^ i % 2 + 1) + v % 2 ^ i := by
      rw [Nat.mul_add, Nat.mul_sub, Nat.mul_comm _ (v / 2 ^ i % 2)]
      rw [Nat.mul_comm (v / 2 ^ i)] at hle
      omega
    _ = Nat.lor v (2 ^ i) := by
      rw [← hdiv, ← hmod]
      exact Nat.div_add_mod (v ||| 2 ^ i) (2 ^ i)

/-! ### One perturbation armed -/

/-- The commands that arm one perturbation, with its bit (R585). -/
def armCommands (a : Access) : List (Instr × Nat) :=
  [(.tstArmStretch a, 0), (.tstArmBackpress a, 1), (.tstArmLane a, 2), (.tstArmTime a, 3), (.tstArmMemerr a, 4), (.tstArmResidue a, 5)]

/-- A write of TST_ARM that acts is the register's operation on the word. -/
theorem submit_tstArm {b : Block} {a : Access} {w : Nat} (h : b.acts a 0x120004 w = true) :
    submit a (.write 0x120004 [w]) b = b.answered a 0x120004 w (tstArmOp w b) := by
  rw [submit_of_acts h, regOp_tstArm, Block.touched_of_none _ _ (by decide), plainOp]

theorem exec_armCommand {a : Access} {x : Instr × Nat} {s : State} (hwf : a.wf = true) (hx : x ∈ armCommands a)
    (hacts : s.hw.acts a 0x120004 (2 ^ x.2) = true) :
    exec x.1 s = .next { s with hw := s.hw.answered a 0x120004 (2 ^ x.2) (tstArmOp (2 ^ x.2) s.hw) } := by
  rw [← submit_tstArm hacts]
  simp only [armCommands, List.mem_cons, List.not_mem_nil, or_false] at hx
  rcases hx with rfl | rfl | rfl | rfl | rfl | rfl
  · exact exec_tstArmStretch a s hwf
  · exact exec_tstArmBackpress a s hwf
  · exact exec_tstArmLane a s hwf
  · exact exec_tstArmTime a s hwf
  · exact exec_tstArmMemerr a s hwf
  · exact exec_tstArmResidue a s hwf

theorem armCommands_bit_lt {a : Access} {x : Instr × Nat} (hx : x ∈ armCommands a) : x.2 < 6 := by
  simp only [armCommands, List.mem_cons, List.not_mem_nil, or_false] at hx
  rcases hx with rfl | rfl | rfl | rfl | rfl | rfl <;> simp

theorem Block.tstAuth_iff (b : Block) : b.tstAuth = true ↔ b.get F.SEC_EXPERT / 2 ^ 18 % 2 = 1 ∧ b.get F.SEC_DEBUG / 2 ^ 4 % 2 = 1 := by
  simp [Block.tstAuth, bitAt]

theorem Block.armRefused_iff (b : Block) (i : Nat) : b.armRefused i = true ↔
    (i = 3 ∧ b.leadsTime = true) ∨ (i = 2 ∧ b.get (F.FAB_PORT_MODE (b.get F.TST_LANE_LANE / 2)) = 2) := by
  simp [Block.armRefused]

/-- A word of one bit names one perturbation, and not DISARM_ALL. -/
theorem armBits_of_one : ∀ i < 6, (([0, 1, 2, 3, 4, 5] : List Nat).filter fun j => bitAt (2 ^ i) j) = [i] ∧ bitAt (2 ^ i) 31 = false := by
  decide

theorem tstArmOp_of_shut {b : Block} (h : b.tstAuth = false) (w : Nat) : tstArmOp w b = (b, .accessDenied) := by simp [tstArmOp, h]

theorem tstArmOp_one {b : Block} {i : Nat} (hauth : b.tstAuth = true) (hi : i < 6) : tstArmOp (2 ^ i) b =
    if b.armRefused i then (b.bump F.TST_REFUSE_CNT, .busyResource)
    else (((b.put F.TST_DUR_REMAIN (max 1 (b.get F.TST_DUR_DURATION))).armOne i).showTst, .ok) := by
  obtain ⟨hbits, hdisarm⟩ := armBits_of_one i hi
  rw [tstArmOp, hauth, Bool.not_true, if_neg Bool.false_ne_true, hbits, hdisarm]
  cases h : b.armRefused i <;> simp [h, Block.bump]

/-- DISARM_ALL alone ends every perturbation. -/
theorem tstArmOp_disarm {b : Block} (hauth : b.tstAuth = true) : tstArmOp (2 ^ 31) b = (b.disarmTst, .ok) := by
  have hbits : (([0, 1, 2, 3, 4, 5] : List Nat).filter fun j => bitAt (2 ^ 31) j) = [] := by decide
  have hdisarm : bitAt (2 ^ 31) 31 = true := by decide
  rw [tstArmOp, hauth, Bool.not_true, if_neg Bool.false_ne_true, hbits, hdisarm]
  simp

@[simp] theorem Block.showTst_regs (b : Block) : b.showTst.regs = b.regs := rfl
@[simp] theorem Block.showTst_dram (b : Block) : b.showTst.dram = b.dram := rfl
@[simp] theorem Block.showTst_tst (b : Block) : b.showTst.tst = b.tst := rfl
@[simp] theorem Block.showTst_get (b : Block) (f : Field) : b.showTst.get f = b.get f := rfl

@[simp] theorem SrcSt.level_active (x : SrcSt) (on : Bool) (ts : Stamp) (payload : Nat) : (x.level on ts payload).active = on := by
  unfold SrcSt.level
  split_ifs with hon hactive <;> simp_all

/-- TST_ACTIVE shows whether a perturbation is armed. -/
@[simp] theorem Block.showTst_active (b : Block) : (b.showTst.source 232).active = b.flag F.TST_STAT_MASK := by
  simp [Block.showTst, Block.setLevel]

@[simp] theorem Block.armOne_dram (b : Block) (i : Nat) : (b.armOne i).dram = b.dram := by
  unfold Block.armOne; dsimp only; split_ifs <;> rfl

theorem Block.get_armOne_mask (b : Block) (i : Nat) :
    (b.armOne i).get F.TST_STAT_MASK = setBit (b.get F.TST_STAT_MASK) i true % 64 := by
  have hput : (b.put F.TST_STAT_MASK (setBit (b.get F.TST_STAT_MASK) i true)).get F.TST_STAT_MASK =
      setBit (b.get F.TST_STAT_MASK) i true % 64 := Block.get_put_same _ _ _
  have hkey : F.TST_STAT_MASK.key ≠ F.TST_INJ_CNT.key := by decide
  unfold Block.armOne
  dsimp only
  split
  · exact (Block.get_put_other _ _ _ _ hkey).trans hput
  · exact hput

theorem Block.get_armOne_other {b : Block} {i : Nat} {f : Field} (hmask : f.key ≠ F.TST_STAT_MASK.key) (hinj : f.key ≠ F.TST_INJ_CNT.key) :
    (b.armOne i).get f = b.get f := by
  have hput : (b.put F.TST_STAT_MASK (setBit (b.get F.TST_STAT_MASK) i true)).get f = b.get f := Block.get_put_other _ _ _ _ hmask
  unfold Block.armOne
  dsimp only
  split
  · exact (Block.get_put_other _ _ _ _ hinj).trans hput
  · exact hput

/-- What holds for a whole epoch is recorded for the epoch's flags. -/
theorem Block.armOne_epochMask {b : Block} {i : Nat} (h : i < 4) : bitAt (b.armOne i).tst.epochMask i = true := by
  unfold Block.armOne
  dsimp only
  rw [if_pos h]
  split_ifs <;> exact bitAt_setBit_true _ i

theorem Block.armOne_backpress (b : Block) : (b.armOne 1).tst.bpOn = true ∧ (b.armOne 1).tst.bpTick = b.tick := ⟨rfl, rfl⟩
theorem Block.armOne_residue (b : Block) : (b.armOne 5).tst.residue = b.get F.TST_RES % 64 := rfl

/-- A mask with a bit of its six set is not 0. -/
theorem mask_ne_zero (v : Nat) {i : Nat} (hi : i < 6) : setBit v i true % 64 ≠ 0 := by
  have hbit : setBit v i true / 2 ^ i % 2 = 1 := by simpa [bitAt] using bitAt_setBit_true v i
  interval_cases i <;> omega

/-- The block in which one perturbation is armed. -/
def Block.armed (b : Block) (i : Nat) : Block := ((b.put F.TST_DUR_REMAIN (max 1 (b.get F.TST_DUR_DURATION))).armOne i).showTst

theorem Block.armed_mask (b : Block) (i : Nat) : (b.armed i).get F.TST_STAT_MASK = Nat.lor (b.get F.TST_STAT_MASK) (2 ^ i) % 64 := by
  rw [Block.armed, Block.showTst_get, Block.get_armOne_mask, Block.get_put_other _ _ _ _ (by decide), setBit_true_eq_lor]

theorem Block.armed_remain (b : Block) (i : Nat) : (b.armed i).get F.TST_DUR_REMAIN = max 1 (b.get F.TST_DUR_DURATION) % 2 ^ 16 := by
  rw [Block.armed, Block.showTst_get, Block.get_armOne_other (by decide) (by decide), Block.get_put_same]

theorem Block.armed_active (b : Block) {i : Nat} (hi : i < 6) : ((b.armed i).source 232).active = true := by
  rw [Block.armed, Block.showTst_active, Block.flag, Block.get_armOne_mask]
  simpa using mask_ne_zero _ hi

theorem Block.armed_residue (b : Block) : (b.armed 5).tst.residue = b.get F.TST_RES % 64 := by
  rw [Block.armed, Block.showTst_tst, Block.armOne_residue, Block.get_put_other _ _ _ _ (by decide)]

/-! ### The end of every perturbation -/

theorem Block.get_disarmTst (b : Block) (f : Field) : b.disarmTst.get f = ((b.put F.TST_STAT_MASK 0).put F.TST_DUR_REMAIN 0).get f := rfl

theorem Block.disarmTst_mask (b : Block) : b.disarmTst.get F.TST_STAT_MASK = 0 := by
  rw [Block.get_disarmTst, Block.get_put_other _ _ _ _ (by decide), Block.get_put_same, Nat.zero_mod]

theorem Block.disarmTst_remain (b : Block) : b.disarmTst.get F.TST_DUR_REMAIN = 0 := by
  rw [Block.get_disarmTst, Block.get_put_same, Nat.zero_mod]

theorem Block.disarmTst_active (b : Block) : (b.disarmTst.source 232).active = false := by
  have hmask : b.disarmTst.flag F.TST_STAT_MASK = false := by simp [Block.flag, b.disarmTst_mask]
  exact (Block.showTst_active _).trans hmask

theorem exec_tstDisarmAll_of_acts {a : Access} {s : State} (hwf : a.wf = true) (hacts : s.hw.acts a 0x120004 (2 ^ 31) = true) :
    exec (.tstDisarmAll a) s = .next { s with hw := s.hw.answered a 0x120004 (2 ^ 31) (tstArmOp (2 ^ 31) s.hw) } := by
  rw [exec_tstDisarmAll a s hwf, tstDisarmAll, submit_tstArm hacts]

/-! ### The phases of BACKPRESS -/

/-- The length of the phase of BACKPRESS under way (R586). -/
def Block.bpSpan (b : Block) : Nat := if b.tst.bpOn then b.get F.TST_BP_DUTY_ON_TICKS else max 1 (b.get F.TST_BP_DUTY_OFF_TICKS)

theorem tstBpToggle_eq (b : Block) : tstBpToggle b =
    whenDue (bitAt (b.get F.TST_STAT_MASK) 1 && decide (b.tst.bpTick + b.bpSpan ≤ b.tick))
      (fun b => { b with tst := { b.tst with bpOn := !b.tst.bpOn, bpTick := b.tick } }) b := rfl

/-! ### Wear -/

/-- A powered minute's use, before the oven's age is measured. -/
def Block.minuteUsed (b : Block) (tj : List Int) : Block :=
  let w := b.wear.now
  { b with wear := { b.wear with now := { w with
    em := (List.range 8).foldl (fun t i => modifyKey t i 0 (· + minuteUse (tj.getD i 0))) w.em
    minutes := w.minutes + 1
    bins := modifyKey w.bins (tjBin (tj.foldl max (tj.headD 0))) 0 (· + 1)
    ovnMinutes := w.ovnMinutes + b2n (b.domainOn 17) } } }

/-- Each key below `n` takes its own use, once. -/
theorem lookupD_addUses (use : Nat → Nat) (n : Nat) (m : Table Nat) (k : Nat) :
    lookupD ((List.range n).foldl (fun t i => modifyKey t i 0 (· + use i)) m) k 0 = lookupD m k 0 + if k < n then use k else 0 := by
  induction n with
  | zero => simp
  | succ n ih =>
    rw [List.range_succ, List.foldl_append]
    simp only [List.foldl_cons, List.foldl_nil]
    by_cases hk : k = n
    case pos =>
      subst hk
      rw [lookupD_modifyKey_same, ih]
      simp
    case neg =>
      have hlt : k < n + 1 ↔ k < n := by omega
      rw [lookupD_modifyKey_other _ _ _ _ _ _ hk, ih]
      simp only [hlt]

/-- A count of one key rises by one. -/
theorem lookupD_count (m : Table Nat) (j k : Nat) : lookupD (modifyKey m j 0 (· + 1)) k 0 = lookupD m k 0 + if k = j then 1 else 0 := by
  by_cases hk : k = j
  case pos => simp [hk]
  case neg => simp [hk, lookupD_modifyKey_other _ _ _ _ _ _ hk]

/-- The oven's age is all that its measurement changes of the wear counters. -/
theorem Block.measureAge_keeps (b : Block) : b.measureAge.regs = b.regs ∧ b.measureAge.dram = b.dram ∧ b.measureAge.wear.store = b.wear.store ∧
    b.measureAge.wear.now.minutes = b.wear.now.minutes ∧ b.measureAge.wear.now.em = b.wear.now.em ∧
    b.measureAge.wear.now.bins = b.wear.now.bins ∧ b.measureAge.wear.now.ovnMinutes = b.wear.now.ovnMinutes := by
  unfold Block.measureAge
  dsimp only
  split_ifs <;> exact ⟨rfl, rfl, rfl, rfl, rfl, rfl, rfl⟩

/-- The day's corrections become the newest of their die's 60 days. -/
theorem Wear.closeDay_corrDays (w : Wear) {x : Nat} (hx : x < 2) :
    lookupD w.closeDay.corrDays x [] = (lookupD w.corr x 0 :: lookupD w.corrDays x []).take 60 := by
  simp only [Wear.closeDay, List.foldl_cons, List.foldl_nil]
  have hcases : x = 0 ∨ x = 1 := by omega
  rcases hcases with rfl | rfl
  · rw [lookupD_insertKey_other _ _ _ _ _ (by decide), lookupD_insertKey_same]
  · rw [lookupD_insertKey_same, lookupD_insertKey_other _ _ _ _ _ (by decide)]

end Sys2Proof.Machine

namespace Sys2Proof.Proofs

open Sys2Proof Sys2Proof.Machine

/-- Settles O60: each command by its guard; arming by the one bit of its word, the minute's use by the keys of its tables. -/
theorem perturbationsScanChainAndWear : Obligations.PerturbationsScanChainAndWear := by
  intro s b may arms blocked
  have hmay : b.tstAuth = true ↔ may := b.tstAuth_iff
  have hblocked (i : Nat) : b.armRefused i = true ↔ blocked i := b.armRefused_iff i
  refine ⟨fun a hwf x hx hacts => ⟨fun hshut => ?_, fun hopen hrefused => ?_, fun hopen hfree => ?_⟩,
    fun a hwf hacts => ⟨fun hshut => ?_, fun hopen => ?_⟩, fun hidle => ?_, fun hmask hremain => ?_,
    ⟨fun hbp hdue => ?_, fun hidle => ?_⟩, fun pins tdi => ⟨fun hoff => ?_, fun hon => ⟨?_, ?_, ?_, ?_⟩⟩, exec_tapReset s rfl,
    fun tj htj => ⟨fun hoff => ?_, fun hon => ?_⟩, fun hidle => ?_, fun hon hdue => ?_⟩
  · rw [exec_armCommand hwf hx hacts, tstArmOp_of_shut (Bool.eq_false_iff.2 (mt hmay.1 hshut))]
  · rw [exec_armCommand hwf hx hacts, tstArmOp_one (hmay.2 hopen) (armCommands_bit_lt hx), if_pos ((hblocked _).2 hrefused)]
  · have hi := armCommands_bit_lt hx
    refine ⟨b.armed x.2, ?_, b.armed_mask _, b.armed_remain _, b.armed_active hi, by simp [Block.armed],
      fun h => Block.armOne_epochMask h, fun h => ?_, fun h => ?_⟩
    · rw [exec_armCommand hwf hx hacts, tstArmOp_one (hmay.2 hopen) hi, if_neg (mt (hblocked _).1 hfree)]
      rfl
    · rw [h]
      exact Block.armOne_backpress _
    · rw [h]
      exact b.armed_residue
  · rw [exec_tstDisarmAll_of_acts hwf hacts, tstArmOp_of_shut (Bool.eq_false_iff.2 (mt hmay.1 hshut))]
  · refine ⟨b.disarmTst, ?_, b.disarmTst_mask, b.disarmTst_remain, b.disarmTst_active, rfl, rfl⟩
    rw [exec_tstDisarmAll_of_acts hwf hacts, tstArmOp_disarm (hmay.2 hopen)]
  · have hguard : (b.flag F.TST_STAT_MASK && !b.flag F.TST_DUR_REMAIN) = false := by
      rcases hidle with h | h <;> simp [Block.flag, h]
    rw [exec_tstDurationEnd s rfl, tstDurationEnd, hguard, whenDue_false]
  · have hguard : (b.flag F.TST_STAT_MASK && !b.flag F.TST_DUR_REMAIN) = true := by simp [Block.flag, hmask, hremain]
    refine ⟨{ s with hw := b.disarmTst }, ?_, rfl, rfl, b.disarmTst_mask, b.disarmTst_active, rfl, fun f hm hr => ?_⟩
    · rw [exec_tstDurationEnd s rfl, tstDurationEnd, hguard, whenDue_true]
    · rw [Block.get_disarmTst, Block.get_put_other _ _ _ _ hr, Block.get_put_other _ _ _ _ hm]
  · have hguard : (bitAt (b.get F.TST_STAT_MASK) 1 && decide (b.tst.bpTick + b.bpSpan ≤ b.tick)) = true := by
      rw [hbp, Bool.true_and, decide_eq_true_eq]
      exact hdue
    rw [exec_tstBpToggle s rfl, tstBpToggle_eq, hguard, whenDue_true]
  · have hguard : (bitAt (b.get F.TST_STAT_MASK) 1 && decide (b.tst.bpTick + b.bpSpan ≤ b.tick)) = false := by
      rcases hidle with hoff | hbefore
      · rw [hoff, Bool.false_and]
      · have hnot : ¬b.tst.bpTick + b.bpSpan ≤ b.tick := not_le.2 hbefore
        rw [decide_eq_false hnot, Bool.and_false]
    rw [exec_tstBpToggle s rfl, tstBpToggle_eq, hguard, whenDue_false]
  · have hstay : jtagBypass tdi b = b ∧ jtagIdcode tdi b = b ∧ jtagSamplePreload pins tdi b = b ∧ jtagExtest pins tdi b = b := by
      simp only [jtagBypass, jtagIdcode, jtagSamplePreload, jtagExtest, hoff, whenDue_false, and_self]
    obtain ⟨hbypass, hidcode, hsample, hextest⟩ := hstay
    intro c hc
    simp only [List.mem_cons, List.not_mem_nil, or_false] at hc
    rcases hc with rfl | rfl | rfl | rfl
    · rw [exec_jtagBypass tdi s rfl, hbypass]
    · rw [exec_jtagIdcode tdi s rfl, hidcode]
    · rw [exec_jtagSamplePreload pins tdi s rfl, hsample]
    · rw [exec_jtagExtest pins tdi s rfl, hextest]
  · rw [exec_jtagBypass tdi s rfl, jtagBypass, hon, whenDue_true]
    rfl
  · rw [exec_jtagIdcode tdi s rfl, jtagIdcode, hon, whenDue_true]
    rfl
  · rw [exec_jtagSamplePreload pins tdi s rfl, jtagSamplePreload, hon, whenDue_true]
    rfl
  · rw [exec_jtagExtest pins tdi s rfl, jtagExtest, hon, whenDue_true]
    rfl
  · rw [exec_emBudgetAccumulate tj s (by simp [Instr.wf, htj]), emBudgetAccumulate, hoff, whenDue_false]
  · obtain ⟨hregs, hdram, hstore, hminutes, hem, hbins, hovn⟩ := (b.minuteUsed tj).measureAge_keeps
    refine ⟨{ s with hw := (b.minuteUsed tj).measureAge }, ?_, rfl, hregs, hdram, hstore, hminutes, fun i hi => ?_, fun k => ?_, ?_⟩
    · rw [exec_emBudgetAccumulate tj s (by simp [Instr.wf, htj]), emBudgetAccumulate, hon, whenDue_true]
      rfl
    · have huse := lookupD_addUses (fun i => minuteUse (tj.getD i 0)) 8 b.wear.now.em i
      rw [if_pos hi] at huse
      exact (congrArg (lookupD · i 0) hem).trans huse
    · exact (congrArg (lookupD · k 0) hbins).trans (lookupD_count _ _ k)
    · exact hovn
  · have hguard : (b.phase.railsOn && decide (b.wear.store.minutes + 1440 ≤ b.wear.now.minutes)) = false := by
      rcases hidle with h | h
      · simp [h]
      · simp [not_le.2 h]
    rw [exec_wearStoreUpdate s rfl, wearStoreUpdate, hguard, whenDue_false]
  · have hguard : (b.phase.railsOn && decide (b.wear.store.minutes + 1440 ≤ b.wear.now.minutes)) = true := by simp [hon, hdue]
    refine ⟨{ s with hw := { b with wear := ⟨b.wear.now.closeDay, b.wear.now.closeDay⟩ } }, ?_, rfl, rfl, rfl, rfl, rfl, rfl, rfl, rfl,
      fun x hx => b.wear.now.closeDay_corrDays hx⟩
    rw [exec_wearStoreUpdate s rfl, wearStoreUpdate, hguard, whenDue_true]

end Sys2Proof.Proofs

/-! SUPPORT. A write that waits for the mirror, and the acknowledgement that lets it act. -/

namespace Sys2Proof.Machine

open Sys2Proof

/-- A request handed to the mirror changes no register, so no failure is new and the mirror is still up. -/
theorem Block.mirror_settled {b : Block} (hup : b.mirrorUp = true) (k : MirrorKind) :
    ((b.mirror k).actCritical b).flushMirror = b.mirror k := by
  have hcritical : (b.mirror k).actCritical b = b.mirror k := Block.actCritical_of_same rfl
  have hup' : (b.mirror k).mirrorUp = true := hup
  rw [hcritical, Block.flushMirror, hup', Bool.true_or, Bool.true_or, if_pos rfl]

/-- An accepted write of one mirrored word waits for the mirror (R564). -/
theorem Block.awaitsMirror_of_mirrored {b : Block} {a : Access} {addr w : Nat} (hup : b.mirrorUp = true) (hmirrored : mirrored addr w = true)
    (hok : (writeWord a.who addr w b).2 = .ok) : b.awaitsMirror a addr [w] = true := by
  simp [Block.awaitsMirror, writeAll, hup, hok, hmirrored]

/-- Such a write, taken up, is appended to the mirror's items at this tick and changes nothing else. -/
theorem submit_write_of_mirrored {b : Block} {a : Access} {addr w : Nat} (htakes : b.takes a = true) (hup : b.mirrorUp = true)
    (hmirrored : mirrored addr w = true) (hok : (writeWord a.who addr w b).2 = .ok) :
    submit a (.write addr [w]) b = b.mirror (.request a (.write addr [w])) := by
  rw [submit, Block.arrive_of_takes htakes (by simp), Block.perform, Block.awaitsMirror_of_mirrored hup hmirrored hok, if_pos rfl,
    Block.mirror_settled hup]

/-- The oldest item acknowledged while the mirror is up and no gap runs (R564). -/
theorem mirrorAck_of_front {b : Block} {x : MirrorItem} {l : List MirrorItem} (hqueue : b.pair.queue = x :: l) (hup : b.mirrorUp = true)
    (hgap : b.pair.gap = none) :
    mirrorAck b = ((({ b with pair := { b.pair with queue := l } }).mirrorDone x.kind).runWaiting).flushMirror := by
  rw [mirrorAck, hqueue]
  simp [hup, hgap]

/-- What a waiting write brings about once it is acknowledged: it is carried out. -/
theorem Block.mirrorDone_write {b : Block} (hserving : b.serving = true) (a : Access) (addr : Nat) (words : List Nat) :
    b.mirrorDone (.request a (.write addr words)) = (b.doWrite a addr words).actCritical b := if_pos hserving

end Sys2Proof.Machine

namespace Sys2Proof.Proofs

open Sys2Proof Sys2Proof.Machine

/-- Settles O18: a mirrored write that is taken up becomes an item of the mirror; the acknowledged item is the write itself. -/
theorem mirroredWritesWait : Obligations.MirroredWritesWait := by
  refine ⟨fun a addr w s hwf hrange halign htakes hup hmirrored hok => ?_, fun s x l a addr words hqueue hkind hup hgap hserving => ?_⟩
  · rw [exec_oneWordWrite hwf hrange halign, submit_write_of_mirrored htakes hup hmirrored hok]
    rfl
  · rw [exec_mirrorAck s rfl, mirrorAck_of_front hqueue hup hgap, hkind,
      Block.mirrorDone_write (b := { s.hw with pair := { s.hw.pair with queue := l } }) hserving]

end Sys2Proof.Proofs

/-! SUPPORT. Epochs that resolve, fragments that change, terms and event numbers that are heard: what each leaves of the block. -/

namespace Sys2Proof.Machine

open Sys2Proof

/-! ### Every epoch that can become RESOLVED does (R43, R616) -/

/-- An epoch's state once those of a list that can resolve have done so. -/
def Block.resolvedSt (b : Block) (l : List EpochSt) (x : EpochSt) : EpochSt :=
  if l.any (fun e => e.key == x.key && b.resolves e) then { x with term := some (b.get F.TRG_STAT_TERM), mirrored := !b.mirrorUp } else x

/-- The block once the epochs of a list that can resolve have done so: their states, and their entries at the mirror. -/
def Block.resolvedOf (b : Block) (l : List EpochSt) : Block :=
  { b with
    evb := { b.evb with epochs := b.evb.epochs.map (b.resolvedSt l) }
    pair := { b.pair with queue := b.pair.queue ++ if b.mirrorUp then (l.filter b.resolves).map fun e => ⟨b.tick, .entry e.key⟩ else [] } }

/-- Whether an epoch resolves does not depend on the epochs that resolved before it. -/
theorem Block.resolves_resolvedOf (b : Block) (l : List EpochSt) (e : EpochSt) : (b.resolvedOf l).resolves e = b.resolves e := rfl

theorem Block.resolvedOf_nil (b : Block) : b.resolvedOf [] = b := by
  have hst : b.resolvedSt [] = id := funext fun x => if_neg (by simp)
  simp [Block.resolvedOf, hst]

theorem Block.resolvedSt_snoc_of_not {b : Block} {e : EpochSt} (h : b.resolves e = false) (l : List EpochSt) :
    b.resolvedSt (l ++ [e]) = b.resolvedSt l :=
  funext fun x => by simp [Block.resolvedSt, h]

theorem Block.resolvedSt_snoc {b : Block} {e : EpochSt} (h : b.resolves e = true) (l : List EpochSt) (x : EpochSt) :
    b.resolvedSt (l ++ [e]) x =
      if (b.resolvedSt l x).key = e.key then { b.resolvedSt l x with term := some (b.get F.TRG_STAT_TERM), mirrored := !b.mirrorUp }
      else b.resolvedSt l x := by
  have hlast : (l ++ [e]).any (fun e => e.key == x.key && b.resolves e) =
      (l.any (fun e => e.key == x.key && b.resolves e) || e.key == x.key) := by
    simp [h]
  rw [Block.resolvedSt, Block.resolvedSt, hlast]
  cases hany : l.any (fun e => e.key == x.key && b.resolves e) with
  | true => simp
  | false => simp [eq_comm (a := e.key)]

/-- One more epoch of the list: it resolves, or it changes nothing. -/
theorem Block.resolvedOf_snoc (b : Block) (l : List EpochSt) (e : EpochSt) :
    b.resolvedOf (l ++ [e]) = if (b.resolvedOf l).resolves e then (b.resolvedOf l).resolve e else b.resolvedOf l := by
  rw [Block.resolves_resolvedOf]
  cases hres : b.resolves e with
  | false => simp [Block.resolvedOf, Block.resolvedSt_snoc_of_not hres, hres]
  | true =>
    have hepochs : b.evb.epochs.map (b.resolvedSt (l ++ [e])) = (b.evb.epochs.map (b.resolvedSt l)).map fun x =>
        if x.key = e.key then { x with term := some (b.get F.TRG_STAT_TERM), mirrored := !b.mirrorUp } else x := by
      rw [List.map_map]
      exact List.map_congr_left fun x _ => b.resolvedSt_snoc hres l x
    have hup : (b.resolvedOf l).mirrorUp = b.mirrorUp := rfl
    rw [if_pos rfl, Block.resolve, hup]
    cases hmirror : b.mirrorUp with
    | false =>
      simp only [Block.resolvedOf, hepochs, hmirror]
      rfl
    | true =>
      simp only [Block.resolvedOf, hepochs, hmirror, List.filter_append, List.filter_cons, hres, List.filter_nil, List.map_append,
        if_pos, ← List.append_assoc]
      rfl

theorem Block.foldl_resolve (b : Block) (l done : List EpochSt) :
    l.foldl (fun c e => if c.resolves e then c.resolve e else c) (b.resolvedOf done) = b.resolvedOf (done ++ l) := by
  induction l generalizing done with
  | nil => rw [List.foldl_nil, List.append_nil]
  | cons e l ih => rw [List.foldl_cons, ← Block.resolvedOf_snoc, ih, List.append_assoc, List.singleton_append]

/-- Resolution in one step: the epochs that can resolve, all at once. -/
theorem Block.resolveEpochs_eq (b : Block) : b.resolveEpochs = b.resolvedOf b.evb.epochs := by
  rw [Block.resolveEpochs, ← List.nil_append b.evb.epochs, ← Block.foldl_resolve, Block.resolvedOf_nil]
  rfl

@[simp] theorem Block.resolveEpochs_regs (b : Block) : b.resolveEpochs.regs = b.regs := by rw [Block.resolveEpochs_eq]; rfl
@[simp] theorem Block.resolveEpochs_dram (b : Block) : b.resolveEpochs.dram = b.dram := by rw [Block.resolveEpochs_eq]; rfl
@[simp] theorem Block.resolveEpochs_fab (b : Block) : b.resolveEpochs.fab = b.fab := by rw [Block.resolveEpochs_eq]; rfl
@[simp] theorem Block.resolveEpochs_master (b : Block) : b.resolveEpochs.master = b.master := by rw [Block.resolveEpochs_eq]; rfl
@[simp] theorem Block.resolveEpochs_lynx (b : Block) : b.resolveEpochs.lynx = b.lynx := by rw [Block.resolveEpochs_eq]; rfl
@[simp] theorem Block.resolveEpochs_posted (b : Block) : b.resolveEpochs.posted = b.posted := by rw [Block.resolveEpochs_eq]; rfl
@[simp] theorem Block.resolveEpochs_ring (b : Block) : b.resolveEpochs.ring = b.ring := by rw [Block.resolveEpochs_eq]; rfl
@[simp] theorem Block.resolveEpochs_time (b : Block) : b.resolveEpochs.time = b.time := by rw [Block.resolveEpochs_eq]; rfl
@[simp] theorem Block.resolveEpochs_tick (b : Block) : b.resolveEpochs.tick = b.tick := by rw [Block.resolveEpochs_eq]; rfl
@[simp] theorem Block.resolveEpochs_frags (b : Block) : b.resolveEpochs.evb.frags = b.evb.frags := by rw [Block.resolveEpochs_eq]; rfl
@[simp] theorem Block.resolveEpochs_sealed (b : Block) : b.resolveEpochs.evb.sealed = b.evb.sealed := by rw [Block.resolveEpochs_eq]; rfl
@[simp] theorem Block.resolveEpochs_get (b : Block) (f : Field) : b.resolveEpochs.get f = b.get f := Block.get_of_regs b.resolveEpochs_regs f

/-- Resolution leaves an epoch's key, merges, sequence and settings. -/
theorem Block.resolvedSt_keeps (b : Block) (l : List EpochSt) (x : EpochSt) :
    (b.resolvedSt l x).key = x.key ∧ (b.resolvedSt l x).merges = x.merges ∧ (b.resolvedSt l x).seq = x.seq ∧
      (b.resolvedSt l x).exhausted = x.exhausted ∧ (b.resolvedSt l x).cfg = x.cfg ∧ (b.resolvedSt l x).counts = x.counts := by
  unfold Block.resolvedSt
  split <;> exact ⟨rfl, rfl, rfl, rfl, rfl, rfl⟩

/-- An epoch is found again after resolution, in its new state. -/
theorem Block.epochSt_resolveEpochs (b : Block) (k : Nat) :
    b.resolveEpochs.epochSt k = (b.epochSt k).map (b.resolvedSt b.evb.epochs) := by
  rw [Block.resolveEpochs_eq]
  change (b.evb.epochs.map _).find? _ = _
  rw [List.find?_map]
  congr 2
  exact funext fun x => by simp [(b.resolvedSt_keeps _ x).1]

/-- Resolution frees no staging. -/
@[simp] theorem Block.freeChunks_resolveEpochs (b : Block) : b.resolveEpochs.freeChunks = b.freeChunks := by
  have hmerges (g : List MergeDone → Nat) : ((b.evb.epochs.map (b.resolvedSt b.evb.epochs)).map fun x => g x.merges) =
      b.evb.epochs.map fun x => g x.merges := by
    rw [List.map_map]
    exact List.map_congr_left fun x _ => congrArg g (b.resolvedSt_keeps _ x).2.1
  rw [Block.resolveEpochs_eq]
  simp only [Block.freeChunks, EvbSt.usedChunks, Block.resolvedOf]
  rw [hmerges fun l => (l.map fun d => (d.slot.parts.map (·.chunks)).sum).sum]

/-! ### A term and an event number that are heard (R39, R302) -/

/-- Hearing changes the register file alone. -/
theorem Block.seeTerm_eq (b : Block) (t : Nat) : b.seeTerm t = { b with regs := (b.seeTerm t).regs } := by
  unfold Block.seeTerm
  split <;> rfl

theorem Block.seeEvno_eq (b : Block) (n : Nat) : b.seeEvno n = { b with regs := (b.seeEvno n).regs } := by
  unfold Block.seeEvno
  split <;> rfl

/-- The block that has resolved its epochs and heard a term and an event number. -/
def Block.heard (b : Block) (t n : Nat) : Block := (b.resolveEpochs.seeTerm t).seeEvno n

theorem Block.heard_eq (b : Block) (t n : Nat) : b.heard t n = { b.resolveEpochs with regs := (b.heard t n).regs } := by
  unfold Block.heard
  rw [Block.seeEvno_eq, Block.seeTerm_eq]

@[simp] theorem Block.heard_dram (b : Block) (t n : Nat) : (b.heard t n).dram = b.dram := by rw [Block.heard_eq]; exact b.resolveEpochs_dram
@[simp] theorem Block.heard_fab (b : Block) (t n : Nat) : (b.heard t n).fab = b.fab := by rw [Block.heard_eq]; exact b.resolveEpochs_fab
@[simp] theorem Block.heard_master (b : Block) (t n : Nat) : (b.heard t n).master = b.master := by
  rw [Block.heard_eq]; exact b.resolveEpochs_master
@[simp] theorem Block.heard_posted (b : Block) (t n : Nat) : (b.heard t n).posted = b.posted := by
  rw [Block.heard_eq]; exact b.resolveEpochs_posted
@[simp] theorem Block.heard_frags (b : Block) (t n : Nat) : (b.heard t n).evb.frags = b.evb.frags := by
  rw [Block.heard_eq]; exact b.resolveEpochs_frags
@[simp] theorem Block.heard_freeChunks (b : Block) (t n : Nat) : (b.heard t n).freeChunks = b.freeChunks := by
  rw [Block.heard_eq]; exact b.freeChunks_resolveEpochs

theorem Block.get_seeEvno_other {b : Block} {f : Field} (hlo : f.key ≠ F.TRG_M_EVNO_LO.key) (hhi : f.key ≠ F.TRG_M_EVNO_HI.key) (n : Nat) :
    (b.seeEvno n).get f = b.get f := by
  unfold Block.seeEvno
  split
  · rw [Block.put64, Block.get_put_other _ _ _ _ hhi, Block.get_put_other _ _ _ _ hlo]
  · rfl

theorem Block.get_seeTerm_other {b : Block} {f : Field} (h : f.key ≠ F.TRG_STAT_TERM.key) (t : Nat) : (b.seeTerm t).get f = b.get f := by
  unfold Block.seeTerm
  split
  · exact Block.get_put_other _ _ _ _ h
  · rfl

/-- Every field but the term and the event number reads as before. -/
theorem Block.get_heard_other {b : Block} {f : Field} (hterm : f.key ≠ F.TRG_STAT_TERM.key) (hlo : f.key ≠ F.TRG_M_EVNO_LO.key)
    (hhi : f.key ≠ F.TRG_M_EVNO_HI.key) (t n : Nat) : (b.heard t n).get f = b.get f := by
  rw [Block.heard, Block.get_seeEvno_other hlo hhi, Block.get_seeTerm_other hterm, Block.resolveEpochs_get]

/-- A term that is not lower is the one remembered. -/
theorem Block.get_seeTerm_term {b : Block} {t : Nat} (hle : b.get F.TRG_STAT_TERM ≤ t) (ht : t < 65536) :
    (b.seeTerm t).get F.TRG_STAT_TERM = t := by
  unfold Block.seeTerm
  split
  · exact Block.get_put_of_lt ht
  · omega

theorem Block.get_heard_term {b : Block} {t n : Nat} (hle : b.get F.TRG_STAT_TERM ≤ t) (ht : t < 65536) :
    (b.heard t n).get F.TRG_STAT_TERM = t := by
  have hb : b.resolveEpochs.get F.TRG_STAT_TERM ≤ t := by rwa [Block.resolveEpochs_get]
  rw [Block.heard, Block.get_seeEvno_other (by decide) (by decide), Block.get_seeTerm_term hb ht]

/-! ### One fragment changed (R41) -/

@[simp] theorem Block.setFrag_regs (b : Block) (f : Frag) : (b.setFrag f).regs = b.regs := rfl
@[simp] theorem Block.setFrag_get (b : Block) (f : Frag) (k : Field) : (b.setFrag f).get k = b.get k := rfl

/-- A fragment of a block has the identity by which it is found. -/
theorem Block.ident_of_frag {b : Block} {i : Nat} {f : Frag} (h : b.frag i = some f) : f.desc.ident = i := by
  simpa using List.find?_some h

/-- What is found in a block whose fragments were mapped without a change of identity. -/
theorem find?_map_ident {g : Frag → Frag} (hg : ∀ x, (g x).desc.ident = x.desc.ident) (l : List Frag) (i : Nat) :
    (l.map g).find? (fun x => x.desc.ident == i) = (l.find? fun x => x.desc.ident == i).map g := by
  rw [List.find?_map]
  congr 2
  exact funext fun x => by simp [hg x]

/-- A fragment that is there is found as it was set. -/
theorem Block.frag_setFrag_same {b : Block} {i : Nat} {f g : Frag} (h : b.frag i = some f) (hg : g.desc.ident = i) :
    (b.setFrag g).frag i = some g := by
  have hf := Block.ident_of_frag h
  rw [Block.frag, Block.setFrag, find?_map_ident fun x => by split <;> simp_all]
  change (b.frag i).map _ = _
  rw [h, Option.map_some, if_pos (hf.trans hg.symm)]

/-- Every other fragment is found as before. -/
theorem Block.frag_setFrag_other {b : Block} {i : Nat} {g : Frag} (h : g.desc.ident ≠ i) : (b.setFrag g).frag i = b.frag i := by
  rw [Block.frag, Block.setFrag, find?_map_ident fun x => by split <;> simp_all]
  change (b.frag i).map _ = _
  cases hf : b.frag i with
  | none => rfl
  | some f => rw [Option.map_some, if_neg fun hx => h (hx.symm.trans (Block.ident_of_frag hf))]

/-- Fragments changed one after another: nothing but the fragments changes. -/
theorem Block.foldl_setFrag_eq (h : Frag → Frag) (l : List Frag) (b : Block) :
    ∃ frags, l.foldl (fun c g => c.setFrag (h g)) b = { b with evb := { b.evb with frags := frags } } := by
  induction l generalizing b with
  | nil => exact ⟨b.evb.frags, rfl⟩
  | cons g l ih => exact ih _

/-- A fragment with none of their identities is found as before. -/
theorem Block.frag_foldl_setFrag {h : Frag → Frag} {i : Nat} (l : List Frag) (hl : ∀ g ∈ l, (h g).desc.ident ≠ i) (b : Block) :
    (l.foldl (fun c g => c.setFrag (h g)) b).frag i = b.frag i := by
  induction l generalizing b with
  | nil => rfl
  | cons g l ih =>
    rw [List.foldl_cons, ih (fun x hx => hl x (List.mem_cons_of_mem _ hx)), Block.frag_setFrag_other (hl g List.mem_cons_self)]

end Sys2Proof.Machine

/-! SUPPORT. Decisions: what applying one makes of its fragment, and what it leaves (R39 to R41, R289, R336). -/

namespace Sys2Proof.Machine

open Sys2Proof

/-! ### Acknowledgements (R290) -/

/-- An acknowledgement changes the decisions that the master repeats, or what is posted. -/
theorem Block.ackDecision_eq (b : Block) (m : DecisionAckMsg) :
    ∃ out posted, b.ackDecision m = { b with master := { b.master with out := out }, posted := posted } := by
  unfold Block.ackDecision
  split
  · exact ⟨_, b.posted, rfl⟩
  · split
    · exact ⟨b.master.out, _, rfl⟩
    · exact ⟨b.master.out, b.posted, rfl⟩

@[simp] theorem Block.ackDecision_regs (b : Block) (m : DecisionAckMsg) : (b.ackDecision m).regs = b.regs := by
  obtain ⟨out, posted, h⟩ := b.ackDecision_eq m
  rw [h]
@[simp] theorem Block.ackDecision_dram (b : Block) (m : DecisionAckMsg) : (b.ackDecision m).dram = b.dram := by
  obtain ⟨out, posted, h⟩ := b.ackDecision_eq m
  rw [h]
@[simp] theorem Block.ackDecision_evb (b : Block) (m : DecisionAckMsg) : (b.ackDecision m).evb = b.evb := by
  obtain ⟨out, posted, h⟩ := b.ackDecision_eq m
  rw [h]
@[simp] theorem Block.ackDecision_prims (b : Block) (m : DecisionAckMsg) : (b.ackDecision m).master.prims = b.master.prims := by
  obtain ⟨out, posted, h⟩ := b.ackDecision_eq m
  rw [h]
@[simp] theorem Block.ackDecision_get (b : Block) (m : DecisionAckMsg) (f : Field) : (b.ackDecision m).get f = b.get f :=
  Block.get_of_regs (b.ackDecision_regs m) f

/-! ### A new window (R281, R336) -/

/-- A new window counts a clip, and changes nothing else of the block. -/
theorem Block.rewindow_fst (b : Block) (f : Frag) (pre post : Nat) :
    (b.rewindow f pre post).1 =
      if (clipWindow (retention (b.loadAt b.epochNow b.groupCount)) pre post f.tail.isSome).2.2 then b.bump F.TRG_CLIP_CNT else b := by
  unfold Block.rewindow
  dsimp only
  generalize clipWindow (retention (b.loadAt b.epochNow b.groupCount)) pre post f.tail.isSome = w
  generalize (if w.2.2 = true then b.bump F.TRG_CLIP_CNT else b) = b1
  generalize (if f.tail.isSome = true then streamSamples f.trig w.1 w.2.1 else w.1 + w.2.1) = want
  split
  · rfl
  · split <;> rfl

/-- A fragment with a new window keeps its name, its state and its decisions, and is built from nothing. -/
theorem Block.rewindow_snd (b : Block) (f : Frag) (pre post : Nat) :
    let g := (b.rewindow f pre post).2
    g.desc.ident = f.desc.ident ∧ g.desc.seg = f.desc.seg ∧ g.st = f.st ∧ g.taken = f.taken ∧ g.content = none ∧ g.records = none := by
  unfold Block.rewindow
  dsimp only
  generalize clipWindow (retention (b.loadAt b.epochNow b.groupCount)) pre post f.tail.isSome = w
  generalize (if w.2.2 = true then b.bump F.TRG_CLIP_CNT else b) = b1
  generalize (if f.tail.isSome = true then streamSamples f.trig w.1 w.2.1 else w.1 + w.2.1) = want
  split
  · exact ⟨rfl, rfl, rfl, rfl, rfl, rfl⟩
  · split <;> exact ⟨rfl, rfl, rfl, rfl, rfl, rfl⟩

/-- With unbounded retention and staging for the whole window, the window is the one asked for. -/
theorem Block.rewindow_unclipped {b : Block} {f : Frag} {pre post : Nat} (htail : f.tail = none)
    (hret : retention (b.loadAt b.epochNow b.groupCount) = none)
    (hroom : chunksFor ((b.cfgOf f.key).res f.desc.group f.desc.readout (pre + post)) ≤ b.freeChunks + f.chunks) :
    (b.rewindow f pre post).2.desc.winLen = pre + post ∧ (b.rewindow f pre post).2.start = f.tick - 25 * pre := by
  have hclip : clipWindow (retention (b.loadAt b.epochNow b.groupCount)) pre post false = (pre, post, false) := by rw [hret]; rfl
  simp [Block.rewindow, htail, hclip, hroom]

/-! ### The transition of R41 -/

/-- The transition of a fragment whose state and decision the table of R41 joins. -/
theorem Block.transition_isSome {b : Block} {m : DecisionMsg} {f : Frag} (hkind : m.kind = 1 ∨ m.kind = 2 ∨ m.kind = 3)
    (hst : f.st = .speculative ∨ (f.st = .accepted ∧ m.kind = 3)) : ∃ r, b.transition m f = some r := by
  rcases hst with hst | ⟨hst, hkind3⟩
  · rcases hkind with hkind | hkind | hkind <;> simp [Block.transition, hst, hkind]
  · simp [Block.transition, hst, hkind3]

/-- A transition changes nothing of the block but a count of clips, and keeps the fragment's name. -/
theorem Block.transition_keeps {b : Block} {m : DecisionMsg} {f : Frag} {r : Block × Frag} (h : b.transition m f = some r) :
    (r.1 = b ∨ r.1 = b.bump F.TRG_CLIP_CNT) ∧ r.2.desc.ident = f.desc.ident ∧ r.2.desc.seg = f.desc.seg := by
  have hclip (g : Frag) : (b.rewindow g m.newPre m.newPost).1 = b ∨ (b.rewindow g m.newPre m.newPost).1 = b.bump F.TRG_CLIP_CNT := by
    rw [Block.rewindow_fst]
    split
    · exact .inr rfl
    · exact .inl rfl
  unfold Block.transition at h
  split at h <;> cases h
  · exact ⟨.inl rfl, rfl, rfl⟩
  · exact ⟨.inl rfl, rfl, rfl⟩
  · obtain ⟨hident, hseg, -⟩ := b.rewindow_snd { f with taken := f.taken ++ [(m.kind, m.term, m.eventNo)] } m.newPre m.newPost
    exact ⟨hclip _, hident, hseg⟩
  · obtain ⟨hident, hseg, -⟩ := b.rewindow_snd { f with taken := f.taken ++ [(m.kind, m.term, m.eventNo)] } m.newPre m.newPost
    exact ⟨hclip _, hident, hseg⟩

/-! ### A decision applied -/

/-- A segment that follows keeps its name. -/
theorem Frag.follow_ident (g f : Frag) : (g.follow f).desc.ident = g.desc.ident := by
  unfold Frag.follow
  dsimp only
  split <;> rfl

/-- Once a segment 0 is changed, a segment of it has another name: the fragments of its own name are the changed one. -/
theorem Block.ident_of_segmentsOf {b : Block} {f g x : Frag} (hident : g.desc.ident = f.desc.ident) (hseg : g.desc.seg = 0)
    (hx : x ∈ (b.setFrag g).segmentsOf f) : x.desc.ident ≠ f.desc.ident ∧ x ∈ b.segmentsOf f := by
  simp only [Block.segmentsOf, Block.setFrag, List.mem_filter, List.mem_map, Bool.and_eq_true, bne_iff_ne] at hx
  obtain ⟨⟨y, hy, rfl⟩, hseg', hparent⟩ := hx
  split at hseg'
  · exact absurd hseg hseg'
  · rename_i hne
    rw [if_neg hne] at hparent ⊢
    exact ⟨hident ▸ hne, by simpa [Block.segmentsOf, hy, hseg'] using hparent⟩

/-- What the term and the fragment make of a decision before its transition. -/
theorem Block.applyDecision_of_lowTerm {b : Block} {m : DecisionMsg} (h : m.term < b.get F.TRG_STAT_TERM) :
    b.applyDecision m = b.staleDecision m := if_pos h

theorem Block.applyDecision_of_unknown {b : Block} {m : DecisionMsg} (hterm : b.get F.TRG_STAT_TERM ≤ m.term) (h : b.frag m.ident = none) :
    b.applyDecision m = (b.heard m.term m.eventNo).staleDecision m := by
  have hfrag : ((b.resolveEpochs.seeTerm m.term).seeEvno m.eventNo).frag m.ident = none := by
    rw [← h]; exact congrArg (List.find? _) (b.heard_frags m.term m.eventNo)
  rw [Block.applyDecision, if_neg (by omega)]
  simp only [hfrag]
  rfl

theorem Block.applyDecision_of_frag {b : Block} {m : DecisionMsg} {f : Frag} (hterm : b.get F.TRG_STAT_TERM ≤ m.term)
    (h : b.frag m.ident = some f) : b.applyDecision m =
      (let b1 := b.heard m.term m.eventNo
       if f.st = .committed then b1.staleDecision m
       else if f.desc.seg ≠ 0 then (b1.bump F.TRG_BADDEC_CNT).ackDecision (ackOf m)
       else if f.taken.contains (m.kind, m.term, m.eventNo) then b1.ackDecision (ackOf m)
       else
         match b1.transition m f with
         | none => b1.staleDecision m
         | some r =>
           ((((r.1.setFrag r.2).segmentsOf f).foldl (fun c g => c.setFrag (g.follow r.2)) (r.1.setFrag r.2)).ackApplied m
             (f :: (r.1.setFrag r.2).segmentsOf f)).resolveEpochs) := by
  have hfrag : ((b.resolveEpochs.seeTerm m.term).seeEvno m.eventNo).frag m.ident = some f := by
    rw [← h]; exact congrArg (List.find? _) (b.heard_frags m.term m.eventNo)
  rw [Block.applyDecision, if_neg (by omega)]
  simp only [hfrag]
  rfl

/-- A fragment that a decision has changed, in the block that its segments have followed. -/
def Block.followed (b : Block) (f g : Frag) : Block := ((b.setFrag g).segmentsOf f).foldl (fun c x => c.setFrag (x.follow g)) (b.setFrag g)

theorem Block.followed_eq (b : Block) (f g : Frag) : ∃ frags, b.followed f g = { b with evb := { b.evb with frags := frags } } :=
  (b.setFrag g).foldl_setFrag_eq _ _

/-- The fragment is as it was changed. -/
theorem Block.frag_followed_same {b : Block} {i : Nat} {f g : Frag} (h : b.frag i = some f) (hident : g.desc.ident = f.desc.ident)
    (hseg : g.desc.seg = 0) : (b.followed f g).frag i = some g := by
  have hi := Block.ident_of_frag h
  rw [Block.followed, Block.frag_foldl_setFrag, Block.frag_setFrag_same h (hident.trans hi)]
  intro x hx
  rw [Frag.follow_ident, ← hi]
  exact (Block.ident_of_segmentsOf hident hseg hx).1

/-- Every fragment that is no segment of it is as before. -/
theorem Block.frag_followed_other {b : Block} {i : Nat} {f g : Frag} (hident : g.desc.ident = f.desc.ident) (hseg : g.desc.seg = 0)
    (hi : i ≠ f.desc.ident) (hsegs : ∀ x ∈ b.segmentsOf f, x.desc.ident ≠ i) : (b.followed f g).frag i = b.frag i := by
  rw [Block.followed, Block.frag_foldl_setFrag, Block.frag_setFrag_other fun h => hi (h.symm.trans hident)]
  intro x hx
  rw [Frag.follow_ident]
  exact hsegs x (Block.ident_of_segmentsOf hident hseg hx).2

/-- A decision that is new for a fragment of segment 0, without a mirror: its transition, its segments', the acknowledgement. -/
theorem Block.applyDecision_of_new {b : Block} {m : DecisionMsg} {f : Frag} {r : Block × Frag} (hterm : b.get F.TRG_STAT_TERM ≤ m.term)
    (hfrag : b.frag m.ident = some f) (hst : f.st ≠ .committed) (hseg : f.desc.seg = 0)
    (hnew : f.taken.contains (m.kind, m.term, m.eventNo) = false) (hup : b.mirrorUp = false)
    (hr : (b.heard m.term m.eventNo).transition m f = some r) :
    b.applyDecision m = ((r.1.followed f r.2).ackDecision (ackOf m)).resolveEpochs := by
  have hkeeps := (Block.transition_keeps hr).1
  have hup' : (r.1.followed f r.2).mirrorUp = false := by
    have hheard : (b.heard m.term m.eventNo).mirrorUp = false := by
      rw [← hup, Block.mirrorUp, Block.flag, Block.get_heard_other (by decide) (by decide) (by decide)]
      rfl
    obtain ⟨frags, hframe⟩ := r.1.followed_eq f r.2
    rw [hframe]
    rcases hkeeps with h | h
    · rw [h]; exact hheard
    · rw [h, ← hheard]
      exact congrArg (· != 0) (Block.get_bump_other (by decide))
  rw [Block.applyDecision_of_frag hterm hfrag]
  dsimp only
  rw [if_neg hst, if_neg (not_not.2 hseg), hnew, if_neg Bool.false_ne_true]
  simp only [hr]
  change ((r.1.followed f r.2).ackApplied m _).resolveEpochs = _
  rw [Block.ackApplied, hup', if_neg Bool.false_ne_true]

end Sys2Proof.Machine

/-! SUPPORT. Deadlines (R41), and the window of a superseded fragment as the block saw it before the decision (R336). -/

namespace Sys2Proof.Machine

open Sys2Proof

/-- Retention is reckoned as before a term and an event number were heard. -/
theorem Block.loadAt_heard (b : Block) (t n : Nat) :
    (b.heard t n).loadAt (b.heard t n).epochNow (b.heard t n).groupCount = b.loadAt b.epochNow b.groupCount := by
  have hepoch : (b.heard t n).epochNow = b.epochNow := by
    rw [Block.heard_eq, Block.resolveEpochs_eq]
    rfl
  have hring : (b.heard t n).ring = b.ring := by
    rw [Block.heard_eq]
    exact b.resolveEpochs_ring
  have hact (i : Nat) (hi : i ∈ ([0, 1, 2, 3] : List Nat)) : (b.heard t n).get (F.FT_GROUP_ACT i) = b.get (F.FT_GROUP_ACT i) :=
    Block.get_heard_other (by fin_cases hi <;> decide) (by fin_cases hi <;> decide) (by fin_cases hi <;> decide) t n
  have hgroups : (b.heard t n).groupCount = b.groupCount := by
    simp only [Block.groupCount, Block.groupMask]
    rw [List.map_congr_left fun i hi => by rw [hact i hi]]
  rw [hepoch, hgroups, Block.loadAt, Block.loadAt, hring]

/-- ACCEPT of a speculative fragment (R41). -/
theorem Block.transition_accept {b : Block} {m : DecisionMsg} {f : Frag} (hkind : m.kind = 1) (hst : f.st = .speculative) :
    b.transition m f = some (b, { f with
      taken := f.taken ++ [(m.kind, m.term, m.eventNo)], st := .accepted, builder := if m.noBuilder then none else some m.builder
      orig := if m.noBuilder then 0 else m.builder, desc := { f.desc with eventNo := m.eventNo, term := m.term } }) := by
  unfold Block.transition
  rw [hst, hkind]
  rfl

/-- REJECT of a speculative fragment (R41). -/
theorem Block.transition_reject {b : Block} {m : DecisionMsg} {f : Frag} (hkind : m.kind = 2) (hst : f.st = .speculative) :
    b.transition m f = some (b, { f with taken := f.taken ++ [(m.kind, m.term, m.eventNo)] }.discard) := by
  unfold Block.transition
  rw [hst, hkind]
  rfl

/-- SUPERSEDE of a speculative fragment is its new window (R336). -/
theorem Block.transition_supersede_speculative {b : Block} {m : DecisionMsg} {f : Frag} (hkind : m.kind = 3) (hst : f.st = .speculative) :
    b.transition m f = some (b.rewindow { f with taken := f.taken ++ [(m.kind, m.term, m.eventNo)] } m.newPre m.newPost) := by
  unfold Block.transition
  rw [hst, hkind]
  rfl

/-- SUPERSEDE of an accepted fragment is its new window and the decision's event number (R336). -/
theorem Block.transition_supersede_accepted {b : Block} {m : DecisionMsg} {f : Frag} (hkind : m.kind = 3) (hst : f.st = .accepted) :
    b.transition m f =
      (let r := b.rewindow { f with taken := f.taken ++ [(m.kind, m.term, m.eventNo)] } m.newPre m.newPost
       some (r.1, { r.2 with desc := { r.2.desc with eventNo := m.eventNo } })) := by
  unfold Block.transition
  rw [hst, hkind]
  rfl

/-- SUPERSEDE rebuilds the fragment from nothing, an accepted one with the decision's event number. -/
theorem Block.transition_supersede {b : Block} {m : DecisionMsg} {f : Frag} {r : Block × Frag} (hkind : m.kind = 3)
    (hst : f.st = .speculative ∨ f.st = .accepted) (hr : b.transition m f = some r) :
    r.2.st = f.st ∧ r.2.content = none ∧ r.2.records = none ∧ r.2.taken = f.taken ++ [(m.kind, m.term, m.eventNo)] ∧
      (f.st = .accepted → r.2.desc.eventNo = m.eventNo) ∧
      r.2.desc.winLen = (b.rewindow { f with taken := f.taken ++ [(m.kind, m.term, m.eventNo)] } m.newPre m.newPost).2.desc.winLen ∧
      r.2.start = (b.rewindow { f with taken := f.taken ++ [(m.kind, m.term, m.eventNo)] } m.newPre m.newPost).2.start := by
  obtain ⟨-, -, hst', htaken, hcontent, hrecords⟩ :=
    b.rewindow_snd { f with taken := f.taken ++ [(m.kind, m.term, m.eventNo)] } m.newPre m.newPost
  rcases hst with hst | hst
  · rw [Block.transition_supersede_speculative hkind hst] at hr
    obtain rfl := Option.some.inj hr
    exact ⟨hst', hcontent, hrecords, htaken, fun h => absurd (hst.symm.trans h) (by decide), rfl, rfl⟩
  · rw [Block.transition_supersede_accepted hkind hst] at hr
    obtain rfl := Option.some.inj hr
    exact ⟨hst', hcontent, hrecords, htaken, fun _ => rfl, rfl, rfl⟩

/-- What a decision that is new leaves of its block, and makes of its fragment (R39, R41). -/
theorem Block.applyDecision_new_spec {b : Block} {m : DecisionMsg} {f : Frag} {r : Block × Frag} (hm : m.term < 65536)
    (hterm : b.get F.TRG_STAT_TERM ≤ m.term) (hfrag : b.frag m.ident = some f) (hst : f.st ≠ .committed) (hseg : f.desc.seg = 0)
    (hnew : f.taken.contains (m.kind, m.term, m.eventNo) = false) (hup : b.mirrorUp = false)
    (hr : (b.heard m.term m.eventNo).transition m f = some r) :
    (b.applyDecision m).dram = b.dram ∧ (b.applyDecision m).frag m.ident = some r.2 ∧
      (b.applyDecision m).get F.TRG_STAT_TERM = m.term ∧
      ∀ i, i ≠ m.ident → (∀ x ∈ b.segmentsOf f, x.desc.ident ≠ i) → (b.applyDecision m).frag i = b.frag i := by
  obtain ⟨hclip, hident, hseg'⟩ := Block.transition_keeps hr
  have hname := Block.ident_of_frag hfrag
  obtain ⟨frags, hframe⟩ := r.1.followed_eq f r.2
  have hfrags : r.1.evb.frags = b.evb.frags := by rcases hclip with h | h <;> simp [h]
  have hbfrag (i : Nat) : r.1.frag i = b.frag i := congrArg (List.find? _) hfrags
  have hresult (i : Nat) : (b.applyDecision m).frag i = (r.1.followed f r.2).frag i := by
    rw [Block.applyDecision_of_new hterm hfrag hst hseg hnew hup hr]
    exact congrArg (List.find? _) (by simp)
  refine ⟨?_, ?_, ?_, fun i hi hsegs => ?_⟩
  · rw [Block.applyDecision_of_new hterm hfrag hst hseg hnew hup hr, Block.resolveEpochs_dram, Block.ackDecision_dram, hframe]
    rcases hclip with h | h <;> simp [h]
  · rw [hresult]
    exact Block.frag_followed_same ((hbfrag _).trans hfrag) hident (hseg'.trans hseg)
  · have hheard := Block.get_heard_term (n := m.eventNo) hterm hm
    have hr1 : r.1.get F.TRG_STAT_TERM = m.term := by
      rcases hclip with h | h
      · rw [h, hheard]
      · rw [h, Block.get_bump_other (by decide), hheard]
    rw [Block.applyDecision_of_new hterm hfrag hst hseg hnew hup hr, Block.resolveEpochs_get, Block.ackDecision_get, hframe]
    exact hr1
  · have hsegs' : ∀ x ∈ r.1.segmentsOf f, x.desc.ident ≠ i := by
      rw [Block.segmentsOf, hfrags]
      exact hsegs
    rw [hresult, Block.frag_followed_other hident (hseg'.trans hseg) (hname.symm ▸ hi) hsegs', hbfrag]

/-! ### Deadlines (R41) -/

/-- The deadline of a speculative fragment discards it and counts it, or orphans it. -/
theorem Block.deadlineOne_of_speculative {b : Block} {f : Frag} (hst : f.st = .speculative) :
    b.deadlineOne f = if b.get F.TRG_CTRL_DEADLINE_ACTION = 1 then (b.setFrag f.discard).bump F.EVB_DEADLINE_DISCARD
      else b.setFrag { f with st := .orphaned } := if_pos hst

/-- A fragment without segments takes its deadline alone. -/
theorem Block.deadlineFrag_of_noSegments {b : Block} {f : Frag} (h : b.segmentsOf f = []) : b.deadlineFrag f = b.deadlineOne f := by
  rw [Block.deadlineFrag, h, List.foldl_nil]

theorem decisionDeadline_of_none {b : Block} {i : Nat} (h : b.frag i = none) : decisionDeadline i b = b := by rw [decisionDeadline, h]

theorem decisionDeadline_of_frag {b : Block} {i : Nat} {f : Frag} (h : b.frag i = some f) : decisionDeadline i b =
    whenDue (f.undecided && f.desc.seg == 0 && b.past ((f.trig + b.deadlineRaw : Nat) : Int)) (fun b => (b.deadlineFrag f).resolveEpochs) b := by
  rw [decisionDeadline, h]

/-- The passed deadline of a fragment without segments. -/
theorem decisionDeadline_due {b : Block} {i : Nat} {f : Frag} (h : b.frag i = some f) (hst : f.st = .speculative) (hseg : f.desc.seg = 0)
    (hpast : b.past ((f.trig + b.deadlineRaw : Nat) : Int) = true) (hsegs : b.segmentsOf f = []) :
    decisionDeadline i b = (b.deadlineOne f).resolveEpochs := by
  have hcond : (f.undecided && f.desc.seg == 0 && b.past ((f.trig + b.deadlineRaw : Nat) : Int)) = true := by
    rw [hpast, Frag.undecided, hst, hseg]
    rfl
  rw [decisionDeadline_of_frag h, hcond, whenDue_true, Block.deadlineFrag_of_noSegments hsegs]

/-- One bump of a counter of 32 bits. -/
theorem Block.get_bump_32 {b : Block} {f : Field} (hw : f.width = 32) : (b.bump f).get f = min (2 ^ 32 - 1) (b.get f + 1) := by
  rw [Block.get_bump_same, hw]
  unfold satU
  split <;> omega

end Sys2Proof.Machine

namespace Sys2Proof.Proofs

open Sys2Proof Sys2Proof.Machine

/-- A decision of any kind, well-formed and with the concentrator on, goes through one path (R289). -/
theorem exec_decision {viaTree : Bool} {m : DecisionMsg} {s : State} (hwf : m.wf = true) (hon : s.hw.ccOn = true)
    (hkind : m.kind ∈ ([1, 2, 3] : List Nat)) :
    exec (if m.kind = 1 then .decisionAccept viaTree m else if m.kind = 2 then .decisionReject viaTree m else .decisionSupersede viaTree m) s =
      .next { s with hw := decisionRx viaTree m s.hw } := by
  have hk : m.kind = 1 ∨ m.kind = 2 ∨ m.kind = 3 := by simpa using hkind
  rcases hk with hk | hk | hk
  · rw [if_pos hk, exec_decisionAccept _ _ _ (by simp [Instr.wf, hwf, hk]), decisionAccept, hon, whenDue_true]
  · rw [if_neg (by omega), if_pos hk, exec_decisionReject _ _ _ (by simp [Instr.wf, hwf, hk]), decisionReject, hon, whenDue_true]
  · rw [if_neg (by omega), if_neg (by omega), exec_decisionSupersede _ _ _ (by simp [Instr.wf, hwf, hk]), decisionSupersede, hon,
      whenDue_true]

/-- A decision for this module, outside a gap and without a HOT standby, is applied. -/
theorem decisionRx_of_self {viaTree : Bool} {m : DecisionMsg} {b : Block} (hself : b.isSelf (identNode m.ident) = true)
    (hgap : b.pair.gap = none) (hsb : b.get F.PAIR_STAT_SB_STATE ≠ 4) : decisionRx viaTree m b = b.applyDecision m := by
  rw [decisionRx, if_pos hself, Block.receiveDecision, hgap, if_neg (by simp), if_neg hsb]

/-- A decision for another node goes down the tree by the port of its primitives. -/
theorem decisionRx_of_other {viaTree : Bool} {m : DecisionMsg} {b : Block} {p : Nat} (hself : b.isSelf (identNode m.ident) = false)
    (hport : lookup b.fab.primPort (identNode m.ident) = some p) : decisionRx viaTree m b =
      if viaTree then (b.heard m.term m.eventNo).post (.hop p) 2 (.decision m) else b.heard m.term m.eventNo := by
  have hfab : lookup ((b.resolveEpochs.seeTerm m.term).seeEvno m.eventNo).fab.primPort (identNode m.ident) = some p := by
    rw [← hport]
    exact congrArg (fun x : FabSt => lookup x.primPort _) (b.heard_fab m.term m.eventNo)
  rw [decisionRx, hself, if_neg Bool.false_ne_true]
  simp only [hfab]
  rfl

/-- Settles O53: a decision's path is one equation, its fragment is found through the transition and its segments, and resolution is one
step over the epochs. -/
theorem fragmentsTakeDecisions : Obligations.FragmentsTakeDecisions := by
  unfold Obligations.FragmentsTakeDecisions
  intro s b
  refine ⟨?_, fun ident hident => ⟨fun hfrag => ?_, fun f hfrag => ⟨fun hnot => ?_, fun hst hseg hpast hsegs => ?_⟩⟩, fun hon => ?_⟩
  · intro viaTree m hwf hon c hkind seen taken
    refine ⟨fun hself hgap hsb => ?_, fun hself p hport => ?_⟩
    · have hexec : exec c s = .next { s with hw := b.applyDecision m } := by
        rw [exec_decision hwf hon hkind, decisionRx_of_self hself hgap hsb]
      have hm : m.term < 65536 := by
        simp only [DecisionMsg.wf, Bool.and_eq_true, decide_eq_true_eq] at hwf
        omega
      refine ⟨fun hlow => ?_, fun hterm hnone => ?_, fun f hterm hfrag => ⟨fun hst => ?_, fun hseg hnew hup hst => ?_⟩⟩
      · rw [hexec, Block.applyDecision_of_lowTerm hlow]
        rfl
      · rw [hexec, Block.applyDecision_of_unknown hterm hnone]
        rfl
      · rw [hexec, Block.applyDecision_of_frag hterm hfrag]
        dsimp only
        rw [if_pos hst]
        rfl
      · have hk : m.kind = 1 ∨ m.kind = 2 ∨ m.kind = 3 := by simpa using hkind
        have hcommitted : f.st ≠ .committed := by rcases hst with h | ⟨h, -⟩ <;> simp [h]
        have hspec (h3 : m.kind ≠ 3) : f.st = .speculative := hst.resolve_right fun h => h3 h.2
        obtain ⟨r, hr⟩ := Block.transition_isSome (b := b.heard m.term m.eventNo) hk hst
        obtain ⟨hdram, hsame, hget, hother⟩ := Block.applyDecision_new_spec hm hterm hfrag hcommitted hseg hnew hup hr
        refine ⟨_, r.2, hexec, rfl, hdram, hsame, hget, hother, fun hk1 => ?_, fun hk2 => ?_, fun hk3 => ?_⟩
        · rw [Block.transition_accept hk1 (hspec (by omega))] at hr
          exact (congrArg Prod.snd (Option.some.inj hr)).symm
        · rw [Block.transition_reject hk2 (hspec (by omega))] at hr
          exact (congrArg Prod.snd (Option.some.inj hr)).symm
        · obtain ⟨hst', hcontent, hrecords, htaken, hevno, hwin, hstart⟩ := Block.transition_supersede hk3 (hst.imp_right And.left) hr
          refine ⟨hst', hcontent, hrecords, htaken, hevno, fun htail hret hroom => ?_⟩
          rw [hwin, hstart]
          refine Block.rewindow_unclipped (f := taken f) htail ?_ ?_
          · rw [Block.loadAt_heard, hret]
          · rw [Block.heard_freeChunks]
            exact hroom
    · rw [exec_decision hwf hon hkind, decisionRx_of_other hself hport]
      rfl
  · rw [exec_decisionDeadline _ _ (decide_eq_true hident), decisionDeadline_of_none hfrag]
  · have hcond : (f.undecided && f.desc.seg == 0 && b.past ((f.trig + b.deadlineRaw : Nat) : Int)) = false := by
      rcases hnot with h | h | h
      · simp [Frag.undecided, h]
      · simp [h]
      · rw [h, Bool.and_false]
    rw [exec_decisionDeadline _ _ (decide_eq_true hident), decisionDeadline_of_frag hfrag, hcond, whenDue_false]
  · have hname := Block.ident_of_frag hfrag
    have hexec : exec (.decisionDeadline ident) s = .next { s with hw := (b.deadlineOne f).resolveEpochs } := by
      rw [exec_decisionDeadline _ _ (decide_eq_true hident), decisionDeadline_due hfrag hst hseg hpast hsegs]
    refine ⟨_, hexec, rfl, ?_, fun haction => ?_, fun haction => ?_, fun i hi => ?_⟩ <;> rw [Block.deadlineOne_of_speculative hst]
    · rw [Block.resolveEpochs_dram]
      split <;> rfl
    · rw [if_pos haction, Block.resolveEpochs_get, Block.get_bump_32 rfl]
      exact ⟨(congrArg (List.find? _) (Block.resolveEpochs_frags _)).trans (Block.frag_setFrag_same hfrag hname), rfl⟩
    · rw [if_neg haction, Block.resolveEpochs_regs]
      exact ⟨(congrArg (List.find? _) (Block.resolveEpochs_frags _)).trans (Block.frag_setFrag_same hfrag hname), rfl⟩
    · refine (congrArg (List.find? _) (Block.resolveEpochs_frags _)).trans ?_
      split
      · exact Block.frag_setFrag_other fun h => hi (h.symm.trans hname)
      · exact Block.frag_setFrag_other fun h => hi (h.symm.trans hname)
  · rw [exec_emptyEpochDeadline _ rfl, emptyEpochDeadline, hon, whenDue_true, Block.resolveEpochs_eq]
    rfl

end Sys2Proof.Proofs

/-! SUPPORT. Merge slots: how one is found, opened and filled, what a completed merge leaves (R345 to R350). -/

namespace Sys2Proof.Machine

open Sys2Proof

/-- A block with one more merge slot. -/
def Block.addSlot (b : Block) (x : MergeSlot) : Block := { b with evb := { b.evb with slots := b.evb.slots ++ [x] } }

/-! ### The slot of an event -/

/-- No open slot has an event number. -/
theorem find?_openSlots_eq_none {b : Block} {n : Nat} (h : ∀ x ∈ b.openSlots, x.eventNo ≠ n) :
    b.openSlots.find? (fun y => y.eventNo == n) = none :=
  List.find?_eq_none.2 fun x hx => by simpa using h x hx

/-- An open slot that is found has the event number and gathers no late fragment. -/
theorem eventNo_of_find?_openSlots {b : Block} {n : Nat} {x : MergeSlot} (h : b.openSlots.find? (fun y => y.eventNo == n) = some x) :
    x.eventNo = n ∧ x.late = false := by
  have hmem := List.mem_of_find?_eq_some h
  simp only [Block.openSlots, List.mem_filter, Bool.not_eq_true'] at hmem
  exact ⟨by simpa using List.find?_some h, hmem.2⟩

theorem Block.slotFor_of_none {b : Block} {n : Nat} (h : ∀ x ∈ b.openSlots, x.eventNo ≠ n) (term orig : Nat) (reassigned : Bool) :
    b.slotFor n term orig reassigned =
      (b.addSlot ⟨n, term, none, b.tick, [], reassigned, orig, false⟩, ⟨n, term, none, b.tick, [], reassigned, orig, false⟩) := by
  rw [Block.slotFor, find?_openSlots_eq_none h]
  rfl

theorem Block.slotFor_of_some {b : Block} {n : Nat} {x : MergeSlot} (h : b.openSlots.find? (fun y => y.eventNo == n) = some x)
    (term orig : Nat) (reassigned : Bool) : b.slotFor n term orig reassigned = (b, x) := by
  rw [Block.slotFor, h]

/-- A slot that has just been opened is replaced alone. -/
theorem Block.setSlot_addSlot {b : Block} {x y : MergeSlot} (hnew : ∀ z ∈ b.openSlots, z.eventNo ≠ y.eventNo) (hx : x.eventNo = y.eventNo)
    (hxl : x.late = false) (hyl : y.late = false) : (b.addSlot x).setSlot y = b.addSlot y := by
  have hold : b.evb.slots.map (fun z => if z.eventNo = y.eventNo && !z.late && !y.late then y else z) = b.evb.slots := by
    refine (List.map_congr_left fun z hz => ?_).trans (List.map_id _)
    rw [if_neg]
    · rfl
    · intro h
      simp only [Bool.and_eq_true, decide_eq_true_eq, Bool.not_eq_true'] at h
      exact hnew z (by simp [Block.openSlots, hz, h.1.2]) h.1.1
  have hone : (if x.eventNo = y.eventNo && !x.late && !y.late then y else x) = y := by simp [hx, hxl, hyl]
  rw [Block.setSlot, Block.addSlot, Block.addSlot]
  dsimp only
  rw [List.map_append, hold, List.map_cons, List.map_nil, hone]

/-- A slot that has just been opened and is not complete stands as it was changed. -/
theorem Block.checkSlot_addSlot {b : Block} {x y : MergeSlot} (hnew : ∀ z ∈ b.openSlots, z.eventNo ≠ y.eventNo)
    (hx : x.eventNo = y.eventNo) (hxl : x.late = false) (hyl : y.late = false) (hy : y.complete = false) :
    (b.addSlot x).checkSlot y = b.addSlot y := by
  rw [Block.checkSlot, hy, if_neg Bool.false_ne_true, Block.setSlot_addSlot hnew hx hxl hyl]

/-- An empty slot takes no staging. -/
theorem Block.freeChunks_addSlot {b : Block} {x : MergeSlot} (h : x.parts = []) : (b.addSlot x).freeChunks = b.freeChunks := by
  simp [Block.freeChunks, EvbSt.usedChunks, Block.addSlot, h]

/-- A slot whose map names a node is not complete before a part is whole. -/
theorem MergeSlot.complete_of_empty {x : MergeSlot} {k : Nat} (hmap : x.map = some k) (hparts : x.parts = [])
    (hbit : ∃ i < 4096, bitAt k i = true) : x.complete = false := by
  obtain ⟨i, hi, hbit⟩ := hbit
  have hmem : i ∈ mapNodes k := List.mem_filter.2 ⟨List.mem_range.2 hi, hbit⟩
  rw [MergeSlot.complete, hmap, Bool.eq_false_iff]
  intro hall
  have hin := List.all_eq_true.1 hall i hmem
  simp [MergeSlot.present, hparts] at hin

/-- A slot without an ANNOUNCE is not complete (R348). -/
theorem MergeSlot.complete_of_noMap {x : MergeSlot} (h : x.map = none) : x.complete = false := by rw [MergeSlot.complete, h]

/-! ### A fragment of one frame -/

/-- The part that a fragment of one frame makes. -/
def wholePartOf (m : DataMsg) : MergePart := ⟨m.ident, m.words, 1, m.total, chunksFor (4 * m.total), m.poison, true⟩

/-- A slot with one more part, and the original builder that a reassigned fragment names (R352). -/
def MergeSlot.withPart (x : MergeSlot) (m : DataMsg) : MergeSlot :=
  { x with
    parts := x.parts ++ [wholePartOf m], reassigned := x.reassigned || m.reassigned, orig := if m.reassigned then m.origBuilder else x.orig }

/-- The first frame of a fragment that staging does not cover is put into no slot. -/
theorem Block.partTake_full {b : Block} {x : MergeSlot} {m : DataMsg} (hindex : m.index = 0) (hnew : ∀ p ∈ x.parts, p.ident ≠ m.ident)
    (hroom : b.freeChunks < chunksFor (4 * m.total)) : b.partTake x m = none := by
  have hown : x.parts.filter (fun p => p.ident == m.ident) = [] := List.filter_eq_nil_iff.2 fun p hp => by simpa using hnew p hp
  rw [Block.partTake, if_pos hindex]
  simp only [hown]
  exact if_pos hroom

/-- The one frame of a fragment new to a slot is a whole part of it. -/
theorem Block.partTake_whole {b : Block} {x : MergeSlot} {m : DataMsg} (hindex : m.index = 0) (hnew : ∀ p ∈ x.parts, p.ident ≠ m.ident)
    (hroom : chunksFor (4 * m.total) ≤ b.freeChunks) (hlast : m.last = true) (hlen : m.words.length = m.total) :
    b.partTake x m = some { x with parts := x.parts ++ [wholePartOf m] } := by
  have hown : x.parts.filter (fun p => p.ident == m.ident) = [] := List.filter_eq_nil_iff.2 fun p hp => by simpa using hnew p hp
  have hrest : x.parts.filter (fun p => p.ident != m.ident) = x.parts := List.filter_eq_self.2 fun p hp => by simpa using hnew p hp
  have hpart : (MergePart.mk m.ident [] 0 m.total (chunksFor (4 * m.total)) false false).take m = wholePartOf m := by
    simp [MergePart.take, wholePartOf, hindex, hlast, hlen]
  rw [Block.partTake, if_pos hindex]
  simp only [hown, hrest, hpart]
  exact if_neg (by simpa using hroom)

/-! ### A frame at a builder -/

theorem Block.takeData_of_seen {b : Block} {m : DataMsg} {x : SeenFrag} (h : b.evb.seen.find? (fun y => y.ident == m.ident) = some x) :
    b.takeData m =
      if m.last then (if x.done then (b.bump F.EVB_DUP_FRAGMENT).sendAck x.ack else b.bump F.EVB_DUP_FRAGMENT) else b := by
  rw [Block.takeData]
  simp only [h]

theorem Block.takeData_of_late {b : Block} {m : DataMsg} (h : b.evb.seen.find? (fun y => y.ident == m.ident) = none)
    (hlate : b.resolved2s (b.identKey m.ident) = true) : b.takeData m = if m.last then b.bump F.EVB_LATE_DROP else b := by
  rw [Block.takeData]
  simp only [h]
  exact if_pos hlate

/-- The first frame of a fragment that the slot of its event does not hold, and that staging does not cover, is counted. -/
theorem Block.takeData_full {b c : Block} {m : DataMsg} {x : MergeSlot} (h : b.evb.seen.find? (fun y => y.ident == m.ident) = none)
    (hlate : b.resolved2s (b.identKey m.ident) = false) (hmerged : b.mergedEvent m.eventNo = false)
    (hslot : b.slotFor m.eventNo m.term m.origBuilder m.reassigned = (c, x)) (hnew : ∀ p ∈ x.parts, p.ident ≠ m.ident)
    (hindex : m.index = 0) (hroom : c.freeChunks < chunksFor (4 * m.total)) : b.takeData m = c.bump F.EVB_MERGE_FULL_CNT := by
  have hany : (x.parts.any fun p => p.ident == m.ident && p.whole) = false := List.any_eq_false.2 fun p hp => by simp [hnew p hp]
  rw [Block.takeData]
  simp only [h, hlate, hmerged, hslot, hany, if_neg Bool.false_ne_true, Block.partTake_full hindex hnew hroom]

/-- The one frame of a fragment that the slot of its event does not hold is a whole part of it. -/
theorem Block.takeData_whole {b c : Block} {m : DataMsg} {x : MergeSlot} (h : b.evb.seen.find? (fun y => y.ident == m.ident) = none)
    (hlate : b.resolved2s (b.identKey m.ident) = false) (hmerged : b.mergedEvent m.eventNo = false)
    (hslot : b.slotFor m.eventNo m.term m.origBuilder m.reassigned = (c, x)) (hnew : ∀ p ∈ x.parts, p.ident ≠ m.ident)
    (hindex : m.index = 0) (hroom : chunksFor (4 * m.total) ≤ c.freeChunks) (hlast : m.last = true) (hlen : m.words.length = m.total) :
    b.takeData m = c.checkSlot (x.withPart m) := by
  have hany : (x.parts.any fun p => p.ident == m.ident && p.whole) = false := List.any_eq_false.2 fun p hp => by simp [hnew p hp]
  rw [Block.takeData]
  simp only [h, hlate, hmerged, hslot, hany, if_neg Bool.false_ne_true, Block.partTake_whole hindex hnew hroom hlast hlen]
  rfl

/-! ### A completed merge (R347) -/

/-- An epoch that is changed without its key is found changed. -/
theorem Block.epochSt_modEpoch {b : Block} {k : Nat} {e : EpochSt} {f : EpochSt → EpochSt} (hf : ∀ x, (f x).key = x.key)
    (h : b.epochSt k = some e) : (b.modEpoch k f).epochSt k = some (f e) := by
  have hkey : e.key = k := by simpa using List.find?_some h
  have hpred : ((fun x : EpochSt => x.key == k) ∘ fun x => if x.key = k then f x else x) = fun x => x.key == k :=
    funext fun x => by
      simp only [Function.comp_apply]
      split
      · rw [hf]
      · rfl
  rw [Block.epochSt, Block.modEpoch]
  dsimp only
  rw [List.find?_map, hpred]
  change (b.epochSt k).map _ = _
  rw [h, Option.map_some, if_pos hkey]

/-- No open slot of its event is left. -/
theorem Block.late_of_mem_completeSlot {b : Block} {x y : MergeSlot} (h : y ∈ (b.completeSlot x).evb.slots) (he : y.eventNo = x.eventNo) :
    y.late = true := by
  simp only [Block.completeSlot, List.mem_filter, he, beq_self_eq_true, Bool.true_and, Bool.not_not] at h
  exact h.2

theorem Block.mergedEvent_completeSlot (b : Block) (x : MergeSlot) : (b.completeSlot x).mergedEvent x.eventNo = true := by
  simp [Block.mergedEvent, Block.completeSlot]

/-- The identities of its whole fragments are remembered (R350). -/
theorem Block.seen_completeSlot {b : Block} {x : MergeSlot} {p : MergePart} (hp : p ∈ x.parts) (hwhole : p.whole = true) :
    (b.completeSlot x).evb.seen.any (fun y => y.ident == p.ident) = true := by
  refine List.any_eq_true.2 ⟨⟨p.ident, b.identKey p.ident, false, x.ackFor p.ident⟩, ?_, by simp⟩
  exact List.mem_append_right _ (List.mem_map.2 ⟨p, List.mem_filter.2 ⟨hp, hwhole⟩, rfl⟩)

/-- The epoch that runs holds the merge. -/
theorem Block.epochSt_completeSlot {b : Block} {x : MergeSlot} {e : EpochSt} (h : b.epochSt b.epochNow = some e) :
    (b.completeSlot x).epochSt b.epochNow = some { e with merges := e.merges ++
      [⟨{ x with parts := x.parts.filter (·.whole) }, x.contributors, !x.complete, x.map.isNone, b.stampRaw, false⟩] } :=
  Block.epochSt_modEpoch (fun _ => rfl) h

/-! ### A contributor (R346) -/

/-- Messages posted one after another. -/
theorem foldl_post_map {α : Type} (d : Dest) (cls : Nat) (msg : α → Msg) (l : List α) (b : Block) :
    l.foldl (fun c m => c.post d cls (msg m)) b = { b with posted := b.posted ++ l.map fun m => ⟨d, cls, msg m, false⟩ } := by
  induction l generalizing b with
  | nil => simp
  | cons m l ih => rw [List.foldl_cons, ih]; simp [Block.post]

theorem Block.sendFragment_of_other {b : Block} {f : Frag} {n : Nat} (hbuilder : f.builder = some n) (hself : b.isSelf n = false) :
    b.sendFragment f = { b.setFrag { f with sent := b.tick } with
      posted := b.posted ++ f.frames.map fun m => ⟨.node n, 1, .data m, false⟩ } := by
  rw [Block.sendFragment]
  simp only [hbuilder, hself, if_neg Bool.false_ne_true]
  rw [foldl_post_map]
  rfl

theorem Block.retire_of_noTail {b : Block} {f : Frag} (h : f.tail = none) :
    b.retire f = { b with evb := { b.evb with frags := b.evb.frags.filter fun g => g.desc.ident != f.desc.ident } } := by
  rw [Block.retire, h]
  rfl

theorem fragmentResend_of_frag {b : Block} {i : Nat} {f : Frag} (h : b.frag i = some f) : fragmentResend i b =
    whenDue (b.ccOn && f.st == .committed && f.builder.isSome &&
      decide (f.sent + max 100 ((b.cfgOf b.epochNow).get F.EVB_RESEND) * usTicks ≤ b.tick) && !b.resolved2s f.key)
      (fun b => b.sendFragment f) b := by
  rw [fragmentResend, h]

theorem fragmentAbandon_of_frag {b : Block} {i : Nat} {f : Frag} (h : b.frag i = some f) : fragmentAbandon i b =
    whenDue (b.ccOn && f.st == .committed && f.builder.isSome && b.resolved2s f.key) (fun b => (b.bump F.EVB_ABANDON_CNT).retire f) b := by
  rw [fragmentAbandon, h]

theorem mergeTimeout_of_none {b : Block} {n : Nat} (h : ∀ x ∈ b.openSlots, x.eventNo ≠ n) : mergeTimeout n b = b := by
  rw [mergeTimeout, find?_openSlots_eq_none h]

theorem mergeTimeout_of_some {b : Block} {n : Nat} {x : MergeSlot} (h : b.openSlots.find? (fun y => y.eventNo == n) = some x) :
    mergeTimeout n b = whenDue (b.ccOn && decide (x.opened + b.fragTimeout ≤ b.tick)) (fun b => b.completeSlot x) b := by
  rw [mergeTimeout, h]

theorem Block.takeAck_of_none {b : Block} {m : FragAckMsg} (h : b.frag m.ident = none) : b.takeAck m = b := by rw [Block.takeAck, h]

theorem Block.takeAck_of_frag {b : Block} {m : FragAckMsg} {f : Frag} (h : b.frag m.ident = some f) :
    b.takeAck m = if f.st = .committed && f.builder.isSome then b.retire f else b := by rw [Block.takeAck, h]

end Sys2Proof.Machine

namespace Sys2Proof.Proofs

open Sys2Proof Sys2Proof.Machine

/-- An ANNOUNCE that the builder takes. -/
theorem exec_announce {m : AnnounceMsg} {s : State} (hwf : m.wf = true) (hon : s.hw.ccOn = true) (hquar : s.hw.flag F.FAB_STAT_QUAR = false) :
    exec (.announceRx m) s = .next { s with hw := s.hw.announce m } := by
  rw [exec_announceRx _ _ hwf, announceRx, hon, hquar]
  rfl

/-- A DATA frame that the builder takes. -/
theorem exec_takeData {m : DataMsg} {s : State} (hwf : m.wf = true) (hon : s.hw.ccOn = true) (hquar : s.hw.flag F.FAB_STAT_QUAR = false) :
    exec (.fragmentDataRx m) s = .next { s with hw := s.hw.takeData m } := by
  rw [exec_fragmentDataRx _ _ hwf, fragmentDataRx, hon, hquar]
  rfl

/-- An ACK that the contributor takes. -/
theorem exec_takeAck {m : FragAckMsg} {s : State} (hwf : m.wf = true) (hon : s.hw.ccOn = true) :
    exec (.fragmentAckRx m) s = .next { s with hw := s.hw.takeAck m } := by
  rw [exec_fragmentAckRx _ _ hwf, fragmentAckRx, hon, whenDue_true]

/-- Settles O55: each message meets its slot, its part or its fragment through one equation, and a completed merge is read off field by
field. -/
theorem buildersMergeFragments : Obligations.BuildersMergeFragments := by
  unfold Obligations.BuildersMergeFragments
  intro s b
  refine ⟨?announce, ?data, ?timeout, ?ack, ?contributor⟩
  case announce =>
    intro m hwf hon hquar slot
    refine ⟨fun hmerged => ?_, fun hmerged hnew hbit => ?_⟩
    · rw [exec_announce hwf hon hquar, Block.announce, if_pos hmerged]
    · have hcomplete : slot.complete = false := MergeSlot.complete_of_empty rfl rfl hbit
      rw [exec_announce hwf hon hquar, Block.announce, hmerged, if_neg Bool.false_ne_true, Block.slotFor_of_none hnew]
      exact congrArg (fun c => Host.Outcome.next { s with hw := c })
        (Block.checkSlot_addSlot (x := { slot with map := none }) (y := slot) hnew rfl rfl rfl hcomplete)
  case data =>
    intro m hwf hon hquar
    refine ⟨fun x hx => ⟨fun hlast => ?_, fun hlast hdone => ?_, fun hlast hdone => ?_⟩, fun hseen => ⟨fun hlate hlast => ?_, ?_⟩⟩
    · rw [exec_takeData hwf hon hquar, Block.takeData_of_seen hx, hlast, if_neg Bool.false_ne_true]
    · rw [exec_takeData hwf hon hquar, Block.takeData_of_seen hx, hlast, hdone, if_pos rfl, if_neg Bool.false_ne_true]
    · rw [exec_takeData hwf hon hquar, Block.takeData_of_seen hx, hlast, hdone, if_pos rfl, if_pos rfl]
    · rw [exec_takeData hwf hon hquar, Block.takeData_of_late hseen hlate, hlast, if_pos rfl]
    · intro hlate hmerged hindex chunks part empty
      have hnone : ∀ p ∈ empty.parts, p.ident ≠ m.ident := fun p hp => absurd hp List.not_mem_nil
      have hfree : (b.addSlot empty).freeChunks = b.freeChunks := Block.freeChunks_addSlot rfl
      refine ⟨fun hnew => ⟨fun hroom => ?_, fun hroom hlast hlen => ?_⟩, ?_⟩
      · rw [exec_takeData hwf hon hquar,
          Block.takeData_full hseen hlate hmerged (Block.slotFor_of_none hnew _ _ _) hnone hindex (hfree.symm ▸ hroom)]
        rfl
      · have hwhole : empty.withPart m = { empty with parts := [part] } := by
          simp [MergeSlot.withPart, empty, part, wholePartOf, chunks]
        rw [exec_takeData hwf hon hquar,
          Block.takeData_whole hseen hlate hmerged (Block.slotFor_of_none hnew _ _ _) hnone hindex (hfree.symm ▸ hroom) hlast hlen]
        exact congrArg (fun c => Host.Outcome.next { s with hw := c }) ((congrArg (b.addSlot empty).checkSlot hwhole).trans
          (Block.checkSlot_addSlot (x := empty) (y := { empty with parts := [part] }) hnew rfl rfl rfl (MergeSlot.complete_of_noMap rfl)))
      · intro x hx hparts hroom hlast hlen whole
        have htake : exec (.fragmentDataRx m) s = .next { s with hw := b.checkSlot whole } := by
          rw [exec_takeData hwf hon hquar,
            Block.takeData_whole hseen hlate hmerged (Block.slotFor_of_some hx _ _ _) hparts hindex hroom hlast hlen]
          rfl
        refine ⟨fun hcomplete => ?_, fun hcomplete => ?_⟩
        · rw [htake, Block.checkSlot, if_pos hcomplete]
        · rw [htake, Block.checkSlot, hcomplete, if_neg Bool.false_ne_true]
  case timeout =>
    intro n hn
    have hexec := exec_mergeTimeout n s (decide_eq_true hn)
    refine ⟨fun hnone => ?_, fun x hx => ⟨fun hearly => ?_, fun hon hdue => ?_⟩⟩
    · rw [hexec, mergeTimeout_of_none hnone]
    · rw [hexec, mergeTimeout_of_some hx, decide_eq_false (by omega), Bool.and_false, whenDue_false]
    · obtain ⟨rfl, -⟩ := eventNo_of_find?_openSlots hx
      rw [mergeTimeout_of_some hx, hon, decide_eq_true hdue, Bool.and_true, whenDue_true] at hexec
      exact ⟨_, hexec, rfl, rfl, rfl, rfl, fun y hy he => Block.late_of_mem_completeSlot hy he, b.mergedEvent_completeSlot x,
        fun p hp hwhole => Block.seen_completeSlot hp hwhole, fun e he => Block.epochSt_completeSlot he⟩
  case ack =>
    intro m hwf hon
    refine ⟨fun hfrag => ?_, fun f hfrag => ⟨fun hnot => ?_, fun hst hbuilder htail => ?_⟩⟩
    · rw [exec_takeAck hwf hon, Block.takeAck_of_none hfrag]
    · have hcond : ¬ (f.st = .committed && f.builder.isSome) = true := by rcases hnot with h | h <;> simp [h]
      rw [exec_takeAck hwf hon, Block.takeAck_of_frag hfrag, if_neg hcond]
    · rw [exec_takeAck hwf hon, Block.takeAck_of_frag hfrag, if_pos (by simp [hst, hbuilder]), Block.retire_of_noTail htail,
        Block.ident_of_frag hfrag]
  case contributor =>
    intro ident hident
    have hresend := exec_fragmentResend ident s (decide_eq_true hident)
    have habandon := exec_fragmentAbandon ident s (decide_eq_true hident)
    refine ⟨fun hfrag => ⟨?_, ?_⟩, ?_, ?_⟩
    · rw [hresend, fragmentResend, hfrag]
    · rw [habandon, fragmentAbandon, hfrag]
    · intro f hfrag gap
      refine ⟨fun hnot => ?_, fun hnot => ?_, fun n hon hst hbuilder => ⟨?_, ?_⟩⟩
      · have hcond : (s.hw.ccOn && f.st == .committed && f.builder.isSome && decide (f.sent + gap ≤ s.hw.tick) &&
            !s.hw.resolved2s f.key) = false := by
          rcases hnot with h | h | h
          · simp [h]
          · simp [h]
          · rw [decide_eq_false (Nat.not_le.2 h), Bool.and_false, Bool.false_and]
        rw [hresend, fragmentResend_of_frag hfrag, hcond, whenDue_false]
      · rw [habandon, fragmentAbandon_of_frag hfrag, hnot, Bool.and_false, whenDue_false]
      · intro hdue hkey hself
        have hcond : (s.hw.ccOn && f.st == .committed && f.builder.isSome && decide (f.sent + gap ≤ s.hw.tick) &&
            !s.hw.resolved2s f.key) = true := by
          rw [hon, hst, hbuilder, decide_eq_true hdue, hkey]
          rfl
        rw [hresend, fragmentResend_of_frag hfrag, hcond, whenDue_true, Block.sendFragment_of_other hbuilder hself]
      · intro hkey htail
        have hcond : (s.hw.ccOn && f.st == .committed && f.builder.isSome && s.hw.resolved2s f.key) = true := by
          rw [hon, hst, hbuilder, hkey]
          rfl
        rw [habandon, fragmentAbandon_of_frag hfrag, hcond, whenDue_true, Block.retire_of_noTail htail, Block.ident_of_frag hfrag]
        rfl
    · refine ⟨_, exec_mergeIdentityExpire ident s (decide_eq_true hident), rfl, rfl, rfl, rfl, fun x => ?_⟩
      simp [mergeIdentityExpire, b]

end Sys2Proof.Proofs

/-! SUPPORT. What an operation leaves: one part of the block, and every field but the counters of a list. -/

namespace Sys2Proof.Machine

open Sys2Proof

/-! ### A part of the block and the fields outside a list -/

/-- From one block to the next a part `g` stands, and every field but those of `keys`. -/
def Keeps {α : Type} (g : Block → α) (keys : List Nat) (b c : Block) : Prop := g c = g b ∧ ∀ f : Field, f.key ∉ keys → c.get f = b.get f

section
variable {α : Type} {g : Block → α} {keys : List Nat} {b c d : Block}

theorem Keeps.refl : Keeps g keys b b := ⟨rfl, fun _ _ => rfl⟩

theorem Keeps.trans (h : Keeps g keys b c) (h' : Keeps g keys c d) : Keeps g keys b d :=
  ⟨h'.1.trans h.1, fun f hf => (h'.2 f hf).trans (h.2 f hf)⟩

theorem Keeps.of_regs (hg : g c = g b) (hr : c.regs = b.regs) : Keeps g keys b c := ⟨hg, fun f _ => Block.get_of_regs hr f⟩

/-- A counter of the list may rise. -/
theorem Keeps.bump {f : Field} (hg : g (b.bump f) = g b) (hf : f.key ∈ keys) : Keeps g keys b (b.bump f) :=
  ⟨hg, fun _ hx => Block.get_bump_other fun h => hx (h ▸ hf)⟩

theorem Keeps.foldl {β : Type} {h : Block → β → Block} (hh : ∀ b x, Keeps g keys b (h b x)) (l : List β) (b : Block) :
    Keeps g keys b (l.foldl h b) := by
  induction l generalizing b with
  | nil => exact Keeps.refl
  | cons x l ih => exact (hh b x).trans (ih _)

end

/-! ### 64-bit counters -/

/-- A 64-bit value reads as it was put where it fits its two fields. -/
theorem Block.get64_put64 {b : Block} {lo hi : Field} {v : Nat} (hkey : lo.key ≠ hi.key) (hlo : lo.width = 32) (hv : v / 2 ^ 32 < 2 ^ hi.width) :
    (b.put64 lo hi v).get64 lo hi = v := by
  rw [Block.get64, Block.put64, Block.get_put_same, Block.get_put_other _ _ _ _ hkey, Block.get_put_same, hlo, Nat.mod_eq_of_lt hv]
  omega

/-- A 64-bit counter rises by one and stops at all ones. -/
theorem Block.get64_bump64 {b : Block} {lo hi : Field} (hkey : lo.key ≠ hi.key) (hlo : lo.width = 32) (hhi : hi.width = 32) :
    (b.bump64 lo hi 1).get64 lo hi = min (2 ^ 64 - 1) (b.get64 lo hi + 1) := by
  have hsat : satU 64 (b.get64 lo hi + 1) = min (2 ^ 64 - 1) (b.get64 lo hi + 1) := by
    unfold satU
    split <;> omega
  rw [Block.bump64, hsat, Block.get64_put64 hkey hlo (by rw [hhi]; omega)]

/-- Every other field reads as before. -/
theorem Block.get_put64_other {b : Block} {lo hi f : Field} (hlo : f.key ≠ lo.key) (hhi : f.key ≠ hi.key) (v : Nat) :
    (b.put64 lo hi v).get f = b.get f := by
  rw [Block.put64, Block.get_put_other _ _ _ _ hhi, Block.get_put_other _ _ _ _ hlo]

theorem Block.get_bump64_other {b : Block} {lo hi f : Field} (hlo : f.key ≠ lo.key) (hhi : f.key ≠ hi.key) (n : Nat) :
    (b.bump64 lo hi n).get f = b.get f := Block.get_put64_other hlo hhi _

/-! ### Opening a fragment (R278 to R284, R288, R293, R333) -/

/-- The counters that the opening of a fragment may raise. -/
def openKeys : List Nat := ([F.TRG_SUPPRESS_CNT, F.TRG_CLIP_CNT, F.TRG_SEALUND_CNT, F.TRG_M_PRIM_CNT, F.TRG_M_LATE_CNT, F.TRG_M_DROP_CNT,
  F.EVB_SEQ_EXHAUST, F.EVB_STAGE_FULL_CNT, F.EVB_DEADLINE_DISCARD] : List Field).map Field.key

/-- What the opening of a fragment leaves besides fields: memory and Lynx. -/
def Block.memoryAndLynx (b : Block) : Table Byte × LynxSt := (b.dram, b.lynx)

theorem Block.keeps_deadlineOne (b : Block) (f : Frag) : Keeps Block.memoryAndLynx openKeys b (b.deadlineOne f) := by
  unfold Block.deadlineOne
  split
  · split
    · exact Keeps.trans (c := b.setFrag f.discard) (Keeps.of_regs rfl rfl) (Keeps.bump rfl (by decide))
    · exact Keeps.of_regs rfl rfl
  · exact Keeps.refl

/-- One of these counters rises. -/
theorem Block.keeps_bump_open {f : Field} (hf : f.key ∈ openKeys) (b : Block) : Keeps Block.memoryAndLynx openKeys b (b.bump f) :=
  Keeps.bump rfl hf

/-- A primitive at the acting master is counted, and then counted as late or as dropped, or held. -/
theorem Block.masterTake_cases (b : Block) (m : PrimitiveMsg) :
    b.masterTake m = (b.bump F.TRG_M_PRIM_CNT).bump F.TRG_M_LATE_CNT ∨ b.masterTake m = (b.bump F.TRG_M_PRIM_CNT).bump F.TRG_M_DROP_CNT ∨
      b.masterTake m = { b.bump F.TRG_M_PRIM_CNT with master := { b.master with prims := b.master.prims ++ [m] } } := by
  unfold Block.masterTake
  dsimp only
  split_ifs
  · exact .inl rfl
  · exact .inr (.inl rfl)
  · exact .inr (.inr rfl)

theorem Block.keeps_masterTake (b : Block) (m : PrimitiveMsg) : Keeps Block.memoryAndLynx openKeys b (b.masterTake m) := by
  have hprim : Keeps Block.memoryAndLynx openKeys b (b.bump F.TRG_M_PRIM_CNT) := Block.keeps_bump_open (by decide) b
  rcases b.masterTake_cases m with h | h | h <;> rw [h]
  · exact hprim.trans (Block.keeps_bump_open (by decide) _)
  · exact hprim.trans (Block.keeps_bump_open (by decide) _)
  · exact hprim.trans (Keeps.of_regs rfl rfl)

theorem Block.keeps_sendPrimitive (b : Block) (m : PrimitiveMsg) : Keeps Block.memoryAndLynx openKeys b (b.sendPrimitive m) := by
  unfold Block.sendPrimitive
  split
  · exact b.keeps_masterTake m
  · split
    · exact Keeps.of_regs rfl rfl
    · exact Keeps.refl

theorem Block.keeps_stageFull (b : Block) : Keeps Block.memoryAndLynx openKeys b b.stageFull :=
  (Keeps.bump (f := F.EVB_STAGE_FULL_CNT) rfl (by decide)).trans (Keeps.of_regs rfl rfl)

theorem Block.keeps_seqExhausted (b : Block) (k : Nat) : Keeps Block.memoryAndLynx openKeys b (b.seqExhausted k) :=
  Keeps.trans (c := b.modEpoch k fun e => { e with exhausted := e.exhausted + 1 }) (Keeps.of_regs rfl rfl) (Keeps.bump rfl (by decide))

/-- A fragment's place: its SEQ is taken, and it stands at the end of the fragments. -/
def Block.placed (b : Block) (f : Frag) : Block :=
  { b.modEpoch f.key (fun e => { e with seq := e.seq + 1 }) with
    evb := { (b.modEpoch f.key fun e => { e with seq := e.seq + 1 }).evb with frags := b.evb.frags ++ [f] } }

theorem Block.placeFrag_eq (b : Block) (f : Frag) (stream : Bool) (inputs : Nat) : b.placeFrag f stream inputs =
    if f.st != .speculative then b.placed f
    else if (b.placed f).sealedAt f.key then ((b.placed f).bump F.TRG_SEALUND_CNT).deadlineOne f
    else (b.placed f).sendPrimitive (f.primitive stream inputs) := rfl

theorem Block.keeps_placeFrag (b : Block) (f : Frag) (stream : Bool) (inputs : Nat) :
    Keeps Block.memoryAndLynx openKeys b (b.placeFrag f stream inputs) := by
  have hplaced : Keeps Block.memoryAndLynx openKeys b (b.placed f) := Keeps.of_regs rfl rfl
  rw [Block.placeFrag_eq]
  split
  · exact hplaced
  · split
    · exact (hplaced.trans (Keeps.bump rfl (by decide))).trans (Block.keeps_deadlineOne _ f)
    · exact hplaced.trans (Block.keeps_sendPrimitive _ _)

theorem Block.sendPrimitive_evb (b : Block) (m : PrimitiveMsg) : (b.sendPrimitive m).evb = b.evb := by
  unfold Block.sendPrimitive
  split
  · rcases b.masterTake_cases m with h | h | h <;> rw [h] <;> rfl
  · split <;> rfl

/-- A fragment set in place of one of its name is among the fragments. -/
theorem Block.mem_setFrag {b : Block} {f g : Frag} (hf : f ∈ b.evb.frags) (hg : g.desc.ident = f.desc.ident) : g ∈ (b.setFrag g).evb.frags :=
  List.mem_map.2 ⟨f, hf, if_pos hg.symm⟩

/-- A speculative fragment that is placed stands with its descriptor, and has taken its SEQ. -/
theorem Block.placeFrag_speculative {b : Block} {f : Frag} {e : EpochSt} (hst : f.st = .speculative) (he : b.epochSt f.key = some e)
    (stream : Bool) (inputs : Nat) :
    (∃ g ∈ (b.placeFrag f stream inputs).evb.frags, g.desc = f.desc ∧ g.key = f.key ∧ g.trig = f.trig) ∧
      (b.placeFrag f stream inputs).epochSt f.key = some { e with seq := e.seq + 1 } := by
  have hmem : f ∈ (b.placed f).evb.frags := List.mem_append_right _ List.mem_cons_self
  have hepoch : (b.placed f).epochSt f.key = some { e with seq := e.seq + 1 } :=
    Block.epochSt_modEpoch (f := fun e => { e with seq := e.seq + 1 }) (fun _ => rfl) he
  rw [Block.placeFrag_eq, hst, if_neg (by decide)]
  split
  · rw [Block.deadlineOne_of_speculative hst]
    split
    · exact ⟨⟨f.discard, Block.mem_setFrag hmem rfl, rfl, rfl, rfl⟩, hepoch⟩
    · exact ⟨⟨{ f with st := .orphaned }, Block.mem_setFrag hmem rfl, rfl, rfl, rfl⟩, hepoch⟩
  · have hevb := (b.placed f).sendPrimitive_evb (f.primitive stream inputs)
    refine ⟨⟨f, hevb.symm ▸ hmem, rfl, rfl, rfl⟩, ?_⟩
    rw [Block.epochSt, hevb]
    exact hepoch

theorem Block.keeps_openTrigger (b : Block) (t : LocalTrigger) (f : Firing) : Keeps Block.memoryAndLynx openKeys b (b.openTrigger t f) := by
  unfold Block.openTrigger
  dsimp only
  split
  · exact Block.keeps_bump_open (by decide) b
  · split
    · exact b.keeps_seqExhausted _
    · generalize clipWindow _ t.pre t.post _ = w
      have hclip : Keeps Block.memoryAndLynx openKeys b (if w.2.2 = true then b.bump F.TRG_CLIP_CNT else b) := by
        split
        · exact Block.keeps_bump_open (by decide) b
        · exact Keeps.refl
      generalize (if w.2.2 = true then b.bump F.TRG_CLIP_CNT else b) = c at hclip ⊢
      generalize (if t.cfg.flag (F.TRG_G_CFG_STREAM t.group) = true then streamSamples t.at_.raw w.1 w.2.1 else w.1 + w.2.1) = len
      split
      · exact hclip.trans c.keeps_stageFull
      · exact hclip.trans (c.keeps_placeFrag _ _ _)

/-! ### What becomes of a local trigger (R279, R34, R333) -/

/-- A trigger that may not open is counted. -/
theorem Block.openTrigger_suppressed {b : Block} {t : LocalTrigger} (h : b.mayOpen t.cfg (epochOf t.at_.raw) = false) (f : Firing) :
    b.openTrigger t f = b.bump F.TRG_SUPPRESS_CNT := by
  rw [Block.openTrigger]
  simp only [h, Bool.not_false, if_pos]

/-- A trigger in an epoch whose sequence is exhausted is counted there. -/
theorem Block.openTrigger_exhausted {b : Block} {t : LocalTrigger} {e : EpochSt} (h : b.mayOpen t.cfg (epochOf t.at_.raw) = true)
    (he : b.epochSt (epochOf t.at_.raw) = some e) (hseq : 65536 ≤ e.seq) (f : Firing) :
    b.openTrigger t f = b.seqExhausted (epochOf t.at_.raw) := by
  rw [Block.openTrigger]
  simp only [h, he, Bool.not_true, if_neg Bool.false_ne_true, Option.map_some, Option.getD_some, if_pos hseq]

/-- A trigger of a window that staging covers places a fragment of its primary group, clipped or not. -/
theorem Block.openTrigger_places {b : Block} {t : LocalTrigger} {e : EpochSt} {w : Nat × Nat × Bool} (h : b.mayOpen t.cfg (epochOf t.at_.raw) = true)
    (he : b.epochSt (epochOf t.at_.raw) = some e) (hseq : e.seq < 65536) (hstream : t.cfg.flag (F.TRG_G_CFG_STREAM t.group) = false)
    (hw : clipWindow (retention (b.loadAt (epochOf t.at_.raw) (popCount t.cfg.groups 60))) t.pre t.post false = w)
    (hroom : chunksFor (t.cfg.res t.group t.readout (w.1 + w.2.1)) ≤ b.freeChunks) (f : Firing) :
    ∃ c x n, b.openTrigger t f = Block.placeFrag c x false n ∧ c.epochSt (epochOf t.at_.raw) = some e ∧ x.st = .speculative ∧
      x.key = epochOf t.at_.raw ∧ x.trig = t.at_.raw ∧ x.desc.ident = identOf b.node (epochOf t.at_.raw) e.seq ∧ x.desc.group = t.group ∧
      x.desc.cause = t.cause ∧ x.desc.readout = t.readout ∧ x.desc.winLen = w.1 + w.2.1 := by
  have hfree : (if w.2.2 = true then b.bump F.TRG_CLIP_CNT else b).freeChunks = b.freeChunks := by split <;> rfl
  have hepoch : (if w.2.2 = true then b.bump F.TRG_CLIP_CNT else b).epochSt (epochOf t.at_.raw) = some e := by
    rw [← he]
    split <;> rfl
  rw [Block.openTrigger]
  simp only [h, he, hstream, hw, Bool.not_true, if_neg Bool.false_ne_true, Option.map_some, Option.getD_some, if_neg (Nat.not_le.2 hseq)]
  rw [if_neg (by rw [hfree]; exact Nat.not_lt.2 hroom)]
  exact ⟨_, _, _, rfl, hepoch, rfl, rfl, rfl, rfl, rfl, rfl, rfl, rfl⟩

end Sys2Proof.Machine

/-! SUPPORT. A grid instant: what its evaluation leaves of the block, and which counters it raises (R268, R276, R277). -/

namespace Sys2Proof.Machine

open Sys2Proof

/-! ### The met groups -/

/-- The met groups of an instant are some of the enabled ones that it touches, each once. -/
theorem Block.sublist_groupsAt (b : Block) (c : EpochCfg) (i : Instant) (l : List Firing) :
    (b.groupsAt c i l).2.1.Sublist ((groupsTouched b.lynx c l).filter fun g => c.flag (F.TRG_G_CFG_EN g)) := by
  have hfst (r : List (Nat × List Firing × Bool)) (on : List Nat) (h : r.map Prod.fst = on) :
      ((r.filter fun x => x.2.2).map Prod.fst).Sublist on := h ▸ (List.filter_sublist (l := r)).map Prod.fst
  exact hfst _ _ (by rw [List.map_map]; exact List.map_id _)

theorem Block.nodup_groupsAt (b : Block) (c : EpochCfg) (i : Instant) (l : List Firing) : (b.groupsAt c i l).2.1.Nodup :=
  ((List.nodup_range.filter _).filter _).sublist (b.sublist_groupsAt c i l)

theorem Block.lt_of_mem_groupsAt {b : Block} {c : EpochCfg} {i : Instant} {l : List Firing} {g : Nat} (h : g ∈ (b.groupsAt c i l).2.1) :
    g < 256 := by
  have hmem := (b.sublist_groupsAt c i l).subset h
  exact List.mem_range.1 (List.mem_filter.1 (List.mem_filter.1 hmem).1).1

/-! ### Group counters -/

theorem groupCnt_key_inj {g h : Nat} : (F.TRG_G_CNT g).key = (F.TRG_G_CNT h).key ↔ g = h := by
  simp only [Field.key]
  omega

/-- The counters of groups raised one after another. -/
def Block.countGroups (b : Block) (l : List Nat) : Block := l.foldl (fun d g => d.bump (F.TRG_G_CNT g)) b

theorem Block.countGroups_eq (l : List Nat) (b : Block) : b.countGroups l = { b with regs := (b.countGroups l).regs } := by
  induction l generalizing b with
  | nil => rfl
  | cons g l ih => exact ih (b.bump (F.TRG_G_CNT g))

/-- A field that is no counter of these groups reads as before. -/
theorem Block.get_countGroups_other {f : Field} (l : List Nat) (hf : ∀ g ∈ l, f.key ≠ (F.TRG_G_CNT g).key) (b : Block) :
    (b.countGroups l).get f = b.get f := by
  induction l generalizing b with
  | nil => rfl
  | cons g l ih =>
    exact (ih (fun x hx => hf x (List.mem_cons_of_mem _ hx)) (b.bump _)).trans (Block.get_bump_other (hf g List.mem_cons_self))

/-- Each group's counter rises once. -/
theorem Block.get_countGroups {l : List Nat} (hl : l.Nodup) (b : Block) (g : Nat) :
    (b.countGroups l).get (F.TRG_G_CNT g) =
      if l.contains g then min (2 ^ 32 - 1) (b.get (F.TRG_G_CNT g) + 1) else b.get (F.TRG_G_CNT g) := by
  induction l generalizing b with
  | nil => rfl
  | cons h l ih =>
    obtain ⟨hnot, hl⟩ := List.nodup_cons.1 hl
    change ((b.bump (F.TRG_G_CNT h)).countGroups l).get (F.TRG_G_CNT g) = _
    by_cases hg : g = h
    · subst hg
      have hother : ∀ x ∈ l, (F.TRG_G_CNT g).key ≠ (F.TRG_G_CNT x).key := fun x hx hk => hnot (groupCnt_key_inj.1 hk ▸ hx)
      rw [Block.get_countGroups_other l hother, Block.get_bump_32 rfl]
      simp
    · rw [ih hl, Block.get_bump_other fun hk => hg (groupCnt_key_inj.1 hk)]
      simp [hg]

/-! ### The evaluation of an instant -/

/-- The counters of an instant: the triggers, those of more than one group, each group's. -/
def instantKeys : List Nat :=
  (([F.TRG_TRIG_CNT_LO, F.TRG_TRIG_CNT_HI, F.TRG_MERGE_CNT] : List Field) ++ (List.range 256).map F.TRG_G_CNT).map Field.key

theorem groupCnt_mem_instantKeys {g : Nat} (hg : g < 256) : (F.TRG_G_CNT g).key ∈ instantKeys :=
  List.mem_map_of_mem (List.mem_append_right _ (List.mem_map_of_mem (List.mem_range.2 hg)))

theorem trigCnt_mem_instantKeys {f : Field} (hf : f ∈ ([F.TRG_TRIG_CNT_LO, F.TRG_TRIG_CNT_HI, F.TRG_MERGE_CNT] : List Field)) :
    f.key ∈ instantKeys :=
  List.mem_map_of_mem (List.mem_append_left _ hf)

/-- A field of another place is no such counter. -/
theorem notMem_instantKeys {f : Field} (hlo : f.lo < 32) (haddr : f.addr < 0x70010 ∨ 0x76000 ≤ f.addr) : f.key ∉ instantKeys := by
  simp only [instantKeys, List.map_append, List.mem_append, List.map_cons, List.map_nil, List.mem_cons, List.not_mem_nil, or_false,
    List.mem_map, List.mem_range, exists_exists_and_eq_and, Field.key, not_or, not_exists, not_and]
  refine ⟨⟨?_, ?_, ?_⟩, fun g hg => ?_⟩ <;> omega

/-- Lynx once an instant has left it. -/
def Block.lynxAfter (b : Block) (i : Instant) : LynxSt :=
  let c := b.cfgOf (epochOf i.raw)
  let un := b.unitsAt c i
  let gr := b.groupsAt c i un.2
  { b.lynx with
    instants := b.lynx.instants.tail
    done := some i.raw
    slow := b.lynx.slow.filter fun x => !x.due i
    leads := b.lynx.leads.filter fun h => decide (visibleDiff (visible i.raw) h.time ≤ leadKeep)
    units := un.1
    groups := gr.1
    ghold := gr.2.1.foldl (fun m g => insertKey m g (i.tick + 25 * c.get (F.TRG_G_HOLD g))) (b.lynx.ghold.filter fun x => decide (i.tick < x.2))
    arrivals := (b.lynx.arrivals.filter fun a => decide (timeDiff i.raw a.at_ ≤ arrivalKeep)) ++ un.2.filterMap fun f =>
      if f.cause = 1 && decide (f.unit < 1920) then some (Arrival.mk (f.unit / 2) i.raw f.time f.dom f.quality f.refined) else none }

/-- The groups that an instant meets. -/
def Block.metAt (b : Block) (i : Instant) : List Nat :=
  (b.groupsAt (b.cfgOf (epochOf i.raw)) i (b.unitsAt (b.cfgOf (epochOf i.raw)) i).2).2.1

/-- The local trigger of an instant (R277). -/
def Block.triggerAt (b : Block) (i : Instant) : LocalTrigger :=
  ⟨i, b.cfgOf (epochOf i.raw), b.metAt i, (b.groupsAt (b.cfgOf (epochOf i.raw)) i (b.unitsAt (b.cfgOf (epochOf i.raw)) i).2).2.2⟩

/-- With no group met an instant only leaves Lynx. -/
theorem Block.evalInstant_of_none {b : Block} {i : Instant} (h : b.metAt i = []) : b.evalInstant i = ({ b with lynx := b.lynxAfter i }, none) := by
  unfold Block.metAt at h
  simp only [Block.evalInstant, h, List.isEmpty_nil, if_pos, List.foldl_nil]
  rw [Block.lynxAfter]
  simp only [h, List.foldl_nil]

/-- With groups met the local trigger is counted, and the groups' counters with it. -/
theorem Block.evalInstant_of_met {b : Block} {i : Instant} (h : b.metAt i ≠ []) :
    b.evalInstant i =
      (let d := (({ b with lynx := b.lynxAfter i }).countGroups (b.metAt i)).bump64 F.TRG_TRIG_CNT_LO F.TRG_TRIG_CNT_HI 1
       if 2 ≤ (b.metAt i).length then d.bump F.TRG_MERGE_CNT else d, some (b.triggerAt i)) := by
  have hne : (b.metAt i).isEmpty = false := by simpa using h
  unfold Block.metAt at hne
  simp only [Block.evalInstant, hne, if_neg Bool.false_ne_true]
  rfl

/-- What the evaluation of an instant with groups met makes of the block. -/
theorem Block.evalInstant_fst {b : Block} {i : Instant} (h : b.metAt i ≠ []) :
    ∃ regs, (b.evalInstant i).1 = { b with lynx := b.lynxAfter i, regs := regs } ∧
      (∀ f : Field, f.key ∉ instantKeys → (b.evalInstant i).1.get f = b.get f) ∧
      (b.evalInstant i).1.get64 F.TRG_TRIG_CNT_LO F.TRG_TRIG_CNT_HI = min (2 ^ 64 - 1) (b.get64 F.TRG_TRIG_CNT_LO F.TRG_TRIG_CNT_HI + 1) ∧
      ∀ g, (b.evalInstant i).1.get (F.TRG_G_CNT g) =
        if (b.metAt i).contains g then min (2 ^ 32 - 1) (b.get (F.TRG_G_CNT g) + 1) else b.get (F.TRG_G_CNT g) := by
  have hlt : ∀ g ∈ b.metAt i, g < 256 := fun g hg => Block.lt_of_mem_groupsAt hg
  have hnodup : (b.metAt i).Nodup := b.nodup_groupsAt _ _ _
  rw [Block.evalInstant_of_met h]
  dsimp only
  generalize hd : (({ b with lynx := b.lynxAfter i }).countGroups (b.metAt i)).bump64 F.TRG_TRIG_CNT_LO F.TRG_TRIG_CNT_HI 1 = d
  generalize hr : (if 2 ≤ (b.metAt i).length then d.bump F.TRG_MERGE_CNT else d) = r
  have hcount (g : Nat) (hg : g ∈ b.metAt i) (f : Field) (hf : f.key ∉ instantKeys) : f.key ≠ (F.TRG_G_CNT g).key :=
    fun hk => hf (hk ▸ groupCnt_mem_instantKeys (hlt g hg))
  have hmerge (f : Field) (hf : f.key ≠ F.TRG_MERGE_CNT.key) : r.get f = d.get f := by
    rw [← hr]
    split
    · exact Block.get_bump_other hf
    · rfl
  have hfst : r = { b with lynx := b.lynxAfter i, regs := r.regs } := by
    have hdfst : d = { b with lynx := b.lynxAfter i, regs := d.regs } := by
      have hgroups := Block.countGroups_eq (b.metAt i) { b with lynx := b.lynxAfter i }
      rw [← hd]
      generalize ({ b with lynx := b.lynxAfter i } : Block).countGroups (b.metAt i) = e at hgroups ⊢
      generalize b.lynxAfter i = y at hgroups ⊢
      rw [hgroups]
      rfl
    rw [← hr]
    split
    · generalize b.lynxAfter i = y at hdfst ⊢
      rw [hdfst]
      rfl
    · exact hdfst
  refine ⟨r.regs, hfst, fun f hf => ?_, ?_, fun g => ?_⟩
  · have hne (x : Field) (hx : x.key ∈ instantKeys) : f.key ≠ x.key := fun hk => hf (hk ▸ hx)
    rw [hmerge f (hne _ (trigCnt_mem_instantKeys (by simp))), ← hd,
      Block.get_bump64_other (hne _ (trigCnt_mem_instantKeys (by simp))) (hne _ (trigCnt_mem_instantKeys (by simp))),
      Block.get_countGroups_other _ fun g hg => hcount g hg f hf]
    rfl
  · have hlo : ∀ g ∈ b.metAt i, F.TRG_TRIG_CNT_LO.key ≠ (F.TRG_G_CNT g).key := fun g _ => by simp only [Field.key]; omega
    have hhi : ∀ g ∈ b.metAt i, F.TRG_TRIG_CNT_HI.key ≠ (F.TRG_G_CNT g).key := fun g _ => by simp only [Field.key]; omega
    have hbefore : (({ b with lynx := b.lynxAfter i } : Block).countGroups (b.metAt i)).get64 F.TRG_TRIG_CNT_LO F.TRG_TRIG_CNT_HI =
        b.get64 F.TRG_TRIG_CNT_LO F.TRG_TRIG_CNT_HI := by
      rw [Block.get64, Block.get_countGroups_other _ hlo, Block.get_countGroups_other _ hhi]
      rfl
    rw [Block.get64, hmerge _ (by decide), hmerge _ (by decide), ← Block.get64, ← hd, Block.get64_bump64 (by decide) rfl rfl, hbefore]
  · have hkey (x : Field) (hx : x.addr < 0x71020) (hlo : x.lo < 32) : (F.TRG_G_CNT g).key ≠ x.key := by
      simp only [Field.key]
      omega
    rw [hmerge _ (hkey _ (by decide) (by decide)), ← hd,
      Block.get_bump64_other (hkey _ (by decide) (by decide)) (hkey _ (by decide) (by decide)), Block.get_countGroups hnodup]
    rfl

/-! ### The instant and the fragment it opens -/

/-- The block once an instant has left it and its local trigger has met its fragment. -/
def Block.afterInstant (b : Block) (i : Instant) : Block :=
  match (b.evalInstant i).2 with
  | some t =>
    match t.primary with
    | some f => (b.evalInstant i).1.openTrigger t f
    | none => (b.evalInstant i).1
  | none => (b.evalInstant i).1

/-- The oldest instant, once it is due. -/
theorem gridInstantEval_of_instant {b : Block} {i : Instant} {l : List Instant} (h : b.lynx.instants = i :: l) :
    gridInstantEval b = whenDue (b.ccOn && !(b.pair.gap.isSome && b.pair.warm) &&
      decide (i.tick + max 250 ((b.cfgOf (epochOf i.raw)).get F.TRG_LAG) ≤ b.tick)) (fun b => (b.afterInstant i).resolveEpochs) b := by
  rw [gridInstantEval]
  simp only [h]
  rfl

theorem Block.afterInstant_of_none {b : Block} {i : Instant} (h : b.metAt i = []) : b.afterInstant i = { b with lynx := b.lynxAfter i } := by
  rw [Block.afterInstant, Block.evalInstant_of_none h]

theorem Block.evalInstant_snd {b : Block} {i : Instant} (h : b.metAt i ≠ []) : (b.evalInstant i).2 = some (b.triggerAt i) := by
  rw [Block.evalInstant_of_met h]

theorem Block.afterInstant_of_primary {b : Block} {i : Instant} {f : Firing} (h : b.metAt i ≠ []) (hf : (b.triggerAt i).primary = some f) :
    b.afterInstant i = (b.evalInstant i).1.openTrigger (b.triggerAt i) f := by
  rw [Block.afterInstant]
  simp only [Block.evalInstant_snd h, hf]

theorem Block.afterInstant_of_noPrimary {b : Block} {i : Instant} (h : b.metAt i ≠ []) (hf : (b.triggerAt i).primary = none) :
    b.afterInstant i = (b.evalInstant i).1 := by
  rw [Block.afterInstant]
  simp only [Block.evalInstant_snd h, hf]

/-- After its evaluation only the counters of an opening may change. -/
theorem Block.keeps_afterInstant {b : Block} {i : Instant} (h : b.metAt i ≠ []) :
    Keeps Block.memoryAndLynx openKeys (b.evalInstant i).1 (b.afterInstant i) := by
  cases hf : (b.triggerAt i).primary with
  | none => rw [Block.afterInstant_of_noPrimary h hf]; exact Keeps.refl
  | some f => rw [Block.afterInstant_of_primary h hf]; exact Block.keeps_openTrigger _ _ f

/-- Whether a trigger may open does not depend on what the instant changed. -/
theorem Block.mayOpen_evalInstant {b : Block} {i : Instant} (h : b.metAt i ≠ []) (c : EpochCfg) (k : Nat) :
    (b.evalInstant i).1.mayOpen c k = b.mayOpen c k := by
  obtain ⟨regs, heq, hget, -⟩ := Block.evalInstant_fst h
  have hquar : (b.evalInstant i).1.flag F.FAB_STAT_QUAR = b.flag F.FAB_STAT_QUAR := by
    rw [Block.flag, hget _ (notMem_instantKeys (by decide) (by decide))]
    rfl
  rw [Block.mayOpen, Block.mayOpen, Block.opens, Block.opens, hquar, heq]
  rfl

end Sys2Proof.Machine

/-! SUPPORT. The ring manager: what an item, a boundary and a stop make of the streams' blocks (R308 to R313). -/

namespace Sys2Proof.Machine

open Sys2Proof

/-! ### Bytes written leave the ring, the tile links and the pair -/

/-- A write to memory changes memory, what is known of its bits, and the count of injected errors. -/
theorem Block.store_eq (b : Block) (a : Nat) (v : List Nat) : ∃ dram poison ecc tst regs,
    b.store a v = { b with dram := dram, poison := poison, ecc := ecc, tst := tst, regs := regs } ∧
      (regs = b.regs ∨ regs = (b.bump F.TST_INJ_CNT).regs) := by
  unfold Block.store Block.memErr
  dsimp only
  split
  · exact ⟨_, _, _, _, _, rfl, .inr rfl⟩
  · exact ⟨_, _, _, b.tst, b.regs, rfl, .inl rfl⟩

@[simp] theorem Block.store_ring (b : Block) (a : Nat) (v : List Nat) : (b.store a v).ring = b.ring := by
  obtain ⟨dram, poison, ecc, tst, regs, h, -⟩ := b.store_eq a v
  rw [h]
@[simp] theorem Block.store_links (b : Block) (a : Nat) (v : List Nat) : (b.store a v).links = b.links := by
  obtain ⟨dram, poison, ecc, tst, regs, h, -⟩ := b.store_eq a v
  rw [h]

/-- Whether the standby stores is as before a write. -/
@[simp] theorem Block.store_sbStores (b : Block) (a : Nat) (v : List Nat) : (b.store a v).sbStores = b.sbStores := by
  obtain ⟨dram, poison, ecc, tst, regs, h, hregs⟩ := b.store_eq a v
  have hget : (b.store a v).get F.PAIR_STAT_SB_STATE = b.get F.PAIR_STAT_SB_STATE := by
    have hsame : (b.store a v).regs = regs := by rw [h]
    have hbump : (b.bump F.TST_INJ_CNT).get F.PAIR_STAT_SB_STATE = b.get F.PAIR_STAT_SB_STATE := Block.get_bump_other (by decide)
    rcases hregs with hr | hr
    · exact Block.get_of_regs (hsame.trans hr) _
    · exact (Block.get_of_regs (hsame.trans hr) _).trans hbump
  rw [Block.sbStores, hget]
  rfl

/-- The writes of a step, made one after another. -/
def Block.storeAll (b : Block) (w : List (Nat × List Nat)) : Block := w.foldl (fun c x => c.store x.1 x.2) b

theorem Block.storeAll_keeps (w : List (Nat × List Nat)) (b : Block) :
    (b.storeAll w).ring = b.ring ∧ (b.storeAll w).links = b.links ∧ (b.storeAll w).sbStores = b.sbStores := by
  induction w generalizing b with
  | nil => exact ⟨rfl, rfl, rfl⟩
  | cons x w ih =>
    obtain ⟨hring, hlinks, hstores⟩ := ih (b.store x.1 x.2)
    exact ⟨hring.trans (b.store_ring _ _), hlinks.trans (b.store_links _ _), hstores.trans (b.store_sbStores _ _)⟩

/-! ### One thing off the tile links -/

theorem ringItemStore_of_links {b : Block} {x : LinkItem} {l : List LinkItem} (h : b.links = x :: l) :
    ringItemStore b = ({ b with links := l }.ringTake x).sbTake x := by
  rw [ringItemStore]
  simp only [h]

/-- Without a working ring it is only taken off. -/
theorem ringItemStore_off {b : Block} {x : LinkItem} {l : List LinkItem} (h : b.links = x :: l) (hon : b.ccOn = false)
    (hsb : b.sbStores = false) : ringItemStore b = { b with links := l } := by
  have hon' : ({ b with links := l } : Block).ccOn = false := hon
  have hsb' : ({ b with links := l } : Block).sbStores = false := hsb
  rw [ringItemStore_of_links h, Block.ringTake, hon', if_neg Bool.false_ne_true, Block.sbTake, hsb', if_neg Bool.false_ne_true]

/-- The active's manager alone takes it. -/
theorem ringItemStore_active {b : Block} {x : LinkItem} {l : List LinkItem} (h : b.links = x :: l) (hon : b.ccOn = true)
    (hsb : b.sbStores = false) : ringItemStore b = ({ b with links := l, ring := (b.ring.take x).ring } : Block).storeAll (b.ring.take x).writes := by
  have htake : ({ b with links := l } : Block).ringTake x =
      ({ b with links := l, ring := (b.ring.take x).ring } : Block).storeAll (b.ring.take x).writes := if_pos hon
  have hsb' := (Block.storeAll_keeps (b.ring.take x).writes { b with links := l, ring := (b.ring.take x).ring }).2.2.trans hsb
  rw [ringItemStore_of_links h, htake, Block.sbTake, hsb', if_neg Bool.false_ne_true]

/-! ### The manager's steps -/

/-- A block holds more than one item. -/
theorem one_lt_blockItems (n : Nat) : 1 < blockItems n := by
  unfold blockItems itemSize
  split
  · decide
  · split <;> decide

theorem RingStep.close_of_open {r : RingStep} {n : Nat} {x : OpenBlock} (h : lookup r.ring.open_ n = some x) : (r.close n).ring =
    { r.ring with open_ := eraseKey r.ring.open_ n, last := insertKey r.ring.last n x } := by
  rw [RingStep.close, h]
  rfl

theorem RingStep.close_of_none {r : RingStep} {n : Nat} (h : lookup r.ring.open_ n = none) : r.close n = r := by rw [RingStep.close, h]

/-- A closing leaves the counts; the stream has no open block, and other streams are as before. -/
theorem RingStep.close_keeps (r : RingStep) (n : Nat) :
    (r.close n).ring.alloc = r.ring.alloc ∧ (r.close n).ring.count = r.ring.count ∧ lookup (r.close n).ring.open_ n = none ∧
      ∀ m, m ≠ n → lookup (r.close n).ring.open_ m = lookup r.ring.open_ m ∧ lookup (r.close n).ring.last m = lookup r.ring.last m := by
  cases h : lookup r.ring.open_ n with
  | none => rw [RingStep.close_of_none h]; exact ⟨rfl, rfl, h, fun _ _ => ⟨rfl, rfl⟩⟩
  | some x =>
    rw [RingStep.close_of_open h]
    exact ⟨rfl, rfl, lookup_eraseKey_same _ _, fun m hm => ⟨lookup_eraseKey_other _ _ _ hm, lookup_insertKey_other _ _ _ _ hm⟩⟩

/-- Streams closed one after another. -/
theorem RingStep.foldl_close_keeps (l : List Nat) (r : RingStep) :
    (l.foldl RingStep.close r).ring.alloc = r.ring.alloc ∧ (l.foldl RingStep.close r).ring.count = r.ring.count ∧
      ∀ n, (n ∈ l ∨ lookup r.ring.open_ n = none) → lookup (l.foldl RingStep.close r).ring.open_ n = none := by
  induction l generalizing r with
  | nil => exact ⟨rfl, rfl, fun n h => h.resolve_left List.not_mem_nil⟩
  | cons m l ih =>
    obtain ⟨halloc, hcount, hopen⟩ := r.close_keeps m
    obtain ⟨hnone, hother⟩ := hopen
    obtain ⟨ihalloc, ihcount, ihopen⟩ := ih (r.close m)
    refine ⟨ihalloc.trans halloc, ihcount.trans hcount, fun n hn => ihopen n ?_⟩
    by_cases hm : n = m
    · subst hm
      exact .inr hnone
    · rw [(hother n hm).1]
      exact hn.imp_left fun h => (List.mem_cons.1 h).resolve_left hm

/-- A stop: the stream has neither an open block nor a last one, and other streams are as before. -/
theorem RingStep.stop_keeps (r : RingStep) (n : Nat) :
    (r.stop n).ring.alloc = r.ring.alloc ∧ lookup (r.stop n).ring.open_ n = none ∧ lookup (r.stop n).ring.last n = none ∧
      ∀ m, m ≠ n → lookup (r.stop n).ring.open_ m = lookup r.ring.open_ m ∧ lookup (r.stop n).ring.last m = lookup r.ring.last m := by
  obtain ⟨halloc, -, hnone, hother⟩ := r.close_keeps n
  rw [RingStep.stop]
  dsimp only
  split
  · exact ⟨halloc, hnone, lookup_eraseKey_same _ _, fun m hm => ⟨(hother m hm).1, (lookup_eraseKey_other _ _ _ hm).trans (hother m hm).2⟩⟩
  · next h => exact ⟨halloc, hnone, h, hother⟩

/-- Streams stopped one after another. -/
theorem RingStep.foldl_stop_keeps (l : List Nat) (r : RingStep) :
    (l.foldl RingStep.stop r).ring.alloc = r.ring.alloc ∧
      ∀ n, (n ∈ l ∨ (lookup r.ring.open_ n = none ∧ lookup r.ring.last n = none)) →
        lookup (l.foldl RingStep.stop r).ring.open_ n = none ∧ lookup (l.foldl RingStep.stop r).ring.last n = none := by
  induction l generalizing r with
  | nil => exact ⟨rfl, fun n h => h.resolve_left List.not_mem_nil⟩
  | cons m l ih =>
    obtain ⟨halloc, hopen, hlast, hother⟩ := r.stop_keeps m
    obtain ⟨ihalloc, ihnone⟩ := ih (r.stop m)
    refine ⟨ihalloc.trans halloc, fun n hn => ihnone n ?_⟩
    by_cases hm : n = m
    · subst hm
      exact .inr ⟨hopen, hlast⟩
    · rw [(hother n hm).1, (hother n hm).2]
      exact hn.imp_left fun h => (List.mem_cons.1 h).resolve_left hm

/-- An index entry changes what is indexed alone. -/
theorem RingStep.index_ring (r : RingStep) (n e k : Nat) :
    ∃ indexed, (r.index n e k).ring = { r.ring with indexed := indexed } := by
  unfold RingStep.index
  split
  · exact ⟨r.ring.indexed, rfl⟩
  · exact ⟨_, rfl⟩

/-- A new block takes the next SEQ, with GAP_BEFORE where no block before it links. -/
theorem RingStep.open_ring (r : RingStep) (n raw dom quality : Nat) :
    ∃ indexed, (r.open_ n raw dom quality).ring = { r.ring with
      alloc := r.ring.alloc + 1, count := r.ring.count + 1, indexed := indexed, last := eraseKey r.ring.last n
      open_ := insertKey r.ring.open_ n ⟨r.ring.alloc, epochOf raw, raw, dom, quality, 0, (lookup r.ring.last n).isNone⟩ } := by
  unfold RingStep.open_
  dsimp only
  obtain ⟨indexed, h⟩ := RingStep.index_ring (match lookup r.ring.last n with
    | some y => _
    | none => _) n (epochOf raw) r.ring.alloc
  refine ⟨indexed, h.trans ?_⟩
  split <;> rfl

/-- An item in an open block that it does not fill. -/
theorem RingStep.put_of_open {r : RingStep} {n : Nat} {x : OpenBlock} (h : lookup r.ring.open_ n = some x) (hroom : x.count + 1 < blockItems n)
    (bytes : List Nat) : r.put n bytes =
      ⟨{ r.ring with open_ := insertKey r.ring.open_ n { x with count := x.count + 1 } },
        r.writes ++ [(blockAddr x.n + x.count * itemSize n, bytes)]⟩ := by
  rw [RingStep.put, h]
  exact if_neg (by omega)

theorem RingStep.item_of_open {r : RingStep} {n raw : Nat} {x : OpenBlock} (h : lookup r.ring.open_ n = some x) (hepoch : x.epoch = epochOf raw)
    (dom quality : Nat) (bytes : List Nat) : r.item n raw dom quality bytes = r.put n bytes := by
  rw [RingStep.item]
  simp only [h, hepoch, bne_self_eq_false, if_neg Bool.false_ne_true, Option.isSome_some, if_pos]

theorem RingStep.item_of_none {r : RingStep} {n : Nat} (h : lookup r.ring.open_ n = none) (raw dom quality : Nat) (bytes : List Nat) :
    r.item n raw dom quality bytes = (r.open_ n raw dom quality).put n bytes := by
  rw [RingStep.item]
  simp only [h, if_neg Bool.false_ne_true, Option.isSome_none]

/-- The ring after an item of a stream without an open block. -/
theorem RingStep.item_new_ring {r : RingStep} {n : Nat} (h : lookup r.ring.open_ n = none) (raw dom quality : Nat) (bytes : List Nat) :
    let q := (r.item n raw dom quality bytes).ring
    q.alloc = r.ring.alloc + 1 ∧ q.count = r.ring.count + 1 ∧ lookup q.last n = none ∧
      lookup q.open_ n = some ⟨r.ring.alloc, epochOf raw, raw, dom, quality, 1, (lookup r.ring.last n).isNone⟩ := by
  obtain ⟨indexed, hring⟩ := r.open_ring n raw dom quality
  have hopen : lookup (r.open_ n raw dom quality).ring.open_ n =
      some ⟨r.ring.alloc, epochOf raw, raw, dom, quality, 0, (lookup r.ring.last n).isNone⟩ := by
    rw [hring]
    exact lookup_insertKey_same _ _ _
  rw [RingStep.item_of_none h, RingStep.put_of_open hopen (one_lt_blockItems n), hring]
  exact ⟨rfl, rfl, lookup_eraseKey_same _ _, lookup_insertKey_same _ _ _⟩

/-- Writes to memory alone, one for each stream. -/
theorem RingStep.foldl_ring {h : RingStep → Nat → RingStep} (hh : ∀ r n, (h r n).ring = r.ring) (l : List Nat) (r : RingStep) :
    (l.foldl h r).ring = r.ring := by
  induction l generalizing r with
  | nil => rfl
  | cons n l ih => exact (ih _).trans (hh r n)

/-- A boundary closes every block and begins the count of the new epoch. -/
theorem RingStep.boundary_ring (r : RingStep) (k : Nat) :
    (r.boundary k).ring.alloc = r.ring.alloc ∧ (r.boundary k).ring.prev = r.ring.count ∧ (r.boundary k).ring.count = 0 ∧
      (r.boundary k).ring.cur = some k ∧ ∀ n < 80, lookup (r.boundary k).ring.open_ n = none := by
  obtain ⟨halloc, hcount, hopen⟩ := RingStep.foldl_close_keeps ringStreams r
  rw [RingStep.boundary]
  dsimp only
  generalize ringStreams.foldl RingStep.close r = q at halloc hcount hopen ⊢
  rw [RingStep.foldl_ring fun q n => by split <;> rfl]
  exact ⟨halloc, hcount, rfl, rfl, fun n hn => hopen n (.inl (List.mem_range.2 hn))⟩

/-! ### The instant that is due -/

theorem Block.seq_resolveEpochs (b : Block) (k : Nat) : (b.resolveEpochs.epochSt k).map (·.seq) = (b.epochSt k).map (·.seq) := by
  rw [Block.epochSt_resolveEpochs, Option.map_map]
  exact congrArg (Option.map · _) (funext fun x => (b.resolvedSt_keeps _ x).2.2.1)

theorem Block.exhausted_resolveEpochs (b : Block) (k : Nat) : (b.resolveEpochs.epochSt k).map (·.exhausted) = (b.epochSt k).map (·.exhausted) := by
  rw [Block.epochSt_resolveEpochs, Option.map_map]
  exact congrArg (Option.map · _) (funext fun x => (b.resolvedSt_keeps _ x).2.2.2.1)

/-- Lynx has taken the instant: its units and groups are as they met it. -/
theorem Block.lynxAfter_fields (b : Block) (i : Instant) : (b.lynxAfter i).instants = b.lynx.instants.tail ∧ (b.lynxAfter i).done = some i.raw ∧
    (b.lynxAfter i).units = (b.unitsAt (b.cfgOf (epochOf i.raw)) i).1 ∧
      (b.lynxAfter i).groups = (b.groupsAt (b.cfgOf (epochOf i.raw)) i (b.unitsAt (b.cfgOf (epochOf i.raw)) i).2).1 := by
  simp only [Block.lynxAfter, and_self]

/-- An instant leaves memory, and Lynx as its evaluation leaves it. -/
theorem Block.afterInstant_memoryAndLynx (b : Block) (i : Instant) : (b.afterInstant i).memoryAndLynx = (b.dram, b.lynxAfter i) := by
  by_cases h : b.metAt i = []
  · rw [Block.afterInstant_of_none h]
    rfl
  · obtain ⟨regs, heq, -⟩ := Block.evalInstant_fst h
    rw [(Block.keeps_afterInstant h).1, heq]
    rfl

section
variable {b : Block} {i : Instant} (h : b.metAt i ≠ [])
include h

theorem Block.trigCnt_afterInstant : (b.afterInstant i).get64 F.TRG_TRIG_CNT_LO F.TRG_TRIG_CNT_HI =
    min (2 ^ 64 - 1) (b.get64 F.TRG_TRIG_CNT_LO F.TRG_TRIG_CNT_HI + 1) := by
  obtain ⟨regs, -, -, hcount, -⟩ := Block.evalInstant_fst h
  have hkeep := (Block.keeps_afterInstant h).2
  rw [← hcount, Block.get64, hkeep _ (by decide), hkeep _ (by decide)]
  rfl

theorem Block.groupCnt_afterInstant {g : Nat} (hg : g < 256) : (b.afterInstant i).get (F.TRG_G_CNT g) =
    if (b.metAt i).contains g then min (2 ^ 32 - 1) (b.get (F.TRG_G_CNT g) + 1) else b.get (F.TRG_G_CNT g) := by
  obtain ⟨regs, -, -, -, hcount⟩ := Block.evalInstant_fst h
  have hrange : ∀ k ∈ openKeys, k < 0x71020 * 32 ∨ 0x80000 * 32 ≤ k := by decide
  have hkey : (F.TRG_G_CNT g).key ∉ openKeys := by
    intro hmem
    have hk := hrange _ hmem
    simp only [Field.key] at hk
    omega
  rw [(Block.keeps_afterInstant h).2 _ hkey, hcount]

theorem Block.evb_evalInstant : (b.evalInstant i).1.evb = b.evb := by
  obtain ⟨regs, heq, -⟩ := Block.evalInstant_fst h
  rw [heq]

theorem Block.frags_afterInstant_suppressed (hmay : b.mayOpen (b.cfgOf (epochOf i.raw)) (epochOf i.raw) = false) :
    (b.afterInstant i).evb.frags = b.evb.frags := by
  cases hf : (b.triggerAt i).primary with
  | none => rw [Block.afterInstant_of_noPrimary h hf, Block.evb_evalInstant h]
  | some f =>
    have hmay' := (Block.mayOpen_evalInstant h (b.cfgOf (epochOf i.raw)) (epochOf i.raw)).trans hmay
    rw [Block.afterInstant_of_primary h hf, Block.openTrigger_suppressed hmay', Block.bump_evb, Block.evb_evalInstant h]

theorem Block.epochSt_evalInstant (k : Nat) : (b.evalInstant i).1.epochSt k = b.epochSt k := by
  rw [Block.epochSt, Block.evb_evalInstant h]
  rfl

theorem Block.afterInstant_exhausted {f : Firing} {e : EpochSt} (hf : (b.triggerAt i).primary = some f)
    (hmay : b.mayOpen (b.cfgOf (epochOf i.raw)) (epochOf i.raw) = true) (he : b.epochSt (epochOf i.raw) = some e) (hseq : 65536 ≤ e.seq) :
    (b.afterInstant i).evb.frags = b.evb.frags ∧ ((b.afterInstant i).epochSt (epochOf i.raw)).map (·.exhausted) = some (e.exhausted + 1) := by
  have he' := (Block.epochSt_evalInstant h (epochOf i.raw)).trans he
  rw [Block.afterInstant_of_primary h hf,
    Block.openTrigger_exhausted (t := b.triggerAt i) ((Block.mayOpen_evalInstant h _ _).trans hmay) he' hseq]
  have hfrags : (b.evalInstant i).1.evb.frags = b.evb.frags := congrArg EvbSt.frags (Block.evb_evalInstant h)
  refine ⟨hfrags, ?_⟩
  have hmod := Block.epochSt_modEpoch (f := fun e => { e with exhausted := e.exhausted + 1 }) (fun _ => rfl) he'
  exact congrArg (Option.map fun x : EpochSt => x.exhausted) hmod

theorem Block.afterInstant_opens {f : Firing} {e : EpochSt} {w : Nat × Nat × Bool} (hf : (b.triggerAt i).primary = some f)
    (hmay : b.mayOpen (b.cfgOf (epochOf i.raw)) (epochOf i.raw) = true) (he : b.epochSt (epochOf i.raw) = some e) (hseq : e.seq < 65536)
    (hstream : (b.cfgOf (epochOf i.raw)).flag (F.TRG_G_CFG_STREAM (b.triggerAt i).group) = false)
    (hw : clipWindow (retention (b.loadAt (epochOf i.raw) (popCount (b.cfgOf (epochOf i.raw)).groups 60))) (b.triggerAt i).pre
      (b.triggerAt i).post false = w)
    (hroom : chunksFor ((b.cfgOf (epochOf i.raw)).res (b.triggerAt i).group (b.triggerAt i).readout (w.1 + w.2.1)) ≤ b.freeChunks) :
    (∃ g ∈ (b.afterInstant i).evb.frags, g.desc.ident = identOf b.node (epochOf i.raw) e.seq ∧ g.key = epochOf i.raw ∧ g.trig = i.raw ∧
        g.desc.group = (b.triggerAt i).group ∧ g.desc.cause = (b.triggerAt i).cause ∧ g.desc.readout = (b.triggerAt i).readout ∧
        g.desc.winLen = w.1 + w.2.1) ∧
      (b.afterInstant i).epochSt (epochOf i.raw) = some { e with seq := e.seq + 1 } := by
  have he' := (Block.epochSt_evalInstant h (epochOf i.raw)).trans he
  have hmay' := (Block.mayOpen_evalInstant h (b.cfgOf (epochOf i.raw)) (epochOf i.raw)).trans hmay
  obtain ⟨regs, heq, hget, -⟩ := Block.evalInstant_fst h
  have hnode : (b.evalInstant i).1.node = b.node := hget _ (notMem_instantKeys (by decide) (by decide))
  have hload (k n : Nat) : (b.evalInstant i).1.loadAt k n = b.loadAt k n := by rw [heq]; rfl
  have hfree : (b.evalInstant i).1.freeChunks = b.freeChunks := by rw [heq]; rfl
  obtain ⟨c, x, n, hplace, hepoch, hst, hkey, htrig, hident, hdesc⟩ := Block.openTrigger_places (t := b.triggerAt i) (w := w) hmay' he' hseq
    hstream (by rw [hload]; exact hw) (by rw [hfree]; exact hroom) f
  obtain ⟨⟨g, hg, hgdesc, hgkey, hgtrig⟩, hseq'⟩ := Block.placeFrag_speculative hst (hkey ▸ hepoch) false n
  rw [Block.afterInstant_of_primary h hf, hplace]
  rw [hkey] at hseq'
  refine ⟨⟨g, hg, ?_, hgkey.trans hkey, hgtrig.trans htrig, ?_⟩, hseq'⟩
  · rw [hgdesc, hident, hnode]
    rfl
  · rw [hgdesc]
    exact hdesc

end

end Sys2Proof.Machine

namespace Sys2Proof.Proofs

open Sys2Proof Sys2Proof.Machine

/-- Settles O56: an instant's counters are those of its met groups, its fragment is the one that is placed, and the ring manager's steps
are read off its table of blocks. -/
theorem gridInstantsAndTheRing : Obligations.GridInstantsAndTheRing := by
  unfold Obligations.GridInstantsAndTheRing
  intro s b
  refine ⟨fun hnone => ?_, fun i l hlist => ?_, fun hnone => ?_, fun x l hlist => ⟨fun hon hsb => ?_, fun hon hsb => ⟨?_, ?_, ?_⟩⟩⟩
  · rw [exec_gridInstantEval _ rfl, gridInstantEval, hnone]
  · intro c k due gr x
    have hexec := exec_gridInstantEval s rfl
    rw [gridInstantEval_of_instant hlist] at hexec
    refine ⟨fun hearly => ?_, fun hdue => ?_⟩
    · rw [hexec, decide_eq_false (Nat.not_le.2 hearly), Bool.and_false, whenDue_false]
    · obtain ⟨hon, hgap, htick⟩ := hdue
      have hexec' : exec .gridInstantEval s = .next { s with hw := (b.afterInstant i).resolveEpochs } := by
        rw [hexec, hon, hgap, decide_eq_true htick]
        rfl
      have hmem := b.afterInstant_memoryAndLynx i
      refine ⟨_, hexec', rfl, (Block.resolveEpochs_dram _).trans (congrArg Prod.fst hmem), ?_⟩
      rw [Block.resolveEpochs_lynx, show (b.afterInstant i).lynx = b.lynxAfter i from congrArg Prod.snd hmem, Block.resolveEpochs_regs,
        Block.resolveEpochs_frags]
      obtain ⟨hinstants, hdone, hunits, hgroups⟩ := b.lynxAfter_fields i
      refine ⟨hinstants.trans (congrArg List.tail hlist), hdone, hunits, hgroups, fun hnone => ?_,
        fun hmet => ⟨?_, fun g hg => ?_, fun hmay => ?_, fun f e hf hmay he => ?_⟩⟩
      · rw [Block.afterInstant_of_none hnone]
        exact ⟨rfl, rfl⟩
      · rw [Block.get64, Block.resolveEpochs_get, Block.resolveEpochs_get]
        exact Block.trigCnt_afterInstant hmet
      · rw [Block.resolveEpochs_get]
        exact Block.groupCnt_afterInstant hmet hg
      · exact Block.frags_afterInstant_suppressed hmet hmay
      · refine ⟨fun hseq => ?_, fun hseq hstream hroom => ?_⟩
        · rw [Block.exhausted_resolveEpochs]
          exact Block.afterInstant_exhausted hmet hf hmay he hseq
        · obtain ⟨⟨g, hg, hident, hkey, htrig, hgroup, hcause, hreadout, hlen⟩, hst⟩ :=
            Block.afterInstant_opens hmet hf hmay he hseq hstream rfl hroom
          refine ⟨g, hg, hident, hkey, htrig, hgroup, hcause, hreadout, hlen, ?_⟩
          rw [Block.seq_resolveEpochs]
          exact congrArg (Option.map fun x : EpochSt => x.seq) hst
  · rw [exec_ringItemStore _ rfl, ringItemStore, hnone]
  · rw [exec_ringItemStore _ rfl, ringItemStore_off hlist hon hsb]
  · rintro n raw dom quality bytes rfl
    have hexec := exec_ringItemStore s rfl
    rw [ringItemStore_active hlist hon hsb] at hexec
    obtain ⟨hring, hlinks, -⟩ := Block.storeAll_keeps ((b.ring.take (.item n raw dom quality bytes)).writes)
      { b with links := l, ring := (b.ring.take (.item n raw dom quality bytes)).ring }
    refine ⟨fun y hy hepoch hroom => ?_, fun hopen => ?_⟩
    · have htake : b.ring.take (.item n raw dom quality bytes) =
          ⟨{ b.ring with open_ := insertKey b.ring.open_ n { y with count := y.count + 1 } },
            [(blockAddr y.n + y.count * itemSize n, bytes)]⟩ :=
        (RingStep.item_of_open (r := ⟨b.ring, []⟩) hy hepoch dom quality bytes).trans (RingStep.put_of_open hy hroom bytes)
      rw [hexec]
      rw [htake]
      rfl
    · refine ⟨_, hexec, rfl, hlinks, ?_⟩
      rw [hring]
      exact RingStep.item_new_ring (r := ⟨b.ring, []⟩) hopen raw dom quality bytes
  · rintro k rfl
    have hexec := exec_ringItemStore s rfl
    rw [ringItemStore_active hlist hon hsb] at hexec
    obtain ⟨hring, hlinks, -⟩ := Block.storeAll_keeps ((b.ring.take (.boundary k)).writes)
      { b with links := l, ring := (b.ring.take (.boundary k)).ring }
    refine ⟨_, hexec, rfl, hlinks, ?_⟩
    rw [hring]
    dsimp only [RingSt.take]
    exact RingStep.boundary_ring ⟨b.ring, []⟩ k
  · rintro g rfl
    have hexec := exec_ringItemStore s rfl
    rw [ringItemStore_active hlist hon hsb] at hexec
    obtain ⟨hring, hlinks, -⟩ := Block.storeAll_keeps ((b.ring.take (.stop g)).writes)
      { b with links := l, ring := (b.ring.take (.stop g)).ring }
    obtain ⟨halloc, hnone⟩ := RingStep.foldl_stop_keeps g ⟨b.ring, []⟩
    refine ⟨_, hexec, rfl, hlinks, ?_⟩
    rw [hring]
    exact ⟨halloc, fun n hn => hnone n (.inl hn)⟩

end Sys2Proof.Proofs

/-! SUPPORT. The trigger master: what a decision that it sends leaves of it (R40, R294, R296). -/

namespace Sys2Proof.Machine

open Sys2Proof

/-! ### What decisions leave -/

/-- The counters that a decision for this module may raise. -/
def decisionKeys : List Nat := ([F.EVB_STALE_DECISION, F.TRG_CLIP_CNT, F.TRG_BADDEC_CNT] : List Field).map Field.key

/-- What a decision leaves besides fields: memory, and the primitives that the master holds. -/
def Block.memoryAndPrims (b : Block) : Table Byte × List PrimitiveMsg := (b.dram, b.master.prims)

/-- The master's term and event number have reached those of a decision. -/
def Block.knows (b : Block) (t n : Nat) : Prop := t ≤ b.get F.TRG_STAT_TERM ∧ n ≤ b.get64 F.TRG_M_EVNO_LO F.TRG_M_EVNO_HI

theorem Keeps.term {b c : Block} (h : Keeps Block.memoryAndPrims decisionKeys b c) : c.get F.TRG_STAT_TERM = b.get F.TRG_STAT_TERM :=
  h.2 _ (by decide)

theorem Keeps.evno {b c : Block} (h : Keeps Block.memoryAndPrims decisionKeys b c) :
    c.get64 F.TRG_M_EVNO_LO F.TRG_M_EVNO_HI = b.get64 F.TRG_M_EVNO_LO F.TRG_M_EVNO_HI := by
  rw [Block.get64, h.2 _ (by decide), h.2 _ (by decide)]
  rfl

theorem Keeps.knows {b c : Block} {t n : Nat} (h : Keeps Block.memoryAndPrims decisionKeys b c) (hb : b.knows t n) : c.knows t n :=
  ⟨h.term.symm ▸ hb.1, h.evno.symm ▸ hb.2⟩

theorem Block.keeps_ackDecision (b : Block) (m : DecisionAckMsg) : Keeps Block.memoryAndPrims decisionKeys b (b.ackDecision m) :=
  Keeps.of_regs (by simp [Block.memoryAndPrims]) (b.ackDecision_regs m)

theorem Block.keeps_resolveEpochs (b : Block) : Keeps Block.memoryAndPrims decisionKeys b b.resolveEpochs :=
  Keeps.of_regs (by simp [Block.memoryAndPrims]) b.resolveEpochs_regs

theorem Block.keeps_bump_decision {f : Field} (hf : f.key ∈ decisionKeys) (b : Block) : Keeps Block.memoryAndPrims decisionKeys b (b.bump f) :=
  Keeps.bump rfl hf

theorem Block.keeps_staleDecision (b : Block) (m : DecisionMsg) : Keeps Block.memoryAndPrims decisionKeys b (b.staleDecision m) :=
  (Block.keeps_bump_decision (f := F.EVB_STALE_DECISION) (by decide) b).trans (Block.keeps_ackDecision _ _)

/-- What is known is not heard again. -/
theorem Block.heard_of_knows {b : Block} {t n : Nat} (h : b.knows t n) : b.heard t n = b.resolveEpochs := by
  have hterm : b.resolveEpochs.seeTerm t = b.resolveEpochs := if_neg (by rw [Block.resolveEpochs_get]; exact Nat.not_lt.2 h.1)
  have hevno : b.resolveEpochs.seeEvno n = b.resolveEpochs :=
    if_neg (by rw [Block.get64, Block.resolveEpochs_get, Block.resolveEpochs_get]; exact Nat.not_lt.2 h.2)
  rw [Block.heard, hterm, hevno]

theorem Block.keeps_followed (b : Block) (f g : Frag) : Keeps Block.memoryAndPrims decisionKeys b (b.followed f g) := by
  obtain ⟨frags, h⟩ := b.followed_eq f g
  exact Keeps.of_regs (by rw [h]; rfl) (by rw [h])

theorem Block.keeps_ackApplied (b : Block) (m : DecisionMsg) (l : List Frag) : Keeps Block.memoryAndPrims decisionKeys b (b.ackApplied m l) := by
  unfold Block.ackApplied
  split
  · exact Keeps.of_regs rfl rfl
  · exact b.keeps_ackDecision _

/-- A decision that brings nothing new to the master's term and event number. -/
theorem Block.keeps_applyDecision {b : Block} {m : DecisionMsg} (h : b.knows m.term m.eventNo) :
    Keeps Block.memoryAndPrims decisionKeys b (b.applyDecision m) := by
  by_cases hlow : m.term < b.get F.TRG_STAT_TERM
  · rw [Block.applyDecision_of_lowTerm hlow]
    exact b.keeps_staleDecision m
  · have hterm := Nat.not_lt.1 hlow
    cases hfrag : b.frag m.ident with
    | none =>
      rw [Block.applyDecision_of_unknown hterm hfrag, Block.heard_of_knows h]
      exact b.keeps_resolveEpochs.trans (Block.keeps_staleDecision _ m)
    | some f =>
      rw [Block.applyDecision_of_frag hterm hfrag, Block.heard_of_knows h]
      refine b.keeps_resolveEpochs.trans ?_
      dsimp only
      split
      · exact Block.keeps_staleDecision _ m
      · split
        · exact (Block.keeps_bump_decision (by decide) _).trans (Block.keeps_ackDecision _ _)
        · split
          · exact Block.keeps_ackDecision _ _
          · split
            · exact Block.keeps_staleDecision _ m
            · next r hr =>
              have hclip : Keeps Block.memoryAndPrims decisionKeys b.resolveEpochs r.1 := by
                rcases (Block.transition_keeps hr).1 with hsame | hbump
                · rw [hsame]; exact Keeps.refl
                · rw [hbump]; exact Block.keeps_bump_decision (by decide) _
              exact ((hclip.trans (r.1.keeps_followed f r.2)).trans (Block.keeps_ackApplied _ m _)).trans (Block.keeps_resolveEpochs _)

theorem Block.keeps_deliverDecision {b : Block} {m : DecisionMsg} (h : b.knows m.term m.eventNo) :
    Keeps Block.memoryAndPrims decisionKeys b (b.deliverDecision m) := by
  unfold Block.deliverDecision
  split
  · exact Block.keeps_applyDecision h
  · split <;> exact Keeps.of_regs rfl rfl

theorem Block.keeps_sendDecision {b : Block} {m : DecisionMsg} (h : b.knows m.term m.eventNo) (time : Nat) :
    Keeps Block.memoryAndPrims decisionKeys b (b.sendDecision m time) := by
  have hout : Keeps Block.memoryAndPrims decisionKeys b { b with master := { b.master with out := b.master.out ++ [(m, time)] } } :=
    Keeps.of_regs rfl rfl
  have hcopies := hout.trans (Keeps.foldl (h := fun c n => c.post (.node n) 2 (.decision m)) (fun _ _ => Keeps.of_regs rfl rfl)
    ({ b with master := { b.master with out := b.master.out ++ [(m, time)] } } : Block).standbyNodes _)
  exact hcopies.trans (Block.keeps_deliverDecision (hcopies.knows h))

theorem Block.keeps_reject (b : Block) (rule : Nat) (p : PrimitiveMsg) : Keeps Block.memoryAndPrims decisionKeys b (b.reject rule p) :=
  Block.keeps_sendDecision (m := ⟨2, b.get F.TRG_STAT_TERM, p.ident, true, 0, 0, rule, 0, 0⟩) ⟨Nat.le_refl _, Nat.zero_le _⟩ _

theorem Block.keeps_acceptOne {b : Block} {n : Nat} (h : n ≤ b.get64 F.TRG_M_EVNO_LO F.TRG_M_EVNO_HI) (c : EpochCfg) (r : Nat)
    (builder : Option Nat) (p : PrimitiveMsg) : Keeps Block.memoryAndPrims decisionKeys b (b.acceptOne c r n builder p) := by
  have hknows : b.knows (b.get F.TRG_STAT_TERM) n := ⟨Nat.le_refl _, h⟩
  have haccept := Block.keeps_sendDecision (m := ⟨1, b.get F.TRG_STAT_TERM, p.ident, builder.isNone, builder.getD 0, n, r, 0, 0⟩) hknows (primTime p)
  unfold Block.acceptOne
  dsimp only
  split
  · exact haccept
  · exact haccept.trans (Block.keeps_sendDecision (haccept.knows hknows) _)

/-- Members accepted one after another. -/
theorem Block.keeps_foldl_acceptOne {n : Nat} (c : EpochCfg) (r : Nat) (builder : Option Nat) (l : List PrimitiveMsg) (b : Block)
    (h : n ≤ b.get64 F.TRG_M_EVNO_LO F.TRG_M_EVNO_HI) :
    Keeps Block.memoryAndPrims decisionKeys b (l.foldl (fun d p => d.acceptOne c r n builder p) b) := by
  induction l generalizing b with
  | nil => exact Keeps.refl
  | cons p l ih =>
    have hone := Block.keeps_acceptOne h c r builder p
    exact hone.trans (ih _ (hone.evno.symm ▸ h))

/-! ### Announcements -/

/-- An announcement changes the merge slots and the log of epochs. -/
theorem Block.announce_eq (b : Block) (m : AnnounceMsg) : ∃ evb, b.announce m = { b with evb := evb } := by
  have hslot (x : Nat) (y : Nat) (z : Nat) (r : Bool) : ∃ evb, (b.slotFor x y z r).1 = { b with evb := evb } := by
    unfold Block.slotFor
    split
    · exact ⟨b.evb, rfl⟩
    · exact ⟨_, rfl⟩
  unfold Block.announce
  split
  · exact ⟨b.evb, rfl⟩
  · obtain ⟨evb, h⟩ := hslot m.eventNo m.term b.node false
    dsimp only
    rw [h, Block.checkSlot]
    split <;> exact ⟨_, rfl⟩

theorem Block.keeps_sendAnnounce (b : Block) (n : Nat) (m : AnnounceMsg) : Keeps Block.memoryAndPrims decisionKeys b (b.sendAnnounce n m) := by
  unfold Block.sendAnnounce
  split
  · obtain ⟨evb, h⟩ := b.announce_eq m
    exact Keeps.of_regs (by rw [h]; rfl) (by rw [h])
  · exact Keeps.of_regs rfl rfl

/-! ### A set accepted (R294) -/

/-- The builder of an event number, where the image lists one. -/
def Block.builderOf (b : Block) (n : Nat) : Option Nat :=
  if b.get F.TRG_BUILDERS = 0 then none else some (b.get (F.TRG_BUILDER (n % b.get F.TRG_BUILDERS)))

/-- The ANNOUNCE of a set to its builder, remembered at the master. -/
def Block.announceSet (b : Block) (n : Nat) (l : List PrimitiveMsg) : Block :=
  match b.builderOf n with
  | some d =>
    { b.sendAnnounce d ⟨b.get F.TRG_STAT_TERM, n, ((primNodes l).map fun i => 2 ^ i).sum⟩ with
      master := { b.master with announced := (b.master.announced.filter fun x => !b.resolved2s x.2.2) ++
        [(⟨b.get F.TRG_STAT_TERM, n, ((primNodes l).map fun i => 2 ^ i).sum⟩, d, b.epochNow)] } }
  | none => b

/-- The RETRO of a rule that sends one (R298). -/
def Block.sendRetro (b : Block) (c : EpochCfg) (r n : Nat) (l : List PrimitiveMsg) : Block :=
  if c.flag (F.TRG_RULE_CFG_RETRO r) then
    match firstPrim l with
    | some p =>
      b.post (.group (c.get (F.TRG_RULE_CFG_RETRO_MCAST r))) 2
        (.retro ⟨c.get (F.TRG_RULE_PS_RETRO_GROUP r), b.get F.TRG_STAT_TERM, p.ident, p.wrap, p.ns, p.w2, n⟩)
    | none => b
  else b

/-- An accepted set: the event number, the ANNOUNCE, the members, the RETRO. -/
theorem Block.acceptSet_eq (b : Block) (c : EpochCfg) (r : Nat) (l : List PrimitiveMsg) : b.acceptSet c r l =
    (let n := (b.get64 F.TRG_M_EVNO_LO F.TRG_M_EVNO_HI + 1) % 2 ^ 48
     let b1 := b.put64 F.TRG_M_EVNO_LO F.TRG_M_EVNO_HI n
     (l.foldl (fun d p => d.acceptOne c r n (b1.builderOf n) p) (b1.announceSet n l)).sendRetro c r n l) := rfl

theorem Block.keeps_announceSet (b : Block) (n : Nat) (l : List PrimitiveMsg) : Keeps Block.memoryAndPrims decisionKeys b (b.announceSet n l) := by
  unfold Block.announceSet
  split
  · next d _ =>
    have h := b.keeps_sendAnnounce d ⟨b.get F.TRG_STAT_TERM, n, ((primNodes l).map fun i => 2 ^ i).sum⟩
    have hdram := congrArg Prod.fst h.1
    exact ⟨Prod.ext hdram rfl, h.2⟩
  · exact Keeps.refl

theorem Block.keeps_sendRetro (b : Block) (c : EpochCfg) (r n : Nat) (l : List PrimitiveMsg) :
    Keeps Block.memoryAndPrims decisionKeys b (b.sendRetro c r n l) := by
  unfold Block.sendRetro
  split
  · split
    · exact Keeps.of_regs rfl rfl
    · exact Keeps.refl
  · exact Keeps.refl

/-- An event number of 48 bits reads as it was put. -/
theorem Block.get_evno_put64 {b : Block} {n : Nat} (hn : n < 2 ^ 48) :
    (b.put64 F.TRG_M_EVNO_LO F.TRG_M_EVNO_HI n).get64 F.TRG_M_EVNO_LO F.TRG_M_EVNO_HI = n :=
  Block.get64_put64 (by decide) rfl (Nat.div_lt_of_lt_mul hn)

/-- Beyond its event number, an accepted set leaves memory, the primitives held, and every field but a decision's counters. -/
theorem Block.keeps_acceptSet (b : Block) (c : EpochCfg) (r : Nat) (l : List PrimitiveMsg) :
    Keeps Block.memoryAndPrims decisionKeys
      (b.put64 F.TRG_M_EVNO_LO F.TRG_M_EVNO_HI ((b.get64 F.TRG_M_EVNO_LO F.TRG_M_EVNO_HI + 1) % 2 ^ 48)) (b.acceptSet c r l) := by
  rw [Block.acceptSet_eq]
  dsimp only
  have hn : (b.get64 F.TRG_M_EVNO_LO F.TRG_M_EVNO_HI + 1) % 2 ^ 48 < 2 ^ 48 := Nat.mod_lt _ (by decide)
  generalize (b.get64 F.TRG_M_EVNO_LO F.TRG_M_EVNO_HI + 1) % 2 ^ 48 = n at hn ⊢
  have hevno : (b.put64 F.TRG_M_EVNO_LO F.TRG_M_EVNO_HI n).get64 F.TRG_M_EVNO_LO F.TRG_M_EVNO_HI = n := Block.get_evno_put64 hn
  generalize b.put64 F.TRG_M_EVNO_LO F.TRG_M_EVNO_HI n = b1 at hevno ⊢
  have hannounce := b1.keeps_announceSet n l
  have hmembers := Block.keeps_foldl_acceptOne (n := n) c r (b1.builderOf n) l (b1.announceSet n l) (by rw [hannounce.evno, hevno])
  exact (hannounce.trans hmembers).trans (Block.keeps_sendRetro _ c r n l)

/-! ### The primitive that comes first (R294) -/

/-- No primitive of a dropped set is held. -/
theorem Block.notMem_dropPrims {b : Block} {l : List PrimitiveMsg} {p : PrimitiveMsg} (h : p ∈ (b.dropPrims l).master.prims) : p ∉ l := by
  simpa using (List.mem_filter.1 h).2

theorem Block.decidePrim_of_none {b : Block} {c : EpochCfg} {p : PrimitiveMsg} (h : metRule c p b.master.prims = none) :
    b.decidePrim c p = (b.dropPrims [p]).reject 0 p := by
  rw [Block.decidePrim, h]

theorem Block.decidePrim_of_some {b : Block} {c : EpochCfg} {p : PrimitiveMsg} {r : Nat} (h : metRule c p b.master.prims = some r) :
    b.decidePrim c p =
      (let n := (b.get (F.TRG_RULE_MATCH r) + 1) % 2 ^ 32
       let b1 := (b.put (F.TRG_RULE_MATCH r) n).dropPrims (ruleSet c r p b.master.prims)
       if n % max 1 (c.get (F.TRG_RULE_PS_PRESCALE r)) = 0 then b1.acceptSet c r (ruleSet c r p b.master.prims)
       else (ruleSet c r p b.master.prims).foldl (fun d q => d.reject r q) b1) := by
  rw [Block.decidePrim, h]

/-- A rule that is met is one of the 64. -/
theorem lt_of_metRule {c : EpochCfg} {p : PrimitiveMsg} {l : List PrimitiveMsg} {r : Nat} (h : metRule c p l = some r) : r < 64 :=
  List.mem_range.1 (List.mem_filter.1 (List.mem_of_find?_eq_some h)).1

/-- MATCH of a rule is no counter of a decision, and no part of the event number. -/
theorem ruleMatch_key {r : Nat} (hr : r < 64) : (F.TRG_RULE_MATCH r).key ∉ decisionKeys ∧ (F.TRG_RULE_MATCH r).key ≠ F.TRG_M_EVNO_LO.key ∧
    (F.TRG_RULE_MATCH r).key ≠ F.TRG_M_EVNO_HI.key := by
  have hrange : ∀ k ∈ decisionKeys, k < 0x70214 * 32 ∨ 0x80000 * 32 ≤ k := by decide
  refine ⟨fun hmem => ?_, ?_, ?_⟩
  · have hk := hrange _ hmem
    simp only [Field.key] at hk
    omega
  · simp only [Field.key]
    omega
  · simp only [Field.key]
    omega

/-- What a met rule makes of the master: the set has left, MATCH counts, and one match in PRESCALE takes an event number. -/
theorem Block.decidePrim_met {b : Block} {c : EpochCfg} {p : PrimitiveMsg} {r : Nat} (h : metRule c p b.master.prims = some r) :
    let n := (b.get (F.TRG_RULE_MATCH r) + 1) % 2 ^ 32
    let d := b.decidePrim c p
    d.dram = b.dram ∧ d.get (F.TRG_RULE_MATCH r) = n ∧ (∀ q ∈ d.master.prims, q ∉ ruleSet c r p b.master.prims) ∧
      (n % max 1 (c.get (F.TRG_RULE_PS_PRESCALE r)) = 0 →
        d.get64 F.TRG_M_EVNO_LO F.TRG_M_EVNO_HI = (b.get64 F.TRG_M_EVNO_LO F.TRG_M_EVNO_HI + 1) % 2 ^ 48) ∧
      (n % max 1 (c.get (F.TRG_RULE_PS_PRESCALE r)) ≠ 0 →
        d.get64 F.TRG_M_EVNO_LO F.TRG_M_EVNO_HI = b.get64 F.TRG_M_EVNO_LO F.TRG_M_EVNO_HI) := by
  intro n d
  obtain ⟨hkey, hlo, hhi⟩ := ruleMatch_key (lt_of_metRule h)
  let b1 := (b.put (F.TRG_RULE_MATCH r) n).dropPrims (ruleSet c r p b.master.prims)
  have hmatch : b1.get (F.TRG_RULE_MATCH r) = n := Block.get_put_of_lt (Nat.mod_lt _ (by decide))
  have hevno : b1.get64 F.TRG_M_EVNO_LO F.TRG_M_EVNO_HI = b.get64 F.TRG_M_EVNO_LO F.TRG_M_EVNO_HI := by
    change (b.put (F.TRG_RULE_MATCH r) n).get64 _ _ = _
    rw [Block.get64, Block.get_put_other _ _ _ _ hlo.symm, Block.get_put_other _ _ _ _ hhi.symm]
    rfl
  have hd : d = if n % max 1 (c.get (F.TRG_RULE_PS_PRESCALE r)) = 0 then b1.acceptSet c r (ruleSet c r p b.master.prims)
      else (ruleSet c r p b.master.prims).foldl (fun d q => d.reject r q) b1 := Block.decidePrim_of_some h
  by_cases hn : n % max 1 (c.get (F.TRG_RULE_PS_PRESCALE r)) = 0
  · have hkeep := b1.keeps_acceptSet c r (ruleSet c r p b.master.prims)
    rw [← (hd.trans (if_pos hn))] at hkeep
    refine ⟨congrArg Prod.fst hkeep.1, ?_, fun q hq => ?_, fun _ => ?_, fun hn' => absurd hn hn'⟩
    · rw [hkeep.2 _ hkey, Block.get_put64_other hlo hhi, hmatch]
    · rw [show d.master.prims = b1.master.prims from congrArg Prod.snd hkeep.1] at hq
      exact Block.notMem_dropPrims hq
    · rw [hkeep.evno, Block.get_evno_put64 (Nat.mod_lt _ (by decide)), hevno]
  · have hkeep := Keeps.foldl (fun d q => Block.keeps_reject d r q) (ruleSet c r p b.master.prims) b1
    rw [← (hd.trans (if_neg hn))] at hkeep
    refine ⟨congrArg Prod.fst hkeep.1, ?_, fun q hq => ?_, fun hn' => absurd hn' hn, fun _ => ?_⟩
    · rw [hkeep.2 _ hkey, hmatch]
    · rw [show d.master.prims = b1.master.prims from congrArg Prod.snd hkeep.1] at hq
      exact Block.notMem_dropPrims hq
    · rw [hkeep.evno, hevno]

end Sys2Proof.Machine

/-! SUPPORT. Heartbeats, seals, the change of master, retro fragments (R292, R293, R296 to R298). -/

namespace Sys2Proof.Machine

open Sys2Proof

/-! ### Seals (R293) -/

/-- The counters of a seal. -/
def sealKeys : List Nat := ([F.TRG_SEALUND_CNT, F.EVB_DEADLINE_DISCARD] : List Field).map Field.key

/-- What a seal leaves besides fields, once it is noted: memory, the master, what is posted, the seal. -/
def Block.outsideEpochs (b : Block) : Table Byte × MasterSt × List Posted × Option Nat := (b.dram, b.master, b.posted, b.evb.sealed)

theorem Block.keeps_deadlineOne_seal (b : Block) (f : Frag) : Keeps Block.outsideEpochs sealKeys b (b.deadlineOne f) := by
  unfold Block.deadlineOne
  split
  · split
    · exact Keeps.trans (c := b.setFrag f.discard) (Keeps.of_regs rfl rfl) (Keeps.bump rfl (by decide))
    · exact Keeps.of_regs rfl rfl
  · exact Keeps.refl

theorem Block.keeps_sealEpochs (b : Block) : Keeps Block.outsideEpochs sealKeys b b.sealEpochs := by
  refine Keeps.foldl (fun c f => ?_) _ b
  split
  · split
    · exact (Keeps.bump rfl (by decide)).trans (Block.keeps_deadlineOne_seal _ _)
    · exact Keeps.refl
  · exact Keeps.refl

theorem Block.keeps_resolveEpochs_seal (b : Block) : Keeps Block.outsideEpochs sealKeys b b.resolveEpochs :=
  Keeps.of_regs (by rw [Block.resolveEpochs_eq]; rfl) b.resolveEpochs_regs

/-- A seal that reaches the module: the higher one is noted, and the epochs under it take their deadlines. -/
theorem Block.keeps_takeSeal (b : Block) (k : Nat) :
    Keeps Block.outsideEpochs sealKeys { b with evb := { b.evb with sealed := sealMax b.evb.sealed k } } (b.takeSeal k) :=
  (Block.keeps_sealEpochs _).trans (Block.keeps_resolveEpochs_seal _)

/-! ### Heartbeats (R292, R297) -/

/-- A heartbeat goes on down the tree: it is posted. -/
theorem Block.heartbeatDown_eq (b : Block) (m : HeartbeatMsg) : ∃ posted, b.heartbeatDown m = { b with posted := posted } := by
  unfold Block.heartbeatDown
  generalize b.childPorts 2 = l
  induction l generalizing b with
  | nil => exact ⟨b.posted, rfl⟩
  | cons p l ih => exact ih _

/-- The block that a heartbeat of a new master finds: an acting master of a lower term has stopped. -/
def Block.stopped (b : Block) (term : Nat) : Block := if b.acting then b.stepDown term else b

/-- A heartbeat that is taken, before it goes on. -/
def Block.beaten (b : Block) (m : HeartbeatMsg) : Block :=
  let b2 := ((b.stopped m.term).heard m.term m.eventNo).put F.TRG_STAT_MASTER_NODE m.master
  { b2 with master := { b2.master with beat := b2.tick } }.takeSeal (m.sealedWrap * 4096 + m.sealedEpoch)

theorem heartbeatRx_of_on {b : Block} (hon : b.ccOn = true) (viaTree : Bool) (m : HeartbeatMsg) : heartbeatRx viaTree m b =
    if m.term < b.get F.TRG_STAT_TERM then b.bump F.EVB_STALE_DECISION
    else if b.acting && m.term == b.get F.TRG_STAT_TERM then b
    else if viaTree then (b.beaten m).heartbeatDown m else b.beaten m := by
  rw [heartbeatRx, hon, whenDue_true]
  rfl

/-- What stopping leaves, and that it ends the acting. -/
theorem Block.stopped_spec (b : Block) (term : Nat) :
    (b.stopped term).dram = b.dram ∧ (b.stopped term).posted = b.posted ∧ (b.stopped term).tick = b.tick ∧
      (b.stopped term).evb.sealed = b.evb.sealed ∧ (b.stopped term).get F.TRG_STAT_TERM = b.get F.TRG_STAT_TERM ∧
      (b.stopped term).get F.TRG_STAT_ACTING = 0 ∧
      (b.acting = true → (b.stopped term).master.prims = [] ∧
        (b.stopped term).get F.TRG_M_STEPDOWN_CNT = min (2 ^ 32 - 1) (b.get F.TRG_M_STEPDOWN_CNT + 1)) := by
  unfold Block.stopped
  cases hacting : b.acting with
  | false =>
    have hzero : b.get F.TRG_STAT_ACTING = 0 := by simpa [Block.acting, Block.flag] using hacting
    exact ⟨rfl, rfl, rfl, rfl, rfl, hzero, fun h => absurd h Bool.false_ne_true⟩
  | true =>
    have hget (f : Field) : (b.stepDown term).get f = ((b.put F.TRG_STAT_ACTING 0).bump F.TRG_M_STEPDOWN_CNT).get f := rfl
    rw [if_pos rfl]
    refine ⟨rfl, rfl, rfl, rfl, ?_, ?_, fun _ => ⟨rfl, ?_⟩⟩
    · rw [hget, Block.get_bump_other (by decide), Block.get_put_other _ _ _ _ (by decide)]
    · rw [hget, Block.get_bump_other (by decide), Block.get_put_same]
      rfl
    · rw [hget, Block.get_bump_32 rfl, Block.get_put_other _ _ _ _ (by decide)]

/-- A heartbeat of a master whose term is not lower. -/
theorem Block.beaten_spec {b : Block} {m : HeartbeatMsg} (hterm : b.get F.TRG_STAT_TERM ≤ m.term) (ht : m.term < 65536) (hm : m.master < 4096) :
    (b.beaten m).dram = b.dram ∧ (b.beaten m).get F.TRG_STAT_TERM = m.term ∧ (b.beaten m).get F.TRG_STAT_MASTER_NODE = m.master ∧
      (b.beaten m).get F.TRG_STAT_ACTING = 0 ∧ (b.beaten m).master.beat = b.tick ∧
      (b.beaten m).evb.sealed = sealMax b.evb.sealed (m.sealedWrap * 4096 + m.sealedEpoch) ∧
      (b.acting = true → (b.beaten m).master.prims = [] ∧
        (b.beaten m).get F.TRG_M_STEPDOWN_CNT = min (2 ^ 32 - 1) (b.get F.TRG_M_STEPDOWN_CNT + 1)) ∧
      (b.beaten m).posted = b.posted := by
  obtain ⟨hdram, hposted, htick, hsealed, hget, hacting, hstop⟩ := b.stopped_spec m.term
  have hle : (b.stopped m.term).get F.TRG_STAT_TERM ≤ m.term := hget.symm ▸ hterm
  have hheard := Block.heard_eq (b.stopped m.term) m.term m.eventNo
  generalize hc : (b.stopped m.term).heard m.term m.eventNo = c at hheard
  have hsame : c.dram = b.dram ∧ c.posted = b.posted ∧ c.tick = b.tick ∧ c.evb.sealed = b.evb.sealed ∧ c.master = (b.stopped m.term).master := by
    rw [hheard]
    exact ⟨(Block.resolveEpochs_dram _).trans hdram, (Block.resolveEpochs_posted _).trans hposted, (Block.resolveEpochs_tick _).trans htick,
      (Block.resolveEpochs_sealed _).trans hsealed, Block.resolveEpochs_master _⟩
  obtain ⟨hcdram, hcposted, hctick, hcsealed, hcmaster⟩ := hsame
  have hcget (f : Field) (h1 : f.key ≠ F.TRG_STAT_TERM.key) (h2 : f.key ≠ F.TRG_M_EVNO_LO.key) (h3 : f.key ≠ F.TRG_M_EVNO_HI.key) :
      c.get f = (b.stopped m.term).get f := hc ▸ Block.get_heard_other h1 h2 h3 _ _
  let d : Block := { c.put F.TRG_STAT_MASTER_NODE m.master with master := { c.master with beat := c.tick } }
  have hbeaten : b.beaten m = d.takeSeal (m.sealedWrap * 4096 + m.sealedEpoch) := by
    rw [Block.beaten, hc]
    rfl
  obtain ⟨hkeep, hfield⟩ := d.keeps_takeSeal (m.sealedWrap * 4096 + m.sealedEpoch)
  rw [← hbeaten] at hkeep hfield
  have hmaster : (b.beaten m).master = { c.master with beat := c.tick } := congrArg (fun x => x.2.1) hkeep
  have hdget (f : Field) (hf : f.key ≠ F.TRG_STAT_MASTER_NODE.key) (hk : f.key ∉ sealKeys) : (b.beaten m).get f = c.get f :=
    (hfield f hk).trans (Block.get_put_other _ _ _ _ hf)
  refine ⟨(congrArg Prod.fst hkeep).trans hcdram, ?_, ?_, ?_, ?_, ?_, fun hact => ⟨?_, ?_⟩, (congrArg (fun x => x.2.2.1) hkeep).trans hcposted⟩
  · rw [hdget _ (by decide) (by decide), ← hc, Block.get_heard_term hle ht]
  · exact (hfield F.TRG_STAT_MASTER_NODE (by decide)).trans (Block.get_put_of_lt hm)
  · rw [hdget _ (by decide) (by decide), hcget _ (by decide) (by decide) (by decide), hacting]
  · rw [hmaster]
    exact hctick
  · refine (congrArg (fun x => x.2.2.2) hkeep).trans ?_
    rw [← hcsealed]
    rfl
  · rw [hmaster]
    exact (congrArg MasterSt.prims hcmaster).trans (hstop hact).1
  · rw [hdget _ (by decide) (by decide), hcget _ (by decide) (by decide) (by decide), (hstop hact).2]

/-! ### The change of master (R296) -/

/-- A standby acts as the master, under a term, an event number and its node: it raises source 156 and holds nothing. -/
def Block.actAs (b : Block) (term number node : Nat) : Block :=
  let c := ((((b.put F.TRG_STAT_TERM term).put64 F.TRG_M_EVNO_LO F.TRG_M_EVNO_HI number).put F.TRG_STAT_ACTING 1).put
    F.TRG_STAT_MASTER_NODE node).raise 156 term
  { c with master := { c.master with sealed := some c.epochNow, prims := [], out := [], announced := [] } }

theorem triggerStandbyTakeover_eq (b : Block) : triggerStandbyTakeover b =
    whenDue (b.phase == .live && !b.acting && (b.flag F.TRG_STAT_ROLE_STANDBY || b.flag F.TRG_STAT_ROLE_MASTER)
      && decide (b.master.beat + b.get F.TRG_DEADLINE * usTicks ≤ b.tick))
      (fun b => b.resolveEpochs.actAs ((b.get F.TRG_STAT_TERM + 1) % 65536)
        ((b.resolveEpochs.get64 F.TRG_M_EVNO_LO F.TRG_M_EVNO_HI + 2 ^ 24 - 1) % 2 ^ 48) b.node) b := by
  unfold triggerStandbyTakeover Block.actAs
  rfl

/-- An edge of a source leaves it active. -/
theorem Block.active_raise (b : Block) (n x : Nat) : ((b.raise n x).source n).active = true := by
  rw [Block.raise, Block.source_setSource_same, SrcSt.edge]
  split
  · assumption
  · rfl

theorem Block.actAs_keeps (b : Block) (term number node : Nat) :
    (b.actAs term number node).dram = b.dram ∧ (b.actAs term number node).master.prims = [] ∧
      (b.actAs term number node).master.sealed = some b.epochNow ∧ ((b.actAs term number node).source 156).active = true :=
  ⟨rfl, rfl, rfl, Block.active_raise _ 156 _⟩

theorem Block.actAs_get {b : Block} {term number : Nat} (hterm : term < 65536) (hnumber : number < 2 ^ 48) (node : Nat) :
    (b.actAs term number node).get F.TRG_STAT_TERM = term ∧ (b.actAs term number node).get F.TRG_STAT_ACTING = 1 ∧
      (b.actAs term number node).get F.TRG_STAT_MASTER_NODE = node % 4096 ∧
      (b.actAs term number node).get64 F.TRG_M_EVNO_LO F.TRG_M_EVNO_HI = number := by
  let c := (b.put F.TRG_STAT_TERM term).put64 F.TRG_M_EVNO_LO F.TRG_M_EVNO_HI number
  have hget (f : Field) : (b.actAs term number node).get f = ((c.put F.TRG_STAT_ACTING 1).put F.TRG_STAT_MASTER_NODE node).get f := rfl
  have hother (f : Field) (h1 : f.key ≠ F.TRG_STAT_ACTING.key) (h2 : f.key ≠ F.TRG_STAT_MASTER_NODE.key) :
      (b.actAs term number node).get f = c.get f := by
    rw [hget, Block.get_put_other _ _ _ _ h2, Block.get_put_other _ _ _ _ h1]
  refine ⟨?_, ?_, ?_, ?_⟩
  · rw [hother _ (by decide) (by decide), Block.get_put64_other (by decide) (by decide), Block.get_put_of_lt hterm]
  · rw [hget, Block.get_put_other _ _ _ _ (by decide), Block.get_put_same]
    rfl
  · rw [hget, Block.get_put_same]
    rfl
  · rw [Block.get64, hother _ (by decide) (by decide), hother _ (by decide) (by decide), ← Block.get64, Block.get_evno_put64 hnumber]

/-! ### Retro fragments (R298) -/

/-- The epoch that runs is as before a term and an event number were heard. -/
theorem Block.epochNow_heard (b : Block) (t n : Nat) : (b.heard t n).epochNow = b.epochNow := by
  rw [Block.heard_eq, Block.resolveEpochs_eq]
  rfl

/-- A fragment that is accepted at once is placed, and no more. -/
theorem Block.placeFrag_accepted {b : Block} {f : Frag} (h : f.st = .accepted) (stream : Bool) (inputs : Nat) :
    b.placeFrag f stream inputs = b.placed f := by
  rw [Block.placeFrag_eq, h]
  rfl

section
variable {b : Block} {m : RetroMsg} {e : EpochSt} (hlive : b.phase = .live) (hreseat : b.reseat = false) (hquar : b.flag F.FAB_STAT_QUAR = false)
  (he : (b.heard m.term m.eventNo).epochSt b.epochNow = some e) (hcounts : e.counts = true)
include hlive hreseat hquar he hcounts

/-- A RETRO for a group that is not enabled is counted. -/
theorem retroRx_skip (hen : ((b.heard m.term m.eventNo).cfgOf b.epochNow).flag (F.TRG_G_CFG_EN m.group) = false) :
    retroRx m b = (b.heard m.term m.eventNo).bump F.TRG_RETRO_SKIP_CNT := by
  have hfold : (b.resolveEpochs.seeTerm m.term).seeEvno m.eventNo = b.heard m.term m.eventNo := rfl
  have hdue : (b.phase == .live && !b.reseat && !b.flag F.FAB_STAT_QUAR) = true := by rw [hlive, hreseat, hquar]; rfl
  rw [retroRx, hdue, whenDue_true]
  simp only [hfold, Block.epochNow_heard, he, hcounts, hen, Bool.not_true, Bool.not_false, if_neg Bool.false_ne_true, if_pos]

/-- A RETRO in an epoch whose sequence is exhausted is counted there. -/
theorem retroRx_exhausted (hen : ((b.heard m.term m.eventNo).cfgOf b.epochNow).flag (F.TRG_G_CFG_EN m.group) = true) (hseq : 65536 ≤ e.seq) :
    retroRx m b = (b.heard m.term m.eventNo).seqExhausted b.epochNow := by
  have hfold : (b.resolveEpochs.seeTerm m.term).seeEvno m.eventNo = b.heard m.term m.eventNo := rfl
  have hdue : (b.phase == .live && !b.reseat && !b.flag F.FAB_STAT_QUAR) = true := by rw [hlive, hreseat, hquar]; rfl
  rw [retroRx, hdue, whenDue_true]
  simp only [hfold, Block.epochNow_heard, he, hcounts, hen, Bool.not_true, if_neg Bool.false_ne_true, if_pos hseq]

/-- A RETRO whose window staging covers places one accepted fragment, clipped or not. -/
theorem retroRx_places {w : Nat × Nat × Bool} (hen : ((b.heard m.term m.eventNo).cfgOf b.epochNow).flag (F.TRG_G_CFG_EN m.group) = true)
    (hseq : e.seq < 65536)
    (hw : clipWindow (retention ((b.heard m.term m.eventNo).loadAt b.epochNow (popCount ((b.heard m.term m.eventNo).cfgOf b.epochNow).groups 60)))
      (((b.heard m.term m.eventNo).cfgOf b.epochNow).get (F.TRG_G_PRE m.group))
      (((b.heard m.term m.eventNo).cfgOf b.epochNow).get (F.TRG_G_POST m.group)) false = w)
    (hroom : chunksFor (((b.heard m.term m.eventNo).cfgOf b.epochNow).res m.group
      (((b.heard m.term m.eventNo).cfgOf b.epochNow).readout m.group) (w.1 + w.2.1)) ≤ b.freeChunks) :
    ∃ (c : Block) (f : Frag), retroRx m b = c.placed f ∧ c.dram = b.dram ∧ c.evb.frags = b.evb.frags ∧ c.epochSt b.epochNow = some e ∧
      f.st = .accepted ∧ f.key = b.epochNow ∧ f.builder = none ∧ f.desc.ident = identOf b.node b.epochNow e.seq ∧ f.desc.cause = 128 ∧
      f.desc.group = m.group ∧ f.desc.parent = m.ident ∧ f.desc.eventNo = m.eventNo ∧ f.desc.term = m.term ∧ f.desc.evtNs = m.ns ∧
      f.desc.evtW2 = m.w2 ∧ f.desc.winLen = w.1 + w.2.1 := by
  have hfold : (b.resolveEpochs.seeTerm m.term).seeEvno m.eventNo = b.heard m.term m.eventNo := rfl
  have hdue : (b.phase == .live && !b.reseat && !b.flag F.FAB_STAT_QUAR) = true := by rw [hlive, hreseat, hquar]; rfl
  let c := if w.2.2 = true then (b.heard m.term m.eventNo).bump F.TRG_CLIP_CNT else b.heard m.term m.eventNo
  have hc : c = { b.heard m.term m.eventNo with regs := c.regs } := by
    unfold c
    split <;> rfl
  have hfree : c.freeChunks = b.freeChunks := by
    rw [hc]
    exact b.heard_freeChunks _ _
  have hnode : c.node = b.node := by
    have hheard : (b.heard m.term m.eventNo).node = b.node := Block.get_heard_other (by decide) (by decide) (by decide) _ _
    rw [← hheard]
    unfold c
    split
    · exact Block.get_bump_other (by decide)
    · rfl
  rw [retroRx, hdue, whenDue_true]
  simp only [hfold, Block.epochNow_heard, he, hcounts, hen, hw, Bool.not_true, if_neg Bool.false_ne_true, if_neg (Nat.not_le.2 hseq)]
  rw [if_neg (by rw [hfree]; exact Nat.not_lt.2 hroom), Block.placeFrag_accepted rfl]
  refine ⟨c, _, rfl, ?_, ?_, ?_, rfl, rfl, rfl, ?_, rfl, rfl, rfl, rfl, rfl, rfl, rfl, rfl⟩
  · rw [hc]
    exact b.heard_dram _ _
  · rw [hc]
    exact b.heard_frags _ _
  · rw [← he, hc]
    rfl
  · rw [← hnode]

end

/-! ### Primitives and decisions on their way (R288, R289, R294) -/

/-- A primitive comes after the SEAL of its epoch (R295). -/
def Block.primLate (b : Block) (m : PrimitiveMsg) : Bool :=
  match b.master.sealed with
  | some k => keyLe (m.wrap * 4096 + m.ns / 2 ^ 20) k
  | none => false

theorem Block.masterTake_eq (b : Block) (m : PrimitiveMsg) : b.masterTake m =
    if b.primLate m then (b.bump F.TRG_M_PRIM_CNT).bump F.TRG_M_LATE_CNT
    else if 262144 ≤ b.master.prims.length then (b.bump F.TRG_M_PRIM_CNT).bump F.TRG_M_DROP_CNT
    else { b.bump F.TRG_M_PRIM_CNT with master := { b.master with prims := b.master.prims ++ [m] } } := rfl

theorem Block.primLate_of_sealed {b : Block} {m : PrimitiveMsg}
    (h : ∃ k, b.master.sealed = some k ∧ keyLe (m.wrap * 4096 + m.ns / 2 ^ 20) k = true) : b.primLate m = true := by
  obtain ⟨k, hk, hle⟩ := h
  rw [Block.primLate, hk]
  exact hle

theorem Block.primLate_of_open {b : Block} {m : PrimitiveMsg}
    (h : ∀ k, b.master.sealed = some k → keyLe (m.wrap * 4096 + m.ns / 2 ^ 20) k = false) : b.primLate m = false := by
  cases hk : b.master.sealed with
  | none => rw [Block.primLate, hk]
  | some k =>
    rw [Block.primLate, hk]
    exact h k hk

theorem Block.sendPrimitive_of_acting {b : Block} (h : b.acting = true) (m : PrimitiveMsg) : b.sendPrimitive m = b.masterTake m := if_pos h

theorem Block.sendPrimitive_of_parent {b : Block} {q : Nat} (h : b.acting = false) (hq : b.parentPort 2 = some q) (m : PrimitiveMsg) :
    b.sendPrimitive m = b.post (.hop q) 2 (.primitive m) := by
  rw [Block.sendPrimitive, h, if_neg Bool.false_ne_true, hq]

theorem primitiveDue_of_first {b : Block} {p : PrimitiveMsg} (h : firstPrim b.master.prims = some p) : primitiveDue b =
    whenDue (b.ccOn && b.acting && decide (((b.holdNs (b.cfgOf b.epochNow) * 1024 : Nat) : Int) < visibleDiff (visible b.stampRaw) (primTime p)))
      (fun b' => b'.decidePrim (b.cfgOf b.epochNow) p) b := by
  rw [primitiveDue]
  simp only [h]

theorem Block.deliverDecision_of_port {b : Block} {m : DecisionMsg} {q : Nat} (hself : b.isSelf (identNode m.ident) = false)
    (hport : lookup b.fab.primPort (identNode m.ident) = some q) : b.deliverDecision m = b.post (.hop q) 2 (.decision m) := by
  rw [Block.deliverDecision, hself, if_neg Bool.false_ne_true, hport]

/-- A decision for another node, without a standby master. -/
theorem Block.sendDecision_of_port {b : Block} {m : DecisionMsg} {q : Nat} (hnodes : b.standbyNodes = [])
    (hself : b.isSelf (identNode m.ident) = false)
    (hport : lookup b.fab.primPort (identNode m.ident) = some q) (time : Nat) : b.sendDecision m time =
      { b with master := { b.master with out := b.master.out ++ [(m, time)] }, posted := b.posted ++ [⟨.hop q, 2, .decision m, false⟩] } := by
  have hnodes' : ({ b with master := { b.master with out := b.master.out ++ [(m, time)] } } : Block).standbyNodes = [] := hnodes
  rw [Block.sendDecision]
  simp only [hnodes', List.foldl_nil]
  exact Block.deliverDecision_of_port hself hport

/-- A primitive that meets no rule is rejected with rule 0 and no builder. -/
theorem Block.decidePrim_rejects {b : Block} {c : EpochCfg} {p : PrimitiveMsg} {q : Nat} (hrule : metRule c p b.master.prims = none)
    (hnodes : b.standbyNodes = []) (hself : b.isSelf (identNode p.ident) = false)
    (hport : lookup b.fab.primPort (identNode p.ident) = some q) :
    let d : DecisionMsg := ⟨2, b.get F.TRG_STAT_TERM, p.ident, true, 0, 0, 0, 0, 0⟩
    b.decidePrim c p = { b with
      master := { b.master with
        prims := b.master.prims.filter (fun x => !([p] : List PrimitiveMsg).contains x), out := b.master.out ++ [(d, primTime p)] }
      posted := b.posted ++ [⟨.hop q, 2, .decision d, false⟩] } := by
  have hsend := Block.sendDecision_of_port (b := b.dropPrims [p]) (m := ⟨2, b.get F.TRG_STAT_TERM, p.ident, true, 0, 0, 0, 0, 0⟩) hnodes hself
    hport (primTime p)
  rw [Block.decidePrim_of_none hrule]
  exact hsend

theorem decisionRepeat_of_none {b : Block} {ident kind : Nat}
    (h : b.master.out.find? (fun d => d.1.ident == ident && d.1.kind == kind) = none) : decisionRepeat ident kind b = b := by
  rw [decisionRepeat]
  simp only [h]

theorem decisionRepeat_of_some {b : Block} {ident kind : Nat} {d : DecisionMsg × Nat}
    (h : b.master.out.find? (fun d => d.1.ident == ident && d.1.kind == kind) = some d) : decisionRepeat ident kind b =
      whenDue (b.ccOn && b.acting) (fun b =>
        if b.past (((d.2 * 2 ^ 22 : Nat) : Int) + b.deadlineRaw) then b.masterAck (ackOf d.1) else b.deliverDecision d.1) b := by
  rw [decisionRepeat]
  simp only [h]

theorem Block.ackDecision_of_acting {b : Block} (h : b.acting = true) (m : DecisionAckMsg) : b.ackDecision m = b.masterAck m := if_pos h

theorem Block.ackDecision_of_parent {b : Block} {q : Nat} (h : b.acting = false) (hq : b.parentPort 2 = some q) (m : DecisionAckMsg) :
    b.ackDecision m = b.post (.hop q) 2 (.decisionAck m) := by
  rw [Block.ackDecision, h, if_neg Bool.false_ne_true, hq]

end Sys2Proof.Machine

namespace Sys2Proof.Proofs

open Sys2Proof Sys2Proof.Machine

/-- Settles O54: messages on the tree are one equation each, and what the master decides is followed through the decisions that it sends. -/
theorem triggerTreeAndMaster : Obligations.TriggerTreeAndMaster := by
  unfold Obligations.TriggerTreeAndMaster
  intro s b
  refine ⟨?primitive, ?empty, ?due, ?repeats, ?ack, ?heartbeat, ?takeover, ?retro⟩
  case primitive =>
    intro p m hp hwf hon b1 counted key
    have hexec : exec (.primitiveRx p m) s = .next { s with hw := b1.sendPrimitive m } := by
      rw [exec_primitiveRx _ _ _ (by simp [Instr.wf, hp, hwf]), primitiveRx, hon, whenDue_true]
    refine ⟨fun hacting hlate => ?_, fun hacting hopen hfull => ?_, fun hacting hopen hroom => ?_, fun q hacting hq => ?_⟩
    · have hacting' : b1.acting = true := hacting
      have hlate' : b1.primLate m = true := Block.primLate_of_sealed hlate
      rw [hexec, Block.sendPrimitive_of_acting hacting', Block.masterTake_eq, if_pos hlate']
    · have hacting' : b1.acting = true := hacting
      have hopen' : b1.primLate m = false := Block.primLate_of_open hopen
      rw [hexec, Block.sendPrimitive_of_acting hacting', Block.masterTake_eq, hopen', if_neg Bool.false_ne_true, if_pos hfull]
    · have hacting' : b1.acting = true := hacting
      have hopen' : b1.primLate m = false := Block.primLate_of_open hopen
      rw [hexec, Block.sendPrimitive_of_acting hacting', Block.masterTake_eq, hopen', if_neg Bool.false_ne_true, if_neg (Nat.not_le.2 hroom)]
    · have hacting' : b1.acting = false := hacting
      have hq' : b1.parentPort 2 = some q := hq
      rw [hexec, Block.sendPrimitive_of_parent hacting' hq']
  case empty =>
    intro hnone
    rw [exec_primitiveDue _ rfl, primitiveDue, hnone]
    rfl
  case due =>
    intro p hp c due
    have hexec := exec_primitiveDue s rfl
    rw [primitiveDue_of_first hp] at hexec
    refine ⟨fun hnot => ?_, fun hdue hon hacting => ?_⟩
    · rw [hexec, decide_eq_false hnot, Bool.and_false, whenDue_false]
    · rw [hon, hacting, decide_eq_true hdue, Bool.and_true, Bool.and_true, whenDue_true] at hexec
      refine ⟨?_, ?_⟩
      · intro q hrule hnodes hself hport d
        rw [hexec, Block.decidePrim_rejects hrule hnodes hself hport]
      · intro r hrule n
        obtain ⟨hdram, hmatch, hprims, haccept, hreject⟩ := Block.decidePrim_met hrule
        exact ⟨_, hexec, rfl, hdram, hmatch, hprims, haccept, hreject⟩
  case repeats =>
    intro ident kind hident hkind found
    have hexec := exec_decisionRepeat ident kind s (Bool.and_eq_true_iff.2 ⟨decide_eq_true hident, decide_eq_true hkind⟩)
    refine ⟨fun hnone => ?_, fun d hd hon hacting => ?_⟩
    · rw [hexec, decisionRepeat_of_none hnone]
    · rw [decisionRepeat_of_some hd, hon, hacting, Bool.and_true, whenDue_true] at hexec
      refine ⟨fun hpast => ?_, fun q hpast hself hport => ?_⟩
      · rw [hexec, if_pos hpast]
      · rw [hexec, hpast, if_neg Bool.false_ne_true, Block.deliverDecision_of_port hself hport]
  case ack =>
    intro m hwf hon
    have hexec := exec_decisionAckRx m s hwf
    rw [decisionAckRx, hon, whenDue_true] at hexec
    refine ⟨fun hacting => ?_, fun q hacting hq => ?_⟩
    · rw [hexec, Block.ackDecision_of_acting hacting]
      rfl
    · rw [hexec, Block.ackDecision_of_parent hacting hq]
  case heartbeat =>
    intro viaTree m hwf hon
    have hexec := exec_heartbeatRx viaTree m s hwf
    rw [heartbeatRx_of_on hon] at hexec
    refine ⟨fun hlow => ?_, fun hacting hsame => ?_, fun hnew => ?_⟩
    · rw [hexec, if_pos hlow]
    · rw [hexec, if_neg (by rw [hsame]; exact Nat.lt_irrefl _), if_pos (by rw [hacting, hsame, beq_self_eq_true]; rfl)]
    · have hterm : b.get F.TRG_STAT_TERM ≤ m.term := by rcases hnew with h | ⟨-, h⟩ <;> omega
      have hother : (b.acting && m.term == b.get F.TRG_STAT_TERM) = false := by
        rcases hnew with h | ⟨h, -⟩
        · rw [beq_eq_false_iff_ne.2 (Nat.ne_of_gt h), Bool.and_false]
        · rw [h, Bool.false_and]
      have hfits : m.term < 65536 ∧ m.master < 4096 := by
        simp only [HeartbeatMsg.wf, below, List.all_cons, List.all_nil, Bool.and_eq_true, decide_eq_true_eq] at hwf
        omega
      obtain ⟨hdram, hget, hmaster, hact, hbeat, hsealed, hstop, hposted⟩ := Block.beaten_spec hterm hfits.1 hfits.2
      rw [if_neg (Nat.not_lt.2 hterm), hother, if_neg Bool.false_ne_true] at hexec
      obtain ⟨posted, hdown⟩ := (b.beaten m).heartbeatDown_eq m
      refine ⟨_, hexec, rfl, ?_⟩
      cases viaTree with
      | false =>
        rw [if_neg Bool.false_ne_true]
        exact ⟨hdram, hget, hmaster, hact, hbeat, hsealed, hstop, fun _ => hposted⟩
      | true =>
        rw [if_pos rfl, hdown]
        exact ⟨hdram, hget, hmaster, hact, hbeat, hsealed, hstop, fun h => absurd h (by decide)⟩
  case takeover =>
    intro due
    have hexec := exec_triggerStandbyTakeover s rfl
    rw [triggerStandbyTakeover_eq] at hexec
    have hiff : (b.phase == .live && !b.acting && (b.flag F.TRG_STAT_ROLE_STANDBY || b.flag F.TRG_STAT_ROLE_MASTER)
        && decide (b.master.beat + b.get F.TRG_DEADLINE * usTicks ≤ b.tick)) = true ↔ due := by
      simp only [Bool.and_eq_true, Bool.or_eq_true, Bool.not_eq_true', beq_iff_eq, decide_eq_true_eq, due]
      tauto
    refine ⟨fun hnot => ?_, fun hdue => ?_⟩
    · rw [hexec, Bool.eq_false_iff.2 fun h => hnot (hiff.1 h), whenDue_false]
    · have hevno : b.resolveEpochs.get64 F.TRG_M_EVNO_LO F.TRG_M_EVNO_HI = b.get64 F.TRG_M_EVNO_LO F.TRG_M_EVNO_HI := by
        rw [Block.get64, Block.resolveEpochs_get, Block.resolveEpochs_get, ← Block.get64]
      have hepoch : b.resolveEpochs.epochNow = b.epochNow := by rw [Block.resolveEpochs_eq]; rfl
      rw [hiff.2 hdue, whenDue_true, hevno] at hexec
      obtain ⟨hdram, hprims, hsealed, hactive⟩ := b.resolveEpochs.actAs_keeps ((b.get F.TRG_STAT_TERM + 1) % 65536)
        ((b.get64 F.TRG_M_EVNO_LO F.TRG_M_EVNO_HI + 2 ^ 24 - 1) % 2 ^ 48) b.node
      obtain ⟨hterm, hact, hmaster, hnumber⟩ := Block.actAs_get (b := b.resolveEpochs) (term := (b.get F.TRG_STAT_TERM + 1) % 65536)
        (number := (b.get64 F.TRG_M_EVNO_LO F.TRG_M_EVNO_HI + 2 ^ 24 - 1) % 2 ^ 48) (Nat.mod_lt _ (by decide)) (Nat.mod_lt _ (by decide)) b.node
      exact ⟨_, hexec, rfl, hdram.trans b.resolveEpochs_dram, hterm, hact, hmaster, hnumber, hprims, hsealed.trans (congrArg some hepoch), hactive⟩
  case retro =>
    intro m e hwf hlive hreseat hquar b1 c he hcounts
    have hexec := exec_retroRx m s hwf
    refine ⟨fun hen => ?_, fun hen => ⟨fun hseq => ?_, fun hseq hroom => ?_⟩⟩
    · rw [hexec, retroRx_skip hlive hreseat hquar he hcounts hen]
      rfl
    · rw [hexec, retroRx_exhausted hlive hreseat hquar he hcounts hen hseq]
      rfl
    · obtain ⟨d, f, hplaced, hdram, hfrags, hepoch, hst, hkey, hdesc⟩ := retroRx_places hlive hreseat hquar he hcounts hen hseq rfl hroom
      rw [hplaced] at hexec
      refine ⟨_, f, hexec, rfl, hdram, congrArg (· ++ [f]) hfrags, ?_, hst, hkey, hdesc⟩
      rw [← hkey] at hepoch ⊢
      exact Block.epochSt_modEpoch (f := fun e => { e with seq := e.seq + 1 }) (fun _ => rfl) hepoch

end Sys2Proof.Proofs

/-! SUPPORT. Two causes in one tick: the second one finds the gap open, and still lowers the code that PAIR_LAST names (R566, R568). -/

namespace Sys2Proof.Machine

open Sys2Proof

/-- A module in Live, every domain on, with a HOT standby. -/
def hotPair : Block :=
  ((List.range 19).map fun d => (F.PWR_D_STAT_STATE d, 2)).foldl (fun b x => b.put x.1 x.2)
    ({ Block.reset with phase := .live }.put F.PAIR_STAT_SB_STATE 4)

/-- The same module once a rail fault of the active concentrator, cause 7, has asserted YIELD in this tick. -/
def railFaulted : Block := railFault false hotPair

theorem railFaulted_gap : railFaulted.pair.gap = some 0 := by decide +kernel

theorem railFaulted_lastCause : railFaulted.get F.PAIR_LAST_CAUSE = 7 := by decide +kernel

/-- A lockstep mismatch in the tick of the rail fault leaves the lower code, though the gap has begun. -/
theorem railFaulted_lockstepMismatch : (lockstepMismatch false railFaulted).get F.PAIR_LAST_CAUSE = 1 := by decide +kernel

end Sys2Proof.Machine

namespace Sys2Proof.Proofs

open Sys2Proof Sys2Proof.Machine

/-- Refutes O59: a cause that finds the gap open does not always change nothing. After a rail fault (cause 7) asserted YIELD, a lockstep
mismatch in the same tick puts the lower code 1 into PAIR_LAST (R568). -/
theorem not_pairCausesAndSwitchOver : ¬ Obligations.PairCausesAndSwitchOver := by
  unfold Obligations.PairCausesAndSwitchOver
  intro h
  have hgap : railFaulted.pair.gap ≠ none := by simp [railFaulted_gap]
  have hsame : exec (.lockstepMismatch false) ⟨[], railFaulted⟩ = .next ⟨[], railFaulted⟩ :=
    ((h ⟨[], railFaulted⟩).1 (.lockstepMismatch false, 1) List.mem_cons_self).1 (.inr hgap)
  rw [exec_lockstepMismatch _ _ rfl] at hsame
  have hblock : lockstepMismatch false railFaulted = railFaulted := congrArg State.hw (Host.Outcome.next.inj hsame)
  have hcause := railFaulted_lockstepMismatch
  rw [hblock, railFaulted_lastCause] at hcause
  exact absurd hcause (by decide)

end Sys2Proof.Proofs

/-! SUPPORT. What keeps the enable in force of a queue: everything that acts after the blocks at an epoch boundary (R398, R513, R562, R508,
R564), but for the answers of requests, which are posted. -/

namespace Sys2Proof.Machine

open Sys2Proof

/-! ### The register of a queue's enable in force -/

/-- A field outside the registers of the queues. -/
def Field.Elsewhere (f : Field) : Prop := f.key < 0xc0000 * 32 ∨ 0xd0000 * 32 ≤ f.key

/-- The enable in force of queue 1 is 1 (R398). -/
structure Block.QueueOn (b : Block) : Prop where
  active : b.get (F.EGQ_CFG_ACTIVE 1) = 1

theorem Block.queueOn_iff (b : Block) : b.QueueOn ↔ b.get (F.EGQ_CFG_ACTIVE 1) = 1 := ⟨(·.active), (⟨·⟩)⟩

namespace Block.QueueOn

variable {b c : Block}

/-- What a change of any part of a block but its register file leaves. -/
theorem frame (h : b.QueueOn)
    {dram poison phase reseat tick epochs time fab ports fast tdc links ring prec loops lynx evb egq master irq access pwr boot ecc chk jtag
    wear tst pair posted wire free} :
    (Block.mk b.regs dram poison phase reseat tick epochs time fab ports fast tdc links ring prec loops lynx evb egq master irq access pwr
      boot ecc chk jtag wear tst pair posted wire free).QueueOn :=
  ⟨h.active⟩

theorem ite {p : Prop} {inst : Decidable p} (hb : b.QueueOn) (hc : c.QueueOn) : (if p then b else c).QueueOn := by
  split; exacts [hb, hc]

theorem foldl {α : Type} {l : List α} {f : Block → α → Block} (h : b.QueueOn) (hf : ∀ c, c.QueueOn → ∀ x ∈ l, (f c x).QueueOn) :
    (l.foldl f b).QueueOn := by
  induction l generalizing b with
  | nil => exact h
  | cons x l ih => exact ih (hf b h x List.mem_cons_self) fun c hc y hy => hf c hc y (List.mem_cons_of_mem x hy)

theorem put {f : Field} {v : Nat} (h : b.QueueOn) (hf : f.Elsewhere := by simp [Field.Elsewhere, Field.key] <;> omega) :
    (b.put f v).QueueOn := by
  refine ⟨(Block.get_put_other b f _ v ?_).trans h.active⟩
  unfold Field.Elsewhere at hf
  simp only [Field.key] at hf ⊢
  omega

theorem bump {f : Field} (h : b.QueueOn) (hf : f.Elsewhere := by simp [Field.Elsewhere, Field.key] <;> omega) : (b.bump f).QueueOn :=
  h.put hf

theorem setLevel {s : Nat} {on : Bool} {payload : Nat} (h : b.QueueOn) : (b.setLevel s on payload).QueueOn := h.frame

/-! ### A port that leaves ACTIVE -/

theorem setPort {p : Nat} {x : PortSt} (h : b.QueueOn) : (b.setPort p x).QueueOn := h.frame

theorem free1 {o : Option Nat} {f : Frame} (h : b.QueueOn) : (b.free1 o f).QueueOn := by
  unfold Block.free1
  dsimp only
  split
  · exact h
  · exact h.setPort

theorem launch {p : Nat} {o : Option Nat} {f : Frame} (h : b.QueueOn) : (b.launch p o f).QueueOn :=
  ite (ite h.setPort.free1.frame.bump h.setPort.free1.frame).frame h.setPort.free1.frame

theorem pumpClass {p k n : Nat} (h : b.QueueOn) : (pumpClass b p k n).QueueOn := by
  induction n generalizing b with
  | zero => exact h
  | succ n ih =>
    rw [Machine.pumpClass]
    split
    · exact h
    · split
      · exact ih h.setPort.launch
      · exact h

theorem portSend {p : Nat} {o : Option Nat} {f : Frame} (h : b.QueueOn) : (b.portSend p o f).QueueOn :=
  ite (h.setPort.foldl fun _ hc _ _ => hc.pumpClass) h.setPort

theorem forward {o : Option Nat} {f : Frame} (h : b.QueueOn) : (b.forward o f).QueueOn := by
  have hb1 : (if (b.choosePort f.dst o).2 then b.bump cNoRoute else b).QueueOn := ite h.bump h
  unfold Block.forward
  dsimp only
  split
  · exact hb1.portSend
  · exact (ite hb1 hb1.bump).free1

theorem setRoute {d : Nat} {r : Route} (h : b.QueueOn) : (b.setRoute d r).QueueOn :=
  ite h.frame.put.put h.frame.put.put.put.put.put.put

theorem leaveActive {p : Nat} (h : b.QueueOn) : (b.leaveActive p).QueueOn := by
  have again : ∀ (c : Block) (o : Option Nat) (f : Frame), c.QueueOn →
      (if f.mcast then (c.bump cNoRoute).free1 o f else (c.free1 o f).forward none f).QueueOn :=
    fun c o f hc => ite hc.bump.free1 hc.free1.forward
  have hdrop : (b.dropOffers p).QueueOn := h.foldl fun c hc e _ => ite hc.setRoute hc
  exact (hdrop.frame.setPort.foldl fun c hc r _ => again c _ _ hc).foldl fun c hc w _ => again c _ _ hc

theorem setStage {p st : Nat} (h : b.QueueOn) : (b.setStage p st).QueueOn :=
  (ite h.put.setPort.leaveActive.put h.put.setPort).setLevel

theorem unjoin {p : Nat} (h : b.QueueOn) : (b.unjoin p).QueueOn := h.foldl fun _ hc _ _ => hc.put

theorem toDown {p arg : Nat} (h : b.QueueOn) : (b.toDown p arg).QueueOn := (ite h.frame h).setStage.unjoin.setPort

theorem toExchange {p : Nat} (h : b.QueueOn) : (b.toExchange p).QueueOn := h.setStage.frame

theorem dropLane {l : Nat} (h : b.QueueOn) : (b.dropLane l).QueueOn := ite h.put.toExchange.setPort h.put.setStage

/-! ### Power domains and their votes (R501 to R511) -/

theorem standbyDown {st : Nat} (h : b.QueueOn) : (b.standbyDown st).QueueOn := h.put.put.put.setLevel.frame

theorem dozeActive (h : b.QueueOn) : b.dozeActive.QueueOn := (h.foldl fun _ hc _ _ => hc.toDown).frame

theorem enterHibernate (h : b.QueueOn) : b.enterHibernate.QueueOn := by
  have hoff := (h.foldl (l := allPorts) fun c hc p _ => hc.toDown (p := p) (arg := 1)).foldl (l := List.range 18)
    (f := fun c d => (c.put (F.PWR_D_STAT_PENDING d) 0).put (F.PWR_D_STAT_STATE d)
      (if d = 17 && (bitAt (b.votesOf 17) 3 || bitAt (b.votesOf 17) 6) then c.get (F.PWR_D_STAT_STATE d) else 0))
    fun c hc d hd => by
      have hd := List.mem_range.1 hd
      exact hc.put.put
  exact (ite hoff hoff.put.frame).frame

theorem startOff {d : Nat} (h : b.QueueOn) : (b.startOff d).QueueOn :=
  ite (ite h.frame h.enterHibernate) (ite h.dozeActive (ite (ite h h.standbyDown) (ite h.toDown h)))

theorem settleDom {d : Nat} (hd : d < 19) (h : b.QueueOn) : (b.settleDom d).QueueOn := by
  have hvotes : ((b.put (F.PWR_D_STAT_VOTES d) (b.votesOf d)).put (F.PWR_D_STAT_VOTERS d)
      (b.pwr.voters.filter fun x => x.dom == d).length).QueueOn := h.put.put
  exact ite (ite hvotes.put hvotes) (ite (ite hvotes hvotes.put.startOff) (ite hvotes ((ite hvotes hvotes.bump).put)))

theorem settlePower (h : b.QueueOn) : b.settlePower.QueueOn :=
  ite (h.foldl fun _ hc _ hd => ite (hc.settleDom (List.mem_range.1 hd)) hc) h

/-! ### Squirrel (R500, R511 to R516) -/

theorem chooseLevel (h : b.QueueOn) : b.chooseLevel.QueueOn := by
  have hl : (b.put F.BDG_CHOICE_LEVEL b.levelChoice).QueueOn := h.put
  exact ite (ite hl (ite hl.bump hl).frame) (ite hl hl.put.put.frame)

theorem setGrant (h : b.QueueOn) : b.setGrant.QueueOn := h.put.put

theorem shedRung {r : Nat} (h : b.QueueOn) : ∀ x ∈ b.shedRung r, x.1.QueueOn := by
  rintro x hx
  unfold Block.shedRung at hx
  dsimp only at hx
  split at hx
  · split at hx <;> cases hx
    exact h.put
  · split at hx <;> cases hx
    exact h.put
  · split at hx
    · cases hx
      exact h.put.foldl fun _ hc _ _ => hc.put
    · split at hx <;> cases hx
      exact ite h.put.dropLane h.put
  · split at hx <;> cases hx
    exact h.put
  · split at hx <;> cases hx
    exact h.foldl fun _ hc _ _ => hc.frame
  · split at hx <;> cases hx
    exact h

theorem shed (h : b.QueueOn) : b.shed.QueueOn := by
  unfold Block.shed
  dsimp only
  split
  next r b1 l hstep =>
    obtain ⟨k, -, hk⟩ := List.exists_of_findSome?_eq_some hstep
    obtain ⟨x, hx, hxe⟩ := Option.map_eq_some_iff.1 hk
    cases hxe
    exact (h.shedRung x hx).frame.put.put.bump.setGrant
  next => exact h.put

theorem restore (h : b.QueueOn) : b.restore.QueueOn := by
  unfold Block.restore
  dsimp only
  split
  next => exact h
  next s rest _ =>
    refine ite (ite h.frame h) (setGrant (bump (put (put (put (frame ?_))))))
    split
    · exact h.put
    · exact h.put
    · split
      · exact ite h.put.unjoin.toExchange.setPort h.put
      · exact h.put.foldl fun _ hc _ _ => hc.put
    · exact h.put
    · exact h.foldl fun _ hc _ _ => hc.frame
    · exact h

theorem squirrel (h : b.QueueOn) : b.squirrel.QueueOn := by
  have hpeak : ∀ {p : Prop} [Decidable p] {c : Block}, c.QueueOn → (if p then c.bump F.BDG_PEAK_CNT else c).QueueOn :=
    fun hc => ite hc.bump hc
  have htj : ∀ {p : Prop} [Decidable p] {c : Block}, c.QueueOn → (if p then c.bump F.BDG_TJ_CNT else c).QueueOn :=
    fun hc => ite hc.bump hc
  have hact : ∀ {p q : Prop} [Decidable p] [Decidable q] {c : Block}, c.QueueOn →
      (if p then c.shed else if q then c.restore else c).QueueOn := fun hc => ite hc.shed (ite hc.restore hc)
  exact (hact (htj (hpeak h.put.put.put)).setLevel.frame).setLevel.chooseLevel

/-- The standby's states at the boundary (R562, R572). -/
theorem pairBoundary (h : b.QueueOn) : b.pairBoundary.QueueOn := by
  have hb0 : (if b.sbStores && b.pair.sbFirst.isNone then { b with pair := { b.pair with sbFirst := some b.epochNow } } else b).QueueOn :=
    ite h.frame h
  unfold Block.pairBoundary
  dsimp only
  split
  · exact ite hb0.put.put.setLevel.frame hb0.put
  · exact hb0.frame
  · exact ite hb0 hb0.put.frame
  · exact hb0

end Block.QueueOn

end Sys2Proof.Machine

/-! SUPPORT. What the end of the mirror lets happen (R564): the enable in force of a queue stands, or a request was answered. -/

namespace Sys2Proof.Machine

open Sys2Proof

/-! ### What an answered request leaves behind -/

/-- A message waits to leave, the module is off, or YIELD is asserted: what every answered request leaves. -/
def Block.Stirred (b : Block) : Prop := b.posted ≠ [] ∨ b.phase = .off ∨ b.pair.gap.isSome = true ∨ b.pair.yielded.isSome = true

theorem Block.stirred_post (b : Block) (d : Dest) (cls : Nat) (m : Msg) : (b.post d cls m).Stirred := .inl (by simp [Block.post])

theorem Block.stirred_answer (b : Block) (who : Requester) (cls : Nat) (m : Msg) : (b.answer who cls m).Stirred := by
  unfold Block.answer
  split <;> exact stirred_post ..

theorem Block.stirred_reply (b : Block) (a : Access) (x : Answer) : (b.reply a x).Stirred := stirred_answer ..

theorem Block.stirred_toOff (b : Block) (cause : Nat) (on : Bool) : (b.toOff cause on).Stirred := .inr (.inl rfl)

/-- A cause that is neither of the dies' own (codes 5 and 6) asserts YIELD, finds it asserted, or resets the module (R566). -/
theorem Block.stirred_diagnose (b : Block) {cause : Nat} (h5 : cause ≠ 5) (h6 : cause ≠ 6) : (b.diagnose cause).Stirred := by
  unfold Block.diagnose
  split
  next c hc =>
    have hy : b.pair.yielded.isSome = true := by simp [hc]
    split <;> exact .inr (.inr (.inr hy))
  next =>
    simp only [h5, h6, decide_false, Bool.or_self, Bool.false_eq_true, if_false]
    split
    · exact .inr (.inr (.inl rfl))
    · exact stirred_toOff ..

theorem Block.Stirred.afterAnswer {b : Block} (h : b.Stirred) (addr done : Nat) (words : List Nat) : (b.afterAnswer addr done words).Stirred := by
  unfold Block.afterAnswer
  dsimp only
  split
  · exact stirred_toOff ..
  · split
    · exact stirred_diagnose _ (by decide) (by decide)
    · exact h

theorem Block.stirred_doWrite (b : Block) (a : Access) (addr : Nat) (words : List Nat) : (b.doWrite a addr words).Stirred :=
  (stirred_reply ..).afterAnswer ..

/-! ### The queue stays on unless a request was answered -/

/-- The enable in force of queue 1 is 1, or a request was answered. -/
def Block.OnOrStirred (b : Block) : Prop := b.QueueOn ∨ b.Stirred

namespace Block.OnOrStirred

variable {b : Block}

theorem actCritical {before : Block} (h : b.OnOrStirred) : (b.actCritical before).OnOrStirred := by
  unfold Block.actCritical
  split
  · exact .inr (stirred_diagnose _ (by decide) (by decide))
  · exact h

theorem mirror {k : MirrorKind} (h : b.OnOrStirred) : (b.mirror k).OnOrStirred := h.imp (·.frame) id

theorem wait {a : Access} {r : Request} (h : b.OnOrStirred) : (b.wait a r).OnOrStirred := h.imp (·.frame) id

theorem perform {a : Access} {r : Request} (h : b.OnOrStirred) : (b.perform a r).OnOrStirred := by
  cases r with
  | bulk addr n => exact .inr (stirred_answer ..)
  | bad op addr => exact .inr (stirred_reply ..)
  | read addr n => exact .inr (stirred_reply ..)
  | write addr words =>
    simp only [Block.perform]
    split
    · exact h.mirror
    · exact .inr (stirred_doWrite ..)

theorem take {a : Access} {r : Request} (h : b.OnOrStirred) : (b.take a r).OnOrStirred := by
  unfold Block.take
  split
  · exact h.perform
  · split
    · exact .inr (stirred_answer ..)
    · exact h.perform

theorem arrive {a : Access} {r : Request} (h : b.OnOrStirred) : (b.arrive a r).OnOrStirred := by
  unfold Block.arrive
  split
  · exact h
  · split
    · exact h.wait
    · exact h.take.actCritical

theorem foldl {α : Type} {l : List α} {f : Block → α → Block} (h : b.OnOrStirred)
    (hf : ∀ (c : Block), c.OnOrStirred → ∀ x, (f c x).OnOrStirred) : (l.foldl f b).OnOrStirred := by
  induction l generalizing b with
  | nil => exact h
  | cons x l ih => exact ih (hf b h x)

theorem runWaiting (h : b.OnOrStirred) : b.runWaiting.OnOrStirred := by
  have hnone : Block.OnOrStirred { b with access := { b.access with waiting := [] } } := h.imp (·.frame) id
  exact hnone.foldl fun _ hc _ => hc.arrive

theorem ackDecision {m : DecisionAckMsg} (h : b.OnOrStirred) : (b.ackDecision m).OnOrStirred := by
  unfold Block.ackDecision
  split
  · exact h.imp (·.frame) id
  · split
    · exact .inr (stirred_post ..)
    · exact h

theorem mirrorDone {k : MirrorKind} (h : b.OnOrStirred) : (b.mirrorDone k).OnOrStirred := by
  unfold Block.mirrorDone
  split
  · split
    · exact actCritical (.inr (stirred_doWrite ..))
    · exact h
  · exact h
  · exact h.ackDecision
  · exact h.imp (·.frame) id
  · exact h.imp (·.frame) id

theorem flushMirror (h : b.OnOrStirred) : b.flushMirror.OnOrStirred := by
  unfold Block.flushMirror
  split
  · exact h
  · have hempty : Block.OnOrStirred { b with pair := { b.pair with queue := [] } } := h.imp (·.frame) id
    refine runWaiting (hempty.foldl fun c hc m => ?_)
    split
    · exact hc
    · exact hc.mirrorDone

end Block.OnOrStirred

theorem epochBoundary_of_exec {b c : Block} (h : exec .epochBoundary ⟨[], b⟩ = .next ⟨[], c⟩) : epochBoundary b = c := by
  rw [exec_epochBoundary _ rfl] at h
  exact congrArg State.hw (Host.Outcome.next.inj h)

/-! ### A module whose TOUT program stands at an index that the model has no unit for -/

/-- A TOUT program on the stamping time whose single pulse has passed (R237, R243). -/
def passedPulse : Tout := ⟨2, 2 ^ 52 - 1, 0, 0, 0, 0, none⟩

/-- A module in Live with queue 1 enabled and the second part of a switch due (R231), whose TOUT program stands at an index where the
model's address of TOUT_i_CTRL is that of EGQ_1_CFG. -/
def strayPulse : Block :=
  ({ Block.reset with phase := .live, time := { TimeSt.reset with
      established := true, epochSeen := some 7, secondPart := some 1, tout := [(0x37F4, passedPulse)] } }.put
    (F.PWR_D_STAT_STATE 4) 2).put (F.EGQ_CFG_EN 1) 1

theorem strayPulse_due : strayPulse.boundaryDue = true ∧ strayPulse.ccOn = true ∧ strayPulse.pwr.den = none ∧
    strayPulse.get (F.EGQ_CFG_EN 1) = 1 := by decide +kernel

/-- The program disarms at the switch and takes EN with it before the boundary brings EN into force, and no request is answered. -/
theorem strayPulse_boundary : (epochBoundary strayPulse).get (F.EGQ_CFG_ACTIVE 1) = 0 ∧ (epochBoundary strayPulse).posted = [] ∧
    (epochBoundary strayPulse).phase = .live ∧ (epochBoundary strayPulse).pair.gap = none ∧
    (epochBoundary strayPulse).pair.yielded = none := by decide +kernel

theorem strayPulse_not_onOrStirred : ¬ (epochBoundary strayPulse).OnOrStirred := by
  obtain ⟨hactive, hposted, hphase, hgap, hyielded⟩ := strayPulse_boundary
  simp [Block.OnOrStirred, Block.Stirred, Block.queueOn_iff, hactive, hposted, hphase, hgap, hyielded]

end Sys2Proof.Machine

namespace Sys2Proof.Proofs

open Sys2Proof Sys2Proof.Machine

/-- Refutes O58: EN of a queue does not take effect as it stood before the boundary where a TOUT program at an index beyond the module's
outputs disarms at the second part of a switch (R231, R238): the model's address of its ARM is EN of queue 1. Nothing that acts after the
blocks, Squirrel to the end of the mirror, gives the enable in force back. -/
theorem not_epochBoundariesAndCommits : ¬ Obligations.EpochBoundariesAndCommits := by
  unfold Obligations.EpochBoundariesAndCommits
  intro h
  obtain ⟨hdue, hon, hden, hen⟩ := strayPulse_due
  obtain ⟨c, hexec, -, -, -, -, -, -, hqueues⟩ := (h ⟨[], strayPulse⟩).2.1 hdue hon hden
  have hblock : epochBoundary strayPulse = c.squirrel.pairBoundary.settlePower.flushMirror := epochBoundary_of_exec hexec
  have hc : c.QueueOn := ⟨by rw [hqueues 1 (by decide), hen]⟩
  have hafter : c.squirrel.pairBoundary.settlePower.flushMirror.OnOrStirred :=
    Block.OnOrStirred.flushMirror (.inl hc.squirrel.pairBoundary.settlePower)
  exact strayPulse_not_onOrStirred (hblock ▸ hafter)

end Sys2Proof.Proofs

/-! SUPPORT. SEC's commands, the restart key and the pass-through, each by what its register's operation finds running; a reset's block. -/

namespace Sys2Proof.Machine

open Sys2Proof

/-! ### What a reset leaves of the registers (R505) -/

/-- A key that a filter of keys leaves out is not listed. -/
theorem lookup_filter_of_not {α : Type} (m : Table α) {p : Nat × α → Bool} {k : Nat} (h : ∀ v, p (k, v) = false) :
    lookup (m.filter p) k = none := by
  induction m with
  | nil => rfl
  | cons e m ih =>
    by_cases hp : p e = true
    · have hne : e.1 ≠ k := by
        rintro rfl
        exact Bool.false_ne_true ((h e.2).symm.trans hp)
      rw [List.filter_cons_of_pos hp, lookup_cons, if_neg hne, ih]
    · rw [List.filter_cons_of_neg hp, ih]

theorem Block.get_toOff_cause (b : Block) (cause : Nat) (powerOn : Bool) :
    (b.toOff cause powerOn).get F.SYS_STATE_RESET_CAUSE = cause % 2 ^ 4 :=
  Block.get_put_same ..

/-- A field that is neither kept, of the identity, the oven's state nor RESET_CAUSE reads its reset value. -/
theorem Block.get_toOff_of_cleared (b : Block) (cause : Nat) (powerOn : Bool) {f : Field} (hcause : f.key ≠ F.SYS_STATE_RESET_CAUSE.key)
    (hid : identityKey f.key = false) (hkept : keptKey f.key = false) (hoven : f.key ≠ (F.PWR_D_STAT_STATE 17).key) :
    (b.toOff cause powerOn).get f = f.reset := by
  rw [Block.toOff, Block.get_put_other _ _ _ _ hcause]
  simp only [Block.get, lookupD]
  rw [lookup_filter_of_not _ fun v => by simp [hid, hkept, hoven], Option.getD_none]

/-- A reset block has no critical error to act on. -/
theorem Block.actCritical_toOff (b before : Block) (cause : Nat) (powerOn : Bool) :
    (b.toOff cause powerOn).actCritical before = b.toOff cause powerOn := by
  have hclear : (b.toOff cause powerOn).flag F.ECC_STAT_CRITICAL = false := by
    rw [Block.flag, Block.get_toOff_of_cleared _ _ _ (by decide) (by decide) (by decide) (by decide)]
    rfl
  simp [Block.actCritical, hclear]

/-- Nothing waits for the mirror of a reset block. -/
theorem Block.flushMirror_toOff (b : Block) (cause : Nat) (powerOn : Bool) :
    (b.toOff cause powerOn).flushMirror = b.toOff cause powerOn := by
  have hempty : (b.toOff cause powerOn).pair.queue.isEmpty = true := rfl
  simp [Block.flushMirror, hempty]

/-! ### The restart key (R86, R115) -/

/-- The key that acts at once is answered by `restartOp`. -/
theorem exec_restartKey {a : Access} (hwf : a.wf = true) {s : State} (hacts : s.hw.acts a 0x10010 restartKey = true) :
    exec (.sysRestart a (BitVec.ofNat 32 restartKey)) s =
      .next { s with hw := s.hw.answered a 0x10010 restartKey (s.hw, if s.hw.secBusy then .busyResource else .ok) } := by
  have hkey : (BitVec.ofNat 32 restartKey).toNat = restartKey := rfl
  rw [exec_sysRestart _ _ _ hwf, sysRestart, hkey, submit_of_acts hacts, regOp_sysRestart, Block.touched_of_none _ _ rfl, plainOp, restartOp]
  simp

/-- What follows the answer of an accepted key: everything posted leaves, and the module resets. -/
theorem Block.afterAnswer_restartKey (b : Block) :
    b.afterAnswer 0x10010 1 [restartKey] = (b.flushPosted (b.posted.length + 16)).toOff causeRestart false := by
  rw [Block.afterAnswer, if_pos (by decide)]

/-- Once the key is answered OK the module resets with cause RESTART. -/
theorem Block.answered_restartKey (b c : Block) (a : Access) :
    ∃ d : Block, b.answered a 0x10010 restartKey (c, .ok) = d.toOff causeRestart false := by
  rw [Block.answered, Block.finished]
  simp only [beq_self_eq_true, Bool.true_or, if_true, Block.afterAnswer_restartKey, Block.actCritical_toOff, Block.flushMirror_toOff]
  exact ⟨_, rfl⟩

/-! ### Writes of SEC_CMD (R113, R115) -/

/-- The nine SEC commands of a requester, each with its command word. -/
def secCommands (a : Access) : List (Instr × Nat) :=
  [(.newNonce a, 1), (.quote a, 2), (.confirm a, 3), (.openNvm a, 4), (.closeNvm a, 5), (.verifySlot a, 6), (.addKey a, 7), (.revokeKey a, 8),
    (.debugOpen a, 9)]

/-- A SEC command is the write of its word to SEC_CMD. -/
theorem exec_secCommand_eq_submit {a : Access} (hwf : a.wf = true) {c : Instr × Nat} (hc : c ∈ secCommands a) (s : State) :
    exec c.1 s = .next { s with hw := submit a (.write 0x110010 [c.2]) s.hw } := by
  simp only [secCommands, List.mem_cons, List.not_mem_nil, or_false] at hc
  rcases hc with rfl | rfl | rfl | rfl | rfl | rfl | rfl | rfl | rfl
  exacts [exec_newNonce a s hwf, exec_quote a s hwf, exec_confirm a s hwf, exec_openNvm a s hwf, exec_closeNvm a s hwf,
    exec_verifySlot a s hwf, exec_addKey a s hwf, exec_revokeKey a s hwf, exec_debugOpen a s hwf]

/-- A SEC command that acts at once is answered by `secCmdOp`. -/
theorem exec_secCommand {a : Access} (hwf : a.wf = true) {c : Instr × Nat} (hc : c ∈ secCommands a) {s : State}
    (hacts : s.hw.acts a 0x110010 c.2 = true) :
    exec c.1 s = .next { s with hw := s.hw.answered a 0x110010 c.2 (secCmdOp c.2 s.hw) } := by
  rw [exec_secCommand_eq_submit hwf hc, submit_of_acts hacts, regOp_secCmd, Block.touched_of_none _ _ rfl, plainOp]

theorem secCmdOp_of_busy {b : Block} (h : b.secBusy = true) (w : Nat) : secCmdOp w b = (b, .busyResource) := by
  rw [secCmdOp, if_pos h]

/-- A SEC command has acted and runs: BUSY is set and its result kept for the end. -/
def Block.secTaken (c : Block) (op result : Nat) : Block :=
  { c.put F.SEC_CMD_STAT_BUSY 1 with boot := { c.boot with run := some ⟨op, result⟩ } }

/-- With nothing running, a SEC command is taken with what it did and the result it ends with. -/
theorem secCmdOp_of_idle {b c : Block} (h : b.secBusy = false) {op result : Nat} (hr : secCommand op b = (c, result)) :
    secCmdOp op b = (c.secTaken op result, .ok) := by
  rw [secCmdOp, if_neg (by simp [h]), hr, Block.secTaken]

/-- With nothing running, a SEC command that acts at once is answered OK. -/
theorem exec_secCommand_of_idle {a : Access} (hwf : a.wf = true) {s : State} (hidle : s.hw.secBusy = false) {i : Instr} {op : Nat}
    (hacts : s.hw.acts a 0x110010 op = true) {c : Block} {result : Nat} (hr : secCommand op s.hw = (c, result))
    (hc : (i, op) ∈ secCommands a := by simp [secCommands]) :
    exec i s = .next { s with hw := s.hw.answered a 0x110010 op (c.secTaken op result, .ok) } := by
  rw [← secCmdOp_of_idle hidle hr]
  exact exec_secCommand hwf hc hacts

/-! ### Writes of SEC_NVM_CTRL (R114, R116) -/

/-- The three pass-through operations of a requester, each with its OP. -/
def nvmCommands (a : Access) : List (Instr × Nat) := [(.nvmErase64k a, 1), (.nvmProgram a, 2), (.nvmRead a, 3)]

theorem nvmCommand_op_ne_zero {a : Access} {c : Instr × Nat} (hc : c ∈ nvmCommands a) : c.2 % 4 ≠ 0 := by
  simp only [nvmCommands, List.mem_cons, List.not_mem_nil, or_false] at hc
  rcases hc with rfl | rfl | rfl <;> simp

/-- A pass-through operation that acts at once is answered by `nvmOp`. -/
theorem exec_nvmCommand {a : Access} (hwf : a.wf = true) {c : Instr × Nat} (hc : c ∈ nvmCommands a) {s : State}
    (hacts : s.hw.acts a 0x110024 c.2 = true) :
    exec c.1 s = .next { s with hw := s.hw.answered a 0x110024 c.2 (nvmOp c.2 s.hw) } := by
  have hsubmit : exec c.1 s = .next { s with hw := submit a (.write 0x110024 [c.2]) s.hw } := by
    simp only [nvmCommands, List.mem_cons, List.not_mem_nil, or_false] at hc
    rcases hc with rfl | rfl | rfl
    exacts [exec_nvmErase64k a s hwf, exec_nvmProgram a s hwf, exec_nvmRead a s hwf]
  rw [hsubmit, submit_of_acts hacts, regOp_nvm, Block.touched_of_none _ _ rfl, plainOp]

theorem nvmOp_of_busy {b : Block} (h : b.flag F.SEC_NVM_CTRL_NVM_BUSY = true) {w : Nat} (hw : w % 4 ≠ 0) :
    nvmOp w b = (b, .busyResource) := by
  simp [nvmOp, hw, h]

end Sys2Proof.Machine

namespace Sys2Proof.Proofs

open Sys2Proof Sys2Proof.Machine

/-- Settles O13: what runs refuses the commands and the key by the status of their registers' operations; the key answered OK resets. -/
theorem runningOperationsRefuseCommands : Obligations.RunningOperationsRefuseCommands := by
  intro a s hwf
  refine ⟨fun hbusy => ⟨fun c hc hacts => ?_, fun hacts => ?_⟩, fun hbusy c hc hacts => ?_, fun hidle hacts => ?_⟩
  · rw [exec_secCommand hwf hc hacts, secCmdOp_of_busy hbusy]
  · rw [exec_restartKey hwf hacts, if_pos hbusy]
  · rw [exec_nvmCommand hwf hc hacts, nvmOp_of_busy hbusy (nvmCommand_op_ne_zero hc)]
  · obtain ⟨d, hreset⟩ := s.hw.answered_restartKey s.hw a
    refine ⟨d.toOff causeRestart false, ?_, rfl, d.get_toOff_cause .., fun f hcause hid hkept hoven => ?_⟩
    · rw [exec_restartKey hwf hacts, if_neg (by simp [hidle]), hreset]
    · exact d.get_toOff_of_cleared _ _ hcause hid hkept hoven

end Sys2Proof.Proofs

/-! SUPPORT. What each SEC command does and the result it ends with, by the nonce, the signature and the container that it finds. -/

namespace Sys2Proof.Machine

open Sys2Proof

/-! ### The nonce, quotes and confirmation (R94, R113, R118) -/

theorem secQuote_of_noNonce {b : Block} (h : b.boot.nonce = none) : secQuote b = (b, 2) := by
  simp [secQuote, h]

theorem secQuote_of_nonce {b : Block} {n : List Nat} (h : b.boot.nonce = some n) :
    secQuote b = ((b.putSec 0x110800 (b.quoteBody n ++ beBytes 96 (Config.quoteSig (b.quoteBody n)))).setNonce none, 0) := by
  simp [secQuote, h]

/-- A trial ends: its slot is confirmed, the other rejected, and the anti-rollback counters take the container's versions. -/
theorem secConfirm_of_trial {b : Block} {d : List Nat} (himage : b.boot.image = some d) (hsel : b.get F.SYS_STATE_BOOT_SEL ≠ 3)
    (htrial : b.flag F.SYS_STATE_TRIAL = true) :
    secConfirm b =
      (let slot := b.get F.SYS_STATE_SLOT
       let b1 := (b.setFlash (recordSlot (recordSlot b.boot.flash slot .confirmed) (1 - slot) .rejected)).put F.SYS_STATE_TRIAL 0
       ({ b1 with boot := { b1.boot with
          fuses := b1.boot.fuses.advance (u8 (sectionBytes b.imageSecs 1) 8) (u8 (sectionBytes b.imageSecs 2) 8) (u8 d 0x14) } }, 0)) := by
  simp only [secConfirm, himage, if_neg hsel, if_pos htrial]

/-! ### The pass-through opens, and its slot is verified (R91, R114, R117) -/

theorem secOpenNvm_of_unsigned {b : Block} (h : b.signedCmd 4 (b.cmdBuf.take 4) ((b.cmdBuf.drop 4).take 96) = false) :
    secOpenNvm b = (b.setNonce none, 1) := by
  simp [secOpenNvm, h]

theorem secOpenNvm_of_signed {b : Block} (h : b.signedCmd 4 (b.cmdBuf.take 4) ((b.cmdBuf.drop 4).take 96) = true)
    (hslot : u32 (b.cmdBuf.take 4) 0 = 1 - b.get F.SYS_STATE_SLOT) :
    secOpenNvm b =
      (((b.setNonce none).put F.SEC_NVM_CTRL_OPEN 1).put F.SEC_NVM_CTRL_SLOT (1 - b.get F.SYS_STATE_SLOT), 0) := by
  simp [secOpenNvm, h, hslot]

theorem secVerifySlot_of_closed {b : Block} (h : b.flag F.SEC_NVM_CTRL_OPEN = false) : secVerifySlot b = (b, 2) := by
  simp [secVerifySlot, h]

/-- What Verify finds in the slot of the open pass-through. -/
def Block.passThroughVerified (b : Block) : Verified :=
  verify (b.get F.IDN_STEP_MODULE_STEP) b.boot.fuses (slotContainer b.boot.flash (b.get F.SEC_NVM_CTRL_SLOT))

/-- Verify or the conflict check refuses the container in the slot of the open pass-through. -/
abbrev Block.passThroughRefused (b : Block) : Bool :=
  b.passThroughVerified.err.isSome || (imageConflict b.passThroughVerified.secs).isSome

theorem secVerifySlot_of_refused {b : Block} (hopen : b.flag F.SEC_NVM_CTRL_OPEN = true) (hdec : b.passThroughVerified.decFail = false)
    (h : b.passThroughRefused = true) : secVerifySlot b = (b, 4) := by
  simp only [Block.passThroughRefused, Block.passThroughVerified] at hdec h
  simp only [secVerifySlot, hopen, hdec, h, Bool.not_true, Bool.false_eq_true, if_false, if_true]

/-- The record of an accepted container's slot starts anew with a trial. -/
theorem secVerifySlot_of_accepted {b : Block} (hopen : b.flag F.SEC_NVM_CTRL_OPEN = true) (hdec : b.passThroughVerified.decFail = false)
    (h : ¬ b.passThroughRefused = true) :
    secVerifySlot b =
      (b.setFlash (flashProgram (flashErase b.boot.flash (recordBase (b.get F.SEC_NVM_CTRL_SLOT)) 0x10000)
        (recordBase (b.get F.SEC_NVM_CTRL_SLOT)) (slotEntry .trial 0)), 0) := by
  simp only [Block.passThroughRefused, Block.passThroughVerified] at hdec h
  simp only [secVerifySlot, hopen, hdec, h, Bool.not_true, Bool.false_eq_true, if_false]

/-! ### Owner keys and debug (R111, R112) -/

/-- The first owner key needs no signature. -/
theorem secAddKey_of_unowned {b : Block} (hkeys : b.boot.fuses.keys = []) (hslot : u32 (b.cmdBuf.take 101) 0 ≤ 3)
    (hpoint : (keyPoint ((b.cmdBuf.take 101).drop 4)).isSome = true) :
    secAddKey b =
      ({ b with boot := { b.boot with fuses := { b.boot.fuses with
        keys := [(u32 (b.cmdBuf.take 101) 0, false, (b.cmdBuf.take 101).drop 4)] } } }, 0) := by
  have hvalid : ¬ (3 < u32 (b.cmdBuf.take 101) 0 ∨ (lookup b.boot.fuses.keys (u32 (b.cmdBuf.take 101) 0)).isSome = true ∨
      (keyPoint ((b.cmdBuf.take 101).drop 4)).isNone = true) := by
    simp only [hkeys, lookup_nil, Option.isSome_none, Bool.false_eq_true, false_or, not_or, not_lt, Option.isNone_iff_eq_none]
    exact ⟨hslot, Option.isSome_iff_ne_none.1 hpoint⟩
  simp only [secAddKey, if_neg hvalid]
  simp [hkeys, insertKey]

theorem secAddKey_of_unsigned {b : Block} (hkeys : b.boot.fuses.keys ≠ [])
    (h : b.signedCmd 7 (b.cmdBuf.take 101) ((b.cmdBuf.drop 104).take 96) = false) : secAddKey b = (b.setNonce none, 1) := by
  have howned : b.boot.fuses.keys.isEmpty = false := by simpa using hkeys
  simp [secAddKey, howned, h]

/-- The last ACTIVE key is not revoked. -/
theorem secRevokeKey_of_last {b : Block} {k : List Nat} (h : b.signedCmd 8 (b.cmdBuf.take 4) ((b.cmdBuf.drop 4).take 96) = true)
    (hkey : b.boot.fuses.activeKey (u32 (b.cmdBuf.take 4) 0) = some k)
    (hlast : (b.boot.fuses.keys.filter fun e => !e.2.1).length ≤ 1) : secRevokeKey b = (b.setNonce none, 3) := by
  simp only [secRevokeKey, h, hkey, if_pos hlast, Bool.not_true, Bool.false_eq_true, if_false]

theorem secRevokeKey_of_others {b : Block} {k : List Nat} (h : b.signedCmd 8 (b.cmdBuf.take 4) ((b.cmdBuf.drop 4).take 96) = true)
    (hkey : b.boot.fuses.activeKey (u32 (b.cmdBuf.take 4) 0) = some k)
    (hothers : ¬ (b.boot.fuses.keys.filter fun e => !e.2.1).length ≤ 1) :
    secRevokeKey b =
      ({ b.setNonce none with boot := { (b.setNonce none).boot with fuses := { b.boot.fuses with
        keys := insertKey b.boot.fuses.keys (u32 (b.cmdBuf.take 4) 0) (true, k) } } }, 0) := by
  simp only [secRevokeKey, h, hkey, if_neg hothers, Bool.not_true, Bool.false_eq_true, if_false]
  rfl

theorem secDebugOpen_of_signed {b : Block} (hnonce : b.boot.nonce = some ((b.cmdBuf.take 36).take 32))
    (h : b.signedCmd 9 (b.cmdBuf.take 36) ((b.cmdBuf.drop 36).take 96) = true) :
    secDebugOpen b = ((b.setNonce none).put F.SEC_DEBUG (u32 (b.cmdBuf.take 36) 32), 0) := by
  simp only [secDebugOpen, hnonce, h, ne_eq, not_true_eq_false, Bool.not_true, Bool.false_eq_true, or_self, if_false]

theorem secDebugOpen_of_otherNonce {b : Block} (h : b.boot.nonce ≠ some ((b.cmdBuf.take 36).take 32)) :
    secDebugOpen b = (b.setNonce none, 1) := by
  simp only [secDebugOpen, if_pos (Or.inl h)]

end Sys2Proof.Machine

namespace Sys2Proof.Proofs

open Sys2Proof Sys2Proof.Machine

/-- Settles O11: with nothing running each command is taken with what it does in the case named. -/
theorem secCommandsRun : Obligations.SecCommandsRun := by
  intro a s hwf hidle taken buf noNonce
  have run {i : Instr} {op : Nat} := @exec_secCommand_of_idle a hwf s hidle i op
  refine ⟨fun hacts => run hacts rfl, fun hacts hnonce => run hacts (secQuote_of_noNonce hnonce),
    fun n hacts hnonce => run hacts (secQuote_of_nonce hnonce),
    fun d hacts himage hsel htrial => run hacts (secConfirm_of_trial himage hsel htrial),
    fun hacts hsig => run hacts (secOpenNvm_of_unsigned hsig), fun hacts hsig hslot => run hacts (secOpenNvm_of_signed hsig hslot),
    fun hacts => run hacts rfl, fun hacts hclosed => run hacts (secVerifySlot_of_closed hclosed),
    fun hacts hopen hdec => ?verifySlot,
    fun hacts hkeys hslot hpoint => run hacts (secAddKey_of_unowned hkeys hslot hpoint),
    fun hacts hkeys hsig => run hacts (secAddKey_of_unsigned hkeys hsig),
    fun k hacts hsig hkey => ?revokeKey,
    fun hacts hnonce hsig => run hacts (secDebugOpen_of_signed hnonce hsig),
    fun hacts hnonce => run hacts (secDebugOpen_of_otherNonce hnonce)⟩
  case verifySlot =>
    split
    next hrefused => exact run hacts (secVerifySlot_of_refused hopen hdec hrefused)
    next hgood => exact run hacts (secVerifySlot_of_accepted hopen hdec hgood)
  case revokeKey =>
    split
    next hlast => exact run hacts (secRevokeKey_of_last hsig hkey hlast)
    next hothers => exact run hacts (secRevokeKey_of_others hsig hkey hothers)

end Sys2Proof.Proofs

/-! SUPPORT. How a SEC command ends, and how a pass-through operation starts, is denied, and ends. -/

namespace Sys2Proof.Machine

open Sys2Proof

theorem whenDue_of_due {due : Bool} (h : due = true) (f : Block → Block) (b : Block) : whenDue due f b = f b := by
  rw [h, whenDue_true]

/-! ### The end of a SEC command (R113) -/

theorem secCmdDone_of_run {b : Block} {r : SecRun} (hrun : b.boot.run = some r) (hon : b.ccOn = true) :
    secCmdDone b =
      ({ (b.put F.SEC_CMD_STAT_BUSY 0).put F.SEC_CMD_STAT_RESULT r.result with
        boot := { b.boot with run := none } }.raise 216 r.result).settlePower := by
  simp only [secCmdDone, hrun, whenDue_of_due hon, Block.put_boot]

/-! ### A pass-through operation that begins (R114, R116) -/

/-- A pass-through operation has begun with ADDR and the buffer as they stand. -/
def Block.nvmStarted (b : Block) (op : Nat) : Block :=
  { b.put F.SEC_NVM_CTRL_NVM_BUSY 1 with
    boot := { b.boot with nvm := some ⟨op, b.get F.SEC_NVM_ADDR, b.secBytes 0x110600 64, b.tick⟩ } }

/-- A pass-through operation that acts at once is answered with what `nvmOp` leaves and its status. -/
theorem exec_nvmCommand_of_eq {a : Access} (hwf : a.wf = true) {s : State} {i : Instr} {op : Nat}
    (hacts : s.hw.acts a 0x110024 op = true) {r : Block × Status} (hr : nvmOp op s.hw = r)
    (hc : (i, op) ∈ nvmCommands a := by simp [nvmCommands]) :
    exec i s = .next { s with hw := s.hw.answered a 0x110024 op r } :=
  hr ▸ exec_nvmCommand hwf hc hacts

theorem nvmOp_of_closed {b : Block} (hidle : b.flag F.SEC_NVM_CTRL_NVM_BUSY = false) (hclosed : b.flag F.SEC_NVM_CTRL_OPEN = false)
    {op : Nat} (hop : op % 4 ≠ 0) : nvmOp op b = (b.put F.SEC_NVM_CTRL_NVM_RESULT 2, .ok) := by
  simp [nvmOp, hidle, hclosed, hop]

/-- An erase meets the check of the 64 KiB sector that ADDR lies in. -/
theorem nvmOp_erase {b : Block} (hidle : b.flag F.SEC_NVM_CTRL_NVM_BUSY = false) (hopen : b.flag F.SEC_NVM_CTRL_OPEN = true) :
    nvmOp 1 b =
      if nvmDenied (b.get F.SEC_NVM_CTRL_SLOT) (b.get F.SEC_NVM_ADDR / 0x10000 * 0x10000) 0x10000 then
        (b.put F.SEC_NVM_CTRL_NVM_RESULT 1, .accessDenied)
      else (b.nvmStarted 1, .ok) := by
  simp [nvmOp, hidle, hopen, NvmRun.at_, Block.nvmStarted]

/-- A program meets the check of the 256 bytes from ADDR. -/
theorem nvmOp_program {b : Block} (hidle : b.flag F.SEC_NVM_CTRL_NVM_BUSY = false) (hopen : b.flag F.SEC_NVM_CTRL_OPEN = true) :
    nvmOp 2 b =
      if nvmDenied (b.get F.SEC_NVM_CTRL_SLOT) (b.get F.SEC_NVM_ADDR) 256 then (b.put F.SEC_NVM_CTRL_NVM_RESULT 1, .accessDenied)
      else (b.nvmStarted 2, .ok) := by
  simp [nvmOp, hidle, hopen, NvmRun.at_, Block.nvmStarted]

theorem nvmOp_read {b : Block} (hidle : b.flag F.SEC_NVM_CTRL_NVM_BUSY = false) (hopen : b.flag F.SEC_NVM_CTRL_OPEN = true) :
    nvmOp 3 b = (b.nvmStarted 3, .ok) := by
  simp [nvmOp, hidle, hopen, Block.nvmStarted]

/-! ### A pass-through operation that ends (R116) -/

section

variable {b : Block} {r : NvmRun} (hrun : b.boot.nvm = some r)
include hrun

theorem nvmOpDone_of_read (hop : r.op = 3) (ok : Bool) :
    nvmOpDone ok b = (b.putSec 0x110600 (flashBytes b.boot.flash r.addr 256)).nvmEnd 0 := by
  simp only [nvmOpDone, hrun, if_pos hop]

theorem nvmOpDone_of_erase (hop : r.op = 1) :
    nvmOpDone true b = (b.setFlash (flashErase b.boot.flash (r.addr / 0x10000 * 0x10000) 0x10000)).nvmEnd 0 := by
  simp [nvmOpDone, hrun, hop, NvmRun.at_]

theorem nvmOpDone_of_program (hop : r.op = 2) : nvmOpDone true b = (b.setFlash (flashProgram b.boot.flash r.addr r.data)).nvmEnd 0 := by
  simp [nvmOpDone, hrun, hop, NvmRun.at_]

/-- An erase or a program that fails leaves its range torn and reports FLASH_ERR. -/
theorem nvmOpDone_of_failure (hop : r.op ≠ 3) : nvmOpDone false b = ((b.setFlash (b.flashTorn r)).drawn).nvmEnd 3 := by
  simp [nvmOpDone, hrun, hop]

/-- An erase or a program past its limit leaves its range torn and reports TIMEOUT. -/
theorem nvmPollTimeout_of_due (hop : r.op ≠ 3) (hdue : r.tick + (if r.op = 1 then 3 * sTicks else 5 * msTicks) ≤ b.tick) :
    nvmPollTimeout b = ((b.setFlash (b.flashTorn r)).drawn).nvmEnd 4 := by
  simp only [nvmPollTimeout, hrun]
  exact whenDue_of_due (by simp [hop, hdue]) _ _

end

end Sys2Proof.Machine

namespace Sys2Proof.Proofs

open Sys2Proof Sys2Proof.Machine

/-- Settles O12: the end of a SEC command, then `nvmOp` for each operation, then how the kept operation ends. -/
theorem secAndFlashOperationsEnd : Obligations.SecAndFlashOperationsEnd := by
  refine ⟨fun s r hrun hon => ?secDone, fun a s hwf hidle => ?begins, fun s r hrun => ?ends⟩
  case secDone => rw [exec_secCmdDone _ rfl, secCmdDone_of_run hrun hon]
  case begins =>
    intro started addr
    have run {i : Instr} {op : Nat} := @exec_nvmCommand_of_eq a hwf s i op
    refine ⟨fun hclosed hacts => run hacts (nvmOp_of_closed hidle hclosed (by decide)),
      fun hopen => ⟨fun hacts => ?erase, fun hacts => ?program, fun hacts => run hacts (nvmOp_read hidle hopen)⟩⟩
    case erase =>
      split
      next hdenied => exact run hacts ((nvmOp_erase hidle hopen).trans (if_pos hdenied))
      next hallowed => exact run hacts ((nvmOp_erase hidle hopen).trans (if_neg hallowed))
    case program =>
      split
      next hdenied => exact run hacts ((nvmOp_program hidle hopen).trans (if_pos hdenied))
      next hallowed => exact run hacts ((nvmOp_program hidle hopen).trans (if_neg hallowed))
  case ends =>
    refine ⟨fun ok hop => ?_, fun hop => ?_, fun hop => ?_, fun hop => ?_, fun hop hdue => ?_, fun hop hdue => ?_⟩
    · rw [exec_nvmOpDone _ _ rfl, nvmOpDone_of_read hrun hop]
    · rw [exec_nvmOpDone _ _ rfl, nvmOpDone_of_erase hrun hop]
    · rw [exec_nvmOpDone _ _ rfl, nvmOpDone_of_program hrun hop]
    · rw [exec_nvmOpDone _ _ rfl, nvmOpDone_of_failure hrun hop]
    · rw [exec_nvmPollTimeout _ rfl, nvmPollTimeout_of_due hrun (by simp [hop]) (by simpa [hop] using hdue)]
    · rw [exec_nvmPollTimeout _ rfl, nvmPollTimeout_of_due hrun (by simp [hop]) (by simpa [hop] using hdue)]

end Sys2Proof.Proofs

/-! SUPPORT. Each command of start-up where its event is due: Fill, Verify, recovery, Configure, and the report of Fault. -/

namespace Sys2Proof.Machine

open Sys2Proof

/-! ### Fill (R80, R554, R555) -/

/-- What the end of Fill shows: the results of the self-test, what is present, the straps, and the times from which it counts. -/
def Block.fillShown (b : Block) (r : FillResult) : Block :=
  let b1 := ((((b.put F.ECC_BIST_DONE 1).put F.ECC_BIST_TILE_PASS r.tiles).putB F.ECC_BIST_PT_PASS r.pt).putB
    F.ECC_BIST_CCA_PASS (r.fillA && r.testA)).putB F.ECC_BIST_CCB_PASS (r.fillB && r.testB)
  let b2 := ((b1.put F.IDN_CAP_TILE_PRESENT r.tiles).put F.IDN_CAP_CC_PRESENT
    (b2n (r.fillA && r.testA) + 2 * b2n (r.fillB && r.testB))).put F.SYS_STATE_BOOT_SEL r.strap
  { b2 with prec := { b2.prec with fillTick := b2.tick }, pair := { b2.pair with wdogTick := b2.tick, selfTick := [(0, b2.tick), (1, b2.tick)] } }

theorem vinValid_of_off {b : Block} (h : b.phase = .off) : vinValid b = b.beginFill :=
  whenDue_of_due (by simp [h]) _ _

section

variable {b : Block} (hphase : b.phase = .fill) (r : FillResult)
include hphase

/-- At the end of Fill the results are shown, and they lead to Fault or to Verify. -/
theorem fillDone_of_fill :
    fillDone r b =
      let a := r.fillA && r.testA
      let c := r.fillB && r.testB
      if !r.pt then (b.fillShown r).toFault 0x0A
      else if !a && !c then (b.fillShown r).toFault (if !r.fillA && !r.fillB then 0x0B else 0x0A)
      else
        { (((b.fillShown r).put F.IDN_ACTIVE (b2n (!a))).put F.PAIR_STAT_SB_STATE (if a && c then 2 else 5)).putB
            F.PAIR_STAT_MIRROR_UP (a && c) with phase := .verify }.showStandby.settlePower :=
  whenDue_of_due (by simp [hphase]) _ _

theorem fillDone_of_ptFailed (hpt : r.pt = false) : fillDone r b = (b.fillShown r).toFault 0x0A := by
  simp [fillDone_of_fill hphase, hpt]

theorem fillDone_of_noFill (hpt : r.pt = true) (hA : r.fillA = false) (hB : r.fillB = false) :
    fillDone r b = (b.fillShown r).toFault 0x0B := by
  simp [fillDone_of_fill hphase, hpt, hA, hB]

/-- Both passed: A is active, B the standby that syncs. -/
theorem fillDone_of_both (hpt : r.pt = true) (hA : (r.fillA && r.testA) = true) (hB : (r.fillB && r.testB) = true) :
    fillDone r b =
      { (((b.fillShown r).put F.IDN_ACTIVE 0).put F.PAIR_STAT_SB_STATE 2).putB F.PAIR_STAT_MIRROR_UP true with
        phase := .verify }.showStandby.settlePower := by
  simp [fillDone_of_fill hphase, hpt, hA, hB, b2n]

/-- A failed: B is active, and the standby counts as FAILED. -/
theorem fillDone_of_onlyB (hpt : r.pt = true) (hA : (r.fillA && r.testA) = false) (hB : (r.fillB && r.testB) = true) :
    fillDone r b =
      { (((b.fillShown r).put F.IDN_ACTIVE 1).put F.PAIR_STAT_SB_STATE 5).putB F.PAIR_STAT_MIRROR_UP false with
        phase := .verify }.showStandby.settlePower := by
  simp [fillDone_of_fill hphase, hpt, hA, hB, b2n]

end

/-! ### Verify and recovery (R80, R87, R95) -/

section

variable {b : Block} (hphase : b.phase = .verify)
include hphase

theorem verifyDone_of_noFlash (hsel : b.get F.SYS_STATE_BOOT_SEL ≠ 3) : verifyDone 1 b = b.toFault 1 :=
  whenDue_of_due (by simp [hphase, hsel]) _ _

theorem verifyDone_of_flash (hsel : b.get F.SYS_STATE_BOOT_SEL ≠ 3) :
    verifyDone 0 b =
      let b1 := b.setFlash (rejectBooted b.boot.flash)
      let l := runTries (b1.get F.IDN_STEP_MODULE_STEP) b1.boot.fuses b1.boot.flash (slotTries b1.boot.flash (b1.get F.SYS_STATE_BOOT_SEL))
      (b1.countDecFails l).verified l :=
  whenDue_of_due (by simp [hphase, hsel]) _ _

/-- The container that follows its 32-bit length on SVC_RX. -/
def recoveryContainer (bytes : List Byte) : List Nat :=
  let l := bytes.map (·.toNat)
  (l.drop 4).take (u32 l 0)

/-- What Verify finds in a recovery container. -/
def Block.recoveryVerified (b : Block) (d : List Nat) : Verified := verify (b.get F.IDN_STEP_MODULE_STEP) b.boot.fuses d

/-- The block that has verified a recovery container, which does not run yet. -/
def Block.recoveryCounted (b : Block) (d : List Nat) : Block := (b.countDecFails [⟨⟨0, false⟩, b.recoveryVerified d⟩]).drawn

/-- The block whose running image is a recovery container. -/
def Block.recovered (b : Block) (d : List Nat) : Block :=
  { (b.recoveryCounted d).put F.SYS_STATE_SLOT (Config.recoverySlot b.free) with
    boot := { (b.recoveryCounted d).boot with image := some d } }

section

variable {bytes : List Byte} (hsel : b.get F.SYS_STATE_BOOT_SEL = 3)
  (hlen : 4 + u32 (bytes.map (·.toNat)) 0 ≤ (bytes.map (·.toNat)).length)
include hsel hlen

/-- The container that has come whole is verified. -/
theorem recoveryLoad_of_whole :
    recoveryLoad bytes b =
      let d := recoveryContainer bytes
      let v := b.recoveryVerified d
      match v.err with
      | none => ((b.recovered d).put F.IDN_CFGGEN (u32 d 0x0C)).toSafe ⟨0, 0, 0⟩ v.secs
      | some e => if v.codeOk then (b.recovered d).toSafe e v.secs else (b.recoveryCounted d).faultWith e := by
  rw [recoveryLoad, whenDue_of_due (by rw [hphase, hsel, decide_eq_true hlen]; rfl)]
  rfl

theorem recoveryLoad_of_accepted (h : (b.recoveryVerified (recoveryContainer bytes)).err = none) :
    recoveryLoad bytes b =
      ((b.recovered (recoveryContainer bytes)).put F.IDN_CFGGEN (u32 (recoveryContainer bytes) 0x0C)).toSafe ⟨0, 0, 0⟩
        (b.recoveryVerified (recoveryContainer bytes)).secs := by
  simp only [recoveryLoad_of_whole hphase hsel hlen, h]

/-- With sound code a refused container runs in Safe-Config. -/
theorem recoveryLoad_of_soundCode {e : BootErr} (h : (b.recoveryVerified (recoveryContainer bytes)).err = some e)
    (hcode : (b.recoveryVerified (recoveryContainer bytes)).codeOk = true) :
    recoveryLoad bytes b =
      (b.recovered (recoveryContainer bytes)).toSafe e (b.recoveryVerified (recoveryContainer bytes)).secs := by
  simp only [recoveryLoad_of_whole hphase hsel hlen, h, hcode, if_true]

theorem recoveryLoad_of_refused {e : BootErr} (h : (b.recoveryVerified (recoveryContainer bytes)).err = some e)
    (hcode : (b.recoveryVerified (recoveryContainer bytes)).codeOk = false) :
    recoveryLoad bytes b = (b.recoveryCounted (recoveryContainer bytes)).faultWith e := by
  simp only [recoveryLoad_of_whole hphase hsel hlen, h, hcode, Bool.false_eq_true, if_false]

end

end

/-! ### Configure (R106) -/

section

variable {b : Block} (hphase : b.phase = .configure) (cal : List (Nat × List Nat))
include hphase

theorem configureDone_of_conflict {e : BootErr} (h : imageConflict b.imageSecs = some e) : configureDone cal b = b.toSafe e b.imageSecs := by
  simp [configureDone, whenDue_of_due, hphase, h]

theorem configureDone_of_noConflict (h : imageConflict b.imageSecs = none) (hsafe : bitAt (u8 (b.boot.image.getD []) 0x15) 0 = false)
    (hstays : (b.applyImage b.imageSecs).phase = .configure) :
    configureDone cal b = ((b.applyImage b.imageSecs).configureCal cal).enterJoin := by
  simp [configureDone, whenDue_of_due, hphase, h, hsafe, hstays]

end

/-! ### Fault (R83) -/

/-- The line LMA FAULT 0A, one second after the last. -/
theorem faultReport_of_selftest {b : Block} (hphase : b.phase = .fault) (hdue : b.boot.reportTick.getD 0 + sTicks ≤ b.tick)
    (hcode : b.get F.SYS_BOOT_ERR_CODE = 0x0A) :
    faultReport b =
      { b.emit (.svc [76, 77, 65, 32, 70, 65, 85, 76, 84, 32, 48, 65]) with boot := { b.boot with reportTick := some b.tick } } := by
  simp [faultReport, whenDue_of_due, hphase, hdue, hcode]

end Sys2Proof.Machine

namespace Sys2Proof.Proofs

open Sys2Proof Sys2Proof.Machine

/-- Settles O9: each event of start-up is due in its state, and leads on as its lemma says. -/
theorem startupPath : Obligations.StartupPath := by
  refine ⟨fun s hphase => ?off, fun s r hwf hphase => ?fill, fun s hphase hsel => ?verify, fun s bytes hphase hsel => ?recovery,
    fun s cal hwf hphase => ?configure, fun s hphase hdue hcode => ?fault⟩
  case off => rw [exec_vinValid _ rfl, vinValid_of_off hphase, Block.beginFill]
  case fill =>
    refine ⟨fun hpt => ?_, fun hpt hA hB => ?_, fun hpt hA hB => ?_, fun hpt hA hB => ?_⟩ <;> rw [exec_fillDone _ _ hwf]
    · rw [fillDone_of_ptFailed hphase r hpt, Block.fillShown]
    · rw [fillDone_of_noFill hphase r hpt hA hB, Block.fillShown]
    · rw [fillDone_of_both hphase r hpt hA hB, Block.fillShown]
    · rw [fillDone_of_onlyB hphase r hpt hA hB, Block.fillShown]
  case verify =>
    rw [exec_verifyDone _ _ rfl, exec_verifyDone _ _ rfl, verifyDone_of_noFlash hphase hsel, verifyDone_of_flash hphase hsel]
    exact ⟨rfl, rfl⟩
  case recovery =>
    intro l d hlen v
    rw [exec_recoveryLoad _ _ rfl]
    cases herr : v.err with
    | none =>
      refine ⟨(s.hw.recovered d).put F.IDN_CFGGEN (u32 d 0x0C), ?_, fun _ => Block.get_put_same .., fun _ => rfl⟩
      rw [recoveryLoad_of_accepted hphase hsel hlen herr]
      rfl
    | some e =>
      cases hcode : v.codeOk with
      | true =>
        refine ⟨s.hw.recovered d, ?_, by simp, fun _ => rfl⟩
        rw [recoveryLoad_of_soundCode hphase hsel hlen herr hcode]
        simp only [if_true]
        rfl
      | false =>
        refine ⟨s.hw.recoveryCounted d, ?_, by simp, by simp⟩
        rw [recoveryLoad_of_refused hphase hsel hlen herr hcode]
        simp only [Bool.false_eq_true, if_false]
        rfl
  case configure =>
    refine ⟨fun e hconflict => ?_, fun hnone hsafe hstays => ?_⟩ <;> rw [exec_configureDone _ _ hwf]
    · rw [configureDone_of_conflict hphase cal hconflict]
    · rw [configureDone_of_noConflict hphase cal hnone hsafe hstays]
  case fault => rw [exec_faultReport _ rfl, faultReport_of_selftest hphase hdue hcode]

end Sys2Proof.Proofs

/-! SUPPORT. A sample instant: what it leaves of the block, the fields of a sample word, the end of a settle count. -/

namespace Sys2Proof.Machine

open Sys2Proof

theorem whenDue_of_notDue {due : Bool} (h : due = false) (f : Block → Block) (b : Block) : whenDue due f b = b := by
  rw [h, whenDue_false]

/-! ### What a sample instant leaves (R121, R123, R268, R307) -/

/-- A block that differs from another in its register fields and in the fast channels at most. -/
def Block.SameButSamples (b c : Block) : Prop := c = { b with regs := c.regs, fast := c.fast }

theorem Block.SameButSamples.trans {b c d : Block} (h : b.SameButSamples c) (h' : c.SameButSamples d) : b.SameButSamples d :=
  Eq.trans h' (by rw [h])

/-- A sample puts fields of its channel's entry and counts down its settle count. -/
theorem Block.sampled_sameButSamples (b : Block) (f : FastCode) : b.SameButSamples (b.sampled f) := by
  unfold Block.sampled
  dsimp only
  split_ifs <;> split <;> rfl

theorem Block.foldl_sampled_sameButSamples (code : Nat → FastCode) (l : List Nat) (b : Block) :
    b.SameButSamples (l.foldl (fun c n => c.sampled (code n)) b) := by
  induction l generalizing b with
  | nil => rfl
  | cons n l ih => exact (b.sampled_sameButSamples (code n)).trans (ih _)

/-- The block with the entries of every channel that samples as the instant leaves them. -/
def Block.entriesSampled (b : Block) (codes : List FastCode) : Block :=
  (b.sampling.flatMap groupChans).foldl (fun c n => c.sampled (codeOf codes n)) b

theorem Block.entriesSampled_sameButSamples (b : Block) (codes : List FastCode) : b.SameButSamples (b.entriesSampled codes) :=
  b.foldl_sampled_sameButSamples (codeOf codes) _

/-- Items go onto the tile links in order, and nothing else changes. -/
theorem Block.foldl_link {α : Type} (item : α → LinkItem) (l : List α) (b : Block) :
    l.foldl (fun c e => c.link (item e)) b = { b with links := b.links ++ l.map item } := by
  induction l generalizing b with
  | nil => simp
  | cons e l ih =>
    rw [List.foldl_cons, ih]
    simp [Block.link]

/-- The items of a sample instant: one of sixteen words for each group that samples, with this tick's time. -/
def Block.instantItems (b : Block) (codes : List FastCode) : List LinkItem :=
  (b.instantWords codes).map fun e => .item e.1 b.stampRaw b.stampDom b.stampQuality (e.2.flatMap (leBytes 2))

/-- The instants that Lynx holds once a sample instant has passed. -/
def Block.instantsAfter (b : Block) (codes : List FastCode) : List Instant :=
  b.lynx.instants ++
    if b.ccOn then [⟨b.time.pllTicks, b.tick, b.stampRaw, b.stampDom, b.stampQuality, b.instantWords codes⟩] else []

/-- A sample instant that is due changes the channels' entries, and puts its items on the links and before Lynx. -/
theorem fastSampleInstant_of_due {b : Block} (hrails : b.phase.railsOn = true)
    (hdue : ∀ t, b.fast.last = some t → t + 25 ≤ b.tick) (codes : List FastCode) :
    fastSampleInstant codes b =
      { b with
        regs := (b.entriesSampled codes).regs
        fast := { (b.entriesSampled codes).fast with last := some b.tick }
        links := b.links ++ b.instantItems codes
        lynx := { b.lynx with instants := b.instantsAfter codes } } := by
  have hsamples := b.entriesSampled_sameButSamples codes
  unfold Block.SameButSamples at hsamples
  unfold fastSampleInstant
  rw [whenDue_of_due (by cases hlast : b.fast.last <;> simp [hrails, hdue, hlast])]
  dsimp only
  rw [Block.foldl_link, ← Block.entriesSampled, hsamples]
  cases hon : b.ccOn <;> simp [Block.instantItems, Block.instantsAfter, hon]

theorem fastSampleInstant_of_early {b : Block} {t : Nat} (hlast : b.fast.last = some t) (hearly : b.tick < t + 25) (codes : List FastCode) :
    fastSampleInstant codes b = b := by
  unfold fastSampleInstant
  exact whenDue_of_notDue (by simp [hlast, hearly]) _ _

/-! ### Numbers in two's complement, held inside limits, under two flags -/

theorem clampI_bounds {lo hi : Int} (h : lo ≤ hi) (i : Int) : lo ≤ clampI lo hi i ∧ clampI lo hi i ≤ hi := by
  unfold clampI
  split_ifs <;> omega

theorem unsigned_lt (w : Nat) (i : Int) : unsigned w i < 2 ^ w := by
  have hpos : (0 : Int) < (2 ^ w : Nat) := by exact_mod_cast Nat.two_pow_pos w
  have hlt := Int.emod_lt_of_pos i hpos
  unfold unsigned
  omega

/-- A number in the range of `w` bits is read back from its low `w` bits. -/
theorem signed_unsigned {w : Nat} (hw : 0 < w) {i : Int} (hlo : -(2 ^ (w - 1) : Nat) ≤ i) (hhi : i < (2 ^ (w - 1) : Nat)) :
    signed w (unsigned w i) = i := by
  have hpow : 2 ^ w = 2 * 2 ^ (w - 1) := by rw [← Nat.pow_succ', Nat.succ_eq_add_one, Nat.sub_add_cancel hw]
  unfold signed
  rw [Nat.mod_eq_of_lt (unsigned_lt w i)]
  unfold unsigned
  generalize 2 ^ (w - 1) = p at *
  rw [hpow]
  by_cases hneg : i < 0
  · have hmod : i % (2 * p : Nat) = i + (2 * p : Nat) := by
      rw [← Int.add_emod_right, Int.emod_eq_of_lt (by omega) (by omega)]
    rw [hmod, if_neg (by omega)]
    omega
  · rw [Int.emod_eq_of_lt (by omega) (by omega), if_pos (by omega)]
    omega

theorem b2n_le_one (x : Bool) : b2n x ≤ 1 := by cases x <;> decide

section

variable (o s : Bool) {v : Nat} (h : v < 2 ^ 14)
include h

theorem flaggedWord_lt : b2n o * 2 ^ 15 + b2n s * 2 ^ 14 + v < 2 ^ 16 := by
  have ho := b2n_le_one o
  have hs := b2n_le_one s
  omega

theorem bitAt_flaggedWord_15 : bitAt (b2n o * 2 ^ 15 + b2n s * 2 ^ 14 + v) 15 = o := by
  have hdiv : (b2n o * 2 ^ 15 + b2n s * 2 ^ 14 + v) / 2 ^ 15 = b2n o := by
    have hs := b2n_le_one s
    omega
  rw [bitAt, hdiv]
  cases o <;> rfl

theorem bitAt_flaggedWord_14 : bitAt (b2n o * 2 ^ 15 + b2n s * 2 ^ 14 + v) 14 = s := by
  have hdiv : (b2n o * 2 ^ 15 + b2n s * 2 ^ 14 + v) / 2 ^ 14 = 2 * b2n o + b2n s := by omega
  rw [bitAt, hdiv, Nat.mul_add_mod]
  cases s <;> rfl

theorem flaggedWord_mod : (b2n o * 2 ^ 15 + b2n s * 2 ^ 14 + v) % 2 ^ 14 = v := by omega

end

/-! ### The sample word (R122, R123, R138) -/

theorem Block.sampleWord_of_off {b : Block} {f : FastCode} (h : b.modeOn f.chan = false) : b.sampleWord f = 0 := by
  simp [Block.sampleWord, h]

theorem Block.sampleWord_of_on {b : Block} {f : FastCode} (h : b.modeOn f.chan = true) :
    b.sampleWord f =
      b2n (b.overrange f) * 2 ^ 15 + b2n (b.settling f.chan) * 2 ^ 14 + unsigned 14 (clampI (-8192) 8191 (b.shaped f)) := by
  simp [Block.sampleWord, h]

theorem signed_unsigned_code (i : Int) : signed 14 (unsigned 14 (clampI (-8192) 8191 i)) = clampI (-8192) 8191 i := by
  obtain ⟨hlo, hhi⟩ := clampI_bounds (lo := -8192) (hi := 8191) (by decide) i
  exact signed_unsigned (by decide) (by simpa using hlo) (by simp; omega)

/-! ### The end of a settle count (R124) -/

theorem settleCountEnd_of_zero {b : Block} {c : Nat} (h : lookup b.fast.settle c = some 0) :
    settleCountEnd c b = { b with fast := { b.fast with settle := eraseKey b.fast.settle c } } :=
  whenDue_of_due (by simp [h]) _ _

theorem settleCountEnd_of_not {b : Block} {c : Nat} (h : lookup b.fast.settle c ≠ some 0) : settleCountEnd c b = b :=
  whenDue_of_notDue (by simp [h]) _ _

end Sys2Proof.Machine

namespace Sys2Proof.Proofs

open Sys2Proof Sys2Proof.Machine

/-- Settles O31: an instant that is due by `fastSampleInstant_of_due`, the word's fields, the end of a settle count. -/
theorem fastSampleInstants : Obligations.FastSampleInstants := by
  refine ⟨fun codes s hwf hrails => ⟨fun hdue => ?due, fun t hlast hearly => ?early⟩,
    fun b f => ⟨Block.sampleWord_of_off, fun hon => ?word⟩,
    fun c s hc => ?settle⟩
  case due =>
    have hstep := exec_fastSampleInstant codes s hwf
    rw [fastSampleInstant_of_due hrails hdue] at hstep
    exact ⟨_, hstep, rfl, rfl, rfl, rfl, rfl, rfl, rfl, rfl⟩
  case early => rw [exec_fastSampleInstant _ _ hwf, fastSampleInstant_of_early hlast hearly]
  case word =>
    have hv := unsigned_lt 14 (clampI (-8192) 8191 (b.shaped f))
    rw [Block.sampleWord_of_on hon, flaggedWord_mod _ _ hv]
    exact ⟨flaggedWord_lt _ _ hv, bitAt_flaggedWord_15 _ _ hv, bitAt_flaggedWord_14 _ _ hv, signed_unsigned_code _⟩
  case settle =>
    rw [exec_settleCountEnd _ _ (decide_eq_true hc)]
    exact ⟨fun h => by rw [settleCountEnd_of_zero h], fun h => by rw [settleCountEnd_of_not h]⟩

end Sys2Proof.Proofs

/-! SUPPORT. Edges of a fast channel: what becomes of one by the state of its discriminator, and what the converter makes of a hit. -/

namespace Sys2Proof.Machine

open Sys2Proof

/-! ### What a source's converter makes of an edge (R246, R250, R252) -/

/-- The words of a source that wait for their release. -/
def Block.wordsOf (b : Block) (s : Nat) : Nat := (b.tdc.hits.filter fun y => y.source == s).length

section

variable {b d : Block} (h : d.tdc = b.tdc) (s : Nat)
include h

theorem Block.inDeadTime_of_tdc (x : Crossing) : d.inDeadTime s x = b.inDeadTime s x := by
  unfold Block.inDeadTime
  rw [h]

theorem Block.calHas_of_tdc (live : Bool) : d.calHas s live = b.calHas s live := by
  unfold Block.calHas
  rw [h]

theorem Block.wordsOf_of_tdc : d.wordsOf s = b.wordsOf s := by rw [Block.wordsOf, h, Block.wordsOf]

end

section

variable {b : Block} {s : Nat} {x : Crossing} (trail : Bool)

theorem Block.convert_of_room (hdead : b.inDeadTime s x = false) (hroom : b.wordsOf s < bufferWords s) :
    b.convert s trail x = (b.record s trail x, true) := by
  rw [Block.convert, hdead, if_neg Bool.false_ne_true]
  exact if_neg (Nat.not_le.2 hroom)

/-- Within the dead time an edge of a fast channel is counted as pile-up, and the next word is marked. -/
theorem Block.convert_of_dead (hs : s < 960) (hdead : b.inDeadTime s x = true) :
    b.convert s trail x = ((b.bump (F.FT_TDC_PILEUP_CNT (s / 240))).markSource s true false, false) := by
  rw [Block.convert, if_pos hdead, if_pos hs]

/-- On a full buffer an edge of a fast channel is counted as overflow, and the next word is marked. -/
theorem Block.convert_of_full (hs : s < 960) (hdead : b.inDeadTime s x = false) (hfull : bufferWords s ≤ b.wordsOf s) :
    b.convert s trail x = ((b.bump (F.FT_TDC_OVF_CNT (s / 240))).markSource s false true, false) := by
  rw [Block.convert, hdead, if_neg Bool.false_ne_true, if_pos hs]
  exact if_pos hfull

theorem bufferWords_of_fast (hs : s < 960) : bufferWords s = 16 := if_pos hs

end

/-! ### A hit passes to the converter (R130, R132) -/

/-- A hit is counted, the discriminator is active, and hold-off runs for HOLDOFF ticks. -/
def Block.hitCounted (b : Block) (c : Nat) : Block :=
  let h := b.get (F.FCH_DISC_HOLDOFF c)
  let b1 := (b.bump64 (F.FCH_HIT_CNT_LO c) (F.FCH_HIT_CNT_HI c) 1).setDisc c ⟨true, none, true⟩
  if h = 0 then b1 else { b1 with fast := { b1.fast with hold := insertKey b1.fast.hold c (b.tick + h) } }

theorem Block.hitCounted_tdc (b : Block) (c : Nat) : (b.hitCounted c).tdc = b.tdc := by
  unfold Block.hitCounted
  dsimp only
  split <;> rfl

section

variable {b : Block} {c : Nat} {x : Crossing} (hcal : b.calHas c false = false)
include hcal

/-- Outside INTERNAL calibration a hit is counted and then converted. -/
theorem Block.passHit_of_noCal : b.passHit c x = ((b.hitCounted c).convert c false x).1 := by
  have hcounted : (b.hitCounted c).calHas c false = false := (Block.calHas_of_tdc (b.hitCounted_tdc c) c false).trans hcal
  rw [Block.passHit]
  exact if_neg (ne_true_of_eq_false hcounted)

variable (hc : c < 960)
include hc

theorem Block.passHit_of_room (hdead : b.inDeadTime c x = false) (hroom : b.wordsOf c < 16) :
    b.passHit c x = (b.hitCounted c).record c false x := by
  have htdc := b.hitCounted_tdc c
  rw [Block.passHit_of_noCal hcal, Block.convert_of_room]
  · rwa [Block.inDeadTime_of_tdc htdc]
  · rwa [Block.wordsOf_of_tdc htdc, bufferWords_of_fast hc]

theorem Block.passHit_of_dead (hdead : b.inDeadTime c x = true) :
    b.passHit c x = ((b.hitCounted c).bump (F.FT_TDC_PILEUP_CNT (c / 240))).markSource c true false := by
  rw [Block.passHit_of_noCal hcal, Block.convert_of_dead _ hc]
  rwa [Block.inDeadTime_of_tdc (b.hitCounted_tdc c)]

theorem Block.passHit_of_full (hdead : b.inDeadTime c x = false) (hfull : 16 ≤ b.wordsOf c) :
    b.passHit c x = ((b.hitCounted c).bump (F.FT_TDC_OVF_CNT (c / 240))).markSource c false true := by
  have htdc := b.hitCounted_tdc c
  rw [Block.passHit_of_noCal hcal, Block.convert_of_full _ hc]
  · rwa [Block.inDeadTime_of_tdc htdc]
  · rwa [Block.wordsOf_of_tdc htdc, bufferWords_of_fast hc]

end

/-! ### The crossings of a live discriminator (R130 to R132, R249) -/

section

variable {b : Block} {c : Nat} (k : Nat)

theorem Block.crossLow_of_active (h : (b.discOf c).active = true) : b.crossLow c k = b := if_pos h

/-- In hold-off a crossing is counted, and no more. -/
theorem Block.crossLow_of_held (h : (b.discOf c).active = false) (hheld : lookup b.fast.hold c ≠ none) :
    b.crossLow c k = (b.bump (F.FCH_HOLDOFF_CNT c)).setDisc c ⟨true, none, false⟩ := by
  simp [Block.crossLow, h, Option.isSome_iff_ne_none.2 hheld]

section

variable (h : (b.discOf c).active = false) (hfree : lookup b.fast.hold c = none)
include h hfree

/-- With DISC_DUAL a crossing of THR_LO waits for THR_HI. -/
theorem Block.crossLow_of_dual (hdual : b.dual c = true) :
    b.crossLow c k = b.setDisc c ⟨true, some (b.crossing k), false⟩ := by
  simp [Block.crossLow, h, hfree, hdual]

theorem Block.crossLow_of_single (hdual : b.dual c = false) : b.crossLow c k = b.passHit c (b.crossing k) := by
  simp [Block.crossLow, h, hfree, hdual]

end

theorem Block.crossHigh_of_pend {x : Crossing} (h : (b.discOf c).pend = some x) : b.crossHigh c = b.passHit c x := by
  simp [Block.crossHigh, h]

theorem Block.crossHigh_of_noPend (h : (b.discOf c).pend = none) : b.crossHigh c = b := by
  simp [Block.crossHigh, h]

/-- The return gives a trailing word: its edge was a hit, and its group's TRAIL bit is set. -/
def Block.trails (b : Block) (c : Nat) : Bool := (b.discOf c).hit && bitAt (b.get (F.FT_TDC_TRAIL (c / 240))) (c % 240 / 16)

theorem Block.crossBack_of_noTrail (h : b.trails c = false) : b.crossBack c k = b.setDisc c ⟨false, none, false⟩ :=
  if_neg (ne_true_of_eq_false h)

theorem Block.crossBack_of_room (hc : c < 960) (hcal : b.calHas c false = false) (h : b.trails c = true)
    (hdead : b.inDeadTime c (b.crossing k) = false) (hroom : b.wordsOf c < 16) :
    b.crossBack c k = (b.setDisc c ⟨false, none, false⟩).record c true (b.crossing k) := by
  have hconvert := Block.convert_of_room (b := b.setDisc c ⟨false, none, false⟩) true hdead
    (hroom.trans_eq (bufferWords_of_fast hc).symm)
  calc b.crossBack c k
      = ((b.setDisc c ⟨false, none, false⟩).convert c true (b.crossing k)).1 :=
        (if_pos h).trans (if_neg (ne_true_of_eq_false hcal))
    _ = (b.setDisc c ⟨false, none, false⟩).record c true (b.crossing k) := by rw [hconvert]

end

/-! ### The discriminator of a channel that settles (R125) -/

section

variable {b : Block} {c : Nat}

theorem Block.follow_low_of_active (h : (b.discOf c).active = true) : b.follow c 0 = b := by
  simp [Block.follow, h]

theorem Block.follow_low_of_inactive (h : (b.discOf c).active = false) (hfree : lookup b.fast.hold c = none) :
    b.follow c 0 = b.setDisc c ⟨true, none, false⟩ := by
  simp [Block.follow, h, hfree]

theorem Block.follow_high_of_noPend (h : (b.discOf c).pend = none) : b.follow c 1 = b := by
  simp [Block.follow, h]

theorem Block.follow_back : b.follow c 2 = b.setDisc c ⟨false, none, false⟩ := rfl

end

/-! ### TDC_EDGE at a fast channel, and the end of hold-off -/

section

variable {b : Block} {c : Nat} (hc : c < 960) (ev k : Nat)
include hc

/-- A discriminator that does not work takes no edge (R138). -/
theorem tdcEdge_of_off (h : b.discOn c = false) : tdcEdge c ev k b = b := by
  rw [tdcEdge, if_pos hc, whenDue_of_notDue h]

theorem tdcEdge_of_settling (hon : b.discOn c = true) (hsettle : lookup b.fast.settle c ≠ none) :
    tdcEdge c ev k b = b.follow c ev := by
  have hlive : b.discLive c = false := by simp [Block.discLive, Option.isSome_iff_ne_none, hsettle]
  rw [tdcEdge, if_pos hc, whenDue_of_due hon]
  simp [hlive]

theorem tdcEdge_of_live (h : b.discLive c = true) :
    tdcEdge c ev k b = if ev = 0 then b.crossLow c k else if ev = 1 then b.crossHigh c else b.crossBack c k := by
  have hon : b.discOn c = true := (Bool.and_eq_true _ _ ▸ h : _ ∧ _).1
  rw [tdcEdge, if_pos hc, whenDue_of_due hon]
  simp [h]

/-- TDC_EDGE at a fast channel leaves the hardware as `tdcEdge` does. -/
theorem exec_fastEdge {ev k : Nat} (hev : ev < 3) (hk : k < 256) (s : State) {d : Block} (h : tdcEdge c ev k s.hw = d) :
    exec (.tdcEdge c ev k) s = .next { s with hw := d } := by
  rw [exec_tdcEdge _ _ _ _ (by simp [Instr.wf, hc, hev, hk]), h]

end

section

variable {b : Block} {c e : Nat} (h : lookup b.fast.hold c = some e)
include h

theorem discHoldoffEnd_of_passed (he : e ≤ b.tick) :
    discHoldoffEnd c b = { b with fast := { b.fast with hold := eraseKey b.fast.hold c } } := by
  unfold discHoldoffEnd
  exact whenDue_of_due (by simp [h, he]) _ _

theorem discHoldoffEnd_of_running (he : b.tick < e) : discHoldoffEnd c b = b := by
  unfold discHoldoffEnd
  exact whenDue_of_notDue (by simp [h, he]) _ _

end

end Sys2Proof.Machine

namespace Sys2Proof.Proofs

open Sys2Proof Sys2Proof.Machine

/-- Settles O32: each edge by whether its discriminator works, settles or is live, and then by its crossing's lemma. -/
theorem discriminatorHits : Obligations.DiscriminatorHits := by
  intro c k s hc hk
  dsimp only
  have run {ev : Nat} (hev : ev < 3) {d : Block} := @exec_fastEdge c hc ev k hev hk s d
  refine ⟨fun hoff ev hev => run hev (tdcEdge_of_off hc ev k hoff), fun hon hsettle => ?settling, fun hlive hcal => ?live,
    fun e hhold => ?holdoff⟩
  case settling =>
    have edge (ev : Nat) := tdcEdge_of_settling hc ev k hon hsettle
    exact ⟨fun h => run (by decide) ((edge 0).trans (Block.follow_low_of_active h)),
      fun h hfree => run (by decide) ((edge 0).trans (Block.follow_low_of_inactive h hfree)),
      fun h => run (by decide) ((edge 1).trans (Block.follow_high_of_noPend h)),
      run (by decide) ((edge 2).trans Block.follow_back)⟩
  case live =>
    have low {d : Block} (h : s.hw.crossLow c k = d) := run (by decide) ((tdcEdge_of_live hc 0 k hlive).trans h)
    have high {d : Block} (h : s.hw.crossHigh c = d) := run (by decide) ((tdcEdge_of_live hc 1 k hlive).trans h)
    have back {d : Block} (h : s.hw.crossBack c k = d) := run (by decide) ((tdcEdge_of_live hc 2 k hlive).trans h)
    refine ⟨fun h hfree hdual => ?hit, fun h => low (Block.crossLow_of_active k h),
      fun h hheld => low (Block.crossLow_of_held k h hheld), fun h hfree hdual => low (Block.crossLow_of_dual k h hfree hdual),
      fun y h hdead hroom => high ((Block.crossHigh_of_pend h).trans (Block.passHit_of_room hcal hc hdead hroom)),
      fun h => high (Block.crossHigh_of_noPend h),
      fun h => back (Block.crossBack_of_noTrail k h),
      fun h hdead hroom => back (Block.crossBack_of_room k hc hcal h hdead hroom)⟩
    case hit =>
      have pass := Block.crossLow_of_single k h hfree hdual
      exact ⟨fun hdead hroom => low (pass.trans (Block.passHit_of_room hcal hc hdead hroom)),
        fun hdead => low (pass.trans (Block.passHit_of_dead hcal hc hdead)),
        fun hdead hfull => low (pass.trans (Block.passHit_of_full hcal hc hdead hfull))⟩
  case holdoff =>
    rw [exec_discHoldoffEnd _ _ (decide_eq_true hc)]
    exact ⟨fun h => by rw [discHoldoffEnd_of_passed hhold h], fun h => by rw [discHoldoffEnd_of_running hhold h]⟩

end Sys2Proof.Proofs

/-! SUPPORT. Writes of a precision channel's input, excitation, drive and fault registers: each is its register's operation, which refuses or
accepts the word by what the channel is set to. -/

namespace Sys2Proof.Machine

open Sys2Proof

/-- A write of one word that acts at once, of a register that is no part of a wide value, is its operation and the answer. -/
theorem submit_of_plainOp {b : Block} {a : Access} {addr w : Nat} {f : Nat → Block → Block × Status} (hop : regOp a.who addr = plainOp f)
    (hacts : b.acts a addr w = true) : submit a (.write addr [w]) b = b.answered a addr w (f w (b.touched addr)) := by
  rw [submit_of_acts hacts, hop, plainOp]

/-! ### The registers of a channel (R173) -/

/-- Where the registers of a precision channel begin. -/
abbrev pchBase (n : Nat) : Nat := 0x220000 + 0x40000 * (n / 16) + 0x100 * (n % 16)

theorem pchAddr_eq (n : Nat) : pchAddr n = pchBase n := by
  simp only [pchAddr, pchBase]
  omega

theorem pchFault_addr_eq (n : Nat) : (F.PCH_FAULT_CM_INP n).addr = pchBase n + 0x18 := by
  simp only [pchBase]
  omega

theorem regOp_pchIn (who : Requester) {n : Nat} (hn : n < 64) : regOp who (pchBase n) = plainOp (pchInOp n) :=
  regOp_pch who hn (x := 0) (by decide)

theorem regOp_pchExc (who : Requester) {n : Nat} (hn : n < 64) : regOp who (pchBase n + 8) = plainOp (pchExcOp n) :=
  regOp_pch who hn (by decide)

theorem regOp_pchFault (who : Requester) {n : Nat} (hn : n < 64) : regOp who (pchBase n + 0x18) = plainOp (pchFaultOp n) :=
  regOp_pch who hn (by decide)

theorem regOp_pchDrv (who : Requester) {n : Nat} (hn : n < 64) : regOp who (pchBase n + 0x20) = plainOp (pchDrvOp n) :=
  regOp_pch who hn (by decide)

section

variable {a : Access} {n : Nat} {w : Word} {s : State} (hwf : a.wf = true) (hn : n < 64)
include hwf hn

theorem exec_pchInWrite (hacts : s.hw.acts a (pchBase n) w.toNat = true) :
    exec (.pchCfgWrite a n 0 w) s =
      .next { s with hw := s.hw.answered a (pchBase n) w.toNat (pchInOp n w.toNat (s.hw.touched (pchBase n))) } := by
  rw [exec_pchCfgWrite _ _ _ _ _ (by simp [Instr.wf, hwf, hn]), ← submit_of_plainOp (regOp_pchIn _ hn) hacts]
  rfl

theorem exec_pchExcWrite (hacts : s.hw.acts a (pchBase n + 8) w.toNat = true) :
    exec (.pchCfgWrite a n 1 w) s =
      .next { s with hw := s.hw.answered a (pchBase n + 8) w.toNat (pchExcOp n w.toNat (s.hw.touched (pchBase n + 8))) } := by
  rw [exec_pchCfgWrite _ _ _ _ _ (by simp [Instr.wf, hwf, hn]), ← submit_of_plainOp (regOp_pchExc _ hn) hacts]
  rfl

theorem exec_pchDrvWrite (hacts : s.hw.acts a (pchBase n + 0x20) w.toNat = true) :
    exec (.pchCfgWrite a n 2 w) s =
      .next { s with hw := s.hw.answered a (pchBase n + 0x20) w.toNat (pchDrvOp n w.toNat (s.hw.touched (pchBase n + 0x20))) } := by
  rw [exec_pchCfgWrite _ _ _ _ _ (by simp [Instr.wf, hwf, hn]), ← submit_of_plainOp (regOp_pchDrv _ hn) hacts]
  rfl

theorem exec_pchFaultWrite (hacts : s.hw.acts a (pchBase n + 0x18) w.toNat = true) :
    exec (.faultClearWrite a n w) s =
      .next { s with hw := s.hw.answered a (pchBase n + 0x18) w.toNat (pchFaultOp n w.toNat (s.hw.touched (pchBase n + 0x18))) } := by
  rw [exec_faultClearWrite _ _ _ _ (by simp [Instr.wf, hwf, hn]), ← submit_of_plainOp (regOp_pchFault _ hn) hacts]
  rfl

end

/-! ### PCH_IN (R163, R165, R171) -/

section

variable {n w : Nat} {b : Block}

theorem pchInOp_of_drive (hdiff : 2 ≤ w % 4) (hdrive : b.get (F.PCH_EXC_EXC_MODE n) = 3) :
    pchInOp n w b = (b.bump (F.PCH_REFUSE_CNT n), .busyResource) := by
  simp [pchInOp, hdiff, hdrive, Block.pchRefuse]

theorem pchInOp_of_accepted (h : w % 4 < 2 ∨ b.get (F.PCH_EXC_EXC_MODE n) ≠ 3) :
    pchInOp n w b =
      (let b1 := b.writeFields (pchBase n) w
       let b2 := if b1.get (F.PCH_IN_INPUT_MODE n) = b.get (F.PCH_IN_INPUT_MODE n) then b1 else b1.settleFull n
       (((b2.applyRange n (!b.flag (F.PCH_IN_RANGE_AUTO n))).lookPrec n).settlePower, .ok)) := by
  have hopen : ¬ (decide (2 ≤ w % 4) && b.get (F.PCH_EXC_EXC_MODE n) == 3) = true := by
    simp only [Bool.and_eq_true, decide_eq_true_eq, beq_iff_eq]
    omega
  rw [pchInOp, if_neg hopen, pchAddr_eq]

/-! ### PCH_EXC (R149, R152, R156, R165, R171) -/

/-- What a write of PCH_EXC is refused for: DRIVE against a differential or ratiometric input, leaving DRIVE under a loop, 4 W (R171). -/
def Block.refusesExc (b : Block) (n w : Nat) : Prop :=
  (bitsOf w 31 30 = 3 ∧ 2 ≤ b.get (F.PCH_IN_INPUT_MODE n)) ∨ (bitsOf w 31 30 ≠ 3 ∧ b.flag (F.PCH_DRV_OWNER_VALID n) = true) ∨
    4000000 < b.sumWith n (excPower (bitsOf w 31 30) (bitsOf w 12 0) (bitsOf w 20 16) (b.get (F.PCH_DRV_DRV_ILIM n)))

/-- The word of an accepted write of PCH_EXC in its fields, with the settling that another mode or voltage starts (R165). -/
def Block.excWritten (b : Block) (n w : Nat) : Block :=
  let b1 := b.writeFields (pchBase n + 8) w
  if bitsOf w 31 30 = b.get (F.PCH_EXC_EXC_MODE n) ∧ b1.excV n = b.excV n then b1 else b1.settleFull n

theorem pchExcOp_of_refused (h : b.refusesExc n w) : pchExcOp n w b = (b.bump (F.PCH_REFUSE_CNT n), .busyResource) := by
  rw [pchExcOp]
  exact if_pos (by simpa [Block.refusesExc, or_assoc] using h)

theorem pchExcOp_of_accepted (h : ¬ b.refusesExc n w) :
    pchExcOp n w b =
      (let b2 := b.excWritten n w
       let b3 := if bitsOf w 31 30 = b.get (F.PCH_EXC_EXC_MODE n) then b2
         else ((b2.put (F.PCH_DRV_DRV_VALUE n) 0).put (F.PCH_STAT_POL n) 0).setPch n { b2.pch n with rev := 0 }
       ((b3.lookPrec n).settlePower, .ok)) := by
  rw [pchExcOp, if_neg (by simpa [Block.refusesExc, or_assoc] using h), pchAddr_eq]
  simp only [Block.excWritten, Bool.and_eq_true, decide_eq_true_eq]

/-! ### PCH_DRV (R156, R171) -/

/-- The accounted power of a channel with the drive's limit of a word (R153). -/
def Block.drvPower (b : Block) (n w : Nat) : Nat :=
  excPower (b.get (F.PCH_EXC_EXC_MODE n)) (b.get (F.PCH_EXC_EXC_V n)) (b.get (F.PCH_EXC_ILIM n)) (bitsOf w 24 20)

theorem pchDrvOp_of_refused (h : 4000000 < b.sumWith n (b.drvPower n w)) : pchDrvOp n w b = (b.bump (F.PCH_REFUSE_CNT n), .busyResource) :=
  if_pos h

theorem pchDrvOp_of_accepted (h : b.sumWith n (b.drvPower n w) ≤ 4000000) : pchDrvOp n w b = (b.writeFields (pchBase n + 0x20) w, .ok) := by
  rw [← pchAddr_eq]
  exact if_neg (Nat.not_lt.2 h)

/-! ### PCH_FAULT (R165, R169, R170) -/

theorem Block.leaveFault_of_last {before : Nat} (hbefore : before ≠ 0) (hclear : b.faultBits n = 0) :
    Block.leaveFault before b n = ((b.put (F.PCH_STAT_SENSE_LOCAL n) 0).settleFull n).setLevel n false 0 := by
  simp [Block.leaveFault, hbefore, hclear]

theorem Block.leaveFault_of_not {before : Nat} (h : before = 0 ∨ b.faultBits n ≠ 0) : Block.leaveFault before b n = b := by
  rcases h with h | h <;> simp [Block.leaveFault, h]

theorem pchFaultOp_eq : pchFaultOp n w b = (Block.leaveFault (b.faultBits n) (b.writeFields (pchBase n + 0x18) w) n, .ok) := by
  rw [pchFaultOp, pchFault_addr_eq]

end

end Sys2Proof.Machine

namespace Sys2Proof.Proofs

open Sys2Proof Sys2Proof.Machine

/-- Settles O36: each write is its register's operation, refused or accepted as its lemma says. -/
theorem frontEndWrites : Obligations.FrontEndWrites := by
  intro a n w s hwf hn base v
  refine ⟨fun hacts => ⟨fun hdiff hdrive => ?inRefused, fun hopen => ?inAccepted⟩,
    fun hacts => ⟨fun hbad => ?excRefused, fun hgood hsame => ?excSame, fun hgood hother => ?excOther⟩,
    fun hacts => ⟨fun hover => ?drvRefused, fun hfits => ?drvAccepted⟩,
    fun hacts => ⟨fun hbefore hclear => ?lastCause, fun hstays => ?faultStays⟩⟩
  case inRefused => rw [exec_pchInWrite hwf hn hacts, pchInOp_of_drive hdiff hdrive]
  case inAccepted => rw [exec_pchInWrite hwf hn hacts, pchInOp_of_accepted hopen]
  case excRefused => rw [exec_pchExcWrite hwf hn hacts, pchExcOp_of_refused hbad]
  case excSame =>
    rw [exec_pchExcWrite hwf hn hacts, pchExcOp_of_accepted hgood]
    dsimp only
    rw [if_pos hsame]
    rfl
  case excOther =>
    rw [exec_pchExcWrite hwf hn hacts, pchExcOp_of_accepted hgood]
    dsimp only
    rw [if_neg hother]
    rfl
  case drvRefused => rw [exec_pchDrvWrite hwf hn hacts, pchDrvOp_of_refused hover]
  case drvAccepted => rw [exec_pchDrvWrite hwf hn hacts, pchDrvOp_of_accepted hfits]
  case lastCause => rw [exec_pchFaultWrite hwf hn hacts, pchFaultOp_eq, Block.leaveFault_of_last hbefore hclear]
  case faultStays => rw [exec_pchFaultWrite hwf hn hacts, pchFaultOp_eq, Block.leaveFault_of_not hstays]

end Sys2Proof.Proofs

/-! SUPPORT. Faults of a precision channel: what the assertion of a cause leaves, when the last cause clears, and the events of excitation and drive
limits (R151, R158, R168 to R170). -/

namespace Sys2Proof.Machine

open Sys2Proof

section

variable {b : Block} {n c : Nat}

/-! ### An asserted cause (R169) -/

/-- A cause set and counted, and the next sample marked. -/
def Block.faultMarked (b : Block) (n c : Nat) : Block :=
  let b1 := (b.put (faultField n c) 1).bump (F.PCH_FAULT_CNT n)
  b1.setPch n { b1.pch n with faultSeen := true }

/-- PCH_FAULT's level raised with the causes; the loops that take the channel in SAFE. -/
def Block.faultRaised (b : Block) (n : Nat) : Block := ((b.setLevel n true (b.faultPayload n)).tripTakers n 3).wakeCore

theorem faultField_key_ne_senseLocal (n c : Nat) : (F.PCH_STAT_SENSE_LOCAL n).key ≠ (faultField n c).key := by
  unfold faultField
  split <;> simp only [Field.key] <;> omega

theorem faultCnt_key_ne_senseLocal (n : Nat) : (F.PCH_STAT_SENSE_LOCAL n).key ≠ (F.PCH_FAULT_CNT n).key := by
  simp only [Field.key]
  omega

theorem Block.flag_senseLocal_faultMarked (b : Block) (n c : Nat) :
    (b.faultMarked n c).flag (F.PCH_STAT_SENSE_LOCAL n) = b.flag (F.PCH_STAT_SENSE_LOCAL n) := by
  have hregs : (b.faultMarked n c).regs = ((b.put (faultField n c) 1).bump (F.PCH_FAULT_CNT n)).regs := rfl
  rw [Block.flag, Block.get_of_regs hregs, Block.get_bump_other (faultCnt_key_ne_senseLocal n),
    Block.get_put_other _ _ _ _ (faultField_key_ne_senseLocal n c), Block.flag]

/-- A cause that is no sense pin's, or that finds sensing local: it is marked and raised. -/
theorem Block.assertFault_of_sensing (h : c < 2 ∨ 4 ≤ c ∨ b.flag (F.PCH_STAT_SENSE_LOCAL n) = true) :
    b.assertFault n c = (b.faultMarked n c).faultRaised n := by
  have hkeeps : ¬ ((decide (c = 2) || decide (c = 3)) && !(b.faultMarked n c).flag (F.PCH_STAT_SENSE_LOCAL n)) = true := by
    rw [Block.flag_senseLocal_faultMarked]
    rcases h with h | h | h
    · simp; omega
    · simp; omega
    · simp [h]
  exact congrArg (Block.faultRaised · n) (if_neg hkeeps)

/-- A sense pin's cause makes sensing local, and the channel settles (R168). -/
theorem Block.assertFault_of_sensePin (hlo : 2 ≤ c) (hhi : c < 4) (hremote : b.flag (F.PCH_STAT_SENSE_LOCAL n) = false) :
    b.assertFault n c = (((b.faultMarked n c).put (F.PCH_STAT_SENSE_LOCAL n) 1).settleFull n).faultRaised n := by
  have hlocal : ((decide (c = 2) || decide (c = 3)) && !(b.faultMarked n c).flag (F.PCH_STAT_SENSE_LOCAL n)) = true := by
    rw [Block.flag_senseLocal_faultMarked, hremote]
    simp
    omega
  exact congrArg (Block.faultRaised · n) (if_pos hlocal)

theorem faultAssert_of_due (hon : b.tileOn (n / 16) = true) (hpin : b.monitored n c = true) (hnew : b.flag (faultField n c) = false) :
    faultAssert n c b = b.assertFault n c :=
  whenDue_of_due (by simp [hon, hpin, hnew]) _ _

theorem faultAssert_of_not (h : b.tileOn (n / 16) = false ∨ b.monitored n c = false ∨ b.flag (faultField n c) = true) :
    faultAssert n c b = b :=
  whenDue_of_notDue (by rcases h with h | h | h <;> simp [h]) _ _

/-! ### Limits of excitation and drive (R151, R158) -/

theorem excLimitAssert_of_due (hon : b.excOn n = true) (hmode : b.get (F.PCH_EXC_EXC_MODE n) ≠ 3)
    (hnew : b.flag (F.PCH_FAULT_EXC_LIMIT n) = false) : excLimitAssert n b = b.assertFault n 4 :=
  whenDue_of_due (by simp [hon, hmode, hnew]) _ _

theorem excLimitAssert_of_off (hoff : b.excOn n = false) : excLimitAssert n b = b :=
  whenDue_of_notDue (by simp [hoff]) _ _

theorem drvLimitAssert_of_due (hon : b.excOn n = true) (hmode : b.get (F.PCH_EXC_EXC_MODE n) = 3) :
    drvLimitAssert n b = (b.put (F.PCH_FAULT_DRV_LIMIT n) 1).raise (64 + n) (b.get (F.PCH_DRV_DRV_VALUE n)) :=
  whenDue_of_due (by simp [hon, hmode]) _ _

theorem drvLimitAssert_of_off (hoff : b.excOn n = false) : drvLimitAssert n b = b :=
  whenDue_of_notDue (by simp [hoff]) _ _

/-! ### A cause that clears by itself (R170) -/

theorem Block.faultBits_ne_zero (h : b.flag (faultField n c) = true) : b.faultBits n ≠ 0 := by
  have hset : b.get (faultField n c) ≠ 0 := by simpa [Block.flag] using h
  unfold faultField at hset
  unfold Block.faultBits
  split at hset <;> omega

theorem faultAutoClear_of_due (hon : b.tileOn (n / 16) = true) (hauto : b.flag (F.PCH_FAULT_FAULT_MODE n) = true)
    (hset : b.flag (faultField n c) = true) :
    faultAutoClear n c b = Block.leaveFault (b.faultBits n) (b.put (faultField n c) 0) n :=
  whenDue_of_due (by simp [hon, hauto, hset]) _ _

theorem faultAutoClear_of_latch (hlatch : b.flag (F.PCH_FAULT_FAULT_MODE n) = false) : faultAutoClear n c b = b :=
  whenDue_of_notDue (by simp [hlatch]) _ _

end

end Sys2Proof.Machine

namespace Sys2Proof.Proofs

open Sys2Proof Sys2Proof.Machine

/-- Settles O37: each event by whether it is due, an asserted cause by its pin, a cause that clears by what stays. -/
theorem faultsAndLimits : Obligations.FaultsAndLimits := by
  intro n c s hn hc b faulted done
  have hassert := exec_faultAssert n c s (by simp [Instr.wf, hn, hc])
  have hexc := exec_excLimitAssert n s (by simp [Instr.wf, hn])
  have hdrv := exec_drvLimitAssert n s (by simp [Instr.wf, hn])
  refine ⟨fun hon hpin hnew => ⟨fun hsensing => ?pin, fun hsense hremote => ?sensePin⟩, fun hnot => ?notDue,
    fun hon hmode hnew => ?excLimit, fun hoff => ⟨?excOff, ?drvOff⟩, fun hon hmode => ?drvLimit, fun k hk hon hset => ?clear⟩
  case pin => rw [hassert, faultAssert_of_due hon hpin hnew, Block.assertFault_of_sensing (hsensing.imp_right .inr)]; rfl
  case sensePin => rw [hassert, faultAssert_of_due hon hpin hnew, Block.assertFault_of_sensePin hsense hc hremote]; rfl
  case notDue => rw [hassert, faultAssert_of_not hnot]
  case excLimit => rw [hexc, excLimitAssert_of_due hon hmode hnew, Block.assertFault_of_sensing (.inr (.inl (by decide)))]; rfl
  case excOff => rw [hexc, excLimitAssert_of_off hoff]
  case drvOff => rw [hdrv, drvLimitAssert_of_off hoff]
  case drvLimit => rw [hdrv, drvLimitAssert_of_due hon hmode]
  case clear =>
    have hclear := exec_faultAutoClear n k s (by simp [Instr.wf, hn, hk])
    refine ⟨fun hlatch => by rw [hclear, faultAutoClear_of_latch hlatch], fun hauto => ⟨fun hstays => ?_, fun hlast => ?_⟩⟩
    · rw [hclear, faultAutoClear_of_due hon hauto hset, Block.leaveFault_of_not (.inr hstays)]
    · rw [hclear, faultAutoClear_of_due hon hauto hset, Block.leaveFault_of_last (Block.faultBits_ne_zero hset) hlast]

end Sys2Proof.Proofs

/-! SUPPORT. The timed events of a precision channel: reversal, duty, the ends of settling and of a reference's wait, a new rate in force (R152, R154,
R165, R184, R187). -/

namespace Sys2Proof.Machine

open Sys2Proof

section

variable {b : Block} {n : Nat}

/-! ### A channel's state -/

@[simp] theorem Block.pch_setPch_same (b : Block) (n : Nat) (x : PrecCh) : (b.setPch n x).pch n = x := by
  simp [Block.pch, Block.setPch]

theorem Block.pch_setPch_other {m n : Nat} (h : m ≠ n) (b : Block) (x : PrecCh) : (b.setPch n x).pch m = b.pch m := by
  simp [Block.pch, Block.setPch, lookupD_insertKey_other _ _ _ _ _ h]

/-! ### Reversal and duty (R152, R154) -/

theorem excReversal_of_due (hon : b.tileOn (n / 16) = true) (hmode : b.get (F.PCH_EXC_EXC_MODE n) = 2) (hdue : b.revHalf n ≤ (b.pch n).rev) :
    excReversal n b =
      (let b1 := b.putB (F.PCH_STAT_POL n) (!b.flag (F.PCH_STAT_POL n))
       (b1.setPch n { b1.pch n with rev := 0 }).settleFull n) :=
  whenDue_of_due (by simp [hon, hmode, hdue]) _ _

theorem excReversal_of_not (h : b.get (F.PCH_EXC_EXC_MODE n) ≠ 2 ∨ (b.pch n).rev < b.revHalf n) : excReversal n b = b :=
  whenDue_of_notDue (by rcases h with h | h <;> simp [h]) _ _

theorem excDutyOn_of_due (hon : b.tileOn (n / 16) = true) (hgrant : b.get (F.PCH_DUTY_DUTY_GRANT n) ≠ 256)
    (hdue : (b.pch n).dutyStart + b.dutyPeriod n ≤ b.tick) :
    excDutyOn n b =
      (b.setPch n { b.pch n with dutyStart := (b.pch n).dutyStart + b.dutyPeriod n, dutyOn := b.flag (F.PCH_DUTY_DUTY_GRANT n) }).lookPrec n := by
  unfold excDutyOn
  exact whenDue_of_due (by simp [hon, hgrant, hdue]) _ _

theorem excDutyOn_of_full (hgrant : b.get (F.PCH_DUTY_DUTY_GRANT n) = 256) : excDutyOn n b = b := by
  unfold excDutyOn
  exact whenDue_of_notDue (by simp [hgrant]) _ _

theorem excDutyOff_of_due (hon : b.tileOn (n / 16) = true) (hgrant : b.get (F.PCH_DUTY_DUTY_GRANT n) ≠ 256) (hrun : (b.pch n).dutyOn = true)
    (hdue : (b.pch n).dutyStart * 256 + b.dutyPeriod n * b.get (F.PCH_DUTY_DUTY_GRANT n) ≤ b.tick * 256) :
    excDutyOff n b = (b.setPch n { b.pch n with dutyOn := false }).lookPrec n := by
  unfold excDutyOff
  exact whenDue_of_due (by simp [hon, hgrant, hrun, hdue]) _ _

theorem excDutyOff_of_full (hgrant : b.get (F.PCH_DUTY_DUTY_GRANT n) = 256) : excDutyOff n b = b := by
  unfold excDutyOff
  exact whenDue_of_notDue (by simp [hgrant]) _ _

theorem Block.flag_eq_decide (b : Block) (f : Field) : b.flag f = decide (b.get f ≠ 0) := by
  simp [Block.flag, bne, beq_eq_decide]

/-! ### The end of settling (R165) -/

theorem precSettleEnd_of_zero (h : (b.pch n).settle = some 0) : precSettleEnd n b = b.setPch n { b.pch n with settle := none } := by
  unfold precSettleEnd
  exact whenDue_of_due (by simp [h]) _ _

theorem precSettleEnd_of_not (h : (b.pch n).settle ≠ some 0) : precSettleEnd n b = b := by
  unfold precSettleEnd
  exact whenDue_of_notDue (by simp [h]) _ _

/-! ### The reference (R187) -/

section

variable {t : Nat} (hwait : (b.pch n).refWait = some t)
include hwait

theorem refSettled_of_waited (hon : b.tileOn (n / 16) = true) (hdue : t ≤ b.tick) :
    refSettled n false b = b.setPch n { b.pch n with refWait := none } := by
  simp [refSettled, hon, hwait, hdue]

theorem refSettled_of_waiting (hearly : b.tick < t) : refSettled n false b = b := by
  simp [refSettled, hwait, Nat.not_le.2 hearly]

end

/-- The internal reference of a channel counts as settled. -/
def Block.refSettle (b : Block) (m : Nat) : Block := b.setPch m { b.pch m with refUp := false }

/-- The channels of a list settled in turn: each of them has its reference, every other channel and all else stands. -/
theorem Block.foldl_refSettle (l : List Nat) (b : Block) :
    let d := l.foldl Block.refSettle b
    (d.regs = b.regs ∧ d.dram = b.dram) ∧ ∀ m, d.pch m = if m ∈ l then { b.pch m with refUp := false } else b.pch m := by
  induction l generalizing b with
  | nil => simp
  | cons k l ih =>
    obtain ⟨⟨hregs, hdram⟩, hpch⟩ := ih (b.refSettle k)
    refine ⟨⟨hregs, hdram⟩, fun m => ?_⟩
    rw [List.foldl_cons, hpch]
    by_cases hk : m = k
    · subst hk
      simp [Block.refSettle]
    · simp [Block.refSettle, Block.pch_setPch_other hk, hk]

/-- The channels of a channel's tile. -/
def tileChans (n : Nat) : List Nat := (List.range 16).map (n / 16 * 16 + ·)

theorem mem_tileChans {m n : Nat} : m ∈ tileChans n ↔ m / 16 = n / 16 := by
  simp only [tileChans, List.mem_map, List.mem_range]
  constructor
  · rintro ⟨i, hi, rfl⟩
    omega
  · intro h
    exact ⟨m % 16, by omega, by omega⟩

theorem refSettled_internal (hon : b.tileOn (n / 16) = true) : refSettled n true b = (tileChans n).foldl Block.refSettle b := by
  rw [tileChans, List.foldl_map, refSettled, hon]
  rfl

/-! ### A new rate or filter (R184, R192) -/

theorem pcvCfgInForce_of_due {t k : Nat} (hon : b.tileOn (n / 16) = true) (hwrote : (b.pch n).cfgTick = some t)
    (hgrid : b.blockAt (b.get (F.PCV_CFG_ODR n)) = some k) (hdue : t + 2500 ≤ b.tick) :
    pcvCfgInForce n b =
      (let b1 := b.closePage n
       (b1.setPch n { b1.pch n with
         odr := b.get (F.PCV_CFG_ODR n), filter := b.get (F.PCV_CFG_FILTER n), cfgTick := none, block := k }).settleFull n) := by
  simp only [pcvCfgInForce, hgrid]
  exact whenDue_of_due (by simp [hon, hwrote, hdue]) _ _

theorem pcvCfgInForce_of_early {t : Nat} (hwrote : (b.pch n).cfgTick = some t) (hearly : b.tick < t + 2500) : pcvCfgInForce n b = b := by
  unfold pcvCfgInForce
  split
  · rfl
  · exact whenDue_of_notDue (by simp [hwrote, hearly]) _ _

end

end Sys2Proof.Machine

namespace Sys2Proof.Proofs

open Sys2Proof Sys2Proof.Machine

/-- Settles O38: each event by whether it is due; the tile's reference by its sixteen channels in turn. -/
theorem excitationAndSettling : Obligations.ExcitationAndSettling := by
  intro n s hn b c g
  have hrev := exec_excReversal n s (decide_eq_true hn)
  have hdutyOn := exec_excDutyOn n s (decide_eq_true hn)
  have hdutyOff := exec_excDutyOff n s (decide_eq_true hn)
  have href := exec_refSettled n false s (decide_eq_true hn)
  have hcfg := exec_pcvCfgInForce n s (decide_eq_true hn)
  have hsettle := exec_precSettleEnd n s (decide_eq_true hn)
  refine ⟨fun hon => ⟨fun hmode hdue => ?reversal, fun hnot => ?noReversal, fun hgrant hdue => ?dutyOn, fun hgrant hrun hdue => ?dutyOff,
    fun hgrant => ⟨?fullOn, ?fullOff⟩, fun t hwait => ⟨fun hdue => ?waited, fun hearly => ?waiting⟩, ?internal,
    fun t k hwrote hgrid => ⟨fun hdue => ?inForce, fun hearly => ?notYet⟩⟩, fun hzero => ?settled, fun hzero => ?settling⟩
  case reversal => rw [hrev, excReversal_of_due hon hmode hdue]
  case noReversal => rw [hrev, excReversal_of_not hnot]
  case dutyOn => rw [hdutyOn, excDutyOn_of_due hon hgrant hdue, Block.flag_eq_decide]
  case dutyOff => rw [hdutyOff, excDutyOff_of_due hon hgrant hrun hdue]
  case fullOn => rw [hdutyOn, excDutyOn_of_full hgrant]
  case fullOff => rw [hdutyOff, excDutyOff_of_full hgrant]
  case waited => rw [href, refSettled_of_waited hwait hon hdue]
  case waiting => rw [href, refSettled_of_waiting hwait hearly]
  case internal =>
    obtain ⟨⟨hregs, hdram⟩, hpch⟩ := b.foldl_refSettle (tileChans n)
    refine ⟨_, exec_refSettled n true s (decide_eq_true hn), ?_⟩
    rw [refSettled_internal hon]
    exact ⟨hregs, hdram, rfl, fun m _ => by simpa only [mem_tileChans] using hpch m⟩
  case inForce => rw [hcfg, pcvCfgInForce_of_due hon hwrote hgrid hdue]
  case notYet => rw [hcfg, pcvCfgInForce_of_early hwrote hearly]
  case settled => rw [hsettle, precSettleEnd_of_zero hzero]
  case settling => rw [hsettle, precSettleEnd_of_not hzero]

end Sys2Proof.Proofs

/-! SUPPORT. Beaver's slot commands: a write of BVR_s_CMD is its command, and what START, SWITCH, INJ_GO and a bank's word do in each case (R431,
R434, R435, R440). -/

namespace Sys2Proof.Machine

open Sys2Proof

/-! ### Writes of a slot's command and of a bank's word -/

/-- Where a slot's command register stands. -/
abbrev slotCmdAddr (t slot : Nat) : Nat := 0x230100 + 0x40000 * t + 0x80 * slot

/-- A command that is a write of BVR_s_CMD which acts at once ends as the slot's command of its word leaves the block. -/
theorem exec_slotCommand {c : Instr} {a : Access} {t slot w : Nat} {s : State} {r : Block × Status} (ht : t < 4) (hslot : slot < 4)
    (hwf : c.wf = true) (hact : act c = submit a (.write (slotCmdAddr t slot) [w])) (hacts : s.hw.acts a (slotCmdAddr t slot) w = true)
    (hop : bvrCmdOp t slot w (s.hw.touched (slotCmdAddr t slot)) = r) :
    exec c s = .next { s with hw := s.hw.answered a (slotCmdAddr t slot) w r } := by
  rw [exec_of_wf hwf, hact, submit_of_plainOp (f := fun w b => bvrCmdOp t slot w b) (regOp_bvrCmd _ ht hslot) hacts, hop]

/-- Where a word of a bank stands. -/
abbrev bankWordAddr (t slot k i : Nat) : Nat := 0x231000 + 0x40000 * t + 0x1000 * slot + 0x800 * k + 4 * i

section

variable {t slot k : Nat} {b : Block}

theorem bankOp_of_active (addr w : Nat) (hstate : b.slotState t slot ≠ 0) (hbank : k = b.bankOf t slot) :
    bankOp t slot k addr none w b = (b.bump (F.BVR_S_REFUSE_CNT t slot), .busyResource) := by
  simp [bankOp, hstate, hbank]

theorem bankOp_of_stopped (addr w : Nat) (hstate : b.slotState t slot = 0) :
    bankOp t slot k addr none w b = (b.writeFields addr w, .ok) := by
  simp [bankOp, hstate, fieldsOp]

/-! ### START (R157, R431) -/

theorem bvrCmdOp_start (hk : k < 2) : bvrCmdOp t slot (1 + 0x100 * k) b = bvrStartOp t slot k b := by
  interval_cases k <;> rfl

theorem bvrStartOp_of_runs (hruns : b.slotRuns t slot = true) : bvrStartOp t slot k b = b.loopRefuse t slot :=
  if_pos hruns

theorem bvrStartOp_of_invalid (hstands : b.slotRuns t slot = false) (hvalid : b.bankValid t slot k = false) :
    bvrStartOp t slot k b = b.loopResult t slot 1 := by
  simp [bvrStartOp, hstands, hvalid]

/-- The slot with its ownership of a channel, the bank selected, RUNNING without a cause (R157, R431). -/
def Block.slotStarted (b : Block) (t slot k n : Nat) : Block :=
  let b0 := if b.outChannel t slot (b.bankOf t slot) = some n then b else b.letGo t slot
  let b1 := ((b0.put (F.PCH_DRV_OWNER_VALID n) 1).put (F.PCH_DRV_OWNER n) slot).put (F.BVR_S_STAT_BANK t slot) k
  ((b1.put (F.BVR_S_STAT_STATE t slot) 1).put (F.BVR_S_STAT_SAFE_CAUSE t slot) 0).put (F.BVR_S_STAT_OVR_RUN t slot) 0

/-- A slot that has started with its hand-over pending, and its SAFE level cleared. -/
def Block.handOverPending (b : Block) (t slot k : Nat) : Block :=
  let pace := b.pch (16 * t + b.get (F.BVR_S_CFG_PACE_CH t slot))
  (b.setLoop t slot { b.loop t slot with next := some k, paced := pace.done, loaded := [], fe := 0, start := b.tick }).setLevel
    (128 + 4 * t + slot) false 0

theorem bvrStartOp_of_free {n : Nat} (hstands : b.slotRuns t slot = false) (hvalid : b.bankValid t slot k = true)
    (hout : b.outChannel t slot k = some n) (hdrive : b.get (F.PCH_EXC_EXC_MODE n) = 3)
    (hfree : b.flag (F.PCH_DRV_OWNER_VALID n) = false ∨ b.get (F.PCH_DRV_OWNER n) = slot) (hphase : b.phase ≠ .safeConfig) :
    bvrStartOp t slot k b = ((b.slotStarted t slot k n).handOverPending t slot k).loopResult t slot 0 := by
  have hopen : (b.phase == .safeConfig || b.get (F.PCH_EXC_EXC_MODE n) != 3 ||
      (b.flag (F.PCH_DRV_OWNER_VALID n) && b.get (F.PCH_DRV_OWNER n) != slot)) = false := by
    rcases hfree with h | h <;> simp [hphase, hdrive, h]
  simp only [bvrStartOp, hstands, hvalid, hout, hopen]
  rfl

/-! ### SWITCH (R431, R432) -/

theorem bvrSwitchOp_of_notRunning (hstate : b.slotState t slot ≠ 1) : bvrSwitchOp t slot b = b.loopRefuse t slot :=
  if_pos hstate

theorem bvrSwitchOp_of_valid (hstate : b.slotState t slot = 1) (hvalid : b.bankValid t slot (1 - b.bankOf t slot) = true)
    (hout : b.outChannel t slot (1 - b.bankOf t slot) = b.outChannel t slot (b.bankOf t slot)) :
    bvrSwitchOp t slot b =
      (let b1 := b.genStop t slot
       (b1.setLoop t slot { b1.loop t slot with next := some (1 - b.bankOf t slot) }).loopResult t slot 0) := by
  simp [bvrSwitchOp, hstate, hvalid, hout]

/-! ### The generator and captures (R434, R435) -/

theorem bvrInjGoOp_of_running (hgen : (b.loop t slot).gen ≠ none) : bvrInjGoOp t slot b = b.loopRefuse t slot :=
  if_pos (by simp [Option.isSome_iff_ne_none.2 hgen])

theorem bvrInjGoOp_of_free (hgen : (b.loop t slot).gen = none) (halone : b.flag (F.BVR_S_INJ_CFG_WITH_CAP t slot) = false) :
    bvrInjGoOp t slot b =
      (((b.setLoop t slot { b.loop t slot with gen := some ⟨0, 0, b.get (F.BVR_S_INJ_F0 t slot), 0x7fff⟩ }).put
        (F.BVR_S_STAT_INJ_ON t slot) 1).loopResult t slot 0) := by
  simp [bvrInjGoOp, hgen, halone]

theorem bvrCmdOp_capArm_of_running (hcap : (b.loop t slot).cap.isSome = true) : bvrCmdOp t slot 7 b = b.loopRefuse t slot :=
  if_pos hcap

theorem bvrCmdOp_capArm_of_free (hcap : (b.loop t slot).cap = none) : bvrCmdOp t slot 7 b = (b.capStart t slot).loopResult t slot 0 :=
  if_neg (by simp [hcap])

end

end Sys2Proof.Machine

/-! SUPPORT. STOP of a slot: its generator and its capture end, its channel is let go (R157, R431, R434, R435). -/

namespace Sys2Proof.Machine

open Sys2Proof

theorem Block.touched_dram (b : Block) (addr : Nat) : (b.touched addr).dram = b.dram := by
  unfold Block.touched Block.touchDom
  split
  · split <;> rfl
  · rfl

section

variable {b c : Block} {t slot k n : Nat}

@[simp] theorem Block.loop_setLoop_same (b : Block) (t slot : Nat) (x : LoopSt) : (b.setLoop t slot x).loop t slot = x := by
  simp [Block.loop, Block.setLoop]

/-! ### The OUT channel of a bank -/

/-- The OUT channel is one of the slot's tile. -/
theorem Block.outChannel_div (h : b.outChannel t slot k = some n) : n / 16 = t := by
  obtain ⟨m, hm, rfl⟩ := Option.map_eq_some_iff.1 h
  obtain ⟨o, -, rfl⟩ := Option.map_eq_some_iff.1 hm
  omega

/-- A program that only grows behind its operations keeps its OUT. -/
theorem Block.outChannel_of_longer (hlen : min 64 (b.progLen t slot k) ≤ min 64 (c.progLen t slot k))
    (hword : ∀ i, c.opWord t slot k i = b.opWord t slot k i) (h : b.outChannel t slot k = some n) : c.outChannel t slot k = some n := by
  have hprefix : b.program t slot k <+: c.program t slot k := by
    simp only [Block.program, hword]
    refine List.IsPrefix.map _ ?_
    rw [← Nat.min_eq_left hlen, ← List.take_range]
    exact List.take_prefix _ _
  obtain ⟨m, hm, hn⟩ := Option.map_eq_some_iff.1 h
  obtain ⟨o, ho, harg⟩ := Option.map_eq_some_iff.1 hm
  simp only [Block.outChannel, outPosition, hprefix.find?_eq_some ho, Option.map_some, harg, hn]

/-! ### A capture that ends (R435) -/

/-- The fields that the end of a generator and of a capture change. -/
def quietKeys (t slot : Nat) : List Nat :=
  [(F.BVR_S_STAT_INJ_ON t slot).key, (F.BVR_S_CAP_PTS t slot).key, (F.BVR_S_STAT_CAP_ON t slot).key]

/-- A field of the list may be set. -/
theorem Keeps.put {α : Type} {g : Block → α} {keys : List Nat} {f : Field} {v : Nat} (hg : g (b.put f v) = g b) (hf : f.key ∈ keys) :
    Keeps g keys b (b.put f v) :=
  ⟨hg, fun _ hx => Block.get_put_other _ _ _ _ fun h => hx (h ▸ hf)⟩

/-- The slot's generator stopped and its capture ended. -/
def Block.slotQuieted (b : Block) (t slot : Nat) : Block := (b.genStop t slot).capEnd t slot

theorem Block.genStop_keeps (b : Block) (t slot : Nat) : Keeps Block.dram (quietKeys t slot) b (b.genStop t slot) :=
  (Keeps.of_regs rfl rfl).trans (Keeps.put rfl (by simp [quietKeys]))

theorem Block.capEnd_keeps (b : Block) (t slot : Nat) : Keeps Block.dram (quietKeys t slot) b (b.capEnd t slot) := by
  unfold Block.capEnd
  split
  · exact Keeps.refl
  · have hpoint : Keeps Block.dram (quietKeys t slot) b (b.put (F.BVR_S_CAP_PTS t slot) (satU 17 (b.get (F.BVR_S_CAP_PTS t slot) + 1))) :=
      Keeps.put rfl (by simp [quietKeys])
    exact hpoint.trans ((Keeps.of_regs rfl rfl).trans (Keeps.put rfl (by simp [quietKeys])))

theorem Block.slotQuieted_keeps (b : Block) (t slot : Nat) : Keeps Block.dram (quietKeys t slot) b (b.slotQuieted t slot) :=
  (b.genStop_keeps t slot).trans (Block.capEnd_keeps _ t slot)

/-- A field of neither the generator nor a capture reads as before. -/
theorem Block.get_slotQuieted {f : Field} (h : f.key ≠ (F.BVR_S_STAT_INJ_ON t slot).key ∧ f.key ≠ (F.BVR_S_CAP_PTS t slot).key ∧
    f.key ≠ (F.BVR_S_STAT_CAP_ON t slot).key) (b : Block) : (b.slotQuieted t slot).get f = b.get f :=
  (b.slotQuieted_keeps t slot).2 f (by simpa [quietKeys] using h)

theorem Block.loop_capEnd (b : Block) (t slot : Nat) : (b.capEnd t slot).loop t slot = { b.loop t slot with cap := none } := by
  unfold Block.capEnd
  split
  · rename_i hcap
    rw [← hcap]
  · exact Block.loop_setLoop_same ..

theorem Block.loop_slotQuieted (b : Block) (t slot : Nat) :
    (b.slotQuieted t slot).loop t slot = { b.loop t slot with gen := none, cap := none } := by
  rw [Block.slotQuieted, Block.loop_capEnd]
  exact congrArg (fun x : LoopSt => { x with cap := none }) (Block.loop_setLoop_same b t slot _)

/-- The end of a capture counts its closing point: CAP_PTS, read as far as 64, does not fall. -/
theorem Block.capPts_capEnd (b : Block) (t slot : Nat) :
    min 64 (b.get (F.BVR_S_CAP_PTS t slot)) ≤ min 64 ((b.capEnd t slot).get (F.BVR_S_CAP_PTS t slot)) := by
  unfold Block.capEnd
  split
  · exact le_rfl
  · have hcount : ((b.put (F.BVR_S_CAP_PTS t slot) (satU 17 (b.get (F.BVR_S_CAP_PTS t slot) + 1))).get (F.BVR_S_CAP_PTS t slot)) =
        satU 17 (b.get (F.BVR_S_CAP_PTS t slot) + 1) % 2 ^ 17 := Block.get_put_same ..
    rw [Block.get_put_other _ _ _ _ (by simp only [Field.key]; omega)]
    refine le_of_le_of_eq ?_ (congrArg (min 64) hcount.symm)
    unfold satU
    split <;> omega

theorem Block.get_of_key {f g : Field} (hkey : f.key = g.key) (hreset : f.reset = g.reset) (b : Block) : b.get f = b.get g := by
  simp [Block.get, hkey, hreset]

/-- The program is no shorter. (STAT_BANK may hold a number that no bank has, whose PROG_LEN would be CAP_PTS.) -/
theorem Block.progLen_slotQuieted (b : Block) (t slot k : Nat) :
    min 64 (b.progLen t slot k) ≤ min 64 ((b.slotQuieted t slot).progLen t slot k) := by
  by_cases hkey : (F.BVR_S_BANK_PROG_LEN t slot k).key = (F.BVR_S_CAP_PTS t slot).key
  · have hstop : (b.genStop t slot).get (F.BVR_S_CAP_PTS t slot) = b.get (F.BVR_S_CAP_PTS t slot) :=
      Block.get_put_other _ _ _ _ (by simp only [Field.key]; omega)
    simp only [Block.progLen, Block.get_of_key hkey rfl]
    rw [← hstop]
    exact Block.capPts_capEnd ..
  · refine (congrArg (min 64) (Block.get_slotQuieted ⟨?_, hkey, ?_⟩ b)).ge <;> simp only [Field.key] <;> omega

theorem Block.opWord_slotQuieted (b : Block) (t slot k i : Nat) : (b.slotQuieted t slot).opWord t slot k i = b.opWord t slot k i := by
  rw [Block.opWord, Block.opWord, Block.get64, Block.get64, Block.get_slotQuieted (by simp only [Field.key]; omega),
    Block.get_slotQuieted (by simp only [Field.key]; omega)]

theorem Block.bankOf_slotQuieted (b : Block) (t slot : Nat) : (b.slotQuieted t slot).bankOf t slot = b.bankOf t slot :=
  Block.get_slotQuieted (by simp only [Field.key]; omega) b

theorem Block.slotState_slotQuieted (b : Block) (t slot : Nat) : (b.slotQuieted t slot).slotState t slot = b.slotState t slot :=
  Block.get_slotQuieted (by simp only [Field.key]; omega) b

theorem Block.outChannel_slotQuieted (h : b.outChannel t slot k = some n) : (b.slotQuieted t slot).outChannel t slot k = some n :=
  Block.outChannel_of_longer (b.progLen_slotQuieted t slot k) (b.opWord_slotQuieted t slot k) h

theorem Block.injOn_slotQuieted (b : Block) (t slot : Nat) : (b.slotQuieted t slot).get (F.BVR_S_STAT_INJ_ON t slot) = 0 := by
  have hoff : (b.genStop t slot).get (F.BVR_S_STAT_INJ_ON t slot) = 0 := Block.get_put_same ..
  rw [← hoff, Block.slotQuieted, Block.capEnd]
  split
  · rfl
  · rw [Block.get_put_other _ _ _ _ (by simp only [Field.key]; omega)]
    exact Block.get_put_other _ _ _ _ (by simp only [Field.key]; omega)

/-! ### The channel let go (R157, R431) -/

theorem Block.letGo_of_out (hstate : b.slotState t slot ≠ 0) (hout : b.outChannel t slot (b.bankOf t slot) = some n) :
    b.letGo t slot =
      (((b.put (F.BVR_S_OUT_NOW t slot) 0).put (F.PCH_DRV_DRV_VALUE n) 0).put (F.PCH_DRV_OWNER_VALID n) 0).put (F.PCH_DRV_OWNER n) 0 := by
  simp [Block.letGo, hstate, Block.drive, hout, unsigned]

theorem Block.letGo_of_noOut (hstate : b.slotState t slot ≠ 0) (hout : b.outChannel t slot (b.bankOf t slot) = none) :
    b.letGo t slot = b.put (F.BVR_S_OUT_NOW t slot) 0 := by
  simp [Block.letGo, hstate, Block.drive, hout, unsigned]

/-- A channel that is let go leaves memory, the slots and their generators' flags. -/
theorem Block.letGo_keeps (hstate : b.slotState t slot ≠ 0) :
    (b.letGo t slot).dram = b.dram ∧ (b.letGo t slot).loops = b.loops ∧
      (b.letGo t slot).get (F.BVR_S_STAT_INJ_ON t slot) = b.get (F.BVR_S_STAT_INJ_ON t slot) := by
  have hnow : (F.BVR_S_STAT_INJ_ON t slot).key ≠ (F.BVR_S_OUT_NOW t slot).key := by simp only [Field.key]; omega
  cases hout : b.outChannel t slot (b.bankOf t slot) with
  | none =>
    rw [Block.letGo_of_noOut hstate hout]
    exact ⟨rfl, rfl, Block.get_put_other _ _ _ _ hnow⟩
  | some n =>
    have hdiv := Block.outChannel_div hout
    rw [Block.letGo_of_out hstate hout]
    refine ⟨rfl, rfl, ?_⟩
    rw [Block.get_put_other _ _ _ _ (by simp only [Field.key]; omega), Block.get_put_other _ _ _ _ (by simp only [Field.key]; omega),
      Block.get_put_other _ _ _ _ (by simp only [Field.key]; omega), Block.get_put_other _ _ _ _ hnow]

theorem Block.get_letGo_of_out (hstate : b.slotState t slot ≠ 0) (hout : b.outChannel t slot (b.bankOf t slot) = some n) :
    (b.letGo t slot).get (F.PCH_DRV_DRV_VALUE n) = 0 ∧ (b.letGo t slot).get (F.PCH_DRV_OWNER_VALID n) = 0 := by
  rw [Block.letGo_of_out hstate hout, Block.get_put_other _ _ _ _ (by simp only [Field.key]; omega),
    Block.get_put_other _ _ _ _ (by simp only [Field.key]; omega), Block.get_put_same,
    Block.get_put_other _ _ _ _ (by simp only [Field.key]; omega), Block.get_put_same]
  exact ⟨rfl, rfl⟩

/-! ### STOPPED (R431) -/

/-- A slot in STOPPED without a cause, its value and its hand-over gone and its SAFE level cleared. -/
def Block.slotParked (b : Block) (t slot : Nat) : Block :=
  let c := (b.put (F.BVR_S_STAT_STATE t slot) 0).put (F.BVR_S_STAT_SAFE_CAUSE t slot) 0
  (c.setLoop t slot { c.loop t slot with next := none, applied := 0, fe := 0 }).setLevel (128 + 4 * t + slot) false 0

theorem Block.loopStop_of_notStopped (hstate : b.slotState t slot ≠ 0) :
    b.loopStop t slot = ((b.slotQuieted t slot).letGo t slot).slotParked t slot :=
  if_neg hstate

theorem Block.slotState_slotParked (b : Block) (t slot : Nat) : (b.slotParked t slot).slotState t slot = 0 := by
  have hstate : (b.slotParked t slot).slotState t slot =
      ((b.put (F.BVR_S_STAT_STATE t slot) 0).put (F.BVR_S_STAT_SAFE_CAUSE t slot) 0).get (F.BVR_S_STAT_STATE t slot) := rfl
  rw [hstate, Block.get_put_other _ _ _ _ (by simp only [Field.key]; omega), Block.get_put_same]
  rfl

theorem Block.get_slotParked_other {f : Field} (hstate : f.key ≠ (F.BVR_S_STAT_STATE t slot).key)
    (hcause : f.key ≠ (F.BVR_S_STAT_SAFE_CAUSE t slot).key) (b : Block) : (b.slotParked t slot).get f = b.get f := by
  have hput : (b.slotParked t slot).get f =
      ((b.put (F.BVR_S_STAT_STATE t slot) 0).put (F.BVR_S_STAT_SAFE_CAUSE t slot) 0).get f := rfl
  rw [hput, Block.get_put_other _ _ _ _ hcause, Block.get_put_other _ _ _ _ hstate]

theorem Block.loop_slotParked (b : Block) (t slot : Nat) :
    (b.slotParked t slot).loop t slot = { b.loop t slot with next := none, applied := 0, fe := 0 } :=
  Block.loop_setLoop_same ((b.put _ _).put _ _) t slot _

/-! ### STOP -/

section

variable (hstate : b.slotState t slot ≠ 0)
include hstate

theorem Block.loop_loopStop :
    (b.loopStop t slot).loop t slot = { b.loop t slot with gen := none, cap := none, next := none, applied := 0, fe := 0 } := by
  obtain ⟨-, hloops, -⟩ := Block.letGo_keeps ((b.slotState_slotQuieted t slot).trans_ne hstate)
  have hloop : ((b.slotQuieted t slot).letGo t slot).loop t slot = (b.slotQuieted t slot).loop t slot := by rw [Block.loop, hloops, Block.loop]
  rw [Block.loopStop_of_notStopped hstate, Block.loop_slotParked, hloop, Block.loop_slotQuieted]

theorem Block.dram_loopStop : (b.loopStop t slot).dram = b.dram := by
  obtain ⟨hdram, -, -⟩ := Block.letGo_keeps ((b.slotState_slotQuieted t slot).trans_ne hstate)
  rw [Block.loopStop_of_notStopped hstate]
  exact hdram.trans (b.slotQuieted_keeps t slot).1

theorem Block.slotState_loopStop : (b.loopStop t slot).slotState t slot = 0 := by
  rw [Block.loopStop_of_notStopped hstate, Block.slotState_slotParked]

theorem Block.injOn_loopStop : (b.loopStop t slot).get (F.BVR_S_STAT_INJ_ON t slot) = 0 := by
  obtain ⟨-, -, hinj⟩ := Block.letGo_keeps ((b.slotState_slotQuieted t slot).trans_ne hstate)
  rw [Block.loopStop_of_notStopped hstate, Block.get_slotParked_other (by simp only [Field.key]; omega) (by simp only [Field.key]; omega),
    hinj, Block.injOn_slotQuieted]

/-- The channel that the active bank drove stands at 0 V without an owner. -/
theorem Block.drive_loopStop (hout : b.outChannel t slot (b.bankOf t slot) = some n) :
    (b.loopStop t slot).get (F.PCH_DRV_DRV_VALUE n) = 0 ∧ (b.loopStop t slot).get (F.PCH_DRV_OWNER_VALID n) = 0 := by
  have hdiv := Block.outChannel_div hout
  have hquiet := Block.outChannel_slotQuieted hout
  rw [← b.bankOf_slotQuieted] at hquiet
  obtain ⟨hvalue, howner⟩ := Block.get_letGo_of_out ((b.slotState_slotQuieted t slot).trans_ne hstate) hquiet
  rw [Block.loopStop_of_notStopped hstate, Block.get_slotParked_other (by simp only [Field.key]; omega) (by simp only [Field.key]; omega),
    Block.get_slotParked_other (by simp only [Field.key]; omega) (by simp only [Field.key]; omega)]
  exact ⟨hvalue, howner⟩

end

end

end Sys2Proof.Machine

namespace Sys2Proof.Proofs

open Sys2Proof Sys2Proof.Machine

/-- Settles O24: each command is its case of BVR_s_CMD; STOP is read off through its quieted, released and parked slot. -/
theorem loopSlotCommands : Obligations.LoopSlotCommands := by
  intro a t slot k w s hwf ht hslot hk addr b refused result
  have hwfSlot : (a.wf && decide (t < 4) && decide (slot < 4)) = true := by simp [hwf, ht, hslot]
  refine ⟨fun hacts => ?start, fun hacts => ?switch, fun hacts hstate => ?stop, fun hacts _ => ?forceSafe, fun hacts hgen halone => ?injGo,
    fun hacts hgen => ?injRefused, fun hacts => ?injStop, fun hacts => ?capArm, fun hacts => ?capStop, fun i hi => ?bank⟩
  case start =>
    have hstart {r : Block × Status} (hop : bvrStartOp t slot k b = r) :=
      exec_slotCommand (c := .bvrStart a t slot k) ht hslot (by simp [Instr.wf, hwfSlot, hk]) rfl hacts ((bvrCmdOp_start hk).trans hop)
    exact ⟨fun hruns => hstart (bvrStartOp_of_runs hruns), fun hstands hvalid => hstart (bvrStartOp_of_invalid hstands hvalid),
      fun n hstands hvalid hout hdrive hfree hphase => hstart (bvrStartOp_of_free hstands hvalid hout hdrive hfree hphase)⟩
  case switch =>
    have hswitch {r : Block × Status} (hop : bvrSwitchOp t slot b = r) :=
      exec_slotCommand (c := .bvrSwitch a t slot) ht hslot hwfSlot rfl hacts hop
    exact ⟨fun hstate => hswitch (bvrSwitchOp_of_notRunning hstate),
      fun hstate hvalid hout => hswitch (bvrSwitchOp_of_valid hstate hvalid hout)⟩
  case stop =>
    refine ⟨b.loopStop t slot, exec_slotCommand (c := .bvrStop a t slot) ht hslot hwfSlot rfl hacts rfl, Block.slotState_loopStop hstate,
      Block.injOn_loopStop hstate, ?_, ?_, ?_, (Block.dram_loopStop hstate).trans (s.hw.touched_dram addr),
      fun n hout => Block.drive_loopStop hstate hout⟩
    all_goals rw [Block.loop_loopStop hstate]
  case forceSafe => exact exec_slotCommand (c := .bvrForceSafe a t slot) ht hslot hwfSlot rfl hacts rfl
  case injGo => exact exec_slotCommand (c := .bvrInjGo a t slot) ht hslot hwfSlot rfl hacts (bvrInjGoOp_of_free hgen halone)
  case injRefused => exact exec_slotCommand (c := .bvrInjGo a t slot) ht hslot hwfSlot rfl hacts (bvrInjGoOp_of_running hgen)
  case injStop => exact exec_slotCommand (c := .bvrInjStop a t slot) ht hslot hwfSlot rfl hacts rfl
  case capArm =>
    have harm {r : Block × Status} (hop : bvrCmdOp t slot 7 b = r) :=
      exec_slotCommand (c := .bvrCapArm a t slot) ht hslot hwfSlot rfl hacts hop
    exact ⟨fun hcap => harm (bvrCmdOp_capArm_of_running hcap), fun hcap => harm (bvrCmdOp_capArm_of_free hcap)⟩
  case capStop => exact exec_slotCommand (c := .bvrCapStop a t slot) ht hslot hwfSlot rfl hacts rfl
  case bank =>
    have hwrite : exec (.bvrBankWrite a t slot k i w) s =
        .next { s with hw := submit a (.write (bankWordAddr t slot k i) [w.toNat]) s.hw } :=
      exec_bvrBankWrite a t slot k i w s (by simp [Instr.wf, hwfSlot, hk, hi])
    refine ⟨?_, fun hacts => ?_⟩
    · rw [hwrite, exec_oneWordWrite hwf (by omega) (by omega)]
    · rw [hwrite, submit_of_acts hacts, regOp_bank _ ht hslot hk hi]
      exact ⟨fun ⟨hstate, hbank⟩ => by rw [bankOp_of_active _ _ hstate hbank],
        fun hstate => by rw [bankOp_of_stopped _ _ hstate]⟩

end Sys2Proof.Proofs

/-! SUPPORT. On-demand reads and system calibration: each write is its register's operation, and what each operation does in each case (R197 to
R202). -/

namespace Sys2Proof.Machine

open Sys2Proof

/-! ### Writes of CNV's registers, and of a channel's coefficients (R197, R200, R202) -/

section

variable {c : Instr} {a : Access} {addr w : Nat} {f : Nat → Block → Block × Status} {s : State}

/-- A command that is a write of one word which acts at once ends as its register's operation leaves the block. -/
theorem exec_plainWrite (hwf : c.wf = true) (hact : act c = submit a (.write addr [w])) (hop : regOp a.who addr = plainOp f)
    (hacts : s.hw.acts a addr w = true) : exec c s = .next { s with hw := s.hw.answered a addr w (f w (s.hw.touched addr)) } := by
  rw [exec_of_wf hwf, hact, submit_of_plainOp hop hacts]

/-- The same at an address without a power domain of its own. -/
theorem exec_plainWrite_of_noDomain (hwf : c.wf = true) (hact : act c = submit a (.write addr [w])) (hop : regOp a.who addr = plainOp f)
    (hdom : domainAt addr = none) (hacts : s.hw.acts a addr w = true) :
    exec c s = .next { s with hw := s.hw.answered a addr w (f w s.hw) } := by
  rw [exec_plainWrite hwf hact hop hacts, Block.touched_of_none _ _ hdom]

end

theorem domainAt_odCtrl {k : Nat} (hk : k < 8) : domainAt (0x13010c + 0x10 * k) = none := by
  interval_cases k <;> rfl

theorem regOp_calOfs (who : Requester) {n r : Nat} (hn : n < 64) (hr : r < 6) :
    regOp who (pchBase n + 0x90 + 8 * r) = plainOp (calOfsOp n r) := by
  rw [pchBase, Nat.add_assoc _ 0x90, regOp_pch who hn (by omega)]
  interval_cases r <;> rfl

theorem regOp_calGain (who : Requester) {n r : Nat} (hn : n < 64) (hr : r < 6) :
    regOp who (pchBase n + 0x94 + 8 * r) = plainOp (calGainOp n r) := by
  rw [pchBase, Nat.add_assoc _ 0x94, regOp_pch who hn (by omega)]
  interval_cases r <;> rfl

theorem Block.touched_prec (b : Block) (addr : Nat) : (b.touched addr).prec = b.prec := by
  unfold Block.touched Block.touchDom
  split
  · split <;> rfl
  · rfl

section

variable {b : Block}

/-! ### A request of an on-demand read (R197) -/

theorem odReqOp_of_full (w : Nat) (hfull : ∀ k < 8, bitAt (b.get F.CNV_OD_STAT) k = true) :
    odReqOp w b = (b.bump F.CNV_OD_DROP, .busyResource) := by
  have hnone : ([0, 1, 2, 3, 4, 5, 6, 7] : List Nat).find? (fun s => !bitAt (b.get F.CNV_OD_STAT) s) = none :=
    (List.find?_range_eq_none (n := 8)).2 (by simpa using hfull)
  rw [odReqOp, hnone]

/-- A result slot taken by a request of word `w`, at this tick. -/
def Block.odTaken (b : Block) (k w : Nat) : Block :=
  let b1 := ((b.put (F.CNV_OD_CTRL_CHANNEL k) (w % 64)).put (F.CNV_OD_CTRL_URGENT k) (bitsOf w 31 31)).put (F.CNV_OD_CTRL_DROPPED k) 0
  { b1.put F.CNV_OD_STAT (setBit (b.get F.CNV_OD_STAT) k true) with prec := { b1.prec with od := insertKey b1.prec.od k b.tick } }

theorem odReqOp_of_lowest {k : Nat} (w : Nat) (hk : k < 8) (hfree : bitAt (b.get F.CNV_OD_STAT) k = false)
    (hlower : ∀ j < k, bitAt (b.get F.CNV_OD_STAT) j = true) : odReqOp w b = (b.odTaken k w, .ok) := by
  have hsome : ([0, 1, 2, 3, 4, 5, 6, 7] : List Nat).find? (fun s => !bitAt (b.get F.CNV_OD_STAT) s) = some k :=
    (List.find?_range_eq_some (n := 8)).2 (by simpa [hfree, hk] using hlower)
  have hstat : (((b.put (F.CNV_OD_CTRL_CHANNEL k) (w % 64)).put (F.CNV_OD_CTRL_URGENT k) (bitsOf w 31 31)).put
      (F.CNV_OD_CTRL_DROPPED k) 0).get F.CNV_OD_STAT = b.get F.CNV_OD_STAT := by
    rw [Block.get_put_other _ _ _ _ (by simp only [Field.key]; omega), Block.get_put_other _ _ _ _ (by simp only [Field.key]; omega),
      Block.get_put_other _ _ _ _ (by simp only [Field.key]; omega)]
  rw [odReqOp, hsome]
  simp only [hstat]
  rfl

/-! ### A request that is not served in time (R198) -/

/-- How long the request of a result slot may wait, in ticks. -/
def Block.odWait (b : Block) (k : Nat) : Nat :=
  if b.flag (F.CNV_OD_CTRL_URGENT k) then b.periodTicks (b.get (F.CNV_OD_CTRL_CHANNEL k)) + 2500 else 250000000

/-- A request ended without a sample: DONE and DROPPED, counted, and the slot's source. -/
def Block.odDropped (b : Block) (k : Nat) : Block :=
  let b1 := ((b.put (F.CNV_OD_CTRL_DROPPED k) 1).put (F.CNV_OD_CTRL_DONE k) 1).bump F.CNV_OD_DROP
  { b1 with prec := { b1.prec with od := eraseKey b1.prec.od k } }.setLevel (144 + k) true
    (3 * 2 ^ 30 + b.get (F.CNV_OD_CTRL_URGENT k) * 2 ^ 29 + b.get (F.CNV_OD_CTRL_CHANNEL k))

section

variable {k t : Nat} (hreq : lookup b.prec.od k = some t)
include hreq

theorem odDropTimeout_of_due (hon : b.ccOn = true) (hdue : t + b.odWait k ≤ b.tick) : odDropTimeout k b = b.odDropped k := by
  have hurgent : (((b.put (F.CNV_OD_CTRL_DROPPED k) 1).put (F.CNV_OD_CTRL_DONE k) 1).bump F.CNV_OD_DROP).get (F.CNV_OD_CTRL_URGENT k) =
      b.get (F.CNV_OD_CTRL_URGENT k) := by
    rw [Block.get_bump_other (by simp only [Field.key]; omega), Block.get_put_other _ _ _ _ (by simp only [Field.key]; omega),
      Block.get_put_other _ _ _ _ (by simp only [Field.key]; omega)]
  unfold odDropTimeout
  rw [whenDue_of_due (by simpa [hreq, hon, Block.odWait] using hdue)]
  simp only [hurgent]
  rfl

theorem odDropTimeout_of_early (hearly : b.tick < t + b.odWait k) : odDropTimeout k b = b := by
  unfold odDropTimeout
  exact whenDue_of_notDue (by simpa [hreq, Block.odWait] using fun _ => hearly) _ _

end

/-! ### GO of a calibration step (R200, R201) -/

/-- What CNV_CAL_STAT shows of a step that is asked for. -/
def Block.calShown (b : Block) (n step : Nat) : Block :=
  (((b.put F.CNV_CAL_STAT_CHANNEL n).put F.CNV_CAL_STAT_STEP step).put F.CNV_CAL_STAT_RANGE (b.pch n).range).put F.CNV_CAL_STAT_COUNT 0

theorem Block.get_calShown {n step : Nat} {f : Field} (h : f.key / 32 ≠ 0x13001c) : (b.calShown n step).get f = b.get f := by
  have hstat (lo : Nat) (hlo : lo < 32) : f.key ≠ 0x13001c * 32 + lo := by omega
  rw [Block.calShown, Block.get_put_other _ _ _ _ (hstat 0 (by decide)), Block.get_put_other _ _ _ _ (hstat 24 (by decide)),
    Block.get_put_other _ _ _ _ (hstat 22 (by decide)), Block.get_put_other _ _ _ _ (hstat 16 (by decide))]

theorem Block.converting_calShown {n step : Nat} : (b.calShown n step).converting n = b.converting n := by
  have hstate : (b.calShown n step).get (F.PWR_D_STAT_STATE (n / 16)) = b.get (F.PWR_D_STAT_STATE (n / 16)) :=
    Block.get_calShown (by simp only [Field.key]; omega)
  have hinput : (b.calShown n step).get (F.PCH_IN_INPUT_MODE n) = b.get (F.PCH_IN_INPUT_MODE n) :=
    Block.get_calShown (by simp only [Field.key]; omega)
  have hmode : (b.calShown n step).get (F.PCH_EXC_EXC_MODE n) = b.get (F.PCH_EXC_EXC_MODE n) :=
    Block.get_calShown (by simp only [Field.key]; omega)
  have hgrant : (b.calShown n step).get (F.PCH_DUTY_DUTY_GRANT n) = b.get (F.PCH_DUTY_DUTY_GRANT n) :=
    Block.get_calShown (by simp only [Field.key]; omega)
  simp only [Block.converting, Block.tileOn, Block.flag, Block.dutyOff, hstate, hinput, hmode, hgrant]
  rfl

section

variable {w : Nat} (hgo : bitAt w 31 = true) (habort : bitAt w 30 = false)
include hgo habort

theorem calCmdOp_go_of_busy (hbusy : b.flag F.CNV_CAL_STAT_BUSY = true) :
    calCmdOp w b = (b.bump F.CNV_REFUSE_CNT, .busyResource) := by
  simp [calCmdOp, hgo, habort, hbusy]

/-- GO of step 1 or 2 with no step under way turns on whether the channel converts. -/
theorem calCmdOp_go_of_free (hbusy : b.flag F.CNV_CAL_STAT_BUSY = false) (hstep : bitsOf w 9 8 = 1 ∨ bitsOf w 9 8 = 2) :
    calCmdOp w b =
      (let b2 := b.calShown (w % 64) (bitsOf w 9 8)
       if b.converting (w % 64) then
         ({ b2.put F.CNV_CAL_STAT_BUSY 1 with
            prec := { b2.prec with cal := some ⟨w % 64, bitsOf w 9 8, max 1 (b.get F.CNV_CAL_AVG), 0, 0, false⟩ } }, .ok)
       else (b2.put F.CNV_CAL_STAT_RESULT 5, .ok)) := by
  have hone : (decide (bitsOf w 9 8 = 0) || decide (bitsOf w 9 8 = 3)) = false := by
    rcases hstep with h | h <;> rw [h] <;> rfl
  have hconv : (b.calShown (w % 64) (bitsOf w 9 8)).converting (w % 64) = b.converting (w % 64) :=
    Block.converting_calShown
  have havg : (b.calShown (w % 64) (bitsOf w 9 8)).get F.CNV_CAL_AVG = b.get F.CNV_CAL_AVG := Block.get_calShown (by decide)
  rw [← hconv, ← havg]
  simp only [calCmdOp, hgo, habort, hbusy, hone, Bool.false_and, Bool.not_true, Bool.false_eq_true, if_false]
  rfl

end

/-! ### ABORT, and the end of a step (R200, R201) -/

theorem Block.calRelease_of_cal {x : CalStep} (h : b.prec.cal = some x) (res : Nat) :
    b.calRelease res = (b.calEnd res).applyRange x.chan false := by
  rw [Block.calRelease, h]

theorem calCmdOp_abort_of_collecting {w : Nat} {x : CalStep} (habort : bitAt w 30 = true) (hgo : bitAt w 31 = false)
    (hcal : b.prec.cal = some x) (hcollects : x.compute = false) :
    calCmdOp w b = ((b.calEnd 1).applyRange x.chan false, .ok) := by
  simp [calCmdOp, habort, hgo, hcal, hcollects, Block.calRelease_of_cal hcal]

theorem calCmdOp_of_none {w : Nat} (hgo : bitAt w 31 = false) (hcal : b.prec.cal = none) : calCmdOp w b = (b, .ok) := by
  simp [calCmdOp, hgo, hcal]

/-! ### The coefficients of a step (R200, R201) -/

/-- How far the mean of a step's samples lies from the offset in force. -/
def Block.calDeviation (b : Block) (x : CalStep) : Int :=
  divOpen x.sum x.count - signed 24 (b.get (F.PCV_CAL_OFS x.chan (b.pch x.chan).range))

/-- CNV_CAL_TARGET as a number. -/
def Block.calTarget (b : Block) : Int := signed 24 (b.get F.CNV_CAL_TARGET)

/-- The deviation has the target's sign and lies within a factor of 2 of it. -/
def Block.calGood (b : Block) (x : CalStep) : Prop :=
  0 < b.calDeviation x * b.calTarget ∧ (b.calDeviation x).natAbs ≤ 2 * b.calTarget.natAbs ∧ b.calTarget.natAbs ≤ 2 * (b.calDeviation x).natAbs

theorem Block.calGood_iff {x : CalStep} : (decide (0 < b.calDeviation x * b.calTarget) &&
    decide ((b.calDeviation x).natAbs ≤ 2 * b.calTarget.natAbs) && decide (b.calTarget.natAbs ≤ 2 * (b.calDeviation x).natAbs)) = true ↔
      b.calGood x := by
  simp [Block.calGood, and_assoc]

/-- The gain that takes the deviation to the target. -/
def Block.calGain (b : Block) (x : CalStep) : Nat :=
  (divNearestAway (b.calTarget.natAbs * (2 ^ 30 : Nat)) (b.calDeviation x).natAbs).toNat

/-- A step's gain in force, and the pair of its range valid. -/
def Block.gainPut (b : Block) (n r gain : Nat) : Block :=
  (b.put (F.PCV_CAL_GAIN n r) gain).put (F.PCV_CAL_VALID n) (setBit (b.get (F.PCV_CAL_VALID n)) r true)

section

variable {x : CalStep} (hcal : b.prec.cal = some x) (hcompute : x.compute = true) (hon : b.ccOn = true)
include hcal hcompute hon

theorem calComputeDone_of_offset (hstep : x.step = 1) :
    calComputeDone b =
      ((b.put (F.PCV_CAL_OFS x.chan (b.pch x.chan).range) (unsigned 24 (divOpen x.sum x.count))).calEnd 0).applyRange x.chan false := by
  rw [← Block.calRelease_of_cal (b := b.put _ _) hcal]
  simp [calComputeDone, hcal, hcompute, hon, hstep]

theorem calComputeDone_of_bad (hstep : x.step ≠ 1) (hbad : ¬ b.calGood x) : calComputeDone b = (b.calEnd 3).applyRange x.chan false := by
  rw [← Block.calRelease_of_cal hcal]
  simp only [calComputeDone, hcal]
  rw [whenDue_of_due (by rw [hon, hcompute]; rfl), if_neg hstep]
  exact if_neg fun h => hbad (Block.calGood_iff.1 h)

theorem calComputeDone_of_good (hstep : x.step ≠ 1) (hgood : b.calGood x) :
    calComputeDone b = ((b.gainPut x.chan (b.pch x.chan).range (b.calGain x)).calEnd 0).applyRange x.chan false := by
  rw [← Block.calRelease_of_cal (b := b.gainPut _ _ _) hcal]
  simp only [calComputeDone, hcal]
  rw [whenDue_of_due (by rw [hon, hcompute]; rfl), if_neg hstep]
  exact if_pos (Block.calGood_iff.2 hgood)

end

/-! ### Written coefficients (R202) -/

theorem calGainOp_of_held {n r v : Nat} (w : Nat) (hr : r < 6) (hheld : lookup b.prec.ofsHeld (8 * n + r) = some v) :
    calGainOp n r w b =
      (let b2 := ((b.put (F.PCV_CAL_OFS n r) v).put (F.PCV_CAL_GAIN n r) w).put (F.PCV_CAL_VALID n)
         (setBit (b.get (F.PCV_CAL_VALID n)) r true)
       ({ b2 with prec := { b2.prec with ofsHeld := eraseKey b2.prec.ofsHeld (8 * n + r) } }, .ok)) := by
  have hvalid : (b.put (F.PCV_CAL_OFS n r) v).get (F.PCV_CAL_VALID n) = b.get (F.PCV_CAL_VALID n) :=
    Block.get_put_other _ _ _ _ (by simp only [Field.key]; omega)
  simp only [calGainOp, hheld, hvalid]

end

end Sys2Proof.Machine

namespace Sys2Proof.Proofs

open Sys2Proof Sys2Proof.Machine

/-- Settles O41: each write is its register's operation in the case named; a timeout and the end of a step turn on their conditions. -/
theorem onDemandAndCalibration : Obligations.OnDemandAndCalibration := by
  refine ⟨⟨fun a w s hwf hacts => ⟨fun hfull => ?full, fun k hk hfree hlower => ?taken⟩,
      fun k t s hk hreq hon => ⟨fun hdue => ?dropped, fun hearly => ?waits⟩,
      fun a k w s hwf hk hacts => ?freed⟩,
    ⟨fun a w s hwf => ⟨fun hacts habort hstep => ⟨fun hbusy => ?busy, fun hbusy => ⟨fun hconv => ?starts, fun hconv => ?silent⟩⟩,
        fun hacts hgo => ⟨fun x hcal hcollects => ?aborted, fun hcal => ?idle⟩⟩,
      fun s x hcal hcompute hon => ⟨fun hstep => ?offset, fun hstep hbad => ?bad, fun hstep hgood => ?gain⟩,
      fun a n r w s hwf hn hr => ⟨fun hacts => ?held, fun v hacts hheld => ?applied⟩⟩⟩
  case full => rw [exec_plainWrite_of_noDomain (c := .odRequest a w) hwf rfl (regOp_odReq _) rfl hacts, odReqOp_of_full _ hfull]
  case taken =>
    rw [exec_plainWrite_of_noDomain (c := .odRequest a w) hwf rfl (regOp_odReq _) rfl hacts, odReqOp_of_lowest _ hk hfree hlower]
    rfl
  case dropped =>
    rw [exec_odDropTimeout _ _ (decide_eq_true hk), odDropTimeout_of_due hreq hon hdue]
    rfl
  case waits => rw [exec_odDropTimeout _ _ (decide_eq_true hk), odDropTimeout_of_early hreq hearly]
  case freed =>
    rw [exec_plainWrite_of_noDomain (c := .odSlotFree a k w) (by simp [Instr.wf, hwf, hk]) rfl (regOp_odFree _ hk) (domainAt_odCtrl hk) hacts]
    dsimp only
    rw [odFreeOp]
    split_ifs <;> rfl
  case busy =>
    rw [exec_plainWrite_of_noDomain (c := .calGo a w) hwf rfl (regOp_cal _) rfl hacts,
      calCmdOp_go_of_busy (bitAt_setBit_true _ _) habort hbusy]
  case starts =>
    rw [exec_plainWrite_of_noDomain (c := .calGo a w) hwf rfl (regOp_cal _) rfl hacts,
      calCmdOp_go_of_free (bitAt_setBit_true _ _) habort hbusy hstep]
    dsimp only
    rw [if_pos hconv]
    rfl
  case silent =>
    rw [exec_plainWrite_of_noDomain (c := .calGo a w) hwf rfl (regOp_cal _) rfl hacts,
      calCmdOp_go_of_free (bitAt_setBit_true _ _) habort hbusy hstep]
    dsimp only
    rw [if_neg (by simpa using hconv)]
    rfl
  case aborted =>
    rw [exec_plainWrite_of_noDomain (c := .calAbort a w) hwf rfl (regOp_cal _) rfl hacts,
      calCmdOp_abort_of_collecting (bitAt_setBit_true _ _) hgo hcal hcollects]
  case idle =>
    rw [exec_plainWrite_of_noDomain (c := .calAbort a w) hwf rfl (regOp_cal _) rfl hacts,
      calCmdOp_of_none hgo hcal]
  case offset => rw [exec_calComputeDone _ rfl, calComputeDone_of_offset hcal hcompute hon hstep]
  case bad => rw [exec_calComputeDone _ rfl, calComputeDone_of_bad hcal hcompute hon hstep hbad]
  case gain =>
    rw [exec_calComputeDone _ rfl, calComputeDone_of_good hcal hcompute hon hstep hgood]
    rfl
  case held =>
    rw [exec_plainWrite (c := .calOfsWrite a n r w) (by simp [Instr.wf, hwf, hn, hr]) rfl (regOp_calOfs _ hn hr) hacts]
    rfl
  case applied =>
    rw [exec_plainWrite (c := .calGainWrite a n r w) (by simp [Instr.wf, hwf, hn, hr]) rfl (regOp_calGain _ hn hr) hacts,
      calGainOp_of_held _ hr (by rwa [Block.touched_prec])]

end Sys2Proof.Proofs

/-! SUPPORT. The sample buffers of the precision channels: what the bytes of a slot or a tag, a page's end and the write count leave (R191 to
R194). -/

namespace Sys2Proof.Machine

open Sys2Proof

/-! ### Bytes written and read back (R5, R20) -/

theorem lt_of_mem_leBytes {n v x : Nat} (h : x ∈ leBytes n v) : x < 256 := by
  induction n generalizing v with
  | zero => simp [leBytes] at h
  | succ n ih =>
    rcases List.mem_cons.1 h with rfl | h
    · exact Nat.mod_lt _ (by decide)
    · exact ih h

@[simp] theorem length_leBytes (n v : Nat) : (leBytes n v).length = n := by
  induction n generalizing v with
  | zero => rfl
  | succ n ih => simp [leBytes, ih]

theorem readBytes_congr {m m' : Table Byte} {a n : Nat} (h : ∀ x, a ≤ x → x < a + n → readByte m x = readByte m' x) :
    readBytes m a n = readBytes m' a n := by
  induction n generalizing a with
  | zero => rfl
  | succ n ih =>
    rw [readBytes, readBytes, h a (Nat.le_refl a) (by omega), ih fun x hlo hhi => h x (by omega) (by omega)]

/-- Bytes read back as they were written. -/
theorem readBytes_writeBytes {l : List Nat} (hl : ∀ x ∈ l, x < 256) (m : Table Byte) (a : Nat) :
    readBytes (writeBytes m a l) a l.length = l := by
  induction l generalizing m a with
  | nil => rfl
  | cons v l ih =>
    have hfirst : readByte (writeBytes m a (v :: l)) a = v :=
      (readByte_writeBytes_inside (v :: l) m a 0 (by simp)).trans (Nat.mod_eq_of_lt (hl v (List.mem_cons_self ..)))
    rw [List.length_cons, readBytes, hfirst, writeBytes, ih fun x hx => hl x (List.mem_cons_of_mem _ hx)]

@[simp] theorem Page.length_tag (p : Page) (n samples : Nat) : (p.tag n samples).length = 16 := by
  simp [Page.tag, wordBytes]

theorem Page.lt_of_mem_tag {p : Page} {n samples x : Nat} (h : x ∈ p.tag n samples) : x < 256 := by
  obtain ⟨w, -, hx⟩ := List.mem_flatMap.1 h
  exact lt_of_mem_leBytes hx

/-! ### Whether the active concentrator is on -/

theorem Block.ccOn_of_same {b c : Block} (hphase : c.phase = b.phase) (hactive : c.get F.IDN_ACTIVE = b.get F.IDN_ACTIVE)
    (hstate : ∀ d, c.get (F.PWR_D_STAT_STATE d) = b.get (F.PWR_D_STAT_STATE d)) : c.ccOn = b.ccOn := by
  simp only [Block.ccOn, Block.activeDom, Block.active, hphase, hactive, hstate]

/-- A field at bit 0 of a register is no domain's state. -/
theorem Block.ccOn_put {b : Block} {f : Field} (hlo : f.key % 32 = 0) (hkey : f.key ≠ F.IDN_ACTIVE.key) (v : Nat) :
    (b.put f v).ccOn = b.ccOn :=
  Block.ccOn_of_same rfl (Block.get_put_other _ _ _ _ hkey.symm)
    fun d => Block.get_put_other _ _ _ _ fun h => by
      rw [← h] at hlo
      simp only [Field.key] at hlo
      omega

/-! ### What a part of PREC_BUFFER_STORE leaves -/

/-- From one block to the next the samples that wait, the messages, the builder and the concentrator's state stand, and every byte of memory outside
`P`. -/
structure Block.KeepsBuffers (P : Nat → Prop) (b c : Block) : Prop where
  store : c.prec.store = b.prec.store
  posted : c.posted = b.posted
  evb : c.evb = b.evb
  on : c.ccOn = b.ccOn
  bytes : ∀ x, ¬ P x → readByte c.dram x = readByte b.dram x

section

variable {P Q : Nat → Prop} {b c d : Block}

theorem Block.KeepsBuffers.refl : b.KeepsBuffers P b := ⟨rfl, rfl, rfl, rfl, fun _ _ => rfl⟩

theorem Block.KeepsBuffers.trans (h : b.KeepsBuffers P c) (h' : c.KeepsBuffers P d) : b.KeepsBuffers P d :=
  ⟨h'.store.trans h.store, h'.posted.trans h.posted, h'.evb.trans h.evb, h'.on.trans h.on,
    fun x hx => (h'.bytes x hx).trans (h.bytes x hx)⟩

theorem Block.KeepsBuffers.mono (h : b.KeepsBuffers P c) (hP : ∀ x, P x → Q x) : b.KeepsBuffers Q c :=
  { h with bytes := fun x hx => h.bytes x fun hp => hx (hP x hp) }

/-! ### Bytes and registers of both concentrators -/

/-- An address among `n` from `a`. -/
def inRange (a n x : Nat) : Prop := a ≤ x ∧ x < a + n

theorem not_inRange {a n x : Nat} : ¬ inRange a n x ↔ x < a ∨ a + n ≤ x := by
  unfold inRange
  omega

theorem Block.storePair_keeps (b : Block) (a : Nat) (v : List Nat) : b.KeepsBuffers (inRange a v.length) (b.storePair a v) := by
  have hstore : b.KeepsBuffers (inRange a v.length) (b.store a v) := by
    have hbytes (x : Nat) (hx : ¬ inRange a v.length x) : readByte (b.store a v).dram x = readByte b.dram x := by
      rw [Block.readByte_store]
      exact if_neg hx
    obtain ⟨dram, poison, ecc, tst, regs, h, hregs⟩ := b.store_eq a v
    rw [h] at hbytes ⊢
    refine ⟨rfl, rfl, rfl, ?_, hbytes⟩
    rcases hregs with rfl | rfl
    · rfl
    · exact Block.ccOn_put (b := b) (f := F.TST_INJ_CNT) (by decide) (by decide) _
  have hactive : b.KeepsBuffers (inRange a v.length) (if b.ccOn then b.store a v else b) := by
    split_ifs
    exacts [hstore, .refl]
  unfold Block.storePair
  dsimp only
  generalize (if b.ccOn then b.store a v else b) = c at hactive ⊢
  split_ifs
  exacts [hactive.trans ⟨rfl, rfl, rfl, rfl, fun _ _ => rfl⟩, hactive]

/-- The bytes that both concentrators store stand in the active one's memory. -/
theorem Block.load_storePair {v : List Nat} (hon : b.ccOn = true) (hv : ∀ x ∈ v, x < 256) (a : Nat) :
    (b.storePair a v).load a v.length = v := by
  have hdram : (b.storePair a v).dram = writeBytes b.dram a v := by
    have hstore : (b.store a v).dram = writeBytes b.dram a v := Block.memErr_dram _ _ _
    unfold Block.storePair
    dsimp only
    rw [if_pos hon]
    split
    all_goals exact hstore
  rw [Block.load, hdram, readBytes_writeBytes hv]

theorem Block.putPair_keeps {f : Field} (hlo : f.key % 32 = 0) (hkey : f.key ≠ F.IDN_ACTIVE.key) (v : Nat) : b.KeepsBuffers P (b.putPair f v) := by
  have hactive : b.KeepsBuffers P (if b.ccOn then b.put f v else b) := by
    split_ifs
    exacts [⟨rfl, rfl, rfl, Block.ccOn_put hlo hkey v, fun _ _ => rfl⟩, .refl]
  unfold Block.putPair
  dsimp only
  generalize (if b.ccOn then b.put f v else b) = c at hactive ⊢
  split_ifs
  exacts [hactive.trans ⟨rfl, rfl, rfl, rfl, fun _ _ => rfl⟩, hactive]

theorem Block.get_putPair (hon : b.ccOn = true) (f g : Field) (v : Nat) : (b.putPair f v).get g = (b.put f v).get g := by
  unfold Block.putPair
  dsimp only
  rw [if_pos hon]
  split <;> rfl

/-! ### The write count of a channel (R194) -/

theorem wrCnt_keys {n : Nat} : (F.CNV_WR_CNT_LO n).key % 32 = 0 ∧ (F.CNV_WR_CNT_HI n).key % 32 = 0 ∧
    (F.CNV_WR_CNT_LO n).key ≠ F.IDN_ACTIVE.key ∧ (F.CNV_WR_CNT_HI n).key ≠ F.IDN_ACTIVE.key ∧
      (F.CNV_WR_CNT_LO n).key ≠ (F.CNV_WR_CNT_HI n).key := by
  simp only [Field.key]
  omega

theorem Block.setWrCnt_keeps (b : Block) (n v : Nat) : b.KeepsBuffers P (b.setWrCnt n v) := by
  obtain ⟨hlo, hhi, hloActive, hhiActive, -⟩ := wrCnt_keys (n := n)
  exact (Block.putPair_keeps hlo hloActive _).trans (Block.putPair_keeps hhi hhiActive _)

theorem Block.get64_setWrCnt {v : Nat} (hon : b.ccOn = true) (n : Nat) (hv : v < 2 ^ 64) :
    (b.setWrCnt n v).get64 (F.CNV_WR_CNT_LO n) (F.CNV_WR_CNT_HI n) = v := by
  obtain ⟨hlo, -, hloActive, -, hkey⟩ := wrCnt_keys (n := n)
  have hon' : (b.putPair (F.CNV_WR_CNT_LO n) (v % 2 ^ 32)).ccOn = true :=
    (Block.putPair_keeps (P := fun _ => True) hlo hloActive _).on.trans hon
  rw [Block.get64, Block.setWrCnt, Block.get_putPair hon', Block.get_put_other _ _ _ _ hkey, Block.get_putPair hon, Block.get_put_same,
    Block.get_putPair hon', Block.get_put_same]
  show v % 2 ^ 32 % 2 ^ 32 + 2 ^ 32 * (v / 2 ^ 32 % 2 ^ 32) = v
  omega

/-! ### The end of a page (R193) -/

/-- A byte of the tag of a page. -/
abbrev inTag (n first : Nat) : Nat → Prop := inRange (tagAddr n first) 16

theorem Block.endPage_of_open {n : Nat} {p : Page} (h : lookup b.prec.pages n = some p) :
    b.endPage n =
      (let b1 := b.storePair (tagAddr n p.first) (p.tag n p.count)
       { b1 with prec := { b1.prec with pages := eraseKey b1.prec.pages n } }) := by
  rw [Block.endPage, h]

theorem Block.endPage_keeps {n : Nat} {p : Page} (h : lookup b.prec.pages n = some p) : b.KeepsBuffers (inTag n p.first) (b.endPage n) := by
  have htag := b.storePair_keeps (tagAddr n p.first) (p.tag n p.count)
  rw [Page.length_tag] at htag
  rw [Block.endPage_of_open h]
  exact ⟨htag.store, htag.posted, htag.evb, htag.on, htag.bytes⟩

theorem Block.load_endPage {n : Nat} {p : Page} (hon : b.ccOn = true) (h : lookup b.prec.pages n = some p) :
    (b.endPage n).load (tagAddr n p.first) 16 = p.tag n p.count := by
  have hload := Block.load_storePair hon (fun _ => Page.lt_of_mem_tag (p := p)) (v := p.tag n p.count) (tagAddr n p.first)
  rw [Page.length_tag] at hload
  rw [Block.endPage_of_open h]
  exact hload

/-! ### A sample stored (R191 to R194) -/

/-- The address of a channel's sample slot. -/
abbrev slotAddr (n slot : Nat) : Nat := 0x0684000000 + n * 0x100000 + slot % 262144 * 4

/-- The samples lie below the tags. -/
theorem not_inTag_of_inSlot {n m slot first x : Nat} (hn : n < 64) (hx : inRange (slotAddr n slot) 4 x) : ¬ inTag m first x := by
  unfold inTag inRange tagAddr
  unfold inRange slotAddr at hx
  omega

/-- The tag of a page that its first sample opens. -/
def Block.tagOpened (b : Block) (n : Nat) (p : Page) : Block := if p.count = 0 then b.storePair (tagAddr n p.first) (p.tag n 0) else b

theorem Block.tagOpened_keeps (b : Block) (n : Nat) (p : Page) : b.KeepsBuffers (inTag n p.first) (b.tagOpened n p) := by
  have htag := b.storePair_keeps (tagAddr n p.first) (p.tag n 0)
  rw [Page.length_tag] at htag
  unfold Block.tagOpened
  split_ifs
  exacts [htag, .refl]

/-- A sample's word in its slot, counted in its page. -/
def Block.slotStored (b : Block) (n slot word : Nat) (p : Page) : Block :=
  let b1 := b.storePair (slotAddr n slot) (leBytes 4 word)
  { b1 with prec := { b1.prec with pages := insertKey b1.prec.pages n p } }

theorem Block.slotStored_keeps (b : Block) (n slot word : Nat) (p : Page) :
    b.KeepsBuffers (inRange (slotAddr n slot) 4) (b.slotStored n slot word p) := by
  have hword := b.storePair_keeps (slotAddr n slot) (leBytes 4 word)
  rw [length_leBytes] at hword
  exact ⟨hword.store, hword.posted, hword.evb, hword.on, hword.bytes⟩

theorem Block.load_slotStored (hon : b.ccOn = true) (n slot word : Nat) (p : Page) :
    (b.slotStored n slot word p).load (slotAddr n slot) 4 = leBytes 4 word := by
  have hload := Block.load_storePair hon (fun _ => lt_of_mem_leBytes) (v := leBytes 4 word) (slotAddr n slot)
  rw [length_leBytes] at hload
  exact hload

/-- The page ended by the last sample of its 256. -/
def Block.pageFilled (b : Block) (n slot : Nat) : Block := if (slot + 1) % 256 = 0 then b.endPage n else b

theorem Block.pageFilled_keeps {n : Nat} {p : Page} (slot : Nat) (h : lookup b.prec.pages n = some p) :
    b.KeepsBuffers (inTag n p.first) (b.pageFilled n slot) := by
  unfold Block.pageFilled
  split_ifs
  exacts [Block.endPage_keeps h, .refl]

/-- A sample stored in its slot and counted in its page, which it may open. -/
def Block.sampleCounted (b : Block) (n slot word : Nat) (p : Page) (slew : Bool) : Block :=
  (b.tagOpened n p).slotStored n slot word { p with count := p.count + 1, slew := p.slew || slew }

/-- A sample stored, up to the write count. -/
def Block.sampleStored (b : Block) (n slot word : Nat) (p : Page) (slew : Bool) : Block :=
  (b.sampleCounted n slot word p slew).pageFilled n slot

section

variable {n : Nat} (slot word : Nat) (p : Page) (slew : Bool)

theorem Block.sampleStored_keeps_counted :
    (b.sampleCounted n slot word p slew).KeepsBuffers (inTag n p.first) (b.sampleStored n slot word p slew) :=
  Block.pageFilled_keeps (p := { p with count := p.count + 1, slew := p.slew || slew }) slot (lookup_insertKey_same _ n _)

theorem Block.sampleStored_keeps :
    b.KeepsBuffers (fun x => inRange (slotAddr n slot) 4 x ∨ inTag n p.first x) (b.sampleStored n slot word p slew) :=
  (((b.tagOpened_keeps n p).mono fun _ => .inr).trans ((Block.slotStored_keeps _ n slot word _).mono fun _ => .inl)).trans
    ((Block.sampleStored_keeps_counted slot word p slew).mono fun _ => .inr)

theorem Block.load_sampleStored (hn : n < 64) (hon : b.ccOn = true) :
    (b.sampleStored n slot word p slew).load (slotAddr n slot) 4 = leBytes 4 word := by
  rw [← Block.load_slotStored ((b.tagOpened_keeps n p).on.trans hon) n slot word]
  exact readBytes_congr fun x hlo hhi =>
    (Block.sampleStored_keeps_counted slot word p slew).bytes x (not_inTag_of_inSlot hn ⟨hlo, hhi⟩)

end

/-- The block once the oldest thing that waits has been taken. -/
def Block.storeTaken (b : Block) (l : List PrecStore) : Block := { b with prec := { b.prec with store := l } }

section

variable {n slot word raw dom quality odr filter : Nat} {slew : Bool} {l : List PrecStore}

/-- The page in which a sample is stored: the open one, or the one that it opens. -/
def Block.pageOf (b : Block) (n slot raw dom quality odr filter : Nat) (slew : Bool) : Page :=
  (lookup b.prec.pages n).getD ⟨slot, raw, dom, quality, odr, filter, slew, 0⟩

theorem precBufferStore_of_sample (h : b.prec.store = .sample n slot word raw dom quality odr filter slew :: l) :
    precBufferStore b =
      ((b.storeTaken l).sampleStored n slot word (b.pageOf n slot raw dom quality odr filter slew) slew).setWrCnt n (slot + 1) := by
  rw [precBufferStore, h]
  rfl

theorem precBufferStore_of_close {p : Page} (h : b.prec.store = .close n :: l) (hpage : lookup b.prec.pages n = some p) :
    precBufferStore b = ((b.storeTaken l).endPage n).setWrCnt n (p.first + 256) := by
  rw [precBufferStore, h]
  simp only [hpage]
  rfl

end

end

end Sys2Proof.Machine

namespace Sys2Proof.Proofs

open Sys2Proof Sys2Proof.Machine

/-- Settles O40: each step of the store leaves all but its own bytes, and the word or the tag written last is read back. -/
theorem precisionBuffers : Obligations.PrecisionBuffers := by
  refine ⟨fun s hempty => ?empty, fun s n slot word raw dom quality odr filter slew l hn hslot hon hstore => ?sample,
    fun s n p l hn hfirst hon hstore hpage => ?close⟩
  case empty => rw [exec_precBufferStore _ rfl, precBufferStore, hempty]
  case sample =>
    intro p at_
    have hkeeps := Block.sampleStored_keeps (b := s.hw.storeTaken l) (n := n) slot word p slew
    have hload := Block.load_sampleStored (b := s.hw.storeTaken l) slot word p slew hn hon
    have hcount := Block.setWrCnt_keeps (P := fun _ => False) ((s.hw.storeTaken l).sampleStored n slot word p slew) n (slot + 1)
    have hstep := exec_precBufferStore s rfl
    rw [precBufferStore_of_sample hstore] at hstep
    refine ⟨_, hstep, rfl, hcount.store.trans hkeeps.store, ?_,
      fun x hx htag => (hcount.bytes x id).trans (hkeeps.bytes x (not_or.2 ⟨not_inRange.2 hx, not_inRange.2 htag⟩)),
      Block.get64_setWrCnt (hkeeps.on.trans hon) n (by omega), hcount.posted.trans hkeeps.posted, hcount.evb.trans hkeeps.evb⟩
    rw [← hload]
    exact readBytes_congr fun x _ _ => hcount.bytes x id
  case close =>
    have hend := Block.endPage_keeps (b := s.hw.storeTaken l) hpage
    have hload := Block.load_endPage (b := s.hw.storeTaken l) hon hpage
    have hcount := Block.setWrCnt_keeps (P := fun _ => False) ((s.hw.storeTaken l).endPage n) n (p.first + 256)
    have hstep := exec_precBufferStore s rfl
    rw [precBufferStore_of_close hstore hpage] at hstep
    refine ⟨_, hstep, hcount.store.trans hend.store, ?_,
      fun x hx => (hcount.bytes x id).trans (hend.bytes x (not_inRange.2 hx)), Block.get64_setWrCnt (hend.on.trans hon) n hfirst⟩
    rw [← hload]
    exact readBytes_congr fun x _ _ => hcount.bytes x id

end Sys2Proof.Proofs

/-! SUPPORT. A precision sample: what the looks and checks before it leave, what its word and its item hold, what its users leave of it (R180, R183,
R189 to R192, R202, R307). -/

namespace Sys2Proof.Machine

open Sys2Proof

/-! ### A part of the block that a step leaves -/

section

variable {α : Type} {g : Block → α} {c d : Block} {y : α}

theorem view_ite {p : Prop} [Decidable p] (hc : g c = y) (hd : g d = y) : g (if p then c else d) = y := by
  split_ifs
  exacts [hc, hd]

theorem view_foldl {β : Type} {h : Block → β → Block} {l : List β} (hh : ∀ b, ∀ x ∈ l, g (h b x) = g b) (b : Block) :
    g (l.foldl h b) = g b := by
  induction l generalizing b with
  | nil => rfl
  | cons x l ih => exact (ih (fun c z hz => hh c z (List.mem_cons_of_mem _ hz)) _).trans (hh b x (List.mem_cons_self ..))

end

section

variable {b : Block} {n : Nat}

/-! ### A converting channel is looked at (R160, R192) -/

/-- What a look at a converting channel leaves: memory, messages, the tile links, the time and the channel's range. -/
def Block.lookView (n : Nat) (b : Block) := (b.dram, b.posted, b.links, b.time, (b.pch n).range)

theorem Block.lookView_setPch {x : PrecCh} (hrange : x.range = (b.pch n).range) : (b.setPch n x).lookView n = b.lookView n := by
  rw [Block.lookView, Block.pch_setPch_same, hrange]
  rfl

theorem Block.lookView_closePage : (b.closePage n).lookView n = b.lookView n :=
  view_ite (g := Block.lookView n) rfl (Block.lookView_setPch (b := b) rfl)

/-- Excitation that returns settles the channel (R160). -/
def Block.excLooked (b : Block) (n : Nat) : Block := if b.excOn n && !(b.pch n).excWas then b.settleFull n else b

/-- A channel that starts converting opens a page (R192). -/
def Block.convLooked (b : Block) (n : Nat) : Block :=
  if b.converting n && !(b.pch n).convWas then (b.excLooked n).closePage n else b.excLooked n

/-- A look at a converting channel releases no calibration. -/
theorem Block.lookPrec_of_converting (hconv : b.converting n = true) :
    b.lookPrec n =
      if b.excOn n == (b.pch n).excWas && b.converting n == (b.pch n).convWas then b.convLooked n
      else (b.convLooked n).setPch n { (b.convLooked n).pch n with
        excWas := b.excOn n, convWas := b.converting n, faultSeen := (b.pch n).faultSeen && (b.pch n).convWas } := by
  unfold Block.lookPrec
  dsimp only
  split
  · rw [if_neg (by simp [hconv])]
    rfl
  · rfl

theorem Block.lookView_lookPrec (hconv : b.converting n = true) : (b.lookPrec n).lookView n = b.lookView n := by
  have hexc : (b.excLooked n).lookView n = b.lookView n := view_ite (Block.lookView_setPch rfl) rfl
  have hpage : (b.convLooked n).lookView n = b.lookView n := view_ite (Block.lookView_closePage.trans hexc) hexc
  rw [Block.lookPrec_of_converting hconv]
  refine view_ite hpage (.trans (Block.lookView_setPch ?_) hpage)
  rfl

/-! ### The coefficients are checked (R202, R548) -/

/-- A block that differs from another in its registers, in memory, in what is known of errors and wear, and in event sources at most. -/
def Block.SameButChecks (b c : Block) : Prop :=
  c = { b with regs := c.regs, dram := c.dram, poison := c.poison, ecc := c.ecc, wear := c.wear, irq := c.irq }

theorem Block.SameButChecks.trans {b c d : Block} (h : b.SameButChecks c) (h' : c.SameButChecks d) : b.SameButChecks d :=
  Eq.trans h' (by rw [h])

theorem Block.corrected_sameButChecks (b : Block) (r a pos : Nat) : b.SameButChecks (b.corrected r a pos) := by
  have hwear : b.SameButChecks (b.wearCorr r) := by
    unfold Block.wearCorr
    split_ifs <;> rfl
  have hwindow (c : Block) : c.SameButChecks (c.countWindow r) := by
    unfold Block.countWindow
    split
    · rfl
    · dsimp only
      split_ifs <;> rfl
  refine hwear.trans (Block.SameButChecks.trans ?_ (hwindow _))
  rfl

theorem Block.uncorrected_sameButChecks (b : Block) (r a : Nat) : b.SameButChecks (b.uncorrected r a) := by
  unfold Block.uncorrected
  dsimp only
  split_ifs <;> rfl

theorem Block.check_sameButChecks (b : Block) (w : Nat) : b.SameButChecks (b.check w) := by
  unfold Block.check
  split
  · rfl
  · dsimp only
    split_ifs
    · refine Block.SameButChecks.trans ?_ (Block.uncorrected_sameButChecks _ _ _)
      unfold Block.poisonWord
      split_ifs <;> rfl
    · refine Block.SameButChecks.trans ?_ (Block.corrected_sameButChecks _ _ _ _)
      rfl

theorem Block.checkRange_sameButChecks (b : Block) (a k : Nat) : b.SameButChecks (b.checkRange a k) := by
  unfold Block.checkRange
  generalize b.upsetsIn a k = l
  induction l generalizing b with
  | nil => rfl
  | cons w l ih => exact (b.check_sameButChecks w).trans (ih _)

theorem Block.coefCheck_sameButChecks (b : Block) (n r : Nat) : b.SameButChecks (b.coefCheck n r) := by
  have hcheck := b.checkRange_sameButChecks (F.PCV_CAL_OFS n r).addr 8
  unfold Block.coefCheck
  dsimp only
  split_ifs
  · refine hcheck.trans ?_
    rfl
  · exact hcheck

/-- A word below the DRAM is checked without a change of memory. -/
theorem Block.check_dram {w : Nat} (hw : w * 8 < 0x0100000000) : (b.check w).dram = b.dram := by
  unfold Block.check
  split
  · rfl
  · dsimp only
    split_ifs
    · rw [Block.uncorrected_dram, Block.poisonWord, if_neg (by omega)]
      rfl
    · rw [Block.corrected_dram]

theorem Block.checkRange_dram {a k : Nat} (ha : a + k ≤ 0x0100000000) : (b.checkRange a k).dram = b.dram := by
  refine view_foldl (fun c w hw => Block.check_dram ?_) b
  simp only [Block.upsetsIn, List.mem_map, List.mem_filter, Bool.and_eq_true, decide_eq_true_eq] at hw
  obtain ⟨e, ⟨-, hlo, -⟩, rfl⟩ := hw
  omega

/-- The coefficients of a channel are registers: no byte of memory changes. -/
theorem Block.coefCheck_dram {r : Nat} (hn : n < 64) (hr : r < 8) : (b.coefCheck n r).dram = b.dram :=
  view_ite (g := Block.dram) (Block.checkRange_dram (by dsimp only; omega)) (Block.checkRange_dram (by dsimp only; omega))

theorem Block.lookView_coefCheck {r : Nat} (hn : n < 64) (hr : r < 8) : (b.coefCheck n r).lookView n = b.lookView n := by
  rw [Block.lookView, Block.coefCheck_dram hn hr, b.coefCheck_sameButChecks n r]
  rfl

/-! ### The block that a sample is taken from -/

/-- A channel looked at, measured, and its coefficients checked. -/
def Block.precReady (b : Block) (n : Nat) (x : PrecInput) : Block := ((b.lookPrec n).precMeasures n x).coefCheck n (b.pch n).range

theorem Block.lookView_precReady (x : PrecInput) (hn : n < 64) (hconv : b.converting n = true) (hrange : ((b.precReady n x).pch n).range < 8) :
    (b.precReady n x).lookView n = b.lookView n := by
  have hlook : ((b.lookPrec n).precMeasures n x).lookView n = b.lookView n := Block.lookView_lookPrec hconv
  have hkept : (b.pch n).range = ((b.precReady n x).pch n).range := by
    rw [Block.precReady, Block.coefCheck_sameButChecks]
    exact (congrArg (·.2.2.2.2) hlook).symm
  exact (Block.lookView_coefCheck hn (hkept ▸ hrange)).trans hlook

/-! ### The sample given (R180, R189, R192, R307) -/

/-- The clip and the unsettled reference of a sample counted. -/
def Block.precCounted (b : Block) (n : Nat) (clipped unsettled : Bool) : Block :=
  let b1 := if clipped then b.bump (F.PCH_CLIP_CNT n) else b
  if unsettled then b1.bump (F.PCV_REFUNS_CNT n) else b1

theorem Block.precCounted_eq (b : Block) (n : Nat) (clipped unsettled : Bool) :
    ∃ regs, b.precCounted n clipped unsettled = { b with regs := regs } := by
  cases clipped <;> cases unsettled <;> exact ⟨_, rfl⟩

/-- A sample of decimation block `k` counted, given its block, and sent. -/
def Block.precGiven (b : Block) (n k word : Nat) (clipped unsettled : Bool) : Block :=
  ((b.precCounted n clipped unsettled).setPch n { b.pch n with block := k }).precSend n word

/-- What the users of a sample leave: memory, messages, the tile links, what waits for the buffers, the channel's slot, count and block, and the
word shown. -/
def Block.givenView (n : Nat) (b : Block) :=
  (b.dram, b.posted, b.links, b.prec.store, (b.pch n).slot, (b.pch n).done, (b.pch n).block, b.get (F.PCV_LAST n))

/-- The item of a sample on the tile links (R307). -/
def Block.precItem (b : Block) (n word : Nat) : LinkItem :=
  .item (72 + n / 16) b.stampRaw b.stampDom b.stampQuality
    (wordBytes [word, tsNs b.stampRaw, word1 b.stampRaw b.stampDom b.stampQuality (960 + n), (b.pch n).slot % 2 ^ 32])

/-- A sample on its way to the buffers (R194). -/
def Block.precStored (b : Block) (n word : Nat) : PrecStore :=
  .sample n (b.pch n).slot word b.stampRaw b.stampDom b.stampQuality (b.pch n).odr (b.pch n).filter (b.time.resid != 0)

theorem Block.givenView_precGiven {word : Nat} (k : Nat) (clipped unsettled : Bool) (hword : word < 2 ^ 32) :
    (b.precGiven n k word clipped unsettled).givenView n =
      (b.dram, b.posted, b.links ++ [b.precItem n word], b.prec.store ++ [b.precStored n word], (b.pch n).slot + 1, (b.pch n).done + 1, k, word) := by
  obtain ⟨regs, h⟩ := b.precCounted_eq n clipped unsettled
  have hlast : (b.precGiven n k word clipped unsettled).get (F.PCV_LAST n) = word :=
    (Block.get_put_same _ _ _).trans (Nat.mod_eq_of_lt hword)
  have hch : (b.precGiven n k word clipped unsettled).pch n = _ := Block.pch_setPch_same _ _ _
  rw [Block.givenView, hlast, hch, Block.pch_setPch_same, Block.precGiven, Block.precSend, Block.pch_setPch_same, h]
  rfl

/-! ### The users of a sample leave it (R163, R197, R201, R268) -/

theorem Block.givenView_put {f : Field} (h : f.key ≠ (F.PCV_LAST n).key) (v : Nat) : (b.put f v).givenView n = b.givenView n := by
  rw [Block.givenView, Block.get_put_other _ _ _ _ h.symm]
  rfl

/-- A field below the tiles' registers is not PCV_LAST. -/
theorem key_ne_pcvLast {f : Field} (h : f.key < 0x200000 * 32) : f.key ≠ (F.PCV_LAST n).key := by
  simp only [Field.key] at h ⊢
  omega

theorem Block.givenView_setPch {x : PrecCh} (hslot : x.slot = (b.pch n).slot) (hdone : x.done = (b.pch n).done)
    (hblock : x.block = (b.pch n).block) : (b.setPch n x).givenView n = b.givenView n := by
  rw [Block.givenView, Block.pch_setPch_same, hslot, hdone, hblock]
  rfl

theorem Block.givenView_setRange (r : Nat) : (b.setRange n r).givenView n = b.givenView n := by
  have hbump : (b.bump (F.PCH_RANGE_CNT n)).givenView n = b.givenView n := Block.givenView_put (by simp only [Field.key]; omega) _
  refine view_ite rfl (.trans (Block.givenView_setPch ?_ ?_ ?_) (.trans (Block.givenView_setPch ?_ ?_ ?_) hbump))
  all_goals rfl

theorem Block.givenView_autoRange (mag : Nat) (clipped : Bool) : (b.autoRange n mag clipped).givenView n = b.givenView n := by
  have hrestart : (b.setPch n { b.pch n with dwell := 0 }).givenView n = b.givenView n := Block.givenView_setPch rfl rfl rfl
  have hrange (r : Nat) := (Block.givenView_setRange (b := b.setPch n { b.pch n with dwell := 0 }) r).trans hrestart
  exact view_ite rfl (view_ite (hrange _) (view_ite (hrange _) (view_ite
    (view_ite (hrange _) (Block.givenView_setPch rfl rfl rfl)) hrestart)))

theorem Block.givenView_calRelease (hchan : ∀ x, b.prec.cal = some x → x.chan = n) (res : Nat) :
    (b.calRelease res).givenView n = b.givenView n := by
  have hend : (b.calEnd res).givenView n = b.givenView n :=
    (Block.givenView_put (b := b.put F.CNV_CAL_STAT_BUSY 0) (key_ne_pcvLast (by decide)) res).trans
      (Block.givenView_put (key_ne_pcvLast (by decide)) 0)
  cases hcal : b.prec.cal with
  | none => simp [Block.calRelease, hcal]
  | some x =>
    rw [Block.calRelease_of_cal hcal, hchan x hcal]
    exact view_ite hend ((Block.givenView_setRange _).trans hend)

theorem Block.givenView_calSample (raw : Int) (marked clipped : Bool) : (b.calSample n raw marked clipped).givenView n = b.givenView n := by
  unfold Block.calSample
  split
  next x hcal =>
    by_cases hskip : x.chan ≠ n ∨ x.compute = true
    · rw [if_pos (by simpa using hskip)]
    · have hchan (y : CalStep) (hy : b.prec.cal = some y) : y.chan = n := by
        rw [Option.some.inj (hy.symm.trans hcal)]
        exact not_not.1 (not_or.1 hskip).1
      rw [if_neg (by simpa using hskip)]
      have hcount (v : Nat) : (b.put F.CNV_CAL_STAT_COUNT v).givenView n = b.givenView n := Block.givenView_put (key_ne_pcvLast (by decide)) v
      refine view_ite (Block.givenView_calRelease hchan 2) (view_ite (Block.givenView_calRelease hchan 4) ?_)
      exact view_ite (g := Block.givenView n) ((Block.givenView_put (key_ne_pcvLast (by decide)) _).trans (hcount _)) (hcount _)
  next => rfl

/-- What a result slot shows of a sample: the sample, or that it was marked and is dropped (R198). -/
def Block.odServed (b : Block) (n word raw : Nat) (marked : Bool) (j : Nat) : Block :=
  if marked then (b.put (F.CNV_OD_CTRL_DROPPED j) 1).bump F.CNV_OD_DROP
  else ((b.put (F.CNV_OD_WORD j) word).put (F.CNV_OD_TS j) (tsNs raw)).put (F.CNV_OD_TSX j) (word1 raw b.stampDom b.stampQuality (960 + n))

theorem Block.givenView_odSample {j : Nat} (hj : j < 8) (word raw : Nat) (marked : Bool) :
    (b.odSample n word raw marked j).givenView n = b.givenView n := by
  have hput {addr lo width reset : Nat} (h : addr * 32 + lo < 0x200000 * 32) (c : Block) (v : Nat) :
      (c.put ⟨addr, lo, width, reset⟩ v).givenView n = c.givenView n :=
    Block.givenView_put (key_ne_pcvLast (by simpa only [Field.key] using h)) v
  have hserved : (b.odServed n word raw marked j).givenView n = b.givenView n := by
    refine view_ite ?_ ?_
    · rw [Block.bump, Block.bumpBy, hput (by omega), hput (by omega)]
    · rw [hput (by omega), hput (by omega), hput (by omega)]
  have hdone : ((b.odServed n word raw marked j).put (F.CNV_OD_CTRL_DONE j) 1).givenView n = b.givenView n :=
    (hput (by omega) _ _).trans hserved
  exact view_ite rfl (view_ite rfl hdone)

theorem Block.givenView_lynxPrec (r : Nat) (v : Int) (marked clipped : Bool) : (b.lynxPrec n r v marked clipped).givenView n = b.givenView n := by
  have hlate : (b.bump F.TRG_LATE_CNT).givenView n = b.givenView n := Block.givenView_put (key_ne_pcvLast (by decide)) _
  exact view_ite (view_ite (g := Block.givenView n) hlate rfl) rfl

/-- The users of a sample: on-demand slots, the calibration, Lynx, automatic ranging. -/
def Block.sampleUsed (b : Block) (n r word raw : Nat) (marked : Bool) (x : PrecInput) (v : Int × Bool) : Block :=
  (((([0, 1, 2, 3, 4, 5, 6, 7] : List Nat).foldl (fun d j => d.odSample n word raw marked j) b).calSample n x.raw marked v.2).lynxPrec n r v.1
    marked v.2).autoRange n v.1.natAbs v.2

theorem Block.givenView_sampleUsed (r word raw : Nat) (marked : Bool) (x : PrecInput) (v : Int × Bool) :
    (b.sampleUsed n r word raw marked x v).givenView n = b.givenView n := by
  have hslots : (([0, 1, 2, 3, 4, 5, 6, 7] : List Nat).foldl (fun d j => d.odSample n word raw marked j) b).givenView n = b.givenView n :=
    view_foldl (fun c j hj => Block.givenView_odSample (by revert j; decide) word raw marked) b
  exact (Block.givenView_autoRange _ _).trans ((Block.givenView_lynxPrec _ _ _ _).trans ((Block.givenView_calSample _ _ _).trans hslots))

/-! ### PRECISION_SAMPLE_DONE -/

/-- A sample of the channel is marked SETTLING (R165). -/
def Block.precSettling (b : Block) (n : Nat) : Bool := (b.pch n).settle.getD 0 != 0

/-- A sample of the channel is marked FAULT (R169). -/
def Block.precFault (b : Block) (n : Nat) : Bool := (b.pch n).faultSeen || b.faultBits n != 0

/-- The word of a channel's sample (R189). -/
def Block.precWordNow (b : Block) (n : Nat) (raw : Int) : Nat :=
  b.precWord n (b.pch n).range (b.precClip n (b.pch n).range raw).1 (b.precSettling n) (b.precFault n) (b.refUnsettled n)

theorem precisionSampleDone_of_none {x : PrecInput} (h : b.blockAt (b.pch n).odr = none ∨ b.converting n = false) :
    precisionSampleDone n x b = b := by
  unfold precisionSampleDone
  split
  next => rfl
  next k hk =>
    have hconv : b.converting n = false := h.resolve_left (by rw [hk]; exact Option.some_ne_none k)
    exact whenDue_of_notDue (by rw [hconv]; rfl) _ _

theorem precisionSampleDone_of_due {k : Nat} {x : PrecInput} (hgrid : b.blockAt (b.pch n).odr = some k) (hconv : b.converting n = true)
    (hnew : (b.pch n).block ≠ k) :
    precisionSampleDone n x b =
      (let d := b.precReady n x
       let v := d.precClip n (d.pch n).range x.raw
       (d.precGiven n k (d.precWordNow n x.raw) v.2 (d.refUnsettled n)).sampleUsed n (d.pch n).range (d.precWordNow n x.raw) d.stampRaw
         (d.precSettling n || d.precFault n || d.refUnsettled n) x v) := by
  unfold precisionSampleDone
  rw [hgrid]
  dsimp only
  rw [whenDue_of_due (by simp [hconv, hnew]), ← Block.precReady]
  generalize b.precReady n x = d
  simp only [Block.sampleUsed, Block.precGiven, Block.precCounted, Block.precWordNow, Block.precSettling, Block.precFault]
  cases (d.pch n).settle <;> rfl

/-! ### The fields of the word (R189) -/

theorem Block.precClip_bounds (b : Block) (n r : Nat) (raw : Int) :
    -8388608 ≤ (b.precClip n r raw).1 ∧ (b.precClip n r raw).1 < 8388608 := by
  have hsat (v : Int) := clampI_bounds (lo := -8388608) (hi := 8388607) (by decide) v
  unfold Block.precClip
  dsimp only
  split_ifs
  · decide
  · decide
  · obtain ⟨hlo, hhi⟩ := hsat (b.precValue n r raw)
    exact ⟨hlo, Int.lt_add_one_of_le hhi⟩

theorem bitAt_of_mod {w i : Nat} {p : Bool} (h : w / 2 ^ i % 2 = b2n p) : bitAt w i = p := by
  rw [bitAt, h]
  cases p <;> rfl

section

variable {r : Nat} (v : Int) (p q u : Bool) (hr : r < 8)
include hr

theorem Block.precWord_lt (b : Block) (n : Nat) : b.precWord n r v p q u < 2 ^ 32 := by
  have hv := unsigned_lt 24 v
  have hp := b2n_le_one p
  have hq := b2n_le_one q
  have hu := b2n_le_one u
  have hc := b2n_le_one (bitAt (b.get (F.PCV_CAL_VALID n)) r)
  unfold Block.precWord
  omega

/-- Value, range and marks are read back from the word. -/
theorem Block.precWord_fields (b : Block) (n : Nat) :
    let w := b.precWord n r v p q u
    w / 256 = unsigned 24 v ∧ w / 32 % 8 = r ∧ bitAt w 4 = p ∧ bitAt w 3 = q ∧ bitAt w 2 = u ∧
      bitAt w 1 = bitAt (b.get (F.PCV_CAL_VALID n)) r := by
  have hp := b2n_le_one p
  have hq := b2n_le_one q
  have hu := b2n_le_one u
  have hc := b2n_le_one (bitAt (b.get (F.PCV_CAL_VALID n)) r)
  unfold Block.precWord
  refine ⟨by omega, by omega, bitAt_of_mod (by omega), bitAt_of_mod (by omega), bitAt_of_mod (by omega), bitAt_of_mod (by omega)⟩

end

theorem Block.precWordNow_lt (raw : Int) (hrange : (b.pch n).range < 8) : b.precWordNow n raw < 2 ^ 32 :=
  Block.precWord_lt _ _ _ _ hrange b n

theorem Block.givenView_precisionSampleDone {k : Nat} {x : PrecInput} (hgrid : b.blockAt (b.pch n).odr = some k) (hconv : b.converting n = true)
    (hnew : (b.pch n).block ≠ k) (hrange : ((b.precReady n x).pch n).range < 8) :
    let d := b.precReady n x
    let word := d.precWordNow n x.raw
    (precisionSampleDone n x b).givenView n =
      (d.dram, d.posted, d.links ++ [d.precItem n word], d.prec.store ++ [d.precStored n word], (d.pch n).slot + 1, (d.pch n).done + 1, k, word) := by
  intro d word
  rw [precisionSampleDone_of_due hgrid hconv hnew, Block.givenView_sampleUsed,
    Block.givenView_precGiven _ _ _ (Block.precWordNow_lt x.raw hrange)]

/-- The stamping time stands with the time island. -/
theorem Block.stamps_of_time {c : Block} (h : c.time = b.time) :
    c.stampRaw = b.stampRaw ∧ c.stampDom = b.stampDom ∧ c.stampQuality = b.stampQuality := by
  have hsame : ({ b with time := c.time } : Block) = b := by rw [h]
  have hraw : ({ b with time := c.time } : Block).stampRaw = b.stampRaw := congrArg _ hsame
  have hdom : ({ b with time := c.time } : Block).stampDom = b.stampDom := congrArg _ hsame
  have hquality : ({ b with time := c.time } : Block).stampQuality = b.stampQuality := congrArg _ hsame
  exact ⟨hraw, hdom, hquality⟩

end

end Sys2Proof.Machine

namespace Sys2Proof.Proofs

open Sys2Proof Sys2Proof.Machine

/-- Settles O39: the block a sample is taken from keeps what the sample does not touch, and its users keep what it has given. -/
theorem precisionSamples : Obligations.PrecisionSamples := by
  refine ⟨fun n k x s hn hgrid hconv hnew => ?given, fun n x s hn hnot => ?nothing, fun b n r raw p q u hr => ?word⟩
  case given =>
    intro b c settling fault word hrange item
    have hready : (s.hw.precReady n x).lookView n = s.hw.lookView n := Block.lookView_precReady x hn hconv hrange
    have hgiven := Block.givenView_precisionSampleDone hgrid hconv hnew hrange
    simp only [Block.lookView, Prod.mk.injEq] at hready
    obtain ⟨hdram, hposted, hlinks, htime, -⟩ := hready
    obtain ⟨hraw, hdom, hquality⟩ := Block.stamps_of_time htime
    simp only [Block.givenView, Prod.mk.injEq] at hgiven
    obtain ⟨hdram', hposted', hlinks', hstore, hslot, hdone, hblock, hlast⟩ := hgiven
    refine ⟨_, exec_precisionSampleDone n x s (decide_eq_true hn), rfl, hdram'.trans hdram, hposted'.trans hposted, ?_, hlast, hslot, hdone,
      hblock, ?_⟩
    · rw [hlinks', hlinks, Block.precItem, hraw, hdom, hquality]
      rfl
    · rw [hstore, Block.precStored, hraw, hdom, hquality, htime]
      rfl
  case nothing => rw [exec_precisionSampleDone _ _ _ (decide_eq_true hn), precisionSampleDone_of_none hnot]
  case word =>
    obtain ⟨hlo, hhi⟩ := b.precClip_bounds n r raw
    obtain ⟨hvalue, hfields⟩ := Block.precWord_fields (b.precClip n r raw).1 p q u hr b n
    refine ⟨Block.precWord_lt _ p q u hr b n, ?_, hfields⟩
    rw [hvalue]
    exact signed_unsigned (by decide) hlo hhi

end Sys2Proof.Proofs

/-! SUPPORT. The time domains and their registers: what a domain replaced, a parent set, a TOUT program passed over and a change of the time base
leave as they were (R213, R216, R226, R238, R314, R465). -/

namespace Sys2Proof.Machine

open Sys2Proof

/-! ### A domain replaced (R213) -/

section

variable {x : Nat}

theorem Block.domain_of_time {b c : Block} (h : c.time = b.time) : c.domain = b.domain := by
  funext y
  rw [Block.domain, Block.domain, h]

/-- What replaces a domain does not read any other part of the block. -/
theorem Block.domain_setDomain_congr {b c : Block} (h : c.time = b.time) (x : Nat) (d : Domain) :
    (c.setDomain x d).domain = (b.setDomain x d).domain := by
  refine Block.domain_of_time ?_
  unfold Block.setDomain
  split <;> rw [h]

@[simp] theorem Block.setDomain_setDomain (b : Block) (x : Nat) (d d' : Domain) : (b.setDomain x d).setDomain x d' = b.setDomain x d' := by
  unfold Block.setDomain
  split <;> rfl

@[simp] theorem Block.setDomain_regs (b : Block) (x : Nat) (d : Domain) : (b.setDomain x d).regs = b.regs := by
  unfold Block.setDomain
  split <;> rfl

@[simp] theorem Block.get_setDomain (b : Block) (x : Nat) (d : Domain) (f : Field) : (b.setDomain x d).get f = b.get f :=
  Block.get_of_regs (b.setDomain_regs x d) f

@[simp] theorem Block.domain_setDomain_same (b : Block) (x : Nat) (d : Domain) : (b.setDomain x d).domain x = d := by
  unfold Block.domain Block.setDomain
  by_cases h : x = 0 <;> simp [h]

/-- Two numbers name one domain where both are 0 or neither is. -/
theorem Block.domain_of_same {y : Nat} (h : x = 0 ↔ y = 0) (b : Block) : b.domain y = b.domain x := by
  simp only [Block.domain, h]

theorem Block.domain_setDomain_apart {y : Nat} (h : ¬ (x = 0 ↔ y = 0)) (b : Block) (d : Domain) : (b.setDomain x d).domain y = b.domain y := by
  unfold Block.setDomain Block.domain
  by_cases hx : x = 0
  · have hy : y ≠ 0 := fun hy => h (by simp [hx, hy])
    simp [hx, hy]
  · have hy : y = 0 := by_contra fun hy => h (by simp [hx, hy])
    simp [hx, hy]

theorem Block.domain_setDomain_other (hx : x < 2) (b : Block) (d : Domain) : (b.setDomain x d).domain (1 - x) = b.domain (1 - x) :=
  Block.domain_setDomain_apart (by omega) b d

@[simp] theorem Block.setDomain_domain (b : Block) (x : Nat) : b.setDomain x (b.domain x) = b := by
  unfold Block.setDomain Block.domain
  split <;> rfl

@[simp] theorem Block.setDomain_established (b : Block) (x : Nat) (d : Domain) :
    (b.setDomain x d).time.established = b.time.established := by
  unfold Block.setDomain
  split <;> rfl

@[simp] theorem Block.setDomain_stampDom (b : Block) (x : Nat) (d : Domain) : (b.setDomain x d).stampDom = b.stampDom := by
  unfold Block.setDomain
  split <;> rfl

end

/-! ### What a change of quality, state or parent leaves (R216, R226, R465) -/

/-- A domain but for its quality and its exchange. -/
def Domain.settled (d : Domain) : Domain := { d with quality := 0, exch := none }

/-- The domains but for their qualities and exchanges. -/
def Block.settled (b : Block) (x : Nat) : Domain := (b.domain x).settled

/-- The fields that the choice of a domain's state and of its parent writes. -/
def parentKeys (x : Nat) : List Nat := ([F.TIM_DOM_STATE_SYNC_STATE x, F.TIM_DOM_STATE_PARENT_VALID x, F.TIM_DOM_STATE_PARENT_PORT x,
  F.FAB_TREE_STAT_PARENT_VALID x, F.FAB_TREE_STAT_PARENT_PORT x, F.FAB_TREE_STAT_HOPS x, F.FAB_TREE_REPARENT_CNT x] : List Field).map Field.key

section

variable {b c c' : Block} {x : Nat} {f : Field}

/-- A domain that differs in quality and exchange alone. -/
theorem Keeps.setDomain_settled {keys : List Nat} {d : Domain} (h : d.settled = b.settled x) : Keeps Block.settled keys b (b.setDomain x d) := by
  refine ⟨funext fun y => ?_, fun f _ => b.get_setDomain x d f⟩
  by_cases hxy : x = 0 ↔ y = 0
  · rw [Block.settled, Block.settled, Block.domain_of_same hxy, Block.domain_of_same hxy, Block.domain_setDomain_same]
    exact h
  · exact congrArg Domain.settled (Block.domain_setDomain_apart hxy b d)

theorem Keeps.settled_put {v : Nat} (h : Keeps Block.settled (parentKeys x) b c) (hf : f.key ∈ parentKeys x) :
    Keeps Block.settled (parentKeys x) b (c.put f v) :=
  h.trans (Keeps.put rfl hf)

theorem Keeps.ite {α : Type} {g : Block → α} {keys : List Nat} {p : Prop} [Decidable p] (h : Keeps g keys b c) (h' : Keeps g keys b c') :
    Keeps g keys b (if p then c else c') := by
  split
  · exact h
  · exact h'

theorem Block.requality_keeps (b : Block) (x : Nat) : Keeps Block.settled (parentKeys x) b (b.requality x) :=
  Keeps.setDomain_settled rfl

theorem Block.setSync_keeps (b : Block) (x st : Nat) : Keeps Block.settled (parentKeys x) b (b.setSync x st) :=
  (Keeps.refl.settled_put (by simp [parentKeys])).trans (Block.requality_keeps _ x)

theorem Block.setParent_keeps (b : Block) (x : Nat) (o : Option Nat) : Keeps Block.settled (parentKeys x) b (b.setParent x o) := by
  have htree (c : Block) (hc : Keeps Block.settled (parentKeys x) b c) (t : TreeSt) (counts : Bool) :
      Keeps Block.settled (parentKeys x) b (if counts then (c.setTree x t).bump (F.FAB_TREE_REPARENT_CNT x) else c.setTree x t) := by
    have hset : Keeps Block.settled (parentKeys x) b (c.setTree x t) := hc.trans (Keeps.of_regs rfl rfl)
    exact Keeps.ite (hset.settled_put (by simp [parentKeys])) hset
  have hexch (c : Block) (hc : Keeps Block.settled (parentKeys x) b c) (same : Bool) :
      Keeps Block.settled (parentKeys x) b (if same then c else c.setDomain x { c.domain x with exch := none }) :=
    Keeps.ite hc (hc.trans (Keeps.setDomain_settled rfl))
  unfold Block.setParent
  cases o with
  | none =>
    have h3 := htree _ ((Keeps.refl.settled_put (f := F.FAB_TREE_STAT_PARENT_VALID x) (v := 0) (by simp [parentKeys])).settled_put
      (f := F.FAB_TREE_STAT_HOPS x) (v := if b.treeMaster x then 0 else 31) (by simp [parentKeys]))
    exact Keeps.ite ((hexch _ (h3 _ _) _).settled_put (by simp [parentKeys])) (h3 _ _)
  | some p =>
    have h3 := htree _ (((Keeps.refl.settled_put (f := F.FAB_TREE_STAT_PARENT_VALID x) (v := 1) (by simp [parentKeys])).settled_put
      (f := F.FAB_TREE_STAT_PARENT_PORT x) (v := p) (by simp [parentKeys])).settled_put
      (f := F.FAB_TREE_STAT_HOPS x) (v := b.hopsVia x p) (by simp [parentKeys]))
    exact Keeps.ite (((hexch _ (h3 _ _) _).settled_put (by simp [parentKeys])).settled_put (by simp [parentKeys])) (h3 _ _)

theorem Block.reparent_keeps (b : Block) (x : Nat) : Keeps Block.settled (parentKeys x) b (b.reparent x) := by
  unfold Block.reparent
  dsimp only
  split
  · exact b.setParent_keeps x _
  · split
    · split
      · split <;> exact b.setParent_keeps x _
      · exact b.setParent_keeps x _
    · exact b.setParent_keeps x _

theorem Block.reparentNext_keeps (b : Block) (x : Nat) : Keeps Block.settled (parentKeys x) b (b.reparentNext x) := by
  unfold Block.reparentNext
  split
  · split
    · exact b.setParent_keeps x _
    · exact Keeps.refl
  · exact b.reparent_keeps x

end

/-! ### What a change of the time base makes visible (R216, R227, R314) -/

/-- An armed MEMERR counts, and no more of the registers changes. -/
theorem Block.memErr_keeps (b : Block) (a n : Nat) : Keeps Block.domain [F.TST_INJ_CNT.key] b (b.memErr a n) := by
  unfold Block.memErr
  dsimp only
  split
  · exact Keeps.trans (c := b.bump F.TST_INJ_CNT) (Keeps.bump rfl (by simp)) (Keeps.of_regs rfl rfl)
  · exact Keeps.refl

theorem Block.anchor_keeps (b : Block) : Keeps Block.domain [F.TST_INJ_CNT.key] b b.anchor := by
  have hstore (a : Nat) (v : List Nat) : Keeps Block.domain [F.TST_INJ_CNT.key] b (b.bothStore a v) := by
    have hone : Keeps Block.domain [F.TST_INJ_CNT.key] b (b.store a v) := Keeps.trans (Keeps.of_regs rfl rfl) (Block.memErr_keeps _ _ _)
    exact Keeps.ite (hone.trans (Keeps.of_regs rfl rfl)) hone
  exact (hstore _ _).trans (Keeps.of_regs (hstore _ _).1.symm rfl)

theorem Block.toutStart_keeps (b : Block) (keys : List Nat) : Keeps Block.domain keys b b.toutStart := by
  unfold Block.toutStart
  refine Keeps.foldl (fun c e => ?_) _ _
  dsimp only
  split
  · exact Keeps.ite (Keeps.ite Keeps.refl (Keeps.of_regs rfl rfl)) Keeps.refl
  · exact Keeps.refl

/-- The domains stand, and every register but the count of injections. -/
theorem Block.retimed_keeps (old new : Block) : Keeps Block.domain [F.TST_INJ_CNT.key] new (old.retimed new) := by
  unfold Block.retimed
  extract_lets shown x q raised changed anchored
  have hshown : Keeps Block.domain [F.TST_INJ_CNT.key] new shown :=
    Keeps.foldl (h := fun c y => c.setLevel (153 + y) (c.lost y) (c.domain y).quality) (fun _ _ => Keeps.of_regs rfl rfl) _ _
  have hraised : Keeps Block.domain [F.TST_INJ_CNT.key] new raised := Keeps.ite (hshown.trans (Keeps.of_regs rfl rfl)) hshown
  have hanchored : Keeps Block.domain [F.TST_INJ_CNT.key] new anchored := Keeps.ite (hraised.trans raised.anchor_keeps) hraised
  exact hanchored.trans (anchored.toutStart_keeps _)

/-! ### A counter stepped (R223, R238) -/

/-- The field is none of those in which passed instances and disarmed programs show. -/
def Field.besideTout (f : Field) : Prop := ∀ i, f.key ≠ (F.TOUT_MISSED i).key ∧ f.key ≠ (F.TOUT_CTRL_ARM i).key

/-- From one block to the next the domains stand, and every field beside the TOUT outputs. -/
def KeepsBesideTout (b c : Block) : Prop := c.domain = b.domain ∧ ∀ f : Field, f.besideTout → c.get f = b.get f

theorem KeepsBesideTout.refl (b : Block) : KeepsBesideTout b b := ⟨rfl, fun _ _ => rfl⟩

theorem KeepsBesideTout.trans {b c d : Block} (h : KeepsBesideTout b c) (h' : KeepsBesideTout c d) : KeepsBesideTout b d :=
  ⟨h'.1.trans h.1, fun f hf => (h'.2 f hf).trans (h.2 f hf)⟩

theorem Block.missed_beside (b : Block) (i n : Nat) : KeepsBesideTout b (b.bumpBy (F.TOUT_MISSED i) n) :=
  ⟨rfl, fun _ hf => Block.get_put_other _ _ _ _ (hf i).1⟩

theorem Block.withTout_beside (b : Block) (t : Table Tout) : KeepsBesideTout b { b with time := { b.time with tout := t } } :=
  ⟨rfl, fun _ _ => rfl⟩

theorem Block.disarm_beside (b : Block) (i : Nat) : KeepsBesideTout b (b.disarm i) :=
  KeepsBesideTout.trans (c := b.put (F.TOUT_CTRL_ARM i) 0) ⟨rfl, fun _ hf => Block.get_put_other _ _ _ _ (hf i).2⟩ (Block.withTout_beside _ _)

/-- Passed instances are counted and programs disarm at the TOUT outputs' registers alone (R238). -/
theorem Block.toutJump_keeps (b : Block) (dom : Nat) : KeepsBesideTout b (b.toutJump dom) := by
  unfold Block.toutJump
  refine List.foldlRecOn (motive := KeepsBesideTout b) _ _ (.refl b) fun c hc e _ => ?_
  dsimp only
  split
  · split
    · exact hc
    · split
      · exact hc.trans ((c.missed_beside e.1 _).trans (Block.disarm_beside _ _))
      · exact hc.trans ((c.missed_beside e.1 _).trans (Block.withTout_beside _ _))
  · exact hc

/-- The counter reads as it was stepped; the other domain stands. -/
theorem Block.domain_stepTo (b : Block) (x t : Nat) :
    (b.stepTo x t).domain = (b.setDomain x { b.domain x with time := t, epochSeen := epochOf t }).domain :=
  (Block.toutJump_keeps _ x).1

theorem Block.get_stepTo {f : Field} (hf : f.besideTout) (b : Block) (x t : Nat) : (b.stepTo x t).get f = b.get f := by
  obtain ⟨-, hget⟩ := Block.toutJump_keeps (b.setDomain x { b.domain x with time := t, epochSeen := epochOf t }) x
  exact (hget f hf).trans (b.get_setDomain _ _ f)

end Sys2Proof.Machine

/-! SUPPORT. The reference, the PLL and the oven; the TOUT outputs: arming, emission, pulses (R210 to R212, R236 to R238, R244). -/

namespace Sys2Proof.Machine

open Sys2Proof

/-! ### The reference (R210) -/

/-- REF_SEL takes REFIN, where REFIN's presence is as given: REFIN itself, or AUTO while present. -/
def refinTaken (sel : Nat) (present : Bool) : Bool := sel == 1 || (decide (2 ≤ sel) && present)

theorem refinTaken_present (sel : Nat) : refinTaken sel true = decide (2 ≤ sel ∨ sel = 1) := by
  rw [Bool.eq_iff_iff]
  simp [refinTaken, or_comm]

theorem refinTaken_absent (sel : Nat) : refinTaken sel false = decide (sel = 1) := by
  rw [Bool.eq_iff_iff]
  simp [refinTaken]

/-- The reference that REF_SEL selects is valid. -/
def Block.selectedValid (b : Block) : Bool :=
  if refinTaken (b.get F.TIM_CTRL_REF_SEL) (b.flag F.TIM_STAT_REFIN_PRESENT) then b.flag F.TIM_STAT_REFIN_PRESENT else b.domainOn 17

theorem Block.reselect_eq (b : Block) : b.reselect =
    (let c : Block := { b.putB F.TIM_STAT_REF_NOW (refinTaken (b.get F.TIM_CTRL_REF_SEL) (b.flag F.TIM_STAT_REFIN_PRESENT)) with
      time := { b.time with refValid := b.selectedValid } }
     if b.selectedValid then c else c.put F.TIM_STAT_PLL_LOCK 0) := rfl

/-- REFIN's presence set, and the reference selected anew. -/
def Block.withRefin (b : Block) (present : Bool) : Block := (b.putB F.TIM_STAT_REFIN_PRESENT present).reselect

section

variable (b : Block) (present : Bool)

theorem Block.selectedValid_putB_refin : (b.putB F.TIM_STAT_REFIN_PRESENT present).selectedValid =
    if refinTaken (b.get F.TIM_CTRL_REF_SEL) present then present else b.domainOn 17 := by
  have hsel : (b.putB F.TIM_STAT_REFIN_PRESENT present).get F.TIM_CTRL_REF_SEL = b.get F.TIM_CTRL_REF_SEL :=
    Block.get_put_other _ _ _ _ (by decide)
  have hoven : (b.putB F.TIM_STAT_REFIN_PRESENT present).domainOn 17 = b.domainOn 17 := by
    rw [Block.domainOn, Block.domainOn, Block.putB, Block.get_put_other _ _ _ _ (by decide)]
  rw [Block.selectedValid, Block.flag_putB_same _ _ _ (by decide), hsel, hoven]

/-- No register but PLL_LOCK, REF_NOW and the presence changes. -/
theorem Block.get_reselect {f : Field} (hnow : f.key ≠ F.TIM_STAT_REF_NOW.key) (hlock : f.key ≠ F.TIM_STAT_PLL_LOCK.key) :
    b.reselect.get f = b.get f := by
  rw [Block.reselect_eq]
  dsimp only
  split
  · exact Block.get_put_other _ _ _ _ hnow
  · exact (Block.get_put_other _ _ _ _ hlock).trans (Block.get_put_other _ _ _ _ hnow)

theorem Block.refNow_reselect : b.reselect.get F.TIM_STAT_REF_NOW =
    b2n (refinTaken (b.get F.TIM_CTRL_REF_SEL) (b.flag F.TIM_STAT_REFIN_PRESENT)) := by
  have hput (v : Bool) : (b.putB F.TIM_STAT_REF_NOW v).get F.TIM_STAT_REF_NOW = b2n v := by
    rw [Block.putB, Block.get_put_same]
    cases v <;> rfl
  rw [Block.reselect_eq]
  dsimp only
  split
  · exact hput _
  · exact (Block.get_put_other _ _ _ _ (by decide)).trans (hput _)

theorem Block.time_reselect : b.reselect.time = { b.time with refValid := b.selectedValid } := by
  rw [Block.reselect_eq]
  dsimp only
  split <;> rfl

/-- PLL_LOCK falls where the reference is not valid, and stands where it is (R210). -/
theorem Block.pllLock_reselect : b.reselect.get F.TIM_STAT_PLL_LOCK = if b.selectedValid then b.get F.TIM_STAT_PLL_LOCK else 0 := by
  rw [Block.reselect_eq]
  dsimp only
  split
  · exact Block.get_put_other _ _ _ _ (by decide)
  · rw [Block.get_put_same]
    rfl

theorem Block.reselect_dram_posted : b.reselect.dram = b.dram ∧ b.reselect.posted = b.posted := by
  rw [Block.reselect_eq]
  dsimp only
  split <;> exact ⟨rfl, rfl⟩

/-- What a change of REFIN's presence shows, by the reference taken. -/
theorem Block.withRefin_reads {taken : Bool} (htaken : refinTaken (b.get F.TIM_CTRL_REF_SEL) present = taken) :
    let c := b.withRefin present
    let valid := if taken then present else b.domainOn 17
    c.get F.TIM_STAT_REFIN_PRESENT = b2n present ∧ c.get F.TIM_STAT_REF_NOW = b2n taken ∧ c.time = { b.time with refValid := valid } ∧
      (valid = true → c.get F.TIM_STAT_PLL_LOCK = b.get F.TIM_STAT_PLL_LOCK) ∧ (valid = false → c.get F.TIM_STAT_PLL_LOCK = 0) ∧
      c.dram = b.dram ∧ c.posted = b.posted := by
  intro c valid
  have hvalid : (b.putB F.TIM_STAT_REFIN_PRESENT present).selectedValid = valid := by rw [Block.selectedValid_putB_refin, htaken]
  have hlock : c.get F.TIM_STAT_PLL_LOCK = if valid then b.get F.TIM_STAT_PLL_LOCK else 0 := by
    rw [← hvalid, ← Block.get_put_other b F.TIM_STAT_REFIN_PRESENT F.TIM_STAT_PLL_LOCK (b2n present) (by decide)]
    exact Block.pllLock_reselect _
  obtain ⟨hdram, hposted⟩ := (b.putB F.TIM_STAT_REFIN_PRESENT present).reselect_dram_posted
  refine ⟨?_, ?_, ?_, fun h => ?_, fun h => ?_, hdram, hposted⟩
  · refine (Block.get_reselect _ (by decide) (by decide)).trans ?_
    rw [Block.putB, Block.get_put_same]
    cases present <;> rfl
  · refine (Block.refNow_reselect _).trans ?_
    rw [Block.flag_putB_same _ _ _ (by decide), Block.putB, Block.get_put_other _ _ _ _ (by decide), htaken]
  · rw [← hvalid]
    exact Block.time_reselect _
  · rw [hlock, h]
    rfl
  · rw [hlock, h]
    rfl

end

section

variable {s : State} (hon : s.hw.phase.railsOn = true)
include hon

theorem exec_refinPresentSet_on : exec .refinPresentSet s = .next { s with hw := s.hw.withRefin true } := by
  rw [exec_refinPresentSet _ rfl, refinPresentSet, hon, whenDue_true]
  rfl

theorem exec_refinLost_on : exec .refinLost s = .next { s with hw := s.hw.withRefin false } := by
  rw [exec_refinLost _ rfl, refinLost, hon, whenDue_true]
  rfl

/-! ### The PLL and the oven (R212, R244) -/

theorem exec_pllLock_of_valid (hvalid : s.hw.time.refValid = true) (hopen : s.hw.flag F.TIM_STAT_PLL_LOCK = false) :
    exec .pllLock s = .next { s with hw := { s.hw.put F.TIM_STAT_PLL_LOCK 1 with time := { s.hw.time with pllTicks := 0 } } } := by
  rw [exec_pllLock _ rfl, pllLock, hon, hvalid, hopen]
  rfl

omit hon in
theorem exec_pllLock_of_invalid (hvalid : s.hw.time.refValid = false) : exec .pllLock s = .next s := by
  rw [exec_pllLock _ rfl, pllLock, hvalid, Bool.and_false, Bool.false_and, whenDue_false]

theorem exec_ovnReady_on (hoven : s.hw.domainOn 17 = true) : exec .ovnReady s = .next { s with hw := s.hw.put F.TIM_STAT_OVN_READY 1 } := by
  rw [exec_ovnReady _ rfl, ovnReady, hon, hoven]
  rfl

omit hon in
theorem exec_ovnReady_off (hoven : s.hw.domainOn 17 = false) : exec .ovnReady s = .next s := by
  rw [exec_ovnReady _ rfl, ovnReady, hoven, Bool.and_false, whenDue_false]

theorem exec_ovnLeaveBand_on : exec .ovnLeaveBand s = .next { s with hw := s.hw.put F.TIM_STAT_OVN_READY 0 } := by
  rw [exec_ovnLeaveBand _ rfl, ovnLeaveBand, hon, whenDue_true]

end

/-! ### TOUT_CTRL (R236, R238) -/

/-- A bit that was cleared reads as 0. -/
theorem bitAt_setBit_false (v i : Nat) : bitAt (setBit v i false) i = false := by
  have hpos : 0 < 2 ^ i := Nat.two_pow_pos i
  have hquot : setBit v i false / 2 ^ i = v / 2 ^ i - v / 2 ^ i % 2 := by
    rw [setBit, b2n, if_neg Bool.false_ne_true, zero_mul, add_zero, mul_comm, Nat.sub_mul_div]
  rw [bitAt, hquot, beq_eq_false_iff_ne]
  omega

theorem domainAt_tout {o : Nat} (ho : o < 4) : domainAt (0x50300 + 0x20 * o) = none := by
  interval_cases o <;> rfl

section

variable {a : Access} {o w : Nat} {s : State} {c : Instr}

/-- A command that is a write of TOUT_CTRL_i which acts at once ends as the register's operation leaves the block. -/
theorem exec_toutWrite {r : Block × Status} (ho : o < 4) (hwf : c.wf = true) (hact : act c = submit a (.write (0x50300 + 0x20 * o) [w]))
    (hacts : s.hw.acts a (0x50300 + 0x20 * o) w = true) (hop : toutCtrlOp o w s.hw = r) :
    exec c s = .next { s with hw := s.hw.answered a (0x50300 + 0x20 * o) w r } := by
  rw [exec_plainWrite_of_noDomain hwf hact (regOp_tout _ ho) (domainAt_tout ho) hacts, hop]

end

section

variable {b : Block} {o w : Nat}

theorem toutCtrlOp_of_armed (harm : bitAt w 31 = true) (harmed : b.flag (F.TOUT_CTRL_ARM o) = true) :
    toutCtrlOp o w b = (b.bump F.TIM_REFUSE_CNT, .busyResource) := by
  rw [toutCtrlOp, if_pos harm, if_pos harmed]

theorem toutCtrlOp_of_free (harm : bitAt w 31 = true) (hfree : b.flag (F.TOUT_CTRL_ARM o) = false) :
    toutCtrlOp o w b = ((b.toutFields o w).toutArmed o, .ok) := by
  rw [toutCtrlOp, if_pos harm, hfree, if_neg Bool.false_ne_true]

theorem toutCtrlOp_disarms (harm : bitAt w 31 = false) : toutCtrlOp o w b = ((b.disarm o).toutFields o w, .ok) := by
  rw [toutCtrlOp, harm, if_neg Bool.false_ne_true]

/-- ARM set, LATE and EMITTED cleared (R236). -/
def Block.toutTaken (b : Block) (o : Nat) : Block :=
  ((b.put (F.TOUT_CTRL_ARM o) 1).put (F.TOUT_CTRL_LATE o) 0).put (F.TOUT_EMITTED o) 0

/-- How many pulses of a pin's program lie less than 2 µs ahead (R238). -/
def Block.toutSkipped (b : Block) (o : Nat) : Nat :=
  (b.toutProgram o).passed (wrapTime (b.toutTime (b.toutProgram o).dom + 2000 * 2 ^ 32 : Nat))

/-- The fields of TOUT_CTRL_i leave every time as it is. -/
theorem Block.toutTime_toutFields (b : Block) (o w dom : Nat) : (b.toutFields o w).toutTime dom = b.toutTime dom := by
  have htime : (b.toutFields o w).time = b.time := rfl
  unfold Block.toutTime Block.stampRaw Block.stampDom Block.domain
  rw [htime]

theorem Block.toutArmed_eq (b : Block) (o : Nat) : b.toutArmed o =
    if (decide ((b.toutProgram o).period = 0) && b.toutSkipped o != 0) = true then ((b.toutTaken o).disarm o).put (F.TOUT_CTRL_LATE o) 1
    else if (b.toutProgram o).isOver (b.toutSkipped o) = true then (b.toutTaken o).disarm o
    else { b.toutTaken o with time := { (b.toutTaken o).time with
      tout := insertKey (b.toutTaken o).time.tout o { b.toutProgram o with next := b.toutSkipped o } } } := rfl

theorem Block.toutArmed_late (hsingle : (b.toutProgram o).period = 0) (hskip : b.toutSkipped o ≠ 0) :
    b.toutArmed o = ((b.toutTaken o).disarm o).put (F.TOUT_CTRL_LATE o) 1 := by
  rw [Block.toutArmed_eq, if_pos (by simp [hsingle, hskip])]

theorem Block.toutArmed_over (hlate : (b.toutProgram o).period ≠ 0 ∨ b.toutSkipped o = 0)
    (hover : (b.toutProgram o).isOver (b.toutSkipped o) = true) : b.toutArmed o = (b.toutTaken o).disarm o := by
  rw [Block.toutArmed_eq, if_neg (by simpa [or_iff_not_imp_left] using hlate), if_pos hover]

theorem Block.toutArmed_waits (hlate : (b.toutProgram o).period ≠ 0 ∨ b.toutSkipped o = 0)
    (hover : (b.toutProgram o).isOver (b.toutSkipped o) = false) : b.toutArmed o =
      { b.toutTaken o with time := { (b.toutTaken o).time with
        tout := insertKey (b.toutTaken o).time.tout o { b.toutProgram o with next := b.toutSkipped o } } } := by
  rw [Block.toutArmed_eq, if_neg (by simpa [or_iff_not_imp_left] using hlate), hover, if_neg Bool.false_ne_true]

theorem Block.disarm_disarmed (b : Block) (o : Nat) : lookup (b.disarm o).time.tout o = none ∧ (b.disarm o).get (F.TOUT_CTRL_ARM o) = 0 :=
  ⟨lookup_eraseKey_same _ _, Block.get_put_same b (F.TOUT_CTRL_ARM o) 0⟩

end

/-- Arming a pin that is not armed ends as its program, armed, leaves the block. -/
theorem exec_toutArm_free {a : Access} {o : Nat} {w : Word} {s : State} {c : Block} (hwf : a.wf = true) (ho : o < 4)
    (hacts : s.hw.acts a (0x50300 + 0x20 * o) (setBit w.toNat 31 true) = true) (hfree : s.hw.flag (F.TOUT_CTRL_ARM o) = false)
    (hc : (s.hw.toutFields o (setBit w.toNat 31 true)).toutArmed o = c) :
    exec (.toutArm a o w) s = .next { s with hw := s.hw.answered a (0x50300 + 0x20 * o) (setBit w.toNat 31 true) (c, .ok) } := by
  subst hc
  exact exec_toutWrite ho (by simp [Instr.wf, hwf, ho]) rfl hacts (toutCtrlOp_of_free (bitAt_setBit_true _ _) hfree)

/-! ### Pulses (R237) -/

section

variable {o : Nat} {s : State}

/-- A program's next pulse begins, and EMITTED rises. -/
def Block.pulseBegun (b : Block) (o : Nat) (p : Tout) : Block :=
  { b.bump (F.TOUT_EMITTED o) with time := { b.time with
    pulse := insertKey b.time.pulse o (p.dom, wrapTime (p.instant p.next + p.width * 2 ^ 32 : Nat)) } }

/-- The pulse begun, and the program counted on, or disarmed with its last pulse. -/
def Block.instanceReached (b : Block) (o : Nat) (p : Tout) : Block :=
  let c := b.pulseBegun o p
  if p.isOver (p.next + 1) then c.disarm o
  else { c with time := { c.time with tout := insertKey b.time.tout o { p with next := p.next + 1 } } }

theorem Block.instanceReached_last {b : Block} {p : Tout} (hover : p.isOver (p.next + 1) = true) :
    b.instanceReached o p = (b.pulseBegun o p).disarm o := if_pos hover

theorem Block.instanceReached_further {b : Block} {p : Tout} (hover : p.isOver (p.next + 1) = false) : b.instanceReached o p =
    { b.pulseBegun o p with time := { (b.pulseBegun o p).time with tout := insertKey b.time.tout o { p with next := p.next + 1 } } } :=
  if_neg (by simp [hover])

section

variable {p : Tout} (ho : o < 4) (hprog : lookup s.hw.time.tout o = some p) (hruns : p.waiting = none)
include ho hprog

theorem exec_toutInstance_before (hearly : timeDiff (s.hw.toutTime p.dom) (p.instant p.next) < 0) : exec (.toutInstance o) s = .next s := by
  rw [exec_toutInstance _ _ (decide_eq_true ho), toutInstance, hprog]
  dsimp only
  rw [decide_eq_false (not_le.2 hearly), Bool.and_false, whenDue_false]

include hruns

theorem exec_toutInstance_reached (hdue : 0 ≤ timeDiff (s.hw.toutTime p.dom) (p.instant p.next)) :
    exec (.toutInstance o) s = .next { s with hw := s.hw.instanceReached o p } := by
  have hguard : (p.waiting.isNone && decide (0 ≤ timeDiff (s.hw.toutTime p.dom) (p.instant p.next))) = true := by
    rw [hruns, decide_eq_true hdue]
    rfl
  rw [exec_toutInstance _ _ (decide_eq_true ho), toutInstance, hprog]
  dsimp only
  rw [hguard, whenDue_true]
  rfl

end

theorem exec_toutPulseEnd_eq {dom fin : Nat} (ho : o < 4) (hpulse : lookup s.hw.time.pulse o = some (dom, fin)) :
    exec (.toutPulseEnd o) s = .next { s with hw := if 0 ≤ timeDiff (s.hw.toutTime dom) fin then
      { s.hw with time := { s.hw.time with pulse := eraseKey s.hw.time.pulse o } } else s.hw } := by
  rw [exec_toutPulseEnd _ _ (decide_eq_true ho), toutPulseEnd, hpulse]
  simp only [whenDue, decide_eq_true_eq]

end

end Sys2Proof.Machine

namespace Sys2Proof.Proofs

open Sys2Proof Sys2Proof.Machine

/-- Settles O42: the reference by its selection anew, the writes of TOUT_CTRL by the register's operation, the beginning and the end of a
pulse by whether their time has come. -/
theorem referenceAndTimedOutputs : Obligations.ReferenceAndTimedOutputs := by
  refine ⟨fun s hon => ?reference, fun a o w s hwf ho => ⟨?arm, ?disarm⟩, fun o p s ho hprog hruns => ?begins,
    fun o dom fin s ho hpulse => ?ends⟩
  case reference =>
    refine ⟨⟨_, exec_refinPresentSet_on hon, rfl, ?_⟩, ⟨_, exec_refinLost_on hon, rfl, ?_⟩, exec_pllLock_of_valid hon,
      exec_pllLock_of_invalid, exec_ovnReady_on hon, exec_ovnReady_off, exec_ovnLeaveBand_on hon⟩
    · obtain ⟨hpresent, hnow, htime, hrest⟩ := s.hw.withRefin_reads true (refinTaken_present _)
      simp only [decide_eq_true_eq, b2n] at hnow htime hrest
      refine ⟨hpresent, hnow, htime, ?_⟩
      rw [htime]
      exact hrest
    · obtain ⟨hpresent, hnow, htime, hrest⟩ := s.hw.withRefin_reads false (refinTaken_absent _)
      simp only [decide_eq_true_eq, b2n] at hnow htime hrest
      refine ⟨hpresent, hnow, htime, ?_⟩
      rw [htime]
      exact hrest
  case arm =>
    intro v hacts b1 p b2 skip
    have hwrite {r : Block × Status} (hop : toutCtrlOp o v s.hw = r) :=
      exec_toutWrite (c := .toutArm a o w) ho (by simp [Instr.wf, hwf, ho]) rfl hacts hop
    have harm : bitAt v 31 = true := bitAt_setBit_true _ _
    refine ⟨fun harmed => hwrite (toutCtrlOp_of_armed harm harmed), fun hfree => ?_⟩
    have htaken {c : Block} (hc : b1.toutArmed o = c) := exec_toutArm_free hwf ho hacts hfree hc
    have hskip : b1.toutSkipped o = skip := by rw [Block.toutSkipped, Block.toutTime_toutFields]
    rw [← hskip]
    exact ⟨fun hsingle hlate => htaken (Block.toutArmed_late hsingle hlate), fun hlate hover => htaken (Block.toutArmed_over hlate hover),
      fun hlate hover => htaken (Block.toutArmed_waits hlate hover)⟩
  case disarm =>
    intro v hacts
    exact ⟨exec_toutWrite (c := .toutDisarm a o w) ho (by simp [Instr.wf, hwf, ho]) rfl hacts (toutCtrlOp_disarms (bitAt_setBit_false _ _)),
      s.hw.disarm_disarmed o⟩
  case begins =>
    refine ⟨exec_toutInstance_before ho hprog, fun hdue => ?_⟩
    rw [exec_toutInstance_reached ho hprog hruns hdue]
    exact ⟨fun hover => by rw [Block.instanceReached_last hover]; rfl, fun hover => by rw [Block.instanceReached_further hover]; rfl⟩
  case ends =>
    rw [exec_toutPulseEnd_eq ho hpulse]
    exact ⟨fun hend => by rw [if_pos hend], fun hearly => by rw [if_neg (not_le.2 hearly)]⟩

end Sys2Proof.Proofs

/-! SUPPORT. The exchange of a domain: SYNC, DELAY_REQ, DELAY_RESP, and what a valid sync gives (R218 to R222, R586). -/

namespace Sys2Proof.Machine

open Sys2Proof

/-! ### SYNC_SEND (R220) -/

/-- A message posted on each port of a list. -/
theorem foldl_post_links (cls : Nat) (m : Msg) (l : List Nat) (b : Block) :
    l.foldl (fun c p => c.post (.link p) cls m) b = { b with posted := b.posted ++ l.map fun p => ⟨.link p, cls, m, false⟩ } := by
  induction l generalizing b with
  | nil => simp
  | cons p l ih => rw [List.foldl_cons, ih]; simp [Block.post]

@[simp] theorem Block.setDomain_posted (b : Block) (x : Nat) (d : Domain) : (b.setDomain x d).posted = b.posted := by
  unfold Block.setDomain
  split <;> rfl

/-- The time of a domain has passed 262 144 ns into its epoch, and SYNC of the epoch has not been sent. -/
def Block.syncDue (b : Block) (x : Nat) : Bool :=
  decide (262144 * 2 ^ 32 ≤ (b.domain x).time % 2 ^ 52) && (b.domain x).syncSent != epochOf (b.domain x).time + 1

section

variable {s : State} {x : Nat} (hx : x < 2)
include hx

theorem exec_syncSend_due (hon : s.hw.phase.railsOn = true) (hdue : s.hw.syncDue x = true) :
    let d := s.hw.domain x
    let e := epochOf d.time
    let m := s.hw.timeMsg 1 x (e % 4096) (e / 4096) d.time
    exec (.syncSend x) s = .next { s with hw := { s.hw.setDomain x { d with syncSent := e + 1 } with
      posted := s.hw.posted ++ (s.hw.childPorts x).map fun p => ⟨.link p, 3, .time m, false⟩ } } := by
  intro d e m
  have hguard : (s.hw.phase.railsOn && decide (nsRaw 262144 ≤ d.time % 2 ^ 52) && d.syncSent != e + 1) = true := by
    rw [Bool.and_assoc, hon]
    exact hdue
  rw [exec_syncSend _ _ (decide_eq_true hx), syncSend]
  simp only [hguard, whenDue_true, foldl_post_links, Block.setDomain_posted, d, e, m]

theorem exec_syncSend_notDue (hdue : s.hw.syncDue x = false) : exec (.syncSend x) s = .next s := by
  have hguard : (s.hw.phase.railsOn && decide (nsRaw 262144 ≤ (s.hw.domain x).time % 2 ^ 52) &&
      (s.hw.domain x).syncSent != epochOf (s.hw.domain x).time + 1) = false := by
    rw [Bool.and_assoc, Bool.and_eq_false_iff]
    exact .inr hdue
  rw [exec_syncSend _ _ (decide_eq_true hx), syncSend]
  simp only [hguard, whenDue_false]

end

/-! ### SYNC_RX, DELAY_REQ_SEND, DELAY_REQ_RX (R220, R221, R586) -/

/-- Without TST TIME a frame is neither dropped nor delayed. -/
theorem Block.tstTime_of_idle {b : Block} (h : bitAt (b.get F.TST_STAT_MASK) 3 = false) (p : Nat) : b.tstTime p = (false, 0, b) := by
  rw [Block.tstTime, h, Bool.false_and, if_neg Bool.false_ne_true]

section

variable {s : State} {p : Nat} {m : TimeMsg} (hactive : s.hw.portActive p = true)
include hactive

section

variable (hwf : Instr.wf (.syncRx p m) = true) (hmsg : m.msg = 1) (hparent : s.hw.parentPort m.domain = some p)
  (hchild : s.hw.treeMaster m.domain = false) (htst : bitAt (s.hw.get F.TST_STAT_MASK) 3 = false)
include hwf hmsg hparent hchild htst

theorem exec_syncRx_followed (hhash : s.hw.hashOk m.domain m.hash = true) : exec (.syncRx p m) s =
    .next { s with hw := s.hw.setDomain m.domain { s.hw.domain m.domain with
      exch := some ⟨m, wrapTime (s.hw.domain m.domain).time, none⟩, sawFollowed := true } } := by
  rw [exec_syncRx _ _ _ hwf, syncRx, hactive, hmsg, hparent, hchild]
  simp [Block.tstTime_of_idle htst, hhash]

theorem exec_syncRx_offered (hhash : s.hw.hashOk m.domain m.hash = false) : ∃ o, exec (.syncRx p m) s =
    .next { s with hw := s.hw.setDomain m.domain { s.hw.domain m.domain with sawOffered := true, offered := o } } := by
  rw [exec_syncRx _ _ _ hwf, syncRx, hactive, hmsg, hparent, hchild]
  simp only [Block.tstTime_of_idle htst, hhash, beq_self_eq_true, Bool.and_self, Bool.not_false, whenDue_true, if_neg Bool.false_ne_true]
  exact ⟨_, rfl⟩

end

theorem exec_delayReqRx_answers (hwf : Instr.wf (.delayReqRx p m) = true) (hmsg : m.msg = 2)
    (htst : bitAt (s.hw.get F.TST_STAT_MASK) 3 = false) : exec (.delayReqRx p m) s =
      .next { s with hw := s.hw.post (.link p) 3 (.time (s.hw.timeMsg 3 m.domain m.epoch m.wrap (wrapTime (s.hw.domain m.domain).time))) } := by
  rw [exec_delayReqRx _ _ _ hwf, delayReqRx, hactive, hmsg]
  simp [Block.tstTime_of_idle htst]

end

section

variable {s : State} {x p : Nat} {e : Exchange} (hx : x < 2) (hexch : (s.hw.domain x).exch = some e)
include hx hexch

/-- The DELAY_REQ that a child sends in answer to a SYNC. -/
def Block.delayReqOf (b : Block) (x : Nat) (sync : TimeMsg) : TimeMsg :=
  { msg := 2, domain := x, quality := (b.domain x).quality, hops := b.get (F.TIM_DOM_STATE_HOPS x), epoch := sync.epoch
    wrap := sync.wrap, timeNs := 0, timeFrac := 0, incFrac := 0, incInt := 0, bound := 0, hash := 0 }

theorem exec_delayReqSend_due (hparent : s.hw.parentPort x = some p) (hfirst : e.t3 = none)
    (hdue : (131072 * 2 ^ 32 : Int) ≤ timeDiff (s.hw.domain x).time e.t2) : exec (.delayReqSend x) s =
      .next { s with
        hw := (s.hw.setDomain x { s.hw.domain x with exch := some { e with t3 := some (s.hw.domain x).time } }).post (.link p) 3
          (.time (s.hw.delayReqOf x e.sync)) } := by
  have hspan : (nsRaw 131072 : Int) ≤ timeDiff (s.hw.domain x).time e.t2 := hdue
  rw [exec_delayReqSend _ _ (decide_eq_true hx), delayReqSend]
  simp only [hexch, hfirst, hspan, hparent, Option.isNone_none, decide_true, Bool.and_self, whenDue_true]
  rfl

theorem exec_delayReqSend_notDue (hnot : e.t3 ≠ none ∨ timeDiff (s.hw.domain x).time e.t2 < 131072 * 2 ^ 32) :
    exec (.delayReqSend x) s = .next s := by
  have hguard : (e.t3.isNone && decide ((nsRaw 131072 : Int) ≤ timeDiff (s.hw.domain x).time e.t2)) = false := by
    rw [Bool.and_eq_false_iff, decide_eq_false_iff_not, not_le, Option.isNone_eq_false_iff, Option.isSome_iff_ne_none]
    exact hnot
  rw [exec_delayReqSend _ _ (decide_eq_true hx), delayReqSend]
  simp only [hexch, hguard, whenDue_false]

end

/-! ### DELAY_RESP_RX, and what a valid sync gives (R221 to R223, R226, R228) -/

/-- A DELAY_RESP of an active port is what a valid sync gives, or nothing. -/
theorem exec_delayRespRx_of_exch {s : State} {p : Nat} {m : TimeMsg} {e : Exchange} (hwf : Instr.wf (.delayRespRx p m) = true)
    (hmsg : m.msg = 3) (hactive : s.hw.portActive p = true) (hexch : (s.hw.domain m.domain).exch = some e) :
    exec (.delayRespRx p m) s = .next { s with
      hw := whenDue (s.hw.validSync p m.domain m e) (fun b => b.retimed (b.takeSync p m.domain m e)) s.hw } := by
  rw [exec_delayRespRx _ _ _ hwf, delayRespRx]
  simp only [hexch, hmsg, hactive, beq_self_eq_true, Bool.true_and]

section

variable (b : Block) (x : Nat)

/-- A domain in a new sync state, with its quality derived anew. -/
theorem Block.domain_setSync (st : Nat) : ∃ q, (b.setSync x st).domain x = { b.domain x with quality := q } :=
  ⟨_, Block.domain_setDomain_same ..⟩

theorem Block.syncState_setSync (st : Nat) : (b.setSync x st).syncState x = st % 8 :=
  (Block.get_setDomain ..).trans (Block.get_put_same ..)

theorem Block.get_setSync_other {f : Field} (h : f.key ≠ (F.TIM_DOM_STATE_SYNC_STATE x).key) (st : Nat) : (b.setSync x st).get f = b.get f :=
  (Block.get_setDomain ..).trans (Block.get_put_other _ _ _ _ h)

/-- The stamping time's first domain: no domain changes, and of the registers two. -/
theorem Block.establishStamp_keeps : Keeps Block.domain [F.TIM_STAT_ESTABLISHED.key, F.TIM_STAT_STAMP_DOM.key] b (b.establishStamp x) := by
  unfold Block.establishStamp
  refine Keeps.ite Keeps.refl ?_
  have hest : Keeps Block.domain [F.TIM_STAT_ESTABLISHED.key, F.TIM_STAT_STAMP_DOM.key] b
      { b with time := { b.time with established := true, dom := x == 1, resid := 0, held := none } } := Keeps.of_regs rfl rfl
  exact ((hest.trans (Keeps.put (f := F.TIM_STAT_ESTABLISHED) (v := 1) rfl (by simp))).trans
    (Keeps.put (f := F.TIM_STAT_STAMP_DOM) (v := x) rfl (by simp))).trans (Keeps.of_regs rfl rfl)

end

section

variable (b : Block) (p x : Nat) (m : TimeMsg) (e : Exchange)

/-- θ, the offset of the domain from its parent's (R222). -/
def Block.syncTheta (b : Block) (p : Nat) (m : TimeMsg) (e : Exchange) : Int :=
  divOpen (timeDiff e.t2 (timeFull e.sync) - timeDiff (timeFull m) (e.t3.getD 0) - psRaw (signed 16 (b.get (F.TIM_ASYM p)))) 2

/-- The delay to the parent (R222). -/
def syncDelay (m : TimeMsg) (e : Exchange) : Int :=
  divOpen (timeDiff e.t2 (timeFull e.sync) + timeDiff (timeFull m) (e.t3.getD 0)) 2

/-- The registers that a valid sync writes first: offset, delay, HOPS, no missed epoch (R222, R226). -/
def Block.syncMeasured (b : Block) (p x : Nat) (m : TimeMsg) (e : Exchange) : Block :=
  (((b.put (F.TIM_DOM_OFFSET x) (unsigned 32 (satS 32 (rawPs (b.syncTheta p m e))))).put (F.TIM_DOM_DELAY x)
    (satU 32 (rawPs (syncDelay m e)).toNat)).put (F.TIM_DOM_STATE_HOPS x) (e.sync.hops + 1)).put (F.TIM_DOM_STATE_MISSED x) 0

/-- And then: one more sync, and, out of HOLDOVER on another port, one more change of parent. -/
def Block.syncNoted (b : Block) (p x : Nat) (m : TimeMsg) (e : Exchange) : Block :=
  let c := (b.syncMeasured p x m e).bump (F.TIM_DOM_SYNC_CNT x)
  if b.syncState x == syHoldover && (b.domain x).syncPort != some p then c.bump (F.TIM_DOM_REPARENT_CNT x) else c

/-- A domain after a valid sync: the exchange has ended, the parent's quality, bound and hash are its own (R221, R222). -/
def Domain.synchronised (d : Domain) (p tick : Nat) (e : Exchange) : Domain :=
  { d with exch := none, synced := true, followed := some e.sync.hash, parentQuality := e.sync.quality
           boundSync := satU 32 (e.sync.bound + 200), syncTick := tick, syncPort := some p }

/-- The increment that a SYNC announces. -/
def Exchange.inc (e : Exchange) : Int := (e.sync.incInt * 2 ^ 32 + e.sync.incFrac : Nat)

/-- The first valid sync establishes the domain (R215, R222). -/
def Domain.firstSync (d : Domain) (p tick base : Nat) (theta : Int) (e : Exchange) : Domain :=
  { d.synchronised p tick e with established := true, time := wrapTime (d.time - theta), inc := base, baseInc := base
                                 epochSeen := epochOf (wrapTime (d.time - theta)) }

/-- A further valid sync leaves its correction for the next boundary, or, beyond the threshold on the stamping domain, its step (R223). -/
def Domain.nextSync (d : Domain) (p tick : Nat) (steps : Bool) (theta : Int) (e : Exchange) : Domain :=
  if steps then { d.synchronised p tick e with selfStep := some theta, pending := some (0, e.inc.toNat) }
  else { d.synchronised p tick e with pending := some (theta, e.inc.toNat) }

theorem Block.takeSync_eq : b.takeSync p x m e =
    if (!(b.domain x).established) = true then
      (((b.syncNoted p x m e).drawn.setDomain x ((b.domain x).firstSync p b.tick (clampInc (e.inc + Config.laneRate b.free))
        (b.syncTheta p m e) e)).setSync x syTrack).establishStamp x
    else
      let steps := decide (nsRaw (b.get (F.TIM_DOM_SERVO_STEP_THR_NS x)) < (b.syncTheta p m e).natAbs) && b.time.established && b.stampDom == x
      let c := (b.syncNoted p x m e).setDomain x ((b.domain x).nextSync p b.tick steps (b.syncTheta p m e) e)
      if (b.syncState x == syTrack) = true then c else c.setSync x syTrack := rfl

/-- MISSED is 0, and the sync state stands (R226). -/
theorem Block.get_syncNoted : (b.syncNoted p x m e).get (F.TIM_DOM_STATE_MISSED x) = 0 ∧ (b.syncNoted p x m e).syncState x = b.syncState x := by
  have hcounted (f : Field) (hs : f.key ≠ (F.TIM_DOM_SYNC_CNT x).key) (hr : f.key ≠ (F.TIM_DOM_REPARENT_CNT x).key) :
      (b.syncNoted p x m e).get f = (b.syncMeasured p x m e).get f := by
    unfold Block.syncNoted
    dsimp only
    split
    · rw [Block.get_bump_other hr, Block.get_bump_other hs]
    · rw [Block.get_bump_other hs]
  constructor
  · rw [hcounted _ (by simp only [Field.key]; omega) (by simp only [Field.key]; omega), Block.syncMeasured, Block.get_put_same]
    rfl
  · rw [Block.syncState, hcounted _ (by simp only [Field.key]; omega) (by simp only [Field.key]; omega), Block.syncMeasured,
      Block.get_put_other _ _ _ _ (by simp only [Field.key]; omega), Block.get_put_other _ _ _ _ (by simp only [Field.key]; omega),
      Block.get_put_other _ _ _ _ (by simp only [Field.key]; omega), Block.get_put_other _ _ _ _ (by simp only [Field.key]; omega),
      Block.syncState]

/-- What a valid sync leaves: no exchange, the domain established, no missed epoch, TRACK (R222, R226). -/
theorem Block.takeSync_reads : ((b.takeSync p x m e).domain x).exch = none ∧ ((b.takeSync p x m e).domain x).established = true ∧
    (b.takeSync p x m e).get (F.TIM_DOM_STATE_MISSED x) = 0 ∧ (b.takeSync p x m e).syncState x = syTrack := by
  obtain ⟨hmissed, hstate⟩ := b.get_syncNoted p x m e
  have hkey : (F.TIM_DOM_STATE_MISSED x).key ≠ (F.TIM_DOM_STATE_SYNC_STATE x).key := by simp only [Field.key]; omega
  have htrack (c : Block) (d : Domain) (hc : c.domain x = d) (hget : c.get (F.TIM_DOM_STATE_MISSED x) = 0) :
      ((c.setSync x syTrack).domain x).exch = d.exch ∧ ((c.setSync x syTrack).domain x).established = d.established ∧
        (c.setSync x syTrack).get (F.TIM_DOM_STATE_MISSED x) = 0 ∧ (c.setSync x syTrack).syncState x = syTrack := by
    obtain ⟨q, hq⟩ := c.domain_setSync x syTrack
    rw [hq, hc, Block.get_setSync_other _ _ hkey, Block.syncState_setSync]
    exact ⟨rfl, rfl, hget, rfl⟩
  rw [Block.takeSync_eq]
  split
  · let c := (b.syncNoted p x m e).drawn.setDomain x ((b.domain x).firstSync p b.tick (clampInc (e.inc + Config.laneRate b.free))
      (b.syncTheta p m e) e)
    obtain ⟨hdomain, hget⟩ := (c.setSync x syTrack).establishStamp_keeps x
    have hread := htrack c _ (Block.domain_setDomain_same ..) ((Block.get_setDomain ..).trans hmissed)
    rw [Block.syncState, hdomain, hget _ (by simp [Field.key]; omega), hget _ (by simp [Field.key]; omega)]
    exact hread
  · rename_i hest
    have hnext (steps : Bool) : ((b.domain x).nextSync p b.tick steps (b.syncTheta p m e) e).exch = none ∧
        ((b.domain x).nextSync p b.tick steps (b.syncTheta p m e) e).established = true := by
      have hold : (b.domain x).established = true := by simpa using hest
      cases steps <;> exact ⟨rfl, hold⟩
    dsimp only
    split
    · rename_i hst
      rw [Block.domain_setDomain_same, Block.get_setDomain, hmissed, Block.syncState, Block.get_setDomain]
      obtain ⟨hexch, hest'⟩ := hnext _
      exact ⟨hexch, hest', rfl, hstate.trans (by simpa using hst)⟩
    · let c := (b.syncNoted p x m e).setDomain x ((b.domain x).nextSync p b.tick
        (decide (nsRaw (b.get (F.TIM_DOM_SERVO_STEP_THR_NS x)) < (b.syncTheta p m e).natAbs) && b.time.established && b.stampDom == x)
        (b.syncTheta p m e) e)
      obtain ⟨hexch, hest', hrest⟩ := htrack c _ (Block.domain_setDomain_same ..) ((Block.get_setDomain ..).trans hmissed)
      exact ⟨hexch.trans (hnext _).1, hest'.trans (hnext _).2, hrest⟩

end

end Sys2Proof.Machine

namespace Sys2Proof.Proofs

open Sys2Proof Sys2Proof.Machine

/-- Settles O43: each message by whether it is due, and a valid sync by the domain and the registers that it leaves. -/
theorem timeExchanges : Obligations.TimeExchanges := by
  intro s b
  refine ⟨fun x hx hon => ⟨fun hpassed hunsent => ?_, fun hnot => ?_⟩,
    fun p m hwf hmsg hactive hparent hchild htst => ⟨exec_syncRx_followed hactive hwf hmsg hparent hchild htst,
      exec_syncRx_offered hactive hwf hmsg hparent hchild htst⟩,
    fun x hx e p hexch hparent => 
      ⟨fun hfirst hdue => ⟨b.delayReqOf x e.sync, rfl, rfl, rfl, rfl, exec_delayReqSend_due hx hexch hparent hfirst hdue⟩,
      exec_delayReqSend_notDue hx hexch⟩,
    fun p m hwf hmsg hactive htst => exec_delayReqRx_answers hactive hwf hmsg htst,
    fun p m e hwf hmsg hactive hexch => ⟨fun hvalid => ⟨?_, b.takeSync_reads p m.domain m e⟩, fun hinvalid => ?_⟩⟩
  · exact ⟨_, exec_syncSend_due hx hon (by rw [Block.syncDue, decide_eq_true hpassed, bne_iff_ne.2 hunsent]; rfl), rfl, rfl⟩
  · refine exec_syncSend_notDue hx ?_
    rw [Block.syncDue, Bool.and_eq_false_iff, decide_eq_false_iff_not, not_le, bne_eq_false_iff_eq]
    exact hnot
  · rw [exec_delayRespRx_of_exch hwf hmsg hactive hexch, hvalid, whenDue_true]
  · rw [exec_delayRespRx_of_exch hwf hmsg hactive hexch, hinvalid, whenDue_false]

end Sys2Proof.Proofs

/-! SUPPORT. A domain's own epoch boundary: the missed epoch counted, the correction, the decay of its state (R213, R221, R223, R226). -/

namespace Sys2Proof.Machine

open Sys2Proof

/-! ### The increment's limits (R213) -/

theorem clampInc_bounds (i : Int) : 17171279250 ≤ clampInc i ∧ clampInc i ≤ 17188459118 := by
  unfold clampInc clampI
  split
  · decide
  · split
    · decide
    · omega

theorem Block.steered_bounds (b : Block) (x base : Nat) (theta : Int) :
    17171279250 ≤ b.steered x base theta ∧ b.steered x base theta ≤ 17188459118 := clampInc_bounds _

/-! ### The epoch that ends (R221, R226) -/

/-- The hash bookkeeping leaves a domain but for its hashes. -/
theorem Domain.hashEpoch_keeps (d : Domain) : ∃ f o,
    d.hashEpoch = { d with sawOffered := false, sawFollowed := false, followed := f, offered := o } := by
  unfold Domain.hashEpoch
  dsimp only
  split
  · split
    · split <;> exact ⟨_, _, rfl⟩
    · exact ⟨_, _, rfl⟩
  · exact ⟨_, _, rfl⟩

/-- The registers that the end of an epoch counts in. -/
def missedKeys (x : Nat) : List Nat := [(F.TIM_DOM_STATE_MISSED x).key, (F.TIM_DOM_MISS_CNT x).key]

/-- What counting a missed epoch does to the time island's own state: the mark of a valid sync is taken away. -/
theorem Block.countMissed_keeps (b : Block) (x : Nat) :
    Keeps Block.time (missedKeys x) (b.setDomain x { b.domain x with synced := false }) (b.countMissed x) := by
  unfold Block.countMissed
  refine Keeps.ite Keeps.refl ?_
  exact (Keeps.put (f := F.TIM_DOM_STATE_MISSED x) rfl (by simp [missedKeys])).trans (Keeps.bump rfl (by simp [missedKeys]))

/-- MISSED rises, as far as 255, where no valid sync came (R226). -/
theorem Block.missed_countMissed {b : Block} {x : Nat} (hslave : b.syncState x ≠ syMaster) :
    (b.countMissed x).get (F.TIM_DOM_STATE_MISSED x) = if (b.domain x).synced then b.get (F.TIM_DOM_STATE_MISSED x)
      else satU 8 (b.get (F.TIM_DOM_STATE_MISSED x) + 1) := by
  have hsat (n : Nat) : satU 8 n < 2 ^ 8 := by
    unfold satU
    split <;> omega
  unfold Block.countMissed
  cases hsynced : (b.domain x).synced
  · rw [if_neg (by simp [hsynced, hslave]), if_neg Bool.false_ne_true, Block.get_bump_other (by simp only [Field.key]; omega),
      Block.get_put_of_lt (hsat _)]
  · rw [if_pos (by rw [hsynced]; rfl), if_pos rfl, Block.get_setDomain]

/-! ### The correction (R223) -/

/-- Increment and base are within 4.0 ns ± 500 ppm (R213). -/
def Domain.withinLimits (d : Domain) : Prop :=
  (17171279250 ≤ d.inc ∧ d.inc ≤ 17188459118) ∧ (17171279250 ≤ d.baseInc ∧ d.baseInc ≤ 17188459118)

theorem Block.domain_bump (b : Block) (f : Field) : (b.bump f).domain = b.domain := rfl

section

variable {b : Block} {x : Nat} {theta : Int} {inc : Nat}

/-- The base increment that a valid sync gives. -/
def Block.syncBase (b : Block) (inc : Nat) : Nat := clampInc (inc + Config.laneRate b.free)

/-- The offset is beyond the step threshold of the domain. -/
abbrev Block.beyondStep (b : Block) (x : Nat) (theta : Int) : Prop := b.get (F.TIM_DOM_SERVO_STEP_THR_NS x) * 2 ^ 32 < theta.natAbs

theorem Block.correct_none (hpend : (b.domain x).pending = none) (hslave : b.syncState x ≠ syMaster) :
    ∃ i, b.correct x = b.setDomain x { b.domain x with inc := i } := by
  unfold Block.correct
  dsimp only
  split
  · rename_i h
    rw [hpend] at h
    cases h
  · rw [beq_eq_false_iff_ne.2 hslave, if_neg Bool.false_ne_true]
    split
    · exact ⟨_, rfl⟩
    · exact ⟨(b.domain x).inc, (b.setDomain_domain x).symm⟩

section

variable (hpend : (b.domain x).pending = some (theta, inc))
include hpend

/-- Within the threshold the increment is steered. -/
theorem Block.correct_within (hwithin : theta.natAbs ≤ b.get (F.TIM_DOM_SERVO_STEP_THR_NS x) * 2 ^ 32) :
    b.correct x = b.drawn.setDomain x { b.domain x with
      pending := none, baseInc := b.syncBase inc, inc := b.steered x (b.syncBase inc) theta } := by
  have hnot : ¬ nsRaw (b.get (F.TIM_DOM_SERVO_STEP_THR_NS x)) < theta.natAbs := not_lt.2 hwithin
  unfold Block.correct
  simp only [hpend, hnot, decide_false, Bool.false_and, if_neg Bool.false_ne_true, if_false]
  rfl

/-- Beyond it the step of the stamping domain waits. -/
theorem Block.correct_stamping (hbeyond : b.beyondStep x theta) (hest : b.time.established = true) (hstamp : b.stampDom = x) :
    b.correct x = b.drawn.setDomain x { b.domain x with
      pending := none, baseInc := b.syncBase inc, inc := b.syncBase inc, selfStep := some theta } := by
  have hthr : nsRaw (b.get (F.TIM_DOM_SERVO_STEP_THR_NS x)) < theta.natAbs := hbeyond
  unfold Block.correct
  simp only [hpend, hthr, hest, hstamp, beq_self_eq_true, decide_true, Bool.and_self, if_true]
  rfl

/-- Any other domain steps at once. -/
theorem Block.correct_steps (hbeyond : b.beyondStep x theta) (hother : ¬ (b.time.established = true ∧ b.stampDom = x)) :
    b.correct x = ((b.drawn.setDomain x { b.domain x with pending := none, baseInc := b.syncBase inc, inc := b.syncBase inc }).stepTo x
      (wrapTime ((b.domain x).time - theta))).bump (F.TIM_DOM_STEP_CNT x) := by
  have hthr : nsRaw (b.get (F.TIM_DOM_SERVO_STEP_THR_NS x)) < theta.natAbs := hbeyond
  unfold Block.correct
  simp only [hpend, hthr, decide_true, Bool.true_and, Bool.and_eq_true, beq_iff_eq, hother, if_true, if_false]
  rfl

end

/-- A domain whose counter has stepped by the offset. -/
def Block.domainStepped (b : Block) (x : Nat) (theta : Int) (inc : Nat) : Domain :=
  { b.domain x with
    pending := none, baseInc := b.syncBase inc, inc := b.syncBase inc, time := wrapTime ((b.domain x).time - theta)
    epochSeen := epochOf (wrapTime ((b.domain x).time - theta)) }

/-- A step sets the counter back by the offset, and counts (R223). -/
theorem Block.correct_steps_reads (hpend : (b.domain x).pending = some (theta, inc)) (hbeyond : b.beyondStep x theta)
    (hother : ¬ (b.time.established = true ∧ b.stampDom = x)) :
    (b.correct x).domain = (b.setDomain x (b.domainStepped x theta inc)).domain ∧
      (b.correct x).get (F.TIM_DOM_STEP_CNT x) = satU 32 (b.get (F.TIM_DOM_STEP_CNT x) + 1) ∧
      ∀ f : Field, f.besideTout → f.key ≠ (F.TIM_DOM_STEP_CNT x).key → (b.correct x).get f = b.get f := by
  rw [Block.correct_steps hpend hbeyond hother]
  refine ⟨?_, ?_, fun f hf hcnt => ?_⟩
  · rw [Block.domain_bump, Block.domain_stepTo, Block.setDomain_setDomain, Block.domain_setDomain_same]
    exact Block.domain_setDomain_congr b.drawn_time x _
  · rw [Block.get_bump_same, Block.get_stepTo (fun i => by simp only [Field.key]; omega), Block.get_setDomain, Block.get_drawn]
  · rw [Block.get_bump_other hcnt, Block.get_stepTo hf, Block.get_setDomain, Block.get_drawn]

/-- What a correction leaves: one domain replaced, with none pending and the mark of a valid sync as it was, within the limits where one was
pending; of the registers beside the TOUT outputs' the count of steps alone may change. -/
theorem Block.correct_replaces (hslave : b.syncState x ≠ syMaster) : ∃ d : Domain, (b.correct x).domain = (b.setDomain x d).domain ∧
    (d.pending = none ∧ d.synced = (b.domain x).synced ∧ ((b.domain x).pending ≠ none → d.withinLimits)) ∧
    ∀ f : Field, f.besideTout → f.key ≠ (F.TIM_DOM_STEP_CNT x).key → (b.correct x).get f = b.get f := by
  cases hpend : (b.domain x).pending with
  | none =>
    obtain ⟨i, hi⟩ := Block.correct_none hpend hslave
    rw [hi]
    exact ⟨_, rfl, ⟨hpend, rfl, fun h => absurd rfl h⟩, fun f _ _ => b.get_setDomain _ _ f⟩
  | some c =>
    obtain ⟨theta, inc⟩ := c
    have hbase : 17171279250 ≤ b.syncBase inc ∧ b.syncBase inc ≤ 17188459118 := clampInc_bounds _
    have hdrawn (d : Domain) : (b.drawn.setDomain x d).domain = (b.setDomain x d).domain := Block.domain_setDomain_congr b.drawn_time x d
    rcases Nat.lt_or_ge (b.get (F.TIM_DOM_SERVO_STEP_THR_NS x) * 2 ^ 32) theta.natAbs with hbeyond | hwithin
    · by_cases hself : b.time.established = true ∧ b.stampDom = x
      · rw [Block.correct_stamping hpend hbeyond hself.1 hself.2]
        exact ⟨_, hdrawn _, ⟨rfl, rfl, fun _ => ⟨hbase, hbase⟩⟩, fun f _ _ => Block.get_setDomain _ _ _ f⟩
      · obtain ⟨hdomain, -, hget⟩ := Block.correct_steps_reads hpend hbeyond hself
        exact ⟨_, hdomain, ⟨rfl, rfl, fun _ => ⟨hbase, hbase⟩⟩, hget⟩
    · rw [Block.correct_within hpend hwithin]
      exact ⟨_, hdrawn _, ⟨rfl, rfl, fun _ => ⟨b.steered_bounds x _ theta, hbase⟩⟩, fun f _ _ => Block.get_setDomain _ _ _ f⟩

/-! ### The decay of the state, and what the boundary shows (R226) -/

/-- A domain that goes into HOLDOVER takes its base increment; but for that, quality and exchange the domains stand. -/
theorem Block.decay_keeps (b : Block) (x : Nat) : ∃ i, (i = (b.domain x).inc ∨ i = (b.domain x).baseInc) ∧
    Keeps Block.settled (parentKeys x) (b.setDomain x { b.domain x with inc := i }) (b.decay x) := by
  have hfree {c d : Block} (hd : Keeps Block.settled (parentKeys x) c d) :
      Keeps Block.settled (parentKeys x) c (if (d.syncState x == syHoldover && (d.domain x).quality == 4) = true then d.setSync x syFreerun else d) :=
    Keeps.ite (hd.trans (d.setSync_keeps x _)) hd
  unfold Block.decay
  dsimp only
  split
  · exact ⟨_, .inr rfl, hfree ((Block.setSync_keeps _ x _).trans (Block.reparentNext_keeps _ x))⟩
  · refine ⟨_, .inl rfl, ?_⟩
    rw [show b.setDomain x { b.domain x with inc := (b.domain x).inc } = b from b.setDomain_domain x]
    exact hfree (b.requality_keeps x)

end

/-! ### The block after the count (R221, R226) -/

section

variable {b : Block} {x : Nat}

/-- The block of a domain's boundary once the missed epoch is counted. -/
def Block.epochEnded (b : Block) (x : Nat) : Block :=
  (b.setDomain x { (b.domain x).hashEpoch with epochSeen := epochOf (b.domain x).time }).countMissed x

/-- The domain after the count: its hashes kept, the epoch seen, the mark of a valid sync taken away. -/
theorem Block.domain_epochEnded (b : Block) (x : Nat) : ∃ f o, (b.epochEnded x).domain x =
    { b.domain x with
      sawOffered := false, sawFollowed := false, followed := f, offered := o, epochSeen := epochOf (b.domain x).time, synced := false } := by
  obtain ⟨f, o, hhash⟩ := (b.domain x).hashEpoch_keeps
  obtain ⟨htime, -⟩ := Block.countMissed_keeps (b.setDomain x { (b.domain x).hashEpoch with epochSeen := epochOf (b.domain x).time }) x
  refine ⟨f, o, ?_⟩
  rw [Block.epochEnded, Block.domain_of_time htime, Block.domain_setDomain_same, Block.domain_setDomain_same, hhash]

/-- The stamping domain and the other domain are as before the count. -/
theorem Block.stamp_epochEnded (hx : x < 2) (b : Block) : (b.epochEnded x).time.established = b.time.established ∧
    (b.epochEnded x).stampDom = b.stampDom ∧ (b.epochEnded x).domain (1 - x) = b.domain (1 - x) := by
  obtain ⟨htime, -⟩ := Block.countMissed_keeps (b.setDomain x { (b.domain x).hashEpoch with epochSeen := epochOf (b.domain x).time }) x
  refine ⟨?_, ?_, ?_⟩
  · rw [Block.epochEnded, htime, Block.setDomain_established, Block.setDomain_established]
  · rw [Block.epochEnded, Block.stampDom, htime, ← Block.stampDom, Block.setDomain_stampDom, Block.setDomain_stampDom]
  · rw [Block.epochEnded, Block.domain_of_time htime, Block.domain_setDomain_other hx, Block.domain_setDomain_other hx]

theorem Block.get_epochEnded {f : Field} (hf : f.key ∉ missedKeys x) (b : Block) : (b.epochEnded x).get f = b.get f := by
  obtain ⟨-, hget⟩ := Block.countMissed_keeps (b.setDomain x { (b.domain x).hashEpoch with epochSeen := epochOf (b.domain x).time }) x
  rw [Block.epochEnded, hget f hf, Block.get_setDomain, Block.get_setDomain]

theorem Block.syncState_epochEnded (b : Block) (x : Nat) : (b.epochEnded x).syncState x = b.syncState x :=
  Block.get_epochEnded (by simp [missedKeys, Field.key]; omega) b

theorem Block.threshold_epochEnded (b : Block) (x : Nat) :
    (b.epochEnded x).get (F.TIM_DOM_SERVO_STEP_THR_NS x) = b.get (F.TIM_DOM_SERVO_STEP_THR_NS x) :=
  Block.get_epochEnded (by simp [missedKeys, Field.key]; omega) b

theorem Block.pending_epochEnded (b : Block) (x : Nat) : ((b.epochEnded x).domain x).pending = (b.domain x).pending := by
  obtain ⟨f, o, hended⟩ := b.domain_epochEnded x
  rw [hended]

theorem Block.missed_epochEnded (hslave : b.syncState x ≠ syMaster) : (b.epochEnded x).get (F.TIM_DOM_STATE_MISSED x) =
    if (b.domain x).synced then b.get (F.TIM_DOM_STATE_MISSED x) else satU 8 (b.get (F.TIM_DOM_STATE_MISSED x) + 1) := by
  obtain ⟨f, o, hhash⟩ := (b.domain x).hashEpoch_keeps
  rw [Block.epochEnded, Block.missed_countMissed (by rw [Block.syncState, Block.get_setDomain]; exact hslave), Block.domain_setDomain_same,
    Block.get_setDomain, hhash]

/-! ### The whole boundary (R223) -/

/-- Of a domain that is no master a boundary is the count, the correction and the decay. -/
theorem Block.domainBoundary_of_slave (hnew : epochOf (b.domain x).time ≠ (b.domain x).epochSeen)
    (hslave : b.syncState x ≠ syMaster) :
    b.domainBoundary x = b.retimed (((b.epochEnded x).correct x).decay x) := by
  have hslave' : (b.epochEnded x).syncState x ≠ syMaster := (b.syncState_epochEnded x).trans_ne hslave
  obtain ⟨-, -, -, hget⟩ := Block.correct_replaces hslave'
  have hstate : ((b.epochEnded x).correct x).syncState x = (b.epochEnded x).syncState x :=
    hget _ (fun i => by simp only [Field.key]; omega) (by simp only [Field.key]; omega)
  have hstep : ((b.epochEnded x).correct x).masterStep x = (b.epochEnded x).correct x := by
    rw [Block.masterStep, hstate, beq_eq_false_iff_ne.2 hslave', Bool.and_false, if_neg Bool.false_ne_true]
  unfold Block.domainBoundary
  rw [if_neg hnew]
  change b.retimed ((((b.epochEnded x).correct x).masterStep x).decay x) = _
  rw [hstep]

/-- What a boundary of a domain that is no master shows, by the block after its correction. -/
theorem Block.domainBoundary_reads (hx : x < 2) (hnew : epochOf (b.domain x).time ≠ (b.domain x).epochSeen) (hslave : b.syncState x ≠ syMaster) :
    let c := (b.epochEnded x).correct x
    let d := (b.domainBoundary x).domain x
    ((d.time = (c.domain x).time ∧ d.epochSeen = (c.domain x).epochSeen) ∧
      (d.synced = (c.domain x).synced ∧ d.pending = (c.domain x).pending) ∧
      d.selfStep = (c.domain x).selfStep ∧ (d.inc = (c.domain x).inc ∨ d.inc = (c.domain x).baseInc)) ∧
    ((b.domainBoundary x).domain (1 - x)).time = (c.domain (1 - x)).time ∧
    (b.domainBoundary x).get (F.TIM_DOM_STATE_MISSED x) = c.get (F.TIM_DOM_STATE_MISSED x) ∧
    (b.domainBoundary x).get (F.TIM_DOM_STEP_CNT x) = c.get (F.TIM_DOM_STEP_CNT x) := by
  intro c d
  obtain ⟨i, hi, hsettled, hget⟩ := c.decay_keeps x
  obtain ⟨hdomain, hget'⟩ := b.retimed_keeps (c.decay x)
  have hboundary : b.domainBoundary x = b.retimed (c.decay x) := Block.domainBoundary_of_slave hnew hslave
  have hshown (y : Nat) : ((b.domainBoundary x).domain y).settled = ((c.setDomain x { c.domain x with inc := i }).domain y).settled := by
    rw [hboundary, hdomain]
    exact congrFun hsettled y
  have hreg (f : Field) (h : f.key ∉ parentKeys x) (h' : f.key ≠ F.TST_INJ_CNT.key) : (b.domainBoundary x).get f = c.get f := by
    rw [hboundary, hget' f (by simpa using h'), hget f h, Block.get_setDomain]
  have hd : d.settled = ({ c.domain x with inc := i } : Domain).settled := by rw [hshown, Block.domain_setDomain_same]
  have ho : ((b.domainBoundary x).domain (1 - x)).settled = (c.domain (1 - x)).settled := by rw [hshown, Block.domain_setDomain_other hx]
  have hinc : d.inc = i := (congrArg Domain.inc hd :)
  exact ⟨⟨⟨(congrArg Domain.time hd :), (congrArg Domain.epochSeen hd :)⟩,
      ⟨(congrArg Domain.synced hd :), (congrArg Domain.pending hd :)⟩,
      (congrArg Domain.selfStep hd :), hinc ▸ hi⟩, (congrArg Domain.time ho :),
    hreg _ (by simp [parentKeys, Field.key]; omega) (by simp only [Field.key]; omega),
    hreg _ (by simp [parentKeys, Field.key]; omega) (by simp only [Field.key]; omega)⟩

section

variable (hx : x < 2) (hnew : epochOf (b.domain x).time ≠ (b.domain x).epochSeen) (hslave : b.syncState x ≠ syMaster)
include hx hnew hslave

/-- Every boundary takes the mark of a valid sync and the correction away, leaves the other counter and counts a missed epoch. -/
theorem Block.domainBoundary_marks :
    ((b.domainBoundary x).domain x).synced = false ∧ ((b.domainBoundary x).domain x).pending = none ∧
      ((b.domainBoundary x).domain (1 - x)).time = (b.domain (1 - x)).time ∧
      (b.domainBoundary x).get (F.TIM_DOM_STATE_MISSED x) =
        if (b.domain x).synced then b.get (F.TIM_DOM_STATE_MISSED x) else satU 8 (b.get (F.TIM_DOM_STATE_MISSED x) + 1) := by
  obtain ⟨⟨-, ⟨hsynced, hpending⟩, -, -⟩, hother, hmissed, -⟩ := Block.domainBoundary_reads hx hnew hslave
  obtain ⟨f, o, hended⟩ := b.domain_epochEnded x
  obtain ⟨-, -, hotherEnded⟩ := Block.stamp_epochEnded hx b
  obtain ⟨d, hdomain, ⟨hnone, hmark, -⟩, hget⟩ := Block.correct_replaces ((b.syncState_epochEnded x).trans_ne hslave)
  refine ⟨?_, ?_, ?_, ?_⟩
  · rw [hsynced, hdomain, Block.domain_setDomain_same, hmark, hended]
  · rw [hpending, hdomain, Block.domain_setDomain_same, hnone]
  · rw [hother, hdomain, Block.domain_setDomain_other hx, hotherEnded]
  · rw [hmissed, hget _ (fun i => by simp only [Field.key]; omega) (by simp only [Field.key]; omega), Block.missed_epochEnded hslave]

/-- Without a valid sync the counter stands (R223). -/
theorem Block.domainBoundary_unsynced (hnone : (b.domain x).pending = none) :
    ((b.domainBoundary x).domain x).time = (b.domain x).time ∧ ((b.domainBoundary x).domain x).epochSeen = epochOf (b.domain x).time := by
  obtain ⟨⟨⟨htime, hseen⟩, -⟩, -⟩ := Block.domainBoundary_reads hx hnew hslave
  obtain ⟨f, o, hended⟩ := b.domain_epochEnded x
  obtain ⟨i, hi⟩ := Block.correct_none (b := b.epochEnded x) (by rw [hended]; exact hnone) ((b.syncState_epochEnded x).trans_ne hslave)
  rw [htime, hseen, hi, Block.domain_setDomain_same, hended]
  exact ⟨rfl, rfl⟩

section

variable {theta : Int} {inc : Nat} (hpend : (b.domain x).pending = some (theta, inc))
include hpend

theorem Block.domainBoundary_limits :
    ((b.domainBoundary x).domain x).inc ≤ 17188459118 ∧ 17171279250 ≤ ((b.domainBoundary x).domain x).inc := by
  obtain ⟨⟨-, -, -, hinc⟩, -⟩ := Block.domainBoundary_reads hx hnew hslave
  obtain ⟨d, hdomain, ⟨-, -, hlimits⟩, -⟩ := Block.correct_replaces ((b.syncState_epochEnded x).trans_ne hslave)
  obtain ⟨⟨hlow, hhigh⟩, hlow', hhigh'⟩ := hlimits (by rw [Block.pending_epochEnded, hpend]; exact Option.some_ne_none _)
  rw [hdomain, Block.domain_setDomain_same] at hinc
  rcases hinc with h | h <;> rw [h]
  · exact ⟨hhigh, hlow⟩
  · exact ⟨hhigh', hlow'⟩

theorem Block.domainBoundary_within (hwithin : theta.natAbs ≤ b.get (F.TIM_DOM_SERVO_STEP_THR_NS x) * 2 ^ 32) :
    ((b.domainBoundary x).domain x).time = (b.domain x).time ∧ ((b.domainBoundary x).domain x).epochSeen = epochOf (b.domain x).time := by
  obtain ⟨⟨⟨htime, hseen⟩, -⟩, -⟩ := Block.domainBoundary_reads hx hnew hslave
  obtain ⟨f, o, hended⟩ := b.domain_epochEnded x
  have hcorrect := Block.correct_within (b := b.epochEnded x) ((b.pending_epochEnded x).trans hpend)
    (by rw [Block.threshold_epochEnded]; exact hwithin)
  rw [htime, hseen, hcorrect, Block.domain_setDomain_same, hended]
  exact ⟨rfl, rfl⟩

theorem Block.domainBoundary_steps (hbeyond : b.beyondStep x theta) (hself : ¬ (b.time.established = true ∧ b.stampDom = x)) :
    ((b.domainBoundary x).domain x).time = wrapTime ((b.domain x).time - theta) ∧
      (b.domainBoundary x).get (F.TIM_DOM_STEP_CNT x) = satU 32 (b.get (F.TIM_DOM_STEP_CNT x) + 1) := by
  obtain ⟨⟨⟨htime, -⟩, -⟩, -, -, hcount⟩ := Block.domainBoundary_reads hx hnew hslave
  obtain ⟨f, o, hended⟩ := b.domain_epochEnded x
  obtain ⟨hest, hstamp, -⟩ := Block.stamp_epochEnded hx b
  obtain ⟨hstepped, hcounted, -⟩ := Block.correct_steps_reads (b := b.epochEnded x) ((b.pending_epochEnded x).trans hpend)
    (by rw [Block.beyondStep, Block.threshold_epochEnded]; exact hbeyond) (by rw [hest, hstamp]; exact hself)
  rw [htime, hstepped, Block.domain_setDomain_same, Block.domainStepped, hcount, hcounted, hended,
    Block.get_epochEnded (by simp [missedKeys, Field.key])]
  exact ⟨rfl, rfl⟩

theorem Block.domainBoundary_stamping (hbeyond : b.beyondStep x theta) (hest : b.time.established = true) (hstamp : b.stampDom = x) :
    ((b.domainBoundary x).domain x).time = (b.domain x).time ∧ ((b.domainBoundary x).domain x).selfStep = some theta := by
  obtain ⟨⟨⟨htime, -⟩, -, hstep, -⟩, -⟩ := Block.domainBoundary_reads hx hnew hslave
  obtain ⟨f, o, hended⟩ := b.domain_epochEnded x
  obtain ⟨hest', hstamp', -⟩ := Block.stamp_epochEnded hx b
  have hcorrect := Block.correct_stamping (b := b.epochEnded x) ((b.pending_epochEnded x).trans hpend)
    (by rw [Block.beyondStep, Block.threshold_epochEnded]; exact hbeyond) (hest'.trans hest) (hstamp'.trans hstamp)
  rw [htime, hstep, hcorrect, Block.domain_setDomain_same, hended]
  exact ⟨rfl, rfl⟩

end

end

end

end Sys2Proof.Machine

/-! SUPPORT. TIM_x_MSET_HI, with and without a held low half (R74, R242), and the end of a slew (R231). -/

namespace Sys2Proof.Machine

open Sys2Proof

/-! ### A master's set time (R74, R242) -/

/-- A _HI write without a held _LO word and with no locked field: the register's operation on the word alone (R74). -/
theorem writeWord_of_loneHigh {b : Block} {a : Access} {addr : Nat} (hadmits : b.admits a addr true = true) (hwide : wideAt addr = .hi)
    (hheld : b.heldFor a.who addr = none) (hhi : b.lockedBits a.who addr = []) (w : Nat) :
    writeWord a.who addr w b =
      (let r := regOp a.who addr none w (b.touched addr)
       if r.2 == .ok || r.2 == .tierLocked then (r.1.rewritten addr false, r.2) else r) := by
  obtain ⟨hwindow, hrefuse⟩ := Block.unrefused_of_admits hadmits
  have hmask := Block.maskWord_of_unlocked ((b.lockedBits_touched a.who addr).trans hhi)
  simp [writeWord, hwindow, guardedWrite, hrefuse, hwide, hheld, Block.heldFor_touched, Block.allLocked_of_unlocked hhi, hmask]

/-- Where TIM_x_MSET_HI stands. -/
abbrev masterSetAddr (x : Nat) : Nat := 0x50124 + 0x80 * x

theorem wideAt_masterSet {x : Nat} (hx : x < 2) : wideAt (masterSetAddr x) = .hi := by
  interval_cases x <;> decide

theorem domainAt_masterSet {x : Nat} (hx : x < 2) : domainAt (masterSetAddr x) = none := by
  interval_cases x <;> rfl

/-- The time island's registers are not mirrored. -/
theorem mirrored_masterSet {x : Nat} (hx : x < 2) (w : Nat) : mirrored (masterSetAddr x) w = false := by
  interval_cases x <;> simp [masterSetAddr, mirrored, mirrorable, resident]

section

variable {b : Block} {x w : Nat}

theorem masterSetOp_of_slave (hgo : bitAt w 31 = true) (hslave : b.syncState x ≠ syMaster) (lo : Option Nat) :
    masterSetOp x lo w b = (b.bump F.TIM_REFUSE_CNT, .busyResource) := by
  unfold masterSetOp
  rw [hgo, if_pos (by simpa using hslave)]

theorem masterSetOp_of_master (hgo : bitAt w 31 = true) (hmaster : b.syncState x = syMaster) (lo : Option Nat) :
    masterSetOp x lo w b = (((lo.elim b (b.put (F.TIM_DOM_MSET_LO x))).put (F.TIM_DOM_MSET_HI_WRAP x) (bitsOf w 15 0)).put
      (F.TIM_DOM_MSET_HI_GO x) 1, .ok) := by
  unfold masterSetOp
  rw [hgo, if_neg (by simp [hmaster])]
  cases lo <;> rfl

end

section

variable {a : Access} {x : Nat} {w : Word} {s : State} (hwf : a.wf = true) (hx : x < 2) (htakes : s.hw.takes a = true)
  (hadmits : s.hw.admits a (masterSetAddr x) true = true) (hhi : s.hw.lockedBits a.who (masterSetAddr x) = [])
include hwf hx htakes hadmits hhi

omit hadmits hhi in
/-- GO is one write of TIM_x_MSET_HI, and its answer. -/
theorem exec_masterSetGo_write : exec (.masterSetGo a x w) s =
    .next { s with
      hw := s.hw.finished a (masterSetAddr x) (setBit w.toNat 31 true) (writeWord a.who (masterSetAddr x) (setBit w.toNat 31 true) s.hw) } := by
  rw [exec_masterSetGo _ _ _ _ (by simp [Instr.wf, hwf, hx]), masterSetGo, submit_write_of_takes htakes (.inr (mirrored_masterSet hx _))]

theorem exec_masterSetGo_lone (hheld : s.hw.heldFor a.who (masterSetAddr x) = none) :
    exec (.masterSetGo a x w) s = .next { s with
      hw := s.hw.answered a (masterSetAddr x) (setBit w.toNat 31 true) (masterSetOp x none (setBit w.toNat 31 true) s.hw) } := by
  rw [exec_masterSetGo_write hwf hx htakes, writeWord_of_loneHigh hadmits (wideAt_masterSet hx) hheld hhi, regOp_masterSet _ hx,
    Block.touched_of_none _ _ (domainAt_masterSet hx)]
  rfl

theorem exec_masterSetGo_held {lo : Nat} (hlo : s.hw.lockedBits a.who (masterSetAddr x - 4) = [])
    (hheld : s.hw.heldFor a.who (masterSetAddr x) = some lo) (hmaster : s.hw.syncState x = syMaster) :
    let v := setBit w.toNat 31 true
    let c := (((s.hw.dropHeld a.who).put (F.TIM_DOM_MSET_LO x) lo).put (F.TIM_DOM_MSET_HI_WRAP x) (bitsOf v 15 0)).put (F.TIM_DOM_MSET_HI_GO x) 1
    exec (.masterSetGo a x w) s = .next { s with hw := s.hw.finished a (masterSetAddr x) v (c.rewritten (masterSetAddr x) true, .ok) } := by
  intro v c
  have hmaster' : (s.hw.dropHeld a.who).syncState x = syMaster := hmaster
  rw [exec_masterSetGo_write hwf hx htakes, writeWord_of_held hadmits (wideAt_masterSet hx) (by unfold masterSetAddr; omega) hheld hhi hlo,
    regOp_masterSet _ hx, Block.touched_of_none _ _ (domainAt_masterSet hx), masterSetOp_of_master (bitAt_setBit_true _ _) hmaster']
  rfl

end

/-! ### The end of a slew (R231) -/

theorem exec_slewEnd_done {s : State} (hdone : s.hw.time.resid = 0) (hslews : s.hw.flag F.TIM_STAT_SLEWING = true) :
    exec .slewEnd s = .next { s with hw := s.hw.put F.TIM_STAT_SLEWING 0 } := by
  rw [exec_slewEnd _ rfl, slewEnd, hslews, hdone]
  rfl

theorem exec_slewEnd_slewing {s : State} (hresid : s.hw.time.resid ≠ 0) : exec .slewEnd s = .next s := by
  rw [exec_slewEnd _ rfl, slewEnd, beq_eq_false_iff_ne.2 hresid, Bool.and_false, whenDue_false]

end Sys2Proof.Machine

namespace Sys2Proof.Proofs

open Sys2Proof Sys2Proof.Machine

/-- Settles O44: a boundary by the block after its correction, GO by the register's operation, the end of a slew by its residual. -/
theorem domainBoundaries : Obligations.DomainBoundaries := by
  refine ⟨fun x s hx hon => ?boundary, ?masterSet,
    fun s => ⟨exec_slewEnd_done, exec_slewEnd_slewing⟩⟩
  case boundary =>
    intro b d
    have hexec : exec (.domainEpochBoundary x) s = .next { s with hw := b.domainBoundary x } := by
      rw [exec_domainEpochBoundary _ _ (decide_eq_true hx), domainEpochBoundary, hon, whenDue_true]
    refine ⟨fun hseen => ?_, fun hnew hslave => ⟨_, hexec, rfl, ?_⟩⟩
    · rw [hexec, Block.domainBoundary, if_pos hseen]
    · obtain ⟨hsynced, hpending, hother, hmissed⟩ := Block.domainBoundary_marks hx hnew hslave
      refine ⟨hsynced, hpending, hother, hmissed, fun theta inc hpend => ?_, Block.domainBoundary_unsynced hx hnew hslave⟩
      obtain ⟨hhigh, hlow⟩ := Block.domainBoundary_limits hx hnew hslave hpend
      exact ⟨hhigh, hlow, Block.domainBoundary_within hx hnew hslave hpend, Block.domainBoundary_steps hx hnew hslave hpend,
        Block.domainBoundary_stamping hx hnew hslave hpend⟩
  case masterSet =>
    intro a x w s hwf hx addr v b htakes hadmits hhi hlo
    refine ⟨fun hheld => ?_, fun lo hheld hmaster => exec_masterSetGo_held hwf hx htakes hadmits hhi hlo hheld hmaster⟩
    have hgo : bitAt v 31 = true := bitAt_setBit_true _ _
    have hwrite := exec_masterSetGo_lone (w := w) hwf hx htakes hadmits hhi hheld
    exact ⟨fun hslave => by rw [hwrite, masterSetOp_of_slave hgo hslave]; rfl,
      fun hmaster => by rw [hwrite, masterSetOp_of_master hgo hmaster]; rfl⟩

end Sys2Proof.Proofs

/-! SUPPORT. Edges of a pin: whether the pin takes part, what an activation and a deactivation leave, and what showing the level leaves alone
(R249, R251, R254, R262). -/

namespace Sys2Proof.Machine

open Sys2Proof

/-! ### What the level shown leaves as it was -/

/-- Showing a pin's level changes no field of its configuration. -/
theorem Block.get_pinCfg_putStat (b : Block) (i : Nat) (v : Bool) {lo width reset : Nat} (h : lo < 32) :
    (b.putB (F.TDC_PIN_STAT i) v).get ⟨0x60100 + i * 0x8, lo, width, reset⟩ = b.get ⟨0x60100 + i * 0x8, lo, width, reset⟩ := by
  refine Block.get_put_other _ _ _ _ ?_
  simp only [Field.key]
  omega

theorem Block.pinFunction_putStat (b : Block) (i : Nat) (v : Bool) : (b.putB (F.TDC_PIN_STAT i) v).pinFunction i = b.pinFunction i := by
  rw [Block.pinFunction, Block.get_pinCfg_putStat _ _ _ (by decide), Block.pinFunction]

theorem Block.flag_trailEn_putStat (b : Block) (i : Nat) (v : Bool) :
    (b.putB (F.TDC_PIN_STAT i) v).flag (F.TDC_PIN_CFG_TRAIL_EN i) = b.flag (F.TDC_PIN_CFG_TRAIL_EN i) :=
  congrArg (· != 0) (b.get_pinCfg_putStat i v (by decide))

/-! ### A pin's function and its converter -/

section

variable {b : Block} {i : Nat}

theorem Block.pinFunction_of_none (h : b.get (F.TDC_PIN_CFG_FUNCTION i) = 0) : b.pinFunction i = 0 := by
  simp [Block.pinFunction, h]

theorem Block.pinFunction_ne_zero (h : b.get (F.TDC_PIN_CFG_FUNCTION i) ≠ 0) : b.pinFunction i ≠ 0 := by
  unfold Block.pinFunction
  dsimp only
  split
  · exact one_ne_zero
  · exact h

/-- ARM on an XEVT pin acts as STAMP. -/
theorem Block.pinFunction_of_xevt (h : b.get (F.TDC_PIN_CFG_FUNCTION i) = 2) (hi : 4 ≤ i) : b.pinFunction i = 1 := by
  simp [Block.pinFunction, h, hi]

/-- A pin's converter is past its dead time and has room: the edge is recorded. -/
def Block.pinFree (b : Block) (i : Nat) (x : Crossing) : Bool := !b.inDeadTime (1024 + i) x && decide (b.wordsOf (1024 + i) < 64)

theorem Block.convert_of_pinFree {x : Crossing} (h : b.pinFree i x = true) (trail : Bool) :
    b.convert (1024 + i) trail x = (b.record (1024 + i) trail x, true) := by
  rw [Block.pinFree, Bool.and_eq_true, Bool.not_eq_true', decide_eq_true_eq] at h
  have hbuffer : bufferWords (1024 + i) = 64 := if_neg (by omega)
  exact Block.convert_of_room trail h.1 (hbuffer ▸ h.2)

/-! ### An activation (R249, R251, R254) -/

/-- A recorded activation starts the pin's hold-off, and with ARM in force opens a window at its time. -/
def Block.pinRecorded (b : Block) (i : Nat) (x : Crossing) : Block :=
  let b2 := b.record (1024 + i) false x
  let b3 : Block := { b2 with tdc := { b2.tdc with pinHold := insertKey b2.tdc.pinHold i (b.tick + b.get (F.TDC_PIN_CFG_HOLDOFF i)) } }
  if b.pinFunction i = 2 then b3.openWindow i (b.edgeTime (1024 + i) x) else b3

section

variable (k : Nat) (hcal : b.calHas (1024 + i) false = false)
include hcal

/-- In hold-off an activation is counted, and no more. -/
theorem Block.pinUp_of_held {t : Nat} (hheld : lookup b.tdc.pinHold i = some t) (ht : b.tick < t) :
    b.pinUp i k = b.bump (F.TDC_PIN_HOLD_CNT i) := by
  simp [Block.pinUp, hcal, hheld, ht]

theorem Block.pinUp_of_free (hpast : ∀ t, lookup b.tdc.pinHold i = some t → t ≤ b.tick) (hfree : b.pinFree i (b.crossing k) = true) :
    b.pinUp i k = b.pinRecorded i (b.crossing k) := by
  have hconvert := Block.convert_of_pinFree hfree false
  cases hheld : lookup b.tdc.pinHold i with
  | none => simp [Block.pinUp, Block.pinRecorded, hcal, hheld, hconvert]
  | some t => simp [Block.pinUp, Block.pinRecorded, hcal, hheld, Nat.not_lt.2 (hpast t hheld), hconvert]

end

/-! ### A deactivation (R249, R254) -/

/-- The deactivation of an ARM pin closes its window. -/
def Block.pinClosed (b : Block) (i : Nat) (x : Crossing) : Block :=
  if b.pinFunction i = 2 then b.closeWindow i (b.edgeTime (1024 + i) x) else b

/-- Closing a window changes no more than the windows. -/
theorem Block.closeWindow_eq (b : Block) (g t : Nat) : ∃ gates, b.closeWindow g t = { b with tdc := { b.tdc with gates := gates } } := by
  unfold Block.closeWindow
  split
  · exact ⟨_, rfl⟩
  · exact ⟨b.tdc.gates, rfl⟩

/-- A window that closes touches neither the dead time nor the buffer of the pin. -/
theorem Block.pinFree_pinClosed (b : Block) (i : Nat) (x : Crossing) : (b.pinClosed i x).pinFree i x = b.pinFree i x := by
  unfold Block.pinClosed
  split
  · obtain ⟨gates, hgates⟩ := b.closeWindow_eq i (b.edgeTime (1024 + i) x)
    rw [hgates]
    rfl
  · rfl

section

variable (k : Nat) (hcal : b.calHas (1024 + i) false = false)
include hcal

theorem Block.pinDown_of_noTrail (h : b.flag (F.TDC_PIN_CFG_TRAIL_EN i) = false) : b.pinDown i k = b.pinClosed i (b.crossing k) := by
  simp [Block.pinDown, Block.pinClosed, hcal, h]

/-- With TRAIL_EN the trailing word is recorded, in hold-off or not. -/
theorem Block.pinDown_of_trail (h : b.flag (F.TDC_PIN_CFG_TRAIL_EN i) = true) (hfree : b.pinFree i (b.crossing k) = true) :
    b.pinDown i k = (b.pinClosed i (b.crossing k)).record (1024 + i) true (b.crossing k) := by
  have hconvert := Block.convert_of_pinFree ((b.pinFree_pinClosed i (b.crossing k)).trans hfree) true
  calc b.pinDown i k
      = ((b.pinClosed i (b.crossing k)).convert (1024 + i) true (b.crossing k)).1 := by
        simp [Block.pinDown, Block.pinClosed, hcal, h]
    _ = (b.pinClosed i (b.crossing k)).record (1024 + i) true (b.crossing k) := by rw [hconvert]

end

/-! ### TDC_EDGE at a pin -/

/-- A pin without a function takes no edge. -/
theorem tdcEdge_of_noFunction (h : b.pinFunction i = 0) (ev k : Nat) : tdcEdge (1024 + i) ev k b = b := by
  rw [tdcEdge, if_neg (by omega), Nat.add_sub_cancel_left, whenDue_of_notDue (by simp [h])]

/-- A pin with a function takes its rise, 0, and its fall, 2. -/
theorem tdcEdge_of_function (hrails : b.phase.railsOn = true) (h : b.pinFunction i ≠ 0) (high : Bool) (k : Nat) :
    tdcEdge (1024 + i) (if high then 0 else 2) k b = b.pinEdge i high k := by
  rw [tdcEdge, if_neg (by omega), Nat.add_sub_cancel_left]
  cases high <;> simp [whenDue, hrails, h]

variable {high : Bool}

theorem Block.pinEdge_of_same (h : (high != b.flag (F.TDC_PIN_CFG_INVERT i)) = b.flag (F.TDC_PIN_STAT i)) (k : Nat) :
    b.pinEdge i high k = b :=
  if_pos (beq_iff_eq.2 h)

section

variable (hnew : (high != b.flag (F.TDC_PIN_CFG_INVERT i)) ≠ b.flag (F.TDC_PIN_STAT i))
include hnew

theorem Block.pinEdge_of_up (hon : (high != b.flag (F.TDC_PIN_CFG_INVERT i)) = true) (k : Nat) :
    b.pinEdge i high k = (b.putB (F.TDC_PIN_STAT i) (high != b.flag (F.TDC_PIN_CFG_INVERT i))).pinUp i k := by
  rw [hon] at hnew ⊢
  rw [Block.pinEdge, hon, if_neg (by simpa using hnew), if_pos rfl]

theorem Block.pinEdge_of_down (hoff : (high != b.flag (F.TDC_PIN_CFG_INVERT i)) = false) (k : Nat) :
    b.pinEdge i high k = (b.putB (F.TDC_PIN_STAT i) (high != b.flag (F.TDC_PIN_CFG_INVERT i))).pinDown i k := by
  rw [hoff] at hnew ⊢
  rw [Block.pinEdge, hoff, if_neg (by simpa using hnew), if_neg Bool.false_ne_true]

end

/-- An edge that brings no new level changes nothing, with or without a function. -/
theorem tdcEdge_of_sameLevel (hrails : b.phase.railsOn = true)
    (h : (high != b.flag (F.TDC_PIN_CFG_INVERT i)) = b.flag (F.TDC_PIN_STAT i)) (k : Nat) :
    tdcEdge (1024 + i) (if high then 0 else 2) k b = b := by
  by_cases hfun : b.pinFunction i = 0
  · exact tdcEdge_of_noFunction hfun _ k
  · rw [tdcEdge_of_function hrails hfun, Block.pinEdge_of_same h]

end

end Sys2Proof.Machine

namespace Sys2Proof.Proofs

open Sys2Proof Sys2Proof.Machine

/-- Settles O33: an edge by the pin's function and its level shown, an activation by its hold-off, a deactivation by TRAIL_EN. -/
theorem pinEdges : Obligations.PinEdges := by
  intro i k high s hi hk hrails b x on b1 src free ev
  have hwf : Instr.wf (.tdcEdge src ev k) = true := by
    cases high <;> simp [Instr.wf, src, ev, hk] <;> omega
  have run {d : Block} (h : tdcEdge src ev k b = d) : exec (.tdcEdge src ev k) s = .next { s with hw := d } := by
    rw [exec_tdcEdge _ _ _ _ hwf, h]
  refine ⟨fun hnone => run (tdcEdge_of_noFunction (Block.pinFunction_of_none hnone) ev k), Block.pinFunction_of_xevt,
    fun hsame => run (tdcEdge_of_sameLevel hrails hsame k), fun hfun hnew hcal => ?newLevel⟩
  have hedge := tdcEdge_of_function hrails (Block.pinFunction_ne_zero hfun) high k
  have hcal1 : b1.calHas src false = false := hcal
  have hfunction : b1.pinFunction i = b.pinFunction i := b.pinFunction_putStat i on
  have htrailEn : b1.flag (F.TDC_PIN_CFG_TRAIL_EN i) = b.flag (F.TDC_PIN_CFG_TRAIL_EN i) := b.flag_trailEn_putStat i on
  have hholdoff : b1.get (F.TDC_PIN_CFG_HOLDOFF i) = b.get (F.TDC_PIN_CFG_HOLDOFF i) := b.get_pinCfg_putStat i on (by decide)
  refine ⟨fun hon => ?up, fun t hon hheld ht => ?held, fun hoff => ?down⟩
  case up =>
    intro hpast hfree b2 b3
    have hfree1 : b1.pinFree i (b1.crossing k) = true := hfree
    refine run ((hedge.trans (Block.pinEdge_of_up hnew hon k)).trans ((Block.pinUp_of_free k hcal1 hpast hfree1).trans ?_))
    rw [Block.pinRecorded, hfunction, hholdoff]
    rfl
  case held => exact run ((hedge.trans (Block.pinEdge_of_up hnew hon k)).trans (Block.pinUp_of_held k hcal1 hheld ht))
  case down =>
    have hdown := hedge.trans (Block.pinEdge_of_down hnew hoff k)
    have hclosed : b1.pinClosed i (b1.crossing k) = if b.pinFunction i = 2 then b1.closeWindow i (b.edgeTime src x) else b1 := by
      rw [Block.pinClosed, hfunction]
      rfl
    refine ⟨fun htrail => run (hdown.trans ?_), fun htrail hfree => run (hdown.trans ?_)⟩
    · rw [← hclosed]
      exact Block.pinDown_of_noTrail k hcal1 (htrailEn.trans htrail)
    · have hfree1 : b1.pinFree i (b1.crossing k) = true := hfree
      rw [← hclosed]
      exact Block.pinDown_of_trail k hcal1 (htrailEn.trans htrail) hfree1

end Sys2Proof.Proofs

/-! SUPPORT. A gate that stays open for more than half of the wrap of the time: the difference of the shorter way round (R254, R255). -/

namespace Sys2Proof.Machine

open Sys2Proof

/-- Of two times more than half of the wrap apart the later one counts as the earlier. -/
theorem visibleDiff_nonneg_of_far {a c : Nat} (hfar : a + 2 ^ 57 < c) (hwrap : c < a + 2 ^ 58) : 0 ≤ visibleDiff a c := by
  have hmod : ((a : Int) - c) % (2 ^ 58 : Nat) = (a : Int) - c + (2 ^ 58 : Nat) := by
    rw [← Int.add_emod_right, Int.emod_eq_of_lt (by omega) (by omega)]
  unfold visibleDiff
  rw [hmod]
  dsimp only
  rw [if_pos (by omega)]
  omega

/-- A window that was open for more than half of the wrap keeps out even its leading edge's time. -/
theorem GateWindow.not_admits_lead_of_long {w : GateWindow} {t at_ : Nat} (htrail : w.trail = some (t, at_)) (hlong : w.lead + 2 ^ 57 < t)
    (hwrap : t < w.lead + 2 ^ 58) : w.admits w.lead = false := by
  have hdiff := visibleDiff_nonneg_of_far hlong hwrap
  simp [GateWindow.admits, htrail, Int.not_lt.2 hdiff]

end Sys2Proof.Machine

namespace Sys2Proof.Proofs

open Sys2Proof Sys2Proof.Machine

/-- Refutes O34: a window with its leading edge at 0 and its trailing edge at 2^57 + 1 in 1/1024 ns, a gate open for a little more than 39
hours, keeps out its leading edge's time, since times are compared the shorter way round the 58 bits. -/
theorem not_hitsAreReleasedInOrder : ¬ Obligations.HitsAreReleasedInOrder := by
  unfold Obligations.HitsAreReleasedInOrder
  rintro ⟨-, -, hwindow⟩
  let w : GateWindow := ⟨0, some (2 ^ 57 + 1, 0)⟩
  have hadmits : w.admits w.lead = true := (hwindow w (2 ^ 57 + 1) 0 (by decide) rfl).1
  have hnot : w.admits w.lead = false := GateWindow.not_admits_lead_of_long (w := w) rfl (by decide) (by decide)
  exact Bool.false_ne_true (hnot.symm.trans hadmits)

end Sys2Proof.Proofs

/-! SUPPORT. Code-density calibration: a write of TDC_CAL_CMD by what runs, a load through the window, a source that has its edges, and what the
last source to finish leaves (R258 to R262). -/

namespace Sys2Proof.Machine

open Sys2Proof

section

variable {b : Block} {w : Nat}

/-! ### Writes of TDC_CAL_CMD and of TDC_CAL_INFO (R260 to R262) -/

section

variable (hgo : bitAt w 31 = true) (habort : bitAt w 30 = false)
include hgo habort

/-- GO while a calibration runs. -/
theorem tdcCalOp_of_running (hcal : b.tdc.cal ≠ none) : tdcCalOp w b = (b.bump F.TDC_REFUSE_CNT, .busyResource) := by
  simp [tdcCalOp, hgo, habort, Option.isSome_iff_ne_none.2 hcal]

/-- GO with MODE INTERNAL or LIVE, and nothing under way. -/
theorem tdcCalOp_of_idle (hcal : b.tdc.cal = none) (hmode : bitsOf w 29 28 = 1 ∨ bitsOf w 29 28 = 2) :
    tdcCalOp w b = (b.startCal (bitsOf w 29 28 == 2) (scopeSources (bitsOf w 27 26) (bitsOf w 10 0)), .ok) := by
  simp [tdcCalOp, hgo, habort, hcal, hmode]

end

theorem tdcCalOp_of_abort (hgo : bitAt w 31 = false) (habort : bitAt w 30 = true) : tdcCalOp w b = (b.abortCal, .ok) := by
  simp [tdcCalOp, hgo, habort]

theorem Block.abortCal_of_running {c : CalRun} (hcal : b.tdc.cal = some c) :
    b.abortCal =
      (let b1 := (b.put F.TDC_CAL_STAT_BUSY 0).put F.TDC_CAL_STAT_RESULT 1
       { b1 with tdc := { b1.tdc with cal := none } }) := by
  rw [Block.abortCal, hcal]

/-- LOAD for a source that the window reaches. -/
theorem tdcWindowOp_of_load (hload : bitAt w 31 = true) (hreach : b.windowRefuse = none) :
    tdcWindowOp 0x61200 w b = (b.install b.calSrc b.stagingTable, .ok) := by
  simp [tdcWindowOp, hreach, hload]

theorem regOp_tdcLoad (who : Requester) : regOp who 0x61200 = plainOp (tdcWindowOp 0x61200) := by
  simp [regOp, tileOf, coreOp]

/-! ### The commands of a requester -/

section

variable {a : Access} {w : Word} {s : State} (hwf : a.wf = true)
include hwf

theorem exec_tdcCalGo_of_acts (hacts : s.hw.acts a 0x60010 (setBit w.toNat 31 true) = true) :
    exec (.tdcCalGo a w) s =
      .next { s with hw := s.hw.answered a 0x60010 (setBit w.toNat 31 true) (tdcCalOp (setBit w.toNat 31 true) s.hw) } := by
  rw [exec_tdcCalGo _ _ _ hwf, tdcCalGo, submit_of_plainOp (regOp_tdcCal _) hacts, Block.touched_of_none _ _ rfl]

theorem exec_tdcCalAbort_of_acts (hacts : s.hw.acts a 0x60010 (setBit w.toNat 30 true) = true) :
    exec (.tdcCalAbort a w) s =
      .next { s with hw := s.hw.answered a 0x60010 (setBit w.toNat 30 true) (tdcCalOp (setBit w.toNat 30 true) s.hw) } := by
  rw [exec_tdcCalAbort _ _ _ hwf, tdcCalAbort, submit_of_plainOp (regOp_tdcCal _) hacts, Block.touched_of_none _ _ rfl]

theorem exec_tdcTableLoad_of_acts (hacts : s.hw.acts a 0x61200 (setBit w.toNat 31 true) = true) :
    exec (.tdcTableLoad a w) s =
      .next { s with hw := s.hw.answered a 0x61200 (setBit w.toNat 31 true) (tdcWindowOp 0x61200 (setBit w.toNat 31 true) s.hw) } := by
  rw [exec_tdcTableLoad _ _ _ hwf, tdcTableLoad, submit_of_plainOp (regOp_tdcLoad _) hacts, Block.touched_of_none _ _ rfl]

end

/-! ### A source under calibration (R258, R259) -/

/-- The edges that a calibration takes of a source: those counted under LIVE, the oscillator's under INTERNAL. -/
def CalRun.edgesOf (c : CalRun) (src : Nat) (counts : List Nat) : List Nat := if c.live then c.countsOf src else counts

section

variable {c : CalRun} {src : Nat} {counts : List Nat} (hcal : b.tdc.cal = some c) (htodo : src ∈ c.todo)
include hcal htodo

/-- A source that has its edges: its table is installed where they are uniform, and otherwise it fails. -/
theorem tdcCalSourceDone_of_due (hlen : (c.edgesOf src counts).length = 256) (hits : b.calHits ≤ (c.edgesOf src counts).sum)
    (hexact : c.live = true ∨ (c.edgesOf src counts).sum = b.calHits) :
    tdcCalSourceDone src counts b =
      if uniform (c.edgesOf src counts) then (b.install src (tableOf (c.edgesOf src counts))).calFinish src true
      else b.calFinish src false := by
  rw [tdcCalSourceDone, hcal]
  dsimp only
  rw [← CalRun.edgesOf, whenDue_of_due (by simp [htodo, hlen, hits, hexact])]

theorem tdcCalTimeout_of_due (hlive : c.live = true) (hdue : c.start + max 1 (b.get F.TDC_CAL_CFG_TIMEOUT_S) * sTicks ≤ b.tick) :
    tdcCalTimeout src b = b.calFinish src false := by
  rw [tdcCalTimeout, hcal]
  exact whenDue_of_due (by simp [htodo, hlive, hdue]) _ _

end

/-! ### The last source finishes (R261) -/

/-- A finished source is counted in DONE or FAILED. -/
def Block.calCounted (b : Block) (ok : Bool) : Block :=
  if ok then b.put F.TDC_CAL_STAT_DONE (satU 12 (b.get F.TDC_CAL_STAT_DONE + 1))
  else b.put F.TDC_CAL_STAT_FAILED (satU 12 (b.get F.TDC_CAL_STAT_FAILED + 1))

/-- No source has failed once this one is counted: it did not fail, nor did one before it. -/
theorem Block.calCounted_failed (b : Block) (ok : Bool) :
    (b.calCounted ok).get F.TDC_CAL_STAT_FAILED = 0 ↔ ok = true ∧ b.get F.TDC_CAL_STAT_FAILED = 0 := by
  cases ok with
  | true =>
    rw [Block.calCounted, if_pos rfl, Block.get_put_other _ _ _ _ (by decide)]
    exact (and_iff_right rfl).symm
  | false =>
    have hpos : satU 12 (b.get F.TDC_CAL_STAT_FAILED + 1) % 2 ^ 12 ≠ 0 := by
      unfold satU
      split <;> omega
    rw [Block.calCounted, if_neg Bool.false_ne_true, Block.get_put_same]
    exact iff_of_false hpos fun h => Bool.false_ne_true h.1

/-- The calibration ends: BUSY falls, and RESULT says whether a source failed. -/
def Block.calEnded (b : Block) : Block :=
  let b1 := (b.put F.TDC_CAL_STAT_BUSY 0).put F.TDC_CAL_STAT_RESULT (if b.get F.TDC_CAL_STAT_FAILED = 0 then 0 else 2)
  { b1 with tdc := { b1.tdc with cal := none } }

/-- The tables installed stay in force. -/
theorem Block.calEnded_calCounted_tables (b : Block) (ok : Bool) : (b.calCounted ok).calEnded.tdc.tables = b.tdc.tables := by
  cases ok <;> rfl

theorem Block.calFinish_of_last {c : CalRun} {src : Nat} (hcal : b.tdc.cal = some c) (hlast : c.todo = [src]) (ok : Bool) :
    b.calFinish src ok = (b.calCounted ok).calEnded := by
  rw [Block.calFinish, hcal]
  dsimp only
  rw [← Block.calCounted, Block.settleCal]
  simp only [hlast, List.erase_cons_head, List.isEmpty_nil, if_true]
  rfl

theorem Block.get_calEnded_busy (b : Block) : b.calEnded.get F.TDC_CAL_STAT_BUSY = 0 := by
  have hput : b.calEnded.get F.TDC_CAL_STAT_BUSY = (b.put F.TDC_CAL_STAT_BUSY 0).get F.TDC_CAL_STAT_BUSY :=
    Block.get_put_other _ _ _ _ (by decide)
  rw [hput, Block.get_put_same, Nat.zero_mod]

theorem Block.get_calEnded_result (b : Block) :
    b.calEnded.get F.TDC_CAL_STAT_RESULT = if b.get F.TDC_CAL_STAT_FAILED = 0 then 0 else 2 := by
  have hput : b.calEnded.get F.TDC_CAL_STAT_RESULT = (if b.get F.TDC_CAL_STAT_FAILED = 0 then 0 else 2) % 2 ^ 3 :=
    Block.get_put_same _ _ _
  rw [hput]
  split <;> rfl

end

end Sys2Proof.Machine

namespace Sys2Proof.Proofs

open Sys2Proof Sys2Proof.Machine

/-- Settles O35: each write by its register's operation, a source by its edges or its time, the end by what the last source leaves. -/
theorem tdcCalibration : Obligations.TdcCalibration := by
  refine ⟨fun a w s hwf => ⟨?go, fun c => ?abort, ?load⟩,
    fun src counts c s hwf hcal htodo => ⟨fun hlen hits hexact => ?sourceDone, fun hlive hdue => ?timeout, fun hlast ok => ?last⟩⟩
  case go =>
    intro v hacts habort
    have hgo : bitAt v 31 = true := bitAt_setBit_true _ _
    have hwrite := exec_tdcCalGo_of_acts hwf hacts
    exact ⟨fun hruns => by rw [hwrite, tdcCalOp_of_running hgo habort hruns],
      fun hidle hmode => by rw [hwrite, tdcCalOp_of_idle hgo habort hidle hmode]; rfl⟩
  case abort =>
    intro v hacts hgo hcal
    rw [exec_tdcCalAbort_of_acts hwf hacts, tdcCalOp_of_abort hgo (bitAt_setBit_true _ _), Block.abortCal_of_running hcal]
  case load =>
    intro v hacts hreach
    rw [exec_tdcTableLoad_of_acts hwf hacts, tdcWindowOp_of_load (bitAt_setBit_true _ _) hreach]
  case sourceDone =>
    have hdone := exec_tdcCalSourceDone src counts s hwf
    rw [tdcCalSourceDone_of_due hcal htodo hlen hits hexact] at hdone
    refine ⟨fun huniform => ?_, fun hskewed => ?_⟩
    · have hinstalls : uniform (c.edgesOf src counts) = true := huniform
      rw [hdone, if_pos hinstalls]
      rfl
    · have hfails : uniform (c.edgesOf src counts) = false := hskewed
      rw [hdone, if_neg (ne_true_of_eq_false hfails)]
  case timeout =>
    have hsource : Instr.wf (.tdcCalTimeout src) = true := (Bool.and_eq_true _ _ ▸ hwf : _ ∧ _).1
    rw [exec_tdcCalTimeout _ _ hsource, tdcCalTimeout_of_due hcal htodo hlive hdue]
  case last =>
    rw [Block.calFinish_of_last hcal hlast]
    refine ⟨rfl, s.hw.calEnded_calCounted_tables ok, Block.get_calEnded_busy _, ?_⟩
    simp only [Block.get_calEnded_result, Block.calCounted_failed]

end Sys2Proof.Proofs

/-! SUPPORT. Packing jobs: the payload that starts, the engine whose job ends, an armed residue mismatch, the records of a built fragment
(R327, R335, R385 to R388). -/

namespace Sys2Proof.Machine

open Sys2Proof

/-- The windows that are stored have been extracted (R327). -/
def Block.extracted (b : Block) : Block := if b.ccOn then b.extractReady else b

/-- The overflow pool under an epoch's settings (R386). -/
def Block.poolSize (b : Block) (k : Nat) : Nat := clampN 256 8192 ((b.cfgOf k).get F.LPS_POOL_BUFFERS)

section

variable {b : Block} {f : Frag} {p : Payload}

/-! ### A job starts (R386) -/

theorem packJobStart_of_none (hnext : b.extracted.nextJob = none) : packJobStart b = b.extracted := by
  rw [packJobStart, ← Block.extracted, hnext]

section

variable (hnext : b.extracted.nextJob = some (f, p))
include hnext

/-- Too few pool buffers: the payload waits, and its first wait is counted. -/
theorem packJobStart_of_poolFull (hfull : b.extracted.poolSize f.key < b.extracted.poolHeld + p.buffers) :
    (p.job = .waiting false → packJobStart b =
      (b.extracted.bump F.LPS_POOL_WAIT_CNT).setFrag (f.setPayload { p with job := .waiting true })) ∧
    (p.job = .waiting true → packJobStart b = b.extracted) := by
  rw [packJobStart, ← Block.extracted, hnext]
  dsimp only
  rw [← Block.poolSize, if_pos hfull]
  exact ⟨fun hjob => by rw [hjob], fun hjob => by rw [hjob]⟩

theorem packJobStart_of_lowestIdle (hfits : b.extracted.poolHeld + p.buffers ≤ b.extracted.poolSize f.key) {e : Nat} (he : e < 16)
    (hidle : b.extracted.busyEngines.contains e = false) (hlower : ∀ i < e, b.extracted.busyEngines.contains i = true) :
    packJobStart b = b.extracted.setFrag (f.setPayload { p with job := .running e }) := by
  have hlowest : (List.range 16).find? (fun i => !b.extracted.busyEngines.contains i) = some e :=
    List.find?_range_eq_some.2 ⟨by rw [hidle]; rfl, List.mem_range.2 he, fun i hi => by rw [hlower i hi]; rfl⟩
  rw [packJobStart, ← Block.extracted, hnext]
  dsimp only
  rw [← Block.poolSize, if_neg (Nat.not_lt.2 hfits), hlowest]

end

/-! ### The job of an engine -/

/-- An engine packs a payload of a live fragment. -/
def Block.Runs (b : Block) (e : Nat) (f : Frag) (p : Payload) : Prop :=
  f ∈ b.evb.frags ∧ f.alive = true ∧ (∃ x, f.content = some x ∧ p ∈ x.payloads) ∧ p.job = .running e

/-- The payload of a fragment that an engine packs. -/
def Frag.jobOf (f : Frag) (e : Nat) : Option Payload := f.content.bind fun c => c.payloads.find? fun p => p.job == .running e

/-- The payload that an engine packs, with its fragment. -/
def Block.jobOf (b : Block) (e : Nat) : Option (Frag × Payload) :=
  (b.evb.frags.filter Frag.alive).findSome? fun f => (f.jobOf e).map fun p => (f, p)

variable {e : Nat}

theorem Frag.of_jobOf_eq_some (h : f.jobOf e = some p) : (∃ x, f.content = some x ∧ p ∈ x.payloads) ∧ p.job = .running e := by
  obtain ⟨x, hx, hfind⟩ := Option.bind_eq_some_iff.1 h
  exact ⟨⟨x, hx, List.mem_of_find?_eq_some hfind⟩, by simpa using List.find?_some hfind⟩

theorem Frag.jobOf_ne_none {x : Content} (hx : f.content = some x) (hp : p ∈ x.payloads) (hjob : p.job = .running e) : f.jobOf e ≠ none := by
  rw [Frag.jobOf, hx]
  exact fun h => List.find?_eq_none.1 h p hp (beq_iff_eq.2 hjob)

theorem Block.runs_of_jobOf (h : b.jobOf e = some (f, p)) : b.Runs e f p := by
  obtain ⟨g, hg, hmap⟩ := List.exists_of_findSome?_eq_some h
  obtain ⟨q, hq, heq⟩ := Option.map_eq_some_iff.1 hmap
  obtain ⟨rfl, rfl⟩ := Prod.mk.inj heq
  obtain ⟨hmem, halive⟩ := List.mem_filter.1 hg
  obtain ⟨hcontent, hjob⟩ := Frag.of_jobOf_eq_some hq
  exact ⟨hmem, halive, hcontent, hjob⟩

theorem Block.jobOf_eq_none (h : ∀ f p, ¬ b.Runs e f p) : b.jobOf e = none :=
  Option.eq_none_iff_forall_ne_some.2 fun x hx => h x.1 x.2 (Block.runs_of_jobOf hx)

/-- The only payload that an engine packs is the one found. -/
theorem Block.jobOf_of_unique (h : b.Runs e f p) (honly : ∀ g q, b.Runs e g q → g = f ∧ q = p) : b.jobOf e = some (f, p) := by
  obtain ⟨hmem, halive, ⟨x, hx, hp⟩, hjob⟩ := h
  cases hfound : b.jobOf e with
  | none =>
    have hnone := List.findSome?_eq_none_iff.1 hfound f (List.mem_filter.2 ⟨hmem, halive⟩)
    exact absurd (Option.map_eq_none_iff.1 hnone) (Frag.jobOf_ne_none hx hp hjob)
  | some y =>
    obtain ⟨hf, hq⟩ := honly y.1 y.2 (Block.runs_of_jobOf hfound)
    rw [← hf, ← hq]

theorem Block.mem_busyEngines (h : b.Runs e f p) : e ∈ b.busyEngines := by
  obtain ⟨hmem, halive, ⟨x, hx, hp⟩, hjob⟩ := h
  have hpayload : p ∈ b.payloads := List.mem_flatMap.2 ⟨f, hmem, by simpa [halive, hx] using hp⟩
  exact List.mem_filterMap.2 ⟨p, hpayload, by rw [hjob]⟩

theorem Block.busyEngines_of_evb {c : Block} (h : c.evb = b.evb) : c.busyEngines = b.busyEngines := by
  rw [Block.busyEngines, Block.payloads, h]
  rfl

theorem Block.setFrag_evb_of_evb {c : Block} (h : c.evb = b.evb) (f : Frag) : (c.setFrag f).evb = (b.setFrag f).evb := by
  rw [Block.setFrag, h]
  rfl

theorem packJobDone_of_idle (h : b.jobOf e = none) : packJobDone e b = b := by
  unfold Block.jobOf Frag.jobOf at h
  rw [packJobDone, h]

/-! ### A residue mismatch (R553, R566, R586) -/

theorem Block.takeResidue_of_unarmed (h : bitAt (b.get F.TST_STAT_MASK) 5 = false) (unit : Nat) : b.takeResidue unit = (false, b) := by
  simp [Block.takeResidue, h]

/-- The fields in which a residue mismatch shows: counters, and what the pair records of it. -/
def residueKeys : List Nat := ([F.TST_INJ_CNT, F.ECC_RESIDUE_CNT, F.ECC_R_CORR_CNT 0x30, F.PAIR_RESIDUE_PEAK, F.PAIR_STAT_DEGRADED,
  F.PAIR_LAST_CAUSE, F.PAIR_LAST_WARM, F.PAIR_LAST_RESET, F.PAIR_LAST_FROM_CC, F.PAIR_LAST_WRAP, F.PAIR_LAST_NS] : List Field).map Field.key

theorem Block.countWindow_evb (b : Block) (r : Nat) : (b.countWindow r).evb = b.evb := by
  unfold Block.countWindow
  dsimp only
  split <;> [rfl; split <;> rfl]

theorem Block.keeps_yield (b : Block) (cause : Nat) : Keeps Block.evb residueKeys b (b.yield cause) :=
  have hput {b : Block} {g : Field} {v : Nat} (hg : g.key ∈ residueKeys) : Keeps Block.evb residueKeys b (b.put g v) := Keeps.put rfl hg
  (hput (g := F.PAIR_LAST_CAUSE) (by decide)).trans <| (hput (g := F.PAIR_LAST_WARM) (by decide)).trans <|
    (hput (g := F.PAIR_LAST_RESET) (by decide)).trans <| (hput (g := F.PAIR_LAST_FROM_CC) (by decide)).trans <|
    (hput (g := F.PAIR_LAST_WRAP) (by decide)).trans <| (hput (g := F.PAIR_LAST_NS) (by decide)).trans <| Keeps.of_regs rfl rfl

/-- Too many mismatches end no module: they yield to an eligible standby, and leave the pair DEGRADED without one. -/
theorem Block.keeps_diagnose_residue (b : Block) : Keeps Block.evb residueKeys b (b.diagnose 5) := by
  unfold Block.diagnose
  split
  · exact Keeps.ite (Keeps.put rfl (by decide)) Keeps.refl
  · exact Keeps.ite (b.keeps_yield 5) (Keeps.put rfl (by decide))

/-- The mismatches of the last second, with the highest number of them so far. -/
def Block.withResidue (b : Block) (l : List Nat) : Block :=
  { b with pair := { b.pair with residue := l } }.put F.PAIR_RESIDUE_PEAK (max (b.get F.PAIR_RESIDUE_PEAK) l.length)

theorem Block.keeps_withResidue (b : Block) (l : List Nat) : Keeps Block.evb residueKeys b (b.withResidue l) :=
  Keeps.trans (c := { b with pair := { b.pair with residue := l } }) (Keeps.of_regs rfl rfl) (Keeps.put rfl (by decide))

theorem Block.residueMismatch_eq (b : Block) :
    b.residueMismatch =
      let b1 := ((b.bump F.ECC_RESIDUE_CNT).bump (F.ECC_R_CORR_CNT 0x30)).countWindow 0x30
      let l := b1.tick :: b1.pair.residue.filter fun t => decide (b1.tick < t + sTicks)
      if (b1.withResidue l).get F.PAIR_DIAG_RES_LIMIT < l.length then (b1.withResidue l).diagnose 5 else b1.withResidue l := rfl

theorem Block.keeps_residueMismatch (b : Block) : Keeps Block.evb residueKeys b b.residueMismatch := by
  have hcounted : Keeps Block.evb residueKeys b (((b.bump F.ECC_RESIDUE_CNT).bump (F.ECC_R_CORR_CNT 0x30)).countWindow 0x30) :=
    ((Keeps.bump rfl (by decide)).trans (Keeps.bump rfl (by decide))).trans
      (Keeps.of_regs (Block.countWindow_evb _ _) (Block.countWindow_regs _ _))
  have hshown := fun l => hcounted.trans (Block.keeps_withResidue _ l)
  rw [Block.residueMismatch_eq]
  exact Keeps.ite ((hshown _).trans (Block.keeps_diagnose_residue _)) (hshown _)

/-- An armed injection acts on the unit's next operation. -/
theorem Block.takeResidue_of_armed {unit : Nat} (harmed : bitAt (b.get F.TST_STAT_MASK) 5 = true) (hunit : bitAt b.tst.residue unit = true) :
    (b.takeResidue unit).1 = true ∧ Keeps Block.evb residueKeys b (b.takeResidue unit).2 := by
  rw [Block.takeResidue, harmed, hunit]
  refine ⟨rfl, Keeps.trans (c := Block.bump _ F.TST_INJ_CNT) ?_ (Block.keeps_residueMismatch _)⟩
  exact Keeps.trans (c := { b with tst := _ }) (Keeps.of_regs rfl rfl) (Keeps.bump rfl (by decide))

/-- What a payload's job becomes after a mismatch: another engine repeats it, and it waits where none is idle (R388). -/
def Block.repeated (b : Block) : PackState :=
  match (List.range 16).find? fun k => !b.busyEngines.contains k with
  | some k => .running k
  | none => .waiting true

theorem Block.repeated_ne_running (h : e ∈ b.busyEngines) : b.repeated ≠ .running e := by
  unfold Block.repeated
  split
  · next k hk =>
    rintro ⟨⟩
    exact absurd h (by simpa using List.find?_some hk)
  · exact PackState.noConfusion

theorem Block.repeated_ne_stored (b : Block) (packed : Bool) (bytes : List Nat) : b.repeated ≠ .stored packed bytes := by
  unfold Block.repeated
  split <;> exact PackState.noConfusion

/-! ### The counters of a finished job (R385) -/

/-- A 64-bit counter rises by any amount and stops at all ones. -/
theorem Block.get64_bump64_satU {lo hi : Field} (hkey : lo.key ≠ hi.key) (hlo : lo.width = 32) (hhi : hi.width = 32) (n : Nat) :
    (b.bump64 lo hi n).get64 lo hi = satU 64 (b.get64 lo hi + n) := by
  have hlt : satU 64 (b.get64 lo hi + n) < 2 ^ 64 := by
    unfold satU
    split <;> omega
  rw [Block.bump64, Block.get64_put64 hkey hlo (by rw [hhi]; omega)]

theorem Block.get64_bump64_other {lo hi lo' hi' : Field} (h : ∀ x ∈ [lo', hi'], x.key ≠ lo.key ∧ x.key ≠ hi.key) (n : Nat) :
    (b.bump64 lo hi n).get64 lo' hi' = b.get64 lo' hi' := by
  obtain ⟨hlo, hlo'⟩ := h lo' (by simp)
  obtain ⟨hhi, hhi'⟩ := h hi' (by simp)
  rw [Block.get64, Block.get_bump64_other hlo hlo', Block.get_bump64_other hhi hhi', Block.get64]

/-- A finished job counted, with its bytes in and its bytes out. -/
def Block.bytesCounted (b : Block) (n m : Nat) : Block :=
  ((b.bump64 F.LPS_JOB_CNT_LO F.LPS_JOB_CNT_HI 1).bump64 F.LPS_IN_BYTES_LO F.LPS_IN_BYTES_HI n).bump64 F.LPS_OUT_BYTES_LO F.LPS_OUT_BYTES_HI m

/-- A job of `n` bytes counted by its stored form: one stored plain counts in LPS_PLAIN_CNT too. -/
def Block.jobCounted (b : Block) (n : Nat) (s : Bool × List Nat) : Block :=
  if s.1 then b.bytesCounted n s.2.length else (b.bytesCounted n s.2.length).bump F.LPS_PLAIN_CNT

section

variable (b : Block) (n : Nat) (s : Bool × List Nat)

theorem Block.jobCounted_dram : (b.jobCounted n s).dram = b.dram := by
  unfold Block.jobCounted
  split <;> rfl

theorem Block.jobCounted_evb : (b.jobCounted n s).evb = b.evb := by
  unfold Block.jobCounted
  split <;> rfl

theorem Block.get64_jobCounted {lo hi : Field} (hlo : lo.key ≠ F.LPS_PLAIN_CNT.key) (hhi : hi.key ≠ F.LPS_PLAIN_CNT.key) :
    (b.jobCounted n s).get64 lo hi = (b.bytesCounted n s.2.length).get64 lo hi := by
  unfold Block.jobCounted
  split
  · rfl
  · rw [Block.get64, Block.get_bump_other hlo, Block.get_bump_other hhi, Block.get64]

theorem Block.jobs_jobCounted : (b.jobCounted n s).get64 F.LPS_JOB_CNT_LO F.LPS_JOB_CNT_HI =
    satU 64 (b.get64 F.LPS_JOB_CNT_LO F.LPS_JOB_CNT_HI + 1) := by
  rw [Block.get64_jobCounted _ _ _ (by decide) (by decide), Block.bytesCounted, Block.get64_bump64_other (by decide),
    Block.get64_bump64_other (by decide), Block.get64_bump64_satU (by decide) rfl rfl]

theorem Block.bytesIn_jobCounted : (b.jobCounted n s).get64 F.LPS_IN_BYTES_LO F.LPS_IN_BYTES_HI =
    satU 64 (b.get64 F.LPS_IN_BYTES_LO F.LPS_IN_BYTES_HI + n) := by
  rw [Block.get64_jobCounted _ _ _ (by decide) (by decide), Block.bytesCounted, Block.get64_bump64_other (by decide),
    Block.get64_bump64_satU (by decide) rfl rfl, Block.get64_bump64_other (by decide)]

theorem Block.bytesOut_jobCounted : (b.jobCounted n s).get64 F.LPS_OUT_BYTES_LO F.LPS_OUT_BYTES_HI =
    satU 64 (b.get64 F.LPS_OUT_BYTES_LO F.LPS_OUT_BYTES_HI + s.2.length) := by
  rw [Block.get64_jobCounted _ _ _ (by decide) (by decide), Block.bytesCounted, Block.get64_bump64_satU (by decide) rfl rfl,
    Block.get64_bump64_other (by decide), Block.get64_bump64_other (by decide)]

theorem Block.plain_jobCounted : (b.jobCounted n s).get F.LPS_PLAIN_CNT =
    if s.1 then b.get F.LPS_PLAIN_CNT else satU 32 (b.get F.LPS_PLAIN_CNT + 1) := by
  have hbytes : (b.bytesCounted n s.2.length).get F.LPS_PLAIN_CNT = b.get F.LPS_PLAIN_CNT := by
    rw [Block.bytesCounted, Block.get_bump64_other (by decide) (by decide), Block.get_bump64_other (by decide) (by decide),
      Block.get_bump64_other (by decide) (by decide)]
  unfold Block.jobCounted
  split
  · exact hbytes
  · rw [Block.get_bump_same, hbytes]

end

/-! ### The stored form of a payload (R330, R385) -/

section

variable (c : EpochCfg) (l : List Nat)

theorem stored_packedForm : PackState.stored (packedForm c l).1 (packedForm c l).2 =
    let s := lpsPack l c.effort (c.get F.LPS_ORDER)
    if s.length < l.length then .stored true s else .stored false l :=
  apply_ite (fun x : Bool × List Nat => PackState.stored x.1 x.2) _ _ _

theorem length_packedForm : (packedForm c l).2.length =
    let s := lpsPack l c.effort (c.get F.LPS_ORDER)
    if s.length < l.length then s.length else l.length :=
  apply_ite (fun x : Bool × List Nat => x.2.length) _ _ _

theorem packedForm_packed_iff : (packedForm c l).1 = true ↔ (lpsPack l c.effort (c.get F.LPS_ORDER)).length < l.length := by
  by_cases h : (lpsPack l c.effort (c.get F.LPS_ORDER)).length < l.length <;> simp [packedForm, h]

end

/-! ### PACK_JOB_DONE of an engine that runs a job (R385, R388) -/

section

variable (hjob : b.jobOf e = some (f, p))
include hjob

theorem packJobDone_of_unarmed (h : bitAt (b.get F.TST_STAT_MASK) 5 = false) :
    packJobDone e b =
      let s := packedForm (b.cfgOf f.key) p.plain
      (b.jobCounted p.plain.length s).setFrag (f.setPayload { p with job := .stored s.1 s.2 }) := by
  unfold Block.jobOf Frag.jobOf at hjob
  rw [packJobDone, hjob]
  dsimp only
  rw [Block.takeResidue_of_unarmed h]
  rfl

theorem packJobDone_of_mismatch (h : (b.takeResidue 1).1 = true) :
    packJobDone e b =
      ((b.takeResidue 1).2.bump F.LPS_RESIDUE_CNT).setFrag (f.setPayload { p with job := (b.takeResidue 1).2.repeated }) := by
  unfold Block.jobOf Frag.jobOf at hjob
  rw [packJobDone, hjob]
  exact if_pos h

end

/-! ### A fragment is built (R335) -/

theorem fragmentBuilt_of_none {ident : Nat} (h : b.extracted.frag ident = none) : fragmentBuilt ident b = b.extracted := by
  rw [fragmentBuilt, ← Block.extracted, h]

section

variable {ident : Nat} {x : Content} (hfrag : b.extracted.frag ident = some f) (hx : f.content = some x)
include hfrag hx

/-- A payload that is not stored yet holds the fragment back. -/
theorem fragmentBuilt_of_notStored (hopen : b.extracted.fragRecords f x = none) : fragmentBuilt ident b = b.extracted := by
  rw [fragmentBuilt, ← Block.extracted, hfrag]
  simp [hx, hopen]

/-- With every payload stored it has its records, and keeps the chunks that they occupy. -/
theorem fragmentBuilt_of_stored {r : List (List Nat)} (halive : f.alive = true) (hnew : f.records = none)
    (hr : b.extracted.fragRecords f x = some r) (hunarmed : bitAt (b.extracted.get F.TST_STAT_MASK) 5 = false) :
    fragmentBuilt ident b = b.extracted.setFrag
      { f with records := some r, chunks := min f.chunks (chunksFor (4 * (20 + wordsOf r))), content := some { x with payloads := [] } } := by
  rw [fragmentBuilt, ← Block.extracted, hfrag]
  simp [hx, halive, hnew, hr, Block.takeResidue_of_unarmed hunarmed]

end

end

end Sys2Proof.Machine

namespace Sys2Proof.Proofs

open Sys2Proof Sys2Proof.Machine

/-- Settles O57: a start by the pool and the engines, an end by the engine's job and its residue, a fragment by its payloads' stored forms. -/
theorem packingJobs : Obligations.PackingJobs := by
  intro s c
  have hstart := exec_packJobStart s rfl
  refine ⟨fun hnone => ?noJob, fun f p hnext => ⟨fun hfull => ?poolFull, fun hfits e he hidle hlower => ?starts⟩,
    fun e he => ⟨fun hidle => ?idle, fun f p hruns honly => ⟨fun hunarmed => ?done, fun harmed hunit => ?mismatch⟩⟩,
    fun ident hident => ⟨fun hnone => ?noFrag, fun f x hfrag hx halive hnew => ⟨fun hopen => ?notStored, fun r hr hunarmed => ?built⟩⟩⟩
  case noJob => rw [hstart, packJobStart_of_none hnone]; rfl
  case poolFull =>
    obtain ⟨hfirst, hagain⟩ := packJobStart_of_poolFull hnext hfull
    exact ⟨fun hjob => by rw [hstart, hfirst hjob]; rfl, fun hjob => by rw [hstart, hagain hjob]; rfl⟩
  case starts => rw [hstart, packJobStart_of_lowestIdle hnext hfits he hidle hlower]; rfl
  case idle => rw [exec_packJobDone _ _ (decide_eq_true he), packJobDone_of_idle (Block.jobOf_eq_none hidle)]
  case done =>
    intro packed stored out
    have hdone := exec_packJobDone e s (decide_eq_true he)
    rw [packJobDone_of_unarmed (Block.jobOf_of_unique hruns honly) hunarmed] at hdone
    refine ⟨_, hdone, rfl, Block.jobCounted_dram _ _ _, ?stored, Block.jobs_jobCounted _ _ _, Block.bytesIn_jobCounted _ _ _, ?bytesOut, ?plain⟩
    case stored =>
      refine (Block.setFrag_evb_of_evb (Block.jobCounted_evb _ _ _) _).trans ?_
      rw [stored_packedForm]
    case bytesOut =>
      refine (Block.bytesOut_jobCounted _ _ _).trans ?_
      rw [length_packedForm]
    case plain => exact (Block.plain_jobCounted _ _ _).trans (if_congr (packedForm_packed_iff _ _) rfl rfl)
  case mismatch =>
    have hmem := Block.mem_busyEngines hruns
    obtain ⟨htaken, hevb, hget⟩ := Block.takeResidue_of_armed harmed hunit
    have hdone := exec_packJobDone e s (decide_eq_true he)
    rw [packJobDone_of_mismatch (Block.jobOf_of_unique hruns honly) htaken] at hdone
    refine ⟨_, _, hdone, rfl, ?jobs, ?residues, Block.repeated_ne_running (Block.busyEngines_of_evb hevb ▸ hmem),
      Block.repeated_ne_stored _, Block.setFrag_evb_of_evb hevb _⟩
    case jobs => exact (Block.get_bump_other (by decide)).trans (hget _ (by decide))
    case residues => exact (Block.get_bump_same _ _).trans (by rw [hget _ (by decide)])
  case noFrag => rw [exec_fragmentBuilt _ _ (decide_eq_true hident), fragmentBuilt_of_none hnone]; rfl
  case notStored => rw [exec_fragmentBuilt _ _ (decide_eq_true hident), fragmentBuilt_of_notStored hfrag hx hopen]; rfl
  case built => rw [exec_fragmentBuilt _ _ (decide_eq_true hident), fragmentBuilt_of_stored hfrag hx halive hnew hr hunarmed]; rfl

end Sys2Proof.Proofs

/-! SUPPORT. Decompressor jobs: a write of LPS_DJ_CMD by what runs, and what the end of a job leaves of memory and of its registers (R376, R377,
R379, R394). -/

namespace Sys2Proof.Machine

open Sys2Proof

section

variable {b : Block} {j : DjJob}

/-! ### GO (R379) -/

/-- While a job runs, and in Verify and Configure, where start-up needs the decompressor. -/
theorem djOp_of_refusing (h : b.flag F.LPS_DJ_STAT_BUSY = true ∨ b.phase = .verify ∨ b.phase = .configure) :
    djOp (2 ^ 31) b = (b.bump F.LPS_REFUSE_CNT, .busyResource) := by
  rw [djOp, if_neg (by decide), if_pos (by simpa [or_assoc] using h)]

/-- The job that the registers name. -/
def Block.djNamed (b : Block) : DjJob :=
  ⟨b.get64 F.LPS_DJ_SRC_LO F.LPS_DJ_SRC_HI, b.get F.LPS_DJ_LEN, b.get64 F.LPS_DJ_DST_LO F.LPS_DJ_DST_HI, b.get F.LPS_DJ_ULEN, b.get F.LPS_DJ_CAP⟩

theorem djOp_of_free (h : ¬(b.flag F.LPS_DJ_STAT_BUSY = true ∨ b.phase = .verify ∨ b.phase = .configure)) :
    djOp (2 ^ 31) b = ({ (b.put F.LPS_DJ_STAT_BUSY 1).put F.LPS_DJ_OUT 0 with chk := { b.chk with dj := some b.djNamed } }, .ok) := by
  rw [djOp, if_neg (by decide), if_neg (by simpa [or_assoc] using h)]
  rfl

theorem exec_lpsDjGo_of_acts {a : Access} {s : State} (hwf : a.wf = true) (hacts : s.hw.acts a 0xa011c (2 ^ 31) = true) :
    exec (.lpsDjGo a) s = .next { s with hw := s.hw.answered a 0xa011c (2 ^ 31) (djOp (2 ^ 31) s.hw) } :=
  exec_plainWrite_of_noDomain hwf rfl (regOp_dj _) rfl hacts

/-! ### The end of a job (R376, R377, R394) -/

/-- A write to memory changes no register but the count of injected errors. -/
theorem Block.get_store_other {f : Field} (h : f.key ≠ F.TST_INJ_CNT.key) (x : Nat) (v : List Nat) : (b.store x v).get f = b.get f := by
  obtain ⟨dram, poison, ecc, tst, regs, hstore, hregs⟩ := b.store_eq x v
  have hsame : (b.store x v).regs = regs := by rw [hstore]
  rcases hregs with hr | hr
  · exact Block.get_of_regs (hsame.trans hr) f
  · exact (Block.get_of_regs (hsame.trans hr) f).trans (Block.get_bump_other h)

/-- The results shown: a job that fails is counted beside them. -/
theorem Block.get_djEnd {f : Field} (h : f.key ≠ F.LPS_DEC_FAIL_CNT.key) (e : LpsEnd) (out : List Nat) :
    (b.djEnd j e out).get f =
      ((((b.store j.dst out).put F.LPS_DJ_STAT_BUSY 0).put F.LPS_DJ_STAT_RESULT e.code).put F.LPS_DJ_OUT out.length).get f := by
  unfold Block.djEnd
  dsimp only
  split
  · rfl
  · exact Block.get_bump_other h

variable (b j) (e : LpsEnd) (out : List Nat)

theorem Block.djEnd_dram : (b.djEnd j e out).dram = (b.store j.dst out).dram := by
  unfold Block.djEnd
  dsimp only
  split <;> rfl

theorem Block.djEnd_idle : (b.djEnd j e out).chk.dj = none := by
  unfold Block.djEnd
  dsimp only
  split <;> rfl

theorem Block.get_djEnd_out : (b.djEnd j e out).get F.LPS_DJ_OUT = out.length % 2 ^ 32 := by
  rw [Block.get_djEnd (by decide), Block.get_put_same]

theorem Block.get_djEnd_result : (b.djEnd j e out).get F.LPS_DJ_STAT_RESULT = e.code % 8 := by
  rw [Block.get_djEnd (by decide), Block.get_put_other _ _ _ _ (by decide), Block.get_put_same]
  rfl

theorem Block.flag_djEnd_busy : (b.djEnd j e out).flag F.LPS_DJ_STAT_BUSY = false := by
  rw [Block.flag, Block.get_djEnd (by decide), Block.get_put_other _ _ _ _ (by decide), Block.get_put_other _ _ _ _ (by decide),
    Block.get_put_same]
  rfl

theorem Block.get_djEnd_critical : (b.djEnd j e out).get F.ECC_STAT_CRITICAL = b.get F.ECC_STAT_CRITICAL := by
  rw [Block.get_djEnd (by decide), Block.get_put_other _ _ _ _ (by decide), Block.get_put_other _ _ _ _ (by decide),
    Block.get_put_other _ _ _ _ (by decide), Block.get_store_other (by decide)]

theorem Block.readByte_djEnd_inside (i : Nat) (hi : i < out.length) : readByte (b.djEnd j e out).dram (j.dst + i) = out[i] % 256 := by
  rw [Block.djEnd_dram, Block.readByte_store, if_pos (by omega), Nat.add_sub_cancel_left, List.getD_eq_getElem _ _ hi]

theorem Block.readByte_djEnd_outside {x : Nat} (hx : x < j.dst ∨ j.dst + out.length ≤ x) :
    readByte (b.djEnd j e out).dram x = readByte b.dram x := by
  rw [Block.djEnd_dram, Block.readByte_store, if_neg (by omega)]

end

/-- What the decompressor gives for a job's ranges (R376, R377). -/
def Block.djUnpacked (b : Block) (j : DjJob) : LpsResult :=
  lpsUnpackPoison (b.load j.src j.len) j.ulen (min j.cap (djTo - j.dst)) fun i => b.poisoned (j.src + i) 1

/-- A job over a source without upsets ends with what the decompressor gives of it, and one with bad ranges with no byte. -/
theorem lpsDjDone_of_clean {b : Block} {j : DjJob} (hon : b.ccOn = true) (hjob : b.chk.dj = some j) (hclean : b.upsetsIn j.src j.len = []) :
    lpsDjDone b = b.djEnd j (if j.bad then .badArg else (b.djUnpacked j).end_) (if j.bad then [] else (b.djUnpacked j).out) := by
  rw [lpsDjDone, hjob]
  dsimp only
  rw [whenDue_of_due hon]
  cases j.bad with
  | true => rfl
  | false =>
    rw [if_neg Bool.false_ne_true, Block.checkRange_of_clean (List.isEmpty_iff.2 hclean)]
    exact Block.actCritical_of_same (Block.get_djEnd_critical _ _ _ _)

end Sys2Proof.Machine

namespace Sys2Proof.Proofs

open Sys2Proof Sys2Proof.Machine

/-- Settles O20: GO by what runs, the end of a job by what its end leaves of memory and of its registers. -/
theorem decompressorJobs : Obligations.DecompressorJobs := by
  refine ⟨fun a s hwf hacts => ?go, fun s j hon hjob hclean _ => ?ends⟩
  case go =>
    have hwrite := exec_lpsDjGo_of_acts hwf hacts
    split
    next hrefusing => rw [hwrite, djOp_of_refusing hrefusing]
    next hfree => rw [hwrite, djOp_of_free hfree]; rfl
  case ends =>
    intro r out
    have hdone := exec_lpsDjDone s rfl
    rw [lpsDjDone_of_clean hon hjob hclean] at hdone
    exact ⟨_, hdone, rfl, Block.djEnd_idle _ _ _ _, Block.flag_djEnd_busy _ _ _ _, Block.get_djEnd_result _ _ _ _,
      Block.get_djEnd_out _ _ _ _, Block.readByte_djEnd_inside _ _ _ _, fun _ => Block.readByte_djEnd_outside _ _ _ _⟩

end Sys2Proof.Proofs

/-! SUPPORT. The general check-value units: a write by who owns the unit, a claim that lapses, and what the end of a range job leaves (R391 to
R393). -/

namespace Sys2Proof.Machine

open Sys2Proof

section

variable {b : Block} {who : Requester} {u : Nat}

/-! ### A write that reaches a unit -/

theorem domainAt_crc {off : Nat} (hu : u < 8) (hoff : off < 0x40) : domainAt (0xb0100 + 0x40 * u + off) = none := by
  have htile : tileOf (0xb0100 + 0x40 * u + off) = none := if_neg (by simp only [Bool.and_eq_true, decide_eq_true_eq]; omega)
  rw [domainAt, htile]
  exact if_neg (by simp only [Bool.and_eq_true, decide_eq_true_eq]; omega)

/-- A command that writes a register of a unit ends as the unit's operation leaves the block. -/
theorem exec_crcWrite (c : Instr) {a : Access} {addr w : Nat} {s : State} (off : Nat) (hwf : c.wf = true)
    (hact : act c = submit a (.write addr [w])) (hu : u < 8) (hacts : s.hw.acts a addr w = true) (hoff : off < 0x40 := by decide)
    (haddr : addr = 0xb0100 + 0x40 * u + off := by omega) :
    exec c s = .next { s with hw := s.hw.answered a addr w (crcOp a.who u off w s.hw) } := by
  subst haddr
  exact exec_plainWrite_of_noDomain hwf hact (regOp_crc _ hu off hoff) (domainAt_crc hu hoff) hacts

/-! ### A range job starts (R393) -/

/-- The range that the unit's registers name lies inside the DRAM window. -/
def Block.crcInWindow (b : Block) (u : Nat) : Prop :=
  let x := b.get (F.CRC_U_ADDR_LO u) + 2 ^ 32 * b.get (F.CRC_U_ADDR_HI u)
  0x0100000000 ≤ x ∧ x + b.get (F.CRC_U_LEN u) ≤ 0x0700000000

theorem Block.crcGo_of_inWindow (h : b.crcInWindow u) :
    b.crcGo u =
      (let c := (b.put (F.CRC_U_STAT_POISON u) 0).put (F.CRC_U_DONE u) 0
       (c.put (F.CRC_U_STAT_BUSY u) 1).setCrcUnit u { c.crcUnit u with
         job := some (b.get (F.CRC_U_ADDR_LO u) + 2 ^ 32 * b.get (F.CRC_U_ADDR_HI u), b.get (F.CRC_U_LEN u)) }) :=
  if_pos ((Bool.and_eq_true _ _).mpr ⟨decide_eq_true h.1, decide_eq_true h.2⟩)

theorem Block.crcGo_of_notInWindow (h : ¬ b.crcInWindow u) :
    b.crcGo u = ((b.put (F.CRC_U_STAT_POISON u) 0).put (F.CRC_U_DONE u) 0).put (F.CRC_U_STAT_RESULT u) 2 :=
  if_neg fun hin => h (((Bool.and_eq_true _ _).mp hin).imp of_decide_eq_true of_decide_eq_true)

/-! ### What a unit does with a write (R391 to R393) -/

theorem crcOp_claim (hfree : b.flag (F.CRC_U_OWN_CLAIMED u) = false) :
    crcOp who u 0 (2 ^ 29) b =
      (((((b.put (F.CRC_U_OWN_CLAIMED u) 1).put (F.CRC_U_OWN_LOCAL u) (crcOwner who).2).put (F.CRC_U_OWN_OWNER u) (crcOwner who).1).put
        (F.CRC_U_VAL u) 0xFFFFFFFF).setCrcUnit u { b.crcUnit u with last := b.tick }, .ok) := by
  rw [crcOp, hfree]
  rfl

/-- A unit claimed by another refuses whatever is written to it. -/
theorem crcOp_of_claimedByAnother (hclaimed : b.flag (F.CRC_U_OWN_CLAIMED u) = true) (hother : b.ownsCrc who u = false) (off w : Nat) :
    crcOp who u off w b = (b.bump F.CRC_REFUSE_CNT, .busyResource) := by
  rw [crcOp, hclaimed, hother]
  rfl

/-- The unit with its claim kept alive at this tick. -/
def Block.crcKept (b : Block) (u : Nat) : Block := b.setCrcUnit u { b.crcUnit u with last := b.tick }

section

variable (hmine : b.ownsCrc who u = true)
include hmine

theorem Block.claimed_of_ownsCrc : b.flag (F.CRC_U_OWN_CLAIMED u) = true := by
  simp only [Block.ownsCrc, Bool.and_eq_true] at hmine
  obtain ⟨⟨hclaimed, -⟩, -⟩ := hmine
  exact hclaimed

theorem crcOp_release : crcOp who u 0 (2 ^ 28) b = ((b.crcKept u).freeCrc u, .ok) := by
  rw [crcOp, Block.claimed_of_ownsCrc hmine, hmine]
  rfl

theorem crcOp_feed (hidle : b.flag (F.CRC_U_STAT_BUSY u) = false) (w : Nat) :
    crcOp who u 0x0C w b =
      ((b.crcKept u).put (F.CRC_U_VAL u) (crcRun ((b.crcKept u).get (F.CRC_U_VAL u)) (leBytes ((b.crcKept u).crcBytes u) w)), .ok) := by
  rw [crcOp, Block.claimed_of_ownsCrc hmine, hmine, hidle]
  rfl

theorem crcOp_val (hidle : b.flag (F.CRC_U_STAT_BUSY u) = false) (w : Nat) :
    crcOp who u 0x08 w b = ((b.crcKept u).put (F.CRC_U_VAL u) w, .ok) := by
  rw [crcOp, Block.claimed_of_ownsCrc hmine, hmine, hidle]
  rfl

theorem crcOp_go (hidle : b.flag (F.CRC_U_STAT_BUSY u) = false) : crcOp who u 0x20 (2 ^ 31) b = ((b.crcKept u).crcGo u, .ok) := by
  rw [crcOp, Block.claimed_of_ownsCrc hmine, hmine, hidle]
  rfl

theorem crcOp_abort {x n : Nat} (hjob : ((b.crcKept u).crcUnit u).job = some (x, n)) :
    crcOp who u 0x20 (2 ^ 30) b = (((b.crcKept u).crcEnd u x (Config.rangeDone b.free % (n + 1)) 1).drawn, .ok) := by
  rw [crcOp, Block.claimed_of_ownsCrc hmine, hmine]
  dsimp only
  rw [← Block.crcKept, hjob]
  rfl

end

/-! ### The end of a range job (R393) -/

/-- A unit's own state holds no register. -/
@[simp] theorem Block.get_setCrcUnit (b : Block) (u : Nat) (x : CrcUnit) (f : Field) : (b.setCrcUnit u x).get f = b.get f := rfl

@[simp] theorem Block.crcUnit_setCrcUnit (b : Block) (u : Nat) (x : CrcUnit) : (b.setCrcUnit u x).crcUnit u = x :=
  lookupD_insertKey_same _ _ _ _

/-- What a unit shows of a job that has ended: its running value, the bytes done, how it ended, and whether it met poison. -/
def Block.crcShown (b : Block) (u val done result : Nat) (poison : Bool) : Block :=
  ((((b.put (F.CRC_U_VAL u) val).put (F.CRC_U_DONE u) done).put (F.CRC_U_STAT_BUSY u) 0).put (F.CRC_U_STAT_RESULT u) result).putB
    (F.CRC_U_STAT_POISON u) poison

section

variable (b u) (val done result : Nat) (poison : Bool)

theorem Block.get_crcShown_val : (b.crcShown u val done result poison).get (F.CRC_U_VAL u) = val % 2 ^ 32 := by
  rw [Block.crcShown, Block.putB, Block.get_put_other, Block.get_put_other, Block.get_put_other, Block.get_put_other, Block.get_put_same] <;>
    (simp only [Field.key]; omega)

theorem Block.get_crcShown_done : (b.crcShown u val done result poison).get (F.CRC_U_DONE u) = done % 2 ^ 32 := by
  rw [Block.crcShown, Block.putB, Block.get_put_other, Block.get_put_other, Block.get_put_other, Block.get_put_same] <;>
    (simp only [Field.key]; omega)

theorem Block.get_crcShown_busy : (b.crcShown u val done result poison).get (F.CRC_U_STAT_BUSY u) = 0 := by
  rw [Block.crcShown, Block.putB, Block.get_put_other, Block.get_put_other, Block.get_put_same, Nat.zero_mod] <;>
    (simp only [Field.key]; omega)

theorem Block.get_crcShown_result : (b.crcShown u val done result poison).get (F.CRC_U_STAT_RESULT u) = result % 4 := by
  rw [Block.crcShown, Block.putB, Block.get_put_other, Block.get_put_same]
  · rfl
  · simp only [Field.key]
    omega

theorem Block.flag_crcShown_poison : (b.crcShown u val done result poison).flag (F.CRC_U_STAT_POISON u) = poison :=
  Block.flag_putB_same _ _ _ Nat.one_pos

/-- Every register outside the unit reads as before. -/
theorem Block.get_crcShown_other {f : Field} (h : 0xb0300 * 32 ≤ f.key) (hu : u < 8) :
    (b.crcShown u val done result poison).get f = b.get f := by
  rw [Block.crcShown, Block.putB, Block.get_put_other, Block.get_put_other, Block.get_put_other, Block.get_put_other, Block.get_put_other] <;>
    (simp only [Field.key] at h ⊢; omega)

end

/-- A job over bytes without upsets feeds them into the running value, and frees the unit for the next. -/
theorem Block.crcEnd_of_clean {x n : Nat} (hclean : b.upsetsIn x n = []) (result : Nat) :
    b.crcEnd u x n result =
      (b.crcShown u (crcRun (b.get (F.CRC_U_VAL u)) (b.load x n)) n result (b.poisoned x n)).setCrcUnit u { b.crcUnit u with job := none } := by
  rw [Block.crcEnd, Block.checkRange_of_clean (List.isEmpty_iff.2 hclean)]
  rfl

theorem crcRun_mod (val : Nat) (l : List Nat) : crcRun val l % 2 ^ 32 = crcRun val l := Nat.mod_eq_of_lt (BitVec.isLt _)

theorem crcRangeDone_of_clean {x n : Nat} (hu : u < 8) (hon : b.ccOn = true) (hjob : (b.crcUnit u).job = some (x, n))
    (hclean : b.upsetsIn x n = []) : crcRangeDone u b = b.crcEnd u x n 0 := by
  have hcritical : (b.crcEnd u x n 0).get F.ECC_STAT_CRITICAL = b.get F.ECC_STAT_CRITICAL := by
    rw [Block.crcEnd_of_clean hclean, Block.get_setCrcUnit, Block.get_crcShown_other _ _ _ _ _ _ (by decide) hu]
  rw [crcRangeDone, hjob]
  dsimp only
  rw [whenDue_of_due hon, Block.actCritical_of_same hcritical]

/-! ### A claim lapses (R391) -/

theorem crcClaimTimeout_of_due (hon : b.ccOn = true) (hclaimed : b.flag (F.CRC_U_OWN_CLAIMED u) = true)
    (hdue : (b.crcUnit u).last + 10 * sTicks ≤ b.tick) : crcClaimTimeout u b = b.freeCrc u := by
  rw [show 10 * sTicks = 2500000000 from rfl] at hdue
  exact whenDue_of_due (by rw [hon, hclaimed, decide_eq_true hdue]; rfl) _ _

end

end Sys2Proof.Machine

namespace Sys2Proof.Proofs

open Sys2Proof Sys2Proof.Machine

/-- Settles O19: a write by who owns the unit, a claim by its last access, the end of a range job by what its unit then shows. -/
theorem checkUnitsAreClaimedFedAndFreed : Obligations.CheckUnitsAreClaimedFedAndFreed := by
  intro a u w s hwf hu own busy kept
  have hunit : (a.wf && decide (u < 8)) = true := by rw [hwf, decide_eq_true hu]; rfl
  refine ⟨fun hfree hacts => ?claim,
    fun hclaimed hother => ⟨fun hacts => ?claimRefused, fun hacts => ?releaseRefused, fun hacts => ?feedRefused⟩,
    fun _ hmine => ⟨fun hacts => ?release, fun hidle hacts => ?feed, fun hidle hacts => ?val, fun hidle hacts => ?rangeGo,
      fun x n hjob hacts => ?rangeAbort⟩,
    fun hon hclaimed hdue => ?lapse, fun x n hon hjob hclean => ?rangeDone⟩
  case claim => rw [exec_crcWrite (.crcClaim a u) 0 hunit rfl hu hacts, crcOp_claim hfree]
  case claimRefused => rw [exec_crcWrite (.crcClaim a u) 0 hunit rfl hu hacts, crcOp_of_claimedByAnother hclaimed hother]
  case releaseRefused => rw [exec_crcWrite (.crcRelease a u) 0 hunit rfl hu hacts, crcOp_of_claimedByAnother hclaimed hother]
  case feedRefused => rw [exec_crcWrite (.crcFeed a u w) 0x0C hunit rfl hu hacts, crcOp_of_claimedByAnother hclaimed hother]
  case release => rw [exec_crcWrite (.crcRelease a u) 0 hunit rfl hu hacts, crcOp_release hmine]; rfl
  case feed => rw [exec_crcWrite (.crcFeed a u w) 0x0C hunit rfl hu hacts, crcOp_feed hmine hidle]; rfl
  case val => rw [exec_crcWrite (.crcValWrite a u w) 0x08 hunit rfl hu hacts, crcOp_val hmine hidle]; rfl
  case rangeGo =>
    intro x n c
    rw [exec_crcWrite (.crcRangeGo a u) 0x20 hunit rfl hu hacts, crcOp_go hmine hidle]
    split
    next hin => rw [Block.crcGo_of_inWindow (b := s.hw.crcKept u) hin]; rfl
    next hout => rw [Block.crcGo_of_notInWindow (b := s.hw.crcKept u) hout]; rfl
  case rangeAbort => rw [exec_crcWrite (.crcRangeAbort a u) 0x20 hunit rfl hu hacts, crcOp_abort hmine hjob]; rfl
  case lapse => rw [exec_crcClaimTimeout u s (decide_eq_true hu), crcClaimTimeout_of_due hon hclaimed hdue]; rfl
  case rangeDone =>
    have hdone := exec_crcRangeDone u s (decide_eq_true hu)
    rw [crcRangeDone_of_clean hu hon hjob hclean, Block.crcEnd_of_clean hclean] at hdone
    exact ⟨_, hdone, rfl, rfl, (Block.get_crcShown_val _ _ _ _ _ _).trans (crcRun_mod _ _), Block.get_crcShown_done _ _ _ _ _ _,
      Block.get_crcShown_busy _ _ _ _ _ _, Block.get_crcShown_result _ _ _ _ _ _, Block.flag_crcShown_poison _ _ _ _ _ _,
      congrArg CrcUnit.job (Block.crcUnit_setCrcUnit _ _ _)⟩

end Sys2Proof.Proofs

/-! PROOFS. One step of the module: which commands stop it, that well-formed ones never do, and that any number of steps completes. -/

namespace Sys2Proof.Machine

open Sys2Proof

/-- A step on well-formed waiting commands answers a next state with what is left of them. -/
theorem step_of_queueWf {s : State} (h : s.queueWf = true) :
    ∃ t, step s = .next t ∧ t.pending = s.pending.drop 1 ∧ t.queueWf = true := by
  unfold State.queueWf at *
  rcases hpending : s.pending with _ | ⟨c, l⟩
  · exact ⟨{ s with hw := idle s.hw }, by simp only [step, hpending], hpending, by simp only [hpending, List.all_nil]⟩
  · rw [hpending, List.all_cons, Bool.and_eq_true] at h
    obtain ⟨hc, hl⟩ := h
    refine ⟨{ s with pending := l, hw := act c s.hw }, ?_, rfl, hl⟩
    simp only [step, hpending]
    exact exec_of_wf hc _

theorem run_succ_of_step (M : Host.Core) {n : Nat} {s t : M.State} (h : M.step s = .next t) : M.run (n + 1) s = M.run n t := by
  rw [Host.Core.run, h]

/-- Any number of steps on well-formed waiting commands completes, and takes that many of them. -/
theorem run_of_queueWf (n : Nat) {s : State} (h : s.queueWf = true) :
    ∃ t : State, Sys2Proof.core.run n s = .next t ∧ t.pending = s.pending.drop n := by
  induction n generalizing s with
  | zero => exact ⟨s, rfl, rfl⟩
  | succ n ih =>
    obtain ⟨t, hstep, hleft, hwf⟩ := step_of_queueWf h
    obtain ⟨u, hrun, hrest⟩ := ih hwf
    exact ⟨u, (run_succ_of_step Sys2Proof.core hstep).trans hrun, by rw [hrest, hleft, List.drop_drop, Nat.add_comm]⟩

end Sys2Proof.Machine

namespace Sys2Proof.Proofs

open Sys2Proof Sys2Proof.Machine

/-- Settles O1: the front of the queue is what `step` takes, whatever waits behind it. -/
theorem stepRunsFront : Obligations.StepRunsFront := fun _ _ => rfl

/-- Settles O3: every command is its act under its well-formedness, and an act changes the hardware alone. -/
theorem illFormedCommandsStop : Obligations.IllFormedCommandsStop := by
  intro c s
  split
  next hwf => exact ⟨{ s with hw := act c s.hw }, exec_of_wf hwf s, rfl⟩
  next hwf => exact exec_of_not_wf (Bool.not_eq_true _ ▸ hwf) s

/-- Settles O4: one step by `step_of_queueWf`, any number of them by induction on that number. -/
theorem runsToTheEnd : Obligations.RunsToTheEnd := by
  refine ⟨fun s hwf => ?_, fun n s hwf => run_of_queueWf n hwf⟩
  obtain ⟨t, hstep, -, hkept⟩ := step_of_queueWf hwf
  exact ⟨t, hstep, hkept⟩

end Sys2Proof.Proofs

/-! SUPPORT. The egress queues: a write of a queue's command by its OP, and the pointers of an emptied queue (R403, R408, R409, R413). -/

namespace Sys2Proof.Machine

open Sys2Proof

/-! ### Commands of a queue (R403, R408, R409) -/

/-- The four commands of a queue's reader, each with its OP. -/
def egqCommands (a : Access) (q : Nat) : List (Instr × Nat) := [(.egqMark a q, 1), (.egqRewind a q, 2), (.egqRelease a q, 3), (.egqMarkRelease a q, 4)]

/-- The address of EGQ_q_CMD. -/
abbrev egqCmdAddr (q : Nat) : Nat := 0xc0108 + 0x80 * q

theorem domainAt_egqCmd {q : Nat} (hq : q < 8) : domainAt (egqCmdAddr q) = none := by
  interval_cases q <;> decide

section

variable {a : Access} {q : Nat} {s : State} {b : Block} {who : Requester}

/-- A command of a queue that acts at once is answered by `egqCmdOp`. -/
theorem exec_egqCommand (hwf : a.wf = true) (hq : q < 8) {c : Instr × Nat} (hc : c ∈ egqCommands a q)
    (hacts : s.hw.acts a (egqCmdAddr q) c.2 = true) :
    exec c.1 s = .next { s with hw := s.hw.answered a (egqCmdAddr q) c.2 (egqCmdOp a.who q c.2 s.hw) } := by
  have hsubmit : exec c.1 s = .next { s with hw := submit a (.write (egqCmdAddr q) [c.2]) s.hw } := by
    have hunit : (a.wf && decide (q < 8)) = true := by rw [hwf, decide_eq_true hq]; rfl
    simp only [egqCommands, List.mem_cons, List.not_mem_nil, or_false] at hc
    rcases hc with rfl | rfl | rfl | rfl
    exacts [exec_egqMark a q s hunit, exec_egqRewind a q s hunit, exec_egqRelease a q s hunit, exec_egqMarkRelease a q s hunit]
  rw [hsubmit, submit_of_acts hacts, regOp_egqCmd _ hq, Block.touched_of_none _ _ (domainAt_egqCmd hq), plainOp]

theorem egqCmdOp_of_stranger (h : b.isReader who q = false) (w : Nat) : egqCmdOp who q w b = (b.bump (F.EGQ_DENY_CNT q), .accessDenied) := by
  rw [egqCmdOp, h]
  rfl

section

variable (h : b.isReader who q = true)

include h

theorem egqCmdOp_mark : egqCmdOp who q 1 b = (b.markQueue q, .ok) := by
  rw [egqCmdOp, h]
  rfl

theorem egqCmdOp_rewind : egqCmdOp who q 2 b = (b.rewindQueue q, .ok) := by
  rw [egqCmdOp, h]
  rfl

theorem egqCmdOp_release : egqCmdOp who q 3 b = (b.releaseQueue q, .ok) := by
  rw [egqCmdOp, h]
  rfl

theorem egqCmdOp_markRelease : egqCmdOp who q 4 b = ((b.markQueue q).releaseQueue q, .ok) := by
  rw [egqCmdOp, h]
  rfl

end

/-- With MARK inside the front slot a release changes nothing. -/
theorem Block.releaseQueue_of_markFront (h : (b.queue q).markFront.isSome = true) : b.releaseQueue q = b := by
  rw [Block.releaseQueue]
  exact if_pos h

/-- With MARK in queue space a release moves REL to the end of the last whole record at or before MARK and empties the front slot. -/
theorem Block.releaseQueue_of_noMarkFront (h : (b.queue q).markFront = none) : b.releaseQueue q =
    (let rel := ((b.queue q).ends.filter fun e => decide (e.1 ≤ b.qMark q)).foldl (fun r e => max r e.1) (b.qRel q)
     (b.put64 (F.EGQ_REL_LO q) (F.EGQ_REL_HI q) rel).setQueue q
       { b.queue q with ends := (b.queue q).ends.filter (fun e => decide (rel < e.1)), front := [], rdFront := none }) := by
  rw [Block.releaseQueue]
  exact if_neg (by rw [h]; decide)

@[simp] theorem Block.queue_setQueue_same (b : Block) (q : Nat) (x : QueueSt) : (b.setQueue q x).queue q = x := lookupD_insertKey_same _ _ _ _

theorem Block.queue_setQueue_other (x : QueueSt) {r : Nat} (h : r ≠ q) : (b.setQueue q x).queue r = b.queue r := lookupD_insertKey_other _ _ _ _ _ h

end

/-! ### An emptied queue (R413) -/

/-- The two halves of a queue's five pointers. -/
def queuePointers (q : Nat) : List Field := [F.EGQ_PUB_LO q, F.EGQ_PUB_HI q, F.EGQ_REL_LO q, F.EGQ_REL_HI q, F.EGQ_RD_LO q, F.EGQ_RD_HI q,
  F.EGQ_MARK_LO q, F.EGQ_MARK_HI q, F.EGQ_WR_LO q, F.EGQ_WR_HI q]

/-- Every pointer of the queue stands at 0, and it holds no record and no front slot. -/
structure Block.QueueEmptied (b : Block) (q : Nat) : Prop where
  pointers : ∀ f ∈ queuePointers q, b.get f = 0
  queue : b.queue q = ⟨[], [], none, none⟩

section

variable {b c : Block} {q r : Nat}

@[simp] theorem Block.get_setQueue (b : Block) (q : Nat) (x : QueueSt) (f : Field) : (b.setQueue q x).get f = b.get f := rfl

theorem Block.get_clearQueue_other {f : Field} (h : ∀ g ∈ queuePointers q, f.key ≠ g.key) : (b.clearQueue q).get f = b.get f := by
  simp only [queuePointers, List.forall_mem_cons] at h
  obtain ⟨h1, h2, h3, h4, h5, h6, h7, h8, h9, h10, -⟩ := h
  rw [Block.clearQueue, Block.get_setQueue, Block.get_put64_other h9 h10, Block.get_put64_other h7 h8, Block.get_put64_other h5 h6,
    Block.get_put64_other h3 h4, Block.get_put64_other h1 h2]

/-- A register's place among the queues: its queue, and whether a pointer of the queue stands there. -/
theorem pointer_key_bounds {f : Field} (hf : f ∈ queuePointers q) : (F.EGQ_PUB_LO q).key ≤ f.key ∧ f.key < (F.EGQ_FREE q).key ∧ 0x80000 ≤ f.addr := by
  simp only [queuePointers, List.mem_cons, List.not_mem_nil, or_false] at hf
  rcases hf with rfl | rfl | rfl | rfl | rfl | rfl | rfl | rfl | rfl | rfl <;> simp only [Field.key] <;>
    omega

/-- No pointer of a queue is one of another's. -/
theorem pointer_key_ne {f g : Field} (hf : f ∈ queuePointers q) (hg : g ∈ queuePointers r) (h : r ≠ q) : f.key ≠ g.key := by
  have hfq := pointer_key_bounds hf
  have hgr := pointer_key_bounds hg
  simp only [Field.key] at hfq hgr ⊢
  omega

theorem Block.clearQueue_empties (b : Block) (q : Nat) : (b.clearQueue q).QueueEmptied q where
  pointers f hf := by
    simp only [queuePointers, List.mem_cons, List.not_mem_nil, or_false] at hf
    rcases hf with rfl | rfl | rfl | rfl | rfl | rfl | rfl | rfl | rfl | rfl <;>
      simp (disch := simp only [Field.key]; omega) [Block.clearQueue, Block.put64, Block.get_put_other]
  queue := Block.queue_setQueue_same _ _ _

/-- An emptied queue stays so where any queue is emptied. -/
theorem Block.QueueEmptied.clearQueue (h : b.QueueEmptied q) (r : Nat) : (b.clearQueue r).QueueEmptied q := by
  by_cases hr : r = q
  · exact hr ▸ b.clearQueue_empties r
  · exact ⟨fun f hf => (Block.get_clearQueue_other fun g hg => pointer_key_ne hf hg hr).trans (h.pointers f hf),
      (Block.queue_setQueue_other _ (Ne.symm hr)).trans h.queue⟩

theorem Block.clearQueues_empties (b : Block) (hq : q < 8) : b.clearQueues.QueueEmptied q := by
  have hkeep (l : List Nat) (c : Block) (h : c.QueueEmptied q) : (l.foldl Block.clearQueue c).QueueEmptied q := by
    induction l generalizing c with
    | nil => exact h
    | cons r l ih => exact ih _ (h.clearQueue r)
  have hmem : q ∈ allQueues := by
    interval_cases q <;> decide
  obtain ⟨l, m, hlm⟩ := List.append_of_mem hmem
  rw [Block.clearQueues, hlm, List.foldl_append, List.foldl_cons]
  exact hkeep m _ (Block.clearQueue_empties _ q)

theorem Block.get_clearQueues_other {f : Field} (h : ∀ r, ∀ g ∈ queuePointers r, f.key ≠ g.key) (b : Block) : b.clearQueues.get f = b.get f :=
  view_foldl (g := fun c => c.get f) (h := Block.clearQueue) (l := allQueues) (fun _ r _ => Block.get_clearQueue_other (h r)) b

theorem Block.clearQueues_phase (b : Block) : b.clearQueues.phase = b.phase :=
  view_foldl (g := Block.phase) (h := Block.clearQueue) (l := allQueues) (fun _ _ _ => rfl) b

/-- No pointer of a queue stands in a queue's CFG and RDR registers. -/
theorem config_key_ne {f : Field} (haddr : f.addr = 0xc0100 + q * 0x80 ∨ f.addr = 0xc0104 + q * 0x80) (hlo : f.lo < 32) (r : Nat) :
    ∀ g ∈ queuePointers r, f.key ≠ g.key := by
  intro g hg
  have hgr := pointer_key_bounds hg
  simp only [Field.key] at hgr ⊢
  omega

/-! ### Live entered (R57, R297, R559) -/

/-- Live entry changes the phase, the correction windows and two registers of the master. -/
theorem Block.enterLive_view {α : Type} {g : Block → α} (hphase : ∀ c : Block, g { c with phase := .live } = g c)
    (hwindow : ∀ c r t, g (Block.newWindow c r t) = g c)
    (hput : ∀ c f v, f.key = F.TRG_STAT_ACTING.key ∨ f.key = F.TRG_STAT_MASTER_NODE.key → g (Block.put c f v) = g c) (b : Block) :
    g b.enterLive = g b := by
  have hstart : g ({ b with phase := .live } : Block).startWindows = g b :=
    (view_foldl (h := fun c r => c.newWindow r b.tick) (l := eccRegions) (fun c r _ => hwindow c r b.tick) _).trans (hphase b)
  unfold Block.enterLive
  dsimp only
  split
  · exact (hput _ _ _ (.inr rfl)).trans ((hput _ _ _ (.inl rfl)).trans hstart)
  · exact hstart

theorem Block.enterLive_phase (b : Block) : b.enterLive.phase = .live := by
  have hstart : ({ b with phase := .live } : Block).startWindows.phase = .live :=
    view_foldl (g := Block.phase) (h := fun c r => c.newWindow r b.tick) (l := eccRegions) (fun _ _ _ => rfl) _
  unfold Block.enterLive
  dsimp only
  split
  · rw [Block.put_phase, Block.put_phase, hstart]
  · exact hstart

/-- The module opens fragments again, with its trigger master's state. -/
def Block.resumed (b : Block) (m : MasterSt) : Block := { b with reseat := false, master := m }

@[simp] theorem Block.resumed_phase (b : Block) (m : MasterSt) : (b.resumed m).phase = b.phase := rfl
@[simp] theorem Block.resumed_reseat (b : Block) (m : MasterSt) : (b.resumed m).reseat = false := rfl
@[simp] theorem Block.resumed_master (b : Block) (m : MasterSt) : (b.resumed m).master = m := rfl
@[simp] theorem Block.resumed_evb (b : Block) (m : MasterSt) : (b.resumed m).evb = b.evb := rfl
@[simp] theorem Block.resumed_queue (b : Block) (m : MasterSt) (q : Nat) : (b.resumed m).queue q = b.queue q := rfl
@[simp] theorem Block.get_resumed (b : Block) (m : MasterSt) (f : Field) : (b.resumed m).get f = b.get f := rfl

/-- The block that a completed reseat leaves before the power votes are acted on (R46, R57, R413). -/
def Block.reseated (b : Block) : Block :=
  let b1 := b.discardStale.resumed { b.master with beat := b.tick }
  if b1.phase == .join then b1.enterLive else b1

theorem reseatComplete_of_ready (h : b.reseatReady = true) : reseatComplete b = b.reseated.settlePower := if_pos h

/-- A completed reseat is the emptied queues and event builder, whether it enters Live or resumes there. -/
theorem Block.reseated_view {α : Type} {g : Block → α} (hphase : ∀ c : Block, g { c with phase := .live } = g c)
    (hwindow : ∀ c r t, g (Block.newWindow c r t) = g c)
    (hput : ∀ c f v, f.key = F.TRG_STAT_ACTING.key ∨ f.key = F.TRG_STAT_MASTER_NODE.key → g (Block.put c f v) = g c) (b : Block) :
    g b.reseated = g (b.discardStale.resumed { b.master with beat := b.tick }) := by
  unfold Block.reseated
  dsimp only
  split
  · exact Block.enterLive_view hphase hwindow hput _
  · rfl

theorem Block.reseated_phase (h : b.reseatReady = true) : b.reseated.phase = .live := by
  have hdiscard : b.discardStale.phase = b.phase := by rw [Block.discardStale, Block.withEvb_phase, Block.clearQueues_phase]
  unfold Block.reseated
  dsimp only
  rw [Block.resumed_phase, hdiscard]
  split
  next => exact Block.enterLive_phase _
  next hjoin =>
    simp only [Block.reseatReady, Bool.and_eq_true, Bool.or_eq_true, beq_iff_eq] at h hjoin
    rw [Block.resumed_phase, hdiscard, (h.1.1.1.1.1.resolve_left hjoin).1]

theorem Block.get_reseated {f : Field} (h : 0x80000 ≤ f.addr) (b : Block) : b.reseated.get f = b.clearQueues.get f := by
  have hne (g : Field) (hg : g.key = F.TRG_STAT_ACTING.key ∨ g.key = F.TRG_STAT_MASTER_NODE.key) : f.key ≠ g.key := by
    rcases hg with hg | hg <;> rw [hg] <;> simp only [Field.key] <;> omega
  rw [Block.reseated_view (g := fun c => c.get f) (fun _ => rfl) (fun _ _ _ => rfl) (fun c g v hg => Block.get_put_other c g f v (hne g hg)) b,
    Block.get_resumed, Block.discardStale, Block.get_withEvb]

end

end Sys2Proof.Machine

namespace Sys2Proof.Proofs

open Sys2Proof Sys2Proof.Machine

/-- Settles O22: each command is `egqCmdOp` on its OP, and a release goes by where MARK lies. -/
theorem markRewindRelease : Obligations.MarkRewindRelease := by
  intro a q s hwf hq addr x marked released
  have hcmd {c : Instr × Nat} (hc : c ∈ egqCommands a q) (hacts : s.hw.acts a addr c.2 = true) := exec_egqCommand hwf hq hc hacts
  refine ⟨fun hstranger c hc hacts => ?denied, fun hreader => ⟨fun hacts => ?mark, fun hacts => ?rewind, fun hacts hmark => ?release,
    fun hacts hmark => ?releaseFront, fun hacts hrd => ?markRelease⟩⟩
  case denied => rw [hcmd hc hacts, egqCmdOp_of_stranger hstranger]
  case mark =>
    rw [hcmd (c := (.egqMark a q, 1)) (by simp [egqCommands]) hacts, egqCmdOp_mark hreader]
    rfl
  case rewind =>
    rw [hcmd (c := (.egqRewind a q, 2)) (by simp [egqCommands]) hacts, egqCmdOp_rewind hreader]
    rfl
  case release =>
    rw [hcmd (c := (.egqRelease a q, 3)) (by simp [egqCommands]) hacts, egqCmdOp_release hreader, Block.releaseQueue_of_noMarkFront hmark]
  case releaseFront =>
    rw [hcmd (c := (.egqRelease a q, 3)) (by simp [egqCommands]) hacts, egqCmdOp_release hreader, Block.releaseQueue_of_markFront hmark]
  case markRelease =>
    have hmarked : ((s.hw.markQueue q).queue q).markFront = none := by rw [Block.markQueue, Block.queue_setQueue_same, hrd]
    rw [hcmd (c := (.egqMarkRelease a q, 4)) (by simp [egqCommands]) hacts, egqCmdOp_markRelease hreader,
      Block.releaseQueue_of_noMarkFront hmarked]
    rfl

/-- Settles O10: Live entry and the emptied event builder leave the queues as `clearQueues` does. -/
theorem reseatEmptiesTheQueues : Obligations.ReseatEmptiesTheQueues := by
  intro s hready
  have hview {α : Type} {g : Block → α} (hphase : ∀ c : Block, g { c with phase := .live } = g c)
      (hwindow : ∀ c r t, g (Block.newWindow c r t) = g c) (hput : ∀ c f v, g (Block.put c f v) = g c) :=
    Block.reseated_view hphase hwindow (fun c f v _ => hput c f v) s.hw
  have hevb : s.hw.reseated.evb = s.hw.discardStale.evb := by
    rw [hview (g := Block.evb) (fun _ => rfl) (fun _ _ _ => rfl) fun _ _ _ => rfl, Block.resumed_evb]
  refine ⟨s.hw.reseated, ?_, Block.reseated_phase hready, ?_, ?_, fun f hf => ?_, fun e he => ?_, fun q hq => ?_⟩
  · rw [exec_reseatComplete s rfl, reseatComplete_of_ready hready]
  · rw [hview (g := Block.reseat) (fun _ => rfl) (fun _ _ _ => rfl) fun _ _ _ => rfl, Block.resumed_reseat]
  · rw [hview (g := Block.master) (fun _ => rfl) (fun _ _ _ => rfl) fun _ _ _ => rfl, Block.resumed_master]
  · rw [hevb] at hf
    exact beq_iff_eq.1 (List.mem_filter.1 hf).2
  · rw [hevb] at he
    obtain ⟨x, -, rfl⟩ := List.mem_map.1 he
    rfl
  · have hempty := s.hw.clearQueues_empties hq
    have hqueue : s.hw.reseated.queue q = s.hw.clearQueues.queue q := by
      rw [hview (g := fun c => c.queue q) (fun _ => rfl) (fun _ _ _ => rfl) fun _ _ _ => rfl, Block.resumed_queue, Block.discardStale, Block.queue,
        Block.withEvb_egq, Block.queue]
    have hpointer {lo hi : Field} (hlo : lo ∈ queuePointers q) (hhi : hi ∈ queuePointers q) : s.hw.reseated.get64 lo hi = 0 := by
      have hzero {f : Field} (hf : f ∈ queuePointers q) : s.hw.reseated.get f = 0 := by
        rw [Block.get_reseated (pointer_key_bounds hf).2.2, hempty.pointers f hf]
      rw [Block.get64, hzero hlo, hzero hhi, Nat.mul_zero]
    have hconfig {f : Field} (haddr : f.addr = 0xc0100 + q * 0x80 ∨ f.addr = 0xc0104 + q * 0x80) (hlo : f.lo < 32) :
        s.hw.reseated.get f = s.hw.get f := by
      rw [Block.get_reseated (by omega), Block.get_clearQueues_other (config_key_ne haddr hlo)]
    refine ⟨hpointer ?_ ?_, hpointer ?_ ?_, hpointer ?_ ?_, hpointer ?_ ?_, hpointer ?_ ?_, ?_, hconfig (.inl rfl) ?_, hconfig (.inl rfl) ?_,
      hconfig (.inl rfl) ?_, hconfig (.inl rfl) ?_, hconfig (.inl rfl) ?_, hconfig (.inr rfl) ?_, hconfig (.inr rfl) ?_⟩
    case refine_11 => rw [hqueue, hempty.queue]
    all_goals simp [queuePointers]

end Sys2Proof.Proofs

/-! SUPPORT. One execution of a loop slot with no hand-over pending: held by its samples, or run and applied; and its stall (R418, R427 to R429). -/

namespace Sys2Proof.Machine

open Sys2Proof

section

variable {t slot : Nat} {b : Block}

/-- The slot has taken its pacing sample (R418). -/
def Block.pacedSlot (b : Block) (t slot : Nat) : Block :=
  b.setLoop t slot { b.loop t slot with paced := (b.pch (16 * t + b.get (F.BVR_S_CFG_PACE_CH t slot))).done }

/-- A pacing sample that came in time ends a row of overruns (R428). -/
def Block.inTime (b : Block) (t slot : Nat) : Block := b.put (F.BVR_S_STAT_OVR_RUN t slot) 0

/-- The samples that the active program takes, by position. -/
def Block.samples (b : Block) (t slot : Nat) : List (Nat × Option Nat) := b.execSamples t slot (b.program t slot (b.bankOf t slot))

/-- A program on the samples it takes: the registers, states and output that its operations give (R424). -/
def Block.programRun (b : Block) (t slot k : Nat) (l : List LoopOp) (loaded : Table Nat) : Run :=
  runOps false ⟨fun m => signed 24 (lookupD loaded m 0 / 256), b.genValue t slot, b.flag (F.BVR_S_STAT_AW t slot)⟩
    (fun o i => b.coef t slot k o.osh (o.coef + i)) (64 * k) l ⟨b.signals t slot, (b.loop t slot).ops, false, 0, none⟩

/-- The program has run on the samples `loaded`: the execution is counted and its results are applied. -/
def Block.executed (b : Block) (t slot k : Nat) (l : List LoopOp) (loaded : Table Nat) (raw dom quality tick : Nat) : Block :=
  ((b.setLoop t slot { b.loop t slot with loaded := loaded }).bump64 (F.BVR_S_EXEC_CNT_LO t slot)
    (F.BVR_S_EXEC_CNT_HI t slot) 1).execApply t slot k (b.programRun t slot k l loaded) false false raw dom quality tick

/-- The slot's active program run on its samples. -/
def Block.ran (b : Block) (t slot raw dom quality tick : Nat) : Block :=
  (b.inTime t slot).executed t slot (b.bankOf t slot) (b.program t slot (b.bankOf t slot))
    ((b.samples t slot).foldl (fun m w => insertKey m w.1 (w.2.getD 0)) []) raw dom quality tick

section

variable (hnext : (b.loop t slot).next = none) (raw dom quality tick : Nat)

include hnext

/-- A held execution is counted and changes no output, where it ends no overrun trip (R427). -/
theorem Block.execute_held (hheld : (b.samples t slot).any (fun w => holds w.2) = true)
    (htrip : ((b.inTime t slot).bump (F.BVR_S_HOLD_CNT t slot)).execTrip t slot ≠ some 5) :
    b.execute t slot false raw dom quality tick = (b.inTime t slot).bump (F.BVR_S_HOLD_CNT t slot) := by
  simp only [Block.inTime, Block.samples] at *
  unfold Block.execute
  simp only [hnext, Option.getD_none, Bool.false_eq_true, if_false, List.map_id', hheld, if_true]
  split
  next c hc => rw [if_neg (show ¬ c = 5 from fun h => htrip (h ▸ hc))]
  next => rfl

/-- An execution whose samples hold nothing runs the active program once, where no word of it is poisoned and no injection is armed (R427, R429). -/
theorem Block.execute_runs (hsound : b.ecc.upsets = []) (hunarmed : bitAt (b.get F.TST_STAT_MASK) 5 = false)
    (hfree : (b.samples t slot).any (fun w => holds w.2) = false) (hclean : (b.inTime t slot).progPoisoned t slot (b.bankOf t slot) = false)
    (htrip : (b.ran t slot raw dom quality tick).execTrip t slot = none) :
    b.execute t slot false raw dom quality tick = b.ran t slot raw dom quality tick := by
  have hcheck : (b.inTime t slot).progCheck t slot (b.bankOf t slot) = b.inTime t slot :=
    Block.checkRange_of_noUpsets (b := b.inTime t slot) hsound _ _
  have hmask : (b.inTime t slot).get F.TST_STAT_MASK = b.get F.TST_STAT_MASK :=
    Block.get_put_other _ _ _ _ (by simp only [Field.key]; omega)
  have hresidue := Block.takeResidue_of_unarmed (b := b.inTime t slot) (by rw [hmask, hunarmed]) (2 + t)
  unfold Block.execute
  simp only [Block.inTime, Block.samples] at *
  simp only [hnext, Option.getD_none, Bool.false_eq_true, if_false, List.map_id', hfree, hcheck, hclean, hresidue, Option.isSome_none]
  exact (by rw [htrip] : (match (b.ran t slot raw dom quality tick).execTrip t slot with
    | some c => (b.ran t slot raw dom quality tick).tripSafe t slot c
    | none => b.ran t slot raw dom quality tick) = b.ran t slot raw dom quality tick)

end

theorem loopExecution_of_pacing {p : Nat × Nat × Nat × Nat} (hp : b.pacing t slot = some p) :
    loopExecution t slot false b = ((b.pacedSlot t slot).execute t slot false p.1 p.2.1 p.2.2.1 p.2.2.2).actCritical b := by
  rw [loopExecution, hp]
  rfl

theorem Block.loop_inTime (b : Block) (t slot t' slot' : Nat) : (b.inTime t slot).loop t' slot' = b.loop t' slot' := rfl

theorem Block.loop_pacedSlot (b : Block) (t slot : Nat) : (b.pacedSlot t slot).loop t slot =
    { b.loop t slot with paced := (b.pch (16 * t + b.get (F.BVR_S_CFG_PACE_CH t slot))).done } := lookupD_insertKey_same _ _ _ _

end

end Sys2Proof.Machine

namespace Sys2Proof.Proofs

open Sys2Proof Sys2Proof.Machine

/-- Settles O25: an execution with no hand-over pending is held or runs, by its samples; a stall trips the slot. -/
theorem loopExecutionsAndStalls : Obligations.LoopExecutionsAndStalls := by
  intro t slot s ht hslot hsound hunarmed k l words b
  refine ⟨fun p hp hnext hclean => ?_, fun m hm htakes => ?_⟩
  · have hnext' : ((s.hw.pacedSlot t slot).loop t slot).next = none := by rw [Block.loop_pacedSlot, hnext]
    rw [exec_loopExecution t slot false s (by simp [Instr.wf, ht, hslot]), loopExecution_of_pacing hp]
    refine ⟨fun hheld htrip => ?_, fun hfree => ?_⟩
    · rw [Block.execute_held hnext' _ _ _ _ hheld htrip]
      rfl
    · intro loaded inp r c htrip
      have hran : (s.hw.pacedSlot t slot).ran t slot p.1 p.2.1 p.2.2.1 p.2.2.2 = c := by
        have hops : (((s.hw.pacedSlot t slot).inTime t slot).loop t slot).ops = (s.hw.loop t slot).ops := by
          rw [Block.loop_inTime, Block.loop_pacedSlot]
        rw [Block.ran, Block.executed, Block.programRun, hops]
        rfl
      rw [Block.execute_runs hnext' _ _ _ _ hsound hunarmed hfree hclean (hran ▸ htrip), hran]
  · intro ch hdue
    have hstall : (s.hw.slotTakes t slot (16 * t + m) && decide (max (s.hw.loop t slot).start ((ch.last.map (·.2.2.2.2)).getD 0) +
        16 * ceilDiv (decimation ch.odr * 15625) 256 ≤ s.hw.tick)) = true := by rw [htakes, decide_eq_true hdue]; rfl
    rw [exec_loopStall t slot m s (by simp [Instr.wf, ht, hslot, hm]), loopStall, whenDue_of_due hstall]

end Sys2Proof.Proofs

/-! SUPPORT. A claim of another module: the identity stands, and the module's own pending claim stands or is refused by rank (R444, R445). -/

namespace Sys2Proof.Machine

open Sys2Proof

/-- The fields of the identity lie below every field of the fabric. -/
abbrev Field.BelowFabric (f : Field) : Prop := f.key < F.FAB_STAT_QUAR.addr * 32

section

variable {b : Block} {p : Nat} {m : ClaimMsg} {c : OwnClaim} {f : Field}

/-- A new claim has been flooded on, and answered with HELD where it is pending for the module's own ID (R445). -/
def Block.claimHeard (b : Block) (p : Nat) (m : ClaimMsg) : Block :=
  let b1 := (b.remember m.serial m.node m.floodId).flood (some p) (.claim m)
  if !m.held && b1.isSelf m.node then b1.floodClaim b1.ownKind m.node true else b1

/-- The module's own pending claim has met another's: it stands, or is refused (R444, R445). -/
def Block.claimMet (b : Block) (m : ClaimMsg) : Block :=
  match b.fab.claim with
  | some c => if c.node == m.node && (m.held || claimWins m.kind m.serial c.kind b.serial) then b.claimRefused c else b
  | none => b

/-- The claim is noted among those that the module knows. -/
def Block.claimNoted (b : Block) (m : ClaimMsg) : Block := { b with fab := { b.fab with claims := noteClaim b.fab.claims m } }

theorem claimRx_eq (p : Nat) (m : ClaimMsg) (b : Block) : claimRx p m b =
    whenDue (!b.floodSeen m.serial m.node m.floodId && m.serial != b.serial) (fun b => (((b.claimHeard p m).claimMet m).claimNoted m).pinMeets m) b :=
  rfl

/-! ### What meeting a claim leaves of the identity -/

theorem Block.get_claimHeard (hf : f.BelowFabric) : (b.claimHeard p m).get f = b.get f := by
  unfold Block.claimHeard
  dsimp only
  split
  · rw [Block.get_floodClaim (Nat.ne_of_lt (Nat.lt_trans hf (by decide))), Block.flood_get]
    rfl
  · rw [Block.flood_get]
    rfl

theorem Block.claim_claimHeard : (b.claimHeard p m).fab.claim = b.fab.claim := by
  unfold Block.claimHeard
  dsimp only
  split
  · rw [Block.floodClaim_claim, Block.flood_fab]
    rfl
  · rw [Block.flood_fab]
    rfl

theorem Block.get_claimRefused (hf : f.BelowFabric) : (b.claimRefused c).get f = b.get f := by
  have hne (g : Field) (hg : F.FAB_STAT_QUAR.addr * 32 ≤ g.key) : f.key ≠ g.key := Nat.ne_of_lt (Nat.lt_of_lt_of_le hf hg)
  have hclaiming := hne F.FAB_STAT_CLAIMING (by decide)
  unfold Block.claimRefused
  split_ifs
  · exact Block.get_put_other b _ f 0 hclaiming
  · have hrefused : ((b.put F.FAB_STAT_CLAIMING 0).put F.FAB_STAT_ID_REFUSED 1).get f = b.get f :=
      (Block.get_put_other _ _ _ _ (hne F.FAB_STAT_ID_REFUSED (by decide))).trans (Block.get_put_other _ _ _ _ hclaiming)
    exact (Block.get_bump_other (b := (b.put F.FAB_STAT_CLAIMING 0).put F.FAB_STAT_ID_REFUSED 1) (hne cIdRefuse (by decide))).trans hrefused
  · rfl

theorem Block.get_claimMet (hf : f.BelowFabric) : (b.claimMet m).get f = b.get f := by
  unfold Block.claimMet
  split
  · split
    · exact Block.get_claimRefused hf
    · rfl
  · rfl

/-- Whatever claim comes, the identity stands. -/
theorem get_claimRx (hf : f.BelowFabric) : (claimRx p m b).get f = b.get f := by
  rw [claimRx_eq]
  cases hdue : !b.floodSeen m.serial m.node m.floodId && m.serial != b.serial
  · rfl
  · rw [whenDue_true, Block.get_pinMeets (Nat.ne_of_lt (Nat.lt_trans hf (by decide)))]
    exact (Block.get_claimMet hf).trans (Block.get_claimHeard hf)

theorem Block.serial_claimHeard : (b.claimHeard p m).serial = b.serial := by
  rw [Block.serial, Block.get64, Block.get_claimHeard (by decide), Block.get_claimHeard (by decide)]
  rfl

/-! ### Claims for one ID (R444) -/

/-- PINNED beats FIXED and FIXED beats CLAIM; between equals the lower serial number. -/
theorem claimWins_iff {k1 s1 k2 s2 : Nat} (h1 : k1 < 3) (h2 : k2 < 3) :
    claimWins k1 s1 k2 s2 = true ↔ (k1 = 2 ∧ k2 ≠ 2) ∨ (k1 = 0 ∧ k2 = 1) ∨ (k1 = k2 ∧ s1 < s2) := by
  interval_cases k1 <;> interval_cases k2 <;> simp [claimWins, kindRank]

/-- A refused PINNED or FIXED claim ends. -/
theorem Block.claim_claimRefused_ended (h : c.kind < 3) (hkind : c.kind ≠ 1) : (b.claimRefused c).fab.claim = none := by
  unfold Block.claimRefused
  split_ifs with h2 h0
  · rfl
  · rfl
  · omega

/-- A refused CLAIM starts anew. -/
theorem Block.claim_claimRefused_anew (hkind : c.kind = 1) : ∃ x, (b.claimRefused c).fab.claim = some x ∧ x.kind = 1 ∧ x.sent = 0 := by
  unfold Block.claimRefused
  rw [if_neg (by rw [hkind]; decide), if_neg (by rw [hkind]; decide)]
  exact ⟨_, rfl, rfl, rfl⟩

section

variable (hclaim : b.fab.claim = some c) (hnode : m.node = c.node) (hheld : m.held = false) (hserial : m.serial ≠ b.serial)
  (hnew : b.floodSeen m.serial m.node m.floodId = false)

include hclaim hnode hheld hserial hnew

/-- The pending claim after another module's new claim for the same ID. -/
theorem claim_claimRx : (claimRx p m b).fab.claim =
    if claimWins m.kind m.serial c.kind b.serial then ((b.claimHeard p m).claimRefused c).fab.claim else some c := by
  have hdue : (!b.floodSeen m.serial m.node m.floodId && m.serial != b.serial) = true := by simp [hnew, hserial]
  rw [claimRx_eq, whenDue_of_due hdue, Block.pinMeets_claim]
  change ((b.claimHeard p m).claimMet m).fab.claim = _
  rw [Block.claimMet, Block.claim_claimHeard, hclaim, hnode, hheld, Block.serial_claimHeard]
  simp only [beq_self_eq_true, Bool.true_and, Bool.false_or]
  split
  · rfl
  · rw [Block.claim_claimHeard, hclaim]

end

end

end Sys2Proof.Machine

namespace Sys2Proof.Proofs

open Sys2Proof Sys2Proof.Machine

/-- Settles O45: no claim reaches the identity; a pending claim stands or is refused as `claimWins` ranks the two. -/
theorem claimsAreRanked : Obligations.ClaimsAreRanked := by
  refine ⟨fun p m s hwf hvalid => ?_, fun p m c s hwf hm hc hclaim hheld hnode hserial hnew => ?_⟩
  · refine ⟨_, exec_claimRx p m s hwf, rfl, ?_, get_claimRx (by decide)⟩
    rw [Block.flag, get_claimRx (by decide)]
    exact hvalid
  · intro wins
    have hclaimed := claim_claimRx (p := p) hclaim hnode hheld hserial hnew
    refine ⟨_, exec_claimRx p m s hwf, rfl, fun hlost => ?_, fun hwon hkind => ?_, fun hwon hkind => ?_⟩
    · rw [hclaimed, if_neg fun h => hlost ((claimWins_iff hm hc).1 h)]
    · rw [hclaimed, if_pos ((claimWins_iff hm hc).2 hwon), Block.claim_claimRefused_ended hc hkind]
    · rw [hclaimed, if_pos ((claimWins_iff hm hc).2 hwon)]
      exact Block.claim_claimRefused_anew hkind

end Sys2Proof.Proofs

/-! SUPPORT. Frames at a port: what each check of FRAME_RX leads to, LACKs, replays, and a flow that skips (R449 to R453, R462). -/

namespace Sys2Proof.Machine

open Sys2Proof

section

variable {p : Nat} {b : Block}

/-! ### FRAME_RX (R451, R452) -/

/-- The frame that the bytes spell (R448). -/
def frameOfBytes (l : List Nat) : Frame :=
  let h := parseHeader l
  ⟨h.cls, h.mcast, h.link, h.poison, h.alt, h.dst, h.src, h.len, h.seq, h.boot, h.ttl, .raw ((l.drop 16).take h.len)⟩

/-- The fields of a header that R451 admits. -/
def Header.fieldsGood (h : Header) : Bool := h.version == 1 && h.cls != 7 && decide (h.len ≤ 2048) && h.zeros

/-- The frame of the expected LSEQ has been accepted: the next one is expected, and acknowledged in time (R452). -/
def Block.accepted (b : Block) (p : Nat) : Block :=
  b.setPort p { b.port p with
    lseqIn := ((b.port p).lseqIn + 1) % 4096, awaiting := false, acceptTick := (b.port p).acceptTick.or (some b.tick) }

theorem frameRx_of_down (hdown : b.portActive p = false) (hstage : b.stage p ≠ stExchange) (bytes : List Byte) : frameRx p bytes b = b := by
  rw [frameRx, hdown, beq_eq_false_iff_ne.2 hstage]
  rfl

section

variable {bytes : List Byte} (hon : b.portActive p = true)

include hon

theorem Block.stage_of_active : b.stage p = stActive := beq_iff_eq.1 hon

theorem portTakes_of_active : (b.portActive p || b.stage p == stExchange) = true := by rw [hon, Bool.true_or]

theorem frameRx_of_badHeader (h : checkFrame (bytes.map BitVec.toNat) = .badHeader) : frameRx p bytes b = (b.bump cHcrc).nak p := by
  unfold frameRx
  dsimp only
  rw [whenDue_of_due (portTakes_of_active hon), h]

theorem frameRx_of_badTrailer (h : checkFrame (bytes.map BitVec.toNat) = .badTrailer) : frameRx p bytes b =
    if (parseHeader (bytes.map BitVec.toNat)).link then b.bump (F.CRC_RXBAD p) else (b.bump (F.CRC_RXBAD p)).nak p := by
  unfold frameRx
  dsimp only
  rw [whenDue_of_due (portTakes_of_active hon), h]

section

variable {h : Header} (hcheck : checkFrame (bytes.map BitVec.toNat) = .good) (hh : parseHeader (bytes.map BitVec.toNat) = h)

include hcheck hh

/-- A good LINK frame is delivered on its port while its class has room (R450). -/
theorem frameRx_of_link (hlink : h.link = true) (hfields : h.fieldsGood = true) : frameRx p bytes b =
    if classBuffer h.cls ≤ b.linkHeld p h.cls then b.bump cLinkDrop
    else { b with fab := { b.fab with delivered := b.fab.delivered ++ [(some p, frameOfBytes (bytes.map BitVec.toNat))] } } := by
  unfold frameRx
  dsimp only
  subst h
  rw [whenDue_of_due (portTakes_of_active hon), hcheck]
  dsimp only
  rw [if_pos hlink, if_neg (by rw [Bool.not_eq_true', Bool.not_eq_false]; exact hfields)]
  rfl

theorem frameRx_of_otherLseq (hlink : h.link = false) (hlseq : h.lseq ≠ (b.port p).lseqIn) : frameRx p bytes b = b.nak p := by
  unfold frameRx
  dsimp only
  subst h
  rw [whenDue_of_due (portTakes_of_active hon), hcheck]
  dsimp only
  rw [if_neg (Bool.eq_false_iff.1 hlink), Block.stage_of_active hon, if_neg (by decide), if_pos (bne_iff_ne.2 hlseq)]

theorem frameRx_of_expected (hlink : h.link = false) (hlseq : h.lseq = (b.port p).lseqIn) : frameRx p bytes b =
    if h.fieldsGood then (b.accepted p).routeFrame p (frameOfBytes (bytes.map BitVec.toNat))
    else ((b.accepted p).bump cBadFrame).free1 (some p) (frameOfBytes (bytes.map BitVec.toNat)) := by
  unfold frameRx
  dsimp only
  subst h
  rw [whenDue_of_due (portTakes_of_active hon), hcheck]
  dsimp only
  rw [if_neg (Bool.eq_false_iff.1 hlink), Block.stage_of_active hon, if_neg (by decide), if_neg (by rw [hlseq, bne_self_eq_false]; decide)]
  rfl

end

end

/-! ### LACK_SEND (R452, R453) -/

/-- A LACK changes nothing but what its port remembers of it. -/
theorem Block.sendLack_spec (b : Block) (p : Nat) : (b.sendLack p).regs = b.regs ∧ (b.sendLack p).dram = b.dram ∧
    ((b.sendLack p).port p).lackTick = b.tick ∧ ((b.sendLack p).port p).replay = (b.port p).replay ∧
    ∃ f : Frame, (b.sendLack p).wire = .frame p 0 f false :: b.wire ∧ f.link = true ∧
      f.body = .msg (.lack ⟨false, ((b.port p).lseqIn + 4095) % 4096, (List.range 8).map (b.limitNow p)⟩) := by
  have hport : (b.sendLack p).port p = { b.port p with
      limitOut := (List.range 8).map fun k => (k, b.limitNow p k), lackTick := b.tick, acceptTick := none } := lookupD_insertKey_same _ _ _ _
  exact ⟨rfl, rfl, by rw [hport], by rw [hport], _, rfl, rfl, rfl⟩

/-! ### Replays (R452) -/

@[simp] theorem Block.port_setPort_same (b : Block) (p : Nat) (x : PortSt) : (b.setPort p x).port p = x := lookupD_insertKey_same _ _ _ _

@[simp] theorem Block.get_setPort (b : Block) (p : Nat) (x : PortSt) (f : Field) : (b.setPort p x).get f = b.get f := rfl

/-- A replay from the oldest frame is one of every outstanding frame, counted each, and leaves them outstanding. -/
theorem Block.replayFrom_head {r : Nat × Frame} {l : List (Nat × Frame)} (h : (b.port p).replay = r :: l) :
    (b.replayFrom p r.1).get cReplay = satU 32 (b.get cReplay + (b.port p).replay.length) ∧
    ((b.replayFrom p r.1).port p).replay = (b.port p).replay := by
  have hagain : ((b.port p).replay.dropWhile fun x => x.1 != r.1) = (b.port p).replay := by
    rw [h, List.dropWhile_cons, bne_self_eq_false]
    rfl
  have hemit {α : Type} {g : Block → α} (hg : ∀ c w, g (Block.emit c w) = g c) :
      g ((b.port p).replay.foldl (fun c x => c.emit (.frame p x.1 x.2 false)) b) = g b := view_foldl (fun c _ _ => hg c _) b
  have hsat (n : Nat) : satU 32 n < 2 ^ 32 := by
    unfold satU
    split <;> omega
  rw [Block.replayFrom, hagain]
  refine ⟨?_, ?_⟩
  · rw [Block.get_setPort, Block.bumpBy, Block.get_put_of_lt (hsat _), hemit (g := fun c => c.get cReplay) fun _ _ => rfl]
  · rw [Block.port_setPort_same]
    exact hemit (g := fun c => (c.port p).replay) fun _ _ => rfl

theorem replayTimeout_of_due {r : Nat × Frame} {l : List (Nat × Frame)} (hon : b.portActive p = true) (h : (b.port p).replay = r :: l)
    (hdue : (b.port p).progressTick + 4096 ≤ b.tick) : replayTimeout p b = b.replayFrom p r.1 := by
  rw [replayTimeout, hon, h, decide_eq_true hdue]
  rfl

theorem replayTimeout_of_early (hdue : b.tick < (b.port p).progressTick + 4096) : replayTimeout p b = b := by
  rw [replayTimeout, decide_eq_false (not_le.2 hdue), Bool.and_false, whenDue_false]

theorem replayTimeout_of_nothing (h : (b.port p).replay = []) : replayTimeout p b = b := by
  rw [replayTimeout, h, List.isEmpty_nil, Bool.not_true, Bool.and_false, Bool.false_and, whenDue_false]

end

end Sys2Proof.Machine

namespace Sys2Proof.Proofs

open Sys2Proof Sys2Proof.Machine

/-- Settles O47: a frame by its checks, its LINK bit and its LSEQ; a LACK, a replay and a skip by their conditions. -/
theorem framesAtAPort : Obligations.FramesAtAPort := by
  refine ⟨by decide +kernel, fun p s hp => ?_⟩
  intro b x
  refine ⟨fun bytes => ?frames, fun m hwf hon => ?lack, fun m hwf hdown => ?lackDown,
    fun hon => ⟨?lackSend, fun r l hreplay => ⟨fun hdue => ?replay, fun hdue => ?replayEarly⟩, fun hnone => ?replayNone⟩,
    fun src dst cls mcast v hsrc hdst hcls hflow => ?reorder⟩
  all_goals have hport : decide (p < 8) = true := decide_eq_true hp
  case frames =>
    intro l h fields f
    rw [exec_frameRx p bytes s hport]
    refine ⟨fun hdown hstage => ?_, fun hon => ⟨fun hcheck => ?_, fun hcheck hlink => ?_, fun hcheck hlink => ?_, fun hcheck hlink hfields =>
      ⟨fun hroom => ?_, fun hfull => ?_⟩, fun hcheck hlink hlseq => ?_, fun hcheck hlink hlseq => ?_⟩⟩
    · rw [frameRx_of_down hdown hstage]
    · rw [frameRx_of_badHeader hon hcheck]
    · rw [frameRx_of_badTrailer hon hcheck, if_neg (Bool.eq_false_iff.1 hlink)]
    · rw [frameRx_of_badTrailer hon hcheck, if_pos hlink]
    · rw [frameRx_of_link hon hcheck rfl hlink hfields, if_neg (not_le.2 hroom)]
      rfl
    · rw [frameRx_of_link hon hcheck rfl hlink hfields, if_pos hfull]
    · rw [frameRx_of_otherLseq hon hcheck rfl hlink hlseq]
    · rw [frameRx_of_expected hon hcheck rfl hlink hlseq]
      rfl
  case lack =>
    rw [exec_lackRx p m s hwf, lackRx, whenDue_of_due hon]
  case lackDown =>
    refine ⟨?_, ?_, ?_⟩
    · rw [exec_lackRx p m s hwf, lackRx, hdown, whenDue_false]
    · rw [exec_lackSend p s hport, lackSend, hdown, whenDue_false]
    · rw [exec_replayTimeout p s hport, replayTimeout, hdown, Bool.false_and, Bool.false_and, whenDue_false]
  case lackSend =>
    refine ⟨_, exec_lackSend p s hport, rfl, ?_⟩
    dsimp only
    rw [lackSend, whenDue_of_due hon]
    exact b.sendLack_spec p
  case replay =>
    rw [exec_replayTimeout p s hport, replayTimeout_of_due hon hreplay hdue]
    exact ⟨rfl, Block.replayFrom_head hreplay⟩
  case replayEarly => rw [exec_replayTimeout p s hport, replayTimeout_of_early hdue]
  case replayNone => rw [exec_replayTimeout p s hport, replayTimeout_of_nothing hnone]
  case reorder =>
    intro ripe low r
    have hwf : Instr.wf (.reorderTimeout src dst mcast cls) = true := by simp [Instr.wf, hsrc, hdst, hcls]
    rw [exec_reorderTimeout src dst mcast cls s hwf, reorderTimeout, hflow]
    dsimp only
    refine ⟨fun hripe => ?_, fun hripe => ?_⟩
    · rw [whenDue_of_due hripe]
    · rw [show (v.held.any fun h => decide (h.tick + max 1 (s.hw.get F.FAB_REORDER) * usTicks ≤ s.hw.tick)) = false from hripe, whenDue_false]

end Sys2Proof.Proofs

/-! SUPPORT. What stays when a port changes its stage: the fields that forwarding does not count in, the CAPs, DRAM and
the votes (R455, R456, R484). -/

namespace Sys2Proof.Machine

open Sys2Proof

/-- A field that forwarding and the routes do not write: no counter of theirs, and outside the rows of the routes (R456, R473, R586). -/
structure Field.OffRoutes (f : Field) : Prop where
  noRoute : f.key ≠ cNoRoute.key
  injected : f.key ≠ F.TST_INJ_CNT.key
  rows : f.key < 0xd8000 * 32 ∨ 18 < f.key % 32

/-- From one block to another a field, the CAPs of the neighbours, DRAM, the votes and the tick stand. -/
structure Block.Steady (f : Field) (a b : Block) : Prop where
  reg : b.get f = a.get f
  caps : b.fab.caps = a.fab.caps
  dram : b.dram = a.dram
  pwr : b.pwr = a.pwr
  tick : b.tick = a.tick

namespace Block.Steady

variable {f : Field} {a b c : Block}

theorem refl (f : Field) (a : Block) : Steady f a a := ⟨rfl, rfl, rfl, rfl, rfl⟩

/-- What a change of any other part leaves. -/
theorem frame (h : Steady f a b) (hregs : c.regs = b.regs := by rfl) (hcaps : c.fab.caps = b.fab.caps := by rfl)
    (hdram : c.dram = b.dram := by rfl) (hpwr : c.pwr = b.pwr := by rfl) (htick : c.tick = b.tick := by rfl) : Steady f a c :=
  ⟨(Block.get_of_regs hregs f).trans h.reg, hcaps.trans h.caps, hdram.trans h.dram, hpwr.trans h.pwr, htick.trans h.tick⟩

theorem ite {p : Prop} {inst : Decidable p} (hb : Steady f a b) (hc : Steady f a c) : Steady f a (if p then b else c) := by
  split; exacts [hb, hc]

theorem foldl {α : Type} {l : List α} {g : Block → α → Block} (h : Steady f a b) (hg : ∀ c, Steady f a c → ∀ x, Steady f a (g c x)) :
    Steady f a (l.foldl g b) := by
  induction l generalizing b with
  | nil => exact h
  | cons x l ih => exact ih (hg b h x)

theorem put {g : Field} {v : Nat} (h : Steady f a b) (hg : f.key ≠ g.key) : Steady f a (b.put g v) :=
  ⟨(Block.get_put_other b g f v hg).trans h.reg, h.caps, h.dram, h.pwr, h.tick⟩

theorem bump {g : Field} (h : Steady f a b) (hg : f.key ≠ g.key) : Steady f a (b.bump g) := h.put hg

theorem setPort {p : Nat} {x : PortSt} (h : Steady f a b) : Steady f a (b.setPort p x) := h.frame

theorem emit {w : Wire} (h : Steady f a b) : Steady f a (b.emit w) := h.frame

theorem withTst {t : TstSt} (h : Steady f a b) : Steady f a { b with tst := t } := h.frame

theorem post {d : Dest} {cls : Nat} {m : Msg} (h : Steady f a b) : Steady f a (b.post d cls m) := h.frame

theorem setLevel {s : Nat} {on : Bool} {payload : Nat} (h : Steady f a b) : Steady f a (b.setLevel s on payload) := h.frame

/-! ### A port that leaves ACTIVE -/

theorem free1 {o : Option Nat} {x : Frame} (h : Steady f a b) : Steady f a (b.free1 o x) := by
  cases o with
  | none => exact h
  | some p => exact h.setPort

section

variable (hf : f.OffRoutes)

include hf

theorem launch {p : Nat} {o : Option Nat} {x : Frame} (h : Steady f a b) : Steady f a (b.launch p o x) := by
  have hsent {y : PortSt} : Steady f a ((b.setPort p y).free1 o x) := h.setPort.free1
  unfold Block.launch
  dsimp only
  exact ite (ite (hsent.withTst.bump hf.injected) hsent.withTst).emit hsent.emit

theorem pumpClass {p k n : Nat} (h : Steady f a b) : Steady f a (pumpClass b p k n) := by
  induction n generalizing b with
  | zero => exact h
  | succ n ih =>
    rw [Machine.pumpClass]
    split
    · exact h
    · exact ite (ih (h.setPort.launch hf)) h

theorem pump {p : Nat} (h : Steady f a b) : Steady f a (b.pump p) := ite (h.foldl fun _ hc _ => hc.pumpClass hf) h

theorem portSend {p : Nat} {o : Option Nat} {x : Frame} (h : Steady f a b) : Steady f a (b.portSend p o x) := h.setPort.pump hf

theorem forward {o : Option Nat} {x : Frame} (h : Steady f a b) : Steady f a (b.forward o x) := by
  have hb1 : Steady f a (if (b.choosePort x.dst o).2 then b.bump cNoRoute else b) := ite (h.bump hf.noRoute) h
  unfold Block.forward
  dsimp only
  split
  · exact hb1.portSend hf
  · exact (ite hb1 (hb1.bump hf.noRoute)).free1

theorem setRoute {d : Nat} {r : Route} (h : Steady f a b) : Steady f a (b.setRoute d r) := by
  have hrow (addr lo : Nat) (haddr : 0xd8000 ≤ addr) (hlo : lo ≤ 18) (w reset : Nat) : f.key ≠ (Field.mk addr lo w reset).key := by
    have hrows := hf.rows
    simp only [Field.key] at hrows ⊢
    omega
  have hb2 : Steady f a ((({ b with fab := { b.fab with routes := insertKey b.fab.routes d r } } : Block).put
      (F.FAB_RT_FWD_HOPS d) r.hops).put (F.FAB_RT_GEN d) r.rgen) :=
    (h.frame.put (hrow _ _ (by omega) (by omega) _ _)).put (hrow _ _ (by omega) (by omega) _ _)
  exact ite hb2 ((((hb2.put (hrow _ _ (by omega) (by omega) _ _)).put (hrow _ _ (by omega) (by omega) _ _)).put
    (hrow _ _ (by omega) (by omega) _ _)).put (hrow _ _ (by omega) (by omega) _ _))

theorem leaveActive {p : Nat} (h : Steady f a b) : Steady f a (b.leaveActive p) := by
  have again (c : Block) (o : Option Nat) (x : Frame) (hc : Steady f a c) :
      Steady f a (if x.mcast then (c.bump cNoRoute).free1 o x else (c.free1 o x).forward none x) :=
    ite ((hc.bump hf.noRoute).free1) ((hc.free1).forward hf)
  have hdrop : Steady f a (b.dropOffers p) := h.foldl fun c hc e => ite (hc.setRoute hf) hc
  exact ((hdrop.frame (c := { b.dropOffers p with
      posted := (b.dropOffers p).posted.filter fun q => q.dest != Dest.link p
      fab := { (b.dropOffers p).fab with delivered := (b.dropOffers p).fab.delivered.filter fun d => d.1 != some p } })).frame.foldl
    fun c hc r => again c none _ hc).foldl fun c hc w => again c w.1 w.2 hc

/-! ### A port that enters a stage -/

/-- Another stage of the port leaves every field that shows neither the stage nor the width (R484). -/
theorem setStage {p st : Nat} (h : Steady f a b) (hstage : f.key ≠ (F.LNK_STAT_STAGE p).key) (hx2 : f.key ≠ (F.LNK_STAT_X2_NOW p).key) :
    Steady f a (b.setStage p st) := by
  have hb2 {x : PortSt} : Steady f a ((b.put (F.LNK_STAT_STAGE p) st).setPort p x) := (h.put hstage).setPort
  exact (ite ((hb2.leaveActive hf).put hx2) hb2).setLevel

theorem enterActive {p : Nat} (h : Steady f a b) : Steady f a (b.enterActive p) := by
  unfold Block.enterActive
  exact h.setPort.pump hf

end

theorem beacon {p : Nat} (h : Steady f a b) : Steady f a (b.beacon p) := (ite h.emit h).setPort

theorem startClaim (h : Steady f a b) (hclaim : f.key ≠ F.FAB_STAT_CLAIMING.key) : Steady f a b.startClaim :=
  ite ((h.put (v := 1) hclaim).frame) h

theorem sendCaps (h : Steady f a b) : Steady f a b.sendCaps := h.foldl fun _ hc _ => hc.post

theorem triggeredAdvert (h : Steady f a b) : Steady f a b.triggeredAdvert :=
  ite h (h.frame.foldl fun _ hc _ => hc.foldl fun _ hd _ => hd.post)

theorem reQuarantine (h : Steady f a b) (hquar : f.key ≠ F.FAB_STAT_QUAR.key) : Steady f a b.reQuarantine :=
  ite (h.put hquar).setLevel (h.put hquar).setLevel.sendCaps

end Block.Steady

end Sys2Proof.Machine

/-! SUPPORT. Capabilities, routes and host ports: what a CAP leaves, when a route acts, the answer to an ARP request (R455 to R468). -/

namespace Sys2Proof.Machine

open Sys2Proof

/-! ### CAP_RX (R455) -/

/-- A field of the rows that show what a port knows of its neighbour (R472). -/
abbrev Field.Neighbour (f : Field) : Prop := F.FAB_PIN_NODE.key + 31 < f.key ∧ f.key < (F.FAB_TREE_CFG 0).key

theorem Field.Neighbour.of_row {addr lo w reset : Nat} (hlow : 0xd0020 ≤ addr) (hhigh : addr < 0xd0060) (hlo : lo < 32) :
    (Field.mk addr lo w reset).Neighbour := by
  simp only [Field.Neighbour, Field.key]
  omega

theorem Field.Neighbour.offRoutes {f : Field} (h : f.Neighbour) : f.OffRoutes := by
  obtain ⟨hlow, hhigh⟩ := h
  simp only [Field.key] at hlow hhigh
  constructor <;> simp only [Field.key] <;> omega

theorem Field.Neighbour.ne_above {f : Field} (h : f.Neighbour) {addr lo w reset : Nat} (haddr : 0xd0080 ≤ addr) :
    f.key ≠ (Field.mk addr lo w reset).key := by
  obtain ⟨-, hhigh⟩ := h
  simp only [Field.key] at hhigh ⊢
  omega

theorem Field.Neighbour.ne_below {f : Field} (h : f.Neighbour) {addr lo w reset : Nat} (haddr : addr < 0xd0018) (hlo : lo < 32) :
    f.key ≠ (Field.mk addr lo w reset).key := by
  obtain ⟨hlow, -⟩ := h
  simp only [Field.key] at hlow ⊢
  omega

namespace Block.Steady

section

variable {f : Field} {a b : Block} {p : Nat} (hf : f.Neighbour)

include hf

theorem setStage_neighbour {st : Nat} (h : Steady f a b) : Steady f a (b.setStage p st) :=
  h.setStage hf.offRoutes (hf.ne_above (by omega)) (hf.ne_above (by omega))

theorem restart (h : Steady f a b) : Steady f a (b.restart p) :=
  ((((h.put (hf.ne_above (by omega))).put (hf.ne_above (by omega))).setStage_neighbour hf).beacon)

theorem toActive {x2 : Bool} (h : Steady f a b) : Steady f a (b.toActive p x2) :=
  ((((((((h.put (hf.ne_above (by omega))).bump (hf.ne_above (by omega))).put (hf.ne_above (by omega))).put (hf.ne_above (by omega))).put
    (hf.ne_above (by omega))).put (hf.ne_above (by omega))).put (hf.ne_above (by omega))).setStage_neighbour hf).enterActive hf.offRoutes |>.startClaim
    (hf.ne_below (by omega) (by omega))

theorem hostRoute {m : CapMsg} (h : Steady f a b) : Steady f a (b.hostRoute p m) := ite (h.setRoute hf.offRoutes).triggeredAdvert h

end

end Block.Steady

section

variable {p : Nat} {m : CapMsg} {b : Block}

/-- After the CAP is recorded, what follows it leaves what the port shows of its neighbour. -/
theorem capRx_steady {f : Field} (hf : f.Neighbour) (hon : (b.portActive p || b.stage p == stExchange) = true) :
    (b.recordCap p m).Steady f (capRx p m b) := by
  have hrecorded := Block.Steady.refl f (b.recordCap p m)
  rw [capRx, whenDue_of_due hon]
  dsimp only
  refine (Block.Steady.ite ((Block.Steady.put ?_ (hf.ne_above (by omega))).hostRoute hf) ?_).reQuarantine (hf.ne_below (by omega) (by omega))
  all_goals exact .ite (.ite (hrecorded.restart hf) hrecorded) (.ite (hrecorded.setPort.toActive hf) hrecorded.setPort.emit)

theorem recordCap_shows (b : Block) (p : Nat) (m : CapMsg) : lookup (b.recordCap p m).fab.caps p = some m ∧ (b.recordCap p m).dram = b.dram ∧
    (b.recordCap p m).get (F.FAB_PORT_NBR_VALID p) = b2n m.nodeValid ∧ (b.recordCap p m).get (F.FAB_NBR_SER p) = m.serhash % 2 ^ 32 ∧
    (b.recordCap p m).get (F.FAB_PORT_CFG_MISMATCH p) = b2n (m.cfgGen != b.get F.IDN_CFGGEN) := by
  have hbit (x : Bool) : b2n x % 2 ^ 1 = b2n x := by cases x <;> rfl
  have hreg (f : Field) : (b.recordCap p m).get f = ((((((b.putB (F.FAB_PORT_NBR_VALID p) m.nodeValid).putB (F.FAB_PORT_NBR_HOST p) m.host).putB
    (F.FAB_PORT_CFG_MISMATCH p) (m.cfgGen != b.get F.IDN_CFGGEN)).put (F.FAB_PORT_NBR_QUAR p) (m.roles / 16)).put
    (F.FAB_PORT_NBR_NODE p) m.node).put (F.FAB_NBR_SER p) m.serhash).get f := rfl
  refine ⟨lookup_insertKey_same _ _ _, rfl, ?_, ?_, ?_⟩ <;> rw [hreg]
  all_goals simp (disch := simp only [Field.key]; omega) only [Block.putB, Block.get_put_other, Block.get_put_same, hbit]

/-! ### Routes (R459, R460) -/

variable {d : Nat}

/-- A route without a usable primary fails over (R459). -/
theorem routeExpire_of_primary {q : Nat} (h : (b.route d).primary = some q) :
    routeExpire d b = whenDue (!b.portActive q || decide (72 ≤ (b.route d).age)) (fun b => b.failOver d) b := by
  rw [routeExpire, h]

theorem Block.failOver_of_alternate {x : Nat} (h : (b.route d).alt = some x) : b.failOver d = (b.setRoute d { b.route d with
    primary := some x, hops := ((lookup (b.route d).offers x).map (·.1)).getD 255, alt := none, age := 0, changed := true }).triggeredAdvert := by
  rw [Block.failOver, h]

theorem Block.failOver_of_none (h : (b.route d).alt = none) : b.failOver d = (b.setRoute d { b.route d with
    primary := none, hops := 255, rgen := if (b.route d).rgen % 2 = 1 then (b.route d).rgen else ((b.route d).rgen + 1) % 2 ^ 32, age := 0,
    changed := true }).triggeredAdvert := by
  simp only [Block.failOver, h]

theorem nodeDepart_of_lost (hcc : b.ccOn = true) (hself : b.isSelf d = false) (hhops : (b.route d).hops = 255)
    (hdeparted : (b.route d).departed = false) (hlost : max 1 (b.get F.FAB_CTRL_DEPART_EPOCHS) ≤ (b.route d).lostFor) :
    nodeDepart d b = ((((((b.setRoute d { b.route d with departed := true }).raise 169 d).dropVoter d).reassign d).reannounce d).settlePower) := by
  rw [nodeDepart, whenDue_of_due (by rw [hcc, hself, hhops, hdeparted, decide_eq_true hlost]; rfl)]

theorem nodeDepart_of_kept (h : (b.route d).hops ≠ 255 ∨ (b.route d).departed = true) : nodeDepart d b = b := by
  rw [nodeDepart, whenDue_of_notDue]
  obtain hhops | hdeparted := h
  · rw [beq_eq_false_iff_ne.2 hhops, Bool.and_false, Bool.false_and, Bool.false_and, Bool.false_and]
  · rw [hdeparted, Bool.not_true, Bool.and_false, Bool.false_and, Bool.false_and]

/-- A pinned entry takes the written ports (R460). -/
theorem routePinOp_pinned {w : Nat} (h : bitAt w 17 = true) : ∃ c, routePinOp d w b = (c, .ok) ∧ c.get (F.FAB_RT_FWD_PINNED d) = 1 ∧
    c.get (F.FAB_RT_FWD_PRIMARY d) = w % 8 ∧ c.get (F.FAB_RT_FWD_ALT d) = w / 16 % 8 ∧ c.get (F.FAB_RT_FWD_P_VALID d) = w / 128 % 2 ∧
    c.get (F.FAB_RT_FWD_A_VALID d) = w / 2 ^ 16 % 2 ∧ c.fab = b.fab := by
  refine ⟨_, if_pos h, ?_, ?_, ?_, ?_, ?_, rfl⟩
  all_goals simp (disch := simp only [Field.key]; omega) only [Block.get_put_other, Block.get_put_same, bitsOf]
  all_goals omega

theorem routePinOp_unpinned {w : Nat} (h : bitAt w 17 = false) :
    routePinOp d w b = ((b.put (F.FAB_RT_FWD_PINNED d) 0).setRoute d (b.route d), .ok) :=
  if_neg (Bool.eq_false_iff.1 h)

theorem domainAt_route (hd : d < 4096) : domainAt (0xd8000 + 8 * d) = none := by
  have htile : tileOf (0xd8000 + 8 * d) = none := by
    unfold tileOf
    rw [if_neg (by simp; omega)]
  rw [domainAt, htile, decide_eq_false (by omega)]
  rfl

theorem submit_routePin {a : Access} {w : Nat} (hd : d < 4096) (hacts : b.acts a (0xd8000 + 8 * d) w = true) :
    submit a (.write (0xd8000 + 8 * d) [w]) b = b.answered a (0xd8000 + 8 * d) w (routePinOp d w b) := by
  rw [submit_of_plainOp (regOp_routePin _ hd) hacts, b.touched_of_none _ (domainAt_route hd)]

/-! ### Ethernet frames at a host-mode port (R467) -/

theorem Block.length_configured4 (b : Block) {me : List Nat} (h4 : b.configured4 p = some me) : me.length = 4 := by
  rw [Block.configured4] at h4
  split at h4
  · rw [← Option.some.inj h4, beBytes, List.length_reverse, length_leBytes]
  · cases h4

/-- The module answers an ARP request for the port's configured address. -/
theorem Block.arpIn_request {mac who me : List Nat} (h4 : b.configured4 p = some me) (hmac : mac.length = 6) (hwho : who.length = 4) :
    b.arpIn p ([0, 1, 8, 0, 6, 4, 0, 1] ++ mac ++ who ++ [0, 0, 0, 0, 0, 0] ++ me) =
      b.etherOut p mac 0x0806 ([0, 1, 8, 0, 6, 4, 0, 2] ++ b.portMac p ++ me ++ mac ++ who) := by
  have hme : me.length = 4 := b.length_configured4 h4
  match mac, hmac, who, hwho, me, hme with
  | [m0, m1, m2, m3, m4, m5], _, [w0, w1, w2, w3], _, [e0, e1, e2, e3], _ =>
    rw [Block.arpIn, h4]
    simp

theorem hostEthernetFrameRx_arp {mac who me : List Nat} {bytes : List Byte} (hhost : b.hostPort p = true) (hon : b.portActive p = true)
    (h4 : b.configured4 p = some me) (hmac : mac.length = 6) (hwho : who.length = 4)
    (hbytes : bytes.map BitVec.toNat =
      [255, 255, 255, 255, 255, 255] ++ mac ++ [8, 6, 0, 1, 8, 0, 6, 4, 0, 1] ++ mac ++ who ++ [0, 0, 0, 0, 0, 0] ++ me) :
    hostEthernetFrameRx p bytes b = b.etherOut p mac 0x0806 ([0, 1, 8, 0, 6, 4, 0, 2] ++ b.portMac p ++ me ++ mac ++ who) := by
  have hme : me.length = 4 := b.length_configured4 h4
  have hbroadcast : b.macIn p ((bytes.map BitVec.toNat).take 6) = true := by
    rw [hbytes, Block.macIn, Bool.or_eq_true]
    exact .inr (by simp [bitAt])
  have hlength : (bytes.map BitVec.toNat).length = 42 := by simp [hbytes, hmac, hwho, hme]
  have hdue : (b.hostPort p && (b.stage p == stExchange || b.stage p == stActive) && decide (14 ≤ (bytes.map BitVec.toNat).length) &&
      decide ((bytes.map BitVec.toNat).length ≤ 9014) && b.macIn p ((bytes.map BitVec.toNat).take 6)) = true := by
    rw [hhost, Block.stage_of_active hon, hlength, hbroadcast]
    rfl
  match mac, hmac with
  | [m0, m1, m2, m3, m4, m5], hmac =>
    have htype : beVal (((bytes.map BitVec.toNat).drop 12).take 2) = 0x0806 := by
      rw [hbytes]
      rfl
    have hbody : (bytes.map BitVec.toNat).drop 14 =
        [0, 1, 8, 0, 6, 4, 0, 1] ++ [m0, m1, m2, m3, m4, m5] ++ who ++ [0, 0, 0, 0, 0, 0] ++ me := by
      rw [hbytes]
      rfl
    rw [hostEthernetFrameRx]
    dsimp only
    rw [whenDue_of_due hdue, if_pos htype, hbody, Block.arpIn_request h4 hmac hwho]

theorem hostEthernetFrameRx_elsewhere {bytes : List Byte} (hmac : b.macIn p ((bytes.map BitVec.toNat).take 6) = false) :
    hostEthernetFrameRx p bytes b = b := by
  rw [hostEthernetFrameRx]
  dsimp only
  rw [hmac, Bool.and_false, whenDue_false]

end

end Sys2Proof.Machine

namespace Sys2Proof.Proofs

open Sys2Proof Sys2Proof.Machine

/-- Settles O48: a CAP is recorded before its port moves, and no move writes what is shown of it; a route, a departure, a tree message, a host
port and a log line by their conditions. -/
theorem routesTreesAndHosts : Obligations.RoutesTreesAndHosts := by
  intro s b
  refine ⟨fun p m hwf hon => ?cap, fun p l hwf => ⟨fun hmode hon => ?advert, fun hdown => ?advertDown⟩, fun d hd q hprimary => ?expire,
    fun d hd hcc hself => ?depart, fun a d w ha hd => ?pin, fun p m hwf hmode hon => ?tree, fun p hp hhost hstage => ⟨fun hcap => ?beacon, fun hcap => ?capHeld⟩,
    fun p mac who me bytes hp hhost hon h4 hmac hwho hbytes => ?arp, fun p bytes hp hmac => ?elsewhere, fun text => ⟨fun hen => ?log, fun hen => ?noLog⟩⟩
  case cap =>
    have hdue : (b.portActive p || b.stage p == stExchange) = true := by simpa using hon
    have hp : p < 8 := by
      rw [Instr.wf, Bool.and_eq_true] at hwf
      exact of_decide_eq_true hwf.1
    have hvalid := capRx_steady (m := m) (f := F.FAB_PORT_NBR_VALID p) (.of_row (by omega) (by omega) (by omega)) hdue
    have hserial := capRx_steady (m := m) (f := F.FAB_NBR_SER p) (.of_row (by omega) (by omega) (by omega)) hdue
    have hmismatch := capRx_steady (m := m) (f := F.FAB_PORT_CFG_MISMATCH p) (.of_row (by omega) (by omega) (by omega)) hdue
    obtain ⟨hcaps, hdram, hshowsValid, hshowsSerial, hshowsMismatch⟩ := recordCap_shows b p m
    exact ⟨_, exec_capRx p m s hwf, rfl, by rw [← hcaps, ← hvalid.caps], hvalid.dram.trans hdram, hvalid.reg.trans hshowsValid,
      hserial.reg.trans hshowsSerial, hmismatch.reg.trans hshowsMismatch⟩
  case advert => rw [exec_advertRx p l s hwf, advertRx, whenDue_of_due (by rw [hmode, hon]; rfl)]
  case advertDown => rw [exec_advertRx p l s hwf, advertRx, whenDue_of_notDue (Bool.and_eq_false_iff.2 hdown)]
  case expire =>
    intro r gone
    rw [exec_routeExpire d s (decide_eq_true hd), routeExpire_of_primary hprimary]
    refine ⟨fun hkept => ?_, fun hgone => ⟨fun x halt => ?_, fun halt => ?_⟩⟩
    · rw [whenDue_of_notDue hkept]
    · rw [whenDue_of_due hgone, Block.failOver_of_alternate halt]
    · rw [whenDue_of_due hgone, Block.failOver_of_none halt]
  case depart =>
    intro r b1
    rw [exec_nodeDepart d s (decide_eq_true hd)]
    refine ⟨fun hhops hdeparted hlost => ?_, fun hkept => ?_⟩
    · rw [nodeDepart_of_lost hcc hself hhops hdeparted hlost]
    · rw [nodeDepart_of_kept hkept]
  case pin =>
    intro addr v hacts
    have hwf : Instr.wf (.routePinWrite a d w) = true := by simp [Instr.wf, ha, hd]
    rw [exec_routePinWrite a d w s hwf, routePinWrite, submit_routePin hd hacts]
    refine ⟨fun hpinned => ?_, fun hfree => ?_⟩
    · obtain ⟨c, hc, hshows⟩ := routePinOp_pinned (b := b) (d := d) hpinned
      exact ⟨c, by rw [hc], hshows⟩
    · rw [routePinOp_unpinned hfree]
  case tree =>
    intro t
    rw [exec_treeRx p m s hwf, treeRx, whenDue_of_due (by rw [hmode, hon]; rfl)]
  case beacon => rw [exec_hostCapBeacon p s (decide_eq_true hp), hostCapBeacon, whenDue_of_due (by rw [hhost, hstage, hcap]; rfl)]
  case capHeld => rw [exec_hostCapBeacon p s (decide_eq_true hp), hostCapBeacon, whenDue_of_notDue (by rw [hcap, Bool.not_true, Bool.and_false])]
  case arp => rw [exec_hostEthernetFrameRx p bytes s (decide_eq_true hp), hostEthernetFrameRx_arp hhost hon h4 hmac hwho hbytes]
  case elsewhere => rw [exec_hostEthernetFrameRx p bytes s (decide_eq_true hp), hostEthernetFrameRx_elsewhere hmac]
  case log => rw [exec_logLineSend text s rfl, logLineSend, whenDue_of_due hen]
  case noLog => rw [exec_logLineSend text s rfl, logLineSend, whenDue_of_notDue hen]

end Sys2Proof.Proofs

/-! SUPPORT. The bring-up of a port: when each event and timeout acts, and the stage that it leads to (R484 to R489). -/

namespace Sys2Proof.Machine

open Sys2Proof

section

variable {p l : Nat} {b : Block}

theorem Block.lasted_of_le {n : Nat} (h : (b.port p).stageTick + n ≤ b.tick) : b.lasted p n = true := decide_eq_true h

theorem Block.lasted_of_lt {n : Nat} (h : b.tick < (b.port p).stageTick + n) : b.lasted p n = false := decide_eq_false (not_le.2 h)

theorem Block.stage_beq {st : Nat} (h : b.stage p = st) : (b.stage p == st) = true := beq_iff_eq.2 h

theorem Block.stage_beq_false {st : Nat} (h : b.stage p ≠ st) : (b.stage p == st) = false := beq_eq_false_iff_ne.2 h

/-! ### SIGNAL on a lane (R484) -/

/-- The block once SIGNAL of a lane is seen. -/
def Block.litLane (b : Block) (l : Nat) : Block :=
  (b.put (F.LNK_L_STAT_SIGNAL l) 1).setPort (l / 2) { b.port (l / 2) with sigSeen := true }

theorem Block.signalOn_of_on (hon : b.domainOn (8 + l / 2) = true) : b.signalOn l =
    if (b.stage (l / 2) == stDetect && (b.port (l / 2)).losTick.isNone) || b.stage (l / 2) == stSilent then (b.litLane l).toTrain (l / 2)
    else b.litLane l :=
  if_pos hon

theorem Block.signalOn_of_ready (hon : b.domainOn (8 + l / 2) = true)
    (hready : (b.stage (l / 2) = stDetect ∧ (b.port (l / 2)).losTick = none) ∨ b.stage (l / 2) = stSilent) :
    b.signalOn l = (b.litLane l).toTrain (l / 2) := by
  rw [Block.signalOn_of_on hon, if_pos]
  obtain ⟨hdetect, hidle⟩ | hsilent := hready
  · rw [hdetect, hidle]
    rfl
  · rw [hsilent]
    rfl

theorem Block.signalOn_of_busy (hon : b.domainOn (8 + l / 2) = true) (hdetect : b.stage (l / 2) ≠ stDetect) (hsilent : b.stage (l / 2) ≠ stSilent) :
    b.signalOn l = b.litLane l := by
  rw [Block.signalOn_of_on hon, Block.stage_beq_false hdetect, Block.stage_beq_false hsilent]
  rfl

/-! ### The stage that a port enters (R484) -/

theorem stage_offRoutes (p : Nat) : (F.LNK_STAT_STAGE p).OffRoutes := by
  constructor <;> simp only [Field.key] <;> omega

theorem Block.stage_setStage {st : Nat} (hst : st < 16) : (b.setStage p st).stage p = st := by
  have hput : (b.put (F.LNK_STAT_STAGE p) st).stage p = st := Block.get_put_of_lt hst
  have hx2 : (F.LNK_STAT_STAGE p).key ≠ (F.LNK_STAT_X2_NOW p).key := by simp only [Field.key]; omega
  have hmoved : (b.put (F.LNK_STAT_STAGE p) st).Steady (F.LNK_STAT_STAGE p) (b.setStage p st) :=
    have hport {x : PortSt} : (b.put (F.LNK_STAT_STAGE p) st).Steady (F.LNK_STAT_STAGE p) ((b.put (F.LNK_STAT_STAGE p) st).setPort p x) :=
      (Block.Steady.refl _ _).setPort
    (Block.Steady.ite ((hport.leaveActive (stage_offRoutes p)).put hx2) hport).setLevel
  exact hmoved.reg.trans hput

theorem Block.stage_toDetect : (b.toDetect p).stage p = stDetect :=
  ((Block.Steady.refl (F.LNK_STAT_STAGE p) (b.setStage p stDetect)).beacon).reg.trans (Block.stage_setStage (by decide))

theorem Block.stage_toSilent : (b.toSilent p).stage p = stSilent :=
  (((Block.Steady.refl (F.LNK_STAT_STAGE p) (b.setStage p stSilent)).bump (by simp only [Field.key]; omega)).setPort).reg.trans
    (Block.stage_setStage (by decide))

theorem Block.stage_toTrain : (b.toTrain p).stage p = stTrain := Block.stage_setStage (b := b.put (F.LNK_STAT_PARKED p) 0) (by decide)

theorem Block.stage_toExchange : (b.toExchange p).stage p = stExchange := Block.stage_setStage (b := b) (by decide)

theorem Block.stage_toActive {x2 : Bool} : (b.toActive p x2).stage p = stActive := by
  have hactive {c : Block} : (c.setStage p stActive).Steady (F.LNK_STAT_STAGE p) ((c.setStage p stActive).enterActive p).startClaim :=
    ((Block.Steady.refl _ _).enterActive (stage_offRoutes p)).startClaim (by simp only [Field.key]; omega)
  exact hactive.reg.trans (Block.stage_setStage (by decide))

end

end Sys2Proof.Machine

namespace Sys2Proof.Proofs

open Sys2Proof Sys2Proof.Machine

/-- Settles O49: each event and timeout by its conditions, and the stage that each entry leads to. -/
theorem portBringUp : Obligations.PortBringUp := by
  intro p l s hp hl b x fails
  have hport : decide (p < 8) = true := decide_eq_true hp
  have hlane : decide (l < 16) = true := decide_eq_true hl
  refine ⟨fun hstage hmode hidle => ⟨fun hdue hseen => ?beacon, fun hdue hunseen => ?attempt, fun hearly => ?beaconEarly⟩,
    fun hstage => ⟨fun hparked => ?parked, fun hparked hdue => ?silentBeacon⟩, ?signal, fun i => ?cdr, fun i j => ?block,
    fun hstage => ⟨fun hdue => ?train, fun hearly => ?trainEarly⟩, fun hstage => ⟨fun hearly => ?lockEarly, fun hdue => ⟨fun hlocked => ?lockOn, fun hdark => ?lockFails⟩⟩,
    fun hstage => ⟨fun hdue hheld hhost => ?exchange, fun hkept => ?exchangeKept, fun arg c harg hcap hlocked hc => ?ready, fun arg harg hcap => ?noCap⟩,
    rfl, Block.stage_toTrain, Block.stage_toDetect, Block.stage_toSilent, Block.stage_toExchange, fun x2 => Block.stage_toActive⟩
  case beacon =>
    rw [exec_beaconTimer p s hport, beaconTimer, whenDue_of_due (by rw [Block.stage_beq hstage, hmode, hidle, decide_eq_true hdue]; rfl), if_pos hseen]
  case attempt =>
    intro b1
    rw [exec_beaconTimer p s hport, beaconTimer, whenDue_of_due (by rw [Block.stage_beq hstage, hmode, hidle, decide_eq_true hdue]; rfl),
      if_neg (Bool.eq_false_iff.1 hunseen)]
  case beaconEarly => rw [exec_beaconTimer p s hport, beaconTimer, decide_eq_false (not_le.2 hearly), Bool.and_false, whenDue_false]
  case parked => rw [exec_silentBeacon p s hport, silentBeacon, hparked, Bool.not_true, Bool.and_false, Bool.false_and, whenDue_false]
  case silentBeacon =>
    rw [exec_silentBeacon p s hport, silentBeacon, whenDue_of_due (by rw [Block.stage_beq hstage, hparked, decide_eq_true hdue]; rfl)]
    rfl
  case signal =>
    intro q lit
    rw [exec_signalDetect l s hlane, signalDetect]
    refine ⟨fun hoff => ?_, fun hon => ⟨fun hready => ?_, fun hdetect hsilent => ?_⟩⟩
    · rw [Block.signalOn, if_neg (Bool.eq_false_iff.1 hoff)]
    · rw [Block.signalOn_of_ready hon hready]
      rfl
    · rw [Block.signalOn_of_busy hon hdetect hsilent]
      rfl
  case cdr =>
    intro q b1 fec
    rw [exec_cdrLock l i s hlane, cdrLock]
    refine ⟨fun hdark => ?_, fun hlit => ⟨fun htrain => ?_, fun hother => ?_⟩⟩
    · rw [whenDue_of_notDue hdark]
    · rw [whenDue_of_due hlit, if_pos (Block.stage_beq htrain)]
    · rw [whenDue_of_due hlit, if_neg (Bool.eq_false_iff.1 (Block.stage_beq_false hother))]
  case block =>
    intro q b1
    rw [exec_blockLock l i j s hlane, blockLock]
    refine ⟨fun hdark => ?_, fun hlit => ⟨fun hlock hall => ?_, fun hother => ?_⟩⟩
    · rw [whenDue_of_notDue hdark]
    · rw [whenDue_of_due hlit, if_pos (Bool.and_eq_true_iff.2 ⟨Block.stage_beq hlock, hall⟩)]
    · rw [whenDue_of_due hlit, if_neg]
      rintro h
      obtain ⟨hlock, hall⟩ := Bool.and_eq_true_iff.1 h
      exact hother.elim (· (beq_iff_eq.1 hlock)) fun hnot => Bool.eq_false_iff.1 hnot hall
  case train =>
    rw [exec_trainTimeout p s hport, trainTimeout, whenDue_of_due (by rw [Block.stage_beq hstage, Block.lasted_of_le (n := 50 * msTicks) hdue]; rfl)]
  case trainEarly => rw [exec_trainTimeout p s hport, trainTimeout, Block.lasted_of_lt (n := 50 * msTicks) hearly, Bool.and_false, whenDue_false]
  case lockEarly => rw [exec_lockTimeout p s hport, lockTimeout, Block.lasted_of_lt (n := 10 * msTicks) hearly, Bool.and_false, whenDue_false]
  case lockOn =>
    rw [exec_lockTimeout p s hport, lockTimeout, whenDue_of_due (by rw [Block.stage_beq hstage, Block.lasted_of_le (n := 10 * msTicks) hdue]; rfl),
      if_pos (bne_iff_ne.2 hlocked)]
  case lockFails =>
    rw [exec_lockTimeout p s hport, lockTimeout, whenDue_of_due (by rw [Block.stage_beq hstage, Block.lasted_of_le (n := 10 * msTicks) hdue]; rfl),
      if_neg fun h => bne_iff_ne.1 h hdark]
  case exchange =>
    rw [exec_exchangeTimeout p s hport, exchangeTimeout,
      whenDue_of_due (by rw [Block.stage_beq hstage, Block.lasted_of_le (n := 5 * msTicks) hdue, hheld, hhost]; rfl)]
  case exchangeKept =>
    rw [exec_exchangeTimeout p s hport, exchangeTimeout, whenDue_of_notDue]
    obtain hearly | hheld | hhost := hkept
    · rw [Block.lasted_of_lt (n := 5 * msTicks) hearly, Bool.and_false, Bool.false_and, Bool.false_and]
    · rw [hheld, Bool.not_true, Bool.and_false, Bool.false_and]
    · rw [hhost, Bool.not_true, Bool.and_false]
  case ready =>
    have hwf : Instr.wf (.readyRx p arg) = true := by simp [Instr.wf, hp, harg]
    rw [exec_readyRx p arg s hwf, readyRx, whenDue_of_due (by rw [Block.stage_beq hstage, hcap, bne_iff_ne.2 hlocked]; rfl), hc]
    rfl
  case noCap =>
    have hwf : Instr.wf (.readyRx p arg) = true := by simp [Instr.wf, hp, harg]
    rw [exec_readyRx p arg s hwf, readyRx, hcap, Bool.and_false, Bool.false_and, whenDue_false]

end Sys2Proof.Proofs

/-! SUPPORT. Entering and leaving Hibernate: every domain off, the kept fields through the reset, and Fill with every domain on (R498, R503 to
R506). -/

namespace Sys2Proof.Machine

open Sys2Proof

/-! ### Fields below those of the fabric -/

theorem Field.BelowFabric.offRoutes {f : Field} (h : f.BelowFabric) : f.OffRoutes := by
  simp only [Field.BelowFabric, Field.key] at h
  constructor <;> simp only [Field.key] <;> omega

theorem Field.BelowFabric.ne_above {f : Field} (h : f.BelowFabric) {addr lo w reset : Nat} (haddr : 0xd0000 ≤ addr) :
    f.key ≠ (Field.mk addr lo w reset).key := by
  simp only [Field.BelowFabric, Field.key] at h ⊢
  omega

namespace Block.Steady

variable {f : Field} {a b : Block} {p : Nat} (hf : f.BelowFabric)

include hf

theorem setStage_below {st : Nat} (h : Steady f a b) : Steady f a (b.setStage p st) :=
  h.setStage hf.offRoutes (hf.ne_above (by omega)) (hf.ne_above (by omega))

theorem unjoin_below (h : Steady f a b) : Steady f a (b.unjoin p) := h.foldl fun _ hc _ => hc.put (hf.ne_above (by omega))

theorem toDown {arg : Nat} (h : Steady f a b) : Steady f a (b.toDown p arg) := (((ite h.emit h).setStage_below hf).unjoin_below hf).setPort

end Block.Steady

/-! ### Every domain but D_AON turns off (R503) -/

section

variable {b : Block}

/-- A domain turned off as the module enters Hibernate: D_OVN keeps its state where `ovn` holds. -/
def Block.domainOff (b : Block) (ovn : Bool) (d : Nat) : Block :=
  (b.put (F.PWR_D_STAT_PENDING d) 0).put (F.PWR_D_STAT_STATE d) (if d = 17 && ovn then b.get (F.PWR_D_STAT_STATE d) else 0)

theorem Block.get_domainOff_same {d : Nat} (ovn : Bool) (hd : d < 17) : (b.domainOff ovn d).get (F.PWR_D_STAT_STATE d) = 0 := by
  rw [Block.domainOff, decide_eq_false (by omega), Bool.false_and, if_neg Bool.false_ne_true, Block.get_put_same, Nat.zero_mod]

theorem Block.get_domainOff_other {d e : Nat} (ovn : Bool) (hde : d ≠ e) :
    (b.domainOff ovn e).get (F.PWR_D_STAT_STATE d) = b.get (F.PWR_D_STAT_STATE d) := by
  rw [Block.domainOff, Block.get_put_other _ _ _ _ (by simp only [Field.key]; omega), Block.get_put_other _ _ _ _ (by simp only [Field.key]; omega)]

/-- Each domain of a list that is turned off reads OFF at its end. -/
theorem Block.get_foldl_domainOff {d : Nat} (ovn : Bool) (hd : d < 17) (l : List Nat) (h : d ∈ l ∨ b.get (F.PWR_D_STAT_STATE d) = 0) :
    (l.foldl (fun c e => c.domainOff ovn e) b).get (F.PWR_D_STAT_STATE d) = 0 := by
  induction l generalizing b with
  | nil => exact h.resolve_left List.not_mem_nil
  | cons e l ih =>
    refine ih ?_
    by_cases hde : d = e
    · exact .inr (hde ▸ b.get_domainOff_same ovn hd)
    · rw [Block.get_domainOff_other ovn hde]
      exact h.imp_left fun hmem => (List.mem_cons.1 hmem).resolve_left hde

/-- The oven's on-time goes with its domain. -/
def Block.ovenCold (b : Block) : Block :=
  { b.put F.TIM_STAT_OVN_READY 0 with time := { b.time with warmSec := 0, warmTicks := 0 } }

theorem Block.get_ovenCold {f : Field} (hf : f.key ≠ F.TIM_STAT_OVN_READY.key) : b.ovenCold.get f = b.get f :=
  Block.get_put_other b F.TIM_STAT_OVN_READY f 0 hf

theorem Block.Steady.ovenCold {f : Field} {a : Block} (h : a.Steady f b) (hf : f.key ≠ F.TIM_STAT_OVN_READY.key) : a.Steady f b.ovenCold :=
  (h.put (v := 0) hf).frame

/-- The block of which Hibernate keeps the registers: ports down, domains off, the oven's on-time gone with its domain. -/
def Block.hibernating (b : Block) : Block :=
  let ovn := bitAt (b.votesOf 17) 3 || bitAt (b.votesOf 17) 6
  let b2 := (List.range 18).foldl (fun c d => c.domainOff ovn d) (allPorts.foldl (fun c p => c.toDown p 1) b)
  if ovn then b2 else b2.ovenCold

theorem Block.enterHibernate_eq (b : Block) : b.enterHibernate = { b.hibernating with
    phase := .hibernate
    pwr := { b.hibernating.pwr with
      voters := [], hibWait := false, hibTick := b.hibernating.tick, wakeS := b.hibernating.hibWake, armed := false, den := none } } := rfl

theorem Block.Steady.hibernating {f : Field} (hf : f.BelowFabric) (hstate : ∀ d < 18, f.key ≠ (F.PWR_D_STAT_STATE d).key)
    (hpending : ∀ d < 18, f.key ≠ (F.PWR_D_STAT_PENDING d).key) (hoven : f.key ≠ F.TIM_STAT_OVN_READY.key) : b.Steady f b.hibernating := by
  have hdown : b.Steady f (allPorts.foldl (fun c p => c.toDown p 1) b) := (Block.Steady.refl f b).foldl fun _ hc _ => hc.toDown hf
  have hoff : ∀ l : List Nat, (∀ d ∈ l, d < 18) → ∀ (ovn : Bool) (c : Block), b.Steady f c → b.Steady f (l.foldl (fun c d => c.domainOff ovn d) c) := by
    intro l
    induction l with
    | nil => exact fun _ _ _ hc => hc
    | cons d l ih =>
      intro hl ovn c hc
      have hd := hl d List.mem_cons_self
      exact ih (fun e he => hl e (List.mem_cons_of_mem d he)) ovn _ ((hc.put (hpending d hd)).put (hstate d hd))
  have hall := hoff (List.range 18) (fun d hd => List.mem_range.1 hd) (bitAt (b.votesOf 17) 3 || bitAt (b.votesOf 17) 6) _ hdown
  exact .ite hall (hall.ovenCold hoven)

theorem Block.hibernating_off {d : Nat} (hd : d < 17) : b.hibernating.get (F.PWR_D_STAT_STATE d) = 0 := by
  have hall (ovn : Bool) (c : Block) : ((List.range 18).foldl (fun c d => c.domainOff ovn d) c).get (F.PWR_D_STAT_STATE d) = 0 :=
    Block.get_foldl_domainOff ovn hd _ (.inl (List.mem_range.2 (by omega)))
  have hoven : (F.PWR_D_STAT_STATE d).key ≠ F.TIM_STAT_OVN_READY.key := by simp only [Field.key]; omega
  unfold Block.hibernating
  dsimp only
  split
  · exact hall _ _
  · exact (Block.get_ovenCold hoven).trans (hall _ _)

end

/-- THERMAL_TRIP has shown its cause and kept that the entry is thermal (R506). -/
def Block.tripped (b : Block) : Block := { b.put F.PWR_WAKE_CAUSE 4 with pwr := { b.pwr with thermal := true } }

theorem thermalTrip_of_free {b : Block} (hrails : b.phase.railsOn = true) (hfree : b.flag F.SEC_NVM_CTRL_NVM_BUSY = false) :
    thermalTrip b = b.tripped.enterHibernate := by
  have hfree' : b.tripped.flag F.SEC_NVM_CTRL_NVM_BUSY = false := by
    rw [← hfree]
    exact congrArg (· != 0) (Block.get_put_other b F.PWR_WAKE_CAUSE F.SEC_NVM_CTRL_NVM_BUSY 4 (by decide))
  rw [thermalTrip, whenDue_of_due hrails]
  exact if_neg (Bool.eq_false_iff.1 hfree')

/-- An armed detector in Hibernate wakes the module by its lane's mode (R504). -/
theorem knockDetect_of_armed {b : Block} {l : Nat} {knock : Bool} (hhib : b.phase = .hibernate) (harmed : b.pwr.armed = true) :
    knockDetect l knock b = whenDue ((b.get F.PWR_HIB_LANE / 4 ^ l % 4 == 1 && knock) || b.get F.PWR_HIB_LANE / 4 ^ l % 4 == 2)
      (fun c => c.wake (if b.get F.PWR_HIB_LANE / 4 ^ l % 4 = 1 then 1 else 2) (2 ^ l)) b := by
  rw [knockDetect, hhib, harmed, beq_self_eq_true, Bool.true_and, Bool.true_and]

/-! ### A reset keeps the kept fields (R505) -/

/-- A key that a filter of keys keeps is listed as before. -/
theorem lookup_filter_of_kept {α : Type} (m : Table α) {p : Nat × α → Bool} {k : Nat} (h : ∀ v, p (k, v) = true) :
    lookup (m.filter p) k = lookup m k := by
  induction m with
  | nil => rfl
  | cons e m ih =>
    by_cases hp : p e = true
    · rw [List.filter_cons_of_pos hp, lookup_cons, lookup_cons, ih]
    · have hne : e.1 ≠ k := by
        rintro rfl
        exact hp (h e.2)
      rw [List.filter_cons_of_neg hp, ih, lookup_cons, if_neg hne]

/-- The identity, and through every reset but power-on the kept fields, read as before. -/
theorem Block.get_toOff_of_kept (b : Block) (cause : Nat) (powerOn : Bool) {f : Field} (hcause : f.key ≠ F.SYS_STATE_RESET_CAUSE.key)
    (hkept : (identityKey f.key || (keptKey f.key && !powerOn)) = true) : (b.toOff cause powerOn).get f = b.get f := by
  rw [Block.toOff, Block.get_put_other _ _ _ _ hcause]
  simp only [Block.get, lookupD]
  rw [lookup_filter_of_kept _ fun v => by simp only [hkept, Bool.true_or]]

/-! ### Fill (R80, R498) -/

/-- In Fill every domain is on, no FORCE stands and no standby has failed: every target is on. -/
structure Block.Filling (b : Block) : Prop where
  fill : b.phase = .fill
  on : ∀ d < 19, b.get (F.PWR_D_STAT_STATE d) = 2
  free : ∀ d < 19, b.get (F.PWR_D_CTRL_FORCE d) = 0
  standby : b.get F.PAIR_STAT_SB_STATE ≠ 5

section

variable {b : Block} {d : Nat}

theorem setBit_odd {v i : Nat} (x : Bool) (h : v % 2 = 1) (hi : i = 2 ∨ i = 3 ∨ i = 4) : setBit v i x % 2 = 1 := by
  obtain rfl | rfl | rfl := hi <;> cases x <;> simp [setBit, b2n] <;> omega

theorem setBit_zero_true (v : Nat) : setBit v 0 true % 2 = 1 := by
  simp [setBit, b2n]
  omega

/-- A domain that the module holds a BLOCK vote on has a vote. -/
theorem Block.votesOf_of_blockVote (h : b.blockVote d = true) : b.votesOf d % 2 = 1 := by
  unfold Block.votesOf
  dsimp only
  rw [h]
  exact setBit_odd _ (setBit_odd _ (setBit_odd _ (setBit_zero_true _) (by omega)) (by omega)) (by omega)

theorem Block.Filling.rails (h : b.Filling) : b.phase.railsOn = true := by
  rw [h.fill]
  rfl

theorem Block.Filling.blockVote (h : b.Filling) : b.blockVote d = true := by
  rw [Block.blockVote, h.fill, if_pos (by rfl), Block.diePassed, h.fill, if_pos (by rfl)]

theorem Block.Filling.targetOn (h : b.Filling) (hd : d < 19) : b.targetOn d = true := by
  have hheld : b.heldOff d = false := by
    rw [Block.heldOff]
    split
    · rw [h.fill]
      rfl
    · rw [beq_eq_false_iff_ne.2 h.standby, Bool.and_false]
  have hvotes : b.votesOf d ≠ 0 := by
    have := b.votesOf_of_blockVote h.blockVote (d := d)
    omega
  rw [Block.targetOn, hheld, if_neg Bool.false_ne_true, h.free d hd]
  exact bne_iff_ne.2 hvotes

/-- The votes of a domain as they stand are shown. -/
def Block.showVotes (b : Block) (d : Nat) : Block :=
  (b.put (F.PWR_D_STAT_VOTES d) (b.votesOf d)).put (F.PWR_D_STAT_VOTERS d) (b.pwr.voters.filter fun x => x.dom == d).length

theorem Block.settleDom_eq (b : Block) (d : Nat) : b.settleDom d = (b.showVotes d).request d ((b.showVotes d).targetOn d) := rfl

theorem Block.get_showVotes {f : Field} (hvotes : f.key ≠ (F.PWR_D_STAT_VOTES d).key) (hvoters : f.key ≠ (F.PWR_D_STAT_VOTERS d).key) :
    (b.showVotes d).get f = b.get f := by
  rw [Block.showVotes, Block.get_put_other _ _ _ _ hvoters, Block.get_put_other _ _ _ _ hvotes]

theorem Block.Filling.showVotes (h : b.Filling) (hd : d < 19) : (b.showVotes d).Filling where
  fill := h.fill
  on e he := by rw [Block.get_showVotes (by simp only [Field.key]; omega) (by simp only [Field.key]; omega), h.on e he]
  free e he := by rw [Block.get_showVotes (by simp only [Field.key]; omega) (by simp only [Field.key]; omega), h.free e he]
  standby := by rw [Block.get_showVotes (by simp only [Field.key]; omega) (by simp only [Field.key]; omega)]; exact h.standby

/-- In Fill acting on a domain's votes shows them, and no more. -/
theorem Block.Filling.settleDom (h : b.Filling) (hd : d < 19) : b.settleDom d = b.showVotes d := by
  have hshown := h.showVotes hd
  rw [Block.settleDom_eq, hshown.targetOn hd, Block.request, hshown.on d hd]
  rfl

theorem Block.Filling.foldl_settleDom (h : b.Filling) {f : Field} (hvotes : ∀ d < 19, f.key ≠ (F.PWR_D_STAT_VOTES d).key)
    (hvoters : ∀ d < 19, f.key ≠ (F.PWR_D_STAT_VOTERS d).key) (l : List Nat) (hl : ∀ d ∈ l, d < 19) :
    let c := l.foldl (fun c d => if c.phase.railsOn then c.settleDom d else c) b
    c.phase = .fill ∧ c.get f = b.get f := by
  induction l generalizing b with
  | nil => exact ⟨h.fill, rfl⟩
  | cons d l ih =>
    have hd := hl d List.mem_cons_self
    have hstep : (if b.phase.railsOn then b.settleDom d else b) = b.showVotes d := by rw [if_pos h.rails, h.settleDom hd]
    rw [List.foldl_cons, hstep]
    obtain ⟨hfill, hget⟩ := ih (h.showVotes hd) fun e he => hl e (List.mem_cons_of_mem d he)
    exact ⟨hfill, hget.trans (Block.get_showVotes (hvotes d hd) (hvoters d hd))⟩

theorem Block.Filling.settlePower (h : b.Filling) {f : Field} (hvotes : ∀ d < 19, f.key ≠ (F.PWR_D_STAT_VOTES d).key)
    (hvoters : ∀ d < 19, f.key ≠ (F.PWR_D_STAT_VOTERS d).key) : b.settlePower.phase = .fill ∧ b.settlePower.get f = b.get f := by
  rw [Block.settlePower, if_pos h.rails]
  exact h.foldl_settleDom hvotes hvoters _ fun d hd => List.mem_range.1 hd

/-- A domain is on once each of a list that names it was turned on. -/
theorem Block.get_foldl_on (l : List Nat) (h : d ∈ l ∨ b.get (F.PWR_D_STAT_STATE d) = 2) :
    (l.foldl (fun c e => c.put (F.PWR_D_STAT_STATE e) 2) b).get (F.PWR_D_STAT_STATE d) = 2 := by
  induction l generalizing b with
  | nil => exact h.resolve_left List.not_mem_nil
  | cons e l ih =>
    refine ih ?_
    by_cases hde : d = e
    · exact .inr (hde ▸ Block.get_put_of_lt (f := F.PWR_D_STAT_STATE d) (show 2 < 2 ^ 3 by decide))
    · rw [Block.get_put_other _ _ _ _ (by simp only [Field.key]; omega)]
      exact h.imp_left fun hmem => (List.mem_cons.1 hmem).resolve_left hde

theorem Block.get_foldl_on_other {f : Field} (l : List Nat) (hf : ∀ e ∈ l, f.key ≠ (F.PWR_D_STAT_STATE e).key) :
    (l.foldl (fun c e => c.put (F.PWR_D_STAT_STATE e) 2) b).get f = b.get f :=
  view_foldl (g := fun c => c.get f) (fun c e he => Block.get_put_other c _ f 2 (hf e he)) b

/-- Fill has begun, before the votes are acted on. -/
def Block.filled (b : Block) : Block :=
  let b1 := (List.range 19).foldl (fun c d => c.put (F.PWR_D_STAT_STATE d) 2) { b with phase := .fill }
  ((b1.put F.FAB_STAT_BOOT (Config.bootDraw b.free % 65535 + 1)).drawn.put F.PAIR_STAT_SB_STATE 1).showStandby

theorem Block.beginFill_eq (b : Block) : b.beginFill = b.filled.settlePower := by
  rw [Block.beginFill, Block.filled]

theorem Block.get_showStandby (b : Block) (f : Field) : b.showStandby.get f = b.get f := rfl

theorem Block.phase_showStandby (b : Block) : b.showStandby.phase = b.phase := rfl

theorem Block.phase_put (b : Block) (f : Field) (v : Nat) : (b.put f v).phase = b.phase := rfl

theorem Block.phase_drawn (b : Block) : b.drawn.phase = b.phase := rfl

theorem Block.get_filled_eq {f : Field} (hboot : f.key ≠ F.FAB_STAT_BOOT.key) (hstandby : f.key ≠ F.PAIR_STAT_SB_STATE.key) :
    b.filled.get f = ((List.range 19).foldl (fun (c : Block) e => c.put (F.PWR_D_STAT_STATE e) 2) { b with phase := .fill }).get f := by
  rw [Block.filled, Block.get_showStandby, Block.get_put_other _ _ _ _ hstandby, Block.get_drawn, Block.get_put_other _ _ _ _ hboot]

theorem Block.get_filled {f : Field} (hstate : ∀ d < 19, f.key ≠ (F.PWR_D_STAT_STATE d).key) (hboot : f.key ≠ F.FAB_STAT_BOOT.key)
    (hstandby : f.key ≠ F.PAIR_STAT_SB_STATE.key) : b.filled.get f = b.get f := by
  rw [Block.get_filled_eq hboot hstandby, Block.get_foldl_on_other _ fun e he => hstate e (List.mem_range.1 he)]
  rfl

theorem Block.filling_filled (hforce : ∀ d < 19, b.get (F.PWR_D_CTRL_FORCE d) = 0) : b.filled.Filling where
  fill := by
    rw [Block.filled, Block.phase_showStandby, Block.phase_put, Block.phase_drawn, Block.phase_put]
    exact view_foldl (g := Block.phase) (h := fun (c : Block) d => c.put (F.PWR_D_STAT_STATE d) 2) (l := List.range 19) (fun _ _ _ => rfl)
      { b with phase := .fill }
  on e he := by
    rw [Block.get_filled_eq (by simp only [Field.key]; omega) (by simp only [Field.key]; omega)]
    exact Block.get_foldl_on _ (.inl (List.mem_range.2 he))
  free e he := (Block.get_filled (fun d hd => by simp only [Field.key]; omega) (by simp only [Field.key]; omega)
    (by simp only [Field.key]; omega)).trans (hforce e he)
  standby := by
    rw [Block.filled, Block.get_showStandby, Block.get_put_same]
    decide

/-! ### Waking (R504) -/

/-- A wake leads to Fill; PWR_WAKE tells of it, and what no domain and no vote shows is as the reset leaves it. -/
theorem Block.wake_fills (b : Block) (cause lanes : Nat) {f : Field} (hf : f.key < 0x20100 * 32) :
    (b.wake cause lanes).phase = .fill ∧ (b.wake cause lanes).get f =
      (((b.put F.PWR_WAKE_CAUSE cause).put F.PWR_WAKE_LANES lanes).toOff causeWake false).get f := by
  have hforce (e : Nat) (he : e < 19) :
      (((b.put F.PWR_WAKE_CAUSE cause).put F.PWR_WAKE_LANES lanes).toOff causeWake false).get (F.PWR_D_CTRL_FORCE e) = 0 := by
    have hplain : ∀ e < 19, (F.PWR_D_CTRL_FORCE e).key ≠ F.SYS_STATE_RESET_CAUSE.key ∧ identityKey (F.PWR_D_CTRL_FORCE e).key = false ∧
        keptKey (F.PWR_D_CTRL_FORCE e).key = false ∧ (F.PWR_D_CTRL_FORCE e).key ≠ (F.PWR_D_STAT_STATE 17).key := by decide
    obtain ⟨hcause, hid, hkept, hoven⟩ := hplain e he
    exact Block.get_toOff_of_cleared _ _ _ hcause hid hkept hoven
  have hbelow (addr lo w reset : Nat) (haddr : 0x20100 ≤ addr) : f.key ≠ (Field.mk addr lo w reset).key := by
    simp only [Field.key] at hf ⊢
    omega
  obtain ⟨hfill, hget⟩ := (Block.filling_filled hforce).settlePower (f := f) (fun e _ => hbelow _ _ _ _ (by omega)) (fun e _ => hbelow _ _ _ _ (by omega))
  rw [Block.wake, Block.beginFill_eq]
  exact ⟨hfill, hget.trans (Block.get_filled (fun e _ => hbelow _ _ _ _ (by omega)) (hbelow _ _ _ _ (by decide)) (hbelow _ _ _ _ (by decide)))⟩

end

end Sys2Proof.Machine

namespace Sys2Proof.Proofs

open Sys2Proof Sys2Proof.Machine

/-- Settles O30: the ports and domains that entry turns off touch no field of the power unit's own; each wake by its condition; a wake leads to
Fill, where every target is on. -/
theorem hibernateWakes : Obligations.HibernateWakes := by
  refine ⟨fun s hrails hfree => ?trip, fun s hhib => ⟨fun hset hdue => ?timer, fun hnot => ?timerIdle, fun harmed hdue => ?arm,
    fun lowNs hlow => ?pin, fun l hl knock harmed => ?knock⟩, fun b cause lanes hcause hlanes => ?wake⟩
  case trip =>
    refine ⟨_, exec_thermalTrip s rfl, ?_⟩
    dsimp only
    rw [thermalTrip_of_free hrails hfree, Block.enterHibernate_eq]
    have hkept : s.hw.tripped.Steady F.PWR_WAKE_CAUSE s.hw.tripped.hibernating :=
      .hibernating (by decide) (by decide) (by decide) (by decide)
    refine ⟨rfl, ?_, ?_, hkept.tick, rfl, hkept.dram, fun d hd => Block.hibernating_off hd⟩
    · exact hkept.reg.trans (Block.get_put_same s.hw F.PWR_WAKE_CAUSE 4)
    · exact congrArg PwrSt.thermal hkept.pwr
  case timer =>
    rw [exec_wakeTimerExpire s rfl, wakeTimerExpire, whenDue_of_due (by rw [hhib, bne_iff_ne.2 hset, decide_eq_true hdue]; rfl)]
  case timerIdle =>
    rw [exec_wakeTimerExpire s rfl, wakeTimerExpire, whenDue_of_notDue]
    obtain hzero | hearly := hnot
    · rw [hzero, bne_self_eq_false, Bool.and_false, Bool.false_and]
    · rw [decide_eq_false (not_le.2 hearly), Bool.and_false]
  case arm =>
    rw [exec_detectorArm s rfl, detectorArm, whenDue_of_due (by rw [hhib, harmed, decide_eq_true hdue]; rfl)]
  case pin =>
    rw [exec_rstNReset lowNs s rfl, rstNReset, whenDue_of_due (by rw [hhib, decide_eq_true hlow]; rfl), hhib]
    rfl
  case knock =>
    intro mode
    rw [exec_knockDetect l knock s (decide_eq_true hl), knockDetect_of_armed hhib harmed]
    refine ⟨fun hmode hknock => ?_, fun hmode hknock => ?_, fun hmode => ?_, fun hmode => ?_⟩
    all_goals replace hmode : s.hw.get F.PWR_HIB_LANE / 4 ^ l % 4 = _ := hmode
    · rw [whenDue_of_due (by rw [hmode, hknock]; rfl), if_pos hmode]
    · rw [whenDue_of_notDue (by rw [hmode, hknock]; rfl)]
    · rw [whenDue_of_due (by rw [hmode, beq_self_eq_true, Bool.or_true]), if_neg (by rw [hmode]; decide)]
    · rw [whenDue_of_notDue (by rw [hmode]; rfl)]
  case wake =>
    have hreset {f : Field} (hf : f.key < 0x20100 * 32) := b.wake_fills cause lanes hf
    refine ⟨(hreset (f := F.PWR_WAKE_CAUSE) (by decide)).1, ?_, ?_, ?_⟩
    · rw [(hreset (by decide)).2, Block.get_toOff_cause]
      decide
    · rw [(hreset (by decide)).2, Block.get_toOff_of_kept _ _ _ (by decide) (by decide), Block.get_put_other _ _ _ _ (by decide)]
      exact Block.get_put_of_lt hcause
    · rw [(hreset (by decide)).2, Block.get_toOff_of_kept _ _ _ (by decide) (by decide)]
      exact Block.get_put_of_lt hlanes

end Sys2Proof.Proofs

/-! SUPPORT. RST_N and the cut-off: what a reset leaves of a block (R497, R505, R604). -/

namespace Sys2Proof.Machine

open Sys2Proof

section

variable {b : Block}

/-- A pulse of at least 10 µs outside Off and Hibernate resets the module (R604). -/
theorem rstNReset_of_long {lowNs : Nat} (hoff : b.phase ≠ .off) (hhib : b.phase ≠ .hibernate) (hlow : 10000 ≤ lowNs) :
    rstNReset lowNs b = b.toOff causePin false := by
  rw [rstNReset, whenDue_of_due (by rw [bne_iff_ne.2 hoff, decide_eq_true hlow]; rfl), if_neg fun h => hhib (eq_of_beq h)]

/-- A reset leaves the flash and the fuses where no flash operation runs. -/
theorem Block.toOff_stores (b : Block) (cause : Nat) (powerOn : Bool) (hnvm : b.boot.nvm = none) :
    (b.toOff cause powerOn).boot.flash = b.boot.flash ∧ (b.toOff cause powerOn).boot.fuses = b.boot.fuses := by
  refine ⟨?_, rfl⟩
  have hflash : (b.toOff cause powerOn).boot.flash = match b.boot.nvm with
    | some r => b.flashTorn r
    | none => b.boot.flash := rfl
  rw [hflash, hnvm]

/-- Power-on clears all but the identity. -/
theorem Block.get_toOff_of_powerOn (b : Block) (cause : Nat) {f : Field} (hcause : f.key ≠ F.SYS_STATE_RESET_CAUSE.key)
    (hid : identityKey f.key = false) : (b.toOff cause true).get f = f.reset := by
  rw [Block.toOff, Block.get_put_other _ _ _ _ hcause]
  simp only [Block.get, lookupD]
  rw [lookup_filter_of_not _ fun v => by simp [hid], Option.getD_none]

end

end Sys2Proof.Machine

namespace Sys2Proof.Proofs

open Sys2Proof Sys2Proof.Machine

/-- Settles O8: both resets are `toOff`, and a key is kept by it exactly where its filter keeps it. -/
theorem resetsKeepOnlyKept : Obligations.ResetsKeepOnlyKept := by
  intro s lowNs hoff hhib hlow hnvm
  have hpulse : exec (.rstNReset lowNs) s = .next { s with hw := s.hw.toOff causePin false } := by
    rw [exec_rstNReset lowNs s rfl, rstNReset_of_long hoff hhib hlow]
  obtain ⟨hflashOn, hfusesOn⟩ := s.hw.toOff_stores causePor true hnvm
  obtain ⟨hflashPin, hfusesPin⟩ := s.hw.toOff_stores causePin false hnvm
  refine ⟨_, _, exec_vinCutoff s rfl, hpulse, rfl, rfl, rfl, rfl, Block.get_toOff_cause .., Block.get_toOff_cause .., rfl, rfl, hflashOn, hflashPin,
    hfusesOn, hfusesPin, fun f hcause => ⟨fun hid => ⟨?_, ?_⟩, fun hid => ?_, fun hkept => ?_, fun hid hkept hoven => ?_⟩⟩
  · exact s.hw.get_toOff_of_kept _ _ hcause (by rw [hid, Bool.true_or])
  · exact s.hw.get_toOff_of_kept _ _ hcause (by rw [hid, Bool.true_or])
  · exact s.hw.get_toOff_of_powerOn _ hcause hid
  · exact s.hw.get_toOff_of_kept _ _ hcause (by rw [hkept, Bool.not_false, Bool.and_true, Bool.or_true])
  · exact s.hw.get_toOff_of_cleared _ _ hcause hid hkept hoven

end Sys2Proof.Proofs

/-! SUPPORT. A port loses lanes or its stage, and the writes of LNK_p_CTRL (R484 to R494). -/

namespace Sys2Proof.Machine

open Sys2Proof

section

variable {b : Block} {p l : Nat}

/-! ### Loss of signal (R486, R487) -/

/-- What the loss of a lane's signal counts and clears at once. -/
abbrev Block.darkened (b : Block) (l : Nat) : Block := (b.bump (F.LNK_L_LOS_CNT l)).darkLane l

theorem lossOfSignal_of_dark (h : b.flag (F.LNK_L_STAT_SIGNAL l) = false) : lossOfSignal l b = b := by
  rw [lossOfSignal, whenDue_of_notDue h]

section

variable (hlit : b.flag (F.LNK_L_STAT_SIGNAL l) = true)

include hlit

theorem lossOfSignal_of_idle (hstage : b.stage (l / 2) = stDown ∨ b.stage (l / 2) = stTest) : lossOfSignal l b = b.darkened l := by
  rw [lossOfSignal, whenDue_of_due hlit]
  exact if_pos (by simpa using hstage)

theorem lossOfSignal_of_other (hstage : b.stage (l / 2) = stActive) (hother : b.flag (F.LNK_L_STAT_SIGNAL (otherLane l)) = true)
    (hjoined : b.flag (F.LNK_L_STAT_JOINED l) = true) : lossOfSignal l b = (b.darkened l).dropLane l := by
  rw [lossOfSignal, whenDue_of_due hlit]
  dsimp only
  rw [hstage, hother, hjoined]
  rfl

theorem lossOfSignal_of_last (hstage : b.stage (l / 2) = stActive) (hother : b.flag (F.LNK_L_STAT_SIGNAL (otherLane l)) = false) :
    lossOfSignal l b = ((b.darkened l).setStage (l / 2) stDetect).setPort (l / 2)
      { ((b.darkened l).setStage (l / 2) stDetect).port (l / 2) with losTick := some b.tick, sigSeen := false } := by
  rw [lossOfSignal, whenDue_of_due hlit]
  dsimp only
  rw [hstage, hother, if_neg (by decide), if_neg Bool.false_ne_true, bne_self_eq_false, Bool.and_false, if_neg Bool.false_ne_true,
    beq_self_eq_true, if_pos rfl]

end

/-- DETECT begins with a beacon once the 500 µs of idle end (R486). -/
theorem losIdleEnd_of_due {t : Nat} (ht : (b.port p).losTick = some t) (hdue : t + 125000 ≤ b.tick) (hstage : b.stage p = stDetect) :
    losIdleEnd p b =
      if (lanesOf p).any fun k => b.flag (F.LNK_L_STAT_SIGNAL k) then ((b.setPort p { b.port p with losTick := none }).beacon p).toTrain p
      else (b.setPort p { b.port p with losTick := none }).beacon p := by
  rw [losIdleEnd, ht]
  dsimp only
  rw [whenDue_of_due (decide_eq_true (p := t + 500 * usTicks ≤ b.tick) hdue), if_pos (Block.stage_beq hstage)]

theorem losIdleEnd_of_early {t : Nat} (ht : (b.port p).losTick = some t) (hearly : b.tick < t + 125000) : losIdleEnd p b = b := by
  rw [losIdleEnd, ht]
  exact whenDue_of_notDue (decide_eq_false (not_le.2 hearly)) _ _

theorem laneRejoin_of_lost {k n : Nat} (h : (b.port p).lostLane = some (k, n)) :
    laneRejoin p b = whenDue (decide (64 ≤ n) && b.portActive p && !bitAt (b.get F.BDG_X1_NOW) p) (fun b => b.rejoin p) b := by
  rw [laneRejoin, h]

/-! ### The fields of LNK_p_CTRL (R484, R493, R494) -/

/-- A field of LNK_p_CTRL that no counter of a route shares its place with. -/
abbrev Field.OfCtrl (f : Field) (p : Nat) : Prop := f.addr = 0xe0000 + p * 0x200 ∧ 18 < f.lo ∧ f.lo < 32

theorem ofCtrl_adminDown (p : Nat) : (F.LNK_CTRL_ADMIN_DOWN p).OfCtrl p := by simp [Field.OfCtrl]

theorem ofCtrl_test (p : Nat) : (F.LNK_CTRL_TEST p).OfCtrl p := by simp [Field.OfCtrl]

theorem Field.OfCtrl.offRoutes {f : Field} (h : f.OfCtrl p) : f.OffRoutes := by
  obtain ⟨haddr, hlow, hhigh⟩ := h
  constructor <;> simp only [Field.key] <;> omega

theorem Field.OfCtrl.ne {f : Field} (h : f.OfCtrl p) {addr lo w reset : Nat} (haddr : addr ≠ 0xe0000 + p * 0x200) (hlo : lo < 32) :
    f.key ≠ (Field.mk addr lo w reset).key := by
  obtain ⟨hplace, hlow, hhigh⟩ := h
  simp only [Field.key]
  omega

namespace Block.Steady

variable {f : Field} {a : Block} (hf : f.OfCtrl p)

include hf

theorem setStage_ctrl {st : Nat} (h : Steady f a b) : Steady f a (b.setStage p st) :=
  h.setStage hf.offRoutes (hf.ne (by omega) (by omega)) (hf.ne (by omega) (by omega))

theorem restart_ctrl (h : Steady f a b) : Steady f a (b.restart p) :=
  (((h.put (hf.ne (by omega) (by omega))).put (hf.ne (by omega) (by omega))).setStage_ctrl hf).beacon

theorem rejoin_ctrl (h : Steady f a b) : Steady f a (b.rejoin p) := (h.setStage_ctrl hf).post.setPort

theorem unjoin_ctrl (h : Steady f a b) : Steady f a (b.unjoin p) := h.foldl fun _ hc _ => hc.put (hf.ne (by omega) (by omega))

theorem toDown_ctrl {arg : Nat} (h : Steady f a b) : Steady f a (b.toDown p arg) := (((ite h.emit h).setStage_ctrl hf).unjoin_ctrl hf).setPort

end Block.Steady

/-- A word of LNK_p_CTRL by its bits RETRY, KNOCK, ADMIN_DOWN, REJOIN and its TEST field. -/
structure CtrlWord (w : Nat) (retry knock admin rejoin : Bool) (test : Nat) : Prop where
  retry : bitAt w 31 = retry
  knock : bitAt w 30 = knock
  admin : bitAt w 29 = admin
  rejoin : bitAt w 28 = rejoin
  test : bitsOf w 27 26 = test

theorem bitAt_of_eq {w i x : Nat} (h : w / 2 ^ i % 2 = x) (hx : x < 2) : bitAt w i = (x != 0) := by
  rw [bitAt, h]
  interval_cases x <;> rfl

theorem CtrlWord.of_eq {w r k d j t : Nat} (h : w = r * 2 ^ 31 + k * 2 ^ 30 + d * 2 ^ 29 + j * 2 ^ 28 + t * 2 ^ 26) (hr : r < 2) (hk : k < 2)
    (hd : d < 2) (hj : j < 2) (ht : t < 4) : CtrlWord w (r != 0) (k != 0) (d != 0) (j != 0) t where
  retry := bitAt_of_eq (by omega) hr
  knock := bitAt_of_eq (by omega) hk
  admin := bitAt_of_eq (by omega) hd
  rejoin := bitAt_of_eq (by omega) hj
  test := by
    rw [bitsOf]
    omega

variable {w t : Nat} {r k d j : Bool}

/-- A word that brings the two kept fields as they stand changes neither. -/
theorem lnkTest_of_kept (hw : CtrlWord w r k d j t) (hadmin : b.flag (F.LNK_CTRL_ADMIN_DOWN p) = d) (htest : b.get (F.LNK_CTRL_TEST p) = t) :
    lnkTest p w (lnkAdmin p w b).1 = (b, .ok) := by
  rw [lnkAdmin, hw.admin, hadmin, beq_self_eq_true, if_pos rfl, lnkTest, hw.test]
  exact if_pos htest.symm

/-- What a write of LNK_p_CTRL does by the bits of its word. -/
theorem lnkCtrlOp_of_word (hw : CtrlWord w r k d j t) : lnkCtrlOp p w b =
    (let b1 := if r then (lnkRetryOp p b).1 else b
    let x := if k then lnkKnockOp p b1 else (b1, .ok)
    if x.2 == .ok then lnkTest p w (lnkAdmin p w (if j then (lnkRejoinOp p x.1).1 else x.1)).1
    else (b.bump (F.LNK_REFUSE_CNT p), .busyResource)) := by
  rw [lnkCtrlOp, hw.retry, hw.knock, hw.rejoin]

section

variable (hadmin : b.flag (F.LNK_CTRL_ADMIN_DOWN p) = d) (htest : b.get (F.LNK_CTRL_TEST p) = t)

include hadmin htest

theorem lnkCtrlOp_retry (hw : CtrlWord w true false d false t) : lnkCtrlOp p w b = lnkRetryOp p b := by
  have hkept {f : Field} (hf : f.OfCtrl p) : b.Steady f (lnkRetryOp p b).1 := .ite ((Block.Steady.refl f b).restart_ctrl hf) (.refl f b)
  rw [lnkCtrlOp_of_word hw]
  exact lnkTest_of_kept hw ((congrArg (· != 0) (hkept (ofCtrl_adminDown p)).reg).trans hadmin)
    ((hkept (ofCtrl_test p)).reg.trans htest)

theorem lnkCtrlOp_rejoin (hw : CtrlWord w false false d true t) : lnkCtrlOp p w b = lnkRejoinOp p b := by
  have hkept {f : Field} (hf : f.OfCtrl p) : b.Steady f (lnkRejoinOp p b).1 := .ite ((Block.Steady.refl f b).rejoin_ctrl hf) (.refl f b)
  rw [lnkCtrlOp_of_word hw]
  exact lnkTest_of_kept hw ((congrArg (· != 0) (hkept (ofCtrl_adminDown p)).reg).trans hadmin)
    ((hkept (ofCtrl_test p)).reg.trans htest)

/-- The port knocks from here (R493). -/
def Block.knocking (b : Block) (p : Nat) : Block :=
  (((b.emit (.knock p)).put (F.LNK_STAT_KNOCKING p) 1).bump (F.LNK_KNOCK_CNT p)).setPort p { b.port p with knockTick := b.tick }

theorem lnkCtrlOp_knock (hw : CtrlWord w false true d false t)
    (hready : (b.stage p = stDetect ∨ b.stage p = stSilent ∨ (b.stage p = stDown ∧ b.flag (F.LNK_CTRL_ADMIN_DOWN p) = true)) ∧
      b.hostPort p = false ∧ b.flag (F.LNK_STAT_KNOCKING p) = false) : lnkCtrlOp p w b = (b.knocking p, .ok) := by
  obtain ⟨hstage, hhost, hquiet⟩ := hready
  have hop : lnkKnockOp p b = (b.knocking p, .ok) := by
    rw [lnkKnockOp, hhost, hquiet, if_pos]
    · rfl
    · obtain h | h | ⟨h, hdown⟩ := hstage
      · rw [h]; rfl
      · rw [h]; rfl
      · rw [h, hdown]; rfl
  have hkept {f : Field} (hf : f.OfCtrl p) : b.Steady f (b.knocking p) :=
    ((((Block.Steady.refl f b).emit.put (hf.ne (by omega) (by omega))).bump (hf.ne (by omega) (by omega))).setPort)
  rw [lnkCtrlOp_of_word hw, if_neg Bool.false_ne_true]
  dsimp only
  rw [if_pos rfl, hop]
  exact lnkTest_of_kept hw ((congrArg (· != 0) (hkept (ofCtrl_adminDown p)).reg).trans hadmin)
    ((hkept (ofCtrl_test p)).reg.trans htest)

omit hadmin htest in
theorem lnkCtrlOp_knock_refused (hw : CtrlWord w false true d false t)
    (hready : ¬ ((b.stage p = stDetect ∨ b.stage p = stSilent ∨ (b.stage p = stDown ∧ b.flag (F.LNK_CTRL_ADMIN_DOWN p) = true)) ∧
      b.hostPort p = false ∧ b.flag (F.LNK_STAT_KNOCKING p) = false)) :
    lnkCtrlOp p w b = (b.bump (F.LNK_REFUSE_CNT p), .busyResource) := by
  have hop : lnkKnockOp p b = (b.bump (F.LNK_REFUSE_CNT p), .busyResource) := by
    rw [lnkKnockOp, if_neg]
    simpa [or_assoc, and_assoc] using hready
  rw [lnkCtrlOp_of_word hw, if_neg Bool.false_ne_true]
  dsimp only
  rw [if_pos rfl, hop]
  rfl

omit hadmin in
/-- ADMIN_DOWN written 1 where it was 0 takes the port down. -/
theorem lnkCtrlOp_adminDown (hw : CtrlWord w false false true false t) (hup : b.flag (F.LNK_CTRL_ADMIN_DOWN p) = false) :
    lnkCtrlOp p w b = ((b.put (F.LNK_CTRL_ADMIN_DOWN p) 1).toDown p 0, .ok) := by
  have hkept : b.Steady (F.LNK_CTRL_TEST p) ((b.put (F.LNK_CTRL_ADMIN_DOWN p) 1).toDown p 0) :=
    ((Block.Steady.refl _ b).put (by simp only [Field.key]; omega)).toDown_ctrl (ofCtrl_test p)
  have hdown : lnkAdmin p w b = ((b.put (F.LNK_CTRL_ADMIN_DOWN p) 1).toDown p 0, .ok) := by
    rw [lnkAdmin, hw.admin, hup]
    rfl
  rw [lnkCtrlOp_of_word hw, if_neg Bool.false_ne_true]
  dsimp only
  rw [if_neg Bool.false_ne_true, if_pos (by rfl), if_neg Bool.false_ne_true, hdown, lnkTest, hw.test]
  exact if_pos (hkept.reg.trans htest).symm

omit htest in
/-- Another TEST field is acted on, the rest of the register as it stands. -/
theorem lnkCtrlOp_test (hw : CtrlWord w false false d false t) (hother : t ≠ b.get (F.LNK_CTRL_TEST p)) :
    lnkCtrlOp p w b = if t = 1 then lnkTestPrbs p b else lnkTestOffOp p t b := by
  rw [lnkCtrlOp_of_word hw, if_neg Bool.false_ne_true]
  dsimp only
  rw [if_neg Bool.false_ne_true, if_pos (by rfl), if_neg Bool.false_ne_true, lnkAdmin, hw.admin, hadmin, beq_self_eq_true, if_pos rfl, lnkTest, hw.test]
  exact if_neg hother

end

/-! ### TEST (R491) -/

/-- The counts of a lane at 0 (R491). -/
def Block.zeroCounts (b : Block) (k : Nat) : Block :=
  (b.put64 (F.LNK_L_PRBS_BITS_LO k) (F.LNK_L_PRBS_BITS_HI k) 0).put64 (F.LNK_L_PRBS_ERR_LO k) (F.LNK_L_PRBS_ERR_HI k) 0

theorem Block.get_zeroCounts_other {f : Field} {k : Nat} (hf : f.addr % 0x80 < 0x14 ∨ 0x20 < f.addr % 0x80) (hlo : f.lo < 32) :
    (b.zeroCounts k).get f = b.get f := by
  simp (disch := simp only [Field.key]; omega) only [Block.zeroCounts, Block.put64, Block.get_put_other]

theorem Block.get64_zeroCounts (c : Block) : ∀ k ∈ lanesOf p,
    ((c.zeroCounts (2 * p)).zeroCounts (2 * p + 1)).get64 (F.LNK_L_PRBS_BITS_LO k) (F.LNK_L_PRBS_BITS_HI k) = 0 ∧
    ((c.zeroCounts (2 * p)).zeroCounts (2 * p + 1)).get64 (F.LNK_L_PRBS_ERR_LO k) (F.LNK_L_PRBS_ERR_HI k) = 0 := by
  intro k hk
  obtain rfl | rfl : k = 2 * p ∨ k = 2 * p + 1 := by simpa [lanesOf] using hk
  all_goals
    simp (disch := simp only [Field.key]; omega) only [Block.zeroCounts, Block.get64, Block.put64, Block.get_put_same, Block.get_put_other]
    decide

/-- PRBS31 outside DOWN: the port is in TEST with the counts of both lanes at 0. -/
theorem lnkTestPrbs_spec (hstage : b.stage p ≠ stDown) : ∃ c, lnkTestPrbs p b = (c, .ok) ∧ c.stage p = stTest ∧ c.get (F.LNK_CTRL_TEST p) = 1 ∧
    ∀ k ∈ lanesOf p, c.get64 (F.LNK_L_PRBS_BITS_LO k) (F.LNK_L_PRBS_BITS_HI k) = 0 ∧ c.get64 (F.LNK_L_PRBS_ERR_LO k) (F.LNK_L_PRBS_ERR_HI k) = 0 := by
  have hop : lnkTestPrbs p b = (((((b.put (F.LNK_CTRL_TEST p) 1).setStage p stTest).unjoin p).zeroCounts (2 * p)).zeroCounts (2 * p + 1), .ok) :=
    if_neg fun h => hstage (eq_of_beq h)
  have hunjoin : ((b.put (F.LNK_CTRL_TEST p) 1).setStage p stTest).Steady (F.LNK_STAT_STAGE p)
      (((b.put (F.LNK_CTRL_TEST p) 1).setStage p stTest).unjoin p) :=
    (Block.Steady.refl _ _).foldl fun _ hc _ => hc.put (by simp only [Field.key]; omega)
  have htest : (b.put (F.LNK_CTRL_TEST p) 1).Steady (F.LNK_CTRL_TEST p) (((b.put (F.LNK_CTRL_TEST p) 1).setStage p stTest).unjoin p) :=
    ((Block.Steady.refl _ _).setStage_ctrl (ofCtrl_test p)).unjoin_ctrl (ofCtrl_test p)
  refine ⟨_, hop, ?_, ?_, Block.get64_zeroCounts _⟩
  · rw [Block.stage, Block.get_zeroCounts_other (.inl (by simp only; omega)) (by simp), Block.get_zeroCounts_other (.inl (by simp only; omega)) (by simp)]
    exact hunjoin.reg.trans (Block.stage_setStage (by decide))
  · rw [Block.get_zeroCounts_other (.inl (by simp only; omega)) (by simp), Block.get_zeroCounts_other (.inl (by simp only; omega)) (by simp), htest.reg,
      Block.get_put_same]
    rfl

/-- TEST OFF in TEST: the port is in DETECT, without attempts and without lock. -/
theorem lnkTestOffOp_spec (hstage : b.stage p = stTest) : ∃ c, lnkTestOffOp p 0 b = (c, .ok) ∧ c.stage p = stDetect ∧
    c.get (F.LNK_CTRL_TEST p) = 0 ∧ c.get (F.LNK_STAT_ATTEMPTS p) = 0 ∧ ∀ k ∈ lanesOf p, c.get (F.LNK_L_STAT_PRBS_LOCK k) = 0 := by
  have hop : lnkTestOffOp p 0 b = (((((b.put (F.LNK_CTRL_TEST p) 0).put (F.LNK_STAT_ATTEMPTS p) 0).toDetect p).put (F.LNK_L_STAT_PRBS_LOCK (2 * p)) 0).put
      (F.LNK_L_STAT_PRBS_LOCK (2 * p + 1)) 0, .ok) := if_pos (beq_iff_eq.2 hstage)
  have hattempts : ((b.put (F.LNK_CTRL_TEST p) 0).put (F.LNK_STAT_ATTEMPTS p) 0).Steady (F.LNK_STAT_ATTEMPTS p)
      (((b.put (F.LNK_CTRL_TEST p) 0).put (F.LNK_STAT_ATTEMPTS p) 0).toDetect p) :=
    ((Block.Steady.refl _ _).setStage (by constructor <;> simp only [Field.key] <;> omega) (by simp only [Field.key]; omega)
      (by simp only [Field.key]; omega)).beacon
  have htest : ((b.put (F.LNK_CTRL_TEST p) 0).put (F.LNK_STAT_ATTEMPTS p) 0).Steady (F.LNK_CTRL_TEST p)
      (((b.put (F.LNK_CTRL_TEST p) 0).put (F.LNK_STAT_ATTEMPTS p) 0).toDetect p) :=
    ((Block.Steady.refl _ _).setStage_ctrl (ofCtrl_test p)).beacon
  refine ⟨_, hop, ?_, ?_, ?_, fun k hk => ?_⟩
  · rw [Block.stage, Block.get_put_other _ _ _ _ (by simp only [Field.key]; omega), Block.get_put_other _ _ _ _ (by simp only [Field.key]; omega)]
    exact Block.stage_toDetect
  · rw [Block.get_put_other _ _ _ _ (by simp only [Field.key]; omega), Block.get_put_other _ _ _ _ (by simp only [Field.key]; omega), htest.reg,
      Block.get_put_other _ _ _ _ (by simp only [Field.key]; omega), Block.get_put_same, Nat.zero_mod]
  · rw [Block.get_put_other _ _ _ _ (by simp only [Field.key]; omega), Block.get_put_other _ _ _ _ (by simp only [Field.key]; omega), hattempts.reg,
      Block.get_put_same, Nat.zero_mod]
  · obtain rfl | rfl : k = 2 * p ∨ k = 2 * p + 1 := by simpa [lanesOf] using hk
    · rw [Block.get_put_other _ _ _ _ (by simp only [Field.key]; omega), Block.get_put_same, Nat.zero_mod]
    · rw [Block.get_put_same, Nat.zero_mod]

/-! ### What an access to a port leaves of it -/

theorem Block.get_touched (b : Block) (addr : Nat) (f : Field) : (b.touched addr).get f = b.get f := Block.get_of_regs (b.touched_regs addr) f

theorem Block.touched_port (b : Block) (addr p : Nat) : (b.touched addr).port p = b.port p := by
  unfold Block.touched Block.touchDom
  split
  · split <;> rfl
  · rfl

theorem Block.touched_tick (b : Block) (addr : Nat) : (b.touched addr).tick = b.tick := by
  unfold Block.touched Block.touchDom
  split
  · split <;> rfl
  · rfl

theorem Block.stage_touched (b : Block) (addr p : Nat) : (b.touched addr).stage p = b.stage p := b.get_touched addr _

theorem Block.portActive_touched (b : Block) (addr p : Nat) : (b.touched addr).portActive p = b.portActive p :=
  congrArg (· == stActive) (b.stage_touched addr p)

theorem Block.hostPort_touched (b : Block) (addr p : Nat) : (b.touched addr).hostPort p = b.hostPort p :=
  congrArg (· == 2) (b.get_touched addr _)

theorem Block.flag_touched (b : Block) (addr : Nat) (f : Field) : (b.touched addr).flag f = b.flag f := congrArg (· != 0) (b.get_touched addr f)

/-! ### The commands that write LNK_p_CTRL -/

/-- The block that a write of LNK_p_CTRL finds. -/
abbrev Block.atCtrl (b : Block) (p : Nat) : Block := b.touched (0xe0000 + 0x200 * p)

section

variable {a : Access} (hp : p < 8) (hadmin : b.get (F.LNK_CTRL_ADMIN_DOWN p) < 2) (htest : b.get (F.LNK_CTRL_TEST p) < 4)

theorem Block.lnkKept_eq (b : Block) (p : Nat) :
    b.lnkKept p = b.get (F.LNK_CTRL_ADMIN_DOWN p) * 2 ^ 29 + b.get (F.LNK_CTRL_TEST p) * 2 ^ 26 := rfl

include hp hadmin htest

theorem lnkRetry_of_acts (hacts : b.acts a (0xe0000 + 0x200 * p) (2 ^ 31 + b.lnkKept p) = true) :
    lnkRetry a p b = b.answered a (0xe0000 + 0x200 * p) (2 ^ 31 + b.lnkKept p) (lnkRetryOp p (b.atCtrl p)) := by
  have hw := CtrlWord.of_eq (w := 2 ^ 31 + b.lnkKept p) (r := 1) (k := 0) (j := 0) (by rw [b.lnkKept_eq]; omega) (by decide) (by decide) hadmin
    (by decide) htest
  rw [lnkRetry, submit_of_plainOp (regOp_lnkCtrl _ hp) hacts, lnkCtrlOp_retry (b.flag_touched ..) (b.get_touched ..) hw]

theorem lnkRejoin_of_acts (hacts : b.acts a (0xe0000 + 0x200 * p) (2 ^ 28 + b.lnkKept p) = true) :
    lnkRejoin a p b = b.answered a (0xe0000 + 0x200 * p) (2 ^ 28 + b.lnkKept p) (lnkRejoinOp p (b.atCtrl p)) := by
  have hw := CtrlWord.of_eq (w := 2 ^ 28 + b.lnkKept p) (r := 0) (k := 0) (j := 1) (by rw [b.lnkKept_eq]; omega) (by decide) (by decide) hadmin
    (by decide) htest
  rw [lnkRejoin, submit_of_plainOp (regOp_lnkCtrl _ hp) hacts, lnkCtrlOp_rejoin (b.flag_touched ..) (b.get_touched ..) hw]

/-- A port takes a KNOCK: in DETECT, SILENT or DOWN by ADMIN_DOWN, not in host mode, and not while it knocks. -/
abbrev Block.takesKnock (b : Block) (p : Nat) : Prop :=
  (b.stage p = stDetect ∨ b.stage p = stSilent ∨ (b.stage p = stDown ∧ b.flag (F.LNK_CTRL_ADMIN_DOWN p) = true)) ∧
    b.hostPort p = false ∧ b.flag (F.LNK_STAT_KNOCKING p) = false

omit hp hadmin htest in
theorem Block.takesKnock_atCtrl : (b.atCtrl p).takesKnock p ↔ b.takesKnock p := by
  rw [Block.takesKnock, b.stage_touched, b.hostPort_touched, b.flag_touched, b.flag_touched]

theorem lnkKnock_of_ready (hacts : b.acts a (0xe0000 + 0x200 * p) (2 ^ 30 + b.lnkKept p) = true) (hready : b.takesKnock p) :
    lnkKnock a p b = b.answered a (0xe0000 + 0x200 * p) (2 ^ 30 + b.lnkKept p) ((b.atCtrl p).knocking p, .ok) := by
  have hw := CtrlWord.of_eq (w := 2 ^ 30 + b.lnkKept p) (r := 0) (k := 1) (j := 0) (by rw [b.lnkKept_eq]; omega) (by decide) (by decide) hadmin
    (by decide) htest
  rw [lnkKnock, submit_of_plainOp (regOp_lnkCtrl _ hp) hacts,
    lnkCtrlOp_knock (b.flag_touched ..) (b.get_touched ..) hw (Block.takesKnock_atCtrl.2 hready)]

theorem lnkKnock_of_busy (hacts : b.acts a (0xe0000 + 0x200 * p) (2 ^ 30 + b.lnkKept p) = true) (hready : ¬ b.takesKnock p) :
    lnkKnock a p b = b.answered a (0xe0000 + 0x200 * p) (2 ^ 30 + b.lnkKept p) ((b.atCtrl p).bump (F.LNK_REFUSE_CNT p), .busyResource) := by
  have hw := CtrlWord.of_eq (w := 2 ^ 30 + b.lnkKept p) (r := 0) (k := 1) (j := 0) (by rw [b.lnkKept_eq]; omega) (by decide) (by decide) hadmin
    (by decide) htest
  rw [lnkKnock, submit_of_plainOp (regOp_lnkCtrl _ hp) hacts, lnkCtrlOp_knock_refused hw fun h => hready (Block.takesKnock_atCtrl.1 h)]

omit hadmin in
theorem lnkAdminDown_of_acts (hacts : b.acts a (0xe0000 + 0x200 * p) (setBit (b.lnkKept p) 29 true) = true)
    (hup : b.get (F.LNK_CTRL_ADMIN_DOWN p) = 0) : lnkAdminDown a p b =
      b.answered a (0xe0000 + 0x200 * p) (setBit (b.lnkKept p) 29 true) (((b.atCtrl p).put (F.LNK_CTRL_ADMIN_DOWN p) 1).toDown p 0, .ok) := by
  have hword : setBit (b.lnkKept p) 29 true = 0 * 2 ^ 31 + 0 * 2 ^ 30 + 1 * 2 ^ 29 + 0 * 2 ^ 28 + b.get (F.LNK_CTRL_TEST p) * 2 ^ 26 := by
    rw [setBit, b.lnkKept_eq, hup, b2n, if_pos rfl]
    omega
  have hw := CtrlWord.of_eq hword (by decide) (by decide) (by decide) (by decide) htest
  have hflag : (b.atCtrl p).flag (F.LNK_CTRL_ADMIN_DOWN p) = false := by rw [b.flag_touched, Block.flag, hup, bne_self_eq_false]
  rw [lnkAdminDown, submit_of_plainOp (regOp_lnkCtrl _ hp) hacts, lnkCtrlOp_adminDown (b.get_touched ..) hw hflag]

theorem lnkTestPrbs31_of_acts (hacts : b.acts a (0xe0000 + 0x200 * p) (b.lnkKept p / 2 ^ 28 * 2 ^ 28 + 2 ^ 26) = true)
    (hother : b.get (F.LNK_CTRL_TEST p) ≠ 1) : lnkTestPrbs31 a p b =
      b.answered a (0xe0000 + 0x200 * p) (b.lnkKept p / 2 ^ 28 * 2 ^ 28 + 2 ^ 26) (lnkTestPrbs p (b.atCtrl p)) := by
  have hw := CtrlWord.of_eq (w := b.lnkKept p / 2 ^ 28 * 2 ^ 28 + 2 ^ 26) (r := 0) (k := 0) (j := 0) (t := 1) (by rw [b.lnkKept_eq]; omega)
    (by decide) (by decide) hadmin (by decide) (by decide)
  rw [lnkTestPrbs31, submit_of_plainOp (regOp_lnkCtrl _ hp) hacts,
    lnkCtrlOp_test (b.flag_touched ..) hw (by rw [b.get_touched]; exact hother.symm), if_pos rfl]

theorem lnkTestOff_of_acts (hacts : b.acts a (0xe0000 + 0x200 * p) (b.lnkKept p / 2 ^ 28 * 2 ^ 28) = true)
    (hother : b.get (F.LNK_CTRL_TEST p) ≠ 0) : lnkTestOff a p b =
      b.answered a (0xe0000 + 0x200 * p) (b.lnkKept p / 2 ^ 28 * 2 ^ 28) (lnkTestOffOp p 0 (b.atCtrl p)) := by
  have hw := CtrlWord.of_eq (w := b.lnkKept p / 2 ^ 28 * 2 ^ 28) (r := 0) (k := 0) (j := 0) (t := 0) (by rw [b.lnkKept_eq]; omega)
    (by decide) (by decide) hadmin (by decide) (by decide)
  rw [lnkTestOff, submit_of_plainOp (regOp_lnkCtrl _ hp) hacts,
    lnkCtrlOp_test (b.flag_touched ..) hw (by rw [b.get_touched]; exact hother.symm), if_neg (by decide)]

end

end

end Sys2Proof.Machine

namespace Sys2Proof.Proofs

open Sys2Proof Sys2Proof.Machine

/-- Settles O50: each loss, ordered set and timeout by its conditions; a write of LNK_p_CTRL by the bits of its word, of which the two kept fields
stand wherever the port goes. -/
theorem portLossAndControl : Obligations.PortLossAndControl := by
  intro p l s hp hl b q dark
  have hport : decide (p < 8) = true := decide_eq_true hp
  have hlane : decide (l < 16) = true := decide_eq_true hl
  refine ⟨fun hdark => ?dark, fun hlit => ⟨fun hstage => ?lossIdle, fun hstage hother hjoined => ?lossOther, fun hstage hother => ?lossLast⟩,
    fun t ht => ⟨fun hearly => ?idleEarly, fun hdue hstage hdark => ?idleDark, fun k hk hdue hstage hlit => ?idleLit⟩,
    ⟨fun hunlocked => ?unlocked, fun hlocked => ⟨fun hon hjoined => ?lockJoined, fun hother => ?lockOther⟩⟩,
    fun k n hlost hon => ⟨fun hdue hx2 => ?rejoin, fun hkept => ?rejoinKept⟩, fun arg harg hdown htest => ⟨fun hhib => ?downHib, fun hplain => ?down⟩,
    fun arg harg => ⟨fun hstage hfree => ?takeover, fun hstage => ?takeoverOther⟩, fun hheld => ⟨fun hdue => ?held, fun hearly => ?heldEarly⟩,
    fun hknocking => ⟨fun hdue => ?knocked, fun hearly => ?knockedEarly⟩, ⟨fun hstage => ?prbs, fun hstage => ?prbsOther⟩, fun bits errs hlock => ?prbsLost,
    fun a ha hadmin htest => ?ctrl⟩
  case dark => rw [exec_lossOfSignal l s hlane, lossOfSignal_of_dark hdark]
  case lossIdle => rw [exec_lossOfSignal l s hlane, lossOfSignal_of_idle hlit hstage]
  case lossOther => rw [exec_lossOfSignal l s hlane, lossOfSignal_of_other hlit hstage hother hjoined]
  case lossLast => rw [exec_lossOfSignal l s hlane, lossOfSignal_of_last hlit hstage hother]
  case idleEarly => rw [exec_losIdleEnd p s hport, losIdleEnd_of_early ht hearly]
  case idleDark =>
    have hnone : ((lanesOf p).any fun k => s.hw.flag (F.LNK_L_STAT_SIGNAL k)) = false := List.any_eq_false.2 fun k hk => Bool.eq_false_iff.1 (hdark k hk)
    rw [exec_losIdleEnd p s hport, losIdleEnd_of_due ht hdue hstage, hnone, if_neg Bool.false_ne_true]
  case idleLit =>
    have hsome : ((lanesOf p).any fun k => s.hw.flag (F.LNK_L_STAT_SIGNAL k)) = true := List.any_eq_true.2 ⟨k, hk, hlit⟩
    rw [exec_losIdleEnd p s hport, losIdleEnd_of_due ht hdue hstage, hsome, if_pos rfl]
  case unlocked => rw [exec_laneLockLost l s hlane, laneLockLost, whenDue_of_notDue hunlocked]
  case lockJoined =>
    rw [exec_laneLockLost l s hlane, laneLockLost, whenDue_of_due hlocked, if_pos (Bool.and_eq_true_iff.2 ⟨hon, hjoined⟩)]
  case lockOther =>
    rw [exec_laneLockLost l s hlane, laneLockLost, whenDue_of_due hlocked, if_neg (Bool.eq_false_iff.1 (Bool.and_eq_false_iff.2 hother))]
  case rejoin =>
    rw [exec_laneRejoin p s hport, laneRejoin_of_lost hlost, whenDue_of_due (by rw [decide_eq_true hdue, hon, hx2]; rfl)]
    rfl
  case rejoinKept =>
    rw [exec_laneRejoin p s hport, laneRejoin_of_lost hlost, whenDue_of_notDue]
    obtain hearly | hx1 := hkept
    · rw [decide_eq_false (not_le.2 hearly), Bool.false_and, Bool.false_and]
    · rw [hx1, Bool.not_true, Bool.and_false]
  case downHib =>
    have hwf : Instr.wf (.downRx p arg) = true := by simp [Instr.wf, hp, harg]
    rw [exec_downRx p arg s hwf, downRx, whenDue_of_due (by rw [bne_iff_ne.2 hdown, bne_iff_ne.2 htest]; rfl), if_pos hhib]
  case down =>
    have hwf : Instr.wf (.downRx p arg) = true := by simp [Instr.wf, hp, harg]
    rw [exec_downRx p arg s hwf, downRx, whenDue_of_due (by rw [bne_iff_ne.2 hdown, bne_iff_ne.2 htest]; rfl), if_neg (by omega)]
  case takeover =>
    have hwf : Instr.wf (.takeoverOsRx p arg) = true := by simp [Instr.wf, hp, harg]
    rw [exec_takeoverOsRx p arg s hwf, takeoverOsRx, whenDue_of_due (by obtain h | h | h := hstage <;> rw [h] <;> rfl),
      if_neg (Bool.eq_false_iff.1 hfree)]
  case takeoverOther =>
    have hwf : Instr.wf (.takeoverOsRx p arg) = true := by simp [Instr.wf, hp, harg]
    rw [exec_takeoverOsRx p arg s hwf, takeoverOsRx, whenDue_of_notDue (by obtain h | h | h | h | h := hstage <;> rw [h] <;> rfl)]
  case held =>
    rw [exec_tkoHoldExpire p s hport, tkoHoldExpire,
      whenDue_of_due (by rw [hheld, decide_eq_true (p := (s.hw.port p).tkoTick + 1500 * msTicks ≤ s.hw.tick) hdue]; rfl)]
  case heldEarly =>
    rw [exec_tkoHoldExpire p s hport, tkoHoldExpire,
      decide_eq_false (p := (s.hw.port p).tkoTick + 1500 * msTicks ≤ s.hw.tick) (not_le.2 hearly), Bool.and_false, whenDue_false]
  case knocked =>
    rw [exec_knockDone p s hport, knockDone,
      whenDue_of_due (by rw [hknocking, decide_eq_true (p := (s.hw.port p).knockTick + 750 * usTicks ≤ s.hw.tick) hdue]; rfl)]
  case knockedEarly =>
    rw [exec_knockDone p s hport, knockDone,
      decide_eq_false (p := (s.hw.port p).knockTick + 750 * usTicks ≤ s.hw.tick) (not_le.2 hearly), Bool.and_false, whenDue_false]
  case prbs => rw [exec_prbsLockGained l s hlane, prbsLockGained, whenDue_of_due (Block.stage_beq hstage)]
  case prbsOther => rw [exec_prbsLockGained l s hlane, prbsLockGained, whenDue_of_notDue (Block.stage_beq_false hstage)]
  case prbsLost => rw [exec_prbsLockLost l bits errs s hlane, prbsLockLost, whenDue_of_due hlock]
  case ctrl =>
    have hwf : (a.wf && decide (p < 8)) = true := by rw [ha, hport]; rfl
    intro addr c kept
    refine ⟨fun hacts => ?retry, fun hacts => ?knock, fun hacts => ?rejoin, fun hacts hup => ?admin, fun hacts hother hdown => ?prbs31,
      fun hacts hother hstage => ?testOff⟩
    case retry =>
      rw [exec_lnkRetry a p s hwf, lnkRetry_of_acts hp hadmin htest hacts, lnkRetryOp, s.hw.stage_touched]
      refine ⟨fun hidle => ?_, fun hdown htest => ?_⟩
      · rw [if_neg (by obtain h | h := hidle <;> rw [h] <;> decide)]
      · rw [if_pos (by rw [bne_iff_ne.2 hdown, bne_iff_ne.2 htest]; rfl)]
    case knock =>
      intro ready d
      refine ⟨fun hready => ?_, fun hbusy => ?_⟩
      · rw [exec_lnkKnock a p s hwf, lnkKnock_of_ready hp hadmin htest hacts hready, Block.knocking, Block.touched_port, Block.touched_tick]
      · rw [exec_lnkKnock a p s hwf, lnkKnock_of_busy hp hadmin htest hacts hbusy]
    case rejoin =>
      rw [exec_lnkRejoin a p s hwf, lnkRejoin_of_acts hp hadmin htest hacts, lnkRejoinOp, s.hw.portActive_touched, s.hw.touched_port]
      refine ⟨fun hon hlost => ?_, fun hnot => ?_⟩
      · rw [if_pos (Bool.and_eq_true_iff.2 ⟨hon, Option.isSome_iff_ne_none.2 hlost⟩)]
      · rw [if_neg]
        rintro h
        obtain ⟨hon, hlost⟩ := Bool.and_eq_true_iff.1 h
        exact hnot.elim (Bool.eq_false_iff.1 · hon) (Option.isSome_iff_ne_none.1 hlost)
    case admin => rw [exec_lnkAdminDown a p s hwf, lnkAdminDown_of_acts hp htest hacts hup]
    case prbs31 =>
      obtain ⟨d, hop, hspec⟩ := lnkTestPrbs_spec (b := s.hw.atCtrl p) (by rw [s.hw.stage_touched]; exact hdown)
      exact ⟨d, by rw [exec_lnkTestPrbs31 a p s hwf, lnkTestPrbs31_of_acts hp hadmin htest hacts hother, hop], hspec⟩
    case testOff =>
      obtain ⟨d, hop, hspec⟩ := lnkTestOffOp_spec (b := s.hw.atCtrl p) (by rw [s.hw.stage_touched]; exact hstage)
      exact ⟨d, by rw [exec_lnkTestOff a p s hwf, lnkTestOff_of_acts hp hadmin htest hacts hother, hop], hspec⟩

end Sys2Proof.Proofs

/-! SUPPORT. Votes, FORCE and the transitions of a power domain (R22, R507 to R511). -/

namespace Sys2Proof.Machine

open Sys2Proof

section

variable {b : Block} {a : Access} {d n w : Nat}

/-! ### Votes that are cast and withdrawn (R507, R508) -/

theorem domainAt_vote (hd : d < 19) : domainAt (0x20104 + 0x10 * d) = none := by
  interval_cases d <;> rfl

theorem domainAt_pwrCtrl (hd : d < 19) : domainAt (0x20108 + 0x10 * d) = none := by
  interval_cases d <;> rfl

theorem submit_vote (hd : d < 19) (hacts : b.acts a (0x20104 + 0x10 * d) w = true) :
    submit a (.write (0x20104 + 0x10 * d) [w]) b = b.answered a (0x20104 + 0x10 * d) w (voteOp a.who d w b) := by
  rw [submit_of_plainOp (regOp_vote _ hd) hacts, b.touched_of_none _ (domainAt_vote hd)]

/-- The voters without the node's vote on a domain. -/
def Block.otherVoters (b : Block) (d n : Nat) : List Voter := b.pwr.voters.filter fun x => !(x.dom == d && x.node == n)

/-- A node's vote on a domain, where no CONFIG vote is written. -/
theorem voteOp_cast (hconfig : bitAt w 2 = false) (hop : bitsOf w 1 0 = 1) : voteOp (.node n) d w b =
    if !(b.pwr.voters.any fun x => x.dom == d && x.node == n) && decide (16 ≤ (b.pwr.voters.filter fun x => x.dom == d).length) then
      (b.bump F.PWR_REFUSE_CNT, .busyResource)
    else ({ b with pwr := { b.pwr with voters := ⟨d, n, b.isHost n, b.tick, bitsOf w 15 8⟩ :: b.otherVoters d n } }.settleDom d, .ok) := by
  rw [voteOp, hconfig, hop]
  rfl

theorem voteOp_withdraw (hconfig : bitAt w 2 = false) (hop : bitsOf w 1 0 = 2) :
    voteOp (.node n) d w b = ({ b with pwr := { b.pwr with voters := b.otherVoters d n } }.settleDom d, .ok) := by
  rw [voteOp, hconfig, hop]
  rfl

/-- The word of a vote with its OP replaced. -/
theorem voteWord_fields (w : Nat) {op : Nat} (hop : op < 4) :
    bitAt (w / 4 * 4 + op) 2 = bitAt w 2 ∧ bitsOf (w / 4 * 4 + op) 1 0 = op ∧ bitsOf (w / 4 * 4 + op) 15 8 = bitsOf w 15 8 := by
  have hbit : (w / 4 * 4 + op) / 2 ^ 2 % 2 = w / 2 ^ 2 % 2 := by omega
  refine ⟨by rw [bitAt, bitAt, hbit], ?_, ?_⟩ <;> simp only [bitsOf] <;> omega

/-! ### Votes that lapse (R508, R509) -/

/-- The vote of a node on a domain whose lease has run out. -/
def Block.lapsed (b : Block) (d n : Nat) (x : Voter) : Bool :=
  x.dom == d && x.node == n && x.lease != 0 && decide (x.tick + x.lease * sTicks ≤ b.tick)

theorem voteLeaseExpire_of_lapsed {x : Voter} (hrails : b.phase.railsOn = true) (hx : x ∈ b.pwr.voters) (hlapsed : b.lapsed d n x = true) :
    voteLeaseExpire d n b = { b with pwr := { b.pwr with voters := b.pwr.voters.filter fun y => !b.lapsed d n y } }.settleDom d := by
  rw [voteLeaseExpire]
  exact whenDue_of_due (Bool.and_eq_true_iff.2 ⟨hrails, List.any_eq_true.2 ⟨x, hx, hlapsed⟩⟩) _ _

theorem accessVoteExpire_of_vote (hrails : b.phase.railsOn = true) (hvote : bitAt (b.get (F.PWR_D_STAT_VOTES d)) 5 = true) :
    accessVoteExpire d b = whenDue (decide (lookupD b.pwr.accessTick d 0 + sTicks ≤ b.tick))
      (fun b => (b.put (F.PWR_D_STAT_VOTES d) (setBit (b.get (F.PWR_D_STAT_VOTES d)) 5 false)).settleDom d) b := by
  rw [accessVoteExpire, hrails, hvote, Bool.true_and, Bool.true_and]

/-! ### An access to a tile that is off (R22, R509) -/

/-- A read of one word that is taken up ends as the read of that word did. -/
theorem submit_oneWordRead {addr : Nat} (halign : addr % 4 = 0) (htakes : b.takes a = true) {r : Block × Status × Nat}
    (hr : readWord a.who addr b = r) : submit a (readRequest addr 1) b = b.readAnswered a addr r.1 r.2.1 r.2.2 := by
  have hone : readWords a.who b addr 1 = (r.1, r.2.1, [r.2.2]) := by
    by_cases hok : r.2.1 = .ok <;> simp [readWords, hr, hok]
  rw [readRequest_oneWord halign, submit, Block.arrive_of_takes htakes (by simp), Block.perform, hone]
  rfl

/-- The domain's ACCESS vote is cast by an access from here. -/
def Block.accessVoted (b : Block) (d : Nat) : Block :=
  { (b.bump F.SYS_OFFACC).put (F.PWR_D_STAT_VOTES d) (setBit (b.get (F.PWR_D_STAT_VOTES d)) 5 true) with
    pwr := { b.pwr with accessTick := insertKey b.pwr.accessTick d b.tick } }

theorem offAccess_of_wakeful (h : b.flag (F.PWR_D_CTRL_WAKE_ON_ACCESS d) = true) : offAccess d b = ((b.accessVoted d).settleDom d, .domainWaking) :=
  if_pos h

theorem offDomainAccess_of_tileOff {addr t : Nat} (halign : addr % 4 = 0) (htile : tileOf addr = some t) (htakes : b.takes a = true)
    (hauth : b.authorised a.who = true) (hwarren : a.who.isWarren = false) (htierO : tierOAt addr = false)
    (hoff : b.get (F.PWR_D_STAT_STATE t) ≠ 2) :
    offDomainAccess a addr b = b.readAnswered a addr (offAccess t b).1 (offAccess t b).2 0 := by
  obtain ⟨hwindow, haperture⟩ := tile_outside_windows htile
  have hrefuse : b.refuse a.who addr false = some (offAccess t b) := by
    simp [Block.refuse, hauth, hwarren, htierO, domainAt, htile, hoff]
  have hread : readWord a.who addr b = ((offAccess t b).1, (offAccess t b).2, 0) := by
    simp [readWord, windowAccess, hwindow, haperture, hrefuse]
  rw [offDomainAccess, submit_oneWordRead halign htakes hread]

/-! ### FORCE and targets (R508, R510) -/

theorem Block.targetOn_of_forcedOn (hheld : b.heldOff d = false) (h : b.get (F.PWR_D_CTRL_FORCE d) = 1) : b.targetOn d = true := by
  rw [Block.targetOn, hheld, h]
  rfl

theorem Block.targetOn_of_forcedOff (hheld : b.heldOff d = false) (h : b.get (F.PWR_D_CTRL_FORCE d) = 2) : b.targetOn d = false := by
  rw [Block.targetOn, hheld, h]
  rfl

theorem Block.targetOn_of_votes (hheld : b.heldOff d = false) (h : b.get (F.PWR_D_CTRL_FORCE d) = 0) :
    b.targetOn d = decide (b.votesOf d ≠ 0) := by
  have hvotes : b.targetOn d = (b.votesOf d != 0) := by
    rw [Block.targetOn, hheld, h]
    rfl
  rw [hvotes, Bool.eq_iff_iff, bne_iff_ne, decide_eq_true_iff]

/-- A word of PWR_d_CTRL: WAKE_ON_ACCESS as it stands, and a FORCE value. -/
def Block.forceWord (b : Block) (d v : Nat) : Nat := b.get (F.PWR_D_CTRL_WAKE_ON_ACCESS d) * 2 ^ 31 + v * 2 ^ 29

/-- A FORCE of another value is refused: OFF of a DRAM whose concentrator is not off, and of the standby in Fill (R510). -/
abbrev Block.forceRefused (b : Block) (d v : Nat) : Prop :=
  (v = 2 ∧ (d = 6 ∨ d = 7) ∧ b.get (F.PWR_D_STAT_STATE (d - 2)) ≠ 0) ∨ (d = 5 ∧ b.phase = .fill)

theorem forceOp_of_denied {who : Requester} {v : Nat} (hother : v ≠ b.get (F.PWR_D_CTRL_FORCE d)) (hwho : (b.hostWho who || who == .owl) = false) :
    forceOp who d v b = (b, .accessDenied) := by
  rw [forceOp, if_neg hother, hwho]
  rfl

theorem forceOp_of_refused {who : Requester} {v : Nat} (hother : v ≠ b.get (F.PWR_D_CTRL_FORCE d)) (hwho : (b.hostWho who || who == .owl) = true)
    (hrefused : b.forceRefused d v) : forceOp who d v b = (b.bump F.PWR_REFUSE_CNT, .busyResource) := by
  rw [forceOp, if_neg hother, hwho, if_neg (by decide), if_pos]
  simpa [and_assoc] using hrefused

theorem forceOp_of_taken {who : Requester} {v : Nat} (hother : v ≠ b.get (F.PWR_D_CTRL_FORCE d)) (hwho : (b.hostWho who || who == .owl) = true)
    (htaken : ¬ b.forceRefused d v) : forceOp who d v b = ((b.put (F.PWR_D_CTRL_FORCE d) v).settleDom d, .ok) := by
  rw [forceOp, if_neg hother, hwho, if_neg (by decide), if_neg]
  simpa [and_assoc] using htaken

/-- A field takes the low bits of a value. -/
theorem Block.put_mod (b : Block) (f : Field) (v : Nat) : b.put f (v % 2 ^ f.width) = b.put f v := by
  simp only [Block.put, putReg, Nat.mod_mod]

/-- A write of PWR_d_CTRL with WAKE_ON_ACCESS as it stands: FORCE acts, and WAKE_ON_ACCESS keeps its value. -/
theorem submit_force {v : Nat} (hd : d < 19) (hv : v < 4) (hacts : b.acts a (0x20108 + 0x10 * d) (b.forceWord d v) = true) :
    submit a (.write (0x20108 + 0x10 * d) [b.forceWord d v]) b = b.answered a (0x20108 + 0x10 * d) (b.forceWord d v)
      (if (forceOp a.who d v b).2 == .ok then
        ((forceOp a.who d v b).1.put (F.PWR_D_CTRL_WAKE_ON_ACCESS d) (b.get (F.PWR_D_CTRL_WAKE_ON_ACCESS d)), .ok)
      else forceOp a.who d v b) := by
  have hforce : bitsOf (b.forceWord d v) 30 29 = v := by
    rw [bitsOf, Block.forceWord]
    omega
  have hwake : bitsOf (b.forceWord d v) 31 31 = b.get (F.PWR_D_CTRL_WAKE_ON_ACCESS d) % 2 ^ (F.PWR_D_CTRL_WAKE_ON_ACCESS d).width := by
    simp only [bitsOf, Block.forceWord]
    omega
  rw [submit_of_plainOp (regOp_pwrCtrl _ hd) hacts, b.touched_of_none _ (domainAt_pwrCtrl hd), pwrCtrlOp, hforce, hwake]
  dsimp only
  rw [Block.put_mod _ (F.PWR_D_CTRL_WAKE_ON_ACCESS d)]

/-! ### Transitions (R511) -/

theorem Block.request_of_on (h : b.get (F.PWR_D_STAT_STATE d) = 2) (on : Bool) :
    b.request d on = if on then b else (b.put (F.PWR_D_STAT_STATE d) 3).startOff d := by
  rw [Block.request, h]
  rfl

/-- A domain is in the course of a transition. -/
abbrev Block.turning (b : Block) (d : Nat) : Prop := b.get (F.PWR_D_STAT_STATE d) = 1 ∨ b.get (F.PWR_D_STAT_STATE d) = 3

/-- The state that a domain in transition goes to, as its last request left it. -/
def Block.goal (b : Block) (d : Nat) : Bool :=
  if b.get (F.PWR_D_STAT_PENDING d) = 0 then b.get (F.PWR_D_STAT_STATE d) == 1 else b.get (F.PWR_D_STAT_PENDING d) == 1

/-- In the course of a transition a request that differs waits as the one pending request. -/
theorem Block.request_of_turning (h : b.turning d) (on : Bool) : b.request d on =
    if b.goal d = on then b
    else (if b.get (F.PWR_D_STAT_PENDING d) = 0 then b else b.bump F.PWR_COALESCED).put (F.PWR_D_STAT_PENDING d) (if on then 1 else 2) := by
  obtain h | h := h <;> rw [Block.request, Block.goal, h] <;> rfl

end

end Sys2Proof.Machine

namespace Sys2Proof.Proofs

open Sys2Proof Sys2Proof.Machine

/-- Settles O26: a vote's register operation by its OP; what lapses by its tick; a tile that is off answers as `offAccess`. -/
theorem powerVotes : Obligations.PowerVotes := by
  refine ⟨fun a n d w s ha hwho hd hconfig => ?cast, fun d n x s hwf hrails hx hdom hnode hlease hdue => ?lease,
    fun d s hd hrails hvote => ?access, fun a addr t s ha halign htile htakes hauth hwarren htierO hoff => ?off⟩
  case cast =>
    intro addr rest
    have hwf : (a.wf && decide (d < 19)) = true := by rw [ha, decide_eq_true hd]; rfl
    obtain ⟨hcastConfig, hcast, hlease⟩ := voteWord_fields w.toNat (op := 1) (by decide)
    obtain ⟨hdropConfig, hdrop, -⟩ := voteWord_fields w.toNat (op := 2) (by decide)
    refine ⟨fun hacts => ?_, fun hacts => ?_⟩
    · intro mine full
      rw [exec_voteCast a d w s hwf, voteCast, submit_vote hd hacts, hwho, voteOp_cast (hcastConfig.trans hconfig) hcast, hlease]
      refine ⟨fun hfull => ?_, fun hroom => ?_⟩
      · rw [if_pos hfull]
      · rw [if_neg (Bool.eq_false_iff.1 hroom)]
        rfl
    · rw [exec_voteWithdraw a d w s hwf, voteWithdraw, submit_vote hd hacts, hwho, voteOp_withdraw (hdropConfig.trans hconfig) hdrop]
      rfl
  case lease =>
    intro left
    have hlapsed : s.hw.lapsed d n x = true := by
      rw [Block.lapsed, hdom, hnode, beq_self_eq_true, beq_self_eq_true, bne_iff_ne.2 hlease, decide_eq_true hdue]
      rfl
    rw [exec_voteLeaseExpire d n s hwf, voteLeaseExpire_of_lapsed hrails hx hlapsed]
    rfl
  case access =>
    intro b1
    rw [exec_accessVoteExpire d s (decide_eq_true hd), accessVoteExpire_of_vote hrails hvote]
    refine ⟨fun hdue => ?_, fun hearly => ?_⟩
    · rw [whenDue_of_due (decide_eq_true hdue)]
    · rw [whenDue_of_notDue (decide_eq_false (not_le.2 hearly))]
  case off =>
    intro b1
    have hrange : addr < 2 ^ 40 := by
      by_contra hge
      simp [tileOf, show ¬addr < 0x300000 by omega] at htile
    have hwf : (a.wf && decide (addr < 2 ^ 40)) = true := by rw [ha, decide_eq_true hrange]; rfl
    rw [exec_offDomainAccess a addr s hwf, offDomainAccess_of_tileOff halign htile htakes hauth hwarren htierO hoff]
    refine ⟨fun hasleep => ?_, fun hwakeful => ?_⟩
    · rw [offAccess_of_asleep hasleep]
    · rw [offAccess_of_wakeful hwakeful]
      rfl

/-- Settles O27: FORCE before votes; a write of FORCE by what refuses it; a request by the domain's state. -/
theorem forceAndTransitions : Obligations.ForceAndTransitions := by
  refine ⟨⟨fun b d hheld => ?target, fun a d v s c ha hd hc => ?force, fun b d hon => ?on⟩,
    ⟨fun d s hd => ⟨fun hst => ?up, fun hst => ?down, fun hst => ?still⟩, fun b d on hturning => ?turning⟩⟩
  case target => exact ⟨Block.targetOn_of_forcedOn hheld, Block.targetOn_of_forcedOff hheld, Block.targetOn_of_votes hheld⟩
  case force =>
    intro addr wake w hacts hother
    have hwf : (a.wf && decide (d < 19)) = true := by rw [ha, decide_eq_true hd]; rfl
    obtain ⟨hv, hexec⟩ : v < 4 ∧ exec c s = .next { s with hw := submit a (.write (0x20108 + 0x10 * d) [s.hw.forceWord d v]) s.hw } := by
      simp only [List.mem_cons, List.not_mem_nil, or_false, Prod.mk.injEq] at hc
      obtain ⟨rfl, rfl⟩ | ⟨rfl, rfl⟩ | ⟨rfl, rfl⟩ := hc
      · exact ⟨by decide, exec_forceNone a d s hwf⟩
      · exact ⟨by decide, exec_forceOn a d s hwf⟩
      · exact ⟨by decide, exec_forceOff a d s hwf⟩
    rw [hexec, submit_force hd hv hacts]
    refine ⟨fun hwho => ?_, fun hwho => ⟨fun hrefused => ?_, fun hoff hfill => ?_⟩⟩
    · rw [forceOp_of_denied hother hwho]
      rfl
    · rw [forceOp_of_refused hother hwho hrefused]
      rfl
    · rw [forceOp_of_taken hother hwho]
      · rfl
      · rintro (⟨hv2, hdram, hon⟩ | hstandby)
        · omega
        · exact hfill hstandby
  case on =>
    rw [Block.request_of_on hon, Block.request_of_on hon]
    exact ⟨rfl, rfl⟩
  case up =>
    rw [exec_domainTransitionDone d s (decide_eq_true hd), domainTransitionDone, if_pos hst]
  case down =>
    rw [exec_domainTransitionDone d s (decide_eq_true hd), domainTransitionDone, if_neg (by omega), if_pos hst]
  case still =>
    rw [exec_domainTransitionDone d s (decide_eq_true hd), domainTransitionDone, if_neg (by omega), if_neg (by omega)]
  case turning =>
    intro pend want
    rw [Block.request_of_turning hturning]
    have hgoal : b.goal d = if pend = 0 then b.get (F.PWR_D_STAT_STATE d) == 1 else pend == 1 := rfl
    refine ⟨fun hnone hsame => ?_, fun hnone hother => ?_, fun hsame => ?_, fun hother => ?_⟩
    · rw [if_pos]
      rw [hgoal, if_pos hnone, Bool.eq_iff_iff, beq_iff_eq, hsame]
    · rw [if_neg, if_pos hnone]
      rw [hgoal, if_pos hnone, Bool.eq_iff_iff, beq_iff_eq]
      exact hother
    · rw [if_pos]
      rw [hgoal, hsame]
      cases on <;> rfl
    · have hpend : pend ≠ 0 := by cases on <;> rw [hother] <;> decide
      rw [if_neg, if_neg hpend]
      rw [hgoal, if_neg hpend, hother]
      cases on <;> decide

end Sys2Proof.Proofs

/-! SUPPORT. Operating levels, and power samples counted to the microjoule (R499, R500, R511, R512). -/

namespace Sys2Proof.Machine

open Sys2Proof

section

variable {b : Block} {a : Access} {w mw : Nat} {tj : Int}

/-! ### Levels (R499, R500, R511) -/

theorem levelForceWrite_of_acts {w : Word} (hacts : b.acts a 0x20010 w.toNat = true) :
    levelForceWrite a w b = b.answered a 0x20010 w.toNat (levelForceOp w.toNat b) := by
  rw [levelForceWrite, submit_of_plainOp (regOp_levelForce _) hacts, b.touched_of_none _ rfl]

/-- The ingest level admits its groups, and no lower one does (R500). -/
theorem ingestLevel_lowest : ∀ g ≤ 60, 7 * g + 1 ≤ levelRate (ingestLevel g) ∧ ∀ l, 1 ≤ l → l < ingestLevel g → levelRate l < 7 * g + 1 := by
  decide

/-- The target level is in force, and nothing waits. -/
def Block.levelReached (b : Block) : Block :=
  let l := b.get F.PWR_STAT_LEVEL_TGT
  let b1 := (b.put F.PWR_STAT_LEVEL_NOW l).put F.PWR_STAT_LEVEL_BUSY 0
  { b1 with pwr := { b1.pwr with gate := l, levelPending := none } }

theorem levelTransitionDone_of_busy (hrails : b.phase.railsOn = true) (hbusy : b.flag F.PWR_STAT_LEVEL_BUSY = true) :
    levelTransitionDone b = match b.pwr.levelPending with
      | some n => b.levelReached.requestLevel n
      | none => b.levelReached := by
  rw [levelTransitionDone, whenDue_of_due (by rw [hrails, hbusy]; rfl)]
  rfl

theorem levelTransitionDone_of_still (hstill : b.flag F.PWR_STAT_LEVEL_BUSY = false) : levelTransitionDone b = b := by
  rw [levelTransitionDone, hstill, Bool.and_false, whenDue_false]

/-! ### Power samples (R512) -/

/-- The registers of a sample: power now and at most, energy, Tj. -/
def Block.sampleShown (b : Block) (mw : Nat) (tj : Int) : Block :=
  (((b.put F.BDG_P_NOW mw).put F.BDG_P_MAX (max mw (b.get F.BDG_P_MAX))).put64 F.BDG_E_TOTAL_LO F.BDG_E_TOTAL_HI
    ((b.get64 F.BDG_E_TOTAL_LO F.BDG_E_TOTAL_HI + (b.pwr.microJ + mw) / 1000) % 2 ^ 64)).put F.BDG_TJ (unsigned 8 (clampI (-128) 127 tj))

/-- The sample kept with the others, and the rest below 1 mJ. -/
def Block.sampleKept (b : Block) (mw : Nat) : Block := { b with pwr := { b.pwr with
  microJ := (b.pwr.microJ + mw) % 1000
  samples := (mw :: b.pwr.samples).take 86400000
  since := (b.pwr.since.1 + mw, b.pwr.since.2 + 1)
  peak := max b.pwr.peak mw } }

/-- A sample, before the window mean is shown. -/
def Block.powerSampled (b : Block) (mw : Nat) (tj : Int) : Block := (b.sampleShown mw tj).sampleKept mw

theorem powerSample_of_on (hon : b.phase ≠ .off) :
    powerSample mw tj b = (b.powerSampled mw tj).put F.BDG_P_AVG (b.powerSampled mw tj).windowMean := by
  rw [powerSample, whenDue_of_due (bne_iff_ne.2 hon)]
  rfl

theorem Block.get_powerSampled (f : Field) : (b.powerSampled mw tj).get f = (b.sampleShown mw tj).get f := rfl

theorem Block.get_sampleShown_other {f : Field}
    (hf : f.key ∉ [F.BDG_P_NOW.key, F.BDG_P_AVG.key, F.BDG_P_MAX.key, F.BDG_E_TOTAL_LO.key, F.BDG_E_TOTAL_HI.key, F.BDG_TJ.key]) :
    (b.sampleShown mw tj).get f = b.get f := by
  simp only [List.mem_cons, List.not_mem_nil, or_false, not_or] at hf
  obtain ⟨hnow, havg, hmax, hlo, hhi, htj⟩ := hf
  rw [Block.sampleShown, Block.get_put_other _ _ _ _ htj, Block.get_put64_other hlo hhi, Block.get_put_other _ _ _ _ hmax,
    Block.get_put_other _ _ _ _ hnow]

theorem Block.energy_sampleShown : (b.sampleShown mw tj).get64 F.BDG_E_TOTAL_LO F.BDG_E_TOTAL_HI =
    (b.get64 F.BDG_E_TOTAL_LO F.BDG_E_TOTAL_HI + (b.pwr.microJ + mw) / 1000) % 2 ^ 64 := by
  have hput {c : Block} {v : Nat} : (c.put F.BDG_TJ v).get64 F.BDG_E_TOTAL_LO F.BDG_E_TOTAL_HI = c.get64 F.BDG_E_TOTAL_LO F.BDG_E_TOTAL_HI := by
    rw [Block.get64, Block.get_put_other _ _ _ _ (by decide), Block.get_put_other _ _ _ _ (by decide)]
    rfl
  rw [Block.sampleShown, hput]
  exact Block.get64_put64 (by decide) rfl (show _ < 2 ^ 32 by omega)

theorem Block.windowMean_put_avg (b : Block) (v : Nat) : (b.put F.BDG_P_AVG v).windowMean = b.windowMean := by
  rw [Block.windowMean, Block.window, Block.get_put_other _ _ _ _ (by decide)]
  rfl

/-- What a sample leaves of each register. -/
theorem get_powerSample (hon : b.phase ≠ .off) {f : Field} (havg : f.key ≠ F.BDG_P_AVG.key) :
    (powerSample mw tj b).get f = (b.sampleShown mw tj).get f := by
  rw [powerSample_of_on hon, Block.get_put_other _ _ _ _ havg, Block.get_powerSampled]

theorem Block.now_sampleShown (hmw : mw < 2 ^ 24) : (b.sampleShown mw tj).get F.BDG_P_NOW = mw := by
  rw [Block.sampleShown, Block.get_put_other _ _ _ _ (by decide), Block.get_put64_other (by decide) (by decide),
    Block.get_put_other _ _ _ _ (by decide)]
  exact Block.get_put_of_lt hmw

theorem Block.max_sampleShown (hmw : mw < 2 ^ 24) (hmax : b.get F.BDG_P_MAX < 2 ^ 24) :
    (b.sampleShown mw tj).get F.BDG_P_MAX = max mw (b.get F.BDG_P_MAX) := by
  rw [Block.sampleShown, Block.get_put_other _ _ _ _ (by decide), Block.get_put64_other (by decide) (by decide)]
  exact Block.get_put_of_lt (max_lt hmw hmax)

theorem Block.tj_sampleShown : (b.sampleShown mw tj).tj = clampI (-128) 127 tj := by
  obtain ⟨hlo, hhi⟩ := clampI_bounds (lo := -128) (hi := 127) (by decide) tj
  have hget : (b.sampleShown mw tj).get F.BDG_TJ = unsigned 8 (clampI (-128) 127 tj) := Block.get_put_of_lt (unsigned_lt 8 _)
  rw [Block.tj, hget, signed_unsigned (by decide) (by omega) (by omega)]

/-- The energy in microjoules rises by the sample where the counter does not wrap. -/
theorem energy_of_sample {e m : Nat} (h : 1000 * e + m + mw < 1000 * 2 ^ 64) :
    1000 * ((e + (m + mw) / 1000) % 2 ^ 64) + (m + mw) % 1000 = 1000 * e + m + mw := by
  omega

end

end Sys2Proof.Machine

namespace Sys2Proof.Proofs

open Sys2Proof Sys2Proof.Machine

/-- Settles O28: a forced level and a level transition by their conditions; a sample by its registers, of which the two halves of the energy hold
one sum. -/
theorem levelsAndSamples : Obligations.LevelsAndSamples := by
  refine ⟨⟨fun a w s ha hacts => ?force, fun s => ⟨fun hrails hbusy => ?level, fun hstill => ?still⟩, ingestLevel_lowest⟩,
    fun mw tj s hmw => ⟨fun hoff => ?off, fun hon hmax => ?sample⟩⟩
  case force =>
    rw [exec_levelForceWrite a w s ha, levelForceWrite_of_acts hacts]
    refine ⟨fun hen hlow => ?_, fun htaken => ?_⟩
    · rw [levelForceOp, if_pos (Bool.and_eq_true_iff.2 ⟨hen, decide_eq_true hlow⟩)]
    · rw [levelForceOp, if_neg]
      rintro h
      obtain ⟨hen, hlow⟩ := Bool.and_eq_true_iff.1 h
      exact htaken.elim (Bool.eq_false_iff.1 · hen) fun hhigh => not_lt.2 hhigh (of_decide_eq_true hlow)
  case level =>
    intro l b1 b2
    rw [exec_levelTransitionDone s rfl, levelTransitionDone_of_busy hrails hbusy]
    refine ⟨fun hnone => ?_, fun n hsome => ?_⟩
    · rw [hnone]
      rfl
    · rw [hsome]
      rfl
  case still => rw [exec_levelTransitionDone s rfl, levelTransitionDone_of_still hstill]
  case off => rw [exec_powerSample mw tj s (decide_eq_true hmw), powerSample, hoff, bne_self_eq_false, whenDue_false]
  case sample =>
    refine ⟨_, exec_powerSample mw tj s (decide_eq_true hmw), rfl, ?_⟩
    dsimp only
    have hpwr : (powerSample mw tj s.hw).pwr = (s.hw.powerSampled mw tj).pwr := by
      rw [powerSample_of_on hon]
      rfl
    have henergy : (powerSample mw tj s.hw).get64 F.BDG_E_TOTAL_LO F.BDG_E_TOTAL_HI =
        (s.hw.get64 F.BDG_E_TOTAL_LO F.BDG_E_TOTAL_HI + (s.hw.pwr.microJ + mw) / 1000) % 2 ^ 64 := by
      rw [Block.get64, get_powerSample hon (by decide), get_powerSample hon (by decide)]
      exact Block.energy_sampleShown
    refine ⟨?frame, ?posted, ?now, ?max, ?rest, ?energy, ?avg, ?degrees, ?peak, ?samples, fun f hf => ?other⟩
    case frame | posted =>
      rw [powerSample_of_on hon]
      rfl
    case now => rw [get_powerSample hon (by decide), Block.now_sampleShown hmw]
    case max => rw [get_powerSample hon (by decide), Block.max_sampleShown hmw hmax]
    case rest =>
      rw [hpwr]
      exact Nat.mod_lt _ (by decide)
    case energy =>
      intro hfits
      rw [henergy, hpwr]
      exact energy_of_sample hfits
    case avg => rw [powerSample_of_on hon, Block.windowMean_put_avg, Block.get_put_same]
    case degrees => rw [Block.tj, get_powerSample hon (by decide)]; exact Block.tj_sampleShown
    case peak | samples =>
      rw [hpwr]
      rfl
    case other =>
      rw [get_powerSample hon fun h => hf (by simp [h]), Block.get_sampleShown_other hf]

end Sys2Proof.Proofs

/-! SUPPORT. An evaluation of Squirrel: what a step shed or given back leaves, and which step it is (R513 to R516). -/

namespace Sys2Proof.Machine

open Sys2Proof

/-- A field of BDG that a step writes neither by itself nor by what it moves: whether Tj is over its limit, and how often it was. -/
abbrev Field.TjShown (f : Field) : Prop := f.key ∈ [F.BDG_STAT_OVER_TJ.key, F.BDG_TJ_CNT.key]

theorem Field.TjShown.below {f : Field} (h : f.TjShown) : f.BelowFabric := by
  obtain h | h := List.mem_pair.1 h <;> rw [Field.BelowFabric, h] <;> decide

theorem Field.TjShown.ne {f g : Field} (h : f.TjShown) (hg : g.key ∉ [F.BDG_STAT_OVER_TJ.key, F.BDG_TJ_CNT.key]) : f.key ≠ g.key :=
  fun heq => hg (heq ▸ h)

/-- From one block to another a field, DRAM, the steps shed and the marks of the last evaluation stand. -/
structure Block.Weighs (f : Field) (a b : Block) : Prop where
  reg : b.get f = a.get f
  dram : b.dram = a.dram
  steps : b.pwr.steps = a.pwr.steps
  peak : b.pwr.peak = a.pwr.peak
  evalTick : b.pwr.evalTick = a.pwr.evalTick

/-- The steps on record replaced. -/
def Block.withSteps (b : Block) (l : List ShedStep) : Block := { b with pwr := { b.pwr with steps := l } }

namespace Block.Weighs

variable {f : Field} {a b c : Block}

theorem refl (f : Field) (a : Block) : Weighs f a a := ⟨rfl, rfl, rfl, rfl, rfl⟩

theorem steady (h : Weighs f a b) (hs : b.Steady f c) : Weighs f a c :=
  ⟨hs.reg.trans h.reg, hs.dram.trans h.dram, by rw [hs.pwr, h.steps], by rw [hs.pwr, h.peak], by rw [hs.pwr, h.evalTick]⟩

theorem ite {p : Prop} {inst : Decidable p} (hb : Weighs f a b) (hc : Weighs f a c) : Weighs f a (if p then b else c) := by
  split; exacts [hb, hc]

theorem foldl {α : Type} {l : List α} {g : Block → α → Block} (h : Weighs f a b) (hg : ∀ c, Weighs f a c → ∀ x, Weighs f a (g c x)) :
    Weighs f a (l.foldl g b) := by
  induction l generalizing b with
  | nil => exact h
  | cons x l ih => exact ih (hg b h x)

theorem put {g : Field} {v : Nat} (h : Weighs f a b) (hg : f.key ≠ g.key) : Weighs f a (b.put g v) := h.steady ((Steady.refl f b).put hg)

theorem bump {g : Field} (h : Weighs f a b) (hg : f.key ≠ g.key) : Weighs f a (b.bump g) := h.put hg

/-- What a change of the votes' state leaves where it keeps the steps and the marks. -/
theorem withPwr {p : PwrSt} (h : Weighs f a b) (hsteps : p.steps = b.pwr.steps := by rfl) (hpeak : p.peak = b.pwr.peak := by rfl)
    (heval : p.evalTick = b.pwr.evalTick := by rfl) : Weighs f a { b with pwr := p } :=
  ⟨h.reg, h.dram, hsteps.trans h.steps, hpeak.trans h.peak, heval.trans h.evalTick⟩

/-- The same, with other steps on record. -/
theorem withSteps {p : PwrSt} (h : Weighs f a b) (hpeak : p.peak = b.pwr.peak := by rfl) (heval : p.evalTick = b.pwr.evalTick := by rfl) :
    Weighs f (a.withSteps p.steps) { b with pwr := p } :=
  ⟨h.reg, h.dram, rfl, hpeak.trans h.peak, heval.trans h.evalTick⟩

theorem setLevel {s : Nat} {on : Bool} {payload : Nat} (h : Weighs f a b) : Weighs f a (b.setLevel s on payload) :=
  h.steady (Steady.refl f b).setLevel

/-! ### The level (R500, R510, R511) -/

theorem requestLevel {l : Nat} (h : Weighs f a b) (hcoalesced : f.key ≠ F.PWR_COALESCED.key) (htarget : f.key ≠ F.PWR_STAT_LEVEL_TGT.key)
    (hbusy : f.key ≠ F.PWR_STAT_LEVEL_BUSY.key) : Weighs f a (b.requestLevel l) := by
  unfold Block.requestLevel
  dsimp only
  exact ite (ite h (ite (h.bump hcoalesced) h).withPwr) (ite h ((h.put htarget).put hbusy).withPwr)

theorem chooseLevel (h : Weighs f a b) (hchoice : f.key ≠ F.BDG_CHOICE_LEVEL.key) (hcoalesced : f.key ≠ F.PWR_COALESCED.key)
    (htarget : f.key ≠ F.PWR_STAT_LEVEL_TGT.key) (hbusy : f.key ≠ F.PWR_STAT_LEVEL_BUSY.key) : Weighs f a b.chooseLevel :=
  (h.put hchoice).requestLevel hcoalesced htarget hbusy

/-! ### A step (R514) -/

variable (hf : f.TjShown)

include hf

theorem setGrant (h : Weighs f a b) : Weighs f a b.setGrant := (h.put (hf.ne (by decide))).put (hf.ne (by decide))

theorem dropLane {l : Nat} (h : Weighs f a b) : Weighs f a (b.dropLane l) := by
  have hjoined : f.key ≠ (F.LNK_L_STAT_JOINED l).key := hf.below.ne_above (by omega)
  have hput := (Steady.refl f b).put (v := 0) hjoined
  exact ite (h.steady (hput.setStage_below hf.below).post.setPort) (h.steady (hput.setStage_below hf.below))

theorem stretch {l : List Nat} {v : Nat} (h : Weighs f a b) : Weighs f a (l.foldl (fun c p => c.put (F.LNK_STAT_STRETCH p) v) b) :=
  h.foldl fun _ hc _ => hc.put (hf.below.ne_above (by omega))

theorem shedRung {r : Nat} {l : List (Nat × Nat)} (hstep : b.shedRung r = some (c, l)) : Weighs f b c := by
  have h := refl f b
  unfold Block.shedRung at hstep
  dsimp only at hstep
  split at hstep
  · split at hstep <;> cases hstep
    exact h.put (hf.ne (by decide))
  · split at hstep <;> cases hstep
    exact h.put (hf.ne (by decide))
  · split at hstep
    · cases hstep
      exact (h.put (hf.ne (by decide))).stretch hf
    · split at hstep <;> cases hstep
      exact ite ((h.put (hf.ne (by decide))).dropLane hf) (h.put (hf.ne (by decide)))
  · split at hstep <;> cases hstep
    exact h.put (hf.ne (by decide))
  · split at hstep <;> cases hstep
    exact h.foldl fun _ hc _ => hc.withPwr
  · split at hstep <;> cases hstep
    exact h

end Block.Weighs

section

variable {b c : Block}

/-- A step of a rung is on record: the rung in force, the steps, the count, the grant. -/
def Block.stepShed (b : Block) (r : Nat) (l : List (Nat × Nat)) : Block :=
  let steps := ShedStep.mk r l :: b.pwr.steps
  (((({ b with pwr := { b.pwr with steps := steps, since := (0, 0), evals := 0, calm := 0 } } : Block).put F.BDG_STAT_RUNG r).put
    F.BDG_STAT_STEPS (min 255 steps.length)).bump F.BDG_SHED_CNT).setGrant

/-- A step given back is off the record: the rung in force, the steps, the count, the grant. -/
def Block.stepBack (b : Block) (rest : List ShedStep) : Block :=
  ((((({ b with pwr := { b.pwr with steps := rest, raise := 0, calm := 0 } } : Block).put F.BDG_STAT_RUNG ((rest.head?.map (·.rung)).getD 0)).put
    F.BDG_STAT_STEPS (min 255 rest.length)).put F.BDG_STAT_EXHAUSTED 0).bump F.BDG_RESTORE_CNT).setGrant

/-- The rungs that may shed, in their order. -/
abbrev Block.rungs (b : Block) : List Nat := ([1, 2, 3, 4, 5, 6] : List Nat).filter fun r => bitAt (b.get F.BDG_LIMITS_RUNG_EN) (r - 1)

theorem Block.shed_eq (b : Block) : b.shed = match b.rungs.findSome? fun r => (b.shedRung r).map fun x => (r, x.1, x.2) with
    | some (r, c, l) => c.stepShed r l
    | none => b.put F.BDG_STAT_EXHAUSTED 1 := rfl

/-- Either one step of a rung is shed, or EXHAUSTED is set (R516). -/
theorem Block.shed_cases (b : Block) :
    (∃ r c l, b.shedRung r = some (c, l) ∧ b.shed = c.stepShed r l) ∨ b.shed = b.put F.BDG_STAT_EXHAUSTED 1 := by
  rw [Block.shed_eq]
  split
  next r c l hstep =>
    obtain ⟨k, -, hk⟩ := List.exists_of_findSome?_eq_some hstep
    obtain ⟨x, hx, hxe⟩ := Option.map_eq_some_iff.1 hk
    cases hxe
    exact .inl ⟨r, x.1, x.2, hx, rfl⟩
  next => exact .inr rfl

/-- The first enabled rung that is not exhausted sheds (R514). -/
theorem Block.shed_of_first {r : Nat} {l : List (Nat × Nat)} (hlow : 1 ≤ r) (hhigh : r ≤ 6) (hen : bitAt (b.get F.BDG_LIMITS_RUNG_EN) (r - 1) = true)
    (hstep : b.shedRung r = some (c, l))
    (hbefore : ∀ k, 1 ≤ k → k < r → bitAt (b.get F.BDG_LIMITS_RUNG_EN) (k - 1) = true → b.shedRung k = none) : b.shed = c.stepShed r l := by
  have hsplit : ∀ r ≤ 6, 1 ≤ r → ([1, 2, 3, 4, 5, 6] : List Nat) = List.range' 1 (r - 1) ++ r :: List.range' (r + 1) (6 - r) := by decide
  have hnone : (((List.range' 1 (r - 1)).filter fun k => bitAt (b.get F.BDG_LIMITS_RUNG_EN) (k - 1)).findSome? fun k =>
      (b.shedRung k).map fun x => (k, x.1, x.2)) = none := by
    rw [List.findSome?_eq_none_iff]
    intro k hk
    obtain ⟨hrange, henabled⟩ := List.mem_filter.1 hk
    obtain ⟨hk1, hkr⟩ := List.mem_range'_1.1 hrange
    rw [hbefore k hk1 (by omega) henabled, Option.map_none]
  rw [Block.shed_eq, Block.rungs, hsplit r hhigh hlow, List.filter_append, List.findSome?_append, hnone, List.filter_cons, if_pos hen,
    List.findSome?_cons, hstep]
  rfl

theorem Block.get_rung_stepShed {r : Nat} (l : List (Nat × Nat)) (hr : r ≤ 6) : (c.stepShed r l).get F.BDG_STAT_RUNG = r := by
  rw [Block.stepShed, Block.setGrant, Block.get_put64_other (by decide) (by decide), Block.get_bump_other (by decide),
    Block.get_put_other _ _ _ _ (by decide)]
  exact Block.get_put_of_lt (show r < 16 by omega)

section

variable {f : Field} (hf : f.TjShown)

include hf

theorem Block.Weighs.stepBack {a : Block} {rest : List ShedStep} (h : a.Weighs f c) : (a.withSteps rest).Weighs f (c.stepBack rest) :=
  (((((h.withSteps (p := { c.pwr with steps := rest, raise := 0, calm := 0 })).put (hf.ne (by decide))).put (hf.ne (by decide))).put
    (hf.ne (by decide))).bump (hf.ne (by decide))).setGrant hf

/-- A step more is on record, or EXHAUSTED is set. -/
theorem Block.shed_weighs (b : Block) :
    (∃ x, (b.withSteps (x :: b.pwr.steps)).Weighs f b.shed) ∨ b.shed = b.put F.BDG_STAT_EXHAUSTED 1 := by
  refine b.shed_cases.imp_left fun ⟨r, c, l, hstep, hshed⟩ => ⟨⟨r, l⟩, ?_⟩
  have hmoved := Block.Weighs.shedRung hf hstep
  rw [hshed, ← hmoved.steps]
  exact ((((hmoved.withSteps (p := { c.pwr with steps := ⟨r, l⟩ :: c.pwr.steps, since := (0, 0), evals := 0, calm := 0 })).put
    (hf.ne (by decide))).put (hf.ne (by decide))).bump (hf.ne (by decide))).setGrant hf

/-- The steps stand, or the last one is off the record. -/
theorem Block.restore_weighs (b : Block) :
    b.Weighs f b.restore ∨ ∃ x rest, b.pwr.steps = x :: rest ∧ (b.withSteps rest).Weighs f b.restore := by
  have h := Block.Weighs.refl f b
  unfold Block.restore
  dsimp only
  split
  next => exact .inl h
  next x rest hsteps =>
    split
    · exact .inl (.ite h.withPwr h)
    · refine .inr ⟨x, rest, hsteps, Block.Weighs.stepBack hf ?_⟩
      split
      · exact h.put (hf.ne (by decide))
      · exact h.put (hf.ne (by decide))
      · split
        next p _ =>
          have hwide := h.put (v := setBit (b.get F.BDG_X1_NOW) p false) (hf.ne (g := F.BDG_X1_NOW) (by decide))
          exact .ite (hwide.steady ((((Block.Steady.refl f _).unjoin_below hf.below).setStage_below hf.below).post.setPort)) hwide
        next => exact (h.put (hf.ne (by decide))).stretch hf
      · exact h.put (hf.ne (by decide))
      · exact h.foldl fun _ hc _ => hc.withPwr
      · exact h

end

/-! ### An evaluation (R513) -/

/-- Tj stands above its limit. -/
abbrev Block.hot (b : Block) : Bool := decide (((min 105 (b.get F.BDG_LIMITS_TJ_CAP_C) : Nat) : Int) < b.tj)

/-- The mean or the peak of the power stands above its limit. -/
abbrev Block.overAvg (b : Block) : Bool := b.get F.BDG_AVG_MW != 0 && decide (b.get F.BDG_AVG_MW * b.window.2 < b.window.1)

abbrev Block.overPeak (b : Block) : Bool := b.get F.BDG_PEAK_MW != 0 && decide (b.get F.BDG_PEAK_MW < b.pwr.peak)

theorem Block.overAvg_of_within (h : b.window.1 ≤ b.get F.BDG_AVG_MW * b.window.2 ∨ b.get F.BDG_AVG_MW = 0) : b.overAvg = false := by
  obtain h | h := h
  · rw [Block.overAvg, decide_eq_false (not_lt.2 h), Bool.and_false]
  · rw [Block.overAvg, h, bne_self_eq_false, Bool.false_and]

theorem Block.overPeak_of_within (h : b.pwr.peak ≤ b.get F.BDG_PEAK_MW ∨ b.get F.BDG_PEAK_MW = 0) : b.overPeak = false := by
  obtain h | h := h
  · rw [Block.overPeak, decide_eq_false (not_lt.2 h), Bool.and_false]
  · rw [Block.overPeak, h, bne_self_eq_false, Bool.false_and]

/-- The flags of an evaluation are shown and its crossings counted. -/
def Block.flagged (b : Block) : Block :=
  let b1 := ((b.putB F.BDG_STAT_OVER_AVG b.overAvg).putB F.BDG_STAT_OVER_PEAK b.overPeak).putB F.BDG_STAT_OVER_TJ b.hot
  let b2 := if b.overPeak then b1.bump F.BDG_PEAK_CNT else b1
  if b.hot then b2.bump F.BDG_TJ_CNT else b2

/-- An evaluation sheds, gives back, or leaves the steps, by what the flagged block and its marks tell, and then chooses the level. -/
theorem Block.squirrel_eq (b : Block) : ∃ (c : Block) (slow rested calm : Bool) (payload : Nat),
    (let d := if (b.overAvg && slow && rested) || b.overPeak || b.hot then c.shed else if calm then c.restore else c
    b.squirrel = (d.setLevel 192 (d.flag F.BDG_STAT_EXHAUSTED) payload).chooseLevel) ∧
    c.regs = b.flagged.regs ∧ c.dram = b.flagged.dram ∧ c.pwr.steps = b.flagged.pwr.steps ∧ c.pwr.peak = 0 ∧ c.pwr.evalTick = b.tick :=
  ⟨_, _, _, _, _, rfl, rfl, rfl, rfl, rfl, rfl⟩

theorem Block.get_bump_if {c : Prop} [Decidable c] {b : Block} {f g : Field} (h : f.key ≠ g.key) : (if c then b.bump g else b).get f = b.get f :=
  view_ite (g := fun x => x.get f) (Block.get_bump_other h) rfl

theorem Block.get_flagged_overTj (b : Block) : b.flagged.get F.BDG_STAT_OVER_TJ = b2n b.hot := by
  have hbit : b2n b.hot < 2 ^ 1 := by cases b.hot <;> decide
  unfold Block.flagged
  dsimp only
  rw [Block.get_bump_if (by decide), Block.get_bump_if (by decide)]
  exact Block.get_put_of_lt hbit

theorem Block.get_flagged_count {b : Block} (h : b.hot = true) : b.flagged.get F.BDG_TJ_CNT = satU 32 (b.get F.BDG_TJ_CNT + 1) := by
  unfold Block.flagged
  dsimp only
  rw [if_pos h, Block.get_bump_same, Block.get_bump_if (by decide)]
  simp (disch := decide) only [Block.putB, Block.get_put_other]

theorem Block.flagged_frame (b : Block) : b.flagged.dram = b.dram ∧ b.flagged.pwr = b.pwr := by
  unfold Block.flagged
  dsimp only
  constructor <;> split_ifs <;> rfl

/-- What shedding, giving back or leaving the steps leaves (R513, R516). -/
structure Block.Moved (c d : Block) (shedding : Bool) : Prop where
  overTj : d.get F.BDG_STAT_OVER_TJ = c.get F.BDG_STAT_OVER_TJ
  count : d.get F.BDG_TJ_CNT = c.get F.BDG_TJ_CNT
  dram : d.dram = c.dram
  peak : d.pwr.peak = c.pwr.peak
  evalTick : d.pwr.evalTick = c.pwr.evalTick
  oneMore : d.pwr.steps.length ≤ c.pwr.steps.length + 1
  oneLess : c.pwr.steps.length ≤ d.pwr.steps.length + 1
  shed : shedding = true → d.pwr.steps.length = c.pwr.steps.length + 1 ∨ d.get F.BDG_STAT_EXHAUSTED = 1
  kept : shedding = false → d.pwr.steps.length ≤ c.pwr.steps.length

theorem tjShown_over : F.BDG_STAT_OVER_TJ.TjShown := List.mem_cons_self

theorem tjShown_count : F.BDG_TJ_CNT.TjShown := List.mem_cons_of_mem _ List.mem_cons_self

theorem Block.moved_shed (c : Block) : c.Moved c.shed true := by
  by_cases hnone : c.shed = c.put F.BDG_STAT_EXHAUSTED 1
  · rw [hnone]
    exact ⟨Block.get_put_other _ _ _ _ (by decide), Block.get_put_other _ _ _ _ (by decide), rfl, rfl, rfl, Nat.le_succ _, Nat.le_succ _,
      fun _ => .inr (Block.get_put_of_lt (by decide)), nofun⟩
  · obtain ⟨x, hover⟩ := (c.shed_weighs tjShown_over).resolve_right hnone
    obtain ⟨y, hcount⟩ := (c.shed_weighs tjShown_count).resolve_right hnone
    have hsteps : c.shed.pwr.steps.length = c.pwr.steps.length + 1 := congrArg List.length hover.steps
    exact ⟨hover.reg, hcount.reg, hover.dram, hover.peak, hover.evalTick, hsteps.le, by omega, fun _ => .inl hsteps, nofun⟩

theorem Block.moved_restore (c : Block) : c.Moved c.restore false := by
  have hcount : c.restore.get F.BDG_TJ_CNT = c.get F.BDG_TJ_CNT := by
    obtain h | ⟨_, _, -, h⟩ := c.restore_weighs tjShown_count
    exacts [h.reg, h.reg]
  obtain h | ⟨x, rest, hrest, h⟩ := c.restore_weighs tjShown_over
  · have hsteps : c.restore.pwr.steps.length = c.pwr.steps.length := congrArg List.length h.steps
    exact ⟨h.reg, hcount, h.dram, h.peak, h.evalTick, by omega, by omega, nofun, fun _ => hsteps.le⟩
  · have hsteps : c.restore.pwr.steps.length + 1 = c.pwr.steps.length := by
      rw [h.steps, hrest]
      rfl
    exact ⟨h.reg, hcount, h.dram, h.peak, h.evalTick, by omega, by omega, nofun, fun _ => by omega⟩

theorem Block.moved_refl (c : Block) : c.Moved c false :=
  ⟨rfl, rfl, rfl, rfl, rfl, Nat.le_succ _, Nat.le_succ _, nofun, fun _ => Nat.le_refl _⟩

theorem Block.moved_step (c : Block) (shedding calm : Bool) : c.Moved (if shedding then c.shed else if calm then c.restore else c) shedding := by
  cases shedding
  · cases calm
    · exact c.moved_refl
    · exact c.moved_restore
  · exact c.moved_shed

/-- The level that is chosen last leaves what the step left. -/
theorem Block.Moved.chooseLevel {c d : Block} {shedding on : Bool} {s payload : Nat} (h : c.Moved d shedding) :
    c.Moved (d.setLevel s on payload).chooseLevel shedding := by
  have hkept (f : Field) (hchoice : f.key ≠ F.BDG_CHOICE_LEVEL.key) (hcoalesced : f.key ≠ F.PWR_COALESCED.key)
      (htarget : f.key ≠ F.PWR_STAT_LEVEL_TGT.key) (hbusy : f.key ≠ F.PWR_STAT_LEVEL_BUSY.key) :
      d.Weighs f (d.setLevel s on payload).chooseLevel :=
    (Block.Weighs.refl f d).setLevel.chooseLevel hchoice hcoalesced htarget hbusy
  have hover := hkept F.BDG_STAT_OVER_TJ (by decide) (by decide) (by decide) (by decide)
  have hcount := hkept F.BDG_TJ_CNT (by decide) (by decide) (by decide) (by decide)
  have hout := hkept F.BDG_STAT_EXHAUSTED (by decide) (by decide) (by decide) (by decide)
  exact ⟨hover.reg.trans h.overTj, hcount.reg.trans h.count, hover.dram.trans h.dram, hover.peak.trans h.peak, hover.evalTick.trans h.evalTick,
    by rw [hover.steps]; exact h.oneMore, by rw [hover.steps]; exact h.oneLess, by rw [hover.steps, hout.reg]; exact h.shed,
    by rw [hover.steps]; exact h.kept⟩

end

end Sys2Proof.Machine

namespace Sys2Proof.Proofs

open Sys2Proof Sys2Proof.Machine

/-- Settles O29: an evaluation flags, moves one step by one of three ways, and chooses the level; the first enabled rung that is not exhausted is the
one that `shed` finds. -/
theorem squirrelShedsOneStep : Obligations.SquirrelShedsOneStep := by
  refine ⟨fun s hrails hfree => ⟨fun hdue => ?_, fun hearly => ?_⟩, fun b => ?eval, fun b r c l hlow hhigh hen hstep hbefore => ?first⟩
  · rw [exec_squirrelEvalTimer s rfl, squirrelEvalTimer, whenDue_of_due (by rw [hrails, hfree, decide_eq_true hdue]; rfl)]
  · rw [exec_squirrelEvalTimer s rfl, squirrelEvalTimer, whenDue_of_notDue (by rw [decide_eq_false (not_le.2 hearly), Bool.and_false])]
  case eval =>
    intro c hot n
    obtain ⟨e, slow, rested, calm, payload, heq, hregs, hdram, hsteps, hpeak, htick⟩ := b.squirrel_eq
    obtain ⟨hflaggedDram, hflaggedPwr⟩ := b.flagged_frame
    have hmoved : e.Moved c ((b.overAvg && slow && rested) || b.overPeak || b.hot) := by
      change e.Moved b.squirrel _
      rw [heq]
      exact (e.moved_step _ calm).chooseLevel
    have hn : e.pwr.steps.length = n := by rw [hsteps, hflaggedPwr]
    refine ⟨by rw [hmoved.dram, hdram, hflaggedDram], ?_, hmoved.evalTick.trans htick, hmoved.peak.trans hpeak, hn ▸ hmoved.oneLess, hn ▸ hmoved.oneMore,
      fun hhot => ⟨?_, ?_⟩, fun hcold havg hpk => ?_⟩
    · rw [hmoved.overTj, Block.get_of_regs hregs, b.get_flagged_overTj]
    · exact hn ▸ hmoved.shed (by rw [show b.hot = true from hhot, Bool.or_true])
    · rw [hmoved.count, Block.get_of_regs hregs, Block.get_flagged_count hhot]
    · refine hn ▸ hmoved.kept ?_
      rw [Block.overAvg_of_within havg, Block.overPeak_of_within hpk, show b.hot = false from hcold]
      rfl
  case first =>
    rw [Block.shed_of_first hlow hhigh hen hstep hbefore]
    exact ⟨rfl, Block.get_rung_stepShed l hhigh⟩

end Sys2Proof.Proofs

/-! SUPPORT. A request whose TAG is stored, and a request in a switch-over gap (R56, R579, R583). -/

namespace Sys2Proof.Machine

open Sys2Proof

/-- A request that is no bulk read: it is answered once for its TAG (R579). -/
def Request.tagged : Request → Bool
  | .bulk _ _ => false
  | _ => true

section

variable {b : Block} {a : Access} {r : Request} {x : Answer}

theorem Block.take_of_stored (hstored : b.stored a = some x) (hr : r.tagged = true) : b.take a r = b.answer a.who 0 (.answer a.tag x) := by
  cases r with
  | bulk addr n => cases hr
  | bad | read | write => simp only [Block.take, hstored]

/-- A request that is neither behind another nor in a gap is taken at once. -/
theorem Block.mustWait_of_free (hgap : b.pair.gap = none) (hbehind : b.behind a.who = false) (hr : r.tagged = true) : b.mustWait a r = false := by
  cases r with
  | bulk addr n => cases hr
  | bad | read | write => simp only [Block.mustWait, hgap, hbehind, Option.isSome_none, Bool.or_self]

/-- A repeated TAG of a node: the stored answer leaves again. -/
theorem submit_of_stored {n : Nat} (hwho : a.who = .node n) (hserving : b.serving = true) (hgap : b.pair.gap = none)
    (hbehind : b.behind a.who = false) (hstored : b.stored a = some x) (hqueue : b.pair.queue = []) (hr : r.tagged = true) :
    submit a r b = b.post (.node n) 0 (.answer a.tag x) := by
  have htaken : b.take a r = b.post (.node n) 0 (.answer a.tag x) := by rw [Block.take_of_stored hstored hr, hwho, Block.answer]
  have harrived : b.arrive a r = b.post (.node n) 0 (.answer a.tag x) := by
    rw [Block.arrive, hserving, Block.mustWait_of_free hgap hbehind hr, htaken]
    exact Block.actCritical_of_same rfl
  have hempty : (b.post (.node n) 0 (.answer a.tag x)).pair.queue.isEmpty = true := List.isEmpty_iff.2 hqueue
  rw [submit, harrived, Block.flushMirror, hempty, Bool.or_true, Bool.true_or, if_pos rfl]

/-- In a gap a request waits. -/
theorem submit_of_gap (hserving : b.serving = true) {t : Nat} (hgap : b.pair.gap = some t) : submit a r b = b.wait a r := by
  have hwait : b.mustWait a r = true := by
    unfold Block.mustWait
    rw [hgap, Option.isSome_some, Bool.true_or, Bool.true_or]
  have hstill : (b.wait a r).pair.gap.isSome = true := by
    change b.pair.gap.isSome = true
    rw [hgap, Option.isSome_some]
  rw [submit, Block.arrive, hserving, Bool.not_true, if_neg Bool.false_ne_true, if_pos hwait, Block.flushMirror, hstill, Bool.or_true, if_pos rfl]

theorem writeRequest_tagged (addr count : Nat) (data : List Nat) (zeroOk : Bool) : (writeRequest addr count data zeroOk).tagged = true := by
  unfold writeRequest
  split <;> rfl

end

end Sys2Proof.Machine

namespace Sys2Proof.Proofs

open Sys2Proof Sys2Proof.Machine

/-- Settles O17: a WRITE is a tagged request; with its TAG stored it is answered again, and in a gap it waits. -/
theorem repeatedTagsAreAnsweredAgain : Obligations.RepeatedTagsAreAnsweredAgain := by
  intro n tag addr count data zeroOk s a ha haddr hcount hserving
  have hwf : Instr.wf (.registerWrite a addr count data zeroOk) = true := by simpa [Instr.wf, ha, hcount] using haddr
  rw [exec_registerWrite a addr count data zeroOk s hwf, registerWrite]
  refine ⟨fun x hgap hbehind hstored hqueue => ?_, fun t0 hgap => ?_⟩
  · rw [submit_of_stored rfl hserving hgap hbehind hstored hqueue (writeRequest_tagged ..)]
  · intro later
    rw [submit_of_gap hserving hgap]
    rfl

end Sys2Proof.Proofs

/-! SUPPORT. The event-record controller: which source it claims, what a claim writes, acknowledgements and pops (R527 to R537). -/

namespace Sys2Proof.Machine

open Sys2Proof

section

variable {b : Block} {n k w : Nat} {a : Access}

/-! ### The source that is claimed (R528) -/

/-- Of the source preferred so far and one more, the one preferred: a later one by a higher PRIORITY. -/
def Block.preferred (b : Block) (a : Option Nat) (s : Nat) : Option Nat :=
  match a with
  | none => some s
  | some r => if b.get (F.IRQ_SRC_PRIORITY r) < b.get (F.IRQ_SRC_PRIORITY s) then some s else some r

/-- Of a list the source preferred is one of it, or the one to begin with, and no other has a higher PRIORITY. -/
theorem Block.foldl_preferred (l : List Nat) (x : Option Nat) (h : l.foldl b.preferred x = some n) :
    (x = some n ∨ n ∈ l) ∧ ∀ e, x = some e ∨ e ∈ l → b.get (F.IRQ_SRC_PRIORITY e) ≤ b.get (F.IRQ_SRC_PRIORITY n) := by
  induction l generalizing x with
  | nil => exact ⟨.inl h, fun e he => he.elim (fun he => by cases he.symm.trans h; exact Nat.le_refl _) nofun⟩
  | cons s l ih =>
    obtain ⟨hn, hle⟩ := ih _ h
    cases x with
    | none =>
      refine ⟨.inr ?_, fun e he => hle e ?_⟩
      · exact hn.elim (fun hs => by cases hs; exact List.mem_cons_self) (List.mem_cons_of_mem s)
      · exact he.elim nofun fun he => (List.mem_cons.1 he).imp (fun hs => by rw [hs]; rfl) id
    | some r =>
      by_cases hlt : b.get (F.IRQ_SRC_PRIORITY r) < b.get (F.IRQ_SRC_PRIORITY s)
      · have hstep : b.preferred (some r) s = some s := if_pos hlt
        rw [hstep] at hn hle
        refine ⟨.inr (hn.elim (fun hs => by cases hs; exact List.mem_cons_self) (List.mem_cons_of_mem s)), fun e he => ?_⟩
        obtain he | he := he
        · cases he
          exact hlt.le.trans (hle s (.inl rfl))
        · exact hle e ((List.mem_cons.1 he).imp (fun hs => by rw [hs]) id)
      · have hstep : b.preferred (some r) s = some r := if_neg hlt
        rw [hstep] at hn hle
        refine ⟨hn.imp_right (List.mem_cons_of_mem s), fun e he => ?_⟩
        obtain he | he := he
        · exact hle e (.inl he)
        · obtain rfl | he := List.mem_cons.1 he
          · exact (not_lt.1 hlt).trans (hle r (.inl rfl))
          · exact hle e (.inr he)

theorem Block.claimed_eq (b : Block) : b.claimed =
    if b.srcEligible 224 then some 224
    else if b.srcEligible 208 then some 208
    else ((b.irq.src.map (·.1)).filter b.srcEligible).foldl b.preferred none := rfl

/-- The claimed source is eligible; IRQ_RESTART and PAIR_TAKEOVER come first, and no other eligible source has a higher PRIORITY. -/
theorem Block.claimed_spec (h : b.claimed = some n) : b.srcEligible n = true ∧ (b.srcEligible 224 = true → n = 224) ∧
    (b.srcEligible 208 = true → n = 208 ∨ n = 224) ∧
    (n ≠ 208 → n ≠ 224 → ∀ e ∈ b.irq.src, b.srcEligible e.1 = true → b.get (F.IRQ_SRC_PRIORITY e.1) ≤ b.get (F.IRQ_SRC_PRIORITY n)) := by
  rw [Block.claimed_eq] at h
  split at h
  next h224 =>
    cases h
    exact ⟨h224, fun _ => rfl, fun _ => .inr rfl, fun _ hne => absurd rfl hne⟩
  next h224 =>
    split at h
    next h208 =>
      cases h
      exact ⟨h208, fun hx => absurd hx h224, fun _ => .inl rfl, fun hne => absurd rfl hne⟩
    next h208 =>
      obtain ⟨hn, hle⟩ := b.foldl_preferred _ _ h
      refine ⟨(List.mem_filter.1 (hn.resolve_left nofun)).2, fun hx => absurd hx h224, fun hx => absurd hx h208, fun _ _ e he hel => hle _ (.inr ?_)⟩
      exact List.mem_filter.2 ⟨List.mem_map_of_mem he, hel⟩

/-- A source with open targets has a next one, among them (R529). -/
theorem nextTarget_mem {l : List Nat} (hl : l ≠ []) (last : Option Nat) : ∃ t ∈ l, nextTarget l last = some t := by
  obtain ⟨x, r, rfl⟩ := List.exists_cons_of_ne_nil hl
  cases last with
  | none => exact ⟨x, List.mem_cons_self, rfl⟩
  | some t =>
    cases hlater : (x :: r).filter fun y => decide (t < y) with
    | nil => exact ⟨x, List.mem_cons_self, by rw [nextTarget, hlater]; rfl⟩
    | cons y s => exact ⟨y, (List.mem_filter.1 (hlater ▸ List.mem_cons_self)).1, by rw [nextTarget, hlater]; rfl⟩

/-! ### What a claim writes (R528 to R534) -/

theorem Block.markFull_frame (b : Block) : b.markFull.dram = b.dram ∧ b.markFull.irq.queues = b.irq.queues ∧ b.markFull.irq.seqs = b.irq.seqs := by
  have hkept {α : Type} {g : Block → α} (hg : ∀ c s x, g (Block.setSource c s x) = g c) (hb : ∀ c, g (Block.bump c F.IRQ_FULL_CNT) = g c) :
      g b.markFull = g b := by
    refine view_foldl (g := g) (fun c s _ => ?_) b
    dsimp only
    split_ifs
    · rfl
    · rw [hb, hg]
    · rw [hg]
    · rfl
  exact ⟨hkept (g := Block.dram) (fun _ _ _ => rfl) fun _ => rfl, hkept (g := fun c => c.irq.queues) (fun _ _ _ => rfl) fun _ => rfl,
    hkept (g := fun c => c.irq.seqs) (fun _ _ _ => rfl) fun _ => rfl⟩

/-- The source as a claim for a target leaves it. -/
def SrcSt.served (x : SrcSt) (level : Bool) (t seq : Nat) : SrcSt :=
  { x with active := x.active && level, inService := some (t, seq), count := 0, full := false, held := false, last := some t }

theorem Block.claim_frame (b : Block) (n t : Nat) :
    let seq := lookupD b.irq.seqs t 0
    (b.claim n t).dram = b.dram ∧
    (b.claim n t).irq.queues = insertKey b.irq.queues t (b.queueOf t ++ [⟨n, seq, eventWords n t seq (b.source n)⟩]) ∧
    (b.claim n t).irq.seqs = insertKey b.irq.seqs t ((seq + 1) % 2 ^ 16) ∧
    (b.claim n t).irq.src = insertKey b.irq.src n ((b.source n).served (irqIsLevel n) t seq) := by
  unfold Block.claim
  dsimp only
  refine ⟨?_, ?_, ?_, ?_⟩ <;> split_ifs <;> rfl

theorem irqClaim_of_works (h : b.irqWorks = true) : irqClaim b =
    match b.markFull.claimed with
    | some s =>
      match nextTarget (b.markFull.openTargets s) (b.markFull.source s).last with
      | some t => b.markFull.claim s t
      | none => b.markFull
    | none => b.markFull := whenDue_of_due h _ _

theorem irqClaim_of_none (h : b.irqWorks = true) (hnone : b.markFull.claimed = none) : irqClaim b = b.markFull := by
  rw [irqClaim_of_works h, hnone]

/-- The claimed source's record goes to one of its open targets. -/
theorem irqClaim_of_claimed (h : b.irqWorks = true) (hn : b.markFull.claimed = some n) :
    ∃ t ∈ b.markFull.openTargets n, irqClaim b = b.markFull.claim n t := by
  obtain ⟨hel, -⟩ := Block.claimed_spec hn
  have hopen : b.markFull.openTargets n ≠ [] := by
    rintro hempty
    rw [Block.srcEligible, hempty] at hel
    simp at hel
  obtain ⟨t, ht, hnext⟩ := nextTarget_mem hopen (b.markFull.source n).last
  exact ⟨t, ht, by rw [irqClaim_of_works h, hn]; dsimp only; rw [hnext]⟩

/-- Where the claimed record goes and what the source and the queues are then (R528 to R534). -/
theorem irqClaim_spec (h : b.irqWorks = true) (hn : b.markFull.claimed = some n) :
    ∃ k ∈ b.markFull.openTargets n, (irqClaim b).dram = b.dram ∧
      (let seq := lookupD b.irq.seqs k 0
       (irqClaim b).queueOf k = b.queueOf k ++ [⟨n, seq, eventWords n k seq (b.markFull.source n)⟩] ∧
       lookupD (irqClaim b).irq.seqs k 0 = (seq + 1) % 65536 ∧ (∀ j, j ≠ k → (irqClaim b).queueOf j = b.queueOf j) ∧
       (irqClaim b).source n = (b.markFull.source n).served (irqIsLevel n) k seq) := by
  obtain ⟨k, hk, hclaim⟩ := irqClaim_of_claimed h hn
  obtain ⟨hdram, hqueues, hseqs⟩ := b.markFull_frame
  have hqueue (j : Nat) : b.markFull.queueOf j = b.queueOf j := by rw [Block.queueOf, hqueues, Block.queueOf]
  obtain ⟨hdram', hqueues', hseqs', hsrc'⟩ := b.markFull.claim_frame n k
  rw [hseqs, hqueue, hqueues] at hqueues'
  rw [hseqs] at hseqs' hsrc'
  refine ⟨k, hk, ?_⟩
  rw [hclaim]
  refine ⟨hdram'.trans hdram, ?_, ?_, fun j hj => ?_, ?_⟩
  · rw [Block.queueOf, hqueues', lookupD_insertKey_same]
  · exact (congrArg (lookupD · k 0) hseqs').trans (lookupD_insertKey_same ..)
  · rw [Block.queueOf, hqueues', lookupD_insertKey_other _ _ _ _ _ hj, Block.queueOf]
  · rw [Block.source, hsrc', lookupD_insertKey_same]

/-! ### Acknowledgement and POP (R532, R537) -/

theorem Block.ackSource_of_idle (h : (b.source n).inService = none) : b.ackSource n = b.bump F.IRQ_BADACK_CNT := by
  rw [Block.ackSource, h]
  rfl

theorem Block.ackSource_of_served (h : (b.source n).inService ≠ none) :
    b.ackSource n =
      if irqIsLevel n && !(b.source n).active then (b.setSource n { b.source n with inService := none }).bump F.IRQ_STALE_ACK
      else b.setSource n { b.source n with inService := none } := by
  have hsome : (b.source n).inService.isNone = false := Option.isNone_eq_false_iff.2 (Option.isSome_iff_ne_none.2 h)
  rw [Block.ackSource, hsome]
  rfl

/-- A queue with its oldest record taken: for the host, no notify frame is outstanding then. -/
def Block.popped (b : Block) (k : Nat) (rest : List EventRecord) : Block :=
  { b with irq := { b.irq with queues := insertKey b.irq.queues k rest, notified := if k = 3 then none else b.irq.notified } }

theorem irqPopOp_denied {who : Requester} (h : b.mayPop who k = false) : irqPopOp who k w b = (b, .accessDenied) := by
  rw [irqPopOp, h]
  rfl

theorem irqPopOp_of_zero {who : Requester} (h : b.mayPop who k = true) (hw : w % 2 = 0) : irqPopOp who k w b = (b, .ok) := by
  rw [irqPopOp, h, if_neg (by decide), if_pos hw]

theorem irqPopOp_of_empty {who : Requester} (h : b.mayPop who k = true) (hw : w % 2 = 1) (hempty : b.queueOf k = []) :
    irqPopOp who k w b = (b.bump F.IRQ_BADACK_CNT, .ok) := by
  rw [irqPopOp, h, if_neg (by decide), if_neg (by omega), hempty]

theorem irqPopOp_of_record {who : Requester} {r : EventRecord} {rest : List EventRecord} (h : b.mayPop who k = true) (hw : w % 2 = 1)
    (hqueue : b.queueOf k = r :: rest) :
    irqPopOp who k w b =
      if b.flag (F.IRQ_SRC_AUTO_ACK r.source) && (b.source r.source).inService == some (k, r.seq) then ((b.popped k rest).ackSource r.source, .ok)
      else (b.popped k rest, .ok) := by
  rw [irqPopOp, h, if_neg (by decide), if_neg (by omega), hqueue]
  rfl

/-! ### The registers and the requests that write them -/

theorem domainAt_irqPop (hk : k < 5) : domainAt (0x40108 + 0x40 * k) = none := by
  interval_cases k <;> rfl

theorem domainAt_irqSrc (hn : n < 512) : domainAt (0x41000 + 4 * n) = none := by
  have htile : tileOf (0x41000 + 4 * n) = none := by
    unfold tileOf
    rw [if_neg (by simp; omega)]
  rw [domainAt, htile, decide_eq_false (by omega)]
  rfl

theorem submit_irqAck (hacts : b.acts a 0x40004 w = true) :
    submit a (.write 0x40004 [w]) b = b.answered a 0x40004 w (b.ackSource (w % 512), .ok) := by
  rw [submit_of_plainOp (regOp_irqAck _) hacts, b.touched_of_none _ rfl, irqAckOp]

theorem submit_irqRaise (hacts : b.acts a 0x40008 w = true) :
    submit a (.write 0x40008 [w]) b = b.answered a 0x40008 w (irqRaiseOp a.who w b) := by
  rw [submit_of_plainOp (regOp_irqRaise _) hacts, b.touched_of_none _ rfl]

theorem submit_irqPop (hk : k < 5) (hacts : b.acts a (0x40108 + 0x40 * k) w = true) :
    submit a (.write (0x40108 + 0x40 * k) [w]) b = b.answered a (0x40108 + 0x40 * k) w (irqPopOp a.who k w b) := by
  rw [submit_of_plainOp (regOp_irqPop _ hk) hacts, b.touched_of_none _ (domainAt_irqPop hk)]

theorem submit_irqSrc (hn : n < 512) (hacts : b.acts a (0x41000 + 4 * n) w = true) :
    submit a (.write (0x41000 + 4 * n) [w]) b = b.answered a (0x41000 + 4 * n) w (b.writeFields (0x41000 + 4 * n) w, .ok) := by
  rw [submit_of_acts hacts, regOp_irqSrc _ hn, b.touched_of_none _ (domainAt_irqSrc hn), fieldsOp]

/-! ### The notify frame repeated (R535) -/

theorem notifyRepeat_eq {t : Nat} (hnotified : b.irq.notified = some t) : notifyRepeat b =
    whenDue (b.irqWorks && decide (t + b.get (F.IRQ_TGT_CFG_NOTIFY_MS 3) * msTicks ≤ b.tick) && b.get (F.IRQ_TGT_CFG_NOTIFY_MS 3) != 0 &&
      b.flag (F.IRQ_TGT_CFG_EN 3) && !(b.queueOf 3).isEmpty) Block.notify b := by
  rw [notifyRepeat, hnotified]

end

end Sys2Proof.Machine

namespace Sys2Proof.Proofs

open Sys2Proof Sys2Proof.Machine

/-- Settles O51: the claimed source's record goes to one of its open targets, a write acts by its register's operation, and the notify frame is due
NOTIFY_MS after the last. -/
theorem eventRecords : Obligations.EventRecords := by
  intro s b b1
  refine ⟨fun hoff => ?_, fun hworks hnone => ?_, fun n hworks hn => ?_, fun a w ha => ?_, fun t hnotified hworks hen hqueue hms => ?_⟩
  · rw [exec_irqClaim s rfl, irqClaim, whenDue_of_notDue hoff]
  · rw [exec_irqClaim s rfl, irqClaim_of_none hworks hnone]
  · obtain ⟨heligible, h224, h208, hprio⟩ := Block.claimed_spec hn
    obtain ⟨k, hk, hdram, hown, hseq, hothers, hsrc⟩ := irqClaim_spec hworks hn
    refine ⟨heligible, h224, h208, hprio, k, _, hk, exec_irqClaim s rfl, rfl, hdram, hown, hseq, hothers, ?_, ?_, ?_⟩
    · exact congrArg SrcSt.inService hsrc
    · exact congrArg SrcSt.count hsrc
    · exact congrArg SrcSt.active hsrc
  · intro v
    refine ⟨fun hacts => ?_, fun hacts => ?_, fun k hk hacts => ?_, fun n hn hacts => ?_⟩
    · intro x c
      rw [exec_irqAck a w s ha, irqAck, submit_irqAck hacts]
      refine ⟨fun hidle => ?_, fun hserved => ?_⟩
      · rw [Block.ackSource_of_idle hidle]
      · rw [Block.ackSource_of_served hserved]
    · rw [exec_irqRaise a w s ha, irqRaise, submit_irqRaise hacts]
      refine ⟨fun hlow => ?_, fun hsoft => ?_⟩
      · rw [irqRaiseOp, if_pos hlow]
      · rw [irqRaiseOp, if_neg (not_lt.2 hsoft)]
    · have hwf : Instr.wf (.irqPop a k w) = true := by simp [Instr.wf, ha, hk]
      rw [exec_irqPop a k w s hwf, irqPop, submit_irqPop hk hacts]
      refine ⟨fun hno => ?_, fun hmay hzero => ?_, fun hmay hone => ⟨fun hempty => ?_, fun r rest hrec => ?_⟩⟩
      · rw [irqPopOp_denied hno]
      · rw [irqPopOp_of_zero hmay hzero]
      · rw [irqPopOp_of_empty hmay hone hempty]
      · intro c x acked auto
        rw [irqPopOp_of_record hmay hone hrec]
        refine ⟨fun hauto => ?_, fun hauto => ?_⟩
        · rw [if_neg (ne_true_of_eq_false hauto)]
          rfl
        · have hserved : ((b.popped k rest).source r.source).inService ≠ none := by
            have hin : x.inService = some (k, r.seq) := eq_of_beq (Bool.and_eq_true_iff.1 hauto).2
            exact ne_of_eq_of_ne hin (Option.some_ne_none _)
          rw [if_pos hauto, Block.ackSource_of_served hserved]
          rfl
    · have hwf : Instr.wf (.irqSrcWrite a n w) = true := by simp [Instr.wf, ha, hn]
      rw [exec_irqSrcWrite a n w s hwf, irqSrcWrite, submit_irqSrc hn hacts]
  · rw [exec_notifyRepeat s rfl, notifyRepeat_eq hnotified]
    refine ⟨fun hdue => ?_, fun hearly => ?_⟩
    · have hon : (!(b.queueOf 3).isEmpty) = true := by simpa using hqueue
      rw [whenDue_of_due (by rw [hworks, decide_eq_true (p := _ + _ * msTicks ≤ _) hdue, bne_iff_ne.2 hms, hen, hon]; rfl)]
      rfl
    · rw [whenDue_of_notDue (by rw [hworks, decide_eq_false (p := _ + _ * msTicks ≤ _) (not_le.2 hearly)]; rfl)]

end Sys2Proof.Proofs
